-- ==== Sys2Proof/Word.lean ====
section
/-! DEFINITION. The word and byte types and their plainest arithmetic (R5, R7). -/

namespace Sys2Proof

/-- A 32-bit register or core word (R7, R425). -/
abbrev Word := BitVec 32

/-- A byte of a frame, a memory or a message. -/
abbrev Byte := BitVec 8

/-- A list of numbers as bytes, for the constants of a message. -/
def bytesOf (l : List Nat) : List Byte := l.map (BitVec.ofNat 8)

end Sys2Proof
end

