-- ==== Sys2Proof/Syntax.lean ====
section
/-! DEFINITION. The commands of the block: one constructor per row of spec/opcode_table.json. The rows give no
operands; those here are what a happening carries from outside the block (a measured value, a frame, an index, a value
written), DESIGN CHOICE, log entry 1. `t` is the Meridian stamp of the happening (R52); a stamp earlier than the
present count acts as the present count. `port` is a port of R612 and `priv` says that the access addresses the
privileged view. -/

namespace Sys2Proof

/-- What a receiver measured of one UWB frame (R183–R189). -/
structure Reception where
  /-- The SFD was found. -/
  sfd : Bool
  /-- The largest share of full-scale ADC samples in a preamble symbol after the AGC settled, in %. -/
  sat : Nat
  /-- The Meridian instant of tap 0, and the fixed offset from it to RMARKER for the frame's settings, in ticks. -/
  tap0 : Nat
  marker : Nat
  /-- EXP of a capture. -/
  exp : Nat
  /-- The accumulated responses, I and Q by tap. -/
  ipatov : List (Int × Int)
  sts : List (Int × Int)
  /-- STS correlation of each sub-block at the integer first-path tap. -/
  subs : List (Int × Int)
  /-- STS correlation at the first path, in % of the value expected for the measured Ipatov first-path energy. -/
  stsQ : Nat
  /-- Total and first-path power in 0.1 dBm. -/
  rxPwr : Int
  fpPwr : Int
  /-- The token's clock offset from the carrier, in 0.01 ppm. -/
  clkoff : Int
  /-- The payload, and whether its reading delivered poison. -/
  payload : List Byte
  poisoned : Bool
deriving DecidableEq, Repr

/-- One exchange of an antenna-delay calibration (R193): time of flight in 1/16 tick, FP_SNR in 0.5 dB, NLOS. -/
structure CalShot where
  tof : Int
  snr : Nat
  nlos : Bool
deriving DecidableEq, Repr

/-- What the current loop of a channel measured and applied at an update (R76): the measured current in mA and its phase
code, and the AMP and PHASE it arrives at. -/
structure LoopObs where
  ch : Nat
  ma : Nat
  ph : Nat
  amp : Nat
  phase : Nat
deriving DecidableEq, Repr


/-- A member in a MAP (R636): device index, DEVID, hops from the master's down port and from its up port, and the
partition it holds. -/
structure MapMember where
  dev : Nat
  devid : Nat
  down : Option Nat
  up : Option Nat
  part : Option Nat
deriving DecidableEq, Repr

/-- The strap balls as sampled at the release of device reset (R665): STRAP_MASTER, STRAP_DEV2–0, STRAP_BOOT1–0 and
TEST_EN. -/
structure Straps where
  master : Bool
  dev : Nat
  pol : Nat
  testEn : Bool
deriving DecidableEq, Repr
/-- The commands. -/
inductive Instr where
  /-- DEVICE_RESET (R17): Power-on or the external reset input returns every register to its reset value and starts the device. pin: RESET_N caused it, and not a first power-on. -/
  | deviceReset (pin : Bool) (straps : Straps)
  /-- REGISTER_WRITE (R27): A write to a register that has no row of its own is serialised by the register file and applied under its access code. off: the register offset without the view bit; bytes: how many bytes the access covers. -/
  | registerWrite (t port : Nat) (priv : Bool) (off bytes w : Nat)
  /-- REGISTER_LO_READ (R15): A read of the lower word of a two-word value latches the upper word into a shadow. -/
  | registerLoRead (t port : Nat) (priv : Bool) (off : Nat)
  /-- CLR_CNT (R688): A write of CLR_CNT clears every counter of the block. -/
  | clrCnt (t port : Nat) (priv : Bool) (u : Nat)
  /-- LOCK (R11): A write of 1 to a block lock bit freezes its RWL fields until device reset. -/
  | lock (t port : Nat) (priv : Bool) (u : Nat)
  /-- DIE_LINK_PACKET_CRC_FAIL (R22): A die-to-die packet fails its CRC and is retried. rf: the link to the RF die, and not to the mixed-signal die; retry: the packet was a retry. -/
  | dieLinkPacketCrcFail (t : Nat) (rf retry : Bool)
  /-- DIE_LINK_RETRAIN_DONE (R22): The die-to-die link has retrained and the far units pass through unit reset. -/
  | dieLinkRetrainDone (t : Nat) (rf : Bool)
  /-- UNIT_RESET (R32): A write of RST resets a unit: queued requests end with TARGET_RESET and the epoch increments. cmd: the CMD field of the word that holds RST. -/
  | unitReset (t port : Nat) (priv : Bool) (u cmd : Nat)
  /-- UNIT_COMMAND (R31): A write of CMD commands a unit toward RUN, QUIESCE or HALT. -/
  | unitCommand (t port : Nat) (priv : Bool) (u cmd : Nat)
  /-- UNIT_STATE_REACHED (R31): A unit reaches its next stable state, or leaves INIT, and the transition is archived. -/
  | unitStateReached (t u : Nat)
  /-- MISMATCH_TIMEOUT (R36): Reported and commanded states have differed for 10 ms and MISMATCH sets. -/
  | mismatchTimeout (t u : Nat)
  /-- INTER_UNIT_REQUEST (R35): A request between units arrives and is completed with TARGET_RESET when its epoch does not match. srcEpoch: the epoch of the requester; dstEpoch: the epoch of the target that the request carries. -/
  | interUnitRequest (t src dst srcEpoch dstEpoch : Nat)
  /-- UNIT_REPLY (R35): A reply arrives at its requester and is dropped and counted when its epoch is stale. u: the requester; epoch: the epoch of it that the reply carries. -/
  | unitReply (t u epoch : Nat)
  /-- MERIDIAN_WRAP (R45): The 64-bit count wraps to 0, the era increments and civil_offset is increased. The count passes 2^64 and starts from 0. -/
  | meridianWrap
  /-- AON_RATIO_WINDOW (R53): A rolling 1 s window ends and MER_AON_RATIO is updated. -/
  | aonRatioWindow (t ratio : Nat)
  /-- CIVIL_CHECKPOINT (R57): A CKPT period passes and a civil-time checkpoint is written to the shadow region. -/
  | civilCheckpoint (t : Nat)
  /-- TRIM_REQ (R59): A write of MER_TRIM_REQ is judged against the trim budget and accepted or refused. -/
  | trimReq (t : Nat) (us : Int)
  /-- TRIM_SPENT (R62): The slew of an accepted trim is used up. -/
  | trimSpent (t : Nat)
  /-- TIME_NONCE_READ (R63): A read of MER_TIME_NONCE returns a fresh nonce and invalidates the earlier one. -/
  | timeNonceRead (t port : Nat)
  /-- CIVIL_OFFSET_SET (R63): The privileged write of MER_CIVIL_OFFSET_HI carries out an armed time set. lo: the word written to MER_CIVIL_OFFSET_LO before. -/
  | civilOffsetSet (t port : Nat) (priv : Bool) (lo hi : Nat)
  /-- CIVIL_LEAP_SET (R65): The privileged write of MER_CIVIL_LEAP carries out an armed leap set. -/
  | civilLeapSet (t port : Nat) (priv : Bool) (leap : Nat)
  /-- ACQUIRE_ALONE_TIMEOUT (R66): A strapped member stays alone for 100 ms after BLN INIT and moves to REF. -/
  | acquireAloneTimeout (t : Nat)
  /-- LOCK_ACHIEVED (R66): The error has held at or below 20 ps rms for 1 s and QUALITY becomes LOCKED. rms in units of 1/16 tick. -/
  | lockAchieved (t rms : Nat)
  /-- HOLDOVER_ENTRY (R66): No valid exchange has come from the master for 1 ms and QUALITY becomes HOLDOVER. -/
  | holdoverEntry (t : Nat)
  /-- HOLD_LIMIT_EXPIRED (R66): Time in HOLDOVER exceeds HOLD_LIMIT and HOLD_EXPIRED sets. -/
  | holdLimitExpired (t : Nat)
  /-- LOOP_UPDATE (R76): Every LOOP_CYC carrier cycles the current loop corrects AMP and PHASE. z: the zone whose burst runs. -/
  | loopUpdate (t z : Nat) (obs : List LoopObs)
  /-- TRIP (R77): Two consecutive sense samples exceed TRIP_MA and the channel's gates go low. -/
  | trip (t n : Nat)
  /-- TEST_TIMEOUT (R80): A channel in TEST for 10 s returns to OFF. -/
  | testTimeout (t n : Nat)
  /-- CHANNEL_MODE_WRITE (R80): A write of MODE in HEL_CH_CTL sets AUTO, OFF, CLAMP or TEST, or is ignored for a zone channel. -/
  | channelModeWrite (t n mode : Nat)
  /-- HEL_CAL_ALL (R81): A write of CAL_ALL or ALL queues tuning calibration of every channel. -/
  | helCalAll (t : Nat)
  /-- HEL_CAL_ONE (R81): A write of ONE in HEL_CAL_CTL queues tuning calibration of one channel. -/
  | helCalOne (t n : Nat)
  /-- TUNING_CAL_DONE (R82): A channel's tuning calibration ends and its values take effect or are kept on PRECONDITION. amb: ambient current in µA; ofs: ADC offset in LSB; fRes in 10 Hz, q in 0.1, ph in 0.05°. -/
  | tuningCalDone (t n amb : Nat) (ofs : Int) (fRes q : Nat) (ph : Int)
  /-- MEAS_ALL (R89): A write of MEAS_ALL or ALL queues every column at every carrier. -/
  | measAll (t : Nat)
  /-- MEAS_ONE (R89): A write of ONE in HEL_MEAS_CTL queues one column at every carrier. -/
  | measOne (t n : Nat)
  /-- SOLVE_ALL (R90): A write of SOLVE_ALL re-solves every enabled zone. -/
  | solveAll (t : Nat)
  /-- SOLVE_ONE (R90): A write of ONE in HEL_SOLVE_CTL re-solves one zone at every carrier. -/
  | solveOne (t z : Nat)
  /-- HEL_QUAR_CLEAR (R103): A 1 written to a HEL_QUAR bit clears it and starts the release calibration. high: the register is HEL_QUAR_HI; w: the word written. -/
  | helQuarClear (t : Nat) (high : Bool) (w : Nat)
  /-- MEAS_SLOT_GRANT (R91): LFP grants a measurement slot once its channels are free of bursts and listen windows. amb: for each column of the slot in order, the largest ambient current of its measurement set in µA. -/
  | measSlotGrant (t : Nat) (amb : List Nat)
  /-- COLUMN_DONE (R85): A column measurement completes and its impedance terms are computed. v: drive voltage in µV; amps: current of each channel in µA. -/
  | columnDone (t : Nat) (v : Int × Int) (amps : List (Int × Int))
  /-- REMEAS_PERIOD (R89): The REMEAS_PERIOD timer queues every column at every carrier. -/
  | remeasPeriod (t : Nat)
  /-- ZONE_SOLVE_DONE (R101): A zone solve completes with SOLVED or INFEASIBLE and the zone state is updated. -/
  | zoneSolveDone (t : Nat)
  /-- LOCK_GUARD (R97): A coil current exceeds 1.05 × LOCK_MA for a carrier cycle and the burst stops with REG_LIMIT. -/
  | lockGuard (t n : Nat)
  /-- POLL_OWNER_REQUEST (R118): 2 ms before a poll falls due LFP asks SES for an owner session. -/
  | pollOwnerRequest (t e : Nat)
  /-- POLL_DUE (R117): A schedule entry's poll falls due at its Meridian instant. -/
  | pollDue (t e : Nat)
  /-- EXCHANGE_COMMIT (R131): An LF exchange reaches its commit point one carrier cycle before its first gate edge. -/
  | exchangeCommit (t : Nat)
  /-- DIRECTED_WAKE (R119): A session asks LFP for a directed wake and its wake window begins. none: the field is left unnamed. -/
  | directedWake (t n : Nat) (wid rate md fmt : Option Nat)
  /-- WAKE_WINDOW_EXPIRED (R119): The wake window ends without a valid reply and the session completes with TIMEOUT. -/
  | wakeWindowExpired (t n : Nat)
  /-- SOF_DETECTED (R113): An SOF leading edge in the turnaround window starts reception. -/
  | sofDetected (t z : Nat)
  /-- TURNAROUND_EXPIRED (R113): No SOF starts in the turnaround window and the guard cell follows. pow: in-band power over the floor during the window, in dB. -/
  | turnaroundExpired (t z : Nat) (pow : Nat)
  /-- REPLY_RECEIVED (R115): The last body bit is decided and a valid reply is reported to its owner. body: the body bits, bit 0 first; er, viol: erasures and violations; ch: the channel with the highest SNR; snr: SNR over the SOF of each listening channel in ascending order, in 0.25 dB. -/
  | replyReceived (t z body er viol ch : Nat) (snr : List Int)
  /-- DROWN (R126): An exchange is drowned, dropped and its carrier marked tried. er: erasures so far; snr: the least combined SNR of four consecutive cells in 0.25 dB; pow: as in TURNAROUND_EXPIRED. -/
  | drown (t z er : Nat) (snr : Int) (pow : Nat)
  /-- HOP_RESEND (R126): After HOP_GAP the wake is resent on the untried carrier with the lowest noise. -/
  | hopResend (t n : Nat)
  /-- BURST_END (R107): An LF exchange ends at its planned end and its channels stop driving. -/
  | burstEnd (t z : Nat)
  /-- POLL_SKIP (R122): A poll that has waited one full period is skipped and counted. -/
  | pollSkip (t e : Nat)
  /-- LFP_HOP_WRITE (R123): A write of LFP_HOP changes a hop carrier at the end of exchanges using it. -/
  | lfpHopWrite (t k carrier : Nat)
  /-- MONITOR_RUN (R124): Every MON_PERIOD the interference monitor measures NOISE and spurs. noise: by carrier in 0.25 dB; spurs: level in dB and frequency in 0.1 Hz. -/
  | monitorRun (t : Nat) (noise : List Int) (spurs : List (Nat × Nat))
  /-- COIL_FAULT (R128): A coil or sense fault holds for two carrier cycles and the channel is quarantined. kind: 1 OPEN, 2 SHORT, 3 STUCK. -/
  | coilFault (t n kind : Nat)
  /-- STATE_REQUEST (R141): A transceiver owner requests a target state, channel and step. air: the planned airtime in µs. -/
  | stateRequest (t trx owner target ch9 freq step air follow : Nat) (hold : Bool) (mod dev rate : Nat)
  /-- STEP_COMPLETE (R139): A transceiver step reaches its new state exactly the tabled time after it began. lock: the synthesiser reports lock, at the end of a step that waits for it. -/
  | stepComplete (t trx : Nat) (lock : Bool)
  /-- SYNTH_LOCK_TIMEOUT (R140): The lock extension runs out and the transceiver enters FAULT. -/
  | synthLockTimeout (t trx : Nat)
  /-- SYNTH_HOLD_EXPIRED (R145): An unrequested transceiver in SYNTH for SYNTH_HOLD moves to STANDBY. -/
  | synthHoldExpired (t trx : Nat)
  /-- STBY_HOLD_EXPIRED (R145): An unrequested transceiver in STANDBY for STBY_HOLD moves to SLEEP. -/
  | stbyHoldExpired (t trx : Nat)
  /-- PARK (R146): A write of PARK parks the transceiver when it next has no owner. -/
  | park (t trx : Nat) (on : Bool)
  /-- RAPID_BIT_TIMEOUT (R147): After 200 µs in RAPID_BIT the transceiver moves to SYNTH and DBX gets TIMEOUT. -/
  | rapidBitTimeout (t trx : Nat)
  /-- TRANSMISSION_END (R161): The owner ends its frame and the time counted replaces the planned airtime. -/
  | transmissionEnd (t trx : Nat)
  /-- TRANSMISSION_CUT (R161): The ledger reaches the allowance or MAX_TON and the transmission is cut with REG_LIMIT. -/
  | transmissionCut (t trx : Nat)
  /-- UHF_FRAME_RECEIVED (R150): A UHF frame ends, its check is tested, and it is passed to the owner or dropped. syncErr: wrong bits of the sync word; check: the check field received. -/
  | uhfFrameReceived (t trx syncErr : Nat) (payload : List Byte) (check : Nat)
  /-- LEDGER_MINUTE (R162): At each Meridian minute a ledger bin is written and the oldest bin leaves the ring. -/
  | ledgerMinute (t : Nat)
  /-- OWNERSHIP_GRANT (R143): SES grants a transceiver to an owner. -/
  | ownershipGrant (t trx owner : Nat)
  /-- HANDOVER (R143): The present owner hands a transceiver over without changing its state. owner: 0 hands back to nobody. -/
  | handover (t trx owner : Nat)
  /-- RAD_CAL_ALL (R165): A write of ALL in RAD_CAL_CTL queues every transceiver's calibration. -/
  | radCalAll (t : Nat)
  /-- RAD_CAL_ONE (R165): A write of ONE in RAD_CAL_CTL queues one transceiver's calibration. -/
  | radCalOne (t trx : Nat)
  /-- TEMP_CAL_TRIGGER (R165): RF die temperature moves by CAL_DT and queues a calibration. temp: RF die temperature in 0.1 °C. -/
  | tempCalTrigger (t trx : Nat) (temp : Int)
  /-- CAL_ITEM_DONE (R166): A calibration item completes and is stored or kept on PRECONDITION. pre: what was measured of the item's precondition holds; vals: the values measured; rl: return loss in 0.1 dB; temp: RF die temperature in 0.1 °C. -/
  | calItemDone (t trx : Nat) (pre : Bool) (vals : List Int) (rl : Nat) (temp : Int)
  /-- WATCH_CYCLE (R171): In S3 every S3_PERIOD the watch transceiver climbs, listens and sleeps. -/
  | watchCycle (t : Nat)
  /-- EXCHANGE_REQUEST (R177): A session asks Transit for a ranging exchange on an anchor. cap: the request asks for a capture. -/
  | exchangeRequest (t n : Nat) (cap : Bool)
  /-- POLL_COMMIT (R177): SYNTH to TRANSMIT begins for a POLL at its slot start plus offset. -/
  | pollCommit (t trx : Nat)
  /-- RESP_RECEIVED (R183): A RESP frame is received, its first path found and its RX stamp taken. -/
  | respReceived (t trx : Nat) (rx : Reception)
  /-- FINAL_SEND (R180): FINAL is sent at the first grid instant after RESP RX stamp plus REPLY_DLY. -/
  | finalSend (t trx : Nat)
  /-- REPORT_RECEIVED (R175): The token's report arrives, is checked and the time of flight computed. -/
  | reportReceived (t trx : Nat) (rx : Reception)
  /-- NO_FRAME (R190): No preamble is detected in time and the exchange fails with TIMEOUT. -/
  | noFrame (t trx : Nat)
  /-- RETRY (R190): A retryable failure is repeated in the next slot on the same transceiver. -/
  | retry (t trx : Nat)
  /-- PREARM_HOLD_EXPIRED (R199): A session has not reached RANGE within PREARM_HOLD and its pre-arm is handed back. -/
  | prearmHoldExpired (t n : Nat)
  /-- REMOTE_RANGE_TIMEOUT (R203): No remote range result arrives within 5 ms of the planned end. -/
  | remoteRangeTimeout (t n : Nat)
  /-- TRN_CAL_START (R193): A write of START in TRN_CAL_CTL runs N exchanges against the reference token. -/
  | trnCalStart (t : Nat)
  /-- TRN_CAL_DONE (R193): An antenna-delay calibration run ends and stores the bias or reports PRECONDITION. shots: the exchanges that completed with OK, of those the run made. -/
  | trnCalDone (t : Nat) (shots : List CalShot)
  /-- ANTENNA_DELAY_WRITE (R192): A write of USER in TRN_TRX_ADLY stores the user delay in the Plate store. rx: the RX delay, else the TX delay. -/
  | antennaDelayWrite (t trx : Nat) (rx : Bool) (v : Int)
  /-- BOUND_REQUEST (R208): SES asks DBX to bound a session on BOUND_TRX. -/
  | boundRequest (t n : Nat)
  /-- VECTORS_LOADED (R209): KCE writes the two response vectors into the DBX response store. -/
  | vectorsLoaded (t n : Nat)
  /-- PRECOMP_HOLD_EXPIRED (R212): A bound block passes PRECOMP_HOLD without BOUND and is burned. -/
  | precompHoldExpired (t n : Nat)
  /-- BURN_FREE (R212): A write of BURN_FREE burns every block not bound to a session in BOUND. -/
  | burnFree (t : Nat)
  /-- RAPID_BIT_COMMIT (R216): DBX's SYNTH to RAPID_BIT step begins at the exchange's commit point. poison: the read of the block delivers poison. -/
  | rapidBitCommit (t trx : Nat) (poison : Bool)
  /-- SEARCH_WINDOW_CLOSE (R216): The search window of the last challenge closes and DBX asks for SYNTH. obs: for each challenge, rtt in ticks and polarity of the first burst detected, or none. -/
  | searchWindowClose (t trx : Nat) (obs : List (Option (Int × Bool)))
  /-- BOUND_DECISION (R219): DBX classifies the bits and delivers its decision. poison: the read of the response store delivers poison. -/
  | boundDecision (t n : Nat) (poison : Bool)
  /-- DBX_RETRY (R220): A retryable exchange is repeated with a fresh block 100 µs after RAPID_BIT. -/
  | dbxRetry (t trx : Nat)
  /-- LOCATE_REQUEST (R234): A session asks Almucantar for a position solve over its ranges. poisoned: an input delivers poison. -/
  | locateRequest (t n : Nat) (poisoned : Bool)
  /-- SOLVE_DONE (R242): A solve completes and its decision record is delivered. us: the service time. -/
  | solveDone (t us : Nat)
  /-- REMOTE_SOLVE_REQUEST (R249): A member's solve request reaches the master's queue. payload: zone, poison, count in 2 bytes, TABLE_SEQ in 4 bytes, and the range entries. -/
  | remoteSolveRequest (t dev tag : Nat) (payload : List Byte)
  /-- SOLVE_TIMEOUT (R251): No master result within SOLVE_TO: solve locally or complete with TIMEOUT. -/
  | solveTimeout (t n : Nat)
  /-- SESSION_OPEN (R263): SES opens a session of kind POLL, DIRECTED, BUTTON or WATCH on a free queue. kind: 0 POLL for schedule entry sel; 1 DIRECTED of program sel, asked by a core; 2 BUTTON under program sel with a payload; 3 WATCH. -/
  | sessionOpen (t kind sel core : Nat) (frame : List Byte)
  /-- LOOKUP_RESULT (R269): The Ephemeris lookup result arrives and the session moves to CHALLENGE or ends. -/
  | lookupResult (t n : Nat)
  /-- CHECK_VALUE_RESULT (R269): KCE's check of the token's value arrives and CHALLENGE ends. -/
  | checkValueResult (t n : Nat)
  /-- RANGE_RESULT (R266): A ranging result reaches the session and is stored in its range area. -/
  | rangeResult (t n : Nat)
  /-- DEADLINE_EXPIRED (R270): A state DEADLINE passes and the session ends with TIMEOUT or NOT_VERIFIED. -/
  | deadlineExpired (t n : Nat)
  /-- SESSION_MAX_EXPIRED (R270): SESSION_MAX passes before COMMITTED and the session ends with TIMEOUT. -/
  | sessionMaxExpired (t n : Nat)
  /-- SES_CANCEL (R274): A write of SES_CANCEL with a matching GEN cancels the session. -/
  | sesCancel (t n gen : Nat)
  /-- CREDIT_WAIT_EXPIRED (R287): A class 2 credit wait exceeds CREDIT_WAIT and the session ends with CAPACITY. -/
  | creditWaitExpired (t n : Nat)
  /-- SLICE_MAX_EXPIRED (R279): A core step runs longer than SLICE_MAX; the core is stopped and the session ends. -/
  | sliceMaxExpired (t core : Nat)
  /-- CREDIT_GRANT (R286): Returned credits are granted to waiting claims in drain order. -/
  | creditGrant (t : Nat)
  /-- COMPLETION_CONSUME (R284): SES consumes a completion held in CPL and frees its slot and credit. -/
  | completionConsume (t : Nat)
  /-- STEP_DISPATCH (R464): A ready script step is dispatched to a free core and binds it. -/
  | stepDispatch (t core n : Nat)
  /-- POOL_SIZE_WRITE (R289): A write of a pool size takes effect at once or as credits return. -/
  | poolSizeWrite (t k size : Nat)
  /-- BUTTON_FRAME (R295): A UHF button frame is received, checked for form and mapped to a program. t: the stamp of the frame's sync; payload: as R150 carries it, its length byte taken off. -/
  | buttonFrame (t trx : Nat) (payload : List Byte)
  /-- PER_TOKEN_UPDATE_COMMIT (R309): The per-token word update commits and the session's record may be written. -/
  | perTokenUpdateCommit (t n : Nat)
  /-- PER_TOKEN_UPDATE_TIMEOUT (R309): The per-token update has not committed in 5 ms and the session ends with TIMEOUT. -/
  | perTokenUpdateTimeout (t n : Nat)
  /-- GRANT (R466): A script's GRANT call sets DEC and starts the target check and the writes of R313. -/
  | grant (t core : Nat)
  /-- REFUSE (R466): A script's REFUSE call ends the session ABORTED with its code. -/
  | refuse (t core code : Nat)
  /-- CANCEL (R466): A script's CANCEL call cancels its session under R274. -/
  | cancel (t core code : Nat)
  /-- DECISION_COMMITTED (R273): The decision record reaches its commit point and COMMITTED is set. -/
  | decisionCommitted (t n : Nat)
  /-- RELEASE_ACTION (R313): After confirmation the output is asserted, the node command or the permit sent. e: the release-table entry. -/
  | releaseAction (t e : Nat)
  /-- SENSE_CHANGE (R320): A sense input state change is decided after its debounce. ohm: loop resistance in units of 10 Ω, equal in the samples of its debounce; closed: the contact's state. -/
  | senseChange (t o ohm : Nat) (closed : Bool)
  /-- OUTPUT_FAULT (R321): An output or supervised sense fault puts the output in FAULT and ends its releases. short: the driver's overcurrent shutdown; else a load current below 20 mA in three samples. -/
  | outputFault (t o : Nat) (short : Bool)
  /-- PULSE_END (R319): PULSE_MS expires and a PULSE output deasserts. -/
  | pulseEnd (t o : Nat)
  /-- OPEN_LOAD_TEST (R319): Every 100 ms a 2 mA test current checks a deasserted supervised output. load: the response shows a load. -/
  | openLoadTest (t o : Nat) (load : Bool)
  /-- RELEASE_TIMEOUT (R316): The release timeout expires and the release session ends with TIMEOUT. -/
  | releaseTimeout (t e : Nat)
  /-- CLOSING_RECORD_COMMIT (R317): The closing record commits, the SHU credit returns and the session is CLOSED. -/
  | closingRecordCommit (t e : Nat)
  /-- QUEUED_RELEASE_START (R318): A queued release starts REL_GAP after the previous release session ends. -/
  | queuedReleaseStart (t o : Nat)
  /-- CLR_FAULT (R321): A write of CLR_FAULT clears an output FAULT whose condition has been absent 1 s. -/
  | clrFault (t o : Nat)
  /-- TEST (R322): A privileged write of TEST writes a test record and then pulses the output. -/
  | test (t port : Nat) (priv : Bool) (o : Nat)
  /-- OPEN_RELEASE_RESOLVE (R324): After recall each open-release entry is closed with POWER or cleared. -/
  | openReleaseResolve (t entry : Nat)
  /-- NODE_ACK_TIMEOUT (R329): NODE_ACK passes without ACK: the command is repeated or the release ends NO_ACK. -/
  | nodeAckTimeout (t e : Nat)
  /-- ACK (R328): A lock node's ACK arrives for the running release. -/
  | ack (t bus id : Nat) (data : List Byte)
  /-- PASSAGE_REPORT (R328): A node's PASSAGE frame ends its release session with OK. -/
  | passageReport (t bus id : Nat) (data : List Byte)
  /-- NODE_REFUSE (R328): A node's REFUSE frame ends its release session with DENIED. -/
  | nodeRefuse (t bus id : Nat) (data : List Byte)
  /-- BUS_OFF (R329): A CAN FD controller goes bus-off and every release on that bus ends with WIRE_BREAK. errs: the errors on the bus since the last event, as LAST_ERR codes, oldest first. -/
  | busOff (t bus : Nat) (errs : List Nat)
  /-- RESTART (R325): A write of RESTART starts bus-off recovery. -/
  | restart (t bus : Nat)
  /-- PERMIT_RESEND (R332): A silent permit window passes and the permit is sent again after PERMIT_GAP. -/
  | permitResend (t e : Nat)
  /-- STATUS_QUERY (R332): Every PERMIT_POLL after ACCEPTED Shutter sends a status query. -/
  | statusQuery (t e : Nat)
  /-- VEHICLE_REPLY (R330): A vehicle-unit reply of REFUSED, ACCEPTED or STARTED arrives. -/
  | vehicleReply (t e : Nat) (frame : List Byte)
  /-- LOOKUP (R341): The holder judges an IDENT lookup and takes the claim. n: the session. dram: bit 0 set when the first bucket page fails R357 as it is read, bit 1 for the second. -/
  | lookup (t n dram : Nat)
  /-- PAGE_FETCH_DONE (R357): A page fetched from flash is verified, or marked BAD after two failures. data: the page's 1,024 bytes; line: its line of 16 leaf values. -/
  | pageFetchDone (t page : Nat) (data line : List Byte)
  /-- ENROL_TOKEN (R347): A script enrols a new record through a present token. inside: SC_ARG3 names 128 bytes wholly in X or Y; record: those bytes. -/
  | enrolToken (t core : Nat) (inside : Bool) (record : List Byte)
  /-- ENROL_CODE (R348): An enrolment code is submitted and checked against its template. -/
  | enrolCode (t token kv template expDay num digits : Nat)
  /-- REVOKE (R350): A token is revoked in DRAM at once and journalled. core 0–15: the script's session call; 16 and above: the REVOKE of an accepted envelope. -/
  | revoke (t core token : Nat)
  /-- SUSPEND (R346): An ACTIVE record becomes SUSPENDED. -/
  | suspend (t : Nat)
  /-- RESUME (R346): A SUSPENDED record becomes ACTIVE. -/
  | resume (t : Nat)
  /-- ATTR (R346): Every field except TOKEN_ID is replaced and the per-token word optionally set. -/
  | attr (t : Nat)
  /-- REMOVE (R346): A slot becomes EMPTY and its per-token word is zeroed. -/
  | remove (t : Nat)
  /-- ADOPT (R360): A commit record is written for an image in flash and the store reloaded. -/
  | adopt (t : Nat)
  /-- FORMAT (R360): An empty image of SEQ 1 is written and committed. -/
  | format (t : Nat)
  /-- JOURNAL_COMMIT (R353): A journal entry's COMMIT commits and the change takes effect. -/
  | journalCommit (t jseq : Nat)
  /-- FOLLOW_ON_DONE (R354): The follow-on writes of an entry commit and WDONE is written. -/
  | followOnDone (t jseq : Nat)
  /-- CHANGE_WAIT_EXPIRED (R352): A change waits beyond CHANGE_WAIT and completes with NOT_VERIFIED. -/
  | changeWaitExpired (t : Nat)
  /-- ROOT_CHECK (R361): The copied L1 is hashed to the root and the store is accepted or REJECTED. staged: the header taken has STAGED nonzero; l1: the 128 KiB copied. -/
  | rootCheck (t : Nat) (staged : Bool) (l1 : List Byte)
  /-- SWEEP_PAGE (R361): A page is copied, checked, brought up to date by the journal and verified. As PAGE_FETCH_DONE, for the sweep's next page. -/
  | sweepPage (t : Nat) (data line : List Byte)
  /-- COMPACTION_START (R363): The journal threshold or COMPACT_MIN starts a compaction. -/
  | compactionStart (t : Nat)
  /-- COMPACT_NOW (R363): A write of COMPACT_NOW starts a compaction. -/
  | compactNow (t : Nat)
  /-- COMPACTION_STEP_DONE (R364): A step of a compaction completes and the next begins. code: how the flash work of the step ended. -/
  | compactionStepDone (t code : Nat)
  /-- FIND (R345): A write of EPH_FIND searches for a record without a claim. -/
  | find (t token : Nat)
  /-- ENVELOPE_SUBMIT (R396): A write of GO in DOM_ENV_SUBMIT queues the envelope in a window slot on port 0. -/
  | envelopeSubmit (t slot : Nat)
  /-- VENDOR (R373): A VENDOR envelope is verified and moves BLANK to VENDOR. -/
  | vendor (t : Nat)
  /-- COMMISSION (R373): A COMMISSION envelope installs KAU, KCOMM and FK and moves to COMMISSIONED. -/
  | commission (t : Nat)
  /-- FIELD (R373): A FIELD envelope destroys KCOMM and moves to FIELD. -/
  | field (t : Nat)
  /-- DECOMMISSION (R379): A DECOMMISSION envelope destroys every key and moves to DECOMMISSIONED. -/
  | decommission (t : Nat)
  /-- MIGRATE (R401): A MIGRATE envelope wraps the keys under NEW_DM into the other bank. -/
  | migrate (t : Nat)
  /-- REKEY (R402): A REKEY envelope replaces FK at its commit. -/
  | rekey (t : Nat)
  /-- POLICY (R398): A POLICY envelope sets tamper responses and clears latches. -/
  | policy (t : Nat)
  /-- LOCK_SET (R155): A LOCK_SET envelope replaces the regulatory lock set as a whole. -/
  | lockSet (t : Nat)
  /-- EPH_TEMPLATE (R348): An EPH_TEMPLATE envelope sets a template and its window. -/
  | ephTemplate (t : Nat)
  /-- TIME (R63): A TIME envelope is verified and arms a time set. -/
  | timeEnv (t : Nat)
  /-- VIEW (R612): A VIEW envelope opens a privileged-view grant for one port. -/
  | view (t : Nat)
  /-- MONITOR (R659): A MONITOR envelope opens the Kolryn monitor at a level. -/
  | monitor (t : Nat)
  /-- UNIT (R400): A UNIT envelope commands DOM's state or resets DOM. -/
  | unitEnv (t : Nat)
  /-- PENDING_TRANSITION_RESOLVE (R375): At start-up a pending transition is finished or repeated from step 3. -/
  | pendingTransitionResolve (t : Nat)
  /-- DOM_NONCE_READ (R395): A read of DOM_NONCE adds a fresh live nonce. -/
  | domNonceRead (t port : Nat)
  /-- ATTESTATION_REQUEST (R388): A write of GO in DOM_ATT_REQ writes an attestation record into a slot. -/
  | attestationRequest (t : Nat) (key : Bool) (gslot wslot : Nat)
  /-- EXPORT_DONE (R389): A write of EXPORT_DONE closes the key export. -/
  | exportDone (t : Nat)
  /-- TAMPER_DETECT (R397): A tamper sensor decides its condition; it is latched and its response applied. live: the sensors whose condition is present now, one bit each. -/
  | tamperDetect (t live : Nat)
  /-- REMASK (R382): Every 1 ms the working-key shares are re-masked. -/
  | remask (t : Nat)
  /-- KEY_DERIVATION (R376): The Dome derives a key by SP 800-108 for a permitted requester. cls as in DOM_WK_STAT; n: the session, for a session's key. -/
  | keyDerivation (t cls unit n : Nat)
  /-- WORKING_KEY_LOAD (R381): The Dome loads a key into the working-key register with a use count. -/
  | workingKeyLoad (t cls unit n uses : Nat)
  /-- KEYGEN (R387): A script asks the Dome to generate a key into a slot. -/
  | keygen (t core : Nat) (k256 nextReset : Bool) (uses : Nat)
  /-- KEYDEL (R387): A script destroys a generated key it created. -/
  | keydel (t core slot : Nat)
  /-- VIEW_GRANT_END (R391): A VIEW grant's DUR_S expires and the grant ends. -/
  | viewGrantEnd (t port : Nat)
  /-- KCE_REQUEST (R404): A request arrives on a KCE lane at a priority level. On lane 0, n is the session and good says that the token's answer is right; on lane 7, n is the core; the other lanes take level, blocks, key width and kind. -/
  | kceRequest (t lane n level blocks : Nat) (k256 verify good : Bool)
  /-- KCE_MESSAGE_DONE (R408): A CMAC message completes and its tag or MATCH is delivered. fault: the datapaths differ at the block; poison: the message read delivers poison. -/
  | kceMessageDone (t block : Nat) (fault poison : Bool)
  /-- KCE_AGING (R405): A request waiting AGE_MS rises one level. q: place in the queue. -/
  | kceAging (t q : Nat)
  /-- MASK_WAIT_TIMEOUT (R406): A mask reseed wait reaches 100 µs and the message completes with RNG_HEALTH. -/
  | maskWaitTimeout (t : Nat)
  /-- KAT_RUN (R413): A write of KAT_RUN runs the known-answer tests. -/
  | katRun (t : Nat)
  /-- ALARM_TEST (R413): A write of ALARM_TEST forces a mismatch in the next message. -/
  | alarmTest (t : Nat)
  /-- HEALTH_FAIL (R416): A noise-source health test fails, the source is FAILED and the pool flushed. kind: 1 repetition count, 2 adaptive proportion, 3 start-up. -/
  | healthFail (t kind inst : Nat)
  /-- SOURCE_RESTART (R416): 10 ms after a failure the noise source restarts. -/
  | sourceRestart (t : Nat)
  /-- STARTUP_TEST_DONE (R415): 4,096 raw bits pass the start-up test and conditioning begins. -/
  | startupTestDone (t : Nat)
  /-- BLOCK_CONDITIONED (R414): 512 raw bits are conditioned into one pool block. -/
  | blockConditioned (t : Nat)
  /-- STATS_WINDOW (R417): A window of 2^20 raw bits ends and bias and correlation are updated. The window's estimates, the raw rate and the runs by length. -/
  | statsWindow (t : Nat) (bias corr : Int) (kbps : Nat) (hist : List Nat)
  /-- GENERATE_REQUEST (R418): An instance generates output for its client. For instance 5, n is the session. -/
  | generateRequest (t inst n bytes : Nat)
  /-- RESEED (R418): An instance with a reseed due reseeds from pool blocks. -/
  | reseed (t inst : Nat)
  /-- RESEED_ALL (R418): A write of RESEED_ALL makes a reseed due on every instance. -/
  | reseedAll (t : Nat)
  /-- RNG_HOST_DATA_READ (R421): A read of RNG_HOST_DATA returns the next FIFO word or counts an underrun. -/
  | rngHostDataRead (t port : Nat)
  /-- RNG_HOST_BULK (R421): A write of GO fills a window slot with random bytes. kib as the field holds it, KiB minus 1. -/
  | rngHostBulk (t slot kib : Nat)
  /-- TEST_PATTERN (R422): A write of TEST_PATTERN switches the source to the LFSR in BLANK. -/
  | testPattern (t : Nat) (on : Bool)
  /-- RAW_CAPTURE (R422): A write of RAW_CAPTURE copies raw bits into window slots. -/
  | rawCapture (t : Nat) (on : Bool) (slot count : Nat)
  /-- ADD (R433): rd = ra + rb with add flags. -/
  | add (t core rd ra rb : Nat)
  /-- ADDC (R433): rd = ra + rb + C. -/
  | addc (t core rd ra rb : Nat)
  /-- SUB (R433): rd = ra − rb with sub flags. -/
  | sub (t core rd ra rb : Nat)
  /-- SUBB (R433): rd = ra + ~rb + C. -/
  | subb (t core rd ra rb : Nat)
  /-- NEG (R435): rd = 0 − ra. -/
  | neg (t core rd ra : Nat)
  /-- CMP (R433): Flags of ra − rb. -/
  | cmp (t core ra rb : Nat)
  /-- AND (R433): rd = ra & rb. -/
  | andR (t core rd ra rb : Nat)
  /-- OR (R433): rd = ra | rb. -/
  | orR (t core rd ra rb : Nat)
  /-- XOR (R433): rd = ra ^ rb. -/
  | xorR (t core rd ra rb : Nat)
  /-- ANDN (R433): rd = ra & ~rb. -/
  | andn (t core rd ra rb : Nat)
  /-- NOT (R433): rd = ~ra. -/
  | notR (t core rd ra : Nat)
  /-- MOV (R433): rd = ra. -/
  | mov (t core rd ra : Nat)
  /-- SHL (R437): Shift left by rb[5:0]. -/
  | shl (t core rd ra rb : Nat)
  /-- SHR (R437): Logical shift right by rb[5:0]. -/
  | shr (t core rd ra rb : Nat)
  /-- SAR (R437): Arithmetic shift right by rb[5:0]. -/
  | sar (t core rd ra rb : Nat)
  /-- ROR (R437): Rotate right by rb[5:0]. -/
  | ror (t core rd ra rb : Nat)
  /-- MUL (R433): Low 32 bits of the signed product. -/
  | mul (t core rd ra rb : Nat)
  /-- MULH (R433): High 32 bits of the signed product. -/
  | mulh (t core rd ra rb : Nat)
  /-- MULHU (R433): High 32 bits of the unsigned product. -/
  | mulhu (t core rd ra rb : Nat)
  /-- DIVS (R436): Signed quotient, or DIVZERO when trapped. -/
  | divs (t core rd ra rb : Nat)
  /-- DIVU (R436): Unsigned quotient. -/
  | divu (t core rd ra rb : Nat)
  /-- REMS (R436): Signed remainder. -/
  | rems (t core rd ra rb : Nat)
  /-- REMU (R436): Unsigned remainder. -/
  | remu (t core rd ra rb : Nat)
  /-- MIN (R433): Signed minimum. -/
  | min (t core rd ra rb : Nat)
  /-- MAX (R433): Signed maximum. -/
  | max (t core rd ra rb : Nat)
  /-- MINU (R433): Unsigned minimum. -/
  | minu (t core rd ra rb : Nat)
  /-- MAXU (R433): Unsigned maximum. -/
  | maxu (t core rd ra rb : Nat)
  /-- ABS (R433): Absolute value. -/
  | abs (t core rd ra : Nat)
  /-- CLZ (R433): Count of leading zero bits. -/
  | clz (t core rd ra : Nat)
  /-- SEXTB (R433): Sign-extend the low byte. -/
  | sextb (t core rd ra : Nat)
  /-- SEXTH (R433): Sign-extend the low halfword. -/
  | sexth (t core rd ra : Nat)
  /-- ZEXTB (R433): Zero-extend the low byte. -/
  | zextb (t core rd ra : Nat)
  /-- ZEXTH (R433): Zero-extend the low halfword. -/
  | zexth (t core rd ra : Nat)
  /-- BSWAP (R433): Reverse the bytes of ra. -/
  | bswap (t core rd ra : Nat)
  /-- TST (R433): Flags of ra & rb. -/
  | tst (t core ra rb : Nat)
  /-- ADDI (R434): rd = ra + sx(imm18). -/
  | addi (t core rd ra imm : Nat)
  /-- ANDI (R434): rd = ra & zx(imm18). -/
  | andi (t core rd ra imm : Nat)
  /-- ORI (R434): rd = ra | zx(imm18). -/
  | ori (t core rd ra imm : Nat)
  /-- XORI (R434): rd = ra ^ zx(imm18). -/
  | xori (t core rd ra imm : Nat)
  /-- CMPI (R434): Flags of ra − sx(imm18). -/
  | cmpi (t core ra imm : Nat)
  /-- SHI_SHL (R434): SHI with kind 0: shift left by immediate. -/
  | shiShl (t core rd ra n : Nat)
  /-- SHI_SHR (R434): SHI with kind 1: logical shift right by immediate. -/
  | shiShr (t core rd ra n : Nat)
  /-- SHI_SAR (R434): SHI with kind 2: arithmetic shift right by immediate. -/
  | shiSar (t core rd ra n : Nat)
  /-- SHI_ROR (R434): SHI with kind 3: rotate right by immediate. -/
  | shiRor (t core rd ra n : Nat)
  /-- MOVI (R434): rd = sx(imm22). -/
  | movi (t core rd imm : Nat)
  /-- LUI (R434): rd = imm16 << 16. -/
  | lui (t core rd imm : Nat)
  /-- LDW (R438): Load a word. -/
  | ldw (t core rd ra imm : Nat)
  /-- LDH (R438): Load a sign-extended halfword. -/
  | ldh (t core rd ra imm : Nat)
  /-- LDHU (R438): Load a zero-extended halfword. -/
  | ldhu (t core rd ra imm : Nat)
  /-- LDB (R438): Load a sign-extended byte. -/
  | ldb (t core rd ra imm : Nat)
  /-- LDBU (R438): Load a zero-extended byte. -/
  | ldbu (t core rd ra imm : Nat)
  /-- STW (R438): Store a word. -/
  | stw (t core rd ra imm : Nat)
  /-- STH (R438): Store a halfword through the merge buffer. -/
  | sth (t core rd ra imm : Nat)
  /-- STB (R438): Store a byte through the merge buffer. -/
  | stb (t core rd ra imm : Nat)
  /-- LDWP (R438): Load a word and post-increment the pointer. -/
  | ldwp (t core rd ra imm : Nat)
  /-- STWP (R438): Store a word and post-increment the pointer. -/
  | stwp (t core rd ra imm : Nat)
  /-- PUSHM (R439): Push the masked registers onto the stack window. -/
  | pushm (t core mask : Nat)
  /-- POPM (R439): Pop the masked registers from the stack window. -/
  | popm (t core mask : Nat)
  /-- IN (R440): Read an I/O port into rd. -/
  | inPort (t core rd ra : Nat) (abs : Bool) (imm : Nat)
  /-- OUT (R440): Write rd to an I/O port. -/
  | outPort (t core rd ra : Nat) (abs : Bool) (imm : Nat)
  /-- B_COND (R443): Branch when the condition holds. -/
  | bCond (t core cond imm : Nat)
  /-- JMP (R442): Relative jump. -/
  | jmp (t core imm : Nat)
  /-- CALL (R442): Relative call setting g15. -/
  | call (t core imm : Nat)
  /-- JR (R442): Jump to ra. -/
  | jr (t core ra : Nat)
  /-- CALLR (R442): Call to ra setting g15. -/
  | callr (t core ra : Nat)
  /-- NOP (R444): Do nothing. -/
  | nop (t core : Nat)
  /-- DONE (R465): YIELD with g0 0 ends the step, aborting with DENIED when no decision was made. -/
  | doneStep (t core : Nat)
  /-- AGAIN (R465): YIELD with g0 1 ends the step and queues it again. -/
  | again (t core : Nat)
  /-- WFI (R444): Stall until an enabled interrupt line is asserted. -/
  | wfi (t core : Nat)
  /-- RETE (R459): Return from an exception, restoring PC and PSW. -/
  | rete (t core : Nat)
  /-- TRAP (R444): Raise TRAP with DETAIL imm8. -/
  | trap (t core imm8 : Nat)
  /-- BRK (R444): Enter debug halt, or raise BRK. -/
  | brk (t core : Nat)
  /-- FENCE (R444): Order earlier stores and OUTs before later accesses. -/
  | fence (t core : Nat)
  /-- REP (R445): Repeat the next instruction a count of times. -/
  | rep (t core : Nat) (form : Bool) (ra count : Nat)
  /-- MAC (R447): MACXY op 0: accumulate the X-by-Y product and step the pointers. -/
  | mac (t core : Nat) (acc : Bool) (px py mx my : Nat)
  /-- MSU (R447): MACXY op 1: subtract the X-by-Y product. -/
  | msu (t core : Nat) (acc : Bool) (px py mx my : Nat)
  /-- MPY (R447): MACXY op 2: load the X-by-Y product. -/
  | mpy (t core : Nat) (acc : Bool) (px py mx my : Nat)
  /-- MACU (R447): MACXY op 3: accumulate the unsigned product. -/
  | macu (t core : Nat) (acc : Bool) (px py mx my : Nat)
  /-- MACR (R448): Accumulate sx(ra) × sx(rb). -/
  | macr (t core : Nat) (acc : Bool) (ra rb : Nat)
  /-- MSUR (R448): Subtract sx(ra) × sx(rb). -/
  | msur (t core : Nat) (acc : Bool) (ra rb : Nat)
  /-- MPYR (R448): Load sx(ra) × sx(rb). -/
  | mpyr (t core : Nat) (acc : Bool) (ra rb : Nat)
  /-- MACUR (R448): Accumulate zx(ra) × zx(rb). -/
  | macur (t core : Nat) (acc : Bool) (ra rb : Nat)
  /-- ACLR (R448): Clear an accumulator. -/
  | aclr (t core : Nat) (acc : Bool)
  /-- AMOV (R448): Copy the other accumulator. -/
  | amov (t core : Nat) (acc : Bool)
  /-- AADD (R448): Add or subtract the other accumulator, as opt selects. -/
  | aadd (t core : Nat) (acc opt : Bool)
  /-- ASH (R448): Shift an accumulator right or left, as opt selects. -/
  | ash (t core : Nat) (acc opt : Bool) (imm6 : Nat)
  /-- AEXT (R449): Extract a saturated 32-bit result from an accumulator. -/
  | aext (t core rd : Nat) (acc opt : Bool) (imm6 : Nat)
  /-- ARD (R448): Read a part of an accumulator. -/
  | ard (t core rd : Nat) (acc : Bool) (imm6 : Nat)
  /-- AWR (R448): Write a part of an accumulator. -/
  | awr (t core : Nat) (acc : Bool) (ra imm6 : Nat)
  /-- WAIT (R450): Stall until the tag's completion word is available. -/
  | wait (t core cp rd ra : Nat)
  /-- POLL (R450): Return the tag's completion word, or BUSY. -/
  | poll (t core cp rd ra : Nat)
  /-- CP_CANCEL (R452): Cancel and retire an outstanding coprocessor tag. -/
  | cpCancel (t core cp rd ra : Nat)
  /-- DATA_TX (R473): CP0 sends a DATA frame. func: 0x0100, or an issue func that CP0 does not define (it completes with DENIED under R450). -/
  | dataTx (t core rd ra rb func : Nat)
  /-- DATA_RX (R473): CP0 receives a DATA frame within WIN_US. -/
  | dataRx (t core rd ra rb : Nat)
  /-- COMPUTE (R403): CP1 computes a CMAC tag under a generated key. func: 0x0100, or an issue func that CP1 does not define (it completes with DENIED under R450). -/
  | compute (t core rd ra rb func : Nat)
  /-- VERIFY (R403): CP1 verifies an expected tag in constant time. -/
  | verify (t core rd ra rb : Nat)
  /-- SOLVE (R252): CP2 runs a position solve for the core only. func: 0x0100, or an issue func that CP2 does not define (it completes with DENIED under R450). -/
  | solve (t core rd ra rb func : Nat)
  /-- GET (R473): CP3 draws random bytes from instance 8. func: 0x0100, or an issue func that CP3 does not define (it completes with DENIED under R450). -/
  | get (t core rd ra rb func : Nat)
  /-- CP_COMPLETION (R450): A coprocessor request completes and its result and completion word become visible. code, detail, data: of CP0, how the frame's sending or receiving ended and the result area; ignored for CP1-CP3, whose units hold the outcome. -/
  | cpCompletion (t core cp code detail : Nat) (data : List (BitVec 8))
  /-- INTERRUPT (R457): An enabled pending interrupt line is taken between instructions. -/
  | interrupt (t core : Nat)
  /-- TIMER_WRITE (R471): An OUT to TIMER starts or stops the core timer. -/
  | timerWrite (t core v : Nat)
  /-- TIMER_EXPIRED (R471): The core timer expires and asserts line 0. -/
  | timerExpired (t core : Nat)
  /-- SLICE_WARNING (R471): A step reaches three quarters of SLICE_MAX and asserts line 4. -/
  | sliceWarning (t core : Nat)
  /-- MBOX_IN_WRITE (R471): A write of AST_MBOX_IN delivers a word to the core and asserts line 1. -/
  | mboxInWrite (t port : Nat) (priv : Bool) (core v : Nat)
  /-- MBOX_IN_READ (R471): An IN of MBOX_IN reads the word and deasserts line 1. -/
  | mboxInRead (t core : Nat)
  /-- ENV_ADDR (R470): An OUT to ENV_ADDR submits an envelope on port 4. -/
  | envAddr (t core a : Nat)
  /-- REG_DATA (R470): An IN or OUT of REG_DATA reaches the register file as port 4. write: an OUT of v; else an IN. -/
  | regData (t core : Nat) (write : Bool) (v : Nat)
  /-- RANGE_DATA (R468): An IN of RANGE_DATA returns a range-area word and advances RANGE_IDX. -/
  | rangeData (t core : Nat)
  /-- FAULT_RELOAD_DONE (R474): RELOAD of a faulted or stopped core completes and it returns to IDLE. -/
  | faultReloadDone (t core : Nat)
  /-- RELEASE (R474): A write of RELEASE frees a held FAULT or an OFFLINE core. -/
  | release (t port : Nat) (priv : Bool) (core : Nat)
  /-- SCRUB (R498): The scrubber reads the next codeword and corrects or poisons it. find: 0 nothing new, 1 a correctable error at bitNo, 2 an uncorrectable one; hard: it recurs on the second read; bank, row: where the DRAM codeword lies; copyBad: the internal copy of the code bundle is poisoned there. -/
  | scrub (t find bitNo bank row : Nat) (hard copyBad : Bool)
  /-- MERGE_DRAIN (R497): A merge-buffer entry idle for MERGE_IDLE cycles drains to its array. arr: an array, or 0x40 for the DRAM. -/
  | mergeDrain (t arr : Nat)
  /-- FLIP_ARM (R503): A write of ARM arms the flip mask for the next matching write. w: the word written to MEM_FLIP_CTL. -/
  | flipArm (t port : Nat) (priv : Bool) (w : Nat)
  /-- BUCKET_LEAK (R501): Every LEAK_MS each bucket loses 1. -/
  | bucketLeak (t : Nat)
  /-- PAGE_OPERATION_START (R510): A queued page operation starts when its bank is free and VHOLD is good. mv: VHOLD in mV at the start. -/
  | pageOperationStart (t bank mv : Nat)
  /-- PAGE_OPERATION_END (R513): A page operation ends and its write is confirmed. -/
  | pageOperationEnd (t bank : Nat)
  /-- RECALL_DONE (R520): Recall ends, the archive head is found and P values are delivered. -/
  | recallDone (t : Nat)
  /-- MARGIN_READ (R523): The margin pass reads a word at tightened margins and refreshes it. find: 0 the word reads the same, 1 a tightened margin reads it differently, 2 it needs correction, 3 it is uncorrectable. -/
  | marginRead (t find : Nat)
  /-- MARGIN_NOW (R523): A write of MARGIN_NOW starts a margin pass. -/
  | marginNow (t : Nat)
  /-- PLT_ACC_READ (R516): A GO with WRITE 0 reads one Plate store word through the register port. find: 0 sound, 2 the word needs correction, 3 it is uncorrectable. -/
  | pltAccRead (t port find : Nat)
  /-- PLT_ACC_WRITE (R516): A GO with WRITE 1 writes one Plate store word through the register port. -/
  | pltAccWrite (t port : Nat) (priv : Bool)
  /-- VHOLD_WAIT_TIMEOUT (R519): A register-port write waits 100 ms for VHOLD and completes with PRECONDITION. -/
  | vholdWaitTimeout (t : Nat)
  /-- ARCHIVE_APPEND (R525): A record request is numbered, sealed and written as one page operation. -/
  | archiveAppend (t : Nat)
  /-- SEAL_RETRY (R525): Every 1 ms a failed seal is attempted again. -/
  | sealRetry (t : Nat)
  /-- ARCHIVE_EXPORT (R529): A write of GO copies archive records into a window slot. -/
  | archiveExport (t slot : Nat)
  /-- FUSE_READ_DONE (R560): Fuse words are read at two margins and F values delivered. words: word, value, quality (0 sound, 1 corrected, 2 one marginal, 3 both marginal) of the words that are not 0 and sound; remaps: array and word of the factory repair map; spares: bank and row. -/
  | fuseReadDone (t : Nat) (words : List (Nat × Nat × Nat)) (remaps spares : List (Nat × Nat))
  /-- FLASH_DISCOVERY (R542): SFDP is read and the flash switched to 8D-8D-8D. ok: the flash answers SFDP; fast: the switch to 8D-8D-8D succeeds; headA, headB: the first 64 bytes of the slots. -/
  | flashDiscovery (t id mib : Nat) (ok fast : Bool) (headA headB : List (BitVec 8))
  /-- SLOT_COPY_DONE (R550): A slot copy completes and the slot is checked. answered: the flash answered every read; image: the slot's bytes as copied; poison: the copy reads with poison twice. -/
  | slotCopyDone (t slot : Nat) (answered : Bool) (image : List (BitVec 8)) (poison : Bool)
  /-- BOOT_RECORD (R521): Once VHOLD is good the BOOT record and held happenings are appended. -/
  | bootRecord (t : Nat)
  /-- RETRY_BOOT (R553): A write of RETRY repeats step 7 of start-up. -/
  | retryBoot (t port : Nat) (priv : Bool)
  /-- SWITCH (R555): A write of SWITCH loads another slot without a reset. -/
  | switch (t port : Nat) (priv : Bool) (slot : Nat)
  /-- SWITCH_FINISH (R556): The last session under the old image ends and the switch is finished. -/
  | switchFinish (t : Nat)
  /-- RECOPY (R554): A poisoned read of the running copy makes BOOT copy and check the slot again. record: the record whose read delivered poison; image: the slot's bytes as copied again. -/
  | recopy (t record : Nat) (answered : Bool) (image : List (BitVec 8)) (poison : Bool)
  /-- READ (R557): Flash port READ copies flash into a window slot. -/
  | read (t port : Nat) (priv : Bool) (addr kib slot : Nat)
  /-- PROGRAM (R557): Flash port PROGRAM writes a slot into flash. -/
  | program (t port : Nat) (priv : Bool) (addr kib slot : Nat)
  /-- ERASE4 (R557): Flash port ERASE4 erases a 4 KiB sector. -/
  | erase4 (t port : Nat) (priv : Bool) (addr : Nat)
  /-- ERASE64 (R557): Flash port ERASE64 erases a 64 KiB block. -/
  | erase64 (t port : Nat) (priv : Bool) (addr : Nat)
  /-- FLASH_OP_DONE (R558): A flash operation completes and the next in order starts. data: the bytes a READ copies. -/
  | flashOpDone (t : Nat) (answered : Bool) (data : List (BitVec 8))
  /-- DOMAIN_OFF (R571): A write of 1 to OFF halts a domain's units and powers it down. -/
  | domainOff (t d : Nat)
  /-- DOMAIN_ON (R571): A write of 0 to OFF powers a domain up. -/
  | domainOn (t d : Nat)
  /-- DOMAIN_SEQUENCE_DONE (R581): A domain power-up or power-down sequence reaches its last stable point. -/
  | domainSequenceDone (t d : Nat)
  /-- DOZE (R570): A domain idle for DOZE_US enters DOZE. idle: the domain has been idle for DOZE_US; else a request has reached it in DOZE. -/
  | doze (t d : Nat) (idle : Bool)
  /-- S2_ENTRY (R573): Idle conditions hold for S2_IDLE and the device enters S2. -/
  | s2Entry (t : Nat)
  /-- S3_ENTRY (R575): After S3_IDLE in S2 the device enters S3. -/
  | s3Entry (t : Nat)
  /-- POLL_LEAD_TIMER (R574): The AON timer fires WAKE_LEAD before the next poll. -/
  | pollLeadTimer (t : Nat)
  /-- WAKE (R576): A wake event starts the wake sequence from S2 or S3. src: SOURCE of PWR_WAKE_LAST. -/
  | wake (t src pin : Nat)
  /-- WAKE_DONE (R580): The wake sequence completes and S0 is reported. aon: elapsed cycles of the 32.768 kHz crystal since the entry. -/
  | wakeDone (t aon : Nat)
  /-- OFF (R577): A write of OFF in PWR_CTL ends releases and takes the device to S4. -/
  | offCmd (t : Nat)
  /-- REVERSAL (R582): An opposite request during a sequence reverses it after the step in progress. d: a domain, or 9 for the device sequence. -/
  | reversal (t d : Nat)
  /-- VOLTAGE_COMMAND (R587): A new core voltage target is issued or becomes pending. mv: the word written to PWR_AVS_TGT. -/
  | voltageCommand (t mv : Nat)
  /-- TEMPERATURE_BAND (R586): The CORE die temperature crosses a band edge and the AUTO target changes. -/
  | temperatureBand (t band : Nat)
  /-- AVS_ACK (R587): An AVSBus write's good status arrives and the pending target is issued. -/
  | avsAck (t status : Nat)
  /-- VOUT_READ (R587): Every 20 µs VOUT is read until the target is confirmed and FULL restored. -/
  | voutRead (t vout vmon : Nat)
  /-- AVS_FAILURE (R588): An AVSBus write fails and is reissued. kind: 0 no status response within ACK_US, 1 a CRC error, 2 a status reporting an error, 3 no confirmation within CONFIRM. -/
  | avsFailure (t kind status : Nat)
  /-- FALLBACK_READ (R588): Every 100 ms in FALLBACK VOUT is read. good: the read passed its checks. -/
  | fallbackRead (t vout vmon : Nat) (good : Bool)
  /-- WAKE_PIN_FIRE (R589): A wake pin holds its active level for DEB cycles and fires. active: the pin's active level has held for DEB cycles; else it has become inactive. -/
  | wakePinFire (t p : Nat) (active : Bool)
  /-- CLAIM (R601): HIF_FLAG_CMD CLAIM moves NOBODY slots to HOST. -/
  | claim (t slot n : Nat)
  /-- GIVE (R601): HIF_FLAG_CMD GIVE moves HOST slots to DEVICE. -/
  | give (t slot n : Nat)
  /-- RETURN (R601): HIF_FLAG_CMD RETURN moves HOST slots to NOBODY. -/
  | return (t slot n : Nat)
  /-- BAR2_WRITE (R603): A host write to the window is stored in a HOST slot or discarded and counted. -/
  | bar2Write (t off : Nat) (data : List (BitVec 8)) (poison : Bool)
  /-- FLUSH_TIMEOUT (R609): FLUSH_US after its first event the event slot is handed to the host. -/
  | flushTimeout (t : Nat)
  /-- EVT_FLUSH (R609): A write of EVT_FLUSH hands over the event slot. -/
  | evtFlush (t : Nat)
  /-- STATS_SNAPSHOT (R611): Every PERIOD_S a counter snapshot fills statistics slots. -/
  | statsSnapshot (t : Nat)
  /-- STATS_GO (R611): A write of GO in HIF_STATS_CFG takes a snapshot. -/
  | statsGo (t : Nat)
  /-- VECTOR_SEND (R617): After HOLDOFF_US and GAP_US an interrupt message is sent. granted: the MSI vectors granted, 0 with MSI-X -/
  | vectorSend (t v granted : Nat) (masked d3hot : Bool)
  /-- MSI_UNMASK (R617): A masked vector is unmasked and its held message sent. -/
  | msiUnmask (t v : Nat)
  /-- HOST_RESET (R618): A function-level or hot reset returns HOST slots to NOBODY and ends port 0's grant. hot: a hot reset, else a function-level reset -/
  | hostReset (t : Nat) (hot : Bool)
  /-- LINK_DOWN_TIMEOUT (R618): The PCIe link has been down for 100 ms and R618 applies. -/
  | linkDownTimeout (t : Nat)
  /-- PORT_TRAINING_DONE (R625): A Baseline port finishes equalisation at a width and rate. kept: a bit for each lane that trained. -/
  | portTrainingDone (t p kept skew : Nat) (reversed : Bool) (snr : List Nat)
  /-- HELLO (R625): A HELLO is received and the link judged for orientation, master and index. down: the peer's port is a down port. -/
  | hello (t p devid dev nonce : Nat) (down master : Bool)
  /-- PAIRING (R626): The pairing check value under KE is compared and the link authenticated or refused. held: the peer holds a fleet key. -/
  | pairing (t p : Nat) (held : Bool) (check : List (BitVec 8))
  /-- IDENT (R636): An IDENT is received, forwarded toward the master and the port goes UP. hops: links from the sender to here; npart 0: no partition. -/
  | ident (t p devid dev hops salt npart part : Nat) (master : Bool)
  /-- MAP (R636): A MAP with a higher STACK_GEN is applied and membership changes. -/
  | map (t p gen anchorSeq : Nat) (members : List MapMember)
  /-- BLN_LINK_DOWN (R628): An UP link goes DOWN, in-flight requests complete and the port retrains. cause: 0 lane loss, 1 uncorrectable run, 2 silence. p 2 and above: a link of other members, with the devices no path reaches any more. -/
  | blnLinkDown (t p cause : Nat) (far : List Nat)
  /-- REFUSAL_RETRY (R627): RETRY_MS after a refusal the port trains again. -/
  | refusalRetry (t p : Nat)
  /-- RETRAIN (R625): A write of RETRAIN takes the port DOWN and retrains it. -/
  | retrain (t p : Nat)
  /-- SYNC_PERIOD (R640): Every SYNC_PERIOD TIME frames are sent on each authenticated link. ce, ue: codewords corrected and uncorrectable since the last. -/
  | syncPeriod (t p ce ue : Nat)
  /-- TIME_EXCHANGE (R640): A TIME exchange completes and its offset and delay are passed to MER when valid. Then the master's era, count, civil offset, leap and CIVIL_STALE. -/
  | timeExchange (t p t1 t2 t3 t4 corrFwd corrBack era count : Nat) (offset : Int) (leap : Nat) (stale : Bool)
  /-- REQ (R629): A REQ frame arrives, is forwarded or queued or served. -/
  | req (t p src dst srcUnit dstUnit srcEpoch dstEpoch tag : Nat) (poison : Bool) (payload : List (BitVec 8))
  /-- RPLY (R629): A RPLY frame arrives and is delivered into its reserved slot. -/
  | rply (t p src dst srcUnit dstUnit reqEpoch tgtEpoch tag : Nat) (poison : Bool) (payload : List (BitVec 8))
  /-- ENV_FRAME (R396): An ENV frame arrives and is queued on port 3 or forwarded by the master. -/
  | envFrame (t p src dst : Nat) (payload : List (BitVec 8))
  /-- RACC_GO (R643): A write of GO in BLN_RACC_CTL sends a remote register access. -/
  | raccGo (t : Nat)
  /-- RACC (R643): A RACC frame reaches the target's register file as port 3. -/
  | racc (t p src dst srcEpoch dstEpoch tag : Nat) (write : Bool) (off data : Nat)
  /-- RACC_TIMEOUT (R643): No remote access result within 10 µs; it completes with TIMEOUT. -/
  | raccTimeout (t : Nat)
  /-- WRITE_TRANSFER (R647): An I3C or SMBus write transfer applies one register write as port 1. bytes: the transfer's bytes without PEC; pecOn: it carries a PEC; smbus: a legacy transfer. -/
  | writeTransfer (t : Nat) (bytes : List (BitVec 8)) (smbus pecOn pecBad : Bool)
  /-- READ_TRANSFER (R647): An I3C or SMBus read transfer returns n registers. -/
  | readTransfer (t off n : Nat) (smbus : Bool)
  /-- ENEC (R646): CCC ENEC enables target events. events: bit 0 interrupts, bit 3 hot-join. -/
  | enec (t events : Nat)
  /-- DISEC (R646): CCC DISEC disables target events. events: bit 0 interrupts, bit 3 hot-join. -/
  | disec (t events : Nat)
  /-- RSTDAA (R646): CCC RSTDAA clears the dynamic address. -/
  | rstdaa (t : Nat)
  /-- ENTDAA (R646): CCC ENTDAA assigns a dynamic address. da: the dynamic address the controller assigns. -/
  | entdaa (t da : Nat)
  /-- SETDASA (R646): CCC SETDASA sets the dynamic address from the static one. -/
  | setdasa (t static da : Nat)
  /-- GETPID (R646): CCC GETPID returns the provisional ID. -/
  | getpid (t : Nat)
  /-- GETBCR (R646): CCC GETBCR returns the bus characteristics. -/
  | getbcr (t : Nat)
  /-- GETDCR (R646): CCC GETDCR returns the device characteristics. -/
  | getdcr (t : Nat)
  /-- GETSTATUS (R646): CCC GETSTATUS returns the target status. -/
  | getstatus (t : Nat)
  /-- GETMWL (R646): CCC GETMWL returns the maximum write length. -/
  | getmwl (t : Nat)
  /-- GETMRL (R646): CCC GETMRL returns the maximum read length. -/
  | getmrl (t : Nat)
  /-- ALERT_RESPONSE (R648): A read of the Alert Response Address releases ALERT_N. -/
  | alertResponse (t : Nat)
  /-- ENV_BUF_WRITE (R650): A write of MGT_ENV_BUF appends 4 bytes to the envelope buffer. -/
  | envBufWrite (t port w : Nat)
  /-- MGT_ENV_SUBMIT (R650): A write of GO in MGT_ENV_CTL queues the buffered envelope on port 1. -/
  | mgtEnvSubmit (t port len : Nat)
  /-- RECON (R652): MISMATCH held for RECON_MS makes MGT reset the unit, or give up. -/
  | recon (t u : Nat)
  /-- PROBE (R657): Finder sends PROBE on each enabled controller. -/
  | probe (t : Nat)
  /-- ANNOUNCE (R655): A node's ANNOUNCE is judged and answered with ASSIGN. -/
  | announce (t bus nodeId kind ver nonce : Nat)
  /-- CONFIRM (R655): A correct CONFIRM makes the handle PRESENT. -/
  | confirm (t bus handle : Nat) (frame : List (BitVec 8))
  /-- ASSIGN_TIMEOUT (R655): No correct CONFIRM within ASSIGN_TO frees the handle. -/
  | assignTimeout (t handle : Nat)
  /-- BEAT (R656): A node's BEAT keeps its handle PRESENT. -/
  | beat (t bus handle : Nat)
  /-- LEAVE (R656): A correct LEAVE makes the handle depart. -/
  | leave (t bus handle : Nat) (frame : List (BitVec 8))
  /-- DEPARTURE (R656): DEPART_N × HB_MS without a frame makes the handle depart. -/
  | departure (t handle : Nat)
  /-- TEMP (R648): A die temperature passes WARN_C and TEMP is raised. temp: the junction temperature, signed 16 bits, in units of 0.1 °C. -/
  | temp (t die temp : Nat)
  /-- ID (R660): Monitor command ID replies DEVID, LC, DOME_VER and ISA_VER. -/
  | idCmd (t : Nat)
  /-- STATUS (R660): Monitor command STATUS replies health and monitor state. -/
  | status (t : Nat)
  /-- NONCE (R660): Monitor command NONCE reads DOM_NONCE. -/
  | nonce (t : Nat)
  /-- ENV (R660): Monitor command ENV submits an envelope on port 2. -/
  | envCmd (t : Nat) (envelope : List (BitVec 8))
  /-- RD (R660): Monitor command RD reads registers as port 2. -/
  | rd (t off n : Nat)
  /-- WR (R660): Monitor command WR writes a register as port 2. -/
  | wr (t off val : Nat)
  /-- DBG (R660): Monitor command DBG sets or clears DEBUG_EN of a core. -/
  | dbg (t core : Nat) (on : Bool)
  /-- HALT (R477): Monitor command HALT halts a debug-enabled core. -/
  | halt (t core : Nat)
  /-- REGS (R660): Monitor command REGS reads a halted core's registers. -/
  | regs (t core : Nat)
  /-- MRD (R660): Monitor command MRD reads words of a halted core's memory. space: 0 I, 1 X, 2 Y. -/
  | mrd (t core space addr n : Nat)
  /-- MWR (R660): Monitor command MWR writes a word of a halted core's memory. space: 0 I, 1 X, 2 Y. -/
  | mwr (t core space addr val : Nat)
  /-- STEP (R477): Monitor command STEP steps a halted core. -/
  | step (t core : Nat)
  /-- GO (R477): Monitor command GO resumes a halted core. -/
  | goCmd (t core : Nat)
  /-- LINE_TIMEOUT (R658): A partial line is discarded after 1 s without a character. last: the stamp of the last character of the partial line. -/
  | lineTimeout (t last : Nat)
  /-- MONITOR_GRANT_END (R659): A MONITOR grant expires and DEBUG_EN of every core clears. -/
  | monitorGrantEnd (t : Nat)
  /-- RAIL_FAULT (R668): VDD_AON or VDD_IO33 falls below limit for 1 µs and causes device reset. rail: as PIN_STAT orders them; mv: its value. -/
  | railFault (t rail mv : Nat) (straps : Straps)
  /-- RESET_PIN (R669): RESET_N held low 10 µs causes device reset. -/
  | resetPin (t : Nat) (straps : Straps)
  /-- VHOLD_CAP_ESTIMATE (R674): VHOLD reaches 3.0 V and the capacitance is estimated. fromMv: the voltage the measured rise began at; us: its time up to 3.0 V. -/
  | vholdCapEstimate (t fromMv us : Nat)
  /-- XTAL (R678): A crystal leaves its tolerance and XTAL is raised. crystal: 0 XTAL38, 1 XTAL32; ppm: error against the Dome oscillator, 0.1 ppm; ok: within tolerance. -/
  | xtal (t crystal : Nat) (ppm : Int) (ok : Bool)
  /-- SES_CTX_DATA_READ (R265): A read of SES_CTX_DATA returns a context word and advances WORD. -/
  | sesCtxDataRead (t port : Nat) (priv : Bool)
  /-- EPH_REC_DATA_READ (R339): A read of EPH_REC_DATA returns a record word and advances WORD. -/
  | ephRecDataRead (t port : Nat) (priv : Bool)
  /-- SHU_REL_DATA_READ (R323): A read of SHU_REL_DATA returns a release-table word and advances WORD. -/
  | shuRelDataRead (t port : Nat) (priv : Bool)
  /-- HEL_CM_DATA_READ (R84): A read of HEL_CM_DATA returns a matrix term and advances COL. -/
  | helCmDataRead (t port : Nat) (priv : Bool)
  /-- ALM_ANC_DATA_READ (R232): A read of ALM_ANC_DATA returns an anchor word and advances WORD. -/
  | almAncDataRead (t port : Nat) (priv : Bool)
  /-- ALM_REG_DATA_READ (R247): A read of ALM_REG_DATA returns a region word and advances WORD. -/
  | almRegDataRead (t port : Nat) (priv : Bool)
  /-- ALM_RES_DATA_READ (R240): A read of ALM_RES_DATA returns an anchor residual and advances INDEX. -/
  | almResDataRead (t port : Nat) (priv : Bool)
  /-- AST_SCRIPT_DATA_READ (R463): A read of AST_SCRIPT_DATA returns a script-table word and advances WORD. -/
  | astScriptDataRead (t port : Nat) (priv : Bool)
  /-- MEM_REMAP_DATA_READ (R492): A read of MEM_REMAP_DATA returns a remap entry and advances ENTRY. -/
  | memRemapDataRead (t port : Nat) (priv : Bool)
  /-- MEM_LOG_DATA_READ (R500): A read of MEM_LOG_DATA returns a log word and advances WORD. -/
  | memLogDataRead (t port : Nat) (priv : Bool)
  /-- BOOT_FUSE_DATA_READ (R560): A read of BOOT_FUSE_DATA returns a fuse value and advances WORD. -/
  | bootFuseDataRead (t port : Nat) (priv : Bool)
  /-- HIF_FLAG_DATA_READ (R599): A read of HIF_FLAG_DATA returns 16 slot flags and advances WORD. -/
  | hifFlagDataRead (t port : Nat) (priv : Bool)
  /-- MGT_FND_DATA_READ (R655): A read of MGT_FND_DATA returns a node-table word and advances WORD. -/
  | mgtFndDataRead (t port : Nat) (priv : Bool)
  /-- PIN_PAD_DATA_READ (R662): A read of PIN_PAD_DATA returns a ball's state and advances BALL. oe, level: whether the device drives the ball, and the logic level at it. -/
  | pinPadDataRead (t port : Nat) (priv oe level : Bool)
  /-- LATE_LOCK (R140): The synthesiser reports lock during the extension of a STANDBY to SYNTH step, and the step ends at that moment. -/
  | lateLock (t trx : Nat)
  /-- CURRENT_BIN_WRITE (R162): The current ledger bin is written to the Plate store when it has grown by a sixty-fourth of the allowance since its last write. -/
  | currentBinWrite (t trx b : Nat)
  /-- BUS_OFF_RECOVERED (R325): After 128 × 11 recessive bits a bus-off controller recovers by itself unless RESTART_MAN is set. -/
  | busOffRecovered (t bus : Nat)
  /-- ILLEGAL (R431): A core executes a reserved major opcode or fn, or an encoding with nonzero must-be-zero fields, and ILLEGAL is raised. -/
  | illegal (t core : Nat)
  /-- COPROC (R453): A core executes a major opcode 0x3C–0x3F (CP4–CP7) and COPROC is raised with DETAIL n. -/
  | coproc (t core : Nat)
  /-- VHOLD_LOW (R519): VHOLD falls below 3.0 V during operation, VHOLD_LOW sets, and page operations stop starting. -/
  | vholdLow (t mv : Nat)
  /-- VHOLD_GOOD (R519): VHOLD returns to 3.0 V or more during operation, VHOLD_LOW clears, and queued writes start. -/
  | vholdGood (t mv : Nat)
  /-- VMON_STABLE (R588): In FALLBACK, VMON has stayed at or above VMIN_FULL + 15 mV for 1 ms and the CORE clocks return to FULL. -/
  | vmonStable (t vmon : Nat)
  /-- PCIE_LINK_DOWN (R618): The PCIe link goes down, and the loss is counted, archived and recorded in HIF_EVT_CODE. -/
  | pcieLinkDown (t : Nat)
  /-- PCIE_LINK_UP (R618): The PCIe link trains and returns to L0, and LINK_UP is set, counted and archived. -/
  | pcieLinkUp (t rate width : Nat) (flit : Bool)
  /-- HOT_JOIN (R646): With HJ_EN set and no dynamic address, the I3C target raises a hot-join request on the bus. -/
  | hotJoin (t : Nat)
deriving DecidableEq, Repr

end Sys2Proof
end

