-- ==== Sys2Proof/Decode.lean ====
section
/-! DEFINITION. The block has no decoder: its commands are happenings, and no row of spec/opcode_table.json gives bits.
The encodings of the cores' instructions (R430) are in Machine/Operands.lean and Machine/AstRun.lean, where they are part
of what a core does with a word of its memory. -/

namespace Sys2Proof

/-- The command that a word spells by the table's bits: the table gives none. -/
def decodeTableWord (_nbits _w : Nat) : Option Instr := none

end Sys2Proof
end

