-- ==== Sys2Proof/Machine/Codes.lean ====
section
/-! DEFINITION. The completion codes of R281 and the session states of R267, by name; and the stable sort
by which orders are taken. -/

namespace Sys2Proof.Machine

/-- Put an element into a sorted list, after every element that may stand before it. -/
def insertBy {α : Type} (le : α → α → Bool) (a : α) : List α → List α
  | [] => [a]
  | b :: l => if le b a then b :: insertBy le a l else a :: b :: l

/-- A list in order, equal elements in the order they had. -/
def sortBy {α : Type} (le : α → α → Bool) (l : List α) : List α := l.foldl (fun r a => insertBy le a r) []

def ccOk : Nat := 0x00
def ccTimeout : Nat := 0x01
def ccBusy : Nat := 0x02
def ccTargetReset : Nat := 0x03
def ccPoisoned : Nat := 0x04
def ccDenied : Nat := 0x05
def ccBoundFail : Nat := 0x06
def ccRelaySuspect : Nat := 0x07
def ccLockedOut : Nat := 0x08
def ccRevoked : Nat := 0x09
def ccPrecondition : Nat := 0x0A
def ccInterference : Nat := 0x0B
def ccWireBreak : Nat := 0x0C
def ccStackFault : Nat := 0x0D
def ccFuseMarginal : Nat := 0x0E
def ccRegLimit : Nat := 0x0F
def ccVoidWake : Nat := 0x10
def ccNotVerified : Nat := 0x11
def ccEnvelopeBad : Nat := 0x12
def ccCapacity : Nat := 0x13
def ccCancelled : Nat := 0x14
def ccKceAlarm : Nat := 0x20
def ccKeySpent : Nat := 0x21
def ccRngHealth : Nat := 0x22
def ccLifecycle : Nat := 0x23
def ccTamper : Nat := 0x24

def ssFree : Nat := 0x0
def ssIdle : Nat := 0x1
def ssWake : Nat := 0x2
def ssIdent : Nat := 0x3
def ssChallenge : Nat := 0x4
def ssRange : Nat := 0x5
def ssBound : Nat := 0x6
def ssLocate : Nat := 0x7
def ssDecide : Nat := 0x8
def ssReleased : Nat := 0x9
def ssClosed : Nat := 0xA
def ssAborted : Nat := 0xB

/-- The pools of R283. -/
def poolShu : Nat := 0
def poolArc : Nat := 1
def poolCpl : Nat := 2
def poolTrn : Nat := 3
def poolDbx : Nat := 4
def poolAlm : Nat := 5
def poolKce : Nat := 6
def poolEph : Nat := 7
def poolDom : Nat := 8
def poolRng : Nat := 9
def poolWake : Nat := 10

/-- The PEND bits of R265. -/
def pendLfp : Nat := 0
def pendEph : Nat := 1
def pendDom : Nat := 2
def pendKce : Nat := 3
def pendRng : Nat := 4
def pendTrn : Nat := 5
def pendDbx : Nat := 6
def pendAlm : Nat := 7
def pendShu : Nat := 8
def pendPlt : Nat := 9
def pendCore : Nat := 10

end Sys2Proof.Machine
end

