-- ==== Sys2Proof/Config.lean ====
section
/-! DEFINITION. What the spec leaves open and an implementation fixes: the free values. None has a body, so nothing can
be proved of a value; a statement about one holds for every value (log entry 3). -/

namespace Sys2Proof

/-- The words the random generator delivers (R414–R421), by the count of words drawn. -/
opaque Config.freeWord : Nat → BitVec 32

/-- What the I3C target answers where the spec gives no value (R646): 0 the manufacturer and part of the provisional ID,
1 BCR, 2 DCR, 3 the status. -/
opaque Config.i3cId : Nat → BitVec 32

/-- What the pins and lines measure in fields that no command carries a value for, by stamp and field. -/
opaque Config.pinReading : Nat → Nat → BitVec 32

end Sys2Proof
end

