-- ==== Sys2Proof/Machine/Map.lean ====
section
/-! DEFINITION. Sparse tables as plain lists in one canonical form (keys strictly rising), and the field arithmetic
of registers and byte strings. -/

namespace Sys2Proof.Machine

/-- A sparse table: keys strictly rising, one entry a key. -/
abbrev SMap (α : Type) := List (Nat × α)

/-- The entry under a key. -/
def SMap.find {α : Type} : SMap α → Nat → Option α
  | [], _ => none
  | (k, v) :: r, q => if q = k then some v else SMap.find r q

/-- The entry under a key, or what an unlisted key reads as. -/
def SMap.get {α : Type} (m : SMap α) (q : Nat) (d : α) : α := (SMap.find m q).getD d

/-- Put an entry under a key, keeping the keys rising. -/
def SMap.put {α : Type} : SMap α → Nat → α → SMap α
  | [], q, x => [(q, x)]
  | (k, v) :: r, q, x =>
    if q < k then (q, x) :: (k, v) :: r
    else if q = k then (q, x) :: r
    else (k, v) :: SMap.put r q x

/-- Remove a key. -/
def SMap.del {α : Type} : SMap α → Nat → SMap α
  | [], _ => []
  | (k, v) :: r, q => if q = k then r else (k, v) :: SMap.del r q

/-- Apply a function to the entry under a key, when there is one. -/
def SMap.upd {α : Type} (m : SMap α) (q : Nat) (f : α → α) : SMap α :=
  match SMap.find m q with
  | none => m
  | some v => SMap.put m q (f v)

/-- The first entry, if any, whose key or value meets a test. -/
def SMap.first {α : Type} (m : SMap α) (p : Nat → α → Bool) : Option (Nat × α) :=
  m.find? (fun e => p e.1 e.2)

/-- Keys strictly rising, from a bound on. -/
def SMap.rises {α : Type} : Option Nat → SMap α → Bool
  | _, [] => true
  | lo, (k, _) :: r => (lo.all (· < k)) && SMap.rises (some k) r

/-- The canonical form: keys strictly rising. -/
def SMap.wf {α : Type} (m : SMap α) : Bool := SMap.rises none m

/-- Bits [hi:lo] of a number. -/
def bits (w hi lo : Nat) : Nat := w / 2 ^ lo % 2 ^ (hi + 1 - lo)

/-- One bit of a number, as a Bool. -/
def bit (w k : Nat) : Bool := w / 2 ^ k % 2 = 1

/-- A number with bits [hi:lo] replaced. -/
def setBits (w hi lo v : Nat) : Nat :=
  w - bits w hi lo * 2 ^ lo + v % 2 ^ (hi + 1 - lo) * 2 ^ lo

/-- A number with one bit set or cleared. -/
def setBit (w k : Nat) (b : Bool) : Nat := setBits w k k b.toNat

/-- A number capped. -/
def satTo (m v : Nat) : Nat := min v m

/-- A number kept within two ends: "outside values act as the nearer end". -/
def clampTo (lo hi v : Nat) : Nat := max lo (min v hi)

/-- A signed number in w bits, two's complement. -/
def toSigned (w v : Nat) : Int :=
  if v % 2 ^ w < 2 ^ (w - 1) then (v % 2 ^ w : Nat) else (v % 2 ^ w : Nat) - (2 ^ w : Nat)

/-- The w-bit pattern of an integer, two's complement, wrapping. -/
def ofSigned (w : Nat) (i : Int) : Nat := (i % (2 ^ w : Nat)).toNat

/-- The w-bit pattern of an integer, saturating. -/
def satSigned (w : Nat) (i : Int) : Nat :=
  ofSigned w (max (-(2 ^ (w - 1) : Nat)) (min i ((2 ^ (w - 1) : Nat) - 1)))

/-- n bytes of a number, least significant first (R5). -/
def leBytes : Nat → Nat → List (BitVec 8)
  | 0, _ => []
  | n + 1, v => BitVec.ofNat 8 v :: leBytes n (v / 256)

/-- The number of little-endian bytes (R5). -/
def ofLe : List (BitVec 8) → Nat
  | [] => 0
  | b :: r => b.toNat + 256 * ofLe r

/-- n bytes of a list from an offset, 0-filled past its end. -/
def slice (l : List (BitVec 8)) (off n : Nat) : List (BitVec 8) :=
  ((l.drop off).take n) ++ List.replicate (n - ((l.drop off).take n).length) 0

/-- The little-endian number in n bytes of a list from an offset. -/
def leAt (l : List (BitVec 8)) (off n : Nat) : Nat := ofLe (slice l off n)

/-- A list of bytes cut or 0-filled to n bytes. -/
def padTo (l : List (BitVec 8)) (n : Nat) : List (BitVec 8) := slice l 0 n

/-- A list with bytes from an offset replaced. -/
def splice (l : List (BitVec 8)) (off : Nat) (new : List (BitVec 8)) : List (BitVec 8) :=
  padTo l off ++ new ++ l.drop (off + new.length)

/-- The set bits of a map below n, ascending. -/
def bitList (w n : Nat) : List Nat := (List.range n).filter (bit w)

/-- How many bits below n are set. -/
def popCount (w n : Nat) : Nat := (bitList w n).length

/-- The map with the listed bits set. -/
def bitMap (l : List Nat) : Nat := l.foldl (fun a k => setBit a k true) 0

/-- Serial order of two w-bit numbers: a precedes b (R46, R56, R524). -/
def serialBefore (w a b : Nat) : Bool :=
  let d := (b + 2 ^ w - a % 2 ^ w) % 2 ^ w
  decide (0 < d) && decide (d < 2 ^ (w - 1))

/-- Ticks in a microsecond, times 10 (R4): 63,897.6. -/
def ticksPerUs10 : Nat := 638976

/-- A time in microseconds as ticks, rounded down (R4). -/
def usT (us : Nat) : Nat := us * ticksPerUs10 / 10

/-- A time in milliseconds as ticks (R4). -/
def msT (ms : Nat) : Nat := ms * 63897600

/-- A time in seconds as ticks (R4). -/
def secT (sec : Nat) : Nat := sec * 63897600000

/-- "0 acts as 1". -/
def orOne (v : Nat) : Nat := if v = 0 then 1 else v

end Sys2Proof.Machine
end

