-- ==== Sys2Proof/Machine/Crypto.lean ====
section
/-! DEFINITION. The published algorithms the chapters name: AES with 128- and 256-bit keys (FIPS 197), AES-CMAC
(SP 800-38B), the counter-mode key derivation of SP 800-108 (R376), SHA-256 (FIPS 180-4), the CRC of IEEE 802.3, the
CRC-16 of polynomial 0x1021 and the CRC-4 of R111. Bytes are numbers below 256; the standards' own byte order holds
(R5). The text of the standards is not in spec/: PRESUMED, log entry 4. -/

namespace Sys2Proof.Machine

/-! ## AES -/

/-- The S-box of FIPS 197. -/
def aesSbox : List Nat :=
  [99, 124, 119, 123, 242, 107, 111, 197, 48, 1, 103, 43, 254, 215, 171, 118] ++
  [202, 130, 201, 125, 250, 89, 71, 240, 173, 212, 162, 175, 156, 164, 114, 192] ++
  [183, 253, 147, 38, 54, 63, 247, 204, 52, 165, 229, 241, 113, 216, 49, 21] ++
  [4, 199, 35, 195, 24, 150, 5, 154, 7, 18, 128, 226, 235, 39, 178, 117] ++
  [9, 131, 44, 26, 27, 110, 90, 160, 82, 59, 214, 179, 41, 227, 47, 132] ++
  [83, 209, 0, 237, 32, 252, 177, 91, 106, 203, 190, 57, 74, 76, 88, 207] ++
  [208, 239, 170, 251, 67, 77, 51, 133, 69, 249, 2, 127, 80, 60, 159, 168] ++
  [81, 163, 64, 143, 146, 157, 56, 245, 188, 182, 218, 33, 16, 255, 243, 210] ++
  [205, 12, 19, 236, 95, 151, 68, 23, 196, 167, 126, 61, 100, 93, 25, 115] ++
  [96, 129, 79, 220, 34, 42, 144, 136, 70, 238, 184, 20, 222, 94, 11, 219] ++
  [224, 50, 58, 10, 73, 6, 36, 92, 194, 211, 172, 98, 145, 149, 228, 121] ++
  [231, 200, 55, 109, 141, 213, 78, 169, 108, 86, 244, 234, 101, 122, 174, 8] ++
  [186, 120, 37, 46, 28, 166, 180, 198, 232, 221, 116, 31, 75, 189, 139, 138] ++
  [112, 62, 181, 102, 72, 3, 246, 14, 97, 53, 87, 185, 134, 193, 29, 158] ++
  [225, 248, 152, 17, 105, 217, 142, 148, 155, 30, 135, 233, 206, 85, 40, 223] ++
  [140, 161, 137, 13, 191, 230, 66, 104, 65, 153, 45, 15, 176, 84, 187, 22]

def aesSub (b : Nat) : Nat := aesSbox.getD b 0

/-- Multiplication by x in the AES field. -/
def aesXtime (b : Nat) : Nat := if b < 128 then 2 * b else (2 * b - 256) ^^^ 27

/-- Bytewise exclusive or. -/
def xorBytes (a b : List Nat) : List Nat := List.zipWith (· ^^^ ·) a b

/-- The round constants. -/
def aesRcon : List Nat := [1, 2, 4, 8, 16, 32, 64, 128, 27, 54]

/-- Key expansion: further words from the last `nk` words held newest first; `i` counts words made. -/
def aesExpand (nk : Nat) : Nat → Nat → List (List Nat) → List (List Nat)
  | 0, _, ws => ws
  | n + 1, i, ws =>
    let prev := ws.getD 0 []
    let back := ws.getD (nk - 1) []
    let tmp :=
      if i % nk = 0 then
        xorBytes ((prev.rotateLeft 1).map aesSub) [aesRcon.getD (i / nk - 1) 0, 0, 0, 0]
      else if nk = 8 ∧ i % nk = 4 then prev.map aesSub
      else prev
    aesExpand nk n (i + 1) (xorBytes back tmp :: ws)

/-- Words of four bytes. -/
def chunks4 : Nat → List Nat → List (List Nat)
  | 0, _ => []
  | n + 1, l => l.take 4 :: chunks4 n (l.drop 4)

/-- The round keys, first round first, 16 bytes each. -/
def aesKeys (key : List Nat) : List (List Nat) :=
  let nk := key.length / 4
  let nr := nk + 6
  let ws := (aesExpand nk (4 * (nr + 1) - nk) nk (chunks4 nk key).reverse).reverse
  (List.range (nr + 1)).map (fun r => ((ws.drop (4 * r)).take 4).flatten)

/-- ShiftRows on 16 bytes held column by column. -/
def aesShift (l : List Nat) : List Nat :=
  (List.range 16).map (fun k => l.getD ((k + 4 * (k % 4)) % 16) 0)

/-- MixColumns on one column. -/
def aesMixCol (c : List Nat) : List Nat :=
  let a := c.getD 0 0
  let b := c.getD 1 0
  let d := c.getD 2 0
  let e := c.getD 3 0
  let x := aesXtime
  [x a ^^^ x b ^^^ b ^^^ d ^^^ e, a ^^^ x b ^^^ x d ^^^ d ^^^ e,
   a ^^^ b ^^^ x d ^^^ x e ^^^ e, x a ^^^ a ^^^ b ^^^ d ^^^ x e]

/-- The middle rounds and the last. -/
def aesRounds : List (List Nat) → List Nat → List Nat
  | [], l => l
  | [k], l => xorBytes (aesShift (l.map aesSub)) k
  | k :: ks, l => aesRounds ks (xorBytes (((chunks4 4 (aesShift (l.map aesSub))).map aesMixCol).flatten) k)

/-- One block under expanded keys. -/
def aesBlock (keys : List (List Nat)) (block : List Nat) : List Nat :=
  match keys with
  | [] => block
  | k :: ks => aesRounds ks (xorBytes block k)

/-! ## CMAC -/

/-- Doubling in the field of SP 800-38B, over 16 bytes most significant first. -/
def cmacDouble (l : List Nat) : List Nat :=
  let v := l.foldl (fun a b => 256 * a + b) 0
  let w := if v < 2 ^ 127 then 2 * v else (2 * v - 2 ^ 128) ^^^ 135
  (List.range 16).map (fun k => w / 256 ^ (15 - k) % 256)

/-- The chaining over whole blocks; the last block arrives already masked. -/
def cmacChain (keys : List (List Nat)) : Nat → List Nat → List Nat → List Nat
  | 0, c, _ => c
  | n + 1, c, m => cmacChain keys n (aesBlock keys (xorBytes c (m.take 16))) (m.drop 16)

/-- AES-CMAC over a message, 16 bytes. -/
def cmacNat (key msg : List Nat) : List Nat :=
  let keys := aesKeys key
  let k1 := cmacDouble (aesBlock keys (List.replicate 16 0))
  let k2 := cmacDouble k1
  let n := (msg.length + 15) / 16
  let full := msg.length % 16 = 0 ∧ msg ≠ []
  let n := if n = 0 then 1 else n
  let head := msg.take (16 * (n - 1))
  let tail := msg.drop (16 * (n - 1))
  let last := if full then xorBytes tail k1
    else xorBytes (tail ++ [128] ++ List.replicate (15 - tail.length) 0) k2
  cmacChain keys n (List.replicate 16 0) (head ++ last)

/-- AES-CMAC over bytes. -/
def cmac (key msg : List (BitVec 8)) : List (BitVec 8) :=
  (cmacNat (key.map BitVec.toNat) (msg.map BitVec.toNat)).map (BitVec.ofNat 8)

/-- The first 8 bytes of the CMAC as a little-endian number, as the CHECK fields hold it. -/
def cmac8 (key msg : List (BitVec 8)) : Nat := ofLe ((cmac key msg).take 8)

/-! ## SHA-256 -/

def shaK : List Nat :=
  [0x428a2f98, 0x71374491, 0xb5c0fbcf, 0xe9b5dba5, 0x3956c25b, 0x59f111f1, 0x923f82a4, 0xab1c5ed5] ++
  [0xd807aa98, 0x12835b01, 0x243185be, 0x550c7dc3, 0x72be5d74, 0x80deb1fe, 0x9bdc06a7, 0xc19bf174] ++
  [0xe49b69c1, 0xefbe4786, 0x0fc19dc6, 0x240ca1cc, 0x2de92c6f, 0x4a7484aa, 0x5cb0a9dc, 0x76f988da] ++
  [0x983e5152, 0xa831c66d, 0xb00327c8, 0xbf597fc7, 0xc6e00bf3, 0xd5a79147, 0x06ca6351, 0x14292967] ++
  [0x27b70a85, 0x2e1b2138, 0x4d2c6dfc, 0x53380d13, 0x650a7354, 0x766a0abb, 0x81c2c92e, 0x92722c85] ++
  [0xa2bfe8a1, 0xa81a664b, 0xc24b8b70, 0xc76c51a3, 0xd192e819, 0xd6990624, 0xf40e3585, 0x106aa070] ++
  [0x19a4c116, 0x1e376c08, 0x2748774c, 0x34b0bcb5, 0x391c0cb3, 0x4ed8aa4a, 0x5b9cca4f, 0x682e6ff3] ++
  [0x748f82ee, 0x78a5636f, 0x84c87814, 0x8cc70208, 0x90befffa, 0xa4506ceb, 0xbef9a3f7, 0xc67178f2]

def shaInit : List Nat := [0x6a09e667, 0xbb67ae85, 0x3c6ef372, 0xa54ff53a, 0x510e527f, 0x9b05688c, 0x1f83d9ab, 0x5be0cd19]

/-- Rotation of a 32-bit word to the right. -/
def rotr32 (w k : Nat) : Nat := w / 2 ^ k + w % 2 ^ k * 2 ^ (32 - k)

/-- The message schedule: words held newest first. -/
def shaSchedule : Nat → List Nat → List Nat
  | 0, ws => ws
  | n + 1, ws =>
    let w2 := ws.getD 1 0
    let w7 := ws.getD 6 0
    let w15 := ws.getD 14 0
    let w16 := ws.getD 15 0
    let s0 := rotr32 w15 7 ^^^ rotr32 w15 18 ^^^ w15 / 8
    let s1 := rotr32 w2 17 ^^^ rotr32 w2 19 ^^^ w2 / 1024
    shaSchedule n ((w16 + s0 + w7 + s1) % 2 ^ 32 :: ws)

/-- The compression rounds over pairs of constant and schedule word. -/
def shaRounds : List (Nat × Nat) → List Nat → List Nat
  | [], v => v
  | (k, w) :: r, [a, b, c, d, e, f, g, h] =>
    let s1 := rotr32 e 6 ^^^ rotr32 e 11 ^^^ rotr32 e 25
    let ch := (e &&& f) ^^^ ((2 ^ 32 - 1 - e) &&& g)
    let t1 := h + s1 + ch + k + w
    let s0 := rotr32 a 2 ^^^ rotr32 a 13 ^^^ rotr32 a 22
    let mj := (a &&& b) ^^^ (a &&& c) ^^^ (b &&& c)
    shaRounds r [(t1 + s0 + mj) % 2 ^ 32, a, b, c, (d + t1) % 2 ^ 32, e, f, g]
  | _ :: _, v => v

/-- Big-endian 32-bit words of bytes. -/
def beWords (l : List Nat) : List Nat :=
  (chunks4 (l.length / 4) l).map (fun c => c.foldl (fun a b => 256 * a + b) 0)

/-- All blocks of a padded message. -/
def shaBlocks : Nat → List Nat → List Nat → List Nat
  | 0, h, _ => h
  | n + 1, h, m =>
    let ws := (shaSchedule 48 (beWords (m.take 64)).reverse).reverse
    let v := shaRounds (List.zip shaK ws) h
    shaBlocks n (List.zipWith (fun a b => (a + b) % 2 ^ 32) h v) (m.drop 64)

/-- SHA-256, 32 bytes. -/
def sha256 (msg : List (BitVec 8)) : List (BitVec 8) :=
  let m := msg.map BitVec.toNat
  let n := (m.length + 72) / 64
  let bits := m.length * 8
  let p := m ++ [128] ++ List.replicate (64 * n - m.length - 9) 0 ++
    (List.range 8).map (fun k => bits / 256 ^ (7 - k) % 256)
  ((shaBlocks n shaInit p).map (fun w => [w / 2 ^ 24 % 256, w / 2 ^ 16 % 256, w / 256 % 256, w % 256])).flatten.map
    (BitVec.ofNat 8)

/-! ## Cyclic redundancy checks -/

/-- One byte of the reflected CRC-32 of IEEE 802.3. -/
def crc32Bits : Nat → Nat → Nat
  | 0, c => c
  | n + 1, c => crc32Bits n (if c % 2 = 1 then (c / 2) ^^^ 0xEDB88320 else c / 2)

/-- The CRC-32 of IEEE 802.3 over bytes. -/
def crc32 (l : List (BitVec 8)) : Nat :=
  (l.foldl (fun c b => crc32Bits 8 (c ^^^ b.toNat)) 0xFFFFFFFF) ^^^ 0xFFFFFFFF

/-- One bit of a CRC register of w bits, the message bit entering at the top. -/
def crcStep (w poly c : Nat) (b : Bool) : Nat :=
  let top := bit c (w - 1) != b
  let sh := c * 2 % 2 ^ w
  if top then sh ^^^ poly else sh

/-- A CRC over bits in the order they are sent. -/
def crcBits (w poly init : Nat) (l : List Bool) : Nat := l.foldl (crcStep w poly) init

/-- Bits of a byte list, each byte's most significant bit first. -/
def bitsMsb (l : List (BitVec 8)) : List Bool :=
  (l.map (fun b => (List.range 8).map (fun k => bit b.toNat (7 - k)))).flatten

/-- n bits of a number, bit 0 first. -/
def bitsLsb (n v : Nat) : List Bool := (List.range n).map (bit v)

/-- The number whose bits are sent bit 0 first. -/
def ofBitsLsb : List Bool → Nat
  | [] => 0
  | b :: r => b.toNat + 2 * ofBitsLsb r

/-! ## Key derivation (R376) -/

/-- SP 800-108 in counter mode with AES-CMAC as R376 fixes it: for i = 1, 2 … the CMAC over
i (4 bytes, big-endian under the standard) is left to the caller's message builder `f`; the output is cut to n bytes. -/
def kdfBlocks (key : List (BitVec 8)) (f : Nat → List (BitVec 8)) : Nat → Nat → List (BitVec 8)
  | 0, _ => []
  | n + 1, i => cmac key (f i) ++ kdfBlocks key f n (i + 1)

end Sys2Proof.Machine
end

