-- ==== Sys2Proof/Machine/RegMap.lean ====
section
/-! DEFINITION. The register map: one `Fld` per named field of every register of the block chapters
(names, offsets, strides, bits, access codes, resets as their map tables give them), and the registers of each
block as lists (R7, R8, R9, R16, R682, R683). -/

namespace Sys2Proof.Machine

/-- Access codes of R9. -/
inductive Acc where
  | RW | RO | WO | W1C | W1S | RWL | AUT | FUS
deriving DecidableEq, Repr

/-- Where a field's reset value comes from (R16): a number, or fuses F, straps S, the Plate store P, the image I,
or a value per instance that the block's text gives (see `textResets`). -/
inductive Src where
  | plain | image | plate | fuse | strap | text
deriving DecidableEq, Repr

/-- One field of a register that may have instances (R8, R683): instance `[i][j]` lies at
`off + i * s1 + j * s2`, with `i < n1` and `j < n2`. `ex` marks an expert field of R18. -/
structure Fld where
  off : Nat
  s1 : Nat
  n1 : Nat
  s2 : Nat
  n2 : Nat
  hi : Nat
  lo : Nat
  acc : Acc
  rst : Nat
  src : Src
  ex : Bool
deriving DecidableEq, Repr

/-- A register: where it lies and its named fields. -/
structure Reg where
  off : Nat
  s1 : Nat
  n1 : Nat
  s2 : Nat
  n2 : Nat
  flds : List Fld
deriving DecidableEq, Repr

/-- A field of a register with one instance. -/
def fld0 (off hi lo : Nat) (acc : Acc) (rst : Nat) (src : Src) (ex : Bool := false) : Fld :=
  ⟨off, 0, 1, 0, 1, hi, lo, acc, rst, src, ex⟩

/-- A field of a register with instances `[i]`. -/
def fld1 (off s1 n1 hi lo : Nat) (acc : Acc) (rst : Nat) (src : Src) (ex : Bool := false) : Fld :=
  ⟨off, s1, n1, 0, 1, hi, lo, acc, rst, src, ex⟩

/-- A field of a register with instances `[i][j]`. -/
def fld2 (off s1 n1 s2 n2 hi lo : Nat) (acc : Acc) (rst : Nat) (src : Src) (ex : Bool := false) : Fld :=
  ⟨off, s1, n1, s2, n2, hi, lo, acc, rst, src, ex⟩

/-- A register with the place of its first field. -/
def regOf (fs : List Fld) : Reg :=
  match fs with
  | [] => ⟨0, 0, 0, 0, 0, []⟩
  | f :: r => ⟨f.off, f.s1, f.n1, f.s2, f.n2, f :: r⟩


/-! ## SYS, 01_architecture.md -/

def SYS_UNIT_STATE.STALE_CNT : Fld := fld1 0x000100 0x4 24 31 24 .RO 0 .plain
def SYS_UNIT_STATE.EPOCH : Fld := fld1 0x000100 0x4 24 23 8 .RO 1 .plain
def SYS_UNIT_STATE.MISMATCH : Fld := fld1 0x000100 0x4 24 7 7 .RO 0 .plain
def SYS_UNIT_STATE.REP : Fld := fld1 0x000100 0x4 24 6 4 .RO 1 .plain
def SYS_UNIT_STATE.RST : Fld := fld1 0x000100 0x4 24 3 3 .WO 0 .plain
def SYS_UNIT_STATE.CMD : Fld := fld1 0x000100 0x4 24 2 0 .RW 3 .plain
def SYS_UNIT_MISMATCH.UNIT : Fld := fld0 0x000180 23 0 .RO 0 .plain
def SYS_UNIT_STATE.REG : Reg := regOf [SYS_UNIT_STATE.STALE_CNT, SYS_UNIT_STATE.EPOCH, SYS_UNIT_STATE.MISMATCH, SYS_UNIT_STATE.REP, SYS_UNIT_STATE.RST, SYS_UNIT_STATE.CMD]
def SYS_UNIT_MISMATCH.REG : Reg := regOf [SYS_UNIT_MISMATCH.UNIT]

def regsSys0 : List Reg := [
  SYS_UNIT_STATE.REG, SYS_UNIT_MISMATCH.REG]

/-- The registers of block SYS. -/
def regsSys : List Reg := regsSys0

/-! ## MER, 02_meridian_time.md -/

def MER_PROFILE.PROFILE : Fld := fld0 0x010000 3 0 .RW 0 .image
def MER_STAT.MASTER : Fld := fld0 0x010004 11 11 .RO 0 .strap
def MER_STAT.DEVICE : Fld := fld0 0x010004 10 8 .RO 0 .strap
def MER_STAT.TRIM_ACTIVE : Fld := fld0 0x010004 7 7 .RO 0 .plain
def MER_STAT.HOLD_EXPIRED : Fld := fld0 0x010004 6 6 .RO 0 .plain
def MER_STAT.STEPPED : Fld := fld0 0x010004 5 5 .W1C 0 .plain
def MER_STAT.RESTORED : Fld := fld0 0x010004 4 4 .W1C 0 .plain
def MER_STAT.CIVIL_STALE : Fld := fld0 0x010004 3 3 .RO 1 .plain
def MER_STAT.QUALITY : Fld := fld0 0x010004 2 0 .RO 0 .strap
def MER_NOW_LO.NOW_LO : Fld := fld0 0x010010 31 0 .RO 0 .plain
def MER_NOW_HI.NOW_HI : Fld := fld0 0x010014 31 0 .RO 0 .plain
def MER_NOW_ERA.ERA : Fld := fld0 0x010018 7 0 .RO 0 .plate
def MER_CIVIL_LO.CIVIL : Fld := fld0 0x010020 31 0 .RO 0 .plate
def MER_CIVIL_HI.CIVIL : Fld := fld0 0x010024 31 0 .RO 0 .plate
def MER_CIVIL_OFFSET_LO.OFFSET : Fld := fld0 0x010028 31 0 .AUT 0 .plate
def MER_CIVIL_OFFSET_HI.OFFSET : Fld := fld0 0x01002C 31 0 .AUT 0 .plate
def MER_CIVIL_LEAP.LEAP : Fld := fld0 0x010030 7 0 .AUT 0 .plate
def MER_TIME_NONCE.NONCE : Fld := fld0 0x010034 31 0 .RO 0 .plain
def MER_TRIM_REQ.TRIM_US : Fld := fld0 0x010040 31 0 .WO 0 .plain
def MER_TIME_STAT.ENTRIES : Fld := fld0 0x010044 12 8 .RO 0 .plate
def MER_TIME_STAT.RESULT : Fld := fld0 0x010044 7 0 .RO 0 .plain
def MER_TRIM_BUDGET.USED_US : Fld := fld0 0x010048 20 0 .RO 0 .plate
def MER_TRIM_PENDING.PENDING_US : Fld := fld0 0x01004C 31 0 .RO 0 .plain
def MER_SYNC_CFG.CKPT : Fld := fld0 0x010050 31 24 .RW 6 .plain true
def MER_SYNC_CFG.HOLD_LIMIT : Fld := fld0 0x010050 23 16 .RW 0x14 .plain true
def MER_SYNC_CFG.STEP_THRESH : Fld := fld0 0x010050 15 8 .RW 0x64 .plain true
def MER_SYNC_CFG.SLEW_MAX : Fld := fld0 0x010050 7 0 .RW 0x64 .plain true
def MER_RATE_TRIM.TRIM : Fld := fld0 0x010054 31 0 .RO 0 .plain
def MER_OFFSET_EST.OFFSET : Fld := fld0 0x010058 31 0 .RO 0 .plain
def MER_SYNC_RMS.RMS : Fld := fld0 0x01005C 15 0 .RO 0 .plain
def MER_HOLD_TIME.HOLD_MS : Fld := fld0 0x010060 31 0 .RO 0 .plain
def MER_AON_RATIO.RATIO : Fld := fld0 0x010064 31 0 .RO 0x1DC130 .plain
def MER_PROFILE.REG : Reg := regOf [MER_PROFILE.PROFILE]
def MER_STAT.REG : Reg := regOf [MER_STAT.MASTER, MER_STAT.DEVICE, MER_STAT.TRIM_ACTIVE, MER_STAT.HOLD_EXPIRED, MER_STAT.STEPPED, MER_STAT.RESTORED, MER_STAT.CIVIL_STALE, MER_STAT.QUALITY]
def MER_NOW_LO.REG : Reg := regOf [MER_NOW_LO.NOW_LO]
def MER_NOW_HI.REG : Reg := regOf [MER_NOW_HI.NOW_HI]
def MER_NOW_ERA.REG : Reg := regOf [MER_NOW_ERA.ERA]
def MER_CIVIL_LO.REG : Reg := regOf [MER_CIVIL_LO.CIVIL]
def MER_CIVIL_HI.REG : Reg := regOf [MER_CIVIL_HI.CIVIL]
def MER_CIVIL_OFFSET_LO.REG : Reg := regOf [MER_CIVIL_OFFSET_LO.OFFSET]
def MER_CIVIL_OFFSET_HI.REG : Reg := regOf [MER_CIVIL_OFFSET_HI.OFFSET]
def MER_CIVIL_LEAP.REG : Reg := regOf [MER_CIVIL_LEAP.LEAP]
def MER_TIME_NONCE.REG : Reg := regOf [MER_TIME_NONCE.NONCE]
def MER_TRIM_REQ.REG : Reg := regOf [MER_TRIM_REQ.TRIM_US]
def MER_TIME_STAT.REG : Reg := regOf [MER_TIME_STAT.ENTRIES, MER_TIME_STAT.RESULT]
def MER_TRIM_BUDGET.REG : Reg := regOf [MER_TRIM_BUDGET.USED_US]
def MER_TRIM_PENDING.REG : Reg := regOf [MER_TRIM_PENDING.PENDING_US]
def MER_SYNC_CFG.REG : Reg := regOf [MER_SYNC_CFG.CKPT, MER_SYNC_CFG.HOLD_LIMIT, MER_SYNC_CFG.STEP_THRESH, MER_SYNC_CFG.SLEW_MAX]
def MER_RATE_TRIM.REG : Reg := regOf [MER_RATE_TRIM.TRIM]
def MER_OFFSET_EST.REG : Reg := regOf [MER_OFFSET_EST.OFFSET]
def MER_SYNC_RMS.REG : Reg := regOf [MER_SYNC_RMS.RMS]
def MER_HOLD_TIME.REG : Reg := regOf [MER_HOLD_TIME.HOLD_MS]
def MER_AON_RATIO.REG : Reg := regOf [MER_AON_RATIO.RATIO]

def regsMer0 : List Reg := [
  MER_PROFILE.REG, MER_STAT.REG, MER_NOW_LO.REG, MER_NOW_HI.REG, MER_NOW_ERA.REG, MER_CIVIL_LO.REG, MER_CIVIL_HI.REG, MER_CIVIL_OFFSET_LO.REG, MER_CIVIL_OFFSET_HI.REG, MER_CIVIL_LEAP.REG, MER_TIME_NONCE.REG, MER_TRIM_REQ.REG]

def regsMer1 : List Reg := [
  MER_TIME_STAT.REG, MER_TRIM_BUDGET.REG, MER_TRIM_PENDING.REG, MER_SYNC_CFG.REG, MER_RATE_TRIM.REG, MER_OFFSET_EST.REG, MER_SYNC_RMS.REG, MER_HOLD_TIME.REG, MER_AON_RATIO.REG]

/-- The registers of block MER. -/
def regsMer : List Reg := regsMer0 ++ regsMer1

/-! ## HEL, 03_heliostat_field_synthesis.md -/

def HEL_PROFILE.PROFILE : Fld := fld0 0x020000 3 0 .RW 0 .image
def HEL_CTL.CAL_ALL : Fld := fld0 0x020004 10 10 .WO 0 .plain
def HEL_CTL.MEAS_ALL : Fld := fld0 0x020004 9 9 .WO 0 .plain
def HEL_CTL.SOLVE_ALL : Fld := fld0 0x020004 8 8 .WO 0 .plain
def HEL_CTL.CLR_CNT : Fld := fld0 0x020004 1 1 .WO 0 .plain
def HEL_CTL.LOCK : Fld := fld0 0x020004 0 0 .W1S 0 .plain
def HEL_STAT.CH_QUAR : Fld := fld0 0x020008 23 16 .RO 0 .plain
def HEL_STAT.ZONES_READY : Fld := fld0 0x020008 15 8 .RO 0 .plain
def HEL_STAT.CAL_BUSY : Fld := fld0 0x020008 3 3 .RO 0 .plain
def HEL_STAT.SOLVE_BUSY : Fld := fld0 0x020008 2 2 .RO 0 .plain
def HEL_STAT.MEAS_BUSY : Fld := fld0 0x020008 1 1 .RO 0 .plain
def HEL_STAT.MATRIX_VALID : Fld := fld0 0x020008 0 0 .RO 0 .plain
def HEL_ZONE_CTL.ENABLE : Fld := fld0 0x02000C 31 0 .RW 0 .image
def HEL_ZONE_PIN.PINNED : Fld := fld0 0x020010 31 0 .RO 0 .plain
def HEL_TEST_CARRIER.CARRIER : Fld := fld0 0x020014 20 0 .RW 0x1312D0 .plain
def HEL_MEAS_CFG.MEAS_CYC : Fld := fld0 0x020018 31 24 .RW 0x20 .plain true
def HEL_MEAS_CFG.SETTLE : Fld := fld0 0x020018 23 16 .RW 0x10 .plain true
def HEL_MEAS_CFG.PROBE_MA : Fld := fld0 0x020018 11 0 .RW 0x32 .plain true
def HEL_DRIFT_CFG.REMEAS_S : Fld := fld0 0x02001C 31 16 .RW 0x3C .plain true
def HEL_DRIFT_CFG.NEIGH : Fld := fld0 0x02001C 15 8 .RW 0xA .plain true
def HEL_DRIFT_CFG.DRIFT_PCT : Fld := fld0 0x02001C 7 0 .RW 8 .plain true
def HEL_SOLVE_CFG.TOL : Fld := fld0 0x020020 31 24 .RW 5 .plain true
def HEL_SOLVE_CFG.MAX_ITER : Fld := fld0 0x020020 23 16 .RW 0x40 .plain true
def HEL_SOLVE_CFG.M_OUT : Fld := fld0 0x020020 15 8 .RW 0x14 .plain true
def HEL_SOLVE_CFG.M_IN : Fld := fld0 0x020020 7 0 .RW 0x14 .plain true
def HEL_LOOP_CFG.TOL_PH : Fld := fld0 0x020024 23 16 .RW 0x14 .plain true
def HEL_LOOP_CFG.TOL_AMP : Fld := fld0 0x020024 15 8 .RW 0x14 .plain true
def HEL_LOOP_CFG.LOOP_CYC : Fld := fld0 0x020024 3 0 .RW 4 .plain true
def HEL_TRIP_CFG.TRIP_MA : Fld := fld0 0x020028 15 0 .RWL 0x1068 .plain
def HEL_MEAS_CTL.ALL : Fld := fld0 0x02002C 7 7 .WO 0 .plain
def HEL_MEAS_CTL.ONE : Fld := fld0 0x02002C 6 6 .WO 0 .plain
def HEL_MEAS_CTL.CHANNEL : Fld := fld0 0x02002C 5 0 .WO 0 .plain
def HEL_MEAS_STAT.POSTPONED : Fld := fld0 0x020030 31 24 .RO 0 .plain
def HEL_MEAS_STAT.LAST_COL : Fld := fld0 0x020030 21 16 .RO 0 .plain
def HEL_MEAS_STAT.ASYM : Fld := fld0 0x020030 8 8 .W1C 0 .plain
def HEL_MEAS_STAT.RESULT : Fld := fld0 0x020030 7 0 .RO 0 .plain
def HEL_MEAS_PEND_LO.PEND : Fld := fld0 0x020034 31 0 .RO 0 .plain
def HEL_MEAS_PEND_HI.PEND : Fld := fld0 0x020038 31 0 .RO 0 .plain
def HEL_CM_ADDR.CARRIER : Fld := fld0 0x02003C 17 16 .RW 0 .plain
def HEL_CM_ADDR.COL : Fld := fld0 0x02003C 13 8 .RW 0 .plain
def HEL_CM_ADDR.ROW : Fld := fld0 0x02003C 5 0 .RW 0 .plain
def HEL_CM_DATA.IM : Fld := fld0 0x020040 31 16 .RO 0 .plain
def HEL_CM_DATA.RE : Fld := fld0 0x020040 15 0 .RO 0 .plain
def HEL_CAL_CTL.ALL : Fld := fld0 0x020044 7 7 .WO 0 .plain
def HEL_CAL_CTL.ONE : Fld := fld0 0x020044 6 6 .WO 0 .plain
def HEL_CAL_CTL.CHANNEL : Fld := fld0 0x020044 5 0 .WO 0 .plain
def HEL_CAL_STAT.LAST_CH : Fld := fld0 0x020048 13 8 .RO 0 .plain
def HEL_CAL_STAT.RESULT : Fld := fld0 0x020048 7 0 .RO 0 .plain
def HEL_QUAR_LO.QUAR : Fld := fld0 0x02004C 31 0 .W1C 0 .plain
def HEL_QUAR_HI.QUAR : Fld := fld0 0x020050 31 0 .W1C 0 .plain
def HEL_IRQ_STAT.LOCK_GUARD : Fld := fld0 0x020054 7 7 .W1C 0 .plain
def HEL_IRQ_STAT.CAL_FAIL : Fld := fld0 0x020054 6 6 .W1C 0 .plain
def HEL_IRQ_STAT.MEAS_FAIL : Fld := fld0 0x020054 5 5 .W1C 0 .plain
def HEL_IRQ_STAT.MEAS_DONE : Fld := fld0 0x020054 4 4 .W1C 0 .plain
def HEL_IRQ_STAT.QUAR : Fld := fld0 0x020054 3 3 .W1C 0 .plain
def HEL_IRQ_STAT.TRIP : Fld := fld0 0x020054 2 2 .W1C 0 .plain
def HEL_IRQ_STAT.UNAVAIL : Fld := fld0 0x020054 1 1 .W1C 0 .plain
def HEL_IRQ_STAT.PIN : Fld := fld0 0x020054 0 0 .W1C 0 .plain
def HEL_IRQ_EN.LOCK_GUARD : Fld := fld0 0x020058 7 7 .RW 0 .plain
def HEL_IRQ_EN.CAL_FAIL : Fld := fld0 0x020058 6 6 .RW 0 .plain
def HEL_IRQ_EN.MEAS_FAIL : Fld := fld0 0x020058 5 5 .RW 0 .plain
def HEL_IRQ_EN.MEAS_DONE : Fld := fld0 0x020058 4 4 .RW 0 .plain
def HEL_IRQ_EN.QUAR : Fld := fld0 0x020058 3 3 .RW 0 .plain
def HEL_IRQ_EN.TRIP : Fld := fld0 0x020058 2 2 .RW 0 .plain
def HEL_IRQ_EN.UNAVAIL : Fld := fld0 0x020058 1 1 .RW 0 .plain
def HEL_IRQ_EN.PIN : Fld := fld0 0x020058 0 0 .RW 0 .plain
def HEL_CNT_MEAS.COUNT : Fld := fld0 0x02005C 31 0 .RO 0 .plain
def HEL_CNT_SOLVE.COUNT : Fld := fld0 0x020060 31 0 .RO 0 .plain
def HEL_CNT_PIN.COUNT : Fld := fld0 0x020064 31 0 .RO 0 .plain
def HEL_CNT_TRIP.COUNT : Fld := fld0 0x020068 31 0 .RO 0 .plain
def HEL_AMB_CFG.MEAS_SLOT : Fld := fld0 0x02006C 23 16 .RW 4 .plain true
def HEL_AMB_CFG.AMB_MAX : Fld := fld0 0x02006C 15 0 .RW 0x7D0 .plain true
def HEL_LOCK_STAT.F_HI : Fld := fld0 0x020070 31 16 .RO 0 .plate
def HEL_LOCK_STAT.F_LO : Fld := fld0 0x020070 15 0 .RO 0 .plate
def HEL_SOLVE_CTL.ONE : Fld := fld0 0x020074 5 5 .WO 0 .plain
def HEL_SOLVE_CTL.ZONE : Fld := fld0 0x020074 4 0 .WO 0 .plain
def HEL_SOLVE_STAT.ITER : Fld := fld0 0x020078 23 16 .RO 0 .plain
def HEL_SOLVE_STAT.LAST_ZONE : Fld := fld0 0x020078 12 8 .RO 0 .plain
def HEL_SOLVE_STAT.RESULT : Fld := fld0 0x020078 7 0 .RO 0 .plain
def HEL_ZONE_READY.READY : Fld := fld0 0x02007C 31 0 .RO 0 .plain
def HEL_ZONE_STAT.RESULT : Fld := fld1 0x020080 0x4 32 31 24 .RO 0 .plain
def HEL_ZONE_STAT.K : Fld := fld1 0x020080 0x4 32 18 8 .RO 0x400 .plain
def HEL_ZONE_STAT.SHORT : Fld := fld1 0x020080 0x4 32 6 6 .RO 0 .plain
def HEL_ZONE_STAT.PIN_SRC : Fld := fld1 0x020080 0x4 32 5 4 .RO 0 .plain
def HEL_ZONE_STAT.MEASURING : Fld := fld1 0x020080 0x4 32 3 3 .RO 0 .plain
def HEL_ZONE_STAT.STATE : Fld := fld1 0x020080 0x4 32 2 0 .RO 0 .plain
def HEL_CH_CTL.MODE : Fld := fld1 0x021000 0x100 64 1 0 .RW 0 .plain
def HEL_CH_STAT.DRIFT_PCT : Fld := fld1 0x021004 0x100 64 15 8 .RO 0 .plain
def HEL_CH_STAT.SAT : Fld := fld1 0x021004 0x100 64 7 7 .RO 0 .plain
def HEL_CH_STAT.LIMITED : Fld := fld1 0x021004 0x100 64 6 6 .RO 0 .plain
def HEL_CH_STAT.CFAULT : Fld := fld1 0x021004 0x100 64 5 5 .RO 0 .plain
def HEL_CH_STAT.TRIP : Fld := fld1 0x021004 0x100 64 4 4 .W1C 0 .plain
def HEL_CH_STAT.DETUNED : Fld := fld1 0x021004 0x100 64 3 3 .RO 0 .plain
def HEL_CH_STAT.STATE : Fld := fld1 0x021004 0x100 64 2 0 .RO 0 .plain
def HEL_CH_AMP.AMP_TEST : Fld := fld1 0x021008 0x100 64 27 16 .RW 0 .plain
def HEL_CH_AMP.AMP_APPLIED : Fld := fld1 0x021008 0x100 64 11 0 .RO 0 .plain
def HEL_CH_PHASE.PHASE_TEST : Fld := fld1 0x02100C 0x100 64 28 16 .RW 0 .plain
def HEL_CH_PHASE.PHASE_APPLIED : Fld := fld1 0x02100C 0x100 64 12 0 .RO 0 .plain
def HEL_CH_IMEAS.PHASE : Fld := fld1 0x021010 0x100 64 28 16 .RO 0 .plain
def HEL_CH_IMEAS.MA : Fld := fld1 0x021010 0x100 64 15 0 .RO 0 .plain
def HEL_CH_LIMIT.LOCK_MA : Fld := fld1 0x021014 0x100 64 31 16 .RO 0 .plate
def HEL_CH_LIMIT.CEIL_MA : Fld := fld1 0x021014 0x100 64 15 0 .RW 0xFA0 .plain
def HEL_CH_BRIDGE.DEADTIME : Fld := fld1 0x021018 0x100 64 23 16 .RWL 0 .image
def HEL_CH_BRIDGE.VBR_MV : Fld := fld1 0x021018 0x100 64 15 0 .RWL 0 .image
def HEL_CH_TUNE.Q : Fld := fld1 0x02101C 0x100 64 27 16 .RO 0 .plate
def HEL_CH_TUNE.F_RES : Fld := fld1 0x02101C 0x100 64 15 0 .RO 0 .plate
def HEL_CH_SOL.VALID : Fld := fld2 0x021020 0x100 64 0x4 32 31 31 .RO 0 .plain
def HEL_CH_SOL.PHASE : Fld := fld2 0x021020 0x100 64 0x4 32 28 16 .RO 0 .plain
def HEL_CH_SOL.AMP : Fld := fld2 0x021020 0x100 64 0x4 32 11 0 .RO 0 .plain
def HEL_PROFILE.REG : Reg := regOf [HEL_PROFILE.PROFILE]
def HEL_CTL.REG : Reg := regOf [HEL_CTL.CAL_ALL, HEL_CTL.MEAS_ALL, HEL_CTL.SOLVE_ALL, HEL_CTL.CLR_CNT, HEL_CTL.LOCK]
def HEL_STAT.REG : Reg := regOf [HEL_STAT.CH_QUAR, HEL_STAT.ZONES_READY, HEL_STAT.CAL_BUSY, HEL_STAT.SOLVE_BUSY, HEL_STAT.MEAS_BUSY, HEL_STAT.MATRIX_VALID]
def HEL_ZONE_CTL.REG : Reg := regOf [HEL_ZONE_CTL.ENABLE]
def HEL_ZONE_PIN.REG : Reg := regOf [HEL_ZONE_PIN.PINNED]
def HEL_TEST_CARRIER.REG : Reg := regOf [HEL_TEST_CARRIER.CARRIER]
def HEL_MEAS_CFG.REG : Reg := regOf [HEL_MEAS_CFG.MEAS_CYC, HEL_MEAS_CFG.SETTLE, HEL_MEAS_CFG.PROBE_MA]
def HEL_DRIFT_CFG.REG : Reg := regOf [HEL_DRIFT_CFG.REMEAS_S, HEL_DRIFT_CFG.NEIGH, HEL_DRIFT_CFG.DRIFT_PCT]
def HEL_SOLVE_CFG.REG : Reg := regOf [HEL_SOLVE_CFG.TOL, HEL_SOLVE_CFG.MAX_ITER, HEL_SOLVE_CFG.M_OUT, HEL_SOLVE_CFG.M_IN]
def HEL_LOOP_CFG.REG : Reg := regOf [HEL_LOOP_CFG.TOL_PH, HEL_LOOP_CFG.TOL_AMP, HEL_LOOP_CFG.LOOP_CYC]
def HEL_TRIP_CFG.REG : Reg := regOf [HEL_TRIP_CFG.TRIP_MA]
def HEL_MEAS_CTL.REG : Reg := regOf [HEL_MEAS_CTL.ALL, HEL_MEAS_CTL.ONE, HEL_MEAS_CTL.CHANNEL]
def HEL_MEAS_STAT.REG : Reg := regOf [HEL_MEAS_STAT.POSTPONED, HEL_MEAS_STAT.LAST_COL, HEL_MEAS_STAT.ASYM, HEL_MEAS_STAT.RESULT]
def HEL_MEAS_PEND_LO.REG : Reg := regOf [HEL_MEAS_PEND_LO.PEND]
def HEL_MEAS_PEND_HI.REG : Reg := regOf [HEL_MEAS_PEND_HI.PEND]
def HEL_CM_ADDR.REG : Reg := regOf [HEL_CM_ADDR.CARRIER, HEL_CM_ADDR.COL, HEL_CM_ADDR.ROW]
def HEL_CM_DATA.REG : Reg := regOf [HEL_CM_DATA.IM, HEL_CM_DATA.RE]
def HEL_CAL_CTL.REG : Reg := regOf [HEL_CAL_CTL.ALL, HEL_CAL_CTL.ONE, HEL_CAL_CTL.CHANNEL]
def HEL_CAL_STAT.REG : Reg := regOf [HEL_CAL_STAT.LAST_CH, HEL_CAL_STAT.RESULT]
def HEL_QUAR_LO.REG : Reg := regOf [HEL_QUAR_LO.QUAR]
def HEL_QUAR_HI.REG : Reg := regOf [HEL_QUAR_HI.QUAR]
def HEL_IRQ_STAT.REG : Reg := regOf [HEL_IRQ_STAT.LOCK_GUARD, HEL_IRQ_STAT.CAL_FAIL, HEL_IRQ_STAT.MEAS_FAIL, HEL_IRQ_STAT.MEAS_DONE, HEL_IRQ_STAT.QUAR, HEL_IRQ_STAT.TRIP, HEL_IRQ_STAT.UNAVAIL, HEL_IRQ_STAT.PIN]
def HEL_IRQ_EN.REG : Reg := regOf [HEL_IRQ_EN.LOCK_GUARD, HEL_IRQ_EN.CAL_FAIL, HEL_IRQ_EN.MEAS_FAIL, HEL_IRQ_EN.MEAS_DONE, HEL_IRQ_EN.QUAR, HEL_IRQ_EN.TRIP, HEL_IRQ_EN.UNAVAIL, HEL_IRQ_EN.PIN]
def HEL_CNT_MEAS.REG : Reg := regOf [HEL_CNT_MEAS.COUNT]
def HEL_CNT_SOLVE.REG : Reg := regOf [HEL_CNT_SOLVE.COUNT]
def HEL_CNT_PIN.REG : Reg := regOf [HEL_CNT_PIN.COUNT]
def HEL_CNT_TRIP.REG : Reg := regOf [HEL_CNT_TRIP.COUNT]
def HEL_AMB_CFG.REG : Reg := regOf [HEL_AMB_CFG.MEAS_SLOT, HEL_AMB_CFG.AMB_MAX]
def HEL_LOCK_STAT.REG : Reg := regOf [HEL_LOCK_STAT.F_HI, HEL_LOCK_STAT.F_LO]
def HEL_SOLVE_CTL.REG : Reg := regOf [HEL_SOLVE_CTL.ONE, HEL_SOLVE_CTL.ZONE]
def HEL_SOLVE_STAT.REG : Reg := regOf [HEL_SOLVE_STAT.ITER, HEL_SOLVE_STAT.LAST_ZONE, HEL_SOLVE_STAT.RESULT]
def HEL_ZONE_READY.REG : Reg := regOf [HEL_ZONE_READY.READY]
def HEL_ZONE_STAT.REG : Reg := regOf [HEL_ZONE_STAT.RESULT, HEL_ZONE_STAT.K, HEL_ZONE_STAT.SHORT, HEL_ZONE_STAT.PIN_SRC, HEL_ZONE_STAT.MEASURING, HEL_ZONE_STAT.STATE]
def HEL_CH_CTL.REG : Reg := regOf [HEL_CH_CTL.MODE]
def HEL_CH_STAT.REG : Reg := regOf [HEL_CH_STAT.DRIFT_PCT, HEL_CH_STAT.SAT, HEL_CH_STAT.LIMITED, HEL_CH_STAT.CFAULT, HEL_CH_STAT.TRIP, HEL_CH_STAT.DETUNED, HEL_CH_STAT.STATE]
def HEL_CH_AMP.REG : Reg := regOf [HEL_CH_AMP.AMP_TEST, HEL_CH_AMP.AMP_APPLIED]
def HEL_CH_PHASE.REG : Reg := regOf [HEL_CH_PHASE.PHASE_TEST, HEL_CH_PHASE.PHASE_APPLIED]
def HEL_CH_IMEAS.REG : Reg := regOf [HEL_CH_IMEAS.PHASE, HEL_CH_IMEAS.MA]
def HEL_CH_LIMIT.REG : Reg := regOf [HEL_CH_LIMIT.LOCK_MA, HEL_CH_LIMIT.CEIL_MA]
def HEL_CH_BRIDGE.REG : Reg := regOf [HEL_CH_BRIDGE.DEADTIME, HEL_CH_BRIDGE.VBR_MV]
def HEL_CH_TUNE.REG : Reg := regOf [HEL_CH_TUNE.Q, HEL_CH_TUNE.F_RES]
def HEL_CH_SOL.REG : Reg := regOf [HEL_CH_SOL.VALID, HEL_CH_SOL.PHASE, HEL_CH_SOL.AMP]

def regsHel0 : List Reg := [
  HEL_PROFILE.REG, HEL_CTL.REG, HEL_STAT.REG, HEL_ZONE_CTL.REG, HEL_ZONE_PIN.REG, HEL_TEST_CARRIER.REG, HEL_MEAS_CFG.REG, HEL_DRIFT_CFG.REG, HEL_SOLVE_CFG.REG, HEL_LOOP_CFG.REG, HEL_TRIP_CFG.REG, HEL_MEAS_CTL.REG]

def regsHel1 : List Reg := [
  HEL_MEAS_STAT.REG, HEL_MEAS_PEND_LO.REG, HEL_MEAS_PEND_HI.REG, HEL_CM_ADDR.REG, HEL_CM_DATA.REG, HEL_CAL_CTL.REG, HEL_CAL_STAT.REG, HEL_QUAR_LO.REG, HEL_QUAR_HI.REG, HEL_IRQ_STAT.REG, HEL_IRQ_EN.REG, HEL_CNT_MEAS.REG]

def regsHel2 : List Reg := [
  HEL_CNT_SOLVE.REG, HEL_CNT_PIN.REG, HEL_CNT_TRIP.REG, HEL_AMB_CFG.REG, HEL_LOCK_STAT.REG, HEL_SOLVE_CTL.REG, HEL_SOLVE_STAT.REG, HEL_ZONE_READY.REG, HEL_ZONE_STAT.REG, HEL_CH_CTL.REG, HEL_CH_STAT.REG, HEL_CH_AMP.REG]

def regsHel3 : List Reg := [
  HEL_CH_PHASE.REG, HEL_CH_IMEAS.REG, HEL_CH_LIMIT.REG, HEL_CH_BRIDGE.REG, HEL_CH_TUNE.REG, HEL_CH_SOL.REG]

/-- The registers of block HEL. -/
def regsHel : List Reg := regsHel0 ++ regsHel1 ++ regsHel2 ++ regsHel3

/-! ## LFP, 04_lf_polling_and_receive.md -/

def LFP_PROFILE.PROFILE : Fld := fld0 0x030000 3 0 .RW 0 .image
def LFP_CTL.S3_ENTRY : Fld := fld0 0x030004 21 16 .RW 0 .image
def LFP_CTL.SCHED_EN : Fld := fld0 0x030004 8 8 .RW 0 .image
def LFP_CTL.CLR_CNT : Fld := fld0 0x030004 1 1 .WO 0 .plain
def LFP_CTL.LOCK : Fld := fld0 0x030004 0 0 .W1S 0 .plain
def LFP_STAT.EXCH_ACTIVE : Fld := fld0 0x030008 31 24 .RO 0 .plain
def LFP_STAT.DIRECTED_PEND : Fld := fld0 0x030008 23 16 .RO 0 .plain
def LFP_STAT.HOP_PERMIT : Fld := fld0 0x030008 10 8 .RO 0 .plate
def LFP_STAT.MON_ACTIVE : Fld := fld0 0x030008 0 0 .RO 0 .plain
def LFP_HOP.CARRIER : Fld := fld1 0x03000C 0x4 3 20 0 .RWL 0 .text
def LFP_RX_CFG.MOD : Fld := fld0 0x030018 9 8 .RW 0 .plain true
def LFP_RX_CFG.RATE : Fld := fld0 0x030018 5 4 .RW 2 .plain true
def LFP_RX_CFG.FMT : Fld := fld0 0x030018 0 0 .RW 0 .plain true
def LFP_TIMING_CFG.HOP_GAP : Fld := fld0 0x03001C 31 24 .RW 0x14 .plain true
def LFP_TIMING_CFG.TURN_MAX : Fld := fld0 0x03001C 23 16 .RW 0x32 .plain true
def LFP_TIMING_CFG.TURN_MIN : Fld := fld0 0x03001C 15 8 .RW 0x14 .plain true
def LFP_DROWN_CFG.INT_DB : Fld := fld0 0x030020 31 24 .RW 0xC .plain true
def LFP_DROWN_CFG.SNR_MIN : Fld := fld0 0x030020 23 16 .RW 0x18 .plain true
def LFP_DROWN_CFG.Q_ERASE : Fld := fld0 0x030020 15 8 .RW 0xC .plain true
def LFP_DROWN_CFG.ERASE_MAX : Fld := fld0 0x030020 3 0 .RW 2 .plain true
def LFP_WAKE_CFG.WAKE_WIN : Fld := fld0 0x030024 31 16 .RW 0x32 .plain true
def LFP_WAKE_CFG.TRY_MAX : Fld := fld0 0x030024 3 0 .RW 6 .plain true
def LFP_MON_CFG.MON_PERIOD : Fld := fld0 0x030028 31 16 .RW 0x64 .plain true
def LFP_MON_CFG.NOISE_MAX : Fld := fld0 0x030028 15 8 .RW 0xA .plain true
def LFP_FAULT_CFG.PH_DEG : Fld := fld0 0x03002C 31 24 .RWL 0x2D .plain
def LFP_FAULT_CFG.SHORT_PCT : Fld := fld0 0x03002C 23 16 .RWL 0x14 .plain
def LFP_FAULT_CFG.OPEN_PCT : Fld := fld0 0x03002C 15 8 .RWL 0x19 .plain
def LFP_FAULT_CFG.PILOT_UA : Fld := fld0 0x03002C 7 0 .RWL 0xA .plain
def LFP_IRQ_STAT.CARRIER_BLOCKED : Fld := fld0 0x030030 7 7 .W1C 0 .plain
def LFP_IRQ_STAT.SKIP : Fld := fld0 0x030030 6 6 .W1C 0 .plain
def LFP_IRQ_STAT.COLLISION : Fld := fld0 0x030030 5 5 .W1C 0 .plain
def LFP_IRQ_STAT.LATE : Fld := fld0 0x030030 4 4 .W1C 0 .plain
def LFP_IRQ_STAT.VOID : Fld := fld0 0x030030 3 3 .W1C 0 .plain
def LFP_IRQ_STAT.CFAULT : Fld := fld0 0x030030 2 2 .W1C 0 .plain
def LFP_IRQ_STAT.HOP_EXHAUST : Fld := fld0 0x030030 1 1 .W1C 0 .plain
def LFP_IRQ_STAT.DROWN : Fld := fld0 0x030030 0 0 .W1C 0 .plain
def LFP_IRQ_EN.CARRIER_BLOCKED : Fld := fld0 0x030034 7 7 .RW 0 .plain
def LFP_IRQ_EN.SKIP : Fld := fld0 0x030034 6 6 .RW 0 .plain
def LFP_IRQ_EN.COLLISION : Fld := fld0 0x030034 5 5 .RW 0 .plain
def LFP_IRQ_EN.LATE : Fld := fld0 0x030034 4 4 .RW 0 .plain
def LFP_IRQ_EN.VOID : Fld := fld0 0x030034 3 3 .RW 0 .plain
def LFP_IRQ_EN.CFAULT : Fld := fld0 0x030034 2 2 .RW 0 .plain
def LFP_IRQ_EN.HOP_EXHAUST : Fld := fld0 0x030034 1 1 .RW 0 .plain
def LFP_IRQ_EN.DROWN : Fld := fld0 0x030034 0 0 .RW 0 .plain
def LFP_NOISE.STALE : Fld := fld1 0x030038 0x4 3 16 16 .RO 1 .plain
def LFP_NOISE.NOISE : Fld := fld1 0x030038 0x4 3 15 0 .RO 0 .plain
def LFP_SPUR.LEVEL : Fld := fld1 0x030044 0x4 4 31 24 .RO 0 .plain
def LFP_SPUR.FREQ : Fld := fld1 0x030044 0x4 4 20 0 .RO 0 .plain
def LFP_CNT_WAKE.COUNT : Fld := fld0 0x030054 31 0 .RO 0 .plain
def LFP_CNT_REPLY.COUNT : Fld := fld0 0x030058 31 0 .RO 0 .plain
def LFP_CNT_CRC.COUNT : Fld := fld0 0x03005C 31 0 .RO 0 .plain
def LFP_CNT_DROWN.COUNT : Fld := fld0 0x030060 31 0 .RO 0 .plain
def LFP_CNT_VOID.COUNT : Fld := fld0 0x030064 31 0 .RO 0 .plain
def LFP_CNT_LATE.COUNT : Fld := fld0 0x030068 31 0 .RO 0 .plain
def LFP_CNT_CFAULT.COUNT : Fld := fld0 0x03006C 31 0 .RO 0 .plain
def LFP_EVT_CODE.KIND : Fld := fld0 0x030070 31 28 .RO 0 .plain
def LFP_EVT_CODE.CARRIER : Fld := fld0 0x030070 25 24 .RO 0 .plain
def LFP_EVT_CODE.CHANNEL : Fld := fld0 0x030070 21 16 .RO 0 .plain
def LFP_EVT_CODE.ZONE : Fld := fld0 0x030070 12 8 .RO 0 .plain
def LFP_EVT_CODE.DIRECTED : Fld := fld0 0x030070 7 7 .RO 0 .plain
def LFP_EVT_CODE.ENTRY : Fld := fld0 0x030070 5 0 .RO 0 .plain
def LFP_EVT_STAMP_LO.STAMP : Fld := fld0 0x030074 31 0 .RO 0 .plain
def LFP_EVT_STAMP_HI.STAMP : Fld := fld0 0x030078 31 0 .RO 0 .plain
def LFP_CNT_DEFER.SKIPPED : Fld := fld0 0x03007C 31 16 .RO 0 .plain
def LFP_CNT_DEFER.DEFERRED : Fld := fld0 0x03007C 15 0 .RO 0 .plain
def LFP_ISO.ISO : Fld := fld1 0x030080 0x4 32 31 0 .RWL 0 .image
def LFP_SCHED_CTL.EN : Fld := fld1 0x031000 0x10 64 31 31 .RW 0 .image
def LFP_SCHED_CTL.HOME : Fld := fld1 0x031000 0x10 64 27 26 .RW 0 .image
def LFP_SCHED_CTL.MOD : Fld := fld1 0x031000 0x10 64 23 22 .RW 0 .image
def LFP_SCHED_CTL.RATE : Fld := fld1 0x031000 0x10 64 21 20 .RW 0 .image
def LFP_SCHED_CTL.FMT : Fld := fld1 0x031000 0x10 64 19 19 .RW 0 .image
def LFP_SCHED_CTL.WAKE_ID : Fld := fld1 0x031000 0x10 64 15 8 .RW 0 .image
def LFP_SCHED_CTL.ZONE : Fld := fld1 0x031000 0x10 64 4 0 .RW 0 .image
def LFP_SCHED_TIME.PHASE_MS : Fld := fld1 0x031004 0x10 64 31 16 .RW 0 .image
def LFP_SCHED_TIME.PERIOD_MS : Fld := fld1 0x031004 0x10 64 15 0 .RW 0 .image
def LFP_SCHED_STAT.LAST_KIND : Fld := fld1 0x031008 0x10 64 23 20 .RO 0 .plain
def LFP_SCHED_STAT.LAST_CARRIER : Fld := fld1 0x031008 0x10 64 17 16 .RO 0 .plain
def LFP_SCHED_STAT.LAST_DELAY_US : Fld := fld1 0x031008 0x10 64 15 0 .RO 0 .plain
def LFP_SCHED_CNT.REPLIES : Fld := fld1 0x03100C 0x10 64 31 16 .RO 0 .plain
def LFP_SCHED_CNT.POLLS : Fld := fld1 0x03100C 0x10 64 15 0 .RO 0 .plain
def LFP_CH_STAT.CFAULT_CNT : Fld := fld1 0x032000 0x8 64 31 16 .RO 0 .plain
def LFP_CH_STAT.RX : Fld := fld1 0x032000 0x8 64 7 7 .RO 0 .plain
def LFP_CH_STAT.INVALID : Fld := fld1 0x032000 0x8 64 6 6 .W1C 0 .plain
def LFP_CH_STAT.FAULT : Fld := fld1 0x032000 0x8 64 2 0 .RO 0 .plain
def LFP_CH_SNR.NOISE : Fld := fld1 0x032004 0x8 64 31 16 .RO 0 .plain
def LFP_CH_SNR.SNR : Fld := fld1 0x032004 0x8 64 15 0 .RO 0 .plain
def LFP_PROFILE.REG : Reg := regOf [LFP_PROFILE.PROFILE]
def LFP_CTL.REG : Reg := regOf [LFP_CTL.S3_ENTRY, LFP_CTL.SCHED_EN, LFP_CTL.CLR_CNT, LFP_CTL.LOCK]
def LFP_STAT.REG : Reg := regOf [LFP_STAT.EXCH_ACTIVE, LFP_STAT.DIRECTED_PEND, LFP_STAT.HOP_PERMIT, LFP_STAT.MON_ACTIVE]
def LFP_HOP.REG : Reg := regOf [LFP_HOP.CARRIER]
def LFP_RX_CFG.REG : Reg := regOf [LFP_RX_CFG.MOD, LFP_RX_CFG.RATE, LFP_RX_CFG.FMT]
def LFP_TIMING_CFG.REG : Reg := regOf [LFP_TIMING_CFG.HOP_GAP, LFP_TIMING_CFG.TURN_MAX, LFP_TIMING_CFG.TURN_MIN]
def LFP_DROWN_CFG.REG : Reg := regOf [LFP_DROWN_CFG.INT_DB, LFP_DROWN_CFG.SNR_MIN, LFP_DROWN_CFG.Q_ERASE, LFP_DROWN_CFG.ERASE_MAX]
def LFP_WAKE_CFG.REG : Reg := regOf [LFP_WAKE_CFG.WAKE_WIN, LFP_WAKE_CFG.TRY_MAX]
def LFP_MON_CFG.REG : Reg := regOf [LFP_MON_CFG.MON_PERIOD, LFP_MON_CFG.NOISE_MAX]
def LFP_FAULT_CFG.REG : Reg := regOf [LFP_FAULT_CFG.PH_DEG, LFP_FAULT_CFG.SHORT_PCT, LFP_FAULT_CFG.OPEN_PCT, LFP_FAULT_CFG.PILOT_UA]
def LFP_IRQ_STAT.REG : Reg := regOf [LFP_IRQ_STAT.CARRIER_BLOCKED, LFP_IRQ_STAT.SKIP, LFP_IRQ_STAT.COLLISION, LFP_IRQ_STAT.LATE, LFP_IRQ_STAT.VOID, LFP_IRQ_STAT.CFAULT, LFP_IRQ_STAT.HOP_EXHAUST, LFP_IRQ_STAT.DROWN]
def LFP_IRQ_EN.REG : Reg := regOf [LFP_IRQ_EN.CARRIER_BLOCKED, LFP_IRQ_EN.SKIP, LFP_IRQ_EN.COLLISION, LFP_IRQ_EN.LATE, LFP_IRQ_EN.VOID, LFP_IRQ_EN.CFAULT, LFP_IRQ_EN.HOP_EXHAUST, LFP_IRQ_EN.DROWN]
def LFP_NOISE.REG : Reg := regOf [LFP_NOISE.STALE, LFP_NOISE.NOISE]
def LFP_SPUR.REG : Reg := regOf [LFP_SPUR.LEVEL, LFP_SPUR.FREQ]
def LFP_CNT_WAKE.REG : Reg := regOf [LFP_CNT_WAKE.COUNT]
def LFP_CNT_REPLY.REG : Reg := regOf [LFP_CNT_REPLY.COUNT]
def LFP_CNT_CRC.REG : Reg := regOf [LFP_CNT_CRC.COUNT]
def LFP_CNT_DROWN.REG : Reg := regOf [LFP_CNT_DROWN.COUNT]
def LFP_CNT_VOID.REG : Reg := regOf [LFP_CNT_VOID.COUNT]
def LFP_CNT_LATE.REG : Reg := regOf [LFP_CNT_LATE.COUNT]
def LFP_CNT_CFAULT.REG : Reg := regOf [LFP_CNT_CFAULT.COUNT]
def LFP_EVT_CODE.REG : Reg := regOf [LFP_EVT_CODE.KIND, LFP_EVT_CODE.CARRIER, LFP_EVT_CODE.CHANNEL, LFP_EVT_CODE.ZONE, LFP_EVT_CODE.DIRECTED, LFP_EVT_CODE.ENTRY]
def LFP_EVT_STAMP_LO.REG : Reg := regOf [LFP_EVT_STAMP_LO.STAMP]
def LFP_EVT_STAMP_HI.REG : Reg := regOf [LFP_EVT_STAMP_HI.STAMP]
def LFP_CNT_DEFER.REG : Reg := regOf [LFP_CNT_DEFER.SKIPPED, LFP_CNT_DEFER.DEFERRED]
def LFP_ISO.REG : Reg := regOf [LFP_ISO.ISO]
def LFP_SCHED_CTL.REG : Reg := regOf [LFP_SCHED_CTL.EN, LFP_SCHED_CTL.HOME, LFP_SCHED_CTL.MOD, LFP_SCHED_CTL.RATE, LFP_SCHED_CTL.FMT, LFP_SCHED_CTL.WAKE_ID, LFP_SCHED_CTL.ZONE]
def LFP_SCHED_TIME.REG : Reg := regOf [LFP_SCHED_TIME.PHASE_MS, LFP_SCHED_TIME.PERIOD_MS]
def LFP_SCHED_STAT.REG : Reg := regOf [LFP_SCHED_STAT.LAST_KIND, LFP_SCHED_STAT.LAST_CARRIER, LFP_SCHED_STAT.LAST_DELAY_US]
def LFP_SCHED_CNT.REG : Reg := regOf [LFP_SCHED_CNT.REPLIES, LFP_SCHED_CNT.POLLS]
def LFP_CH_STAT.REG : Reg := regOf [LFP_CH_STAT.CFAULT_CNT, LFP_CH_STAT.RX, LFP_CH_STAT.INVALID, LFP_CH_STAT.FAULT]
def LFP_CH_SNR.REG : Reg := regOf [LFP_CH_SNR.NOISE, LFP_CH_SNR.SNR]

def regsLfp0 : List Reg := [
  LFP_PROFILE.REG, LFP_CTL.REG, LFP_STAT.REG, LFP_HOP.REG, LFP_RX_CFG.REG, LFP_TIMING_CFG.REG, LFP_DROWN_CFG.REG, LFP_WAKE_CFG.REG, LFP_MON_CFG.REG, LFP_FAULT_CFG.REG, LFP_IRQ_STAT.REG, LFP_IRQ_EN.REG]

def regsLfp1 : List Reg := [
  LFP_NOISE.REG, LFP_SPUR.REG, LFP_CNT_WAKE.REG, LFP_CNT_REPLY.REG, LFP_CNT_CRC.REG, LFP_CNT_DROWN.REG, LFP_CNT_VOID.REG, LFP_CNT_LATE.REG, LFP_CNT_CFAULT.REG, LFP_EVT_CODE.REG, LFP_EVT_STAMP_LO.REG, LFP_EVT_STAMP_HI.REG]

def regsLfp2 : List Reg := [
  LFP_CNT_DEFER.REG, LFP_ISO.REG, LFP_SCHED_CTL.REG, LFP_SCHED_TIME.REG, LFP_SCHED_STAT.REG, LFP_SCHED_CNT.REG, LFP_CH_STAT.REG, LFP_CH_SNR.REG]

/-- The registers of block LFP. -/
def regsLfp : List Reg := regsLfp0 ++ regsLfp1 ++ regsLfp2

/-! ## RAD, 05_radio_states_and_limits.md -/

def RAD_PROFILE.PROFILE : Fld := fld0 0x040000 3 0 .RW 0 .image
def RAD_CTL.S3_TRX : Fld := fld0 0x040004 20 16 .RW 0 .image
def RAD_CTL.CLR_CNT : Fld := fld0 0x040004 1 1 .WO 0 .plain
def RAD_CTL.LOCK : Fld := fld0 0x040004 0 0 .W1S 0 .plain
def RAD_STAT.LEDGER_READY : Fld := fld0 0x040008 2 2 .RO 0 .plain
def RAD_STAT.LOCK_VALID : Fld := fld0 0x040008 1 1 .RO 0 .plate
def RAD_STAT.CAL_BUSY : Fld := fld0 0x040008 0 0 .RO 0 .plain
def RAD_IRQ_STAT.LOCK_CHANGE : Fld := fld0 0x04000C 6 6 .W1C 0 .plain
def RAD_IRQ_STAT.CUT : Fld := fld0 0x04000C 5 5 .W1C 0 .plain
def RAD_IRQ_STAT.REFUSE : Fld := fld0 0x04000C 4 4 .W1C 0 .plain
def RAD_IRQ_STAT.PORT_FAULT : Fld := fld0 0x04000C 3 3 .W1C 0 .plain
def RAD_IRQ_STAT.FAULT : Fld := fld0 0x04000C 2 2 .W1C 0 .plain
def RAD_IRQ_STAT.LATE_LOCK : Fld := fld0 0x04000C 1 1 .W1C 0 .plain
def RAD_IRQ_STAT.CAL_FAIL : Fld := fld0 0x04000C 0 0 .W1C 0 .plain
def RAD_IRQ_EN.LOCK_CHANGE : Fld := fld0 0x040010 6 6 .RW 0 .plain
def RAD_IRQ_EN.CUT : Fld := fld0 0x040010 5 5 .RW 0 .plain
def RAD_IRQ_EN.REFUSE : Fld := fld0 0x040010 4 4 .RW 0 .plain
def RAD_IRQ_EN.PORT_FAULT : Fld := fld0 0x040010 3 3 .RW 0 .plain
def RAD_IRQ_EN.FAULT : Fld := fld0 0x040010 2 2 .RW 0 .plain
def RAD_IRQ_EN.LATE_LOCK : Fld := fld0 0x040010 1 1 .RW 0 .plain
def RAD_IRQ_EN.CAL_FAIL : Fld := fld0 0x040010 0 0 .RW 0 .plain
def RAD_FAULT.FAULT : Fld := fld0 0x040014 19 0 .RO 0 .plain
def RAD_IDLE_CFG.STBY_HOLD : Fld := fld0 0x040018 31 16 .RW 0x64 .plain true
def RAD_IDLE_CFG.SYNTH_HOLD : Fld := fld0 0x040018 15 0 .RW 0xC8 .plain true
def RAD_CAL_CFG.CAL_DT : Fld := fld0 0x04001C 31 24 .RW 5 .plain true
def RAD_CAL_CFG.RL_MIN : Fld := fld0 0x04001C 23 16 .RW 0x3C .plain true
def RAD_CAL_CFG.RL_FAULT : Fld := fld0 0x04001C 15 8 .RW 0x1E .plain true
def RAD_CAL_CTL.ALL : Fld := fld0 0x040020 7 7 .WO 0 .plain
def RAD_CAL_CTL.ONE : Fld := fld0 0x040020 6 6 .WO 0 .plain
def RAD_CAL_CTL.TRX : Fld := fld0 0x040020 4 0 .WO 0 .plain
def RAD_CAL_STAT.LAST_TRX : Fld := fld0 0x040024 20 16 .RO 0 .plain
def RAD_CAL_STAT.LAST_ITEM : Fld := fld0 0x040024 11 8 .RO 0 .plain
def RAD_CAL_STAT.RESULT : Fld := fld0 0x040024 7 0 .RO 0 .plain
def RAD_S3_CFG.S3_PERIOD : Fld := fld0 0x040028 31 16 .RW 0xC8 .plain
def RAD_S3_CFG.S3_ON : Fld := fld0 0x040028 15 0 .RW 0x28 .plain
def RAD_LOCK_STAT.SEQ : Fld := fld0 0x04002C 31 0 .RO 0 .plate
def RAD_LOCK_UWB_A.PERMIT : Fld := fld1 0x040030 0x8 2 31 31 .RO 0 .plate
def RAD_LOCK_UWB_A.MAX_STEP : Fld := fld1 0x040030 0x8 2 21 16 .RO 0 .plate
def RAD_LOCK_UWB_A.DUTY : Fld := fld1 0x040030 0x8 2 13 0 .RO 0 .plate
def RAD_LOCK_UWB_B.MAX_TON : Fld := fld1 0x040034 0x8 2 15 0 .RO 0 .plate
def RAD_LOCK_UHF_LO.F_LO : Fld := fld1 0x040040 0x10 8 19 0 .RO 0 .plate
def RAD_LOCK_UHF_HI.F_HI : Fld := fld1 0x040044 0x10 8 19 0 .RO 0 .plate
def RAD_LOCK_UHF_LIM.VALID : Fld := fld1 0x040048 0x10 8 31 31 .RO 0 .plate
def RAD_LOCK_UHF_LIM.ASK : Fld := fld1 0x040048 0x10 8 30 30 .RO 0 .plate
def RAD_LOCK_UHF_LIM.FSK : Fld := fld1 0x040048 0x10 8 29 29 .RO 0 .plate
def RAD_LOCK_UHF_LIM.MAX_STEP : Fld := fld1 0x040048 0x10 8 20 16 .RO 0 .plate
def RAD_LOCK_UHF_LIM.DUTY : Fld := fld1 0x040048 0x10 8 13 0 .RO 0 .plate
def RAD_LOCK_UHF_TON.MAX_TON : Fld := fld1 0x04004C 0x10 8 15 0 .RO 0 .plate
def RAD_CNT_REFUSE.COUNT : Fld := fld0 0x0400C0 31 0 .RO 0 .plain
def RAD_CNT_CUT.COUNT : Fld := fld0 0x0400C4 31 0 .RO 0 .plain
def RAD_CNT_LATE.COUNT : Fld := fld0 0x0400C8 31 0 .RO 0 .plain
def RAD_CNT_SUPER.COUNT : Fld := fld0 0x0400CC 31 0 .RO 0 .plain
def RAD_TEMP.TEMP : Fld := fld0 0x0400D0 15 0 .RO 0 .plain
def RAD_UWB_STEP.LEVEL : Fld := fld1 0x040100 0x4 64 31 16 .RO 0 .text
def RAD_UWB_STEP.CODE : Fld := fld1 0x040100 0x4 64 11 0 .FUS 0 .fuse
def RAD_UHF_STEP.LEVEL : Fld := fld1 0x040200 0x4 32 31 16 .RO 0 .text
def RAD_UHF_STEP.CODE : Fld := fld1 0x040200 0x4 32 11 0 .FUS 0 .fuse
def RAD_TRX_CTL.PORT_EN : Fld := fld1 0x041000 0x200 20 8 8 .RWL 0 .image
def RAD_TRX_CTL.PARK : Fld := fld1 0x041000 0x200 20 1 1 .RW 0 .plain
def RAD_TRX_STAT.LAST_CODE : Fld := fld1 0x041004 0x200 20 31 24 .RO 0 .plain
def RAD_TRX_STAT.OWNER : Fld := fld1 0x041004 0x200 20 23 20 .RO 0 .plain
def RAD_TRX_STAT.STEP_EFF : Fld := fld1 0x041004 0x200 20 15 10 .RO 0 .plain
def RAD_TRX_STAT.PORT_FAULT : Fld := fld1 0x041004 0x200 20 9 9 .RO 0 .plain
def RAD_TRX_STAT.REG_PINNED : Fld := fld1 0x041004 0x200 20 7 7 .RO 0 .plain
def RAD_TRX_STAT.MOVING : Fld := fld1 0x041004 0x200 20 6 6 .RO 0 .plain
def RAD_TRX_STAT.TARGET : Fld := fld1 0x041004 0x200 20 5 3 .RO 0 .plain
def RAD_TRX_STAT.STATE : Fld := fld1 0x041004 0x200 20 2 0 .RO 0 .plain
def RAD_TRX_CHAN.CH9 : Fld := fld1 0x041008 0x200 20 31 31 .RO 0 .plain
def RAD_TRX_CHAN.FREQ : Fld := fld1 0x041008 0x200 20 23 0 .RO 0 .plain
def RAD_TRX_GAIN.GAIN_EFF : Fld := fld1 0x04100C 0x200 20 31 24 .RO 0 .fuse
def RAD_TRX_GAIN.GAIN_U : Fld := fld1 0x04100C 0x200 20 23 16 .RO 0 .plate
def RAD_TRX_GAIN.GAIN_F : Fld := fld1 0x04100C 0x200 20 15 8 .FUS 0 .fuse
def RAD_TRX_GAIN.CLAMPED : Fld := fld1 0x04100C 0x200 20 0 0 .RO 0 .plain
def RAD_TRX_UHF_CFG.DEV : Fld := fld1 0x041010 0x200 20 31 24 .RW 0x14 .plain
def RAD_TRX_UHF_CFG.RXBW : Fld := fld1 0x041010 0x200 20 23 20 .RW 2 .plain
def RAD_TRX_UHF_CFG.RATE : Fld := fld1 0x041010 0x200 20 19 16 .RW 5 .plain
def RAD_TRX_UHF_CFG.CRC_EN : Fld := fld1 0x041010 0x200 20 15 15 .RW 1 .plain
def RAD_TRX_UHF_CFG.LEN_VAR : Fld := fld1 0x041010 0x200 20 14 14 .RW 1 .plain
def RAD_TRX_UHF_CFG.SYNC32 : Fld := fld1 0x041010 0x200 20 13 13 .RW 1 .plain
def RAD_TRX_UHF_CFG.ENC : Fld := fld1 0x041010 0x200 20 12 12 .RW 0 .plain
def RAD_TRX_UHF_CFG.MOD : Fld := fld1 0x041010 0x200 20 9 8 .RW 0 .plain
def RAD_TRX_UHF_CFG.PREAMBLE : Fld := fld1 0x041010 0x200 20 7 0 .RW 8 .plain
def RAD_TRX_SYNC.SYNC : Fld := fld1 0x041014 0x200 20 31 0 .RW 0 .image
def RAD_TRX_DUTY.USED_MS : Fld := fld2 0x041020 0x200 20 0x4 8 21 0 .RO 0 .plate
def RAD_TRX_REFL.RL : Fld := fld1 0x041040 0x200 20 15 0 .RO 0 .plain
def RAD_TRX_CAL.RESULT : Fld := fld1 0x041044 0x200 20 31 24 .RO 0 .plain
def RAD_TRX_CAL.TEMP : Fld := fld1 0x041044 0x200 20 23 16 .RO 0 .plain
def RAD_TRX_CAL.VALID : Fld := fld1 0x041044 0x200 20 3 0 .RO 0 .plain
def RAD_TRX_STAMP_LO.STAMP : Fld := fld1 0x041048 0x200 20 31 0 .RO 0 .plain
def RAD_TRX_STAMP_HI.STAMP : Fld := fld1 0x04104C 0x200 20 31 0 .RO 0 .plain
def RAD_TRX_CNT_TX.COUNT : Fld := fld1 0x041050 0x200 20 31 0 .RO 0 .plain
def RAD_TRX_CNT_REFUSE.COUNT : Fld := fld1 0x041054 0x200 20 31 0 .RO 0 .plain
def RAD_TRX_CNT_CRC.COUNT : Fld := fld1 0x041058 0x200 20 31 0 .RO 0 .plain
def RAD_PROFILE.REG : Reg := regOf [RAD_PROFILE.PROFILE]
def RAD_CTL.REG : Reg := regOf [RAD_CTL.S3_TRX, RAD_CTL.CLR_CNT, RAD_CTL.LOCK]
def RAD_STAT.REG : Reg := regOf [RAD_STAT.LEDGER_READY, RAD_STAT.LOCK_VALID, RAD_STAT.CAL_BUSY]
def RAD_IRQ_STAT.REG : Reg := regOf [RAD_IRQ_STAT.LOCK_CHANGE, RAD_IRQ_STAT.CUT, RAD_IRQ_STAT.REFUSE, RAD_IRQ_STAT.PORT_FAULT, RAD_IRQ_STAT.FAULT, RAD_IRQ_STAT.LATE_LOCK, RAD_IRQ_STAT.CAL_FAIL]
def RAD_IRQ_EN.REG : Reg := regOf [RAD_IRQ_EN.LOCK_CHANGE, RAD_IRQ_EN.CUT, RAD_IRQ_EN.REFUSE, RAD_IRQ_EN.PORT_FAULT, RAD_IRQ_EN.FAULT, RAD_IRQ_EN.LATE_LOCK, RAD_IRQ_EN.CAL_FAIL]
def RAD_FAULT.REG : Reg := regOf [RAD_FAULT.FAULT]
def RAD_IDLE_CFG.REG : Reg := regOf [RAD_IDLE_CFG.STBY_HOLD, RAD_IDLE_CFG.SYNTH_HOLD]
def RAD_CAL_CFG.REG : Reg := regOf [RAD_CAL_CFG.CAL_DT, RAD_CAL_CFG.RL_MIN, RAD_CAL_CFG.RL_FAULT]
def RAD_CAL_CTL.REG : Reg := regOf [RAD_CAL_CTL.ALL, RAD_CAL_CTL.ONE, RAD_CAL_CTL.TRX]
def RAD_CAL_STAT.REG : Reg := regOf [RAD_CAL_STAT.LAST_TRX, RAD_CAL_STAT.LAST_ITEM, RAD_CAL_STAT.RESULT]
def RAD_S3_CFG.REG : Reg := regOf [RAD_S3_CFG.S3_PERIOD, RAD_S3_CFG.S3_ON]
def RAD_LOCK_STAT.REG : Reg := regOf [RAD_LOCK_STAT.SEQ]
def RAD_LOCK_UWB_A.REG : Reg := regOf [RAD_LOCK_UWB_A.PERMIT, RAD_LOCK_UWB_A.MAX_STEP, RAD_LOCK_UWB_A.DUTY]
def RAD_LOCK_UWB_B.REG : Reg := regOf [RAD_LOCK_UWB_B.MAX_TON]
def RAD_LOCK_UHF_LO.REG : Reg := regOf [RAD_LOCK_UHF_LO.F_LO]
def RAD_LOCK_UHF_HI.REG : Reg := regOf [RAD_LOCK_UHF_HI.F_HI]
def RAD_LOCK_UHF_LIM.REG : Reg := regOf [RAD_LOCK_UHF_LIM.VALID, RAD_LOCK_UHF_LIM.ASK, RAD_LOCK_UHF_LIM.FSK, RAD_LOCK_UHF_LIM.MAX_STEP, RAD_LOCK_UHF_LIM.DUTY]
def RAD_LOCK_UHF_TON.REG : Reg := regOf [RAD_LOCK_UHF_TON.MAX_TON]
def RAD_CNT_REFUSE.REG : Reg := regOf [RAD_CNT_REFUSE.COUNT]
def RAD_CNT_CUT.REG : Reg := regOf [RAD_CNT_CUT.COUNT]
def RAD_CNT_LATE.REG : Reg := regOf [RAD_CNT_LATE.COUNT]
def RAD_CNT_SUPER.REG : Reg := regOf [RAD_CNT_SUPER.COUNT]
def RAD_TEMP.REG : Reg := regOf [RAD_TEMP.TEMP]
def RAD_UWB_STEP.REG : Reg := regOf [RAD_UWB_STEP.LEVEL, RAD_UWB_STEP.CODE]
def RAD_UHF_STEP.REG : Reg := regOf [RAD_UHF_STEP.LEVEL, RAD_UHF_STEP.CODE]
def RAD_TRX_CTL.REG : Reg := regOf [RAD_TRX_CTL.PORT_EN, RAD_TRX_CTL.PARK]
def RAD_TRX_STAT.REG : Reg := regOf [RAD_TRX_STAT.LAST_CODE, RAD_TRX_STAT.OWNER, RAD_TRX_STAT.STEP_EFF, RAD_TRX_STAT.PORT_FAULT, RAD_TRX_STAT.REG_PINNED, RAD_TRX_STAT.MOVING, RAD_TRX_STAT.TARGET, RAD_TRX_STAT.STATE]
def RAD_TRX_CHAN.REG : Reg := regOf [RAD_TRX_CHAN.CH9, RAD_TRX_CHAN.FREQ]
def RAD_TRX_GAIN.REG : Reg := regOf [RAD_TRX_GAIN.GAIN_EFF, RAD_TRX_GAIN.GAIN_U, RAD_TRX_GAIN.GAIN_F, RAD_TRX_GAIN.CLAMPED]
def RAD_TRX_UHF_CFG.REG : Reg := regOf [RAD_TRX_UHF_CFG.DEV, RAD_TRX_UHF_CFG.RXBW, RAD_TRX_UHF_CFG.RATE, RAD_TRX_UHF_CFG.CRC_EN, RAD_TRX_UHF_CFG.LEN_VAR, RAD_TRX_UHF_CFG.SYNC32, RAD_TRX_UHF_CFG.ENC, RAD_TRX_UHF_CFG.MOD, RAD_TRX_UHF_CFG.PREAMBLE]
def RAD_TRX_SYNC.REG : Reg := regOf [RAD_TRX_SYNC.SYNC]
def RAD_TRX_DUTY.REG : Reg := regOf [RAD_TRX_DUTY.USED_MS]
def RAD_TRX_REFL.REG : Reg := regOf [RAD_TRX_REFL.RL]
def RAD_TRX_CAL.REG : Reg := regOf [RAD_TRX_CAL.RESULT, RAD_TRX_CAL.TEMP, RAD_TRX_CAL.VALID]
def RAD_TRX_STAMP_LO.REG : Reg := regOf [RAD_TRX_STAMP_LO.STAMP]
def RAD_TRX_STAMP_HI.REG : Reg := regOf [RAD_TRX_STAMP_HI.STAMP]
def RAD_TRX_CNT_TX.REG : Reg := regOf [RAD_TRX_CNT_TX.COUNT]
def RAD_TRX_CNT_REFUSE.REG : Reg := regOf [RAD_TRX_CNT_REFUSE.COUNT]
def RAD_TRX_CNT_CRC.REG : Reg := regOf [RAD_TRX_CNT_CRC.COUNT]

def regsRad0 : List Reg := [
  RAD_PROFILE.REG, RAD_CTL.REG, RAD_STAT.REG, RAD_IRQ_STAT.REG, RAD_IRQ_EN.REG, RAD_FAULT.REG, RAD_IDLE_CFG.REG, RAD_CAL_CFG.REG, RAD_CAL_CTL.REG, RAD_CAL_STAT.REG, RAD_S3_CFG.REG, RAD_LOCK_STAT.REG]

def regsRad1 : List Reg := [
  RAD_LOCK_UWB_A.REG, RAD_LOCK_UWB_B.REG, RAD_LOCK_UHF_LO.REG, RAD_LOCK_UHF_HI.REG, RAD_LOCK_UHF_LIM.REG, RAD_LOCK_UHF_TON.REG, RAD_CNT_REFUSE.REG, RAD_CNT_CUT.REG, RAD_CNT_LATE.REG, RAD_CNT_SUPER.REG, RAD_TEMP.REG, RAD_UWB_STEP.REG]

def regsRad2 : List Reg := [
  RAD_UHF_STEP.REG, RAD_TRX_CTL.REG, RAD_TRX_STAT.REG, RAD_TRX_CHAN.REG, RAD_TRX_GAIN.REG, RAD_TRX_UHF_CFG.REG, RAD_TRX_SYNC.REG, RAD_TRX_DUTY.REG, RAD_TRX_REFL.REG, RAD_TRX_CAL.REG, RAD_TRX_STAMP_LO.REG, RAD_TRX_STAMP_HI.REG]

def regsRad3 : List Reg := [
  RAD_TRX_CNT_TX.REG, RAD_TRX_CNT_REFUSE.REG, RAD_TRX_CNT_CRC.REG]

/-- The registers of block RAD. -/
def regsRad : List Reg := regsRad0 ++ regsRad1 ++ regsRad2 ++ regsRad3

/-! ## TRN, 06_transit_ranging.md -/

def TRN_PROFILE.PROFILE : Fld := fld0 0x050000 3 0 .RW 0 .image
def TRN_CTL.CLR_CNT : Fld := fld0 0x050004 1 1 .WO 0 .plain
def TRN_CTL.LOCK : Fld := fld0 0x050004 0 0 .W1S 0 .plain
def TRN_STAT.EXCH_ACTIVE : Fld := fld0 0x050008 31 24 .RO 0 .plain
def TRN_STAT.PREARMED : Fld := fld0 0x050008 23 16 .RO 0 .plain
def TRN_STAT.CAL_BUSY : Fld := fld0 0x050008 0 0 .RO 0 .plain
def TRN_IRQ_STAT.CIR_DROP : Fld := fld0 0x05000C 7 7 .W1C 0 .plain
def TRN_IRQ_STAT.CAL_DONE : Fld := fld0 0x05000C 6 6 .W1C 0 .plain
def TRN_IRQ_STAT.CAL_FAIL : Fld := fld0 0x05000C 5 5 .W1C 0 .plain
def TRN_IRQ_STAT.SAT : Fld := fld0 0x05000C 4 4 .W1C 0 .plain
def TRN_IRQ_STAT.EDLC : Fld := fld0 0x05000C 3 3 .W1C 0 .plain
def TRN_IRQ_STAT.STS_FAIL : Fld := fld0 0x05000C 2 2 .W1C 0 .plain
def TRN_IRQ_STAT.VOID : Fld := fld0 0x05000C 1 1 .W1C 0 .plain
def TRN_IRQ_STAT.LATE : Fld := fld0 0x05000C 0 0 .W1C 0 .plain
def TRN_IRQ_EN.CIR_DROP : Fld := fld0 0x050010 7 7 .RW 0 .plain
def TRN_IRQ_EN.CAL_DONE : Fld := fld0 0x050010 6 6 .RW 0 .plain
def TRN_IRQ_EN.CAL_FAIL : Fld := fld0 0x050010 5 5 .RW 0 .plain
def TRN_IRQ_EN.SAT : Fld := fld0 0x050010 4 4 .RW 0 .plain
def TRN_IRQ_EN.EDLC : Fld := fld0 0x050010 3 3 .RW 0 .plain
def TRN_IRQ_EN.STS_FAIL : Fld := fld0 0x050010 2 2 .RW 0 .plain
def TRN_IRQ_EN.VOID : Fld := fld0 0x050010 1 1 .RW 0 .plain
def TRN_IRQ_EN.LATE : Fld := fld0 0x050010 0 0 .RW 0 .plain
def TRN_PHY_CFG.CH9 : Fld := fld0 0x050014 31 31 .RW 1 .plain true
def TRN_PHY_CFG.PRF : Fld := fld0 0x050014 30 29 .RW 0 .plain true
def TRN_PHY_CFG.PCODE : Fld := fld0 0x050014 28 24 .RW 9 .plain true
def TRN_PHY_CFG.PSR : Fld := fld0 0x050014 23 20 .RW 1 .plain true
def TRN_PHY_CFG.SFD : Fld := fld0 0x050014 19 18 .RW 1 .plain true
def TRN_PHY_CFG.RATE : Fld := fld0 0x050014 17 16 .RW 0 .plain true
def TRN_PHY_CFG.TX_STEP : Fld := fld0 0x050014 15 10 .RW 0x39 .plain true
def TRN_STS_CFG.SP : Fld := fld0 0x050018 31 30 .RW 3 .plain true
def TRN_STS_CFG.SP_RPT : Fld := fld0 0x050018 29 28 .RW 1 .plain true
def TRN_STS_CFG.STS_LEN : Fld := fld0 0x050018 18 16 .RW 1 .plain true
def TRN_STS_CFG.NSEG : Fld := fld0 0x050018 13 12 .RW 0 .plain true
def TRN_STS_CFG.NSUB : Fld := fld0 0x050018 11 8 .RW 8 .plain true
def TRN_STS_CFG.STS_Q_MIN : Fld := fld0 0x050018 7 0 .RW 0x3C .plain true
def TRN_DS_CFG.DS : Fld := fld0 0x05001C 31 31 .RW 1 .plain true
def TRN_DS_CFG.RX_LEAD : Fld := fld0 0x05001C 27 24 .RW 8 .plain true
def TRN_DS_CFG.REPLY_TOL : Fld := fld0 0x05001C 23 16 .RW 0x14 .plain true
def TRN_DS_CFG.REPLY_DLY : Fld := fld0 0x05001C 15 0 .RW 0x12C .plain true
def TRN_FP_CFG.FP_THR_DB : Fld := fld0 0x050020 31 24 .RW 0x18 .plain true
def TRN_FP_CFG.PEAK_REL_DB : Fld := fld0 0x050020 23 16 .RW 0x30 .plain true
def TRN_FP_CFG.SEARCH_WIN : Fld := fld0 0x050020 15 8 .RW 0x30 .plain true
def TRN_FP_CFG.SNR_GATE : Fld := fld0 0x050020 7 0 .RW 0x14 .plain true
def TRN_CHECK_CFG.SUB_MIN : Fld := fld0 0x050024 31 24 .RW 0x19 .plain true
def TRN_CHECK_CFG.ALIGN_TOL : Fld := fld0 0x050024 23 16 .RW 0x30 .plain true
def TRN_CHECK_CFG.CLK_MAX : Fld := fld0 0x050024 15 8 .RW 0x32 .plain true
def TRN_CHECK_CFG.SAT_FRAC : Fld := fld0 0x050024 7 0 .RW 5 .plain true
def TRN_RETRY_CFG.SAT_PAD : Fld := fld0 0x050028 15 8 .RW 0xC .plain true
def TRN_RETRY_CFG.RETRY_MAX : Fld := fld0 0x050028 3 0 .RW 2 .plain true
def TRN_PREARM_CFG.PREARM_HOLD : Fld := fld0 0x05002C 31 16 .RW 0x64 .plain true
def TRN_PREARM_CFG.PREARM_MAX : Fld := fld0 0x05002C 4 0 .RW 8 .plain true
def TRN_CIR_CFG.SRC : Fld := fld0 0x050030 5 4 .RW 2 .plain true
def TRN_CIR_CFG.WHEN : Fld := fld0 0x050030 2 0 .RW 4 .plain true
def TRN_CIR_RING.COUNT : Fld := fld0 0x050034 28 16 .RWL 0 .image
def TRN_CIR_RING.BASE : Fld := fld0 0x050034 13 0 .RWL 0 .image
def TRN_CIR_STAT.NEXT : Fld := fld0 0x050038 13 0 .RO 0 .plain
def TRN_CAL_CTL.TOKEN : Fld := fld0 0x05003C 31 8 .RW 0 .plain
def TRN_CAL_CTL.START : Fld := fld0 0x05003C 7 7 .WO 0 .plain
def TRN_CAL_CTL.TRX : Fld := fld0 0x05003C 3 0 .RW 0 .plain
def TRN_CAL_STAT.BIAS : Fld := fld0 0x050040 31 16 .RO 0 .plain
def TRN_CAL_STAT.LAST_TRX : Fld := fld0 0x050040 15 12 .RO 0 .plain
def TRN_CAL_STAT.RESULT : Fld := fld0 0x050040 7 0 .RO 0 .plain
def TRN_CAL_REF.N : Fld := fld0 0x050044 31 16 .RW 0xC8 .plain
def TRN_CAL_REF.REF_MM : Fld := fld0 0x050044 15 0 .RW 0 .plain
def TRN_RATE_STAT.CIR_LAST_S : Fld := fld0 0x050048 31 16 .RO 0 .plain
def TRN_RATE_STAT.EXCH_LAST_S : Fld := fld0 0x050048 15 0 .RO 0 .plain
def TRN_CNT_EXCH.COUNT : Fld := fld0 0x05004C 31 0 .RO 0 .plain
def TRN_CNT_FAIL.COUNT : Fld := fld0 0x050050 31 0 .RO 0 .plain
def TRN_CNT_STS.COUNT : Fld := fld0 0x050054 31 0 .RO 0 .plain
def TRN_CNT_EDLC.COUNT : Fld := fld0 0x050058 31 0 .RO 0 .plain
def TRN_CNT_CIR.COUNT : Fld := fld0 0x05005C 31 0 .RO 0 .plain
def TRN_CNT_CIR_DROP.COUNT : Fld := fld0 0x050060 31 0 .RO 0 .plain
def TRN_CNT_PREARM.COUNT : Fld := fld0 0x050064 31 0 .RO 0 .plain
def TRN_CNT_PREARM_CANCEL.COUNT : Fld := fld0 0x050068 31 0 .RO 0 .plain
def TRN_CNT_SAT.COUNT : Fld := fld0 0x05006C 31 0 .RO 0 .plain
def TRN_EVT_CODE.REASON : Fld := fld0 0x050070 31 28 .RO 0 .plain
def TRN_EVT_CODE.TRX : Fld := fld0 0x050070 27 24 .RO 0 .plain
def TRN_EVT_CODE.CODE : Fld := fld0 0x050070 23 16 .RO 0 .plain
def TRN_EVT_CODE.SESSION : Fld := fld0 0x050070 14 0 .RO 0 .plain
def TRN_EVT_STAMP_LO.STAMP : Fld := fld0 0x050074 31 0 .RO 0 .plain
def TRN_EVT_STAMP_HI.STAMP : Fld := fld0 0x050078 31 0 .RO 0 .plain
def TRN_CNT_MISC.VOID : Fld := fld0 0x05007C 31 16 .RO 0 .plain
def TRN_CNT_MISC.LATE : Fld := fld0 0x05007C 15 0 .RO 0 .plain
def TRN_TRX_CTL.ANCHOR_EN : Fld := fld1 0x051000 0x100 16 8 8 .RWL 0 .image
def TRN_TRX_STAT.SESSION : Fld := fld1 0x051004 0x100 16 30 16 .RO 0 .plain
def TRN_TRX_STAT.PHASE : Fld := fld1 0x051004 0x100 16 15 12 .RO 0 .plain
def TRN_TRX_STAT.PAD : Fld := fld1 0x051004 0x100 16 11 11 .RO 0 .plain
def TRN_TRX_STAT.NLOS : Fld := fld1 0x051004 0x100 16 10 10 .RO 0 .plain
def TRN_TRX_ADLY_TX.EFF : Fld := fld1 0x051008 0x100 16 31 16 .RO 0 .fuse
def TRN_TRX_ADLY_TX.USER : Fld := fld1 0x051008 0x100 16 15 0 .RW 0 .plate
def TRN_TRX_ADLY_RX.EFF : Fld := fld1 0x05100C 0x100 16 31 16 .RO 0 .fuse
def TRN_TRX_ADLY_RX.USER : Fld := fld1 0x05100C 0x100 16 15 0 .RW 0 .plate
def TRN_TRX_ADLY_F.TX_F : Fld := fld1 0x051010 0x100 16 31 16 .FUS 0 .fuse
def TRN_TRX_ADLY_F.RX_F : Fld := fld1 0x051010 0x100 16 15 0 .FUS 0 .fuse
def TRN_TRX_RX_TS_LO.STAMP : Fld := fld1 0x051014 0x100 16 31 0 .RO 0 .plain
def TRN_TRX_RX_TS_HI.STAMP : Fld := fld1 0x051018 0x100 16 31 0 .RO 0 .plain
def TRN_TRX_TX_TS_LO.STAMP : Fld := fld1 0x05101C 0x100 16 31 0 .RO 0 .plain
def TRN_TRX_TX_TS_HI.STAMP : Fld := fld1 0x051020 0x100 16 31 0 .RO 0 .plain
def TRN_TRX_TOF.TOF : Fld := fld1 0x051024 0x100 16 31 0 .RO 0 .plain
def TRN_TRX_FP.FP_IDX : Fld := fld1 0x051028 0x100 16 31 16 .RO 0 .plain
def TRN_TRX_FP.FP_SNR : Fld := fld1 0x051028 0x100 16 15 8 .RO 0 .plain
def TRN_TRX_FP.STS_Q : Fld := fld1 0x051028 0x100 16 7 0 .RO 0 .plain
def TRN_TRX_PWR.RX_PWR : Fld := fld1 0x05102C 0x100 16 31 16 .RO 0 .plain
def TRN_TRX_PWR.FP_PWR : Fld := fld1 0x05102C 0x100 16 15 0 .RO 0 .plain
def TRN_TRX_CLKOFF.CLKOFF : Fld := fld1 0x051030 0x100 16 15 0 .RO 0 .plain
def TRN_TRX_RANGE.RANGE_MM : Fld := fld1 0x051034 0x100 16 31 0 .RO 0 .plain
def TRN_TRX_LAST.CODE : Fld := fld1 0x051038 0x100 16 31 24 .RO 0 .plain
def TRN_TRX_LAST.REASON : Fld := fld1 0x051038 0x100 16 23 20 .RO 0 .plain
def TRN_TRX_LAST.RETRIED : Fld := fld1 0x051038 0x100 16 17 17 .RO 0 .plain
def TRN_TRX_LAST.PAD : Fld := fld1 0x051038 0x100 16 16 16 .RO 0 .plain
def TRN_TRX_LAST.SIGMA_MM : Fld := fld1 0x051038 0x100 16 15 0 .RO 0 .plain
def TRN_TRX_CNT_EXCH.COUNT : Fld := fld1 0x05103C 0x100 16 31 0 .RO 0 .plain
def TRN_TRX_CNT_FAIL.COUNT : Fld := fld1 0x051040 0x100 16 31 0 .RO 0 .plain
def TRN_TRX_CNT_STS.COUNT : Fld := fld1 0x051044 0x100 16 31 0 .RO 0 .plain
def TRN_TRX_CNT_EDLC.COUNT : Fld := fld1 0x051048 0x100 16 31 0 .RO 0 .plain
def TRN_TRX_CNT_SAT.COUNT : Fld := fld1 0x05104C 0x100 16 31 0 .RO 0 .plain
def TRN_TRX_CNT_TIMEOUT.COUNT : Fld := fld1 0x051050 0x100 16 31 0 .RO 0 .plain
def TRN_TRX_CNT_CANCEL.COUNT : Fld := fld1 0x051054 0x100 16 31 0 .RO 0 .plain
def TRN_TRX_CNT_CIR.COUNT : Fld := fld1 0x051058 0x100 16 31 0 .RO 0 .plain
def TRN_TRX_FPDIAG.I : Fld := fld2 0x05105C 0x100 16 0x4 16 31 16 .RO 0 .plain
def TRN_TRX_FPDIAG.Q : Fld := fld2 0x05105C 0x100 16 0x4 16 15 0 .RO 0 .plain
def TRN_PROFILE.REG : Reg := regOf [TRN_PROFILE.PROFILE]
def TRN_CTL.REG : Reg := regOf [TRN_CTL.CLR_CNT, TRN_CTL.LOCK]
def TRN_STAT.REG : Reg := regOf [TRN_STAT.EXCH_ACTIVE, TRN_STAT.PREARMED, TRN_STAT.CAL_BUSY]
def TRN_IRQ_STAT.REG : Reg := regOf [TRN_IRQ_STAT.CIR_DROP, TRN_IRQ_STAT.CAL_DONE, TRN_IRQ_STAT.CAL_FAIL, TRN_IRQ_STAT.SAT, TRN_IRQ_STAT.EDLC, TRN_IRQ_STAT.STS_FAIL, TRN_IRQ_STAT.VOID, TRN_IRQ_STAT.LATE]
def TRN_IRQ_EN.REG : Reg := regOf [TRN_IRQ_EN.CIR_DROP, TRN_IRQ_EN.CAL_DONE, TRN_IRQ_EN.CAL_FAIL, TRN_IRQ_EN.SAT, TRN_IRQ_EN.EDLC, TRN_IRQ_EN.STS_FAIL, TRN_IRQ_EN.VOID, TRN_IRQ_EN.LATE]
def TRN_PHY_CFG.REG : Reg := regOf [TRN_PHY_CFG.CH9, TRN_PHY_CFG.PRF, TRN_PHY_CFG.PCODE, TRN_PHY_CFG.PSR, TRN_PHY_CFG.SFD, TRN_PHY_CFG.RATE, TRN_PHY_CFG.TX_STEP]
def TRN_STS_CFG.REG : Reg := regOf [TRN_STS_CFG.SP, TRN_STS_CFG.SP_RPT, TRN_STS_CFG.STS_LEN, TRN_STS_CFG.NSEG, TRN_STS_CFG.NSUB, TRN_STS_CFG.STS_Q_MIN]
def TRN_DS_CFG.REG : Reg := regOf [TRN_DS_CFG.DS, TRN_DS_CFG.RX_LEAD, TRN_DS_CFG.REPLY_TOL, TRN_DS_CFG.REPLY_DLY]
def TRN_FP_CFG.REG : Reg := regOf [TRN_FP_CFG.FP_THR_DB, TRN_FP_CFG.PEAK_REL_DB, TRN_FP_CFG.SEARCH_WIN, TRN_FP_CFG.SNR_GATE]
def TRN_CHECK_CFG.REG : Reg := regOf [TRN_CHECK_CFG.SUB_MIN, TRN_CHECK_CFG.ALIGN_TOL, TRN_CHECK_CFG.CLK_MAX, TRN_CHECK_CFG.SAT_FRAC]
def TRN_RETRY_CFG.REG : Reg := regOf [TRN_RETRY_CFG.SAT_PAD, TRN_RETRY_CFG.RETRY_MAX]
def TRN_PREARM_CFG.REG : Reg := regOf [TRN_PREARM_CFG.PREARM_HOLD, TRN_PREARM_CFG.PREARM_MAX]
def TRN_CIR_CFG.REG : Reg := regOf [TRN_CIR_CFG.SRC, TRN_CIR_CFG.WHEN]
def TRN_CIR_RING.REG : Reg := regOf [TRN_CIR_RING.COUNT, TRN_CIR_RING.BASE]
def TRN_CIR_STAT.REG : Reg := regOf [TRN_CIR_STAT.NEXT]
def TRN_CAL_CTL.REG : Reg := regOf [TRN_CAL_CTL.TOKEN, TRN_CAL_CTL.START, TRN_CAL_CTL.TRX]
def TRN_CAL_STAT.REG : Reg := regOf [TRN_CAL_STAT.BIAS, TRN_CAL_STAT.LAST_TRX, TRN_CAL_STAT.RESULT]
def TRN_CAL_REF.REG : Reg := regOf [TRN_CAL_REF.N, TRN_CAL_REF.REF_MM]
def TRN_RATE_STAT.REG : Reg := regOf [TRN_RATE_STAT.CIR_LAST_S, TRN_RATE_STAT.EXCH_LAST_S]
def TRN_CNT_EXCH.REG : Reg := regOf [TRN_CNT_EXCH.COUNT]
def TRN_CNT_FAIL.REG : Reg := regOf [TRN_CNT_FAIL.COUNT]
def TRN_CNT_STS.REG : Reg := regOf [TRN_CNT_STS.COUNT]
def TRN_CNT_EDLC.REG : Reg := regOf [TRN_CNT_EDLC.COUNT]
def TRN_CNT_CIR.REG : Reg := regOf [TRN_CNT_CIR.COUNT]
def TRN_CNT_CIR_DROP.REG : Reg := regOf [TRN_CNT_CIR_DROP.COUNT]
def TRN_CNT_PREARM.REG : Reg := regOf [TRN_CNT_PREARM.COUNT]
def TRN_CNT_PREARM_CANCEL.REG : Reg := regOf [TRN_CNT_PREARM_CANCEL.COUNT]
def TRN_CNT_SAT.REG : Reg := regOf [TRN_CNT_SAT.COUNT]
def TRN_EVT_CODE.REG : Reg := regOf [TRN_EVT_CODE.REASON, TRN_EVT_CODE.TRX, TRN_EVT_CODE.CODE, TRN_EVT_CODE.SESSION]
def TRN_EVT_STAMP_LO.REG : Reg := regOf [TRN_EVT_STAMP_LO.STAMP]
def TRN_EVT_STAMP_HI.REG : Reg := regOf [TRN_EVT_STAMP_HI.STAMP]
def TRN_CNT_MISC.REG : Reg := regOf [TRN_CNT_MISC.VOID, TRN_CNT_MISC.LATE]
def TRN_TRX_CTL.REG : Reg := regOf [TRN_TRX_CTL.ANCHOR_EN]
def TRN_TRX_STAT.REG : Reg := regOf [TRN_TRX_STAT.SESSION, TRN_TRX_STAT.PHASE, TRN_TRX_STAT.PAD, TRN_TRX_STAT.NLOS]
def TRN_TRX_ADLY_TX.REG : Reg := regOf [TRN_TRX_ADLY_TX.EFF, TRN_TRX_ADLY_TX.USER]
def TRN_TRX_ADLY_RX.REG : Reg := regOf [TRN_TRX_ADLY_RX.EFF, TRN_TRX_ADLY_RX.USER]
def TRN_TRX_ADLY_F.REG : Reg := regOf [TRN_TRX_ADLY_F.TX_F, TRN_TRX_ADLY_F.RX_F]
def TRN_TRX_RX_TS_LO.REG : Reg := regOf [TRN_TRX_RX_TS_LO.STAMP]
def TRN_TRX_RX_TS_HI.REG : Reg := regOf [TRN_TRX_RX_TS_HI.STAMP]
def TRN_TRX_TX_TS_LO.REG : Reg := regOf [TRN_TRX_TX_TS_LO.STAMP]
def TRN_TRX_TX_TS_HI.REG : Reg := regOf [TRN_TRX_TX_TS_HI.STAMP]
def TRN_TRX_TOF.REG : Reg := regOf [TRN_TRX_TOF.TOF]
def TRN_TRX_FP.REG : Reg := regOf [TRN_TRX_FP.FP_IDX, TRN_TRX_FP.FP_SNR, TRN_TRX_FP.STS_Q]
def TRN_TRX_PWR.REG : Reg := regOf [TRN_TRX_PWR.RX_PWR, TRN_TRX_PWR.FP_PWR]
def TRN_TRX_CLKOFF.REG : Reg := regOf [TRN_TRX_CLKOFF.CLKOFF]
def TRN_TRX_RANGE.REG : Reg := regOf [TRN_TRX_RANGE.RANGE_MM]
def TRN_TRX_LAST.REG : Reg := regOf [TRN_TRX_LAST.CODE, TRN_TRX_LAST.REASON, TRN_TRX_LAST.RETRIED, TRN_TRX_LAST.PAD, TRN_TRX_LAST.SIGMA_MM]
def TRN_TRX_CNT_EXCH.REG : Reg := regOf [TRN_TRX_CNT_EXCH.COUNT]
def TRN_TRX_CNT_FAIL.REG : Reg := regOf [TRN_TRX_CNT_FAIL.COUNT]
def TRN_TRX_CNT_STS.REG : Reg := regOf [TRN_TRX_CNT_STS.COUNT]
def TRN_TRX_CNT_EDLC.REG : Reg := regOf [TRN_TRX_CNT_EDLC.COUNT]
def TRN_TRX_CNT_SAT.REG : Reg := regOf [TRN_TRX_CNT_SAT.COUNT]
def TRN_TRX_CNT_TIMEOUT.REG : Reg := regOf [TRN_TRX_CNT_TIMEOUT.COUNT]
def TRN_TRX_CNT_CANCEL.REG : Reg := regOf [TRN_TRX_CNT_CANCEL.COUNT]
def TRN_TRX_CNT_CIR.REG : Reg := regOf [TRN_TRX_CNT_CIR.COUNT]
def TRN_TRX_FPDIAG.REG : Reg := regOf [TRN_TRX_FPDIAG.I, TRN_TRX_FPDIAG.Q]

def regsTrn0 : List Reg := [
  TRN_PROFILE.REG, TRN_CTL.REG, TRN_STAT.REG, TRN_IRQ_STAT.REG, TRN_IRQ_EN.REG, TRN_PHY_CFG.REG, TRN_STS_CFG.REG, TRN_DS_CFG.REG, TRN_FP_CFG.REG, TRN_CHECK_CFG.REG, TRN_RETRY_CFG.REG, TRN_PREARM_CFG.REG]

def regsTrn1 : List Reg := [
  TRN_CIR_CFG.REG, TRN_CIR_RING.REG, TRN_CIR_STAT.REG, TRN_CAL_CTL.REG, TRN_CAL_STAT.REG, TRN_CAL_REF.REG, TRN_RATE_STAT.REG, TRN_CNT_EXCH.REG, TRN_CNT_FAIL.REG, TRN_CNT_STS.REG, TRN_CNT_EDLC.REG, TRN_CNT_CIR.REG]

def regsTrn2 : List Reg := [
  TRN_CNT_CIR_DROP.REG, TRN_CNT_PREARM.REG, TRN_CNT_PREARM_CANCEL.REG, TRN_CNT_SAT.REG, TRN_EVT_CODE.REG, TRN_EVT_STAMP_LO.REG, TRN_EVT_STAMP_HI.REG, TRN_CNT_MISC.REG, TRN_TRX_CTL.REG, TRN_TRX_STAT.REG, TRN_TRX_ADLY_TX.REG, TRN_TRX_ADLY_RX.REG]

def regsTrn3 : List Reg := [
  TRN_TRX_ADLY_F.REG, TRN_TRX_RX_TS_LO.REG, TRN_TRX_RX_TS_HI.REG, TRN_TRX_TX_TS_LO.REG, TRN_TRX_TX_TS_HI.REG, TRN_TRX_TOF.REG, TRN_TRX_FP.REG, TRN_TRX_PWR.REG, TRN_TRX_CLKOFF.REG, TRN_TRX_RANGE.REG, TRN_TRX_LAST.REG, TRN_TRX_CNT_EXCH.REG]

def regsTrn4 : List Reg := [
  TRN_TRX_CNT_FAIL.REG, TRN_TRX_CNT_STS.REG, TRN_TRX_CNT_EDLC.REG, TRN_TRX_CNT_SAT.REG, TRN_TRX_CNT_TIMEOUT.REG, TRN_TRX_CNT_CANCEL.REG, TRN_TRX_CNT_CIR.REG, TRN_TRX_FPDIAG.REG]

/-- The registers of block TRN. -/
def regsTrn : List Reg := regsTrn0 ++ regsTrn1 ++ regsTrn2 ++ regsTrn3 ++ regsTrn4

/-! ## DBX, 07_distance_bounding.md -/

def DBX_PROFILE.PROFILE : Fld := fld0 0x060000 3 0 .RW 0 .image
def DBX_CTL.CLR_CNT : Fld := fld0 0x060004 1 1 .WO 0 .plain
def DBX_CTL.BURN_FREE : Fld := fld0 0x060004 0 0 .WO 0 .plain
def DBX_STAT.EXCH_ACTIVE : Fld := fld0 0x060008 31 24 .RO 0 .plain
def DBX_STAT.BLOCKS_BOUND : Fld := fld0 0x060008 23 16 .RO 0 .plain
def DBX_STAT.GUARD_CH9 : Fld := fld0 0x060008 1 1 .RO 0 .plain
def DBX_STAT.GUARD_CH5 : Fld := fld0 0x060008 0 0 .RO 0 .plain
def DBX_IRQ_STAT.HOLD_BURN : Fld := fld0 0x06000C 6 6 .W1C 0 .plain
def DBX_IRQ_STAT.REFUSED : Fld := fld0 0x06000C 5 5 .W1C 0 .plain
def DBX_IRQ_STAT.NO_RESP : Fld := fld0 0x06000C 4 4 .W1C 0 .plain
def DBX_IRQ_STAT.VOID : Fld := fld0 0x06000C 3 3 .W1C 0 .plain
def DBX_IRQ_STAT.EARLY : Fld := fld0 0x06000C 2 2 .W1C 0 .plain
def DBX_IRQ_STAT.LATE : Fld := fld0 0x06000C 1 1 .W1C 0 .plain
def DBX_IRQ_STAT.BOUND_FAIL : Fld := fld0 0x06000C 0 0 .W1C 0 .plain
def DBX_IRQ_EN.HOLD_BURN : Fld := fld0 0x060010 6 6 .RW 0 .plain
def DBX_IRQ_EN.REFUSED : Fld := fld0 0x060010 5 5 .RW 0 .plain
def DBX_IRQ_EN.NO_RESP : Fld := fld0 0x060010 4 4 .RW 0 .plain
def DBX_IRQ_EN.VOID : Fld := fld0 0x060010 3 3 .RW 0 .plain
def DBX_IRQ_EN.EARLY : Fld := fld0 0x060010 2 2 .RW 0 .plain
def DBX_IRQ_EN.LATE : Fld := fld0 0x060010 1 1 .RW 0 .plain
def DBX_IRQ_EN.BOUND_FAIL : Fld := fld0 0x060010 0 0 .RW 0 .plain
def DBX_RB_CFG.CH9 : Fld := fld0 0x060014 31 31 .RW 1 .plain true
def DBX_RB_CFG.TX_STEP : Fld := fld0 0x060014 29 24 .RW 0x39 .plain true
def DBX_RB_CFG.N : Fld := fld0 0x060014 23 16 .RW 0x40 .plain true
def DBX_RB_CFG.TOL : Fld := fld0 0x060014 15 8 .RW 0x14 .plain true
def DBX_RB_CFG.BURST : Fld := fld0 0x060014 7 0 .RW 8 .plain true
def DBX_BOUND_CFG.D_MAX_MM : Fld := fld0 0x060018 31 16 .RW 0xBB8 .plain true
def DBX_BOUND_CFG.ERR_MAX : Fld := fld0 0x060018 15 10 .RW 2 .plain true
def DBX_BOUND_CFG.LATE_MAX : Fld := fld0 0x060018 9 6 .RW 1 .plain true
def DBX_BOUND_CFG.RETRY_MAX : Fld := fld0 0x060018 5 4 .RW 0 .plain true
def DBX_TURN_CFG.RB_THR : Fld := fld0 0x06001C 31 24 .RW 0x14 .plain true
def DBX_TURN_CFG.SEARCH_END : Fld := fld0 0x06001C 23 16 .RW 0x50 .plain true
def DBX_TURN_CFG.TURN_NS : Fld := fld0 0x06001C 11 0 .RW 0x64 .plain true
def DBX_TWR_CFG.MODE : Fld := fld0 0x060020 17 16 .RW 0 .plain true
def DBX_TWR_CFG.TWR_N : Fld := fld0 0x060020 15 8 .RW 4 .plain true
def DBX_TWR_CFG.TWR_ERR : Fld := fld0 0x060020 7 0 .RW 1 .plain true
def DBX_PRECOMP_CFG.PRECOMP_HOLD : Fld := fld0 0x060024 31 16 .RW 0x64 .plain true
def DBX_PRECOMP_CFG.PRECOMP_MAX : Fld := fld0 0x060024 6 0 .RW 0x40 .plain true
def DBX_CNT_OK.COUNT : Fld := fld0 0x060028 31 0 .RO 0 .plain
def DBX_CNT_FAIL.COUNT : Fld := fld0 0x06002C 31 0 .RO 0 .plain
def DBX_CNT_BURN.COUNT : Fld := fld0 0x060030 31 0 .RO 0 .plain
def DBX_CNT_MISC.VOID : Fld := fld0 0x060034 31 16 .RO 0 .plain
def DBX_CNT_MISC.RETRY : Fld := fld0 0x060034 15 0 .RO 0 .plain
def DBX_EVT_CODE.REASON : Fld := fld0 0x060038 31 28 .RO 0 .plain
def DBX_EVT_CODE.TRX : Fld := fld0 0x060038 27 24 .RO 0 .plain
def DBX_EVT_CODE.CODE : Fld := fld0 0x060038 23 16 .RO 0 .plain
def DBX_EVT_CODE.SESSION : Fld := fld0 0x060038 14 0 .RO 0 .plain
def DBX_CNT_BITS.LATE : Fld := fld0 0x06003C 31 16 .RO 0 .plain
def DBX_CNT_BITS.EARLY : Fld := fld0 0x06003C 15 0 .RO 0 .plain
def DBX_TRX_STAT.SESSION : Fld := fld1 0x061000 0x20 16 30 16 .RO 0 .plain
def DBX_TRX_STAT.PHASE : Fld := fld1 0x061000 0x20 16 15 12 .RO 0 .plain
def DBX_TRX_STAT.SEQ : Fld := fld1 0x061000 0x20 16 9 8 .RO 0 .plain
def DBX_TRX_RESULT.CODE : Fld := fld1 0x061004 0x20 16 31 24 .RO 0 .plain
def DBX_TRX_RESULT.REASON : Fld := fld1 0x061004 0x20 16 23 20 .RO 0 .plain
def DBX_TRX_RESULT.SEQ : Fld := fld1 0x061004 0x20 16 19 18 .RO 0 .plain
def DBX_TRX_RESULT.RETRIED : Fld := fld1 0x061004 0x20 16 17 17 .RO 0 .plain
def DBX_TRX_RESULT.FALLBACK : Fld := fld1 0x061004 0x20 16 16 16 .RO 0 .plain
def DBX_TRX_RESULT.N : Fld := fld1 0x061004 0x20 16 15 8 .RO 0 .plain
def DBX_TRX_CLASS.MISS : Fld := fld1 0x061008 0x20 16 31 24 .RO 0 .plain
def DBX_TRX_CLASS.EARLY : Fld := fld1 0x061008 0x20 16 23 16 .RO 0 .plain
def DBX_TRX_CLASS.LATE : Fld := fld1 0x061008 0x20 16 15 8 .RO 0 .plain
def DBX_TRX_CLASS.ERR : Fld := fld1 0x061008 0x20 16 7 0 .RO 0 .plain
def DBX_TRX_DEST.D_EST : Fld := fld1 0x06100C 0x20 16 31 0 .RO 0 .plain
def DBX_TRX_MAP.FAIL : Fld := fld2 0x061010 0x20 16 0x4 4 31 0 .RO 0 .plain
def DBX_PROFILE.REG : Reg := regOf [DBX_PROFILE.PROFILE]
def DBX_CTL.REG : Reg := regOf [DBX_CTL.CLR_CNT, DBX_CTL.BURN_FREE]
def DBX_STAT.REG : Reg := regOf [DBX_STAT.EXCH_ACTIVE, DBX_STAT.BLOCKS_BOUND, DBX_STAT.GUARD_CH9, DBX_STAT.GUARD_CH5]
def DBX_IRQ_STAT.REG : Reg := regOf [DBX_IRQ_STAT.HOLD_BURN, DBX_IRQ_STAT.REFUSED, DBX_IRQ_STAT.NO_RESP, DBX_IRQ_STAT.VOID, DBX_IRQ_STAT.EARLY, DBX_IRQ_STAT.LATE, DBX_IRQ_STAT.BOUND_FAIL]
def DBX_IRQ_EN.REG : Reg := regOf [DBX_IRQ_EN.HOLD_BURN, DBX_IRQ_EN.REFUSED, DBX_IRQ_EN.NO_RESP, DBX_IRQ_EN.VOID, DBX_IRQ_EN.EARLY, DBX_IRQ_EN.LATE, DBX_IRQ_EN.BOUND_FAIL]
def DBX_RB_CFG.REG : Reg := regOf [DBX_RB_CFG.CH9, DBX_RB_CFG.TX_STEP, DBX_RB_CFG.N, DBX_RB_CFG.TOL, DBX_RB_CFG.BURST]
def DBX_BOUND_CFG.REG : Reg := regOf [DBX_BOUND_CFG.D_MAX_MM, DBX_BOUND_CFG.ERR_MAX, DBX_BOUND_CFG.LATE_MAX, DBX_BOUND_CFG.RETRY_MAX]
def DBX_TURN_CFG.REG : Reg := regOf [DBX_TURN_CFG.RB_THR, DBX_TURN_CFG.SEARCH_END, DBX_TURN_CFG.TURN_NS]
def DBX_TWR_CFG.REG : Reg := regOf [DBX_TWR_CFG.MODE, DBX_TWR_CFG.TWR_N, DBX_TWR_CFG.TWR_ERR]
def DBX_PRECOMP_CFG.REG : Reg := regOf [DBX_PRECOMP_CFG.PRECOMP_HOLD, DBX_PRECOMP_CFG.PRECOMP_MAX]
def DBX_CNT_OK.REG : Reg := regOf [DBX_CNT_OK.COUNT]
def DBX_CNT_FAIL.REG : Reg := regOf [DBX_CNT_FAIL.COUNT]
def DBX_CNT_BURN.REG : Reg := regOf [DBX_CNT_BURN.COUNT]
def DBX_CNT_MISC.REG : Reg := regOf [DBX_CNT_MISC.VOID, DBX_CNT_MISC.RETRY]
def DBX_EVT_CODE.REG : Reg := regOf [DBX_EVT_CODE.REASON, DBX_EVT_CODE.TRX, DBX_EVT_CODE.CODE, DBX_EVT_CODE.SESSION]
def DBX_CNT_BITS.REG : Reg := regOf [DBX_CNT_BITS.LATE, DBX_CNT_BITS.EARLY]
def DBX_TRX_STAT.REG : Reg := regOf [DBX_TRX_STAT.SESSION, DBX_TRX_STAT.PHASE, DBX_TRX_STAT.SEQ]
def DBX_TRX_RESULT.REG : Reg := regOf [DBX_TRX_RESULT.CODE, DBX_TRX_RESULT.REASON, DBX_TRX_RESULT.SEQ, DBX_TRX_RESULT.RETRIED, DBX_TRX_RESULT.FALLBACK, DBX_TRX_RESULT.N]
def DBX_TRX_CLASS.REG : Reg := regOf [DBX_TRX_CLASS.MISS, DBX_TRX_CLASS.EARLY, DBX_TRX_CLASS.LATE, DBX_TRX_CLASS.ERR]
def DBX_TRX_DEST.REG : Reg := regOf [DBX_TRX_DEST.D_EST]
def DBX_TRX_MAP.REG : Reg := regOf [DBX_TRX_MAP.FAIL]

def regsDbx0 : List Reg := [
  DBX_PROFILE.REG, DBX_CTL.REG, DBX_STAT.REG, DBX_IRQ_STAT.REG, DBX_IRQ_EN.REG, DBX_RB_CFG.REG, DBX_BOUND_CFG.REG, DBX_TURN_CFG.REG, DBX_TWR_CFG.REG, DBX_PRECOMP_CFG.REG, DBX_CNT_OK.REG, DBX_CNT_FAIL.REG]

def regsDbx1 : List Reg := [
  DBX_CNT_BURN.REG, DBX_CNT_MISC.REG, DBX_EVT_CODE.REG, DBX_CNT_BITS.REG, DBX_TRX_STAT.REG, DBX_TRX_RESULT.REG, DBX_TRX_CLASS.REG, DBX_TRX_DEST.REG, DBX_TRX_MAP.REG]

/-- The registers of block DBX. -/
def regsDbx : List Reg := regsDbx0 ++ regsDbx1

/-! ## ALM, 08_almucantar_solver.md -/

def ALM_PROFILE.PROFILE : Fld := fld0 0x070000 3 0 .RW 0 .image
def ALM_CTL.LOCAL_FALLBACK : Fld := fld0 0x070004 2 2 .RWL 1 .plain
def ALM_CTL.CLR_CNT : Fld := fld0 0x070004 1 1 .WO 0 .plain
def ALM_CTL.LOCK : Fld := fld0 0x070004 0 0 .W1S 0 .plain
def ALM_STAT.ANCHORS_VALID : Fld := fld0 0x070008 31 24 .RO 0 .plain
def ALM_STAT.TABLE_VALID : Fld := fld0 0x070008 1 1 .RO 0 .plain
def ALM_STAT.BUSY : Fld := fld0 0x070008 0 0 .RO 0 .plain
def ALM_IRQ_STAT.FALLBACK : Fld := fld0 0x07000C 5 5 .W1C 0 .plain
def ALM_IRQ_STAT.TABLE : Fld := fld0 0x07000C 4 4 .W1C 0 .plain
def ALM_IRQ_STAT.PRECOND : Fld := fld0 0x07000C 3 3 .W1C 0 .plain
def ALM_IRQ_STAT.DENIED : Fld := fld0 0x07000C 2 2 .W1C 0 .plain
def ALM_IRQ_STAT.RESID : Fld := fld0 0x07000C 1 1 .W1C 0 .plain
def ALM_IRQ_STAT.DELAY : Fld := fld0 0x07000C 0 0 .W1C 0 .plain
def ALM_IRQ_EN.FALLBACK : Fld := fld0 0x070010 5 5 .RW 0 .plain
def ALM_IRQ_EN.TABLE : Fld := fld0 0x070010 4 4 .RW 0 .plain
def ALM_IRQ_EN.PRECOND : Fld := fld0 0x070010 3 3 .RW 0 .plain
def ALM_IRQ_EN.DENIED : Fld := fld0 0x070010 2 2 .RW 0 .plain
def ALM_IRQ_EN.RESID : Fld := fld0 0x070010 1 1 .RW 0 .plain
def ALM_IRQ_EN.DELAY : Fld := fld0 0x070010 0 0 .RW 0 .plain
def ALM_DELAY_CFG.B_MAX : Fld := fld0 0x070014 31 16 .RW 0x12C .plain true
def ALM_DELAY_CFG.B_NEG : Fld := fld0 0x070014 15 0 .RW 0x12C .plain true
def ALM_RES_CFG.CHI_K : Fld := fld0 0x070018 31 24 .RW 0x1E .plain true
def ALM_RES_CFG.CHI_ADD : Fld := fld0 0x070018 23 16 .RW 0x14 .plain true
def ALM_RES_CFG.RES_MAX : Fld := fld0 0x070018 15 8 .RW 0x28 .plain true
def ALM_GEOM_CFG.SIGP_MAX : Fld := fld0 0x07001C 31 16 .RW 0x1F4 .plain true
def ALM_GEOM_CFG.SIGB_MAX : Fld := fld0 0x07001C 15 4 .RW 0x64 .plain true
def ALM_GEOM_CFG.OUT_MAX : Fld := fld0 0x07001C 3 2 .RW 1 .plain true
def ALM_GEOM_CFG.REQUIRE_DELAY : Fld := fld0 0x07001C 0 0 .RW 1 .plain true
def ALM_SOLVE_CFG.MAX_ITER : Fld := fld0 0x070020 31 24 .RW 0x10 .plain true
def ALM_SOLVE_CFG.CONV : Fld := fld0 0x070020 23 16 .RW 0xA .plain true
def ALM_SOLVE_CFG.SPAN_MAX : Fld := fld0 0x070020 15 8 .RW 0x14 .plain true
def ALM_SOLVE_CFG.SOLVE_TO : Fld := fld0 0x070020 7 0 .RW 0x14 .plain true
def ALM_TABLE_STAT.SEQ : Fld := fld0 0x070024 31 0 .RO 0 .image
def ALM_ANC_ADDR.WORD : Fld := fld0 0x070028 9 8 .RW 0 .plain
def ALM_ANC_ADDR.INDEX : Fld := fld0 0x070028 6 0 .RW 0 .plain
def ALM_ANC_DATA.DATA : Fld := fld0 0x07002C 31 0 .RO 0 .plain
def ALM_REG_ADDR.ZONE : Fld := fld0 0x070030 12 8 .RW 0 .plain
def ALM_REG_ADDR.WORD : Fld := fld0 0x070030 4 0 .RW 0 .plain
def ALM_REG_DATA.DATA : Fld := fld0 0x070034 31 0 .RO 0 .plain
def ALM_RES_ADDR.INDEX : Fld := fld0 0x070038 6 0 .RW 0 .plain
def ALM_RES_DATA.USED : Fld := fld0 0x07003C 31 31 .RO 0 .plain
def ALM_RES_DATA.DROPPED : Fld := fld0 0x07003C 30 30 .RO 0 .plain
def ALM_RES_DATA.NLOS : Fld := fld0 0x07003C 29 29 .RO 0 .plain
def ALM_RES_DATA.NRES : Fld := fld0 0x07003C 15 0 .RO 0 .plain
def ALM_CNT_OK.COUNT : Fld := fld0 0x070040 31 0 .RO 0 .plain
def ALM_CNT_RELAY.COUNT : Fld := fld0 0x070044 31 0 .RO 0 .plain
def ALM_CNT_RESID.COUNT : Fld := fld0 0x070048 31 0 .RO 0 .plain
def ALM_CNT_PRECOND.COUNT : Fld := fld0 0x07004C 31 0 .RO 0 .plain
def ALM_CNT_DENIED.COUNT : Fld := fld0 0x070050 31 0 .RO 0 .plain
def ALM_CNT_DROP.COUNT : Fld := fld0 0x070054 31 0 .RO 0 .plain
def ALM_CNT_REMOTE.COUNT : Fld := fld0 0x070058 31 0 .RO 0 .plain
def ALM_CNT_LOCAL.COUNT : Fld := fld0 0x07005C 31 0 .RO 0 .plain
def ALM_EVT_CODE.REASON : Fld := fld0 0x070060 31 28 .RO 0 .plain
def ALM_EVT_CODE.DEVICE : Fld := fld0 0x070060 26 24 .RO 0 .plain
def ALM_EVT_CODE.CODE : Fld := fld0 0x070060 23 16 .RO 0 .plain
def ALM_EVT_CODE.SESSION : Fld := fld0 0x070060 14 0 .RO 0 .plain
def ALM_EVT_STAMP_LO.STAMP : Fld := fld0 0x070064 31 0 .RO 0 .plain
def ALM_EVT_STAMP_HI.STAMP : Fld := fld0 0x070068 31 0 .RO 0 .plain
def ALM_TIME_STAT.MAX_US : Fld := fld0 0x07006C 31 16 .RO 0 .plain
def ALM_TIME_STAT.LAST_US : Fld := fld0 0x07006C 15 0 .RO 0 .plain
def ALM_QUEUE_STAT.PEAK : Fld := fld0 0x070070 23 16 .RO 0 .plain
def ALM_QUEUE_STAT.CP2_QUEUED : Fld := fld0 0x070070 15 8 .RO 0 .plain
def ALM_QUEUE_STAT.SES_QUEUED : Fld := fld0 0x070070 7 0 .RO 0 .plain
def ALM_CNT_CP2.COUNT : Fld := fld0 0x070074 31 0 .RO 0 .plain
def ALM_STACK_STAT.MASTER : Fld := fld0 0x070078 10 8 .RO 0 .strap
def ALM_STACK_STAT.TABLE_MATCH : Fld := fld0 0x070078 1 1 .RO 0 .plain
def ALM_STACK_STAT.MASTER_REACH : Fld := fld0 0x070078 0 0 .RO 0 .plain
def ALM_TABLE_CRC.CRC : Fld := fld0 0x07007C 31 0 .RO 0 .image
def ALM_LAST_CODE.CODE : Fld := fld0 0x070100 31 24 .RO 0 .plain
def ALM_LAST_CODE.REASON : Fld := fld0 0x070100 23 20 .RO 0 .plain
def ALM_LAST_CODE.MEMB : Fld := fld0 0x070100 19 18 .RO 3 .plain
def ALM_LAST_CODE.LOCAL : Fld := fld0 0x070100 17 17 .RO 0 .plain
def ALM_LAST_CODE.REMOTE : Fld := fld0 0x070100 16 16 .RO 0 .plain
def ALM_LAST_CODE.DELAY_TESTED : Fld := fld0 0x070100 15 15 .RO 0 .plain
def ALM_LAST_CODE.SESSION : Fld := fld0 0x070100 14 0 .RO 0 .plain
def ALM_LAST_X.VALUE : Fld := fld0 0x070104 31 0 .RO 0 .plain
def ALM_LAST_Y.VALUE : Fld := fld0 0x070108 31 0 .RO 0 .plain
def ALM_LAST_Z.VALUE : Fld := fld0 0x07010C 31 0 .RO 0 .plain
def ALM_LAST_B.VALUE : Fld := fld0 0x070110 31 0 .RO 0 .plain
def ALM_LAST_SIG.SIGB : Fld := fld0 0x070114 31 16 .RO 0 .plain
def ALM_LAST_SIG.SIGP : Fld := fld0 0x070114 15 0 .RO 0 .plain
def ALM_LAST_CHI.THR : Fld := fld0 0x070118 31 16 .RO 0 .plain
def ALM_LAST_CHI.CHI : Fld := fld0 0x070118 15 0 .RO 0 .plain
def ALM_LAST_COV_XX.COV : Fld := fld0 0x07011C 31 0 .RO 0 .plain
def ALM_LAST_COV_YY.COV : Fld := fld0 0x070120 31 0 .RO 0 .plain
def ALM_LAST_COV_ZZ.COV : Fld := fld0 0x070124 31 0 .RO 0 .plain
def ALM_LAST_COV_XY.COV : Fld := fld0 0x070128 31 0 .RO 0 .plain
def ALM_LAST_COV_XZ.COV : Fld := fld0 0x07012C 31 0 .RO 0 .plain
def ALM_LAST_COV_YZ.COV : Fld := fld0 0x070130 31 0 .RO 0 .plain
def ALM_LAST_ZONE.ZONE : Fld := fld0 0x070134 28 24 .RO 0 .plain
def ALM_LAST_ZONE.EDGE : Fld := fld0 0x070134 23 0 .RO 0 .plain
def ALM_LAST_ITER.ITER : Fld := fld0 0x070138 31 24 .RO 0 .plain
def ALM_LAST_ITER.N_USED : Fld := fld0 0x070138 23 16 .RO 0 .plain
def ALM_LAST_ITER.N_IGNORED : Fld := fld0 0x070138 15 8 .RO 0 .plain
def ALM_LAST_ITER.DOF : Fld := fld0 0x070138 7 0 .RO 0 .plain
def ALM_LAST_STAMP_LO.STAMP : Fld := fld0 0x07013C 31 0 .RO 0 .plain
def ALM_LAST_STAMP_HI.STAMP : Fld := fld0 0x070140 31 0 .RO 0 .plain
def ALM_LAST_USED.MAP : Fld := fld1 0x070144 0x4 4 31 0 .RO 0 .plain
def ALM_LAST_DROP.MAP : Fld := fld1 0x070154 0x4 4 31 0 .RO 0 .plain
def ALM_ANC_VALID.MAP : Fld := fld1 0x070164 0x4 4 31 0 .RO 0 .plain
def ALM_LAST_DEVICE.SOLVER : Fld := fld0 0x070174 2 0 .RO 0 .plain
def ALM_LAST_SPAN.SPAN_US : Fld := fld0 0x070178 31 0 .RO 0 .plain
def ALM_LAST_RESMAX.ANCHOR : Fld := fld0 0x07017C 22 16 .RO 0 .plain
def ALM_LAST_RESMAX.NRES : Fld := fld0 0x07017C 15 0 .RO 0 .plain
def ALM_ZONE_CFG.VALID : Fld := fld1 0x070200 0x4 32 31 31 .RO 0 .image
def ALM_ZONE_CFG.ACCEPT_UNC : Fld := fld1 0x070200 0x4 32 30 30 .RO 0 .image
def ALM_ZONE_CFG.NV : Fld := fld1 0x070200 0x4 32 27 24 .RO 0 .image
def ALM_ZONE_CFG.Z_SIG : Fld := fld1 0x070200 0x4 32 7 0 .RO 0 .image
def ALM_ZONE_CNT.PASSED : Fld := fld1 0x070280 0x4 32 31 16 .RO 0 .plain
def ALM_ZONE_CNT.REFUSED : Fld := fld1 0x070280 0x4 32 15 0 .RO 0 .plain
def ALM_PROFILE.REG : Reg := regOf [ALM_PROFILE.PROFILE]
def ALM_CTL.REG : Reg := regOf [ALM_CTL.LOCAL_FALLBACK, ALM_CTL.CLR_CNT, ALM_CTL.LOCK]
def ALM_STAT.REG : Reg := regOf [ALM_STAT.ANCHORS_VALID, ALM_STAT.TABLE_VALID, ALM_STAT.BUSY]
def ALM_IRQ_STAT.REG : Reg := regOf [ALM_IRQ_STAT.FALLBACK, ALM_IRQ_STAT.TABLE, ALM_IRQ_STAT.PRECOND, ALM_IRQ_STAT.DENIED, ALM_IRQ_STAT.RESID, ALM_IRQ_STAT.DELAY]
def ALM_IRQ_EN.REG : Reg := regOf [ALM_IRQ_EN.FALLBACK, ALM_IRQ_EN.TABLE, ALM_IRQ_EN.PRECOND, ALM_IRQ_EN.DENIED, ALM_IRQ_EN.RESID, ALM_IRQ_EN.DELAY]
def ALM_DELAY_CFG.REG : Reg := regOf [ALM_DELAY_CFG.B_MAX, ALM_DELAY_CFG.B_NEG]
def ALM_RES_CFG.REG : Reg := regOf [ALM_RES_CFG.CHI_K, ALM_RES_CFG.CHI_ADD, ALM_RES_CFG.RES_MAX]
def ALM_GEOM_CFG.REG : Reg := regOf [ALM_GEOM_CFG.SIGP_MAX, ALM_GEOM_CFG.SIGB_MAX, ALM_GEOM_CFG.OUT_MAX, ALM_GEOM_CFG.REQUIRE_DELAY]
def ALM_SOLVE_CFG.REG : Reg := regOf [ALM_SOLVE_CFG.MAX_ITER, ALM_SOLVE_CFG.CONV, ALM_SOLVE_CFG.SPAN_MAX, ALM_SOLVE_CFG.SOLVE_TO]
def ALM_TABLE_STAT.REG : Reg := regOf [ALM_TABLE_STAT.SEQ]
def ALM_ANC_ADDR.REG : Reg := regOf [ALM_ANC_ADDR.WORD, ALM_ANC_ADDR.INDEX]
def ALM_ANC_DATA.REG : Reg := regOf [ALM_ANC_DATA.DATA]
def ALM_REG_ADDR.REG : Reg := regOf [ALM_REG_ADDR.ZONE, ALM_REG_ADDR.WORD]
def ALM_REG_DATA.REG : Reg := regOf [ALM_REG_DATA.DATA]
def ALM_RES_ADDR.REG : Reg := regOf [ALM_RES_ADDR.INDEX]
def ALM_RES_DATA.REG : Reg := regOf [ALM_RES_DATA.USED, ALM_RES_DATA.DROPPED, ALM_RES_DATA.NLOS, ALM_RES_DATA.NRES]
def ALM_CNT_OK.REG : Reg := regOf [ALM_CNT_OK.COUNT]
def ALM_CNT_RELAY.REG : Reg := regOf [ALM_CNT_RELAY.COUNT]
def ALM_CNT_RESID.REG : Reg := regOf [ALM_CNT_RESID.COUNT]
def ALM_CNT_PRECOND.REG : Reg := regOf [ALM_CNT_PRECOND.COUNT]
def ALM_CNT_DENIED.REG : Reg := regOf [ALM_CNT_DENIED.COUNT]
def ALM_CNT_DROP.REG : Reg := regOf [ALM_CNT_DROP.COUNT]
def ALM_CNT_REMOTE.REG : Reg := regOf [ALM_CNT_REMOTE.COUNT]
def ALM_CNT_LOCAL.REG : Reg := regOf [ALM_CNT_LOCAL.COUNT]
def ALM_EVT_CODE.REG : Reg := regOf [ALM_EVT_CODE.REASON, ALM_EVT_CODE.DEVICE, ALM_EVT_CODE.CODE, ALM_EVT_CODE.SESSION]
def ALM_EVT_STAMP_LO.REG : Reg := regOf [ALM_EVT_STAMP_LO.STAMP]
def ALM_EVT_STAMP_HI.REG : Reg := regOf [ALM_EVT_STAMP_HI.STAMP]
def ALM_TIME_STAT.REG : Reg := regOf [ALM_TIME_STAT.MAX_US, ALM_TIME_STAT.LAST_US]
def ALM_QUEUE_STAT.REG : Reg := regOf [ALM_QUEUE_STAT.PEAK, ALM_QUEUE_STAT.CP2_QUEUED, ALM_QUEUE_STAT.SES_QUEUED]
def ALM_CNT_CP2.REG : Reg := regOf [ALM_CNT_CP2.COUNT]
def ALM_STACK_STAT.REG : Reg := regOf [ALM_STACK_STAT.MASTER, ALM_STACK_STAT.TABLE_MATCH, ALM_STACK_STAT.MASTER_REACH]
def ALM_TABLE_CRC.REG : Reg := regOf [ALM_TABLE_CRC.CRC]
def ALM_LAST_CODE.REG : Reg := regOf [ALM_LAST_CODE.CODE, ALM_LAST_CODE.REASON, ALM_LAST_CODE.MEMB, ALM_LAST_CODE.LOCAL, ALM_LAST_CODE.REMOTE, ALM_LAST_CODE.DELAY_TESTED, ALM_LAST_CODE.SESSION]
def ALM_LAST_X.REG : Reg := regOf [ALM_LAST_X.VALUE]
def ALM_LAST_Y.REG : Reg := regOf [ALM_LAST_Y.VALUE]
def ALM_LAST_Z.REG : Reg := regOf [ALM_LAST_Z.VALUE]
def ALM_LAST_B.REG : Reg := regOf [ALM_LAST_B.VALUE]
def ALM_LAST_SIG.REG : Reg := regOf [ALM_LAST_SIG.SIGB, ALM_LAST_SIG.SIGP]
def ALM_LAST_CHI.REG : Reg := regOf [ALM_LAST_CHI.THR, ALM_LAST_CHI.CHI]
def ALM_LAST_COV_XX.REG : Reg := regOf [ALM_LAST_COV_XX.COV]
def ALM_LAST_COV_YY.REG : Reg := regOf [ALM_LAST_COV_YY.COV]
def ALM_LAST_COV_ZZ.REG : Reg := regOf [ALM_LAST_COV_ZZ.COV]
def ALM_LAST_COV_XY.REG : Reg := regOf [ALM_LAST_COV_XY.COV]
def ALM_LAST_COV_XZ.REG : Reg := regOf [ALM_LAST_COV_XZ.COV]
def ALM_LAST_COV_YZ.REG : Reg := regOf [ALM_LAST_COV_YZ.COV]
def ALM_LAST_ZONE.REG : Reg := regOf [ALM_LAST_ZONE.ZONE, ALM_LAST_ZONE.EDGE]
def ALM_LAST_ITER.REG : Reg := regOf [ALM_LAST_ITER.ITER, ALM_LAST_ITER.N_USED, ALM_LAST_ITER.N_IGNORED, ALM_LAST_ITER.DOF]
def ALM_LAST_STAMP_LO.REG : Reg := regOf [ALM_LAST_STAMP_LO.STAMP]
def ALM_LAST_STAMP_HI.REG : Reg := regOf [ALM_LAST_STAMP_HI.STAMP]
def ALM_LAST_USED.REG : Reg := regOf [ALM_LAST_USED.MAP]
def ALM_LAST_DROP.REG : Reg := regOf [ALM_LAST_DROP.MAP]
def ALM_ANC_VALID.REG : Reg := regOf [ALM_ANC_VALID.MAP]
def ALM_LAST_DEVICE.REG : Reg := regOf [ALM_LAST_DEVICE.SOLVER]
def ALM_LAST_SPAN.REG : Reg := regOf [ALM_LAST_SPAN.SPAN_US]
def ALM_LAST_RESMAX.REG : Reg := regOf [ALM_LAST_RESMAX.ANCHOR, ALM_LAST_RESMAX.NRES]
def ALM_ZONE_CFG.REG : Reg := regOf [ALM_ZONE_CFG.VALID, ALM_ZONE_CFG.ACCEPT_UNC, ALM_ZONE_CFG.NV, ALM_ZONE_CFG.Z_SIG]
def ALM_ZONE_CNT.REG : Reg := regOf [ALM_ZONE_CNT.PASSED, ALM_ZONE_CNT.REFUSED]

def regsAlm0 : List Reg := [
  ALM_PROFILE.REG, ALM_CTL.REG, ALM_STAT.REG, ALM_IRQ_STAT.REG, ALM_IRQ_EN.REG, ALM_DELAY_CFG.REG, ALM_RES_CFG.REG, ALM_GEOM_CFG.REG, ALM_SOLVE_CFG.REG, ALM_TABLE_STAT.REG, ALM_ANC_ADDR.REG, ALM_ANC_DATA.REG]

def regsAlm1 : List Reg := [
  ALM_REG_ADDR.REG, ALM_REG_DATA.REG, ALM_RES_ADDR.REG, ALM_RES_DATA.REG, ALM_CNT_OK.REG, ALM_CNT_RELAY.REG, ALM_CNT_RESID.REG, ALM_CNT_PRECOND.REG, ALM_CNT_DENIED.REG, ALM_CNT_DROP.REG, ALM_CNT_REMOTE.REG, ALM_CNT_LOCAL.REG]

def regsAlm2 : List Reg := [
  ALM_EVT_CODE.REG, ALM_EVT_STAMP_LO.REG, ALM_EVT_STAMP_HI.REG, ALM_TIME_STAT.REG, ALM_QUEUE_STAT.REG, ALM_CNT_CP2.REG, ALM_STACK_STAT.REG, ALM_TABLE_CRC.REG, ALM_LAST_CODE.REG, ALM_LAST_X.REG, ALM_LAST_Y.REG, ALM_LAST_Z.REG]

def regsAlm3 : List Reg := [
  ALM_LAST_B.REG, ALM_LAST_SIG.REG, ALM_LAST_CHI.REG, ALM_LAST_COV_XX.REG, ALM_LAST_COV_YY.REG, ALM_LAST_COV_ZZ.REG, ALM_LAST_COV_XY.REG, ALM_LAST_COV_XZ.REG, ALM_LAST_COV_YZ.REG, ALM_LAST_ZONE.REG, ALM_LAST_ITER.REG, ALM_LAST_STAMP_LO.REG]

def regsAlm4 : List Reg := [
  ALM_LAST_STAMP_HI.REG, ALM_LAST_USED.REG, ALM_LAST_DROP.REG, ALM_ANC_VALID.REG, ALM_LAST_DEVICE.REG, ALM_LAST_SPAN.REG, ALM_LAST_RESMAX.REG, ALM_ZONE_CFG.REG, ALM_ZONE_CNT.REG]

/-- The registers of block ALM. -/
def regsAlm : List Reg := regsAlm0 ++ regsAlm1 ++ regsAlm2 ++ regsAlm3 ++ regsAlm4

/-! ## SES, 09_sessions_queues_credits.md -/

def SES_PROFILE.PROFILE : Fld := fld0 0x080000 3 0 .RW 0 .image
def SES_CTL.CLR_CNT : Fld := fld0 0x080004 1 1 .WO 0 .plain
def SES_CTL.LOCK : Fld := fld0 0x080004 0 0 .W1S 0 .plain
def SES_STAT.FREE : Fld := fld0 0x080008 31 16 .RO 0x8000 .plain
def SES_STAT.OPEN : Fld := fld0 0x080008 15 0 .RO 0 .plain
def SES_IRQ_STAT.POISON : Fld := fld0 0x08000C 6 6 .W1C 0 .plain
def SES_IRQ_STAT.LATE_CANCEL : Fld := fld0 0x08000C 5 5 .W1C 0 .plain
def SES_IRQ_STAT.SLICE : Fld := fld0 0x08000C 4 4 .W1C 0 .plain
def SES_IRQ_STAT.TIMEOUT : Fld := fld0 0x08000C 3 3 .W1C 0 .plain
def SES_IRQ_STAT.STALE : Fld := fld0 0x08000C 2 2 .W1C 0 .plain
def SES_IRQ_STAT.CREDIT : Fld := fld0 0x08000C 1 1 .W1C 0 .plain
def SES_IRQ_STAT.REFUSE : Fld := fld0 0x08000C 0 0 .W1C 0 .plain
def SES_IRQ_EN.POISON : Fld := fld0 0x080010 6 6 .RW 0 .plain
def SES_IRQ_EN.LATE_CANCEL : Fld := fld0 0x080010 5 5 .RW 0 .plain
def SES_IRQ_EN.SLICE : Fld := fld0 0x080010 4 4 .RW 0 .plain
def SES_IRQ_EN.TIMEOUT : Fld := fld0 0x080010 3 3 .RW 0 .plain
def SES_IRQ_EN.STALE : Fld := fld0 0x080010 2 2 .RW 0 .plain
def SES_IRQ_EN.CREDIT : Fld := fld0 0x080010 1 1 .RW 0 .plain
def SES_IRQ_EN.REFUSE : Fld := fld0 0x080010 0 0 .RW 0 .plain
def SES_TO_CFG_A.IDENT_WAIT : Fld := fld0 0x080014 31 16 .RW 0x14 .plain true
def SES_TO_CFG_A.CHAL_TO : Fld := fld0 0x080014 15 0 .RW 0xA .plain true
def SES_TO_CFG_B.RANGE_TO : Fld := fld0 0x080018 31 16 .RW 0x1E .plain true
def SES_TO_CFG_B.BOUND_TO : Fld := fld0 0x080018 15 8 .RW 5 .plain true
def SES_TO_CFG_B.LOCATE_TO : Fld := fld0 0x080018 7 0 .RW 5 .plain true
def SES_TO_CFG_C.SESSION_MAX : Fld := fld0 0x08001C 31 16 .RW 0x32 .plain true
def SES_TO_CFG_C.DECIDE_TO : Fld := fld0 0x08001C 15 8 .RW 0xA .plain true
def SES_TO_CFG_C.CREDIT_WAIT : Fld := fld0 0x08001C 7 0 .RW 0x14 .plain true
def SES_SCHED_CFG.REMOTE_PCT : Fld := fld0 0x080020 23 16 .RW 0x19 .plain true
def SES_SCHED_CFG.SLICE_MAX : Fld := fld0 0x080020 7 0 .RW 0x14 .plain true
def SES_CANCEL.GEN : Fld := fld0 0x080024 31 16 .WO 0 .plain
def SES_CANCEL.SESSION : Fld := fld0 0x080024 14 0 .WO 0 .plain
def SES_CTX_ADDR.WORD : Fld := fld0 0x080028 21 16 .RW 0 .plain
def SES_CTX_ADDR.SESSION : Fld := fld0 0x080028 14 0 .RW 0 .plain
def SES_CTX_DATA.DATA : Fld := fld0 0x08002C 31 0 .RO 0 .plain
def SES_LAST_END.CODE : Fld := fld0 0x080030 31 24 .RO 0 .plain
def SES_LAST_END.STATE : Fld := fld0 0x080030 23 20 .RO 0 .plain
def SES_LAST_END.ABORTED : Fld := fld0 0x080030 15 15 .RO 0 .plain
def SES_LAST_END.SESSION : Fld := fld0 0x080030 14 0 .RO 0 .plain
def SES_LAST_STAMP_LO.STAMP : Fld := fld0 0x080034 31 0 .RO 0 .plain
def SES_LAST_STAMP_HI.STAMP : Fld := fld0 0x080038 31 0 .RO 0 .plain
def SES_CNT_OPEN.COUNT : Fld := fld0 0x08003C 31 0 .RO 0 .plain
def SES_CNT_CLOSED.COUNT : Fld := fld0 0x080040 31 0 .RO 0 .plain
def SES_CNT_ABORTED.COUNT : Fld := fld0 0x080044 31 0 .RO 0 .plain
def SES_CNT_RETURNED.COUNT : Fld := fld0 0x080048 31 0 .RO 0 .plain
def SES_CNT_REFUSE.COUNT : Fld := fld0 0x08004C 31 0 .RO 0 .plain
def SES_CNT_STALE.COUNT : Fld := fld0 0x080050 31 0 .RO 0 .plain
def SES_CNT_SCRIPT.COUNT : Fld := fld0 0x080054 31 0 .RO 0 .plain
def SES_CNT_LATE_CANCEL.COUNT : Fld := fld0 0x080058 31 0 .RO 0 .plain
def SES_ARB_STAT.WAITING : Fld := fld0 0x08005C 26 16 .RO 0 .plain
def SES_ARB_STAT.CLASS : Fld := fld0 0x08005C 1 0 .RO 0 .plain
def SES_CORE_STAT.READY : Fld := fld0 0x080060 31 16 .RO 0 .plain
def SES_CORE_STAT.BUSY : Fld := fld0 0x080060 15 0 .RO 0 .plain
def SES_STATE_CNT.COUNT : Fld := fld1 0x080080 0x4 16 15 0 .RO 0 .text
def SES_STATE_ABORT.COUNT : Fld := fld1 0x0800C0 0x4 16 31 0 .RO 0 .plain
def SES_CREDIT_CFG.CLASS : Fld := fld1 0x080100 0x8 16 31 30 .RO 0 .text
def SES_CREDIT_CFG.SIZE : Fld := fld1 0x080100 0x8 16 15 0 .RWL 0 .text
def SES_CREDIT_STAT.WAITERS : Fld := fld1 0x080104 0x8 16 31 16 .RO 0 .plain
def SES_CREDIT_STAT.IN_USE : Fld := fld1 0x080104 0x8 16 15 0 .RO 0 .plain
def SES_CNT_CODE.COUNT : Fld := fld1 0x080200 0x4 64 31 0 .RO 0 .plain
def SES_PROG_CFG.VALID : Fld := fld1 0x080300 0x8 32 31 31 .RO 0 .image
def SES_PROG_CFG.FLAGS : Fld := fld1 0x080300 0x8 32 30 24 .RO 0 .image
def SES_PROG_CFG.ZONE : Fld := fld1 0x080300 0x8 32 23 16 .RO 0 .image
def SES_PROG_CFG.CORE_MASK : Fld := fld1 0x080300 0x8 32 15 0 .RO 0 .image
def SES_PROG_CNT.ABORTED : Fld := fld1 0x080304 0x8 32 31 16 .RO 0 .plain
def SES_PROG_CNT.OPENED : Fld := fld1 0x080304 0x8 32 15 0 .RO 0 .plain
def SES_PROFILE.REG : Reg := regOf [SES_PROFILE.PROFILE]
def SES_CTL.REG : Reg := regOf [SES_CTL.CLR_CNT, SES_CTL.LOCK]
def SES_STAT.REG : Reg := regOf [SES_STAT.FREE, SES_STAT.OPEN]
def SES_IRQ_STAT.REG : Reg := regOf [SES_IRQ_STAT.POISON, SES_IRQ_STAT.LATE_CANCEL, SES_IRQ_STAT.SLICE, SES_IRQ_STAT.TIMEOUT, SES_IRQ_STAT.STALE, SES_IRQ_STAT.CREDIT, SES_IRQ_STAT.REFUSE]
def SES_IRQ_EN.REG : Reg := regOf [SES_IRQ_EN.POISON, SES_IRQ_EN.LATE_CANCEL, SES_IRQ_EN.SLICE, SES_IRQ_EN.TIMEOUT, SES_IRQ_EN.STALE, SES_IRQ_EN.CREDIT, SES_IRQ_EN.REFUSE]
def SES_TO_CFG_A.REG : Reg := regOf [SES_TO_CFG_A.IDENT_WAIT, SES_TO_CFG_A.CHAL_TO]
def SES_TO_CFG_B.REG : Reg := regOf [SES_TO_CFG_B.RANGE_TO, SES_TO_CFG_B.BOUND_TO, SES_TO_CFG_B.LOCATE_TO]
def SES_TO_CFG_C.REG : Reg := regOf [SES_TO_CFG_C.SESSION_MAX, SES_TO_CFG_C.DECIDE_TO, SES_TO_CFG_C.CREDIT_WAIT]
def SES_SCHED_CFG.REG : Reg := regOf [SES_SCHED_CFG.REMOTE_PCT, SES_SCHED_CFG.SLICE_MAX]
def SES_CANCEL.REG : Reg := regOf [SES_CANCEL.GEN, SES_CANCEL.SESSION]
def SES_CTX_ADDR.REG : Reg := regOf [SES_CTX_ADDR.WORD, SES_CTX_ADDR.SESSION]
def SES_CTX_DATA.REG : Reg := regOf [SES_CTX_DATA.DATA]
def SES_LAST_END.REG : Reg := regOf [SES_LAST_END.CODE, SES_LAST_END.STATE, SES_LAST_END.ABORTED, SES_LAST_END.SESSION]
def SES_LAST_STAMP_LO.REG : Reg := regOf [SES_LAST_STAMP_LO.STAMP]
def SES_LAST_STAMP_HI.REG : Reg := regOf [SES_LAST_STAMP_HI.STAMP]
def SES_CNT_OPEN.REG : Reg := regOf [SES_CNT_OPEN.COUNT]
def SES_CNT_CLOSED.REG : Reg := regOf [SES_CNT_CLOSED.COUNT]
def SES_CNT_ABORTED.REG : Reg := regOf [SES_CNT_ABORTED.COUNT]
def SES_CNT_RETURNED.REG : Reg := regOf [SES_CNT_RETURNED.COUNT]
def SES_CNT_REFUSE.REG : Reg := regOf [SES_CNT_REFUSE.COUNT]
def SES_CNT_STALE.REG : Reg := regOf [SES_CNT_STALE.COUNT]
def SES_CNT_SCRIPT.REG : Reg := regOf [SES_CNT_SCRIPT.COUNT]
def SES_CNT_LATE_CANCEL.REG : Reg := regOf [SES_CNT_LATE_CANCEL.COUNT]
def SES_ARB_STAT.REG : Reg := regOf [SES_ARB_STAT.WAITING, SES_ARB_STAT.CLASS]
def SES_CORE_STAT.REG : Reg := regOf [SES_CORE_STAT.READY, SES_CORE_STAT.BUSY]
def SES_STATE_CNT.REG : Reg := regOf [SES_STATE_CNT.COUNT]
def SES_STATE_ABORT.REG : Reg := regOf [SES_STATE_ABORT.COUNT]
def SES_CREDIT_CFG.REG : Reg := regOf [SES_CREDIT_CFG.CLASS, SES_CREDIT_CFG.SIZE]
def SES_CREDIT_STAT.REG : Reg := regOf [SES_CREDIT_STAT.WAITERS, SES_CREDIT_STAT.IN_USE]
def SES_CNT_CODE.REG : Reg := regOf [SES_CNT_CODE.COUNT]
def SES_PROG_CFG.REG : Reg := regOf [SES_PROG_CFG.VALID, SES_PROG_CFG.FLAGS, SES_PROG_CFG.ZONE, SES_PROG_CFG.CORE_MASK]
def SES_PROG_CNT.REG : Reg := regOf [SES_PROG_CNT.ABORTED, SES_PROG_CNT.OPENED]

def regsSes0 : List Reg := [
  SES_PROFILE.REG, SES_CTL.REG, SES_STAT.REG, SES_IRQ_STAT.REG, SES_IRQ_EN.REG, SES_TO_CFG_A.REG, SES_TO_CFG_B.REG, SES_TO_CFG_C.REG, SES_SCHED_CFG.REG, SES_CANCEL.REG, SES_CTX_ADDR.REG, SES_CTX_DATA.REG]

def regsSes1 : List Reg := [
  SES_LAST_END.REG, SES_LAST_STAMP_LO.REG, SES_LAST_STAMP_HI.REG, SES_CNT_OPEN.REG, SES_CNT_CLOSED.REG, SES_CNT_ABORTED.REG, SES_CNT_RETURNED.REG, SES_CNT_REFUSE.REG, SES_CNT_STALE.REG, SES_CNT_SCRIPT.REG, SES_CNT_LATE_CANCEL.REG, SES_ARB_STAT.REG]

def regsSes2 : List Reg := [
  SES_CORE_STAT.REG, SES_STATE_CNT.REG, SES_STATE_ABORT.REG, SES_CREDIT_CFG.REG, SES_CREDIT_STAT.REG, SES_CNT_CODE.REG, SES_PROG_CFG.REG, SES_PROG_CNT.REG]

/-- The registers of block SES. -/
def regsSes : List Reg := regsSes0 ++ regsSes1 ++ regsSes2

/-! ## SHU, 10_rolling_codes_and_release.md -/

def SHU_PROFILE.PROFILE : Fld := fld0 0x090000 3 0 .RW 0 .image
def SHU_CTL.CLR_CNT : Fld := fld0 0x090004 1 1 .WO 0 .plain
def SHU_CTL.LOCK : Fld := fld0 0x090004 0 0 .W1S 0 .plain
def SHU_STAT.REL_ACTIVE : Fld := fld0 0x090008 31 23 .RO 0 .plain
def SHU_STAT.OPEN_LIST : Fld := fld0 0x090008 22 14 .RO 0 .plate
def SHU_STAT.RESYNC : Fld := fld0 0x090008 13 7 .RO 0 .plain
def SHU_STAT.CFG_BAD : Fld := fld0 0x090008 0 0 .RO 0 .plain
def SHU_IRQ_STAT.NODE_FAULT : Fld := fld0 0x09000C 7 7 .W1C 0 .plain
def SHU_IRQ_STAT.OUT_FAULT : Fld := fld0 0x09000C 6 6 .W1C 0 .plain
def SHU_IRQ_STAT.LOCKOUT : Fld := fld0 0x09000C 5 5 .W1C 0 .plain
def SHU_IRQ_STAT.RESYNC : Fld := fld0 0x09000C 4 4 .W1C 0 .plain
def SHU_IRQ_STAT.REPLAY : Fld := fld0 0x09000C 3 3 .W1C 0 .plain
def SHU_IRQ_STAT.REL_TIMEOUT : Fld := fld0 0x09000C 2 2 .W1C 0 .plain
def SHU_IRQ_STAT.REL_END : Fld := fld0 0x09000C 1 1 .W1C 0 .plain
def SHU_IRQ_STAT.BTN_DROP : Fld := fld0 0x09000C 0 0 .W1C 0 .plain
def SHU_IRQ_EN.NODE_FAULT : Fld := fld0 0x090010 7 7 .RW 0 .plain
def SHU_IRQ_EN.OUT_FAULT : Fld := fld0 0x090010 6 6 .RW 0 .plain
def SHU_IRQ_EN.LOCKOUT : Fld := fld0 0x090010 5 5 .RW 0 .plain
def SHU_IRQ_EN.RESYNC : Fld := fld0 0x090010 4 4 .RW 0 .plain
def SHU_IRQ_EN.REPLAY : Fld := fld0 0x090010 3 3 .RW 0 .plain
def SHU_IRQ_EN.REL_TIMEOUT : Fld := fld0 0x090010 2 2 .RW 0 .plain
def SHU_IRQ_EN.REL_END : Fld := fld0 0x090010 1 1 .RW 0 .plain
def SHU_IRQ_EN.BTN_DROP : Fld := fld0 0x090010 0 0 .RW 0 .plain
def SHU_ROLL_CFG.RESYNC_HOLD : Fld := fld0 0x090014 31 16 .RW 0x1E .plain true
def SHU_ROLL_CFG.WIN : Fld := fld0 0x090014 12 0 .RW 0x100 .plain true
def SHU_LOCK_CFG.LOCK_MIN : Fld := fld0 0x090018 31 24 .RW 0xA .plain true
def SHU_LOCK_CFG.FAIL_WIN_MIN : Fld := fld0 0x090018 23 16 .RW 1 .plain true
def SHU_LOCK_CFG.FAIL_MAX : Fld := fld0 0x090018 15 8 .RW 5 .plain true
def SHU_LOCK_CFG.DUP_WIN : Fld := fld0 0x090018 7 0 .RW 0x32 .plain true
def SHU_LOCK_FLOOR.LOCK_EFF : Fld := fld0 0x09001C 15 8 .RO 0 .plate
def SHU_LOCK_FLOOR.FLOOR : Fld := fld0 0x09001C 7 0 .AUT 0 .plate
def SHU_BTN_CFG.BTN_TRX : Fld := fld0 0x090020 3 0 .RWL 0 .image
def SHU_UHF_FREQ.FREQ : Fld := fld0 0x090024 23 0 .RWL 0 .image
def SHU_PERMIT_CFG.PERMIT_POLL : Fld := fld0 0x090028 31 24 .RW 5 .plain true
def SHU_PERMIT_CFG.PERMIT_GAP : Fld := fld0 0x090028 23 16 .RW 0xA .plain true
def SHU_PERMIT_CFG.PERMIT_ACK : Fld := fld0 0x090028 15 8 .RW 0x32 .plain true
def SHU_PERMIT_CFG.PERMIT_TO : Fld := fld0 0x090028 7 4 .RW 3 .plain true
def SHU_PERMIT_CFG.PERMIT_TRIES : Fld := fld0 0x090028 3 0 .RW 3 .plain true
def SHU_NODE_CFG.REL_GAP : Fld := fld0 0x09002C 31 24 .RW 0x14 .plain true
def SHU_NODE_CFG.NODE_TO : Fld := fld0 0x09002C 23 16 .RW 0x64 .plain true
def SHU_NODE_CFG.NODE_ACK : Fld := fld0 0x09002C 15 8 .RW 0x32 .plain true
def SHU_NODE_CFG.NODE_TRIES : Fld := fld0 0x09002C 3 0 .RW 3 .plain true
def SHU_REL_ADDR.WORD : Fld := fld0 0x090030 10 8 .RW 0 .plain
def SHU_REL_ADDR.ENTRY : Fld := fld0 0x090030 7 0 .RW 0 .plain
def SHU_REL_DATA.DATA : Fld := fld0 0x090034 31 0 .RO 0 .plain
def SHU_EVT_CODE.KIND : Fld := fld0 0x090038 31 28 .RO 0 .plain
def SHU_EVT_CODE.REASON : Fld := fld0 0x090038 27 24 .RO 0 .plain
def SHU_EVT_CODE.CODE : Fld := fld0 0x090038 23 16 .RO 0 .plain
def SHU_EVT_CODE.SESSION : Fld := fld0 0x090038 14 0 .RO 0 .plain
def SHU_EVT_STAMP_LO.STAMP : Fld := fld0 0x09003C 31 0 .RO 0 .plain
def SHU_EVT_STAMP_HI.STAMP : Fld := fld0 0x090040 31 0 .RO 0 .plain
def SHU_CNT_BTN_RX.COUNT : Fld := fld0 0x090044 31 0 .RO 0 .plain
def SHU_CNT_BTN_DUP.COUNT : Fld := fld0 0x090048 31 0 .RO 0 .plain
def SHU_CNT_BTN_FMT.COUNT : Fld := fld0 0x09004C 31 0 .RO 0 .plain
def SHU_CNT_ROLL_OK.COUNT : Fld := fld0 0x090050 31 0 .RO 0 .plain
def SHU_CNT_ROLL_RESYNC.COUNT : Fld := fld0 0x090054 31 0 .RO 0 .plain
def SHU_CNT_ROLL_REPLAY.COUNT : Fld := fld0 0x090058 31 0 .RO 0 .plain
def SHU_CNT_ROLL_BADCHECK.COUNT : Fld := fld0 0x09005C 31 0 .RO 0 .plain
def SHU_CNT_ROLL_RANGE.COUNT : Fld := fld0 0x090060 31 0 .RO 0 .plain
def SHU_CNT_FAIL.COUNT : Fld := fld0 0x090064 31 0 .RO 0 .plain
def SHU_CNT_LOCKOUT.COUNT : Fld := fld0 0x090068 31 0 .RO 0 .plain
def SHU_CNT_REL.COUNT : Fld := fld0 0x09006C 31 0 .RO 0 .plain
def SHU_CNT_PASS.COUNT : Fld := fld0 0x090070 31 0 .RO 0 .plain
def SHU_CNT_REL_TIMEOUT.COUNT : Fld := fld0 0x090074 31 0 .RO 0 .plain
def SHU_CNT_REL_FAULT.COUNT : Fld := fld0 0x090078 31 0 .RO 0 .plain
def SHU_CNT_PERMIT_TX.COUNT : Fld := fld0 0x09007C 31 0 .RO 0 .plain
def SHU_BTN_MAP.VALID : Fld := fld1 0x090080 0x4 16 31 31 .RWL 0 .image
def SHU_BTN_MAP.PRESENCE : Fld := fld1 0x090080 0x4 16 30 30 .RWL 0 .image
def SHU_BTN_MAP.PROG : Fld := fld1 0x090080 0x4 16 4 0 .RWL 0 .image
def SHU_BTN_CNT.DROPPED : Fld := fld1 0x0900C0 0x4 16 31 16 .RO 0 .plain
def SHU_BTN_CNT.OPENED : Fld := fld1 0x0900C0 0x4 16 15 0 .RO 0 .plain
def SHU_OUT_CTL.PULSE_MS : Fld := fld1 0x091000 0x40 16 31 16 .RW 0 .image
def SHU_OUT_CTL.CLR_FAULT : Fld := fld1 0x091000 0x40 16 8 8 .WO 0 .plain
def SHU_OUT_CTL.TEST : Fld := fld1 0x091000 0x40 16 0 0 .AUT 0 .plain
def SHU_OUT_CFG.EN : Fld := fld1 0x091004 0x40 16 31 31 .RWL 0 .image
def SHU_OUT_CFG.QUEUE : Fld := fld1 0x091004 0x40 16 30 30 .RW 0 .image
def SHU_OUT_CFG.MODE : Fld := fld1 0x091004 0x40 16 29 28 .RWL 0 .image
def SHU_OUT_CFG.SENSE : Fld := fld1 0x091004 0x40 16 27 26 .RWL 0 .image
def SHU_OUT_CFG.PASS_ON : Fld := fld1 0x091004 0x40 16 25 25 .RWL 0 .image
def SHU_OUT_CFG.SUPERVISE : Fld := fld1 0x091004 0x40 16 24 24 .RWL 0 .image
def SHU_OUT_CFG.SENSE_DEB : Fld := fld1 0x091004 0x40 16 23 16 .RW 0 .image
def SHU_OUT_CFG.REL_TO : Fld := fld1 0x091004 0x40 16 15 0 .RW 0 .image
def SHU_OUT_STAT.CODE : Fld := fld1 0x091008 0x40 16 31 24 .RO 0 .plain
def SHU_OUT_STAT.REASON : Fld := fld1 0x091008 0x40 16 23 20 .RO 0 .plain
def SHU_OUT_STAT.QUEUED : Fld := fld1 0x091008 0x40 16 19 17 .RO 0 .plain
def SHU_OUT_STAT.FAULT : Fld := fld1 0x091008 0x40 16 15 13 .RO 0 .plain
def SHU_OUT_STAT.SENSE : Fld := fld1 0x091008 0x40 16 12 10 .RO 4 .plain
def SHU_OUT_STAT.ASSERTED : Fld := fld1 0x091008 0x40 16 9 9 .RO 0 .plain
def SHU_OUT_STAT.RUNNING : Fld := fld1 0x091008 0x40 16 8 8 .RO 0 .plain
def SHU_OUT_SENSE.OHM : Fld := fld1 0x09100C 0x40 16 31 16 .RO 0xFFFF .plain
def SHU_OUT_SENSE.LOAD_MA : Fld := fld1 0x09100C 0x40 16 15 0 .RO 0 .plain
def SHU_OUT_CNT_REL.COUNT : Fld := fld1 0x091010 0x40 16 31 0 .RO 0 .plain
def SHU_OUT_CNT_PASS.COUNT : Fld := fld1 0x091014 0x40 16 31 0 .RO 0 .plain
def SHU_OUT_CNT_TIMEOUT.COUNT : Fld := fld1 0x091018 0x40 16 31 0 .RO 0 .plain
def SHU_OUT_CNT_FAULT.COUNT : Fld := fld1 0x09101C 0x40 16 31 0 .RO 0 .plain
def SHU_OUT_STAMP_LO.STAMP : Fld := fld1 0x091020 0x40 16 31 0 .RO 0 .plain
def SHU_OUT_STAMP_HI.STAMP : Fld := fld1 0x091024 0x40 16 31 0 .RO 0 .plain
def SHU_CAN_CTL.EN : Fld := fld1 0x092000 0x100 2 31 31 .RWL 0 .image
def SHU_CAN_CTL.BRS : Fld := fld1 0x092000 0x100 2 30 30 .RWL 0 .image
def SHU_CAN_CTL.TDC_EN : Fld := fld1 0x092000 0x100 2 29 29 .RWL 0 .image
def SHU_CAN_CTL.RESTART_MAN : Fld := fld1 0x092000 0x100 2 28 28 .RWL 0 .plain
def SHU_CAN_CTL.RESTART : Fld := fld1 0x092000 0x100 2 8 8 .WO 0 .plain
def SHU_CAN_CTL.MODE : Fld := fld1 0x092000 0x100 2 1 0 .RWL 0 .plain
def SHU_CAN_NBT.BRP : Fld := fld1 0x092004 0x100 2 31 24 .RWL 0 .image
def SHU_CAN_NBT.TSEG1 : Fld := fld1 0x092004 0x100 2 23 16 .RWL 0 .image
def SHU_CAN_NBT.TSEG2 : Fld := fld1 0x092004 0x100 2 15 8 .RWL 0 .image
def SHU_CAN_NBT.SJW : Fld := fld1 0x092004 0x100 2 7 0 .RWL 0 .image
def SHU_CAN_DBT.BRP : Fld := fld1 0x092008 0x100 2 31 24 .RWL 0 .image
def SHU_CAN_DBT.TSEG1 : Fld := fld1 0x092008 0x100 2 23 16 .RWL 0 .image
def SHU_CAN_DBT.TSEG2 : Fld := fld1 0x092008 0x100 2 15 8 .RWL 0 .image
def SHU_CAN_DBT.SJW : Fld := fld1 0x092008 0x100 2 7 0 .RWL 0 .image
def SHU_CAN_TDC.TDCO : Fld := fld1 0x09200C 0x100 2 15 8 .RWL 0 .image
def SHU_CAN_TDC.TDCF : Fld := fld1 0x09200C 0x100 2 7 0 .RWL 0 .image
def SHU_CAN_STAT.STATE : Fld := fld1 0x092010 0x100 2 1 0 .RO 3 .plain
def SHU_CAN_ERR.LAST_ERR : Fld := fld1 0x092014 0x100 2 23 16 .RO 0 .plain
def SHU_CAN_ERR.REC : Fld := fld1 0x092014 0x100 2 15 8 .RO 0 .plain
def SHU_CAN_ERR.TEC : Fld := fld1 0x092014 0x100 2 7 0 .RO 0 .plain
def SHU_CAN_IRQ_STAT.BAD_CHECK : Fld := fld1 0x092018 0x100 2 3 3 .W1C 0 .plain
def SHU_CAN_IRQ_STAT.BUS_OFF : Fld := fld1 0x092018 0x100 2 2 2 .W1C 0 .plain
def SHU_CAN_IRQ_STAT.PASSIVE : Fld := fld1 0x092018 0x100 2 1 1 .W1C 0 .plain
def SHU_CAN_IRQ_STAT.RECOVERED : Fld := fld1 0x092018 0x100 2 0 0 .W1C 0 .plain
def SHU_CAN_IRQ_EN.BAD_CHECK : Fld := fld1 0x09201C 0x100 2 3 3 .RW 0 .plain
def SHU_CAN_IRQ_EN.BUS_OFF : Fld := fld1 0x09201C 0x100 2 2 2 .RW 0 .plain
def SHU_CAN_IRQ_EN.PASSIVE : Fld := fld1 0x09201C 0x100 2 1 1 .RW 0 .plain
def SHU_CAN_IRQ_EN.RECOVERED : Fld := fld1 0x09201C 0x100 2 0 0 .RW 0 .plain
def SHU_CAN_CNT_TX.COUNT : Fld := fld1 0x092020 0x100 2 31 0 .RO 0 .plain
def SHU_CAN_CNT_RX.COUNT : Fld := fld1 0x092024 0x100 2 31 0 .RO 0 .plain
def SHU_CAN_CNT_CRC.COUNT : Fld := fld1 0x092028 0x100 2 31 0 .RO 0 .plain
def SHU_CAN_CNT_FORM.COUNT : Fld := fld1 0x09202C 0x100 2 31 0 .RO 0 .plain
def SHU_CAN_CNT_ACK.COUNT : Fld := fld1 0x092030 0x100 2 31 0 .RO 0 .plain
def SHU_CAN_CNT_BUSOFF.COUNT : Fld := fld1 0x092034 0x100 2 31 0 .RO 0 .plain
def SHU_CAN_CNT_BAD_CHECK.COUNT : Fld := fld1 0x092038 0x100 2 31 0 .RO 0 .plain
def SHU_CAN_CNT_DROP.COUNT : Fld := fld1 0x09203C 0x100 2 31 0 .RO 0 .plain
def SHU_CAN_RXLOG.VALID : Fld := fld2 0x092040 0x100 2 0x4 16 31 31 .RO 0 .plain
def SHU_CAN_RXLOG.FD : Fld := fld2 0x092040 0x100 2 0x4 16 30 30 .RO 0 .plain
def SHU_CAN_RXLOG.EXT : Fld := fld2 0x092040 0x100 2 0x4 16 29 29 .RO 0 .plain
def SHU_CAN_RXLOG.ID : Fld := fld2 0x092040 0x100 2 0x4 16 28 0 .RO 0 .plain
def SHU_NODE_PRESENT.MAP : Fld := fld1 0x093000 0x4 8 31 0 .RO 0 .plain
def SHU_NODE_VU.MAP : Fld := fld1 0x093020 0x4 8 31 0 .RO 0 .plain
def SHU_NODE_BUSY.MAP : Fld := fld1 0x093040 0x4 8 31 0 .RO 0 .plain
def SHU_NODE_FAULT.MAP : Fld := fld1 0x093060 0x4 8 31 0 .RO 0 .plain
def SHU_PROFILE.REG : Reg := regOf [SHU_PROFILE.PROFILE]
def SHU_CTL.REG : Reg := regOf [SHU_CTL.CLR_CNT, SHU_CTL.LOCK]
def SHU_STAT.REG : Reg := regOf [SHU_STAT.REL_ACTIVE, SHU_STAT.OPEN_LIST, SHU_STAT.RESYNC, SHU_STAT.CFG_BAD]
def SHU_IRQ_STAT.REG : Reg := regOf [SHU_IRQ_STAT.NODE_FAULT, SHU_IRQ_STAT.OUT_FAULT, SHU_IRQ_STAT.LOCKOUT, SHU_IRQ_STAT.RESYNC, SHU_IRQ_STAT.REPLAY, SHU_IRQ_STAT.REL_TIMEOUT, SHU_IRQ_STAT.REL_END, SHU_IRQ_STAT.BTN_DROP]
def SHU_IRQ_EN.REG : Reg := regOf [SHU_IRQ_EN.NODE_FAULT, SHU_IRQ_EN.OUT_FAULT, SHU_IRQ_EN.LOCKOUT, SHU_IRQ_EN.RESYNC, SHU_IRQ_EN.REPLAY, SHU_IRQ_EN.REL_TIMEOUT, SHU_IRQ_EN.REL_END, SHU_IRQ_EN.BTN_DROP]
def SHU_ROLL_CFG.REG : Reg := regOf [SHU_ROLL_CFG.RESYNC_HOLD, SHU_ROLL_CFG.WIN]
def SHU_LOCK_CFG.REG : Reg := regOf [SHU_LOCK_CFG.LOCK_MIN, SHU_LOCK_CFG.FAIL_WIN_MIN, SHU_LOCK_CFG.FAIL_MAX, SHU_LOCK_CFG.DUP_WIN]
def SHU_LOCK_FLOOR.REG : Reg := regOf [SHU_LOCK_FLOOR.LOCK_EFF, SHU_LOCK_FLOOR.FLOOR]
def SHU_BTN_CFG.REG : Reg := regOf [SHU_BTN_CFG.BTN_TRX]
def SHU_UHF_FREQ.REG : Reg := regOf [SHU_UHF_FREQ.FREQ]
def SHU_PERMIT_CFG.REG : Reg := regOf [SHU_PERMIT_CFG.PERMIT_POLL, SHU_PERMIT_CFG.PERMIT_GAP, SHU_PERMIT_CFG.PERMIT_ACK, SHU_PERMIT_CFG.PERMIT_TO, SHU_PERMIT_CFG.PERMIT_TRIES]
def SHU_NODE_CFG.REG : Reg := regOf [SHU_NODE_CFG.REL_GAP, SHU_NODE_CFG.NODE_TO, SHU_NODE_CFG.NODE_ACK, SHU_NODE_CFG.NODE_TRIES]
def SHU_REL_ADDR.REG : Reg := regOf [SHU_REL_ADDR.WORD, SHU_REL_ADDR.ENTRY]
def SHU_REL_DATA.REG : Reg := regOf [SHU_REL_DATA.DATA]
def SHU_EVT_CODE.REG : Reg := regOf [SHU_EVT_CODE.KIND, SHU_EVT_CODE.REASON, SHU_EVT_CODE.CODE, SHU_EVT_CODE.SESSION]
def SHU_EVT_STAMP_LO.REG : Reg := regOf [SHU_EVT_STAMP_LO.STAMP]
def SHU_EVT_STAMP_HI.REG : Reg := regOf [SHU_EVT_STAMP_HI.STAMP]
def SHU_CNT_BTN_RX.REG : Reg := regOf [SHU_CNT_BTN_RX.COUNT]
def SHU_CNT_BTN_DUP.REG : Reg := regOf [SHU_CNT_BTN_DUP.COUNT]
def SHU_CNT_BTN_FMT.REG : Reg := regOf [SHU_CNT_BTN_FMT.COUNT]
def SHU_CNT_ROLL_OK.REG : Reg := regOf [SHU_CNT_ROLL_OK.COUNT]
def SHU_CNT_ROLL_RESYNC.REG : Reg := regOf [SHU_CNT_ROLL_RESYNC.COUNT]
def SHU_CNT_ROLL_REPLAY.REG : Reg := regOf [SHU_CNT_ROLL_REPLAY.COUNT]
def SHU_CNT_ROLL_BADCHECK.REG : Reg := regOf [SHU_CNT_ROLL_BADCHECK.COUNT]
def SHU_CNT_ROLL_RANGE.REG : Reg := regOf [SHU_CNT_ROLL_RANGE.COUNT]
def SHU_CNT_FAIL.REG : Reg := regOf [SHU_CNT_FAIL.COUNT]
def SHU_CNT_LOCKOUT.REG : Reg := regOf [SHU_CNT_LOCKOUT.COUNT]
def SHU_CNT_REL.REG : Reg := regOf [SHU_CNT_REL.COUNT]
def SHU_CNT_PASS.REG : Reg := regOf [SHU_CNT_PASS.COUNT]
def SHU_CNT_REL_TIMEOUT.REG : Reg := regOf [SHU_CNT_REL_TIMEOUT.COUNT]
def SHU_CNT_REL_FAULT.REG : Reg := regOf [SHU_CNT_REL_FAULT.COUNT]
def SHU_CNT_PERMIT_TX.REG : Reg := regOf [SHU_CNT_PERMIT_TX.COUNT]
def SHU_BTN_MAP.REG : Reg := regOf [SHU_BTN_MAP.VALID, SHU_BTN_MAP.PRESENCE, SHU_BTN_MAP.PROG]
def SHU_BTN_CNT.REG : Reg := regOf [SHU_BTN_CNT.DROPPED, SHU_BTN_CNT.OPENED]
def SHU_OUT_CTL.REG : Reg := regOf [SHU_OUT_CTL.PULSE_MS, SHU_OUT_CTL.CLR_FAULT, SHU_OUT_CTL.TEST]
def SHU_OUT_CFG.REG : Reg := regOf [SHU_OUT_CFG.EN, SHU_OUT_CFG.QUEUE, SHU_OUT_CFG.MODE, SHU_OUT_CFG.SENSE, SHU_OUT_CFG.PASS_ON, SHU_OUT_CFG.SUPERVISE, SHU_OUT_CFG.SENSE_DEB, SHU_OUT_CFG.REL_TO]
def SHU_OUT_STAT.REG : Reg := regOf [SHU_OUT_STAT.CODE, SHU_OUT_STAT.REASON, SHU_OUT_STAT.QUEUED, SHU_OUT_STAT.FAULT, SHU_OUT_STAT.SENSE, SHU_OUT_STAT.ASSERTED, SHU_OUT_STAT.RUNNING]
def SHU_OUT_SENSE.REG : Reg := regOf [SHU_OUT_SENSE.OHM, SHU_OUT_SENSE.LOAD_MA]
def SHU_OUT_CNT_REL.REG : Reg := regOf [SHU_OUT_CNT_REL.COUNT]
def SHU_OUT_CNT_PASS.REG : Reg := regOf [SHU_OUT_CNT_PASS.COUNT]
def SHU_OUT_CNT_TIMEOUT.REG : Reg := regOf [SHU_OUT_CNT_TIMEOUT.COUNT]
def SHU_OUT_CNT_FAULT.REG : Reg := regOf [SHU_OUT_CNT_FAULT.COUNT]
def SHU_OUT_STAMP_LO.REG : Reg := regOf [SHU_OUT_STAMP_LO.STAMP]
def SHU_OUT_STAMP_HI.REG : Reg := regOf [SHU_OUT_STAMP_HI.STAMP]
def SHU_CAN_CTL.REG : Reg := regOf [SHU_CAN_CTL.EN, SHU_CAN_CTL.BRS, SHU_CAN_CTL.TDC_EN, SHU_CAN_CTL.RESTART_MAN, SHU_CAN_CTL.RESTART, SHU_CAN_CTL.MODE]
def SHU_CAN_NBT.REG : Reg := regOf [SHU_CAN_NBT.BRP, SHU_CAN_NBT.TSEG1, SHU_CAN_NBT.TSEG2, SHU_CAN_NBT.SJW]
def SHU_CAN_DBT.REG : Reg := regOf [SHU_CAN_DBT.BRP, SHU_CAN_DBT.TSEG1, SHU_CAN_DBT.TSEG2, SHU_CAN_DBT.SJW]
def SHU_CAN_TDC.REG : Reg := regOf [SHU_CAN_TDC.TDCO, SHU_CAN_TDC.TDCF]
def SHU_CAN_STAT.REG : Reg := regOf [SHU_CAN_STAT.STATE]
def SHU_CAN_ERR.REG : Reg := regOf [SHU_CAN_ERR.LAST_ERR, SHU_CAN_ERR.REC, SHU_CAN_ERR.TEC]
def SHU_CAN_IRQ_STAT.REG : Reg := regOf [SHU_CAN_IRQ_STAT.BAD_CHECK, SHU_CAN_IRQ_STAT.BUS_OFF, SHU_CAN_IRQ_STAT.PASSIVE, SHU_CAN_IRQ_STAT.RECOVERED]
def SHU_CAN_IRQ_EN.REG : Reg := regOf [SHU_CAN_IRQ_EN.BAD_CHECK, SHU_CAN_IRQ_EN.BUS_OFF, SHU_CAN_IRQ_EN.PASSIVE, SHU_CAN_IRQ_EN.RECOVERED]
def SHU_CAN_CNT_TX.REG : Reg := regOf [SHU_CAN_CNT_TX.COUNT]
def SHU_CAN_CNT_RX.REG : Reg := regOf [SHU_CAN_CNT_RX.COUNT]
def SHU_CAN_CNT_CRC.REG : Reg := regOf [SHU_CAN_CNT_CRC.COUNT]
def SHU_CAN_CNT_FORM.REG : Reg := regOf [SHU_CAN_CNT_FORM.COUNT]
def SHU_CAN_CNT_ACK.REG : Reg := regOf [SHU_CAN_CNT_ACK.COUNT]
def SHU_CAN_CNT_BUSOFF.REG : Reg := regOf [SHU_CAN_CNT_BUSOFF.COUNT]
def SHU_CAN_CNT_BAD_CHECK.REG : Reg := regOf [SHU_CAN_CNT_BAD_CHECK.COUNT]
def SHU_CAN_CNT_DROP.REG : Reg := regOf [SHU_CAN_CNT_DROP.COUNT]
def SHU_CAN_RXLOG.REG : Reg := regOf [SHU_CAN_RXLOG.VALID, SHU_CAN_RXLOG.FD, SHU_CAN_RXLOG.EXT, SHU_CAN_RXLOG.ID]
def SHU_NODE_PRESENT.REG : Reg := regOf [SHU_NODE_PRESENT.MAP]
def SHU_NODE_VU.REG : Reg := regOf [SHU_NODE_VU.MAP]
def SHU_NODE_BUSY.REG : Reg := regOf [SHU_NODE_BUSY.MAP]
def SHU_NODE_FAULT.REG : Reg := regOf [SHU_NODE_FAULT.MAP]

def regsShu0 : List Reg := [
  SHU_PROFILE.REG, SHU_CTL.REG, SHU_STAT.REG, SHU_IRQ_STAT.REG, SHU_IRQ_EN.REG, SHU_ROLL_CFG.REG, SHU_LOCK_CFG.REG, SHU_LOCK_FLOOR.REG, SHU_BTN_CFG.REG, SHU_UHF_FREQ.REG, SHU_PERMIT_CFG.REG, SHU_NODE_CFG.REG]

def regsShu1 : List Reg := [
  SHU_REL_ADDR.REG, SHU_REL_DATA.REG, SHU_EVT_CODE.REG, SHU_EVT_STAMP_LO.REG, SHU_EVT_STAMP_HI.REG, SHU_CNT_BTN_RX.REG, SHU_CNT_BTN_DUP.REG, SHU_CNT_BTN_FMT.REG, SHU_CNT_ROLL_OK.REG, SHU_CNT_ROLL_RESYNC.REG, SHU_CNT_ROLL_REPLAY.REG, SHU_CNT_ROLL_BADCHECK.REG]

def regsShu2 : List Reg := [
  SHU_CNT_ROLL_RANGE.REG, SHU_CNT_FAIL.REG, SHU_CNT_LOCKOUT.REG, SHU_CNT_REL.REG, SHU_CNT_PASS.REG, SHU_CNT_REL_TIMEOUT.REG, SHU_CNT_REL_FAULT.REG, SHU_CNT_PERMIT_TX.REG, SHU_BTN_MAP.REG, SHU_BTN_CNT.REG, SHU_OUT_CTL.REG, SHU_OUT_CFG.REG]

def regsShu3 : List Reg := [
  SHU_OUT_STAT.REG, SHU_OUT_SENSE.REG, SHU_OUT_CNT_REL.REG, SHU_OUT_CNT_PASS.REG, SHU_OUT_CNT_TIMEOUT.REG, SHU_OUT_CNT_FAULT.REG, SHU_OUT_STAMP_LO.REG, SHU_OUT_STAMP_HI.REG, SHU_CAN_CTL.REG, SHU_CAN_NBT.REG, SHU_CAN_DBT.REG, SHU_CAN_TDC.REG]

def regsShu4 : List Reg := [
  SHU_CAN_STAT.REG, SHU_CAN_ERR.REG, SHU_CAN_IRQ_STAT.REG, SHU_CAN_IRQ_EN.REG, SHU_CAN_CNT_TX.REG, SHU_CAN_CNT_RX.REG, SHU_CAN_CNT_CRC.REG, SHU_CAN_CNT_FORM.REG, SHU_CAN_CNT_ACK.REG, SHU_CAN_CNT_BUSOFF.REG, SHU_CAN_CNT_BAD_CHECK.REG, SHU_CAN_CNT_DROP.REG]

def regsShu5 : List Reg := [
  SHU_CAN_RXLOG.REG, SHU_NODE_PRESENT.REG, SHU_NODE_VU.REG, SHU_NODE_BUSY.REG, SHU_NODE_FAULT.REG]

/-- The registers of block SHU. -/
def regsShu : List Reg := regsShu0 ++ regsShu1 ++ regsShu2 ++ regsShu3 ++ regsShu4 ++ regsShu5

/-! ## EPH, 11_ephemeris_credentials.md -/

def EPH_PROFILE.PROFILE : Fld := fld0 0x0A0000 3 0 .RW 0 .image
def EPH_CTL.COMPACT_NOW : Fld := fld0 0x0A0004 2 2 .WO 0 .plain
def EPH_CTL.CLR_CNT : Fld := fld0 0x0A0004 1 1 .WO 0 .plain
def EPH_CTL.LOCK : Fld := fld0 0x0A0004 0 0 .W1S 0 .plain
def EPH_STAT.STATE : Fld := fld0 0x0A0008 31 29 .RO 0 .plain
def EPH_STAT.PART : Fld := fld0 0x0A0008 26 24 .RO 0 .plate
def EPH_STAT.NPART : Fld := fld0 0x0A0008 23 20 .RO 0 .plate
def EPH_STAT.PART_CONFLICT : Fld := fld0 0x0A0008 3 3 .RO 0 .plain
def EPH_STAT.BAD_PAGES : Fld := fld0 0x0A0008 2 2 .RO 0 .plain
def EPH_STAT.COMPACTING : Fld := fld0 0x0A0008 1 1 .RO 0 .plain
def EPH_STAT.STAGED : Fld := fld0 0x0A0008 0 0 .RO 0 .plain
def EPH_IRQ_STAT.CODE_LOCK : Fld := fld0 0x0A000C 6 6 .W1C 0 .plain
def EPH_IRQ_STAT.JOURNAL : Fld := fld0 0x0A000C 5 5 .W1C 0 .plain
def EPH_IRQ_STAT.COMPACT : Fld := fld0 0x0A000C 4 4 .W1C 0 .plain
def EPH_IRQ_STAT.REJECTED : Fld := fld0 0x0A000C 3 3 .W1C 0 .plain
def EPH_IRQ_STAT.BAD_PAGE : Fld := fld0 0x0A000C 2 2 .W1C 0 .plain
def EPH_IRQ_STAT.INTEGRITY : Fld := fld0 0x0A000C 1 1 .W1C 0 .plain
def EPH_IRQ_STAT.READY : Fld := fld0 0x0A000C 0 0 .W1C 0 .plain
def EPH_IRQ_EN.CODE_LOCK : Fld := fld0 0x0A0010 6 6 .RW 0 .plain
def EPH_IRQ_EN.JOURNAL : Fld := fld0 0x0A0010 5 5 .RW 0 .plain
def EPH_IRQ_EN.COMPACT : Fld := fld0 0x0A0010 4 4 .RW 0 .plain
def EPH_IRQ_EN.REJECTED : Fld := fld0 0x0A0010 3 3 .RW 0 .plain
def EPH_IRQ_EN.BAD_PAGE : Fld := fld0 0x0A0010 2 2 .RW 0 .plain
def EPH_IRQ_EN.INTEGRITY : Fld := fld0 0x0A0010 1 1 .RW 0 .plain
def EPH_IRQ_EN.READY : Fld := fld0 0x0A0010 0 0 .RW 0 .plain
def EPH_LOAD_STAT.WAITING : Fld := fld0 0x0A0014 31 24 .RO 0 .plain
def EPH_LOAD_STAT.VERIFIED : Fld := fld0 0x0A0014 17 0 .RO 0 .plain
def EPH_IMG_SEQ.VALUE : Fld := fld0 0x0A0018 31 0 .RO 0 .plate
def EPH_IMG_FOLDED.VALUE : Fld := fld0 0x0A001C 31 0 .RO 0 .plate
def EPH_ROOT.ROOT : Fld := fld1 0x0A0020 0x4 4 31 0 .RO 0 .plate
def EPH_SALT.VALUE : Fld := fld0 0x0A0030 31 0 .RO 0 .plate
def EPH_OCC.RECORDS : Fld := fld0 0x0A0034 20 0 .RO 0 .plain
def EPH_JRNL_STAT.FREE : Fld := fld0 0x0A0038 29 16 .RO 0 .plate
def EPH_JRNL_STAT.USED : Fld := fld0 0x0A0038 13 0 .RO 0 .plate
def EPH_JSEQ.JSEQ : Fld := fld0 0x0A003C 31 0 .RO 0 .plate
def EPH_COMPACT_CFG.COMPACT_AT : Fld := fld0 0x0A0040 31 24 .RW 0x32 .plain true
def EPH_COMPACT_CFG.CHANGE_WAIT : Fld := fld0 0x0A0040 23 16 .RW 0xA .plain true
def EPH_COMPACT_CFG.COMPACT_MIN : Fld := fld0 0x0A0040 15 0 .RW 0xA .plain true
def EPH_COMPACT_STAT.STEP : Fld := fld0 0x0A0044 31 28 .RO 0 .plain
def EPH_COMPACT_STAT.SECTORS : Fld := fld0 0x0A0044 27 16 .RO 0 .plain
def EPH_COMPACT_STAT.RESULT : Fld := fld0 0x0A0044 7 0 .RO 0 .plain
def EPH_CODE_CFG.CODE_MAX : Fld := fld0 0x0A0048 31 24 .RW 5 .plain true
def EPH_CODE_CFG.CODE_WIN : Fld := fld0 0x0A0048 23 16 .RW 0x3C .plain true
def EPH_CODE_CFG.CODE_LOCK : Fld := fld0 0x0A0048 15 0 .RW 0xA .plain true
def EPH_CODE_STAT.BAD : Fld := fld0 0x0A004C 31 24 .RO 0 .plain
def EPH_CODE_STAT.LOCK_UNTIL : Fld := fld0 0x0A004C 23 0 .RO 0 .plain
def EPH_CODE_ID.KV : Fld := fld0 0x0A0050 27 24 .RW 0 .plain
def EPH_CODE_ID.TOKEN_ID : Fld := fld0 0x0A0050 23 0 .RW 0 .plain
def EPH_CODE_ARG.EXP_DAY : Fld := fld0 0x0A0054 31 16 .RW 0 .plain
def EPH_CODE_ARG.TEMPLATE : Fld := fld0 0x0A0054 3 0 .RW 0 .plain
def EPH_CODE_NUM.NUM : Fld := fld0 0x0A0058 31 0 .RW 0 .plain
def EPH_CODE_DIGITS_LO.DIGITS : Fld := fld0 0x0A005C 31 0 .RW 0 .plain
def EPH_CODE_DIGITS_HI.GO : Fld := fld0 0x0A0060 31 31 .WO 0 .plain
def EPH_CODE_DIGITS_HI.DIGITS : Fld := fld0 0x0A0060 1 0 .RW 0 .plain
def EPH_CODE_RESULT.CODE : Fld := fld0 0x0A0064 31 24 .RO 0 .plain
def EPH_CODE_RESULT.BUSY : Fld := fld0 0x0A0064 20 20 .RO 0 .plain
def EPH_CODE_RESULT.SLOT : Fld := fld0 0x0A0064 19 0 .RO 0 .plain
def EPH_FIND.TOKEN_ID : Fld := fld0 0x0A0068 23 0 .WO 0 .plain
def EPH_FIND_STAT.DONE : Fld := fld0 0x0A006C 31 31 .RO 0 .plain
def EPH_FIND_STAT.FOUND : Fld := fld0 0x0A006C 30 30 .RO 0 .plain
def EPH_FIND_STAT.RESULT : Fld := fld0 0x0A006C 29 28 .RO 0 .plain
def EPH_FIND_STAT.STATUS : Fld := fld0 0x0A006C 27 20 .RO 0 .plain
def EPH_FIND_STAT.SLOT : Fld := fld0 0x0A006C 19 0 .RO 0 .plain
def EPH_REC_ADDR.SLOT : Fld := fld0 0x0A0070 24 5 .RW 0 .plain
def EPH_REC_ADDR.WORD : Fld := fld0 0x0A0070 4 0 .RW 0 .plain
def EPH_REC_DATA.DATA : Fld := fld0 0x0A0074 31 0 .RO 0 .plain
def EPH_EVT_CODE.KIND : Fld := fld0 0x0A0078 31 28 .RO 0 .plain
def EPH_EVT_CODE.REASON : Fld := fld0 0x0A0078 27 24 .RO 0 .plain
def EPH_EVT_CODE.OP : Fld := fld0 0x0A0078 23 20 .RO 0 .plain
def EPH_EVT_CODE.INDEX : Fld := fld0 0x0A0078 19 0 .RO 0 .plain
def EPH_EVT_STAMP_LO.STAMP : Fld := fld0 0x0A007C 31 0 .RO 0 .plain
def EPH_EVT_STAMP_HI.STAMP : Fld := fld0 0x0A0080 31 0 .RO 0 .plain
def EPH_CNT_LOOKUP.COUNT : Fld := fld0 0x0A0084 31 0 .RO 0 .plain
def EPH_CNT_FOUND.COUNT : Fld := fld0 0x0A0088 31 0 .RO 0 .plain
def EPH_CNT_ABSENT.COUNT : Fld := fld0 0x0A008C 31 0 .RO 0 .plain
def EPH_CNT_WAIT.COUNT : Fld := fld0 0x0A0090 31 0 .RO 0 .plain
def EPH_CNT_NOT_VERIFIED.COUNT : Fld := fld0 0x0A0094 31 0 .RO 0 .plain
def EPH_CNT_DENY.COUNT : Fld := fld0 0x0A0098 31 0 .RO 0 .plain
def EPH_CNT_ENROL.COUNT : Fld := fld0 0x0A009C 31 0 .RO 0 .plain
def EPH_CNT_REVOKE.COUNT : Fld := fld0 0x0A00A0 31 0 .RO 0 .plain
def EPH_CNT_CHANGE.COUNT : Fld := fld0 0x0A00A4 31 0 .RO 0 .plain
def EPH_CNT_CODE_BAD.COUNT : Fld := fld0 0x0A00A8 31 0 .RO 0 .plain
def EPH_CNT_COMPACT.COUNT : Fld := fld0 0x0A00AC 31 0 .RO 0 .plain
def EPH_CNT_INTEGRITY.COUNT : Fld := fld0 0x0A00B0 31 0 .RO 0 .plain
def EPH_CNT_REFETCH.COUNT : Fld := fld0 0x0A00B4 31 0 .RO 0 .plain
def EPH_CNT_REMOTE.COUNT : Fld := fld0 0x0A00B8 31 0 .RO 0 .plain
def EPH_CLAIM_STAT.HELD : Fld := fld0 0x0A00BC 28 16 .RO 0 .plain
def EPH_CLAIM_STAT.PEAK : Fld := fld0 0x0A00BC 12 0 .RO 0 .plain
def EPH_TMPL_A.DB_CAP : Fld := fld1 0x0A0100 0x10 16 31 24 .RO 0 .plate
def EPH_TMPL_A.VALID : Fld := fld1 0x0A0100 0x10 16 23 23 .RO 0 .plate
def EPH_TMPL_A.FLAGS : Fld := fld1 0x0A0100 0x10 16 22 16 .RO 0 .plate
def EPH_TMPL_A.GROUP : Fld := fld1 0x0A0100 0x10 16 15 0 .RO 0 .plate
def EPH_TMPL_ZONES.ZONES : Fld := fld1 0x0A0104 0x10 16 31 0 .RO 0 .plate
def EPH_TMPL_RIGHTS.RIGHTS : Fld := fld1 0x0A0108 0x10 16 31 0 .RO 0 .plate
def EPH_PROFILE.REG : Reg := regOf [EPH_PROFILE.PROFILE]
def EPH_CTL.REG : Reg := regOf [EPH_CTL.COMPACT_NOW, EPH_CTL.CLR_CNT, EPH_CTL.LOCK]
def EPH_STAT.REG : Reg := regOf [EPH_STAT.STATE, EPH_STAT.PART, EPH_STAT.NPART, EPH_STAT.PART_CONFLICT, EPH_STAT.BAD_PAGES, EPH_STAT.COMPACTING, EPH_STAT.STAGED]
def EPH_IRQ_STAT.REG : Reg := regOf [EPH_IRQ_STAT.CODE_LOCK, EPH_IRQ_STAT.JOURNAL, EPH_IRQ_STAT.COMPACT, EPH_IRQ_STAT.REJECTED, EPH_IRQ_STAT.BAD_PAGE, EPH_IRQ_STAT.INTEGRITY, EPH_IRQ_STAT.READY]
def EPH_IRQ_EN.REG : Reg := regOf [EPH_IRQ_EN.CODE_LOCK, EPH_IRQ_EN.JOURNAL, EPH_IRQ_EN.COMPACT, EPH_IRQ_EN.REJECTED, EPH_IRQ_EN.BAD_PAGE, EPH_IRQ_EN.INTEGRITY, EPH_IRQ_EN.READY]
def EPH_LOAD_STAT.REG : Reg := regOf [EPH_LOAD_STAT.WAITING, EPH_LOAD_STAT.VERIFIED]
def EPH_IMG_SEQ.REG : Reg := regOf [EPH_IMG_SEQ.VALUE]
def EPH_IMG_FOLDED.REG : Reg := regOf [EPH_IMG_FOLDED.VALUE]
def EPH_ROOT.REG : Reg := regOf [EPH_ROOT.ROOT]
def EPH_SALT.REG : Reg := regOf [EPH_SALT.VALUE]
def EPH_OCC.REG : Reg := regOf [EPH_OCC.RECORDS]
def EPH_JRNL_STAT.REG : Reg := regOf [EPH_JRNL_STAT.FREE, EPH_JRNL_STAT.USED]
def EPH_JSEQ.REG : Reg := regOf [EPH_JSEQ.JSEQ]
def EPH_COMPACT_CFG.REG : Reg := regOf [EPH_COMPACT_CFG.COMPACT_AT, EPH_COMPACT_CFG.CHANGE_WAIT, EPH_COMPACT_CFG.COMPACT_MIN]
def EPH_COMPACT_STAT.REG : Reg := regOf [EPH_COMPACT_STAT.STEP, EPH_COMPACT_STAT.SECTORS, EPH_COMPACT_STAT.RESULT]
def EPH_CODE_CFG.REG : Reg := regOf [EPH_CODE_CFG.CODE_MAX, EPH_CODE_CFG.CODE_WIN, EPH_CODE_CFG.CODE_LOCK]
def EPH_CODE_STAT.REG : Reg := regOf [EPH_CODE_STAT.BAD, EPH_CODE_STAT.LOCK_UNTIL]
def EPH_CODE_ID.REG : Reg := regOf [EPH_CODE_ID.KV, EPH_CODE_ID.TOKEN_ID]
def EPH_CODE_ARG.REG : Reg := regOf [EPH_CODE_ARG.EXP_DAY, EPH_CODE_ARG.TEMPLATE]
def EPH_CODE_NUM.REG : Reg := regOf [EPH_CODE_NUM.NUM]
def EPH_CODE_DIGITS_LO.REG : Reg := regOf [EPH_CODE_DIGITS_LO.DIGITS]
def EPH_CODE_DIGITS_HI.REG : Reg := regOf [EPH_CODE_DIGITS_HI.GO, EPH_CODE_DIGITS_HI.DIGITS]
def EPH_CODE_RESULT.REG : Reg := regOf [EPH_CODE_RESULT.CODE, EPH_CODE_RESULT.BUSY, EPH_CODE_RESULT.SLOT]
def EPH_FIND.REG : Reg := regOf [EPH_FIND.TOKEN_ID]
def EPH_FIND_STAT.REG : Reg := regOf [EPH_FIND_STAT.DONE, EPH_FIND_STAT.FOUND, EPH_FIND_STAT.RESULT, EPH_FIND_STAT.STATUS, EPH_FIND_STAT.SLOT]
def EPH_REC_ADDR.REG : Reg := regOf [EPH_REC_ADDR.SLOT, EPH_REC_ADDR.WORD]
def EPH_REC_DATA.REG : Reg := regOf [EPH_REC_DATA.DATA]
def EPH_EVT_CODE.REG : Reg := regOf [EPH_EVT_CODE.KIND, EPH_EVT_CODE.REASON, EPH_EVT_CODE.OP, EPH_EVT_CODE.INDEX]
def EPH_EVT_STAMP_LO.REG : Reg := regOf [EPH_EVT_STAMP_LO.STAMP]
def EPH_EVT_STAMP_HI.REG : Reg := regOf [EPH_EVT_STAMP_HI.STAMP]
def EPH_CNT_LOOKUP.REG : Reg := regOf [EPH_CNT_LOOKUP.COUNT]
def EPH_CNT_FOUND.REG : Reg := regOf [EPH_CNT_FOUND.COUNT]
def EPH_CNT_ABSENT.REG : Reg := regOf [EPH_CNT_ABSENT.COUNT]
def EPH_CNT_WAIT.REG : Reg := regOf [EPH_CNT_WAIT.COUNT]
def EPH_CNT_NOT_VERIFIED.REG : Reg := regOf [EPH_CNT_NOT_VERIFIED.COUNT]
def EPH_CNT_DENY.REG : Reg := regOf [EPH_CNT_DENY.COUNT]
def EPH_CNT_ENROL.REG : Reg := regOf [EPH_CNT_ENROL.COUNT]
def EPH_CNT_REVOKE.REG : Reg := regOf [EPH_CNT_REVOKE.COUNT]
def EPH_CNT_CHANGE.REG : Reg := regOf [EPH_CNT_CHANGE.COUNT]
def EPH_CNT_CODE_BAD.REG : Reg := regOf [EPH_CNT_CODE_BAD.COUNT]
def EPH_CNT_COMPACT.REG : Reg := regOf [EPH_CNT_COMPACT.COUNT]
def EPH_CNT_INTEGRITY.REG : Reg := regOf [EPH_CNT_INTEGRITY.COUNT]
def EPH_CNT_REFETCH.REG : Reg := regOf [EPH_CNT_REFETCH.COUNT]
def EPH_CNT_REMOTE.REG : Reg := regOf [EPH_CNT_REMOTE.COUNT]
def EPH_CLAIM_STAT.REG : Reg := regOf [EPH_CLAIM_STAT.HELD, EPH_CLAIM_STAT.PEAK]
def EPH_TMPL_A.REG : Reg := regOf [EPH_TMPL_A.DB_CAP, EPH_TMPL_A.VALID, EPH_TMPL_A.FLAGS, EPH_TMPL_A.GROUP]
def EPH_TMPL_ZONES.REG : Reg := regOf [EPH_TMPL_ZONES.ZONES]
def EPH_TMPL_RIGHTS.REG : Reg := regOf [EPH_TMPL_RIGHTS.RIGHTS]

def regsEph0 : List Reg := [
  EPH_PROFILE.REG, EPH_CTL.REG, EPH_STAT.REG, EPH_IRQ_STAT.REG, EPH_IRQ_EN.REG, EPH_LOAD_STAT.REG, EPH_IMG_SEQ.REG, EPH_IMG_FOLDED.REG, EPH_ROOT.REG, EPH_SALT.REG, EPH_OCC.REG, EPH_JRNL_STAT.REG]

def regsEph1 : List Reg := [
  EPH_JSEQ.REG, EPH_COMPACT_CFG.REG, EPH_COMPACT_STAT.REG, EPH_CODE_CFG.REG, EPH_CODE_STAT.REG, EPH_CODE_ID.REG, EPH_CODE_ARG.REG, EPH_CODE_NUM.REG, EPH_CODE_DIGITS_LO.REG, EPH_CODE_DIGITS_HI.REG, EPH_CODE_RESULT.REG, EPH_FIND.REG]

def regsEph2 : List Reg := [
  EPH_FIND_STAT.REG, EPH_REC_ADDR.REG, EPH_REC_DATA.REG, EPH_EVT_CODE.REG, EPH_EVT_STAMP_LO.REG, EPH_EVT_STAMP_HI.REG, EPH_CNT_LOOKUP.REG, EPH_CNT_FOUND.REG, EPH_CNT_ABSENT.REG, EPH_CNT_WAIT.REG, EPH_CNT_NOT_VERIFIED.REG, EPH_CNT_DENY.REG]

def regsEph3 : List Reg := [
  EPH_CNT_ENROL.REG, EPH_CNT_REVOKE.REG, EPH_CNT_CHANGE.REG, EPH_CNT_CODE_BAD.REG, EPH_CNT_COMPACT.REG, EPH_CNT_INTEGRITY.REG, EPH_CNT_REFETCH.REG, EPH_CNT_REMOTE.REG, EPH_CLAIM_STAT.REG, EPH_TMPL_A.REG, EPH_TMPL_ZONES.REG, EPH_TMPL_RIGHTS.REG]

/-- The registers of block EPH. -/
def regsEph : List Reg := regsEph0 ++ regsEph1 ++ regsEph2 ++ regsEph3

/-! ## DOM, 12_dome_keys_lifecycle.md -/

def DOM_STAT.QUEUED : Fld := fld0 0x0B0000 15 8 .RO 0 .plain
def DOM_STAT.BUSY : Fld := fld0 0x0B0000 7 7 .RO 0 .plain
def DOM_STAT.EXPORT_OPEN : Fld := fld0 0x0B0000 6 6 .RO 0 .plain
def DOM_STAT.MIGRATE_PEND : Fld := fld0 0x0B0000 5 5 .RO 0 .plate
def DOM_STAT.BANK : Fld := fld0 0x0B0000 4 4 .RO 0 .plate
def DOM_STAT.FUSE_BAD : Fld := fld0 0x0B0000 3 3 .RO 0 .fuse
def DOM_STAT.ERASED : Fld := fld0 0x0B0000 2 2 .RO 0 .plate
def DOM_STAT.HALT : Fld := fld0 0x0B0000 1 1 .RO 0 .plate
def DOM_STAT.NO_BANK : Fld := fld0 0x0B0000 0 0 .RO 0 .plain
def DOM_CTL.EXPORT_DONE : Fld := fld0 0x0B0004 4 4 .WO 0 .plain
def DOM_CTL.CLR_CNT : Fld := fld0 0x0B0004 1 1 .WO 0 .plain
def DOM_IRQ_STAT.MARGINAL : Fld := fld0 0x0B0008 7 7 .W1C 0 .plain
def DOM_IRQ_STAT.NO_BANK : Fld := fld0 0x0B0008 6 6 .W1C 0 .plain
def DOM_IRQ_STAT.ALARM : Fld := fld0 0x0B0008 5 5 .W1C 0 .plain
def DOM_IRQ_STAT.KEY_SPENT : Fld := fld0 0x0B0008 4 4 .W1C 0 .plain
def DOM_IRQ_STAT.LC_CHANGE : Fld := fld0 0x0B0008 3 3 .W1C 0 .plain
def DOM_IRQ_STAT.TAMPER : Fld := fld0 0x0B0008 2 2 .W1C 0 .plain
def DOM_IRQ_STAT.ENV_BAD : Fld := fld0 0x0B0008 1 1 .W1C 0 .plain
def DOM_IRQ_STAT.ENV_OK : Fld := fld0 0x0B0008 0 0 .W1C 0 .plain
def DOM_IRQ_EN.MARGINAL : Fld := fld0 0x0B000C 7 7 .RW 0 .plain
def DOM_IRQ_EN.NO_BANK : Fld := fld0 0x0B000C 6 6 .RW 0 .plain
def DOM_IRQ_EN.ALARM : Fld := fld0 0x0B000C 5 5 .RW 0 .plain
def DOM_IRQ_EN.KEY_SPENT : Fld := fld0 0x0B000C 4 4 .RW 0 .plain
def DOM_IRQ_EN.LC_CHANGE : Fld := fld0 0x0B000C 3 3 .RW 0 .plain
def DOM_IRQ_EN.TAMPER : Fld := fld0 0x0B000C 2 2 .RW 0 .plain
def DOM_IRQ_EN.ENV_BAD : Fld := fld0 0x0B000C 1 1 .RW 0 .plain
def DOM_IRQ_EN.ENV_OK : Fld := fld0 0x0B000C 0 0 .RW 0 .plain
def DOM_LC.MARGINAL : Fld := fld0 0x0B0010 12 12 .RO 0 .fuse
def DOM_LC.PEND_TARGET : Fld := fld0 0x0B0010 11 9 .RO 0 .plate
def DOM_LC.PENDING : Fld := fld0 0x0B0010 8 8 .RO 0 .plate
def DOM_LC.STATE : Fld := fld0 0x0B0010 2 0 .FUS 0 .fuse
def DOM_DEVID_LO.DEVID : Fld := fld0 0x0B0014 31 0 .FUS 0 .fuse
def DOM_DEVID_HI.DEVID : Fld := fld0 0x0B0018 31 0 .FUS 0 .fuse
def DOM_NONCE.NONCE : Fld := fld0 0x0B001C 31 0 .RO 0 .plain
def DOM_ENV_SUBMIT.GO : Fld := fld0 0x0B0020 31 31 .WO 0 .plain
def DOM_ENV_SUBMIT.SLOT : Fld := fld0 0x0B0020 13 0 .WO 0 .plain
def DOM_ENV_RESULT.CODE : Fld := fld0 0x0B0024 31 24 .RO 0 .plain
def DOM_ENV_RESULT.REASON : Fld := fld0 0x0B0024 23 20 .RO 0 .plain
def DOM_ENV_RESULT.TYPE : Fld := fld0 0x0B0024 19 16 .RO 0 .plain
def DOM_ENV_RESULT.PORT : Fld := fld0 0x0B0024 15 13 .RO 0 .plain
def DOM_ENV_QUEUE.DEPTH : Fld := fld0 0x0B0028 14 0 .RO 0 .plain
def DOM_ATT_REQ.GO : Fld := fld0 0x0B002C 31 31 .WO 0 .plain
def DOM_ATT_REQ.KIND : Fld := fld0 0x0B002C 30 30 .RW 0 .plain
def DOM_ATT_REQ.GSLOT : Fld := fld0 0x0B002C 29 27 .RW 0 .plain
def DOM_ATT_REQ.BUSY : Fld := fld0 0x0B002C 26 26 .RO 0 .plain
def DOM_ATT_REQ.CODE : Fld := fld0 0x0B002C 23 16 .RO 0 .plain
def DOM_ATT_REQ.WSLOT : Fld := fld0 0x0B002C 13 0 .RW 0 .plain
def DOM_ATT_NONCE_LO.NONCE : Fld := fld0 0x0B0030 31 0 .RW 0 .plain
def DOM_ATT_NONCE_HI.NONCE : Fld := fld0 0x0B0034 31 0 .RW 0 .plain
def DOM_DM.MEAS : Fld := fld1 0x0B0038 0x4 4 31 0 .RO 0 .image
def DOM_AM.MEAS : Fld := fld1 0x0B0048 0x4 4 31 0 .RO 0 .image
def DOM_VER.FLOOR : Fld := fld0 0x0B0058 21 16 .FUS 0 .fuse
def DOM_VER.PEND_VER : Fld := fld0 0x0B0058 13 8 .RO 0 .plate
def DOM_VER.VER : Fld := fld0 0x0B0058 5 0 .RO 0 .image
def DOM_KEYS.BANK_B : Fld := fld0 0x0B005C 17 17 .RO 0 .plate
def DOM_KEYS.BANK_A : Fld := fld0 0x0B005C 16 16 .RO 0 .plate
def DOM_KEYS.GEN_USED : Fld := fld0 0x0B005C 11 8 .RO 0 .plain
def DOM_KEYS.KDC_A : Fld := fld0 0x0B005C 7 7 .FUS 0 .fuse
def DOM_KEYS.KDC_V : Fld := fld0 0x0B005C 6 6 .FUS 0 .fuse
def DOM_KEYS.PRESENT : Fld := fld0 0x0B005C 5 0 .RO 0 .plate
def DOM_WK_STAT.CLASS : Fld := fld0 0x0B0060 31 28 .RO 0 .plain
def DOM_WK_STAT.REQ : Fld := fld0 0x0B0060 23 16 .RO 0 .plain
def DOM_WK_STAT.USES : Fld := fld0 0x0B0060 15 0 .RO 0 .plain
def DOM_TAMPER_STAT.COUNT : Fld := fld0 0x0B0064 31 16 .RO 0 .plate
def DOM_TAMPER_STAT.LATCH : Fld := fld0 0x0B0064 13 8 .RO 0 .plate
def DOM_TAMPER_STAT.LIVE : Fld := fld0 0x0B0064 5 0 .RO 0 .plain
def DOM_TAMPER_POLICY.RESP : Fld := fld0 0x0B0068 11 0 .RO 0 .plate
def DOM_CNT_ENV.OK : Fld := fld0 0x0B006C 31 16 .RO 0 .plain
def DOM_CNT_ENV.BAD : Fld := fld0 0x0B006C 15 0 .RO 0 .plain
def DOM_CNT_DERIVE.COUNT : Fld := fld0 0x0B0070 31 0 .RO 0 .plain
def DOM_EVT_CODE.KIND : Fld := fld0 0x0B0074 31 28 .RO 0 .plain
def DOM_EVT_CODE.DETAIL : Fld := fld0 0x0B0074 27 24 .RO 0 .plain
def DOM_EVT_CODE.CODE : Fld := fld0 0x0B0074 23 16 .RO 0 .plain
def DOM_EVT_STAMP_LO.STAMP : Fld := fld0 0x0B0078 31 0 .RO 0 .plain
def DOM_EVT_STAMP_HI.STAMP : Fld := fld0 0x0B007C 31 0 .RO 0 .plain
def DOM_ENV_SEQ.SEQ : Fld := fld1 0x0B0080 0x4 16 31 0 .RO 0 .plate
def DOM_EXPORT.DATA : Fld := fld1 0x0B0100 0x4 16 31 0 .RO 0 .plain
def DOM_GKEY.VALID : Fld := fld1 0x0B0200 0x4 8 31 31 .RO 0 .plain
def DOM_GKEY.NEXT_RESET : Fld := fld1 0x0B0200 0x4 8 30 30 .RO 0 .plain
def DOM_GKEY.K256 : Fld := fld1 0x0B0200 0x4 8 29 29 .RO 0 .plain
def DOM_GKEY.CORE : Fld := fld1 0x0B0200 0x4 8 19 16 .RO 0 .plain
def DOM_GKEY.USES : Fld := fld1 0x0B0200 0x4 8 15 0 .RO 0 .plain
def DOM_STAT.REG : Reg := regOf [DOM_STAT.QUEUED, DOM_STAT.BUSY, DOM_STAT.EXPORT_OPEN, DOM_STAT.MIGRATE_PEND, DOM_STAT.BANK, DOM_STAT.FUSE_BAD, DOM_STAT.ERASED, DOM_STAT.HALT, DOM_STAT.NO_BANK]
def DOM_CTL.REG : Reg := regOf [DOM_CTL.EXPORT_DONE, DOM_CTL.CLR_CNT]
def DOM_IRQ_STAT.REG : Reg := regOf [DOM_IRQ_STAT.MARGINAL, DOM_IRQ_STAT.NO_BANK, DOM_IRQ_STAT.ALARM, DOM_IRQ_STAT.KEY_SPENT, DOM_IRQ_STAT.LC_CHANGE, DOM_IRQ_STAT.TAMPER, DOM_IRQ_STAT.ENV_BAD, DOM_IRQ_STAT.ENV_OK]
def DOM_IRQ_EN.REG : Reg := regOf [DOM_IRQ_EN.MARGINAL, DOM_IRQ_EN.NO_BANK, DOM_IRQ_EN.ALARM, DOM_IRQ_EN.KEY_SPENT, DOM_IRQ_EN.LC_CHANGE, DOM_IRQ_EN.TAMPER, DOM_IRQ_EN.ENV_BAD, DOM_IRQ_EN.ENV_OK]
def DOM_LC.REG : Reg := regOf [DOM_LC.MARGINAL, DOM_LC.PEND_TARGET, DOM_LC.PENDING, DOM_LC.STATE]
def DOM_DEVID_LO.REG : Reg := regOf [DOM_DEVID_LO.DEVID]
def DOM_DEVID_HI.REG : Reg := regOf [DOM_DEVID_HI.DEVID]
def DOM_NONCE.REG : Reg := regOf [DOM_NONCE.NONCE]
def DOM_ENV_SUBMIT.REG : Reg := regOf [DOM_ENV_SUBMIT.GO, DOM_ENV_SUBMIT.SLOT]
def DOM_ENV_RESULT.REG : Reg := regOf [DOM_ENV_RESULT.CODE, DOM_ENV_RESULT.REASON, DOM_ENV_RESULT.TYPE, DOM_ENV_RESULT.PORT]
def DOM_ENV_QUEUE.REG : Reg := regOf [DOM_ENV_QUEUE.DEPTH]
def DOM_ATT_REQ.REG : Reg := regOf [DOM_ATT_REQ.GO, DOM_ATT_REQ.KIND, DOM_ATT_REQ.GSLOT, DOM_ATT_REQ.BUSY, DOM_ATT_REQ.CODE, DOM_ATT_REQ.WSLOT]
def DOM_ATT_NONCE_LO.REG : Reg := regOf [DOM_ATT_NONCE_LO.NONCE]
def DOM_ATT_NONCE_HI.REG : Reg := regOf [DOM_ATT_NONCE_HI.NONCE]
def DOM_DM.REG : Reg := regOf [DOM_DM.MEAS]
def DOM_AM.REG : Reg := regOf [DOM_AM.MEAS]
def DOM_VER.REG : Reg := regOf [DOM_VER.FLOOR, DOM_VER.PEND_VER, DOM_VER.VER]
def DOM_KEYS.REG : Reg := regOf [DOM_KEYS.BANK_B, DOM_KEYS.BANK_A, DOM_KEYS.GEN_USED, DOM_KEYS.KDC_A, DOM_KEYS.KDC_V, DOM_KEYS.PRESENT]
def DOM_WK_STAT.REG : Reg := regOf [DOM_WK_STAT.CLASS, DOM_WK_STAT.REQ, DOM_WK_STAT.USES]
def DOM_TAMPER_STAT.REG : Reg := regOf [DOM_TAMPER_STAT.COUNT, DOM_TAMPER_STAT.LATCH, DOM_TAMPER_STAT.LIVE]
def DOM_TAMPER_POLICY.REG : Reg := regOf [DOM_TAMPER_POLICY.RESP]
def DOM_CNT_ENV.REG : Reg := regOf [DOM_CNT_ENV.OK, DOM_CNT_ENV.BAD]
def DOM_CNT_DERIVE.REG : Reg := regOf [DOM_CNT_DERIVE.COUNT]
def DOM_EVT_CODE.REG : Reg := regOf [DOM_EVT_CODE.KIND, DOM_EVT_CODE.DETAIL, DOM_EVT_CODE.CODE]
def DOM_EVT_STAMP_LO.REG : Reg := regOf [DOM_EVT_STAMP_LO.STAMP]
def DOM_EVT_STAMP_HI.REG : Reg := regOf [DOM_EVT_STAMP_HI.STAMP]
def DOM_ENV_SEQ.REG : Reg := regOf [DOM_ENV_SEQ.SEQ]
def DOM_EXPORT.REG : Reg := regOf [DOM_EXPORT.DATA]
def DOM_GKEY.REG : Reg := regOf [DOM_GKEY.VALID, DOM_GKEY.NEXT_RESET, DOM_GKEY.K256, DOM_GKEY.CORE, DOM_GKEY.USES]

def regsDom0 : List Reg := [
  DOM_STAT.REG, DOM_CTL.REG, DOM_IRQ_STAT.REG, DOM_IRQ_EN.REG, DOM_LC.REG, DOM_DEVID_LO.REG, DOM_DEVID_HI.REG, DOM_NONCE.REG, DOM_ENV_SUBMIT.REG, DOM_ENV_RESULT.REG, DOM_ENV_QUEUE.REG, DOM_ATT_REQ.REG]

def regsDom1 : List Reg := [
  DOM_ATT_NONCE_LO.REG, DOM_ATT_NONCE_HI.REG, DOM_DM.REG, DOM_AM.REG, DOM_VER.REG, DOM_KEYS.REG, DOM_WK_STAT.REG, DOM_TAMPER_STAT.REG, DOM_TAMPER_POLICY.REG, DOM_CNT_ENV.REG, DOM_CNT_DERIVE.REG, DOM_EVT_CODE.REG]

def regsDom2 : List Reg := [
  DOM_EVT_STAMP_LO.REG, DOM_EVT_STAMP_HI.REG, DOM_ENV_SEQ.REG, DOM_EXPORT.REG, DOM_GKEY.REG]

/-- The registers of block DOM. -/
def regsDom : List Reg := regsDom0 ++ regsDom1 ++ regsDom2

/-! ## KCE, 13_check_engine_and_rng.md -/

def KCE_PROFILE.PROFILE : Fld := fld0 0x0C0000 3 0 .RW 0 .image
def KCE_CTL.ALARM_TEST : Fld := fld0 0x0C0004 2 2 .WO 0 .plain
def KCE_CTL.KAT_RUN : Fld := fld0 0x0C0004 1 1 .WO 0 .plain
def KCE_CTL.CLR_CNT : Fld := fld0 0x0C0004 0 0 .WO 0 .plain
def KCE_STAT.QUEUED : Fld := fld0 0x0C0008 31 16 .RO 0 .plain
def KCE_STAT.SUSPENDED : Fld := fld0 0x0C0008 15 12 .RO 0 .plain
def KCE_STAT.LEVEL : Fld := fld0 0x0C0008 11 10 .RO 0 .plain
def KCE_STAT.RUNNING : Fld := fld0 0x0C0008 9 9 .RO 0 .plain
def KCE_STAT.KAT_OK : Fld := fld0 0x0C0008 8 8 .RO 0 .plain
def KCE_IRQ_STAT.MASK_WAIT : Fld := fld0 0x0C000C 3 3 .W1C 0 .plain
def KCE_IRQ_STAT.POISON : Fld := fld0 0x0C000C 2 2 .W1C 0 .plain
def KCE_IRQ_STAT.KAT_FAIL : Fld := fld0 0x0C000C 1 1 .W1C 0 .plain
def KCE_IRQ_STAT.ALARM : Fld := fld0 0x0C000C 0 0 .W1C 0 .plain
def KCE_IRQ_EN.MASK_WAIT : Fld := fld0 0x0C0010 3 3 .RW 0 .plain
def KCE_IRQ_EN.POISON : Fld := fld0 0x0C0010 2 2 .RW 0 .plain
def KCE_IRQ_EN.KAT_FAIL : Fld := fld0 0x0C0010 1 1 .RW 0 .plain
def KCE_IRQ_EN.ALARM : Fld := fld0 0x0C0010 0 0 .RW 0 .plain
def KCE_CFG.AGE_MS : Fld := fld0 0x0C0014 31 16 .RW 5 .plain true
def KCE_CFG.MASK_REFRESH : Fld := fld0 0x0C0014 7 0 .RW 0x40 .plain true
def KCE_RUN.LANE : Fld := fld0 0x0C0018 31 28 .RO 0 .plain
def KCE_RUN.K256 : Fld := fld0 0x0C0018 27 27 .RO 0 .plain
def KCE_RUN.VERIFY : Fld := fld0 0x0C0018 26 26 .RO 0 .plain
def KCE_RUN.BLOCKS_LEFT : Fld := fld0 0x0C0018 9 0 .RO 0 .plain
def KCE_LAST.CODE : Fld := fld0 0x0C001C 31 24 .RO 0 .plain
def KCE_LAST.LANE : Fld := fld0 0x0C001C 19 16 .RO 0 .plain
def KCE_ALARM_STAT.LANE : Fld := fld0 0x0C0020 31 28 .RO 0 .plain
def KCE_ALARM_STAT.BLOCK : Fld := fld0 0x0C0020 9 0 .RO 0 .plain
def KCE_EVT_STAMP_LO.STAMP : Fld := fld0 0x0C0024 31 0 .RO 0 .plain
def KCE_EVT_STAMP_HI.STAMP : Fld := fld0 0x0C0028 31 0 .RO 0 .plain
def KCE_CNT_MSG.COUNT : Fld := fld0 0x0C002C 31 0 .RO 0 .plain
def KCE_CNT_BLOCK.COUNT : Fld := fld0 0x0C0030 31 0 .RO 0 .plain
def KCE_CNT_SUSPEND.COUNT : Fld := fld0 0x0C0034 31 0 .RO 0 .plain
def KCE_CNT_RELOAD.COUNT : Fld := fld0 0x0C0038 31 0 .RO 0 .plain
def KCE_CNT_ALARM.COUNT : Fld := fld0 0x0C003C 31 0 .RO 0 .plain
def KCE_CNT_POISON.COUNT : Fld := fld0 0x0C0040 31 0 .RO 0 .plain
def KCE_CNT_SPENT.COUNT : Fld := fld0 0x0C0044 31 0 .RO 0 .plain
def KCE_CNT_CANCEL.COUNT : Fld := fld0 0x0C0048 31 0 .RO 0 .plain
def KCE_MAX_LAT.LVL3_US : Fld := fld0 0x0C004C 31 16 .RO 0 .plain
def KCE_MAX_LAT.ANY_US : Fld := fld0 0x0C004C 15 0 .RO 0 .plain
def KCE_LVL_STAT.AGED : Fld := fld1 0x0C0050 0x4 4 31 16 .RO 0 .plain
def KCE_LVL_STAT.QUEUED : Fld := fld1 0x0C0050 0x4 4 15 0 .RO 0 .plain
def KCE_CTX.VALID : Fld := fld1 0x0C0080 0x4 8 31 31 .RO 0 .plain
def KCE_CTX.LEVEL : Fld := fld1 0x0C0080 0x4 8 30 29 .RO 0 .plain
def KCE_CTX.LANE : Fld := fld1 0x0C0080 0x4 8 28 25 .RO 0 .plain
def KCE_CTX.BLOCKS_LEFT : Fld := fld1 0x0C0080 0x4 8 9 0 .RO 0 .plain
def KCE_LANE_STAT.DONE : Fld := fld1 0x0C00C0 0x4 16 31 16 .RO 0 .plain
def KCE_LANE_STAT.QUEUED : Fld := fld1 0x0C00C0 0x4 16 15 0 .RO 0 .plain
def KCE_PROFILE.REG : Reg := regOf [KCE_PROFILE.PROFILE]
def KCE_CTL.REG : Reg := regOf [KCE_CTL.ALARM_TEST, KCE_CTL.KAT_RUN, KCE_CTL.CLR_CNT]
def KCE_STAT.REG : Reg := regOf [KCE_STAT.QUEUED, KCE_STAT.SUSPENDED, KCE_STAT.LEVEL, KCE_STAT.RUNNING, KCE_STAT.KAT_OK]
def KCE_IRQ_STAT.REG : Reg := regOf [KCE_IRQ_STAT.MASK_WAIT, KCE_IRQ_STAT.POISON, KCE_IRQ_STAT.KAT_FAIL, KCE_IRQ_STAT.ALARM]
def KCE_IRQ_EN.REG : Reg := regOf [KCE_IRQ_EN.MASK_WAIT, KCE_IRQ_EN.POISON, KCE_IRQ_EN.KAT_FAIL, KCE_IRQ_EN.ALARM]
def KCE_CFG.REG : Reg := regOf [KCE_CFG.AGE_MS, KCE_CFG.MASK_REFRESH]
def KCE_RUN.REG : Reg := regOf [KCE_RUN.LANE, KCE_RUN.K256, KCE_RUN.VERIFY, KCE_RUN.BLOCKS_LEFT]
def KCE_LAST.REG : Reg := regOf [KCE_LAST.CODE, KCE_LAST.LANE]
def KCE_ALARM_STAT.REG : Reg := regOf [KCE_ALARM_STAT.LANE, KCE_ALARM_STAT.BLOCK]
def KCE_EVT_STAMP_LO.REG : Reg := regOf [KCE_EVT_STAMP_LO.STAMP]
def KCE_EVT_STAMP_HI.REG : Reg := regOf [KCE_EVT_STAMP_HI.STAMP]
def KCE_CNT_MSG.REG : Reg := regOf [KCE_CNT_MSG.COUNT]
def KCE_CNT_BLOCK.REG : Reg := regOf [KCE_CNT_BLOCK.COUNT]
def KCE_CNT_SUSPEND.REG : Reg := regOf [KCE_CNT_SUSPEND.COUNT]
def KCE_CNT_RELOAD.REG : Reg := regOf [KCE_CNT_RELOAD.COUNT]
def KCE_CNT_ALARM.REG : Reg := regOf [KCE_CNT_ALARM.COUNT]
def KCE_CNT_POISON.REG : Reg := regOf [KCE_CNT_POISON.COUNT]
def KCE_CNT_SPENT.REG : Reg := regOf [KCE_CNT_SPENT.COUNT]
def KCE_CNT_CANCEL.REG : Reg := regOf [KCE_CNT_CANCEL.COUNT]
def KCE_MAX_LAT.REG : Reg := regOf [KCE_MAX_LAT.LVL3_US, KCE_MAX_LAT.ANY_US]
def KCE_LVL_STAT.REG : Reg := regOf [KCE_LVL_STAT.AGED, KCE_LVL_STAT.QUEUED]
def KCE_CTX.REG : Reg := regOf [KCE_CTX.VALID, KCE_CTX.LEVEL, KCE_CTX.LANE, KCE_CTX.BLOCKS_LEFT]
def KCE_LANE_STAT.REG : Reg := regOf [KCE_LANE_STAT.DONE, KCE_LANE_STAT.QUEUED]

def regsKce0 : List Reg := [
  KCE_PROFILE.REG, KCE_CTL.REG, KCE_STAT.REG, KCE_IRQ_STAT.REG, KCE_IRQ_EN.REG, KCE_CFG.REG, KCE_RUN.REG, KCE_LAST.REG, KCE_ALARM_STAT.REG, KCE_EVT_STAMP_LO.REG, KCE_EVT_STAMP_HI.REG, KCE_CNT_MSG.REG]

def regsKce1 : List Reg := [
  KCE_CNT_BLOCK.REG, KCE_CNT_SUSPEND.REG, KCE_CNT_RELOAD.REG, KCE_CNT_ALARM.REG, KCE_CNT_POISON.REG, KCE_CNT_SPENT.REG, KCE_CNT_CANCEL.REG, KCE_MAX_LAT.REG, KCE_LVL_STAT.REG, KCE_CTX.REG, KCE_LANE_STAT.REG]

/-- The registers of block KCE. -/
def regsKce : List Reg := regsKce0 ++ regsKce1

/-! ## RNG, 13_check_engine_and_rng.md -/

def RNG_PROFILE.PROFILE : Fld := fld0 0x0D0000 3 0 .RW 0 .image
def RNG_CTL.RESEED_ALL : Fld := fld0 0x0D0004 1 1 .WO 0 .plain
def RNG_CTL.CLR_CNT : Fld := fld0 0x0D0004 0 0 .WO 0 .plain
def RNG_STAT.POOL : Fld := fld0 0x0D0008 31 24 .RO 0 .plain
def RNG_STAT.WARN : Fld := fld0 0x0D0008 7 7 .RO 0 .plain
def RNG_STAT.LATCHED : Fld := fld0 0x0D0008 6 6 .RO 0 .plain
def RNG_STAT.FAILS : Fld := fld0 0x0D0008 5 4 .RO 0 .plain
def RNG_STAT.RAW_CAPTURE : Fld := fld0 0x0D0008 3 3 .RO 0 .plain
def RNG_STAT.PATTERN : Fld := fld0 0x0D0008 2 2 .RO 0 .plain
def RNG_STAT.SOURCE : Fld := fld0 0x0D0008 1 0 .RO 0 .plain
def RNG_IRQ_STAT.STARVE : Fld := fld0 0x0D000C 3 3 .W1C 0 .plain
def RNG_IRQ_STAT.WARN : Fld := fld0 0x0D000C 2 2 .W1C 0 .plain
def RNG_IRQ_STAT.LATCH : Fld := fld0 0x0D000C 1 1 .W1C 0 .plain
def RNG_IRQ_STAT.HEALTH : Fld := fld0 0x0D000C 0 0 .W1C 0 .plain
def RNG_IRQ_EN.STARVE : Fld := fld0 0x0D0010 3 3 .RW 0 .plain
def RNG_IRQ_EN.WARN : Fld := fld0 0x0D0010 2 2 .RW 0 .plain
def RNG_IRQ_EN.LATCH : Fld := fld0 0x0D0010 1 1 .RW 0 .plain
def RNG_IRQ_EN.HEALTH : Fld := fld0 0x0D0010 0 0 .RW 0 .plain
def RNG_CFG.RESEED_INT : Fld := fld0 0x0D0014 31 16 .RW 0x1000 .plain true
def RNG_CFG.RESEED_TIME : Fld := fld0 0x0D0014 15 0 .RW 0x64 .plain true
def RNG_HEALTH_CFG.APT_CUT : Fld := fld0 0x0D0018 26 16 .FUS 0 .fuse
def RNG_HEALTH_CFG.RCT_CUT : Fld := fld0 0x0D0018 15 8 .FUS 0 .fuse
def RNG_HEALTH_CFG.H_R : Fld := fld0 0x0D0018 7 0 .FUS 0 .fuse
def RNG_BIAS.VALUE : Fld := fld0 0x0D001C 15 0 .RO 0 .plain
def RNG_CORR.VALUE : Fld := fld0 0x0D0020 15 0 .RO 0 .plain
def RNG_WARN_CFG.CORR_WARN : Fld := fld0 0x0D0024 31 16 .RW 0xCCD .plain true
def RNG_WARN_CFG.BIAS_WARN : Fld := fld0 0x0D0024 15 0 .RW 0x51F .plain true
def RNG_RAW_RATE.BLOCKS_S : Fld := fld0 0x0D0028 31 16 .RO 0 .plain
def RNG_RAW_RATE.RAW_KBPS : Fld := fld0 0x0D0028 15 0 .RO 0 .plain
def RNG_HOST_DATA.DATA : Fld := fld0 0x0D002C 31 0 .RO 0 .plain
def RNG_HOST_STAT.LEVEL : Fld := fld0 0x0D0030 6 0 .RO 0 .plain
def RNG_HOST_BULK.GO : Fld := fld0 0x0D0034 31 31 .WO 0 .plain
def RNG_HOST_BULK.BUSY : Fld := fld0 0x0D0034 30 30 .RO 0 .plain
def RNG_HOST_BULK.CODE : Fld := fld0 0x0D0034 23 16 .RO 0 .plain
def RNG_HOST_BULK.KIB : Fld := fld0 0x0D0034 15 14 .RW 0 .plain
def RNG_HOST_BULK.SLOT : Fld := fld0 0x0D0034 13 0 .RW 0 .plain
def RNG_TEST.TEST_PATTERN : Fld := fld0 0x0D0038 31 31 .RW 0 .plain
def RNG_TEST.RAW_CAPTURE : Fld := fld0 0x0D0038 30 30 .RW 0 .plain
def RNG_TEST.COUNT : Fld := fld0 0x0D0038 27 14 .RW 0 .plain
def RNG_TEST.SLOT : Fld := fld0 0x0D0038 13 0 .RW 0 .plain
def RNG_TEST_SEED.SEED : Fld := fld0 0x0D003C 31 0 .RW 1 .plain
def RNG_EVT_CODE.KIND : Fld := fld0 0x0D0040 31 28 .RO 0 .plain
def RNG_EVT_CODE.INSTANCE : Fld := fld0 0x0D0040 3 0 .RO 0 .plain
def RNG_EVT_STAMP_LO.STAMP : Fld := fld0 0x0D0044 31 0 .RO 0 .plain
def RNG_EVT_STAMP_HI.STAMP : Fld := fld0 0x0D0048 31 0 .RO 0 .plain
def RNG_CNT_RCT.COUNT : Fld := fld0 0x0D004C 31 0 .RO 0 .plain
def RNG_CNT_APT.COUNT : Fld := fld0 0x0D0050 31 0 .RO 0 .plain
def RNG_CNT_BLOCKS.COUNT : Fld := fld0 0x0D0054 31 0 .RO 0 .plain
def RNG_CNT_RESEED.COUNT : Fld := fld0 0x0D0058 31 0 .RO 0 .plain
def RNG_CNT_STARVE.COUNT : Fld := fld0 0x0D005C 31 0 .RO 0 .plain
def RNG_CNT_UNDERRUN.COUNT : Fld := fld0 0x0D0060 31 0 .RO 0 .plain
def RNG_RUN_HIST.COUNT : Fld := fld1 0x0D0064 0x4 7 31 0 .RO 0 .plain
def RNG_INST_STAT.STATE : Fld := fld1 0x0D0100 0x8 12 31 29 .RO 0 .plain
def RNG_INST_STAT.PR : Fld := fld1 0x0D0100 0x8 12 28 28 .RO 0 .text
def RNG_INST_STAT.RANK : Fld := fld1 0x0D0100 0x8 12 27 24 .RO 0 .text
def RNG_INST_STAT.SINCE : Fld := fld1 0x0D0100 0x8 12 20 0 .RO 0 .plain
def RNG_INST_CNT.SERVED : Fld := fld1 0x0D0104 0x8 12 31 0 .RO 0 .plain
def RNG_PROFILE.REG : Reg := regOf [RNG_PROFILE.PROFILE]
def RNG_CTL.REG : Reg := regOf [RNG_CTL.RESEED_ALL, RNG_CTL.CLR_CNT]
def RNG_STAT.REG : Reg := regOf [RNG_STAT.POOL, RNG_STAT.WARN, RNG_STAT.LATCHED, RNG_STAT.FAILS, RNG_STAT.RAW_CAPTURE, RNG_STAT.PATTERN, RNG_STAT.SOURCE]
def RNG_IRQ_STAT.REG : Reg := regOf [RNG_IRQ_STAT.STARVE, RNG_IRQ_STAT.WARN, RNG_IRQ_STAT.LATCH, RNG_IRQ_STAT.HEALTH]
def RNG_IRQ_EN.REG : Reg := regOf [RNG_IRQ_EN.STARVE, RNG_IRQ_EN.WARN, RNG_IRQ_EN.LATCH, RNG_IRQ_EN.HEALTH]
def RNG_CFG.REG : Reg := regOf [RNG_CFG.RESEED_INT, RNG_CFG.RESEED_TIME]
def RNG_HEALTH_CFG.REG : Reg := regOf [RNG_HEALTH_CFG.APT_CUT, RNG_HEALTH_CFG.RCT_CUT, RNG_HEALTH_CFG.H_R]
def RNG_BIAS.REG : Reg := regOf [RNG_BIAS.VALUE]
def RNG_CORR.REG : Reg := regOf [RNG_CORR.VALUE]
def RNG_WARN_CFG.REG : Reg := regOf [RNG_WARN_CFG.CORR_WARN, RNG_WARN_CFG.BIAS_WARN]
def RNG_RAW_RATE.REG : Reg := regOf [RNG_RAW_RATE.BLOCKS_S, RNG_RAW_RATE.RAW_KBPS]
def RNG_HOST_DATA.REG : Reg := regOf [RNG_HOST_DATA.DATA]
def RNG_HOST_STAT.REG : Reg := regOf [RNG_HOST_STAT.LEVEL]
def RNG_HOST_BULK.REG : Reg := regOf [RNG_HOST_BULK.GO, RNG_HOST_BULK.BUSY, RNG_HOST_BULK.CODE, RNG_HOST_BULK.KIB, RNG_HOST_BULK.SLOT]
def RNG_TEST.REG : Reg := regOf [RNG_TEST.TEST_PATTERN, RNG_TEST.RAW_CAPTURE, RNG_TEST.COUNT, RNG_TEST.SLOT]
def RNG_TEST_SEED.REG : Reg := regOf [RNG_TEST_SEED.SEED]
def RNG_EVT_CODE.REG : Reg := regOf [RNG_EVT_CODE.KIND, RNG_EVT_CODE.INSTANCE]
def RNG_EVT_STAMP_LO.REG : Reg := regOf [RNG_EVT_STAMP_LO.STAMP]
def RNG_EVT_STAMP_HI.REG : Reg := regOf [RNG_EVT_STAMP_HI.STAMP]
def RNG_CNT_RCT.REG : Reg := regOf [RNG_CNT_RCT.COUNT]
def RNG_CNT_APT.REG : Reg := regOf [RNG_CNT_APT.COUNT]
def RNG_CNT_BLOCKS.REG : Reg := regOf [RNG_CNT_BLOCKS.COUNT]
def RNG_CNT_RESEED.REG : Reg := regOf [RNG_CNT_RESEED.COUNT]
def RNG_CNT_STARVE.REG : Reg := regOf [RNG_CNT_STARVE.COUNT]
def RNG_CNT_UNDERRUN.REG : Reg := regOf [RNG_CNT_UNDERRUN.COUNT]
def RNG_RUN_HIST.REG : Reg := regOf [RNG_RUN_HIST.COUNT]
def RNG_INST_STAT.REG : Reg := regOf [RNG_INST_STAT.STATE, RNG_INST_STAT.PR, RNG_INST_STAT.RANK, RNG_INST_STAT.SINCE]
def RNG_INST_CNT.REG : Reg := regOf [RNG_INST_CNT.SERVED]

def regsRng0 : List Reg := [
  RNG_PROFILE.REG, RNG_CTL.REG, RNG_STAT.REG, RNG_IRQ_STAT.REG, RNG_IRQ_EN.REG, RNG_CFG.REG, RNG_HEALTH_CFG.REG, RNG_BIAS.REG, RNG_CORR.REG, RNG_WARN_CFG.REG, RNG_RAW_RATE.REG, RNG_HOST_DATA.REG]

def regsRng1 : List Reg := [
  RNG_HOST_STAT.REG, RNG_HOST_BULK.REG, RNG_TEST.REG, RNG_TEST_SEED.REG, RNG_EVT_CODE.REG, RNG_EVT_STAMP_LO.REG, RNG_EVT_STAMP_HI.REG, RNG_CNT_RCT.REG, RNG_CNT_APT.REG, RNG_CNT_BLOCKS.REG, RNG_CNT_RESEED.REG, RNG_CNT_STARVE.REG]

def regsRng2 : List Reg := [
  RNG_CNT_UNDERRUN.REG, RNG_RUN_HIST.REG, RNG_INST_STAT.REG, RNG_INST_CNT.REG]

/-- The registers of block RNG. -/
def regsRng : List Reg := regsRng0 ++ regsRng1 ++ regsRng2

/-! ## AST, 15_astrolabe_system.md -/

def AST_PROFILE.PROFILE : Fld := fld0 0x0E0000 3 0 .RW 0 .image
def AST_CTL.CLR_CNT : Fld := fld0 0x0E0004 1 1 .WO 0 .plain
def AST_CTL.LOCK : Fld := fld0 0x0E0004 0 0 .W1S 0 .plain
def AST_STAT.SCRIPTS : Fld := fld0 0x0E0008 24 16 .RO 0 .image
def AST_STAT.IDLE : Fld := fld0 0x0E0008 12 8 .RO 0 .plain
def AST_STAT.IMAGE_VALID : Fld := fld0 0x0E0008 0 0 .RO 0 .plain
def AST_IRQ_STAT.DEBUG : Fld := fld0 0x0E000C 3 3 .W1C 0 .plain
def AST_IRQ_STAT.OFFLINE : Fld := fld0 0x0E000C 2 2 .W1C 0 .plain
def AST_IRQ_STAT.STOP : Fld := fld0 0x0E000C 1 1 .W1C 0 .plain
def AST_IRQ_STAT.FAULT : Fld := fld0 0x0E000C 0 0 .W1C 0 .plain
def AST_IRQ_EN.DEBUG : Fld := fld0 0x0E0010 3 3 .RW 0 .plain
def AST_IRQ_EN.OFFLINE : Fld := fld0 0x0E0010 2 2 .RW 0 .plain
def AST_IRQ_EN.STOP : Fld := fld0 0x0E0010 1 1 .RW 0 .plain
def AST_IRQ_EN.FAULT : Fld := fld0 0x0E0010 0 0 .RW 0 .plain
def AST_CFG.HOLD_FAULT : Fld := fld0 0x0E0014 8 8 .RW 0 .plain true
def AST_CFG.RETIRE_N : Fld := fld0 0x0E0014 3 0 .RW 3 .plain true
def AST_OFFLINE.MAP : Fld := fld0 0x0E0018 15 0 .RO 0 .plain
def AST_FAULT.MAP : Fld := fld0 0x0E001C 15 0 .RO 0 .plain
def AST_DEBUG.MAP : Fld := fld0 0x0E0020 15 0 .RO 0 .plain
def AST_IMG_CRC.CRC : Fld := fld0 0x0E0024 31 0 .RO 0 .image
def AST_SCRIPT_ADDR.WORD : Fld := fld0 0x0E0028 9 8 .RW 0 .plain
def AST_SCRIPT_ADDR.INDEX : Fld := fld0 0x0E0028 7 0 .RW 0 .plain
def AST_SCRIPT_DATA.DATA : Fld := fld0 0x0E002C 31 0 .RO 0 .plain
def AST_EVT_CODE.KIND : Fld := fld0 0x0E0030 31 28 .RO 0 .plain
def AST_EVT_CODE.CORE : Fld := fld0 0x0E0030 27 24 .RO 0 .plain
def AST_EVT_CODE.CODE : Fld := fld0 0x0E0030 23 16 .RO 0 .plain
def AST_EVT_CODE.SESSION : Fld := fld0 0x0E0030 14 0 .RO 0 .plain
def AST_EVT_STAMP_LO.STAMP : Fld := fld0 0x0E0034 31 0 .RO 0 .plain
def AST_EVT_STAMP_HI.STAMP : Fld := fld0 0x0E0038 31 0 .RO 0 .plain
def AST_CNT_STEP.COUNT : Fld := fld0 0x0E003C 31 0 .RO 0 .plain
def AST_CNT_DONE.COUNT : Fld := fld0 0x0E0040 31 0 .RO 0 .plain
def AST_CNT_AGAIN.COUNT : Fld := fld0 0x0E0044 31 0 .RO 0 .plain
def AST_CNT_FAULT.COUNT : Fld := fld0 0x0E0048 31 0 .RO 0 .plain
def AST_CNT_STOP.COUNT : Fld := fld0 0x0E004C 31 0 .RO 0 .plain
def AST_CNT_RETIRE.COUNT : Fld := fld0 0x0E0050 31 0 .RO 0 .plain
def AST_CNT_CP0.COUNT : Fld := fld0 0x0E0054 31 0 .RO 0 .plain
def AST_CNT_CP1.COUNT : Fld := fld0 0x0E0058 31 0 .RO 0 .plain
def AST_CNT_CP2.COUNT : Fld := fld0 0x0E005C 31 0 .RO 0 .plain
def AST_CNT_CP3.COUNT : Fld := fld0 0x0E0060 31 0 .RO 0 .plain
def AST_CNT_CP_BUSY.COUNT : Fld := fld0 0x0E0064 31 0 .RO 0 .plain
def AST_CNT_CP_CANCEL.COUNT : Fld := fld0 0x0E0068 31 0 .RO 0 .plain
def AST_CNT_SESCALL.COUNT : Fld := fld0 0x0E006C 31 0 .RO 0 .plain
def AST_CNT_ENV.COUNT : Fld := fld0 0x0E0070 31 0 .RO 0 .plain
def AST_CNT_KEYGEN.COUNT : Fld := fld0 0x0E0074 31 0 .RO 0 .plain
def AST_CNT_REGVIOL.COUNT : Fld := fld0 0x0E0078 31 0 .RO 0 .plain
def AST_CNT_MBOX.COUNT : Fld := fld0 0x0E007C 31 0 .RO 0 .plain
def AST_CORE_CTL.EN : Fld := fld1 0x0E0100 0x1000 16 31 31 .RWL 0 .image
def AST_CORE_CTL.RELEASE : Fld := fld1 0x0E0100 0x1000 16 8 8 .WO 0 .plain
def AST_CORE_CTL.DEBUG_EN : Fld := fld1 0x0E0100 0x1000 16 0 0 .RO 0 .plain
def AST_CORE_STAT.STATE : Fld := fld1 0x0E0104 0x1000 16 31 28 .RO 0 .plain
def AST_CORE_STAT.SESSION : Fld := fld1 0x0E0104 0x1000 16 14 0 .RO 0 .plain
def AST_CORE_SCRIPT.GEN : Fld := fld1 0x0E0108 0x1000 16 31 16 .RO 0 .plain
def AST_CORE_SCRIPT.SCRIPT : Fld := fld1 0x0E0108 0x1000 16 15 0 .RO 0 .plain
def AST_SH_PC.VALUE : Fld := fld1 0x0E010C 0x1000 16 31 0 .RO 0 .plain
def AST_SH_PSW.VALUE : Fld := fld1 0x0E0110 0x1000 16 31 0 .RO 0 .plain
def AST_SH_G14.VALUE : Fld := fld1 0x0E0114 0x1000 16 31 0 .RO 0 .plain
def AST_SH_CAUSE.VALUE : Fld := fld1 0x0E0118 0x1000 16 31 0 .RO 0 .plain
def AST_SH_EADDR.VALUE : Fld := fld1 0x0E011C 0x1000 16 31 0 .RO 0 .plain
def AST_SH_STAMP_LO.VALUE : Fld := fld1 0x0E0120 0x1000 16 31 0 .RO 0 .plain
def AST_SH_STAMP_HI.VALUE : Fld := fld1 0x0E0124 0x1000 16 31 0 .RO 0 .plain
def AST_MBOX_IN.IN : Fld := fld1 0x0E0128 0x1000 16 31 0 .RW 0 .plain
def AST_MBOX_OUT.OUT : Fld := fld1 0x0E012C 0x1000 16 31 0 .RO 0 .plain
def AST_STEP_CYC.CYCLES : Fld := fld1 0x0E0130 0x1000 16 31 0 .RO 0 .plain
def AST_MAX_CYC.CYCLES : Fld := fld1 0x0E0134 0x1000 16 31 0 .RO 0 .plain
def AST_CORE_CNT_STEP.COUNT : Fld := fld1 0x0E0138 0x1000 16 31 0 .RO 0 .plain
def AST_CORE_CNT_FAULT.COUNT : Fld := fld1 0x0E013C 0x1000 16 31 0 .RO 0 .plain
def AST_CORE_CNT_STOP.COUNT : Fld := fld1 0x0E0140 0x1000 16 31 0 .RO 0 .plain
def AST_CORE_CNT_CP.COUNT : Fld := fld1 0x0E0144 0x1000 16 31 0 .RO 0 .plain
def AST_CORE_LAST.SC_CODE : Fld := fld1 0x0E0148 0x1000 16 31 24 .RO 0 .plain
def AST_CORE_LAST.VERB : Fld := fld1 0x0E0148 0x1000 16 23 16 .RO 0 .plain
def AST_CORE_LAST.CAUSE : Fld := fld1 0x0E0148 0x1000 16 15 8 .RO 0 .plain
def AST_CORE_REGVIOL.COUNT : Fld := fld1 0x0E014C 0x1000 16 31 0 .RO 0 .plain
def AST_PROFILE.REG : Reg := regOf [AST_PROFILE.PROFILE]
def AST_CTL.REG : Reg := regOf [AST_CTL.CLR_CNT, AST_CTL.LOCK]
def AST_STAT.REG : Reg := regOf [AST_STAT.SCRIPTS, AST_STAT.IDLE, AST_STAT.IMAGE_VALID]
def AST_IRQ_STAT.REG : Reg := regOf [AST_IRQ_STAT.DEBUG, AST_IRQ_STAT.OFFLINE, AST_IRQ_STAT.STOP, AST_IRQ_STAT.FAULT]
def AST_IRQ_EN.REG : Reg := regOf [AST_IRQ_EN.DEBUG, AST_IRQ_EN.OFFLINE, AST_IRQ_EN.STOP, AST_IRQ_EN.FAULT]
def AST_CFG.REG : Reg := regOf [AST_CFG.HOLD_FAULT, AST_CFG.RETIRE_N]
def AST_OFFLINE.REG : Reg := regOf [AST_OFFLINE.MAP]
def AST_FAULT.REG : Reg := regOf [AST_FAULT.MAP]
def AST_DEBUG.REG : Reg := regOf [AST_DEBUG.MAP]
def AST_IMG_CRC.REG : Reg := regOf [AST_IMG_CRC.CRC]
def AST_SCRIPT_ADDR.REG : Reg := regOf [AST_SCRIPT_ADDR.WORD, AST_SCRIPT_ADDR.INDEX]
def AST_SCRIPT_DATA.REG : Reg := regOf [AST_SCRIPT_DATA.DATA]
def AST_EVT_CODE.REG : Reg := regOf [AST_EVT_CODE.KIND, AST_EVT_CODE.CORE, AST_EVT_CODE.CODE, AST_EVT_CODE.SESSION]
def AST_EVT_STAMP_LO.REG : Reg := regOf [AST_EVT_STAMP_LO.STAMP]
def AST_EVT_STAMP_HI.REG : Reg := regOf [AST_EVT_STAMP_HI.STAMP]
def AST_CNT_STEP.REG : Reg := regOf [AST_CNT_STEP.COUNT]
def AST_CNT_DONE.REG : Reg := regOf [AST_CNT_DONE.COUNT]
def AST_CNT_AGAIN.REG : Reg := regOf [AST_CNT_AGAIN.COUNT]
def AST_CNT_FAULT.REG : Reg := regOf [AST_CNT_FAULT.COUNT]
def AST_CNT_STOP.REG : Reg := regOf [AST_CNT_STOP.COUNT]
def AST_CNT_RETIRE.REG : Reg := regOf [AST_CNT_RETIRE.COUNT]
def AST_CNT_CP0.REG : Reg := regOf [AST_CNT_CP0.COUNT]
def AST_CNT_CP1.REG : Reg := regOf [AST_CNT_CP1.COUNT]
def AST_CNT_CP2.REG : Reg := regOf [AST_CNT_CP2.COUNT]
def AST_CNT_CP3.REG : Reg := regOf [AST_CNT_CP3.COUNT]
def AST_CNT_CP_BUSY.REG : Reg := regOf [AST_CNT_CP_BUSY.COUNT]
def AST_CNT_CP_CANCEL.REG : Reg := regOf [AST_CNT_CP_CANCEL.COUNT]
def AST_CNT_SESCALL.REG : Reg := regOf [AST_CNT_SESCALL.COUNT]
def AST_CNT_ENV.REG : Reg := regOf [AST_CNT_ENV.COUNT]
def AST_CNT_KEYGEN.REG : Reg := regOf [AST_CNT_KEYGEN.COUNT]
def AST_CNT_REGVIOL.REG : Reg := regOf [AST_CNT_REGVIOL.COUNT]
def AST_CNT_MBOX.REG : Reg := regOf [AST_CNT_MBOX.COUNT]
def AST_CORE_CTL.REG : Reg := regOf [AST_CORE_CTL.EN, AST_CORE_CTL.RELEASE, AST_CORE_CTL.DEBUG_EN]
def AST_CORE_STAT.REG : Reg := regOf [AST_CORE_STAT.STATE, AST_CORE_STAT.SESSION]
def AST_CORE_SCRIPT.REG : Reg := regOf [AST_CORE_SCRIPT.GEN, AST_CORE_SCRIPT.SCRIPT]
def AST_SH_PC.REG : Reg := regOf [AST_SH_PC.VALUE]
def AST_SH_PSW.REG : Reg := regOf [AST_SH_PSW.VALUE]
def AST_SH_G14.REG : Reg := regOf [AST_SH_G14.VALUE]
def AST_SH_CAUSE.REG : Reg := regOf [AST_SH_CAUSE.VALUE]
def AST_SH_EADDR.REG : Reg := regOf [AST_SH_EADDR.VALUE]
def AST_SH_STAMP_LO.REG : Reg := regOf [AST_SH_STAMP_LO.VALUE]
def AST_SH_STAMP_HI.REG : Reg := regOf [AST_SH_STAMP_HI.VALUE]
def AST_MBOX_IN.REG : Reg := regOf [AST_MBOX_IN.IN]
def AST_MBOX_OUT.REG : Reg := regOf [AST_MBOX_OUT.OUT]
def AST_STEP_CYC.REG : Reg := regOf [AST_STEP_CYC.CYCLES]
def AST_MAX_CYC.REG : Reg := regOf [AST_MAX_CYC.CYCLES]
def AST_CORE_CNT_STEP.REG : Reg := regOf [AST_CORE_CNT_STEP.COUNT]
def AST_CORE_CNT_FAULT.REG : Reg := regOf [AST_CORE_CNT_FAULT.COUNT]
def AST_CORE_CNT_STOP.REG : Reg := regOf [AST_CORE_CNT_STOP.COUNT]
def AST_CORE_CNT_CP.REG : Reg := regOf [AST_CORE_CNT_CP.COUNT]
def AST_CORE_LAST.REG : Reg := regOf [AST_CORE_LAST.SC_CODE, AST_CORE_LAST.VERB, AST_CORE_LAST.CAUSE]
def AST_CORE_REGVIOL.REG : Reg := regOf [AST_CORE_REGVIOL.COUNT]

def regsAst0 : List Reg := [
  AST_PROFILE.REG, AST_CTL.REG, AST_STAT.REG, AST_IRQ_STAT.REG, AST_IRQ_EN.REG, AST_CFG.REG, AST_OFFLINE.REG, AST_FAULT.REG, AST_DEBUG.REG, AST_IMG_CRC.REG, AST_SCRIPT_ADDR.REG, AST_SCRIPT_DATA.REG]

def regsAst1 : List Reg := [
  AST_EVT_CODE.REG, AST_EVT_STAMP_LO.REG, AST_EVT_STAMP_HI.REG, AST_CNT_STEP.REG, AST_CNT_DONE.REG, AST_CNT_AGAIN.REG, AST_CNT_FAULT.REG, AST_CNT_STOP.REG, AST_CNT_RETIRE.REG, AST_CNT_CP0.REG, AST_CNT_CP1.REG, AST_CNT_CP2.REG]

def regsAst2 : List Reg := [
  AST_CNT_CP3.REG, AST_CNT_CP_BUSY.REG, AST_CNT_CP_CANCEL.REG, AST_CNT_SESCALL.REG, AST_CNT_ENV.REG, AST_CNT_KEYGEN.REG, AST_CNT_REGVIOL.REG, AST_CNT_MBOX.REG, AST_CORE_CTL.REG, AST_CORE_STAT.REG, AST_CORE_SCRIPT.REG, AST_SH_PC.REG]

def regsAst3 : List Reg := [
  AST_SH_PSW.REG, AST_SH_G14.REG, AST_SH_CAUSE.REG, AST_SH_EADDR.REG, AST_SH_STAMP_LO.REG, AST_SH_STAMP_HI.REG, AST_MBOX_IN.REG, AST_MBOX_OUT.REG, AST_STEP_CYC.REG, AST_MAX_CYC.REG, AST_CORE_CNT_STEP.REG, AST_CORE_CNT_FAULT.REG]

def regsAst4 : List Reg := [
  AST_CORE_CNT_STOP.REG, AST_CORE_CNT_CP.REG, AST_CORE_LAST.REG, AST_CORE_REGVIOL.REG]

/-- The registers of block AST. -/
def regsAst : List Reg := regsAst0 ++ regsAst1 ++ regsAst2 ++ regsAst3 ++ regsAst4

/-! ## MEM, 16_memory_integrity.md -/

def MEM_PROFILE.PROFILE : Fld := fld0 0x0F0000 3 0 .RW 0 .image
def MEM_CTL.CLR_CNT : Fld := fld0 0x0F0004 1 1 .WO 0 .plain
def MEM_CTL.LOCK : Fld := fld0 0x0F0004 0 0 .W1S 0 .plain
def MEM_STAT.MAP_MARGINAL : Fld := fld0 0x0F0008 6 6 .RO 0 .fuse
def MEM_STAT.SPARE_OVER : Fld := fld0 0x0F0008 5 5 .RO 0 .fuse
def MEM_STAT.SUSPECT_FULL : Fld := fld0 0x0F0008 4 4 .RO 0 .plain
def MEM_STAT.HARD_FULL : Fld := fld0 0x0F0008 3 3 .RO 0 .plain
def MEM_STAT.LAG : Fld := fld0 0x0F0008 2 2 .RO 0 .plain
def MEM_STAT.SCRUBBING : Fld := fld0 0x0F0008 1 1 .RO 0 .plain
def MEM_STAT.INIT_DONE : Fld := fld0 0x0F0008 0 0 .RO 0 .plain
def MEM_IRQ_STAT.FLIP : Fld := fld0 0x0F000C 6 6 .W1C 0 .plain
def MEM_IRQ_STAT.LAG : Fld := fld0 0x0F000C 5 5 .W1C 0 .plain
def MEM_IRQ_STAT.SUSPECT : Fld := fld0 0x0F000C 4 4 .W1C 0 .plain
def MEM_IRQ_STAT.REMAP : Fld := fld0 0x0F000C 3 3 .W1C 0 .plain
def MEM_IRQ_STAT.LOG : Fld := fld0 0x0F000C 2 2 .W1C 0 .plain
def MEM_IRQ_STAT.BUCKET : Fld := fld0 0x0F000C 1 1 .W1C 0 .plain
def MEM_IRQ_STAT.UE : Fld := fld0 0x0F000C 0 0 .W1C 0 .plain
def MEM_IRQ_EN.FLIP : Fld := fld0 0x0F0010 6 6 .RW 0 .plain
def MEM_IRQ_EN.LAG : Fld := fld0 0x0F0010 5 5 .RW 0 .plain
def MEM_IRQ_EN.SUSPECT : Fld := fld0 0x0F0010 4 4 .RW 0 .plain
def MEM_IRQ_EN.REMAP : Fld := fld0 0x0F0010 3 3 .RW 0 .plain
def MEM_IRQ_EN.LOG : Fld := fld0 0x0F0010 2 2 .RW 0 .plain
def MEM_IRQ_EN.BUCKET : Fld := fld0 0x0F0010 1 1 .RW 0 .plain
def MEM_IRQ_EN.UE : Fld := fld0 0x0F0010 0 0 .RW 0 .plain
def MEM_SCRUB_CFG.RATE : Fld := fld0 0x0F0014 7 0 .RW 8 .plain true
def MEM_BUCKET_CFG.LEAK_MS : Fld := fld0 0x0F0018 31 16 .RW 0x3E8 .plain true
def MEM_BUCKET_CFG.BUCKET_MAX : Fld := fld0 0x0F0018 7 0 .RW 0x10 .plain true
def MEM_SCRUB_STAT.LAST_DRAM_S : Fld := fld0 0x0F001C 31 16 .RO 0 .plain
def MEM_SCRUB_STAT.LAST_SRAM_DS : Fld := fld0 0x0F001C 15 0 .RO 0 .plain
def MEM_SCRUB_POS.ADDR : Fld := fld0 0x0F0020 31 0 .RO 0 .plain
def MEM_SCRUB_SPOS.ARRAY : Fld := fld0 0x0F0024 29 24 .RO 0 .plain
def MEM_SCRUB_SPOS.WORD : Fld := fld0 0x0F0024 19 0 .RO 0 .plain
def MEM_CNT_PASS_DRAM.COUNT : Fld := fld0 0x0F0028 31 0 .RO 0 .plain
def MEM_CNT_PASS_SRAM.COUNT : Fld := fld0 0x0F002C 31 0 .RO 0 .plain
def MEM_CNT_CE_DRAM.COUNT : Fld := fld0 0x0F0030 31 0 .RO 0 .plain
def MEM_CNT_CE_SRAM.COUNT : Fld := fld0 0x0F0034 31 0 .RO 0 .plain
def MEM_CNT_UE_DRAM.COUNT : Fld := fld0 0x0F0038 31 0 .RO 0 .plain
def MEM_CNT_UE_SRAM.COUNT : Fld := fld0 0x0F003C 31 0 .RO 0 .plain
def MEM_CNT_POISON_USE.COUNT : Fld := fld0 0x0F0040 31 0 .RO 0 .plain
def MEM_CNT_MERGE_RMW.COUNT : Fld := fld0 0x0F0044 31 0 .RO 0 .plain
def MEM_CNT_REMAP.COUNT : Fld := fld0 0x0F0048 31 0 .RO 0 .plain
def MEM_UE_LAST.ARRAY : Fld := fld0 0x0F004C 15 8 .RO 0 .plain
def MEM_UE_LAST.FOUND_BY : Fld := fld0 0x0F004C 1 0 .RO 0 .plain
def MEM_UE_ADDR.VALUE : Fld := fld0 0x0F0050 31 0 .RO 0 .plain
def MEM_UE_STAMP_LO.VALUE : Fld := fld0 0x0F0054 31 0 .RO 0 .plain
def MEM_UE_STAMP_HI.VALUE : Fld := fld0 0x0F0058 31 0 .RO 0 .plain
def MEM_FLIP_CTL.TARGET : Fld := fld0 0x0F005C 15 8 .RW 0 .plain
def MEM_FLIP_CTL.REFUSED : Fld := fld0 0x0F005C 3 3 .W1C 0 .plain
def MEM_FLIP_CTL.FIRED : Fld := fld0 0x0F005C 2 2 .W1C 0 .plain
def MEM_FLIP_CTL.ADDR_EN : Fld := fld0 0x0F005C 1 1 .RW 0 .plain
def MEM_FLIP_CTL.ARM : Fld := fld0 0x0F005C 0 0 .RW 0 .plain
def MEM_FLIP_ADDR.VALUE : Fld := fld0 0x0F0060 31 0 .RW 0 .plain
def MEM_FLIP_D.VALUE : Fld := fld1 0x0F0064 0x4 4 31 0 .RW 0 .plain
def MEM_FLIP_C.VALUE : Fld := fld0 0x0F0074 31 0 .RW 0 .plain
def MEM_SPARE_STAT.SPARES_USED : Fld := fld0 0x0F0078 22 16 .RO 0 .fuse
def MEM_SPARE_STAT.FACTORY_REMAP : Fld := fld0 0x0F0078 8 0 .RO 0 .fuse
def MEM_LOG_STAT.OVERWRITTEN : Fld := fld0 0x0F007C 31 16 .RO 0 .plain
def MEM_LOG_STAT.ENTRIES : Fld := fld0 0x0F007C 5 0 .RO 0 .plain
def MEM_BUCKET.OVF_CNT : Fld := fld1 0x0F0080 0x4 24 31 16 .RO 0 .plain
def MEM_BUCKET.FILL : Fld := fld1 0x0F0080 0x4 24 7 0 .RO 0 .plain
def MEM_REMAP_ADDR.ARRAY : Fld := fld0 0x0F00E0 13 8 .RW 0 .plain
def MEM_REMAP_ADDR.ENTRY : Fld := fld0 0x0F00E0 2 0 .RW 0 .plain
def MEM_REMAP_DATA.VALID : Fld := fld0 0x0F00E4 31 31 .RO 0 .plain
def MEM_REMAP_DATA.FACTORY : Fld := fld0 0x0F00E4 30 30 .RO 0 .plain
def MEM_REMAP_DATA.POISON : Fld := fld0 0x0F00E4 29 29 .RO 0 .plain
def MEM_REMAP_DATA.WORD : Fld := fld0 0x0F00E4 19 0 .RO 0 .plain
def MEM_LOG_ADDR.WORD : Fld := fld0 0x0F00E8 9 8 .RW 0 .plain
def MEM_LOG_ADDR.ENTRY : Fld := fld0 0x0F00E8 4 0 .RW 0 .plain
def MEM_LOG_DATA.DATA : Fld := fld0 0x0F00EC 31 0 .RO 0 .plain
def MEM_MERGE_CFG.MERGE_IDLE : Fld := fld0 0x0F00F0 7 0 .RWL 0x40 .plain
def MEM_CNT_FLIP.COUNT : Fld := fld0 0x0F00F4 31 0 .RO 0 .plain
def MEM_CNT_HARD.COUNT : Fld := fld0 0x0F00F8 31 0 .RO 0 .plain
def MEM_CNT_BUCKET_OVF.COUNT : Fld := fld0 0x0F00FC 31 0 .RO 0 .plain
def MEM_ARR_STAT.CE : Fld := fld1 0x0F0100 0x4 64 31 16 .RO 0 .plain
def MEM_ARR_STAT.UE : Fld := fld1 0x0F0100 0x4 64 15 8 .RO 0 .plain
def MEM_ARR_STAT.REMAP : Fld := fld1 0x0F0100 0x4 64 7 4 .RO 0 .fuse
def MEM_ARR_STAT.PRIV : Fld := fld1 0x0F0100 0x4 64 3 3 .RO 0 .text
def MEM_DRAM_REG.CE : Fld := fld1 0x0F0200 0x4 8 31 16 .RO 0 .plain
def MEM_DRAM_REG.UE : Fld := fld1 0x0F0200 0x4 8 15 0 .RO 0 .plain
def MEM_DRAM_SUSPECT.VALID : Fld := fld1 0x0F0220 0x4 8 31 31 .RO 0 .plain
def MEM_DRAM_SUSPECT.BANK : Fld := fld1 0x0F0220 0x4 8 19 16 .RO 0 .plain
def MEM_DRAM_SUSPECT.ROW : Fld := fld1 0x0F0220 0x4 8 13 0 .RO 0 .plain
def MEM_DRAM_SPARE.FUSE_ENTRIES : Fld := fld1 0x0F0240 0x4 16 15 8 .RO 0 .fuse
def MEM_DRAM_SPARE.IN_USE : Fld := fld1 0x0F0240 0x4 16 3 0 .RO 0 .fuse
def MEM_PROFILE.REG : Reg := regOf [MEM_PROFILE.PROFILE]
def MEM_CTL.REG : Reg := regOf [MEM_CTL.CLR_CNT, MEM_CTL.LOCK]
def MEM_STAT.REG : Reg := regOf [MEM_STAT.MAP_MARGINAL, MEM_STAT.SPARE_OVER, MEM_STAT.SUSPECT_FULL, MEM_STAT.HARD_FULL, MEM_STAT.LAG, MEM_STAT.SCRUBBING, MEM_STAT.INIT_DONE]
def MEM_IRQ_STAT.REG : Reg := regOf [MEM_IRQ_STAT.FLIP, MEM_IRQ_STAT.LAG, MEM_IRQ_STAT.SUSPECT, MEM_IRQ_STAT.REMAP, MEM_IRQ_STAT.LOG, MEM_IRQ_STAT.BUCKET, MEM_IRQ_STAT.UE]
def MEM_IRQ_EN.REG : Reg := regOf [MEM_IRQ_EN.FLIP, MEM_IRQ_EN.LAG, MEM_IRQ_EN.SUSPECT, MEM_IRQ_EN.REMAP, MEM_IRQ_EN.LOG, MEM_IRQ_EN.BUCKET, MEM_IRQ_EN.UE]
def MEM_SCRUB_CFG.REG : Reg := regOf [MEM_SCRUB_CFG.RATE]
def MEM_BUCKET_CFG.REG : Reg := regOf [MEM_BUCKET_CFG.LEAK_MS, MEM_BUCKET_CFG.BUCKET_MAX]
def MEM_SCRUB_STAT.REG : Reg := regOf [MEM_SCRUB_STAT.LAST_DRAM_S, MEM_SCRUB_STAT.LAST_SRAM_DS]
def MEM_SCRUB_POS.REG : Reg := regOf [MEM_SCRUB_POS.ADDR]
def MEM_SCRUB_SPOS.REG : Reg := regOf [MEM_SCRUB_SPOS.ARRAY, MEM_SCRUB_SPOS.WORD]
def MEM_CNT_PASS_DRAM.REG : Reg := regOf [MEM_CNT_PASS_DRAM.COUNT]
def MEM_CNT_PASS_SRAM.REG : Reg := regOf [MEM_CNT_PASS_SRAM.COUNT]
def MEM_CNT_CE_DRAM.REG : Reg := regOf [MEM_CNT_CE_DRAM.COUNT]
def MEM_CNT_CE_SRAM.REG : Reg := regOf [MEM_CNT_CE_SRAM.COUNT]
def MEM_CNT_UE_DRAM.REG : Reg := regOf [MEM_CNT_UE_DRAM.COUNT]
def MEM_CNT_UE_SRAM.REG : Reg := regOf [MEM_CNT_UE_SRAM.COUNT]
def MEM_CNT_POISON_USE.REG : Reg := regOf [MEM_CNT_POISON_USE.COUNT]
def MEM_CNT_MERGE_RMW.REG : Reg := regOf [MEM_CNT_MERGE_RMW.COUNT]
def MEM_CNT_REMAP.REG : Reg := regOf [MEM_CNT_REMAP.COUNT]
def MEM_UE_LAST.REG : Reg := regOf [MEM_UE_LAST.ARRAY, MEM_UE_LAST.FOUND_BY]
def MEM_UE_ADDR.REG : Reg := regOf [MEM_UE_ADDR.VALUE]
def MEM_UE_STAMP_LO.REG : Reg := regOf [MEM_UE_STAMP_LO.VALUE]
def MEM_UE_STAMP_HI.REG : Reg := regOf [MEM_UE_STAMP_HI.VALUE]
def MEM_FLIP_CTL.REG : Reg := regOf [MEM_FLIP_CTL.TARGET, MEM_FLIP_CTL.REFUSED, MEM_FLIP_CTL.FIRED, MEM_FLIP_CTL.ADDR_EN, MEM_FLIP_CTL.ARM]
def MEM_FLIP_ADDR.REG : Reg := regOf [MEM_FLIP_ADDR.VALUE]
def MEM_FLIP_D.REG : Reg := regOf [MEM_FLIP_D.VALUE]
def MEM_FLIP_C.REG : Reg := regOf [MEM_FLIP_C.VALUE]
def MEM_SPARE_STAT.REG : Reg := regOf [MEM_SPARE_STAT.SPARES_USED, MEM_SPARE_STAT.FACTORY_REMAP]
def MEM_LOG_STAT.REG : Reg := regOf [MEM_LOG_STAT.OVERWRITTEN, MEM_LOG_STAT.ENTRIES]
def MEM_BUCKET.REG : Reg := regOf [MEM_BUCKET.OVF_CNT, MEM_BUCKET.FILL]
def MEM_REMAP_ADDR.REG : Reg := regOf [MEM_REMAP_ADDR.ARRAY, MEM_REMAP_ADDR.ENTRY]
def MEM_REMAP_DATA.REG : Reg := regOf [MEM_REMAP_DATA.VALID, MEM_REMAP_DATA.FACTORY, MEM_REMAP_DATA.POISON, MEM_REMAP_DATA.WORD]
def MEM_LOG_ADDR.REG : Reg := regOf [MEM_LOG_ADDR.WORD, MEM_LOG_ADDR.ENTRY]
def MEM_LOG_DATA.REG : Reg := regOf [MEM_LOG_DATA.DATA]
def MEM_MERGE_CFG.REG : Reg := regOf [MEM_MERGE_CFG.MERGE_IDLE]
def MEM_CNT_FLIP.REG : Reg := regOf [MEM_CNT_FLIP.COUNT]
def MEM_CNT_HARD.REG : Reg := regOf [MEM_CNT_HARD.COUNT]
def MEM_CNT_BUCKET_OVF.REG : Reg := regOf [MEM_CNT_BUCKET_OVF.COUNT]
def MEM_ARR_STAT.REG : Reg := regOf [MEM_ARR_STAT.CE, MEM_ARR_STAT.UE, MEM_ARR_STAT.REMAP, MEM_ARR_STAT.PRIV]
def MEM_DRAM_REG.REG : Reg := regOf [MEM_DRAM_REG.CE, MEM_DRAM_REG.UE]
def MEM_DRAM_SUSPECT.REG : Reg := regOf [MEM_DRAM_SUSPECT.VALID, MEM_DRAM_SUSPECT.BANK, MEM_DRAM_SUSPECT.ROW]
def MEM_DRAM_SPARE.REG : Reg := regOf [MEM_DRAM_SPARE.FUSE_ENTRIES, MEM_DRAM_SPARE.IN_USE]

def regsMem0 : List Reg := [
  MEM_PROFILE.REG, MEM_CTL.REG, MEM_STAT.REG, MEM_IRQ_STAT.REG, MEM_IRQ_EN.REG, MEM_SCRUB_CFG.REG, MEM_BUCKET_CFG.REG, MEM_SCRUB_STAT.REG, MEM_SCRUB_POS.REG, MEM_SCRUB_SPOS.REG, MEM_CNT_PASS_DRAM.REG, MEM_CNT_PASS_SRAM.REG]

def regsMem1 : List Reg := [
  MEM_CNT_CE_DRAM.REG, MEM_CNT_CE_SRAM.REG, MEM_CNT_UE_DRAM.REG, MEM_CNT_UE_SRAM.REG, MEM_CNT_POISON_USE.REG, MEM_CNT_MERGE_RMW.REG, MEM_CNT_REMAP.REG, MEM_UE_LAST.REG, MEM_UE_ADDR.REG, MEM_UE_STAMP_LO.REG, MEM_UE_STAMP_HI.REG, MEM_FLIP_CTL.REG]

def regsMem2 : List Reg := [
  MEM_FLIP_ADDR.REG, MEM_FLIP_D.REG, MEM_FLIP_C.REG, MEM_SPARE_STAT.REG, MEM_LOG_STAT.REG, MEM_BUCKET.REG, MEM_REMAP_ADDR.REG, MEM_REMAP_DATA.REG, MEM_LOG_ADDR.REG, MEM_LOG_DATA.REG, MEM_MERGE_CFG.REG, MEM_CNT_FLIP.REG]

def regsMem3 : List Reg := [
  MEM_CNT_HARD.REG, MEM_CNT_BUCKET_OVF.REG, MEM_ARR_STAT.REG, MEM_DRAM_REG.REG, MEM_DRAM_SUSPECT.REG, MEM_DRAM_SPARE.REG]

/-- The registers of block MEM. -/
def regsMem : List Reg := regsMem0 ++ regsMem1 ++ regsMem2 ++ regsMem3

/-! ## PLT, 17_plate_store_and_recovery.md -/

def PLT_PROFILE.PROFILE : Fld := fld0 0x100000 3 0 .RW 0 .image
def PLT_CTL.MARGIN_NOW : Fld := fld0 0x100004 2 2 .WO 0 .plain
def PLT_CTL.CLR_CNT : Fld := fld0 0x100004 1 1 .WO 0 .plain
def PLT_CTL.LOCK : Fld := fld0 0x100004 0 0 .W1S 0 .plain
def PLT_STAT.BANK_BUSY : Fld := fld0 0x100008 31 28 .RO 0 .plain
def PLT_STAT.QUEUED : Fld := fld0 0x100008 15 8 .RO 0 .plain
def PLT_STAT.SEAL_WAIT : Fld := fld0 0x100008 5 5 .RO 0 .plain
def PLT_STAT.ARC_LOW : Fld := fld0 0x100008 4 4 .RO 0 .plain
def PLT_STAT.MARGIN_RUN : Fld := fld0 0x100008 3 3 .RO 0 .plain
def PLT_STAT.VHOLD_LOW : Fld := fld0 0x100008 2 2 .RO 1 .plain
def PLT_STAT.RECALLING : Fld := fld0 0x100008 1 1 .RO 1 .plain
def PLT_STAT.READY : Fld := fld0 0x100008 0 0 .RO 0 .plain
def PLT_IRQ_STAT.LOSS : Fld := fld0 0x10000C 6 6 .W1C 0 .plain
def PLT_IRQ_STAT.ARC_LOW : Fld := fld0 0x10000C 5 5 .W1C 0 .plain
def PLT_IRQ_STAT.UE : Fld := fld0 0x10000C 4 4 .W1C 0 .plain
def PLT_IRQ_STAT.REFRESH : Fld := fld0 0x10000C 3 3 .W1C 0 .plain
def PLT_IRQ_STAT.VHOLD_LOW : Fld := fld0 0x10000C 2 2 .W1C 0 .plain
def PLT_IRQ_STAT.DENIED : Fld := fld0 0x10000C 1 1 .W1C 0 .plain
def PLT_IRQ_STAT.RECALL_DONE : Fld := fld0 0x10000C 0 0 .W1C 0 .plain
def PLT_IRQ_EN.LOSS : Fld := fld0 0x100010 6 6 .RW 0 .plain
def PLT_IRQ_EN.ARC_LOW : Fld := fld0 0x100010 5 5 .RW 0 .plain
def PLT_IRQ_EN.UE : Fld := fld0 0x100010 4 4 .RW 0 .plain
def PLT_IRQ_EN.REFRESH : Fld := fld0 0x100010 3 3 .RW 0 .plain
def PLT_IRQ_EN.VHOLD_LOW : Fld := fld0 0x100010 2 2 .RW 0 .plain
def PLT_IRQ_EN.DENIED : Fld := fld0 0x100010 1 1 .RW 0 .plain
def PLT_IRQ_EN.RECALL_DONE : Fld := fld0 0x100010 0 0 .RW 0 .plain
def PLT_PROTECT.RESERVE : Fld := fld0 0x100014 31 16 .AUT 0 .plate
def PLT_PROTECT.BP : Fld := fld0 0x100014 1 0 .AUT 0 .plate
def PLT_VHOLD.MIN_MV : Fld := fld0 0x100018 31 16 .RO 0 .plain
def PLT_VHOLD.MV : Fld := fld0 0x100018 15 0 .RO 0 .plain
def PLT_MARGIN_CFG.MARGIN_H : Fld := fld0 0x10001C 7 0 .RW 0x18 .plain true
def PLT_MARGIN_STAT.LAST_MIN : Fld := fld0 0x100020 31 16 .RO 0 .plain
def PLT_MARGIN_STAT.PAGE : Fld := fld0 0x100020 15 0 .RO 0 .plain
def PLT_ACC_ADDR.ADDR : Fld := fld0 0x100024 23 3 .RW 0 .plain
def PLT_ACC_DATA_LO.DATA : Fld := fld0 0x100028 31 0 .RW 0 .plain
def PLT_ACC_DATA_HI.DATA : Fld := fld0 0x10002C 31 0 .RW 0 .plain
def PLT_ACC_CTL.GO : Fld := fld0 0x100030 31 31 .WO 0 .plain
def PLT_ACC_CTL.WRITE : Fld := fld0 0x100030 30 30 .RW 0 .plain
def PLT_ACC_CTL.BUSY : Fld := fld0 0x100030 29 29 .RO 0 .plain
def PLT_ACC_CTL.RESULT : Fld := fld0 0x100030 23 16 .RO 0 .plain
def PLT_ARC_HEAD.SEQ : Fld := fld0 0x100034 31 0 .RO 0 .plate
def PLT_ARC_OLDEST.SEQ : Fld := fld0 0x100038 31 0 .RO 0 .plate
def PLT_ARC_EXPORTED.SEQ : Fld := fld0 0x10003C 31 0 .RO 0 .plate
def PLT_ARC_EXP_FROM.FROM : Fld := fld0 0x100040 31 0 .RW 0 .plain
def PLT_ARC_EXP_CTL.GO : Fld := fld0 0x100044 31 31 .WO 0 .plain
def PLT_ARC_EXP_CTL.BUSY : Fld := fld0 0x100044 30 30 .RO 0 .plain
def PLT_ARC_EXP_CTL.CODE : Fld := fld0 0x100044 23 16 .RO 0 .plain
def PLT_ARC_EXP_CTL.SLOT : Fld := fld0 0x100044 13 0 .RW 0 .plain
def PLT_ARC_AVAIL.AVAIL : Fld := fld0 0x100048 16 0 .RO 0 .plate
def PLT_ARC_LOST.LOST : Fld := fld0 0x10004C 31 0 .RO 0 .plate
def PLT_EVT_CODE.KIND : Fld := fld0 0x100050 31 28 .RO 0 .plain
def PLT_EVT_CODE.REGION : Fld := fld0 0x100050 27 24 .RO 0 .plain
def PLT_EVT_CODE.ADDR : Fld := fld0 0x100050 23 0 .RO 0 .plain
def PLT_EVT_STAMP_LO.STAMP : Fld := fld0 0x100054 31 0 .RO 0 .plain
def PLT_EVT_STAMP_HI.STAMP : Fld := fld0 0x100058 31 0 .RO 0 .plain
def PLT_CNT_WRITE.COUNT : Fld := fld0 0x10005C 31 0 .RO 0 .plain
def PLT_CNT_PAGE.COUNT : Fld := fld0 0x100060 31 0 .RO 0 .plain
def PLT_CNT_CE.COUNT : Fld := fld0 0x100064 31 0 .RO 0 .plain
def PLT_CNT_UE.COUNT : Fld := fld0 0x100068 31 0 .RO 0 .plain
def PLT_CNT_REFRESH.COUNT : Fld := fld0 0x10006C 31 0 .RO 0 .plain
def PLT_CNT_ARC.COUNT : Fld := fld0 0x100070 31 0 .RO 0 .plain
def PLT_CNT_VHOLD_WAIT.COUNT : Fld := fld0 0x100074 31 0 .RO 0 .plain
def PLT_CNT_BUSY.COUNT : Fld := fld0 0x100078 31 0 .RO 0 .plain
def PLT_CNT_DENIED.COUNT : Fld := fld0 0x10007C 31 0 .RO 0 .plain
def PLT_REGION_CFG.BASE : Fld := fld1 0x100080 0x8 16 31 24 .RO 0 .text
def PLT_REGION_CFG.SIZE : Fld := fld1 0x100080 0x8 16 23 16 .RO 0 .text
def PLT_REGION_CFG.WRITERS : Fld := fld1 0x100080 0x8 16 7 0 .RO 0 .text
def PLT_REGION_STAT.CE : Fld := fld1 0x100084 0x8 16 31 16 .RO 0 .plain
def PLT_REGION_STAT.UE : Fld := fld1 0x100084 0x8 16 15 0 .RO 0 .plain
def PLT_PROFILE.REG : Reg := regOf [PLT_PROFILE.PROFILE]
def PLT_CTL.REG : Reg := regOf [PLT_CTL.MARGIN_NOW, PLT_CTL.CLR_CNT, PLT_CTL.LOCK]
def PLT_STAT.REG : Reg := regOf [PLT_STAT.BANK_BUSY, PLT_STAT.QUEUED, PLT_STAT.SEAL_WAIT, PLT_STAT.ARC_LOW, PLT_STAT.MARGIN_RUN, PLT_STAT.VHOLD_LOW, PLT_STAT.RECALLING, PLT_STAT.READY]
def PLT_IRQ_STAT.REG : Reg := regOf [PLT_IRQ_STAT.LOSS, PLT_IRQ_STAT.ARC_LOW, PLT_IRQ_STAT.UE, PLT_IRQ_STAT.REFRESH, PLT_IRQ_STAT.VHOLD_LOW, PLT_IRQ_STAT.DENIED, PLT_IRQ_STAT.RECALL_DONE]
def PLT_IRQ_EN.REG : Reg := regOf [PLT_IRQ_EN.LOSS, PLT_IRQ_EN.ARC_LOW, PLT_IRQ_EN.UE, PLT_IRQ_EN.REFRESH, PLT_IRQ_EN.VHOLD_LOW, PLT_IRQ_EN.DENIED, PLT_IRQ_EN.RECALL_DONE]
def PLT_PROTECT.REG : Reg := regOf [PLT_PROTECT.RESERVE, PLT_PROTECT.BP]
def PLT_VHOLD.REG : Reg := regOf [PLT_VHOLD.MIN_MV, PLT_VHOLD.MV]
def PLT_MARGIN_CFG.REG : Reg := regOf [PLT_MARGIN_CFG.MARGIN_H]
def PLT_MARGIN_STAT.REG : Reg := regOf [PLT_MARGIN_STAT.LAST_MIN, PLT_MARGIN_STAT.PAGE]
def PLT_ACC_ADDR.REG : Reg := regOf [PLT_ACC_ADDR.ADDR]
def PLT_ACC_DATA_LO.REG : Reg := regOf [PLT_ACC_DATA_LO.DATA]
def PLT_ACC_DATA_HI.REG : Reg := regOf [PLT_ACC_DATA_HI.DATA]
def PLT_ACC_CTL.REG : Reg := regOf [PLT_ACC_CTL.GO, PLT_ACC_CTL.WRITE, PLT_ACC_CTL.BUSY, PLT_ACC_CTL.RESULT]
def PLT_ARC_HEAD.REG : Reg := regOf [PLT_ARC_HEAD.SEQ]
def PLT_ARC_OLDEST.REG : Reg := regOf [PLT_ARC_OLDEST.SEQ]
def PLT_ARC_EXPORTED.REG : Reg := regOf [PLT_ARC_EXPORTED.SEQ]
def PLT_ARC_EXP_FROM.REG : Reg := regOf [PLT_ARC_EXP_FROM.FROM]
def PLT_ARC_EXP_CTL.REG : Reg := regOf [PLT_ARC_EXP_CTL.GO, PLT_ARC_EXP_CTL.BUSY, PLT_ARC_EXP_CTL.CODE, PLT_ARC_EXP_CTL.SLOT]
def PLT_ARC_AVAIL.REG : Reg := regOf [PLT_ARC_AVAIL.AVAIL]
def PLT_ARC_LOST.REG : Reg := regOf [PLT_ARC_LOST.LOST]
def PLT_EVT_CODE.REG : Reg := regOf [PLT_EVT_CODE.KIND, PLT_EVT_CODE.REGION, PLT_EVT_CODE.ADDR]
def PLT_EVT_STAMP_LO.REG : Reg := regOf [PLT_EVT_STAMP_LO.STAMP]
def PLT_EVT_STAMP_HI.REG : Reg := regOf [PLT_EVT_STAMP_HI.STAMP]
def PLT_CNT_WRITE.REG : Reg := regOf [PLT_CNT_WRITE.COUNT]
def PLT_CNT_PAGE.REG : Reg := regOf [PLT_CNT_PAGE.COUNT]
def PLT_CNT_CE.REG : Reg := regOf [PLT_CNT_CE.COUNT]
def PLT_CNT_UE.REG : Reg := regOf [PLT_CNT_UE.COUNT]
def PLT_CNT_REFRESH.REG : Reg := regOf [PLT_CNT_REFRESH.COUNT]
def PLT_CNT_ARC.REG : Reg := regOf [PLT_CNT_ARC.COUNT]
def PLT_CNT_VHOLD_WAIT.REG : Reg := regOf [PLT_CNT_VHOLD_WAIT.COUNT]
def PLT_CNT_BUSY.REG : Reg := regOf [PLT_CNT_BUSY.COUNT]
def PLT_CNT_DENIED.REG : Reg := regOf [PLT_CNT_DENIED.COUNT]
def PLT_REGION_CFG.REG : Reg := regOf [PLT_REGION_CFG.BASE, PLT_REGION_CFG.SIZE, PLT_REGION_CFG.WRITERS]
def PLT_REGION_STAT.REG : Reg := regOf [PLT_REGION_STAT.CE, PLT_REGION_STAT.UE]

def regsPlt0 : List Reg := [
  PLT_PROFILE.REG, PLT_CTL.REG, PLT_STAT.REG, PLT_IRQ_STAT.REG, PLT_IRQ_EN.REG, PLT_PROTECT.REG, PLT_VHOLD.REG, PLT_MARGIN_CFG.REG, PLT_MARGIN_STAT.REG, PLT_ACC_ADDR.REG, PLT_ACC_DATA_LO.REG, PLT_ACC_DATA_HI.REG]

def regsPlt1 : List Reg := [
  PLT_ACC_CTL.REG, PLT_ARC_HEAD.REG, PLT_ARC_OLDEST.REG, PLT_ARC_EXPORTED.REG, PLT_ARC_EXP_FROM.REG, PLT_ARC_EXP_CTL.REG, PLT_ARC_AVAIL.REG, PLT_ARC_LOST.REG, PLT_EVT_CODE.REG, PLT_EVT_STAMP_LO.REG, PLT_EVT_STAMP_HI.REG, PLT_CNT_WRITE.REG]

def regsPlt2 : List Reg := [
  PLT_CNT_PAGE.REG, PLT_CNT_CE.REG, PLT_CNT_UE.REG, PLT_CNT_REFRESH.REG, PLT_CNT_ARC.REG, PLT_CNT_VHOLD_WAIT.REG, PLT_CNT_BUSY.REG, PLT_CNT_DENIED.REG, PLT_REGION_CFG.REG, PLT_REGION_STAT.REG]

/-- The registers of block PLT. -/
def regsPlt : List Reg := regsPlt0 ++ regsPlt1 ++ regsPlt2

/-! ## BOOT, 18_boot_image_calibration.md -/

def BOOT_PROFILE.PROFILE : Fld := fld0 0x110000 3 0 .RW 0 .image
def BOOT_CTL.SWITCH : Fld := fld0 0x110004 7 7 .WO 0 .plain
def BOOT_CTL.SWITCH_SLOT : Fld := fld0 0x110004 6 6 .RW 0 .plain
def BOOT_CTL.RETRY : Fld := fld0 0x110004 2 2 .WO 0 .plain
def BOOT_CTL.CLR_CNT : Fld := fld0 0x110004 1 1 .WO 0 .plain
def BOOT_STAT.PHASE : Fld := fld0 0x110008 31 28 .RO 0 .plain
def BOOT_STAT.POLICY : Fld := fld0 0x110008 25 24 .RO 0 .strap
def BOOT_STAT.SLOT_RUN : Fld := fld0 0x110008 16 16 .RO 0 .plain
def BOOT_STAT.FAIL_CODE : Fld := fld0 0x110008 15 8 .RO 0 .plain
def BOOT_STAT.LOW_RATE : Fld := fld0 0x110008 3 3 .RO 0 .plain
def BOOT_STAT.FLASH_SMALL : Fld := fld0 0x110008 2 2 .RO 0 .plain
def BOOT_STAT.IMAGE_OK : Fld := fld0 0x110008 1 1 .RO 0 .plain
def BOOT_STAT.FLASH_OK : Fld := fld0 0x110008 0 0 .RO 0 .plain
def BOOT_IRQ_STAT.CAL_CLAMP : Fld := fld0 0x11000C 7 7 .W1C 0 .plain
def BOOT_IRQ_STAT.FUSE : Fld := fld0 0x11000C 6 6 .W1C 0 .plain
def BOOT_IRQ_STAT.FL_DONE : Fld := fld0 0x11000C 5 5 .W1C 0 .plain
def BOOT_IRQ_STAT.SWITCH_FAIL : Fld := fld0 0x11000C 4 4 .W1C 0 .plain
def BOOT_IRQ_STAT.SWITCH_DONE : Fld := fld0 0x11000C 3 3 .W1C 0 .plain
def BOOT_IRQ_STAT.REC_BAD : Fld := fld0 0x11000C 2 2 .W1C 0 .plain
def BOOT_IRQ_STAT.FALLBACK : Fld := fld0 0x11000C 1 1 .W1C 0 .plain
def BOOT_IRQ_STAT.FAIL : Fld := fld0 0x11000C 0 0 .W1C 0 .plain
def BOOT_IRQ_EN.CAL_CLAMP : Fld := fld0 0x110010 7 7 .RW 0 .plain
def BOOT_IRQ_EN.FUSE : Fld := fld0 0x110010 6 6 .RW 0 .plain
def BOOT_IRQ_EN.FL_DONE : Fld := fld0 0x110010 5 5 .RW 0 .plain
def BOOT_IRQ_EN.SWITCH_FAIL : Fld := fld0 0x110010 4 4 .RW 0 .plain
def BOOT_IRQ_EN.SWITCH_DONE : Fld := fld0 0x110010 3 3 .RW 0 .plain
def BOOT_IRQ_EN.REC_BAD : Fld := fld0 0x110010 2 2 .RW 0 .plain
def BOOT_IRQ_EN.FALLBACK : Fld := fld0 0x110010 1 1 .RW 0 .plain
def BOOT_IRQ_EN.FAIL : Fld := fld0 0x110010 0 0 .RW 0 .plain
def BOOT_FL_CFG.MHZ : Fld := fld0 0x110014 15 8 .RW 0xC8 .plain true
def BOOT_FL_CFG.MODE : Fld := fld0 0x110014 0 0 .RW 0 .plain true
def BOOT_FL_ID.ID : Fld := fld0 0x110018 23 0 .RO 0 .plain
def BOOT_FL_SIZE.MIB : Fld := fld0 0x11001C 15 0 .RO 0 .plain
def BOOT_FL_ADDR.ADDR : Fld := fld0 0x110020 27 0 .RW 0 .plain
def BOOT_FL_CTL.GO : Fld := fld0 0x110024 31 31 .WO 0 .plain
def BOOT_FL_CTL.BUSY : Fld := fld0 0x110024 30 30 .RO 0 .plain
def BOOT_FL_CTL.OP : Fld := fld0 0x110024 29 28 .RW 0 .plain
def BOOT_FL_CTL.KIB : Fld := fld0 0x110024 25 24 .RW 0 .plain
def BOOT_FL_CTL.CODE : Fld := fld0 0x110024 23 16 .RO 0 .plain
def BOOT_FL_CTL.SLOT : Fld := fld0 0x110024 13 0 .RW 0 .plain
def BOOT_IMG_SEQ.VALUE : Fld := fld0 0x110028 31 0 .RO 0 .image
def BOOT_IMG_LEN.VALUE : Fld := fld0 0x11002C 31 0 .RO 0 .image
def BOOT_IMG_STAT.NREC : Fld := fld0 0x110030 26 16 .RO 0 .image
def BOOT_IMG_STAT.REG_APPLIED : Fld := fld0 0x110030 15 0 .RO 0 .image
def BOOT_LOAD_TIME.LOAD_MS : Fld := fld0 0x110034 31 16 .RO 0 .plain
def BOOT_LOAD_TIME.RUN_MS : Fld := fld0 0x110034 15 0 .RO 0 .plain
def BOOT_FUSE_STAT.CODE : Fld := fld0 0x110038 31 24 .RO 0 .fuse
def BOOT_FUSE_STAT.MARGINAL : Fld := fld0 0x110038 23 12 .RO 0 .fuse
def BOOT_FUSE_STAT.CORRECTED : Fld := fld0 0x110038 11 0 .RO 0 .fuse
def BOOT_FUSE_ADDR.QUAL : Fld := fld0 0x11003C 31 29 .RO 0 .plain
def BOOT_FUSE_ADDR.WORD : Fld := fld0 0x11003C 10 0 .RW 0 .plain
def BOOT_FUSE_DATA.DATA : Fld := fld0 0x110040 31 0 .FUS 0 .fuse
def BOOT_CAL_ADDR.CLAMPED : Fld := fld0 0x110044 31 31 .RO 0 .plain
def BOOT_CAL_ADDR.USER_VALID : Fld := fld0 0x110044 30 30 .RO 0 .plain
def BOOT_CAL_ADDR.FACT_VALID : Fld := fld0 0x110044 29 29 .RO 0 .plain
def BOOT_CAL_ADDR.CLAMP_CNT : Fld := fld0 0x110044 28 16 .RO 0 .plain
def BOOT_CAL_ADDR.ITEM : Fld := fld0 0x110044 14 0 .RW 0 .plain
def BOOT_CAL_FACT.FACT : Fld := fld0 0x110048 31 0 .FUS 0 .fuse
def BOOT_CAL_USER.USER : Fld := fld0 0x11004C 31 0 .AUT 0 .plate
def BOOT_CAL_EFF.EFF : Fld := fld0 0x110050 31 0 .RO 0 .plain
def BOOT_EVT_CODE.KIND : Fld := fld0 0x110054 31 28 .RO 0 .plain
def BOOT_EVT_CODE.REASON : Fld := fld0 0x110054 27 24 .RO 0 .plain
def BOOT_EVT_CODE.CODE : Fld := fld0 0x110054 23 16 .RO 0 .plain
def BOOT_EVT_CODE.SLOT : Fld := fld0 0x110054 15 15 .RO 0 .plain
def BOOT_EVT_CODE.INDEX : Fld := fld0 0x110054 14 0 .RO 0 .plain
def BOOT_EVT_STAMP_LO.STAMP : Fld := fld0 0x110058 31 0 .RO 0 .plain
def BOOT_EVT_STAMP_HI.STAMP : Fld := fld0 0x11005C 31 0 .RO 0 .plain
def BOOT_CNT_LOAD.COUNT : Fld := fld0 0x110060 31 0 .RO 0 .plain
def BOOT_CNT_FALLBACK.COUNT : Fld := fld0 0x110064 31 0 .RO 0 .plain
def BOOT_CNT_FL_READ.COUNT : Fld := fld0 0x110068 31 0 .RO 0 .plain
def BOOT_CNT_FL_PROG.COUNT : Fld := fld0 0x11006C 31 0 .RO 0 .plain
def BOOT_CNT_FL_ERASE.COUNT : Fld := fld0 0x110070 31 0 .RO 0 .plain
def BOOT_CNT_SWITCH.COUNT : Fld := fld0 0x110074 31 0 .RO 0 .plain
def BOOT_CNT_REC_BAD.COUNT : Fld := fld0 0x110078 31 0 .RO 0 .plain
def BOOT_CNT_RECOPY.COUNT : Fld := fld0 0x11007C 31 0 .RO 0 .plain
def BOOT_SLOT_STAT.REASON : Fld := fld1 0x110080 0x20 2 31 28 .RO 0 .plain
def BOOT_SLOT_STAT.CODE : Fld := fld1 0x110080 0x20 2 23 16 .RO 0 .plain
def BOOT_SLOT_STAT.STATE : Fld := fld1 0x110080 0x20 2 1 0 .RO 0 .plain
def BOOT_SLOT_SEQ.VALUE : Fld := fld1 0x110084 0x20 2 31 0 .RO 0 .plain
def BOOT_SLOT_LEN.VALUE : Fld := fld1 0x110088 0x20 2 31 0 .RO 0 .plain
def BOOT_SLOT_VER.PK_CLASS : Fld := fld1 0x11008C 0x20 2 9 8 .RO 0 .plain
def BOOT_SLOT_VER.DOME_VER : Fld := fld1 0x11008C 0x20 2 5 0 .RO 0 .plain
def BOOT_SLOT_DM.DM : Fld := fld2 0x110090 0x20 2 0x4 4 31 0 .RO 0 .plain
def BOOT_REC_ERR.REASON : Fld := fld1 0x110100 0x4 32 31 28 .RO 0 .plain
def BOOT_REC_ERR.RECORD : Fld := fld1 0x110100 0x4 32 25 16 .RO 0 .plain
def BOOT_REC_ERR.TYPE : Fld := fld1 0x110100 0x4 32 15 0 .RO 0 .plain
def BOOT_FUSE_GRP.SECURITY : Fld := fld1 0x110200 0x4 16 31 31 .RO 0 .text
def BOOT_FUSE_GRP.BOTH : Fld := fld1 0x110200 0x4 16 23 12 .RO 0 .fuse
def BOOT_FUSE_GRP.ONE : Fld := fld1 0x110200 0x4 16 11 0 .RO 0 .fuse
def BOOT_PROFILE.REG : Reg := regOf [BOOT_PROFILE.PROFILE]
def BOOT_CTL.REG : Reg := regOf [BOOT_CTL.SWITCH, BOOT_CTL.SWITCH_SLOT, BOOT_CTL.RETRY, BOOT_CTL.CLR_CNT]
def BOOT_STAT.REG : Reg := regOf [BOOT_STAT.PHASE, BOOT_STAT.POLICY, BOOT_STAT.SLOT_RUN, BOOT_STAT.FAIL_CODE, BOOT_STAT.LOW_RATE, BOOT_STAT.FLASH_SMALL, BOOT_STAT.IMAGE_OK, BOOT_STAT.FLASH_OK]
def BOOT_IRQ_STAT.REG : Reg := regOf [BOOT_IRQ_STAT.CAL_CLAMP, BOOT_IRQ_STAT.FUSE, BOOT_IRQ_STAT.FL_DONE, BOOT_IRQ_STAT.SWITCH_FAIL, BOOT_IRQ_STAT.SWITCH_DONE, BOOT_IRQ_STAT.REC_BAD, BOOT_IRQ_STAT.FALLBACK, BOOT_IRQ_STAT.FAIL]
def BOOT_IRQ_EN.REG : Reg := regOf [BOOT_IRQ_EN.CAL_CLAMP, BOOT_IRQ_EN.FUSE, BOOT_IRQ_EN.FL_DONE, BOOT_IRQ_EN.SWITCH_FAIL, BOOT_IRQ_EN.SWITCH_DONE, BOOT_IRQ_EN.REC_BAD, BOOT_IRQ_EN.FALLBACK, BOOT_IRQ_EN.FAIL]
def BOOT_FL_CFG.REG : Reg := regOf [BOOT_FL_CFG.MHZ, BOOT_FL_CFG.MODE]
def BOOT_FL_ID.REG : Reg := regOf [BOOT_FL_ID.ID]
def BOOT_FL_SIZE.REG : Reg := regOf [BOOT_FL_SIZE.MIB]
def BOOT_FL_ADDR.REG : Reg := regOf [BOOT_FL_ADDR.ADDR]
def BOOT_FL_CTL.REG : Reg := regOf [BOOT_FL_CTL.GO, BOOT_FL_CTL.BUSY, BOOT_FL_CTL.OP, BOOT_FL_CTL.KIB, BOOT_FL_CTL.CODE, BOOT_FL_CTL.SLOT]
def BOOT_IMG_SEQ.REG : Reg := regOf [BOOT_IMG_SEQ.VALUE]
def BOOT_IMG_LEN.REG : Reg := regOf [BOOT_IMG_LEN.VALUE]
def BOOT_IMG_STAT.REG : Reg := regOf [BOOT_IMG_STAT.NREC, BOOT_IMG_STAT.REG_APPLIED]
def BOOT_LOAD_TIME.REG : Reg := regOf [BOOT_LOAD_TIME.LOAD_MS, BOOT_LOAD_TIME.RUN_MS]
def BOOT_FUSE_STAT.REG : Reg := regOf [BOOT_FUSE_STAT.CODE, BOOT_FUSE_STAT.MARGINAL, BOOT_FUSE_STAT.CORRECTED]
def BOOT_FUSE_ADDR.REG : Reg := regOf [BOOT_FUSE_ADDR.QUAL, BOOT_FUSE_ADDR.WORD]
def BOOT_FUSE_DATA.REG : Reg := regOf [BOOT_FUSE_DATA.DATA]
def BOOT_CAL_ADDR.REG : Reg := regOf [BOOT_CAL_ADDR.CLAMPED, BOOT_CAL_ADDR.USER_VALID, BOOT_CAL_ADDR.FACT_VALID, BOOT_CAL_ADDR.CLAMP_CNT, BOOT_CAL_ADDR.ITEM]
def BOOT_CAL_FACT.REG : Reg := regOf [BOOT_CAL_FACT.FACT]
def BOOT_CAL_USER.REG : Reg := regOf [BOOT_CAL_USER.USER]
def BOOT_CAL_EFF.REG : Reg := regOf [BOOT_CAL_EFF.EFF]
def BOOT_EVT_CODE.REG : Reg := regOf [BOOT_EVT_CODE.KIND, BOOT_EVT_CODE.REASON, BOOT_EVT_CODE.CODE, BOOT_EVT_CODE.SLOT, BOOT_EVT_CODE.INDEX]
def BOOT_EVT_STAMP_LO.REG : Reg := regOf [BOOT_EVT_STAMP_LO.STAMP]
def BOOT_EVT_STAMP_HI.REG : Reg := regOf [BOOT_EVT_STAMP_HI.STAMP]
def BOOT_CNT_LOAD.REG : Reg := regOf [BOOT_CNT_LOAD.COUNT]
def BOOT_CNT_FALLBACK.REG : Reg := regOf [BOOT_CNT_FALLBACK.COUNT]
def BOOT_CNT_FL_READ.REG : Reg := regOf [BOOT_CNT_FL_READ.COUNT]
def BOOT_CNT_FL_PROG.REG : Reg := regOf [BOOT_CNT_FL_PROG.COUNT]
def BOOT_CNT_FL_ERASE.REG : Reg := regOf [BOOT_CNT_FL_ERASE.COUNT]
def BOOT_CNT_SWITCH.REG : Reg := regOf [BOOT_CNT_SWITCH.COUNT]
def BOOT_CNT_REC_BAD.REG : Reg := regOf [BOOT_CNT_REC_BAD.COUNT]
def BOOT_CNT_RECOPY.REG : Reg := regOf [BOOT_CNT_RECOPY.COUNT]
def BOOT_SLOT_STAT.REG : Reg := regOf [BOOT_SLOT_STAT.REASON, BOOT_SLOT_STAT.CODE, BOOT_SLOT_STAT.STATE]
def BOOT_SLOT_SEQ.REG : Reg := regOf [BOOT_SLOT_SEQ.VALUE]
def BOOT_SLOT_LEN.REG : Reg := regOf [BOOT_SLOT_LEN.VALUE]
def BOOT_SLOT_VER.REG : Reg := regOf [BOOT_SLOT_VER.PK_CLASS, BOOT_SLOT_VER.DOME_VER]
def BOOT_SLOT_DM.REG : Reg := regOf [BOOT_SLOT_DM.DM]
def BOOT_REC_ERR.REG : Reg := regOf [BOOT_REC_ERR.REASON, BOOT_REC_ERR.RECORD, BOOT_REC_ERR.TYPE]
def BOOT_FUSE_GRP.REG : Reg := regOf [BOOT_FUSE_GRP.SECURITY, BOOT_FUSE_GRP.BOTH, BOOT_FUSE_GRP.ONE]

def regsBoot0 : List Reg := [
  BOOT_PROFILE.REG, BOOT_CTL.REG, BOOT_STAT.REG, BOOT_IRQ_STAT.REG, BOOT_IRQ_EN.REG, BOOT_FL_CFG.REG, BOOT_FL_ID.REG, BOOT_FL_SIZE.REG, BOOT_FL_ADDR.REG, BOOT_FL_CTL.REG, BOOT_IMG_SEQ.REG, BOOT_IMG_LEN.REG]

def regsBoot1 : List Reg := [
  BOOT_IMG_STAT.REG, BOOT_LOAD_TIME.REG, BOOT_FUSE_STAT.REG, BOOT_FUSE_ADDR.REG, BOOT_FUSE_DATA.REG, BOOT_CAL_ADDR.REG, BOOT_CAL_FACT.REG, BOOT_CAL_USER.REG, BOOT_CAL_EFF.REG, BOOT_EVT_CODE.REG, BOOT_EVT_STAMP_LO.REG, BOOT_EVT_STAMP_HI.REG]

def regsBoot2 : List Reg := [
  BOOT_CNT_LOAD.REG, BOOT_CNT_FALLBACK.REG, BOOT_CNT_FL_READ.REG, BOOT_CNT_FL_PROG.REG, BOOT_CNT_FL_ERASE.REG, BOOT_CNT_SWITCH.REG, BOOT_CNT_REC_BAD.REG, BOOT_CNT_RECOPY.REG, BOOT_SLOT_STAT.REG, BOOT_SLOT_SEQ.REG, BOOT_SLOT_LEN.REG, BOOT_SLOT_VER.REG]

def regsBoot3 : List Reg := [
  BOOT_SLOT_DM.REG, BOOT_REC_ERR.REG, BOOT_FUSE_GRP.REG]

/-- The registers of block BOOT. -/
def regsBoot : List Reg := regsBoot0 ++ regsBoot1 ++ regsBoot2 ++ regsBoot3

/-! ## PWR, 19_power.md -/

def PWR_PROFILE.PROFILE : Fld := fld0 0x120000 3 0 .RW 0 .image
def PWR_CTL.OFF : Fld := fld0 0x120004 2 2 .WO 0 .plain
def PWR_CTL.CLR_CNT : Fld := fld0 0x120004 1 1 .WO 0 .plain
def PWR_CTL.LOCK : Fld := fld0 0x120004 0 0 .W1S 0 .plain
def PWR_STAT.BLOCK : Fld := fld0 0x120008 30 24 .RO 0 .plain
def PWR_STAT.FALLBACK : Fld := fld0 0x120008 7 7 .RO 0 .plain
def PWR_STAT.HALF : Fld := fld0 0x120008 6 6 .RO 1 .plain
def PWR_STAT.MOVING : Fld := fld0 0x120008 5 5 .RO 0 .plain
def PWR_STAT.STATE : Fld := fld0 0x120008 2 0 .RO 0 .plain
def PWR_IRQ_STAT.REVERSE : Fld := fld0 0x12000C 4 4 .W1C 0 .plain
def PWR_IRQ_STAT.WAKE_PIN : Fld := fld0 0x12000C 3 3 .W1C 0 .plain
def PWR_IRQ_STAT.WAKE : Fld := fld0 0x12000C 2 2 .W1C 0 .plain
def PWR_IRQ_STAT.AVS_FAIL : Fld := fld0 0x12000C 1 1 .W1C 0 .plain
def PWR_IRQ_STAT.FALLBACK : Fld := fld0 0x12000C 0 0 .W1C 0 .plain
def PWR_IRQ_EN.REVERSE : Fld := fld0 0x120010 4 4 .RW 0 .plain
def PWR_IRQ_EN.WAKE_PIN : Fld := fld0 0x120010 3 3 .RW 0 .plain
def PWR_IRQ_EN.WAKE : Fld := fld0 0x120010 2 2 .RW 0 .plain
def PWR_IRQ_EN.AVS_FAIL : Fld := fld0 0x120010 1 1 .RW 0 .plain
def PWR_IRQ_EN.FALLBACK : Fld := fld0 0x120010 0 0 .RW 0 .plain
def PWR_IDLE_CFG.S3_EN : Fld := fld0 0x120014 31 31 .RW 0 .plain true
def PWR_IDLE_CFG.S2_EN : Fld := fld0 0x120014 30 30 .RW 1 .plain true
def PWR_IDLE_CFG.S3_IDLE : Fld := fld0 0x120014 29 16 .RW 0xA .plain true
def PWR_IDLE_CFG.S2_IDLE : Fld := fld0 0x120014 15 0 .RW 0x32 .plain true
def PWR_S2_CFG.S2_MIN : Fld := fld0 0x120018 31 16 .RW 0xA .plain true
def PWR_S2_CFG.WAKE_LEAD : Fld := fld0 0x120018 15 0 .RW 0x1E .plain true
def PWR_AVS_TGT.TGT_MV : Fld := fld0 0x12001C 9 0 .RW 0 .image
def PWR_AVS_BAND.BAND : Fld := fld0 0x120020 31 0 .RW 0 .image
def PWR_FREQ.VMIN_FULL : Fld := fld0 0x120024 25 16 .RWL 0 .image
def PWR_FREQ.FORCE_HALF : Fld := fld0 0x120024 1 1 .RW 0 .plain
def PWR_FREQ.HALF : Fld := fld0 0x120024 0 0 .RO 1 .plain
def PWR_PERF.MODE : Fld := fld0 0x120028 16 16 .RW 0 .image
def PWR_PERF.BAND_NOW : Fld := fld0 0x120028 1 0 .RO 0 .plain
def PWR_AVS_CFG.MHZ : Fld := fld0 0x12002C 31 24 .RWL 0x14 .plain
def PWR_AVS_CFG.ACK_US : Fld := fld0 0x12002C 23 16 .RW 0x32 .plain
def PWR_AVS_CFG.CONFIRM : Fld := fld0 0x12002C 15 8 .RW 0x32 .plain
def PWR_AVS_CFG.RAIL : Fld := fld0 0x12002C 3 0 .RWL 0 .image
def PWR_AVS_STAT.STATE : Fld := fld0 0x120030 31 28 .RO 0 .plain
def PWR_AVS_STAT.FAILS : Fld := fld0 0x120030 27 24 .RO 0 .plain
def PWR_AVS_STAT.STATUS : Fld := fld0 0x120030 23 16 .RO 0 .plain
def PWR_AVS_STAT.PENDING_MV : Fld := fld0 0x120030 9 0 .RO 0 .plain
def PWR_VCORE.TARGET_MV : Fld := fld0 0x120034 25 16 .RO 0 .plain
def PWR_VCORE.MV : Fld := fld0 0x120034 9 0 .RO 0 .plain
def PWR_VMON.TARGET_MV : Fld := fld0 0x120038 25 16 .RO 0 .plain
def PWR_VMON.MV : Fld := fld0 0x120038 9 0 .RO 0 .plain
def PWR_EVT_CODE.KIND : Fld := fld0 0x12003C 31 28 .RO 0 .plain
def PWR_EVT_CODE.DOMAIN : Fld := fld0 0x12003C 27 24 .RO 0 .plain
def PWR_EVT_STAMP_LO.STAMP : Fld := fld0 0x120040 31 0 .RO 0 .plain
def PWR_EVT_STAMP_HI.STAMP : Fld := fld0 0x120044 31 0 .RO 0 .plain
def PWR_RES_S0_LO.MS : Fld := fld0 0x120048 31 0 .RO 0 .plain
def PWR_RES_S0_HI.MS : Fld := fld0 0x12004C 31 0 .RO 0 .plain
def PWR_RES_S1_LO.MS : Fld := fld0 0x120050 31 0 .RO 0 .plain
def PWR_RES_S1_HI.MS : Fld := fld0 0x120054 31 0 .RO 0 .plain
def PWR_RES_S2_LO.MS : Fld := fld0 0x120058 31 0 .RO 0 .plain
def PWR_RES_S2_HI.MS : Fld := fld0 0x12005C 31 0 .RO 0 .plain
def PWR_RES_S3_LO.MS : Fld := fld0 0x120060 31 0 .RO 0 .plain
def PWR_RES_S3_HI.MS : Fld := fld0 0x120064 31 0 .RO 0 .plain
def PWR_CNT_WAKE.COUNT : Fld := fld0 0x120068 31 0 .RO 0 .plain
def PWR_CNT_AVS_REQ.COUNT : Fld := fld0 0x12006C 31 0 .RO 0 .plain
def PWR_CNT_AVS_SUPER.COUNT : Fld := fld0 0x120070 31 0 .RO 0 .plain
def PWR_CNT_AVS_FAIL.COUNT : Fld := fld0 0x120074 31 0 .RO 0 .plain
def PWR_CNT_REVERSE.COUNT : Fld := fld0 0x120078 31 0 .RO 0 .plain
def PWR_WAKE_LAST.SOURCE : Fld := fld0 0x12007C 31 28 .RO 0 .plain
def PWR_WAKE_LAST.PIN : Fld := fld0 0x12007C 10 8 .RO 0 .plain
def PWR_DOM_CTL.KEEP : Fld := fld1 0x120100 0x20 9 1 1 .RW 0 .image
def PWR_DOM_CTL.OFF : Fld := fld1 0x120100 0x20 9 0 0 .RW 0 .plain
def PWR_DOM_STAT.STEP : Fld := fld1 0x120104 0x20 9 7 5 .RO 0 .plain
def PWR_DOM_STAT.DOWN : Fld := fld1 0x120104 0x20 9 4 4 .RO 0 .plain
def PWR_DOM_STAT.TARGET : Fld := fld1 0x120104 0x20 9 3 2 .RO 0 .plain
def PWR_DOM_STAT.STATE : Fld := fld1 0x120104 0x20 9 1 0 .RO 0 .plain
def PWR_DOM_IDLE.DOZE_US : Fld := fld1 0x120108 0x20 9 15 0 .RW 0x64 .plain true
def PWR_DOM_RES_RUN.COUNT : Fld := fld1 0x12010C 0x20 9 31 0 .RO 0 .plain
def PWR_DOM_RES_DOZE.COUNT : Fld := fld1 0x120110 0x20 9 31 0 .RO 0 .plain
def PWR_DOM_RES_OFF.COUNT : Fld := fld1 0x120114 0x20 9 31 0 .RO 0 .plain
def PWR_DOM_CNT_UP.COUNT : Fld := fld1 0x120118 0x20 9 31 0 .RO 0 .plain
def PWR_DOM_CNT_REV.COUNT : Fld := fld1 0x12011C 0x20 9 31 0 .RO 0 .plain
def PWR_WAKE_CFG.EN : Fld := fld1 0x120300 0x4 8 31 31 .RW 0 .image
def PWR_WAKE_CFG.POL : Fld := fld1 0x120300 0x4 8 30 30 .RW 0 .image
def PWR_WAKE_CFG.MODE : Fld := fld1 0x120300 0x4 8 29 29 .RW 0 .image
def PWR_WAKE_CFG.LEVEL : Fld := fld1 0x120300 0x4 8 28 28 .RO 0 .plain
def PWR_WAKE_CFG.FIRED : Fld := fld1 0x120300 0x4 8 27 27 .W1C 0 .plain
def PWR_WAKE_CFG.DEB : Fld := fld1 0x120300 0x4 8 23 16 .RW 0 .image
def PWR_WAKE_CFG.COUNT : Fld := fld1 0x120300 0x4 8 15 0 .RO 0 .plain
def PWR_PROFILE.REG : Reg := regOf [PWR_PROFILE.PROFILE]
def PWR_CTL.REG : Reg := regOf [PWR_CTL.OFF, PWR_CTL.CLR_CNT, PWR_CTL.LOCK]
def PWR_STAT.REG : Reg := regOf [PWR_STAT.BLOCK, PWR_STAT.FALLBACK, PWR_STAT.HALF, PWR_STAT.MOVING, PWR_STAT.STATE]
def PWR_IRQ_STAT.REG : Reg := regOf [PWR_IRQ_STAT.REVERSE, PWR_IRQ_STAT.WAKE_PIN, PWR_IRQ_STAT.WAKE, PWR_IRQ_STAT.AVS_FAIL, PWR_IRQ_STAT.FALLBACK]
def PWR_IRQ_EN.REG : Reg := regOf [PWR_IRQ_EN.REVERSE, PWR_IRQ_EN.WAKE_PIN, PWR_IRQ_EN.WAKE, PWR_IRQ_EN.AVS_FAIL, PWR_IRQ_EN.FALLBACK]
def PWR_IDLE_CFG.REG : Reg := regOf [PWR_IDLE_CFG.S3_EN, PWR_IDLE_CFG.S2_EN, PWR_IDLE_CFG.S3_IDLE, PWR_IDLE_CFG.S2_IDLE]
def PWR_S2_CFG.REG : Reg := regOf [PWR_S2_CFG.S2_MIN, PWR_S2_CFG.WAKE_LEAD]
def PWR_AVS_TGT.REG : Reg := regOf [PWR_AVS_TGT.TGT_MV]
def PWR_AVS_BAND.REG : Reg := regOf [PWR_AVS_BAND.BAND]
def PWR_FREQ.REG : Reg := regOf [PWR_FREQ.VMIN_FULL, PWR_FREQ.FORCE_HALF, PWR_FREQ.HALF]
def PWR_PERF.REG : Reg := regOf [PWR_PERF.MODE, PWR_PERF.BAND_NOW]
def PWR_AVS_CFG.REG : Reg := regOf [PWR_AVS_CFG.MHZ, PWR_AVS_CFG.ACK_US, PWR_AVS_CFG.CONFIRM, PWR_AVS_CFG.RAIL]
def PWR_AVS_STAT.REG : Reg := regOf [PWR_AVS_STAT.STATE, PWR_AVS_STAT.FAILS, PWR_AVS_STAT.STATUS, PWR_AVS_STAT.PENDING_MV]
def PWR_VCORE.REG : Reg := regOf [PWR_VCORE.TARGET_MV, PWR_VCORE.MV]
def PWR_VMON.REG : Reg := regOf [PWR_VMON.TARGET_MV, PWR_VMON.MV]
def PWR_EVT_CODE.REG : Reg := regOf [PWR_EVT_CODE.KIND, PWR_EVT_CODE.DOMAIN]
def PWR_EVT_STAMP_LO.REG : Reg := regOf [PWR_EVT_STAMP_LO.STAMP]
def PWR_EVT_STAMP_HI.REG : Reg := regOf [PWR_EVT_STAMP_HI.STAMP]
def PWR_RES_S0_LO.REG : Reg := regOf [PWR_RES_S0_LO.MS]
def PWR_RES_S0_HI.REG : Reg := regOf [PWR_RES_S0_HI.MS]
def PWR_RES_S1_LO.REG : Reg := regOf [PWR_RES_S1_LO.MS]
def PWR_RES_S1_HI.REG : Reg := regOf [PWR_RES_S1_HI.MS]
def PWR_RES_S2_LO.REG : Reg := regOf [PWR_RES_S2_LO.MS]
def PWR_RES_S2_HI.REG : Reg := regOf [PWR_RES_S2_HI.MS]
def PWR_RES_S3_LO.REG : Reg := regOf [PWR_RES_S3_LO.MS]
def PWR_RES_S3_HI.REG : Reg := regOf [PWR_RES_S3_HI.MS]
def PWR_CNT_WAKE.REG : Reg := regOf [PWR_CNT_WAKE.COUNT]
def PWR_CNT_AVS_REQ.REG : Reg := regOf [PWR_CNT_AVS_REQ.COUNT]
def PWR_CNT_AVS_SUPER.REG : Reg := regOf [PWR_CNT_AVS_SUPER.COUNT]
def PWR_CNT_AVS_FAIL.REG : Reg := regOf [PWR_CNT_AVS_FAIL.COUNT]
def PWR_CNT_REVERSE.REG : Reg := regOf [PWR_CNT_REVERSE.COUNT]
def PWR_WAKE_LAST.REG : Reg := regOf [PWR_WAKE_LAST.SOURCE, PWR_WAKE_LAST.PIN]
def PWR_DOM_CTL.REG : Reg := regOf [PWR_DOM_CTL.KEEP, PWR_DOM_CTL.OFF]
def PWR_DOM_STAT.REG : Reg := regOf [PWR_DOM_STAT.STEP, PWR_DOM_STAT.DOWN, PWR_DOM_STAT.TARGET, PWR_DOM_STAT.STATE]
def PWR_DOM_IDLE.REG : Reg := regOf [PWR_DOM_IDLE.DOZE_US]
def PWR_DOM_RES_RUN.REG : Reg := regOf [PWR_DOM_RES_RUN.COUNT]
def PWR_DOM_RES_DOZE.REG : Reg := regOf [PWR_DOM_RES_DOZE.COUNT]
def PWR_DOM_RES_OFF.REG : Reg := regOf [PWR_DOM_RES_OFF.COUNT]
def PWR_DOM_CNT_UP.REG : Reg := regOf [PWR_DOM_CNT_UP.COUNT]
def PWR_DOM_CNT_REV.REG : Reg := regOf [PWR_DOM_CNT_REV.COUNT]
def PWR_WAKE_CFG.REG : Reg := regOf [PWR_WAKE_CFG.EN, PWR_WAKE_CFG.POL, PWR_WAKE_CFG.MODE, PWR_WAKE_CFG.LEVEL, PWR_WAKE_CFG.FIRED, PWR_WAKE_CFG.DEB, PWR_WAKE_CFG.COUNT]

def regsPwr0 : List Reg := [
  PWR_PROFILE.REG, PWR_CTL.REG, PWR_STAT.REG, PWR_IRQ_STAT.REG, PWR_IRQ_EN.REG, PWR_IDLE_CFG.REG, PWR_S2_CFG.REG, PWR_AVS_TGT.REG, PWR_AVS_BAND.REG, PWR_FREQ.REG, PWR_PERF.REG, PWR_AVS_CFG.REG]

def regsPwr1 : List Reg := [
  PWR_AVS_STAT.REG, PWR_VCORE.REG, PWR_VMON.REG, PWR_EVT_CODE.REG, PWR_EVT_STAMP_LO.REG, PWR_EVT_STAMP_HI.REG, PWR_RES_S0_LO.REG, PWR_RES_S0_HI.REG, PWR_RES_S1_LO.REG, PWR_RES_S1_HI.REG, PWR_RES_S2_LO.REG, PWR_RES_S2_HI.REG]

def regsPwr2 : List Reg := [
  PWR_RES_S3_LO.REG, PWR_RES_S3_HI.REG, PWR_CNT_WAKE.REG, PWR_CNT_AVS_REQ.REG, PWR_CNT_AVS_SUPER.REG, PWR_CNT_AVS_FAIL.REG, PWR_CNT_REVERSE.REG, PWR_WAKE_LAST.REG, PWR_DOM_CTL.REG, PWR_DOM_STAT.REG, PWR_DOM_IDLE.REG, PWR_DOM_RES_RUN.REG]

def regsPwr3 : List Reg := [
  PWR_DOM_RES_DOZE.REG, PWR_DOM_RES_OFF.REG, PWR_DOM_CNT_UP.REG, PWR_DOM_CNT_REV.REG, PWR_WAKE_CFG.REG]

/-- The registers of block PWR. -/
def regsPwr : List Reg := regsPwr0 ++ regsPwr1 ++ regsPwr2 ++ regsPwr3

/-! ## HIF, 20_host_window_views.md -/

def HIF_PROFILE.PROFILE : Fld := fld0 0x130000 3 0 .RW 0 .image
def HIF_CTL.EVT_FLUSH : Fld := fld0 0x130004 2 2 .WO 0 .plain
def HIF_CTL.CLR_CNT : Fld := fld0 0x130004 1 1 .WO 0 .plain
def HIF_CTL.LOCK : Fld := fld0 0x130004 0 0 .W1S 0 .plain
def HIF_STAT.LINK_UP : Fld := fld0 0x130008 31 31 .RO 0 .plain
def HIF_STAT.FLIT : Fld := fld0 0x130008 30 30 .RO 0 .plain
def HIF_STAT.LINK_SLOW : Fld := fld0 0x130008 29 29 .RO 0 .plain
def HIF_STAT.RATE : Fld := fld0 0x130008 28 26 .RO 0 .plain
def HIF_STAT.WIDTH : Fld := fld0 0x130008 25 23 .RO 0 .plain
def HIF_STAT.DSTATE : Fld := fld0 0x130008 22 21 .RO 0 .plain
def HIF_STAT.RING_CONFLICT : Fld := fld0 0x130008 20 20 .RO 0 .plain
def HIF_IRQ_STAT.SNAP_SKIP : Fld := fld0 0x13000C 6 6 .W1C 0 .plain
def HIF_IRQ_STAT.VIEW_VIOL : Fld := fld0 0x13000C 5 5 .W1C 0 .plain
def HIF_IRQ_STAT.POISON : Fld := fld0 0x13000C 4 4 .W1C 0 .plain
def HIF_IRQ_STAT.WIN_VIOL : Fld := fld0 0x13000C 3 3 .W1C 0 .plain
def HIF_IRQ_STAT.EVT_LOST : Fld := fld0 0x13000C 2 2 .W1C 0 .plain
def HIF_IRQ_STAT.RING_CONFLICT : Fld := fld0 0x13000C 1 1 .W1C 0 .plain
def HIF_IRQ_STAT.HOST_RESET : Fld := fld0 0x13000C 0 0 .W1C 0 .plain
def HIF_IRQ_EN.SNAP_SKIP : Fld := fld0 0x130010 6 6 .RW 0 .plain
def HIF_IRQ_EN.VIEW_VIOL : Fld := fld0 0x130010 5 5 .RW 0 .plain
def HIF_IRQ_EN.POISON : Fld := fld0 0x130010 4 4 .RW 0 .plain
def HIF_IRQ_EN.WIN_VIOL : Fld := fld0 0x130010 3 3 .RW 0 .plain
def HIF_IRQ_EN.EVT_LOST : Fld := fld0 0x130010 2 2 .RW 0 .plain
def HIF_IRQ_EN.RING_CONFLICT : Fld := fld0 0x130010 1 1 .RW 0 .plain
def HIF_IRQ_EN.HOST_RESET : Fld := fld0 0x130010 0 0 .RW 0 .plain
def HIF_ID.DEVICE : Fld := fld0 0x130014 31 16 .FUS 0 .fuse
def HIF_ID.VENDOR : Fld := fld0 0x130014 15 0 .FUS 0 .fuse
def HIF_SUBID.SUBSYS : Fld := fld0 0x130018 31 16 .FUS 0 .fuse
def HIF_SUBID.SUBVEN : Fld := fld0 0x130018 15 0 .FUS 0 .fuse
def HIF_FLAG_CMD.OP : Fld := fld0 0x13001C 31 30 .WO 0 .plain
def HIF_FLAG_CMD.N_M1 : Fld := fld0 0x13001C 29 16 .WO 0 .plain
def HIF_FLAG_CMD.SLOT : Fld := fld0 0x13001C 13 0 .WO 0 .plain
def HIF_FLAG_RESULT.CODE : Fld := fld0 0x130020 31 24 .RO 0 .plain
def HIF_FLAG_RESULT.BUSY : Fld := fld0 0x130020 23 23 .RO 0 .plain
def HIF_FLAG_RESULT.SLOT : Fld := fld0 0x130020 13 0 .RO 0 .plain
def HIF_FLAG_ADDR.WORD : Fld := fld0 0x130024 9 0 .RW 0 .plain
def HIF_FLAG_DATA.FLAGS : Fld := fld0 0x130028 31 0 .RO 0 .plain
def HIF_FLAG_COUNT.HOST : Fld := fld0 0x13002C 30 16 .RO 0 .plain
def HIF_FLAG_COUNT.DEVICE : Fld := fld0 0x13002C 14 0 .RO 0 .plain
def HIF_EVT_RING.COUNT : Fld := fld0 0x130030 28 16 .RWL 0 .image
def HIF_EVT_RING.BASE : Fld := fld0 0x130030 13 0 .RWL 0 .image
def HIF_EVT_CFG.FLUSH_US : Fld := fld0 0x130034 31 16 .RW 0x64 .plain true
def HIF_EVT_CFG.CLASS_EN : Fld := fld0 0x130034 5 0 .RW 0x1F .plain
def HIF_EVT_STAT.QUEUED : Fld := fld0 0x130038 26 16 .RO 0 .plain
def HIF_EVT_STAT.NEXT : Fld := fld0 0x130038 13 0 .RO 0 .plain
def HIF_EVT_SEQ.EVSEQ : Fld := fld0 0x13003C 31 0 .RO 0 .plain
def HIF_STATS_RING.COUNT : Fld := fld0 0x130040 28 16 .RWL 0 .image
def HIF_STATS_RING.BASE : Fld := fld0 0x130040 13 0 .RWL 0 .image
def HIF_STATS_CFG.GO : Fld := fld0 0x130044 31 31 .WO 0 .plain
def HIF_STATS_CFG.BUSY : Fld := fld0 0x130044 30 30 .RO 0 .plain
def HIF_STATS_CFG.PERIOD_S : Fld := fld0 0x130044 15 0 .RW 0 .image
def HIF_STATS_MASK.UNITS : Fld := fld0 0x130048 23 0 .RW 0 .image
def HIF_CNT_LINK_ERR.CE : Fld := fld0 0x13004C 31 16 .RO 0 .plain
def HIF_CNT_LINK_ERR.UE : Fld := fld0 0x13004C 15 0 .RO 0 .plain
def HIF_CNT_EVT.COUNT : Fld := fld0 0x130050 31 0 .RO 0 .plain
def HIF_CNT_EVT_LOST.COUNT : Fld := fld0 0x130054 31 0 .RO 0 .plain
def HIF_CNT_SLOT_TX.COUNT : Fld := fld0 0x130058 31 0 .RO 0 .plain
def HIF_CNT_WIN_VIOL.COUNT : Fld := fld0 0x13005C 31 0 .RO 0 .plain
def HIF_CNT_POISON.COUNT : Fld := fld0 0x130060 31 0 .RO 0 .plain
def HIF_CNT_MSI.COUNT : Fld := fld0 0x130064 31 0 .RO 0 .plain
def HIF_CNT_LINK_DOWN.COUNT : Fld := fld0 0x130068 31 0 .RO 0 .plain
def HIF_CNT_FLR.COUNT : Fld := fld0 0x13006C 31 0 .RO 0 .plain
def HIF_EVT_CODE.KIND : Fld := fld0 0x130070 31 28 .RO 0 .plain
def HIF_EVT_CODE.SLOT : Fld := fld0 0x130070 13 0 .RO 0 .plain
def HIF_EVT_STAMP_LO.STAMP : Fld := fld0 0x130074 31 0 .RO 0 .plain
def HIF_EVT_STAMP_HI.STAMP : Fld := fld0 0x130078 31 0 .RO 0 .plain
def HIF_WIN_LAST_VIOL.OFFSET : Fld := fld0 0x13007C 25 0 .RO 0 .plain
def HIF_VIEW_GRANT.OPEN : Fld := fld1 0x130080 0x10 5 31 31 .RO 0 .plain
def HIF_VIEW_GRANT.BLOCKS : Fld := fld1 0x130080 0x10 5 23 0 .RO 0 .plain
def HIF_VIEW_LEFT.LEFT_S : Fld := fld1 0x130084 0x10 5 11 0 .RO 0 .plain
def HIF_VIEW_VIOL.COUNT : Fld := fld1 0x130088 0x10 5 31 0 .RO 0 .plain
def HIF_VIEW_LAST.WRITE : Fld := fld1 0x13008C 0x10 5 31 31 .RO 0 .plain
def HIF_VIEW_LAST.PRIV : Fld := fld1 0x13008C 0x10 5 30 30 .RO 0 .plain
def HIF_VIEW_LAST.REASON : Fld := fld1 0x13008C 0x10 5 25 24 .RO 0 .plain
def HIF_VIEW_LAST.OFFSET : Fld := fld1 0x13008C 0x10 5 23 0 .RO 0 .plain
def HIF_VEC_CFG.HOLDOFF_US : Fld := fld1 0x130100 0x8 16 31 16 .RW 0x14 .plain true
def HIF_VEC_CFG.GAP_US : Fld := fld1 0x130100 0x8 16 15 0 .RW 0x32 .plain true
def HIF_VEC_CNT.SENT : Fld := fld1 0x130104 0x8 16 31 16 .RO 0 .plain
def HIF_VEC_CNT.PBA : Fld := fld1 0x130104 0x8 16 15 0 .RO 0 .plain
def HIF_VEC_MAP.VEC : Fld := fld1 0x130200 0x4 3 31 0 .RW 0x11111111 .plain
def HIF_UNIT_IRQ.UNIT : Fld := fld0 0x13020C 23 0 .RO 0 .plain
def HIF_SRC_VEC.EVT_VEC : Fld := fld0 0x130210 3 0 .RW 0 .plain
def HIF_LINK_CFG.MAX_WIDTH : Fld := fld0 0x130214 6 4 .RWL 0 .image
def HIF_LINK_CFG.MAX_RATE : Fld := fld0 0x130214 2 0 .RWL 0 .image
def HIF_CNT_CLASS.COUNT : Fld := fld1 0x130218 0x4 6 31 0 .RO 0 .plain
def HIF_PROFILE.REG : Reg := regOf [HIF_PROFILE.PROFILE]
def HIF_CTL.REG : Reg := regOf [HIF_CTL.EVT_FLUSH, HIF_CTL.CLR_CNT, HIF_CTL.LOCK]
def HIF_STAT.REG : Reg := regOf [HIF_STAT.LINK_UP, HIF_STAT.FLIT, HIF_STAT.LINK_SLOW, HIF_STAT.RATE, HIF_STAT.WIDTH, HIF_STAT.DSTATE, HIF_STAT.RING_CONFLICT]
def HIF_IRQ_STAT.REG : Reg := regOf [HIF_IRQ_STAT.SNAP_SKIP, HIF_IRQ_STAT.VIEW_VIOL, HIF_IRQ_STAT.POISON, HIF_IRQ_STAT.WIN_VIOL, HIF_IRQ_STAT.EVT_LOST, HIF_IRQ_STAT.RING_CONFLICT, HIF_IRQ_STAT.HOST_RESET]
def HIF_IRQ_EN.REG : Reg := regOf [HIF_IRQ_EN.SNAP_SKIP, HIF_IRQ_EN.VIEW_VIOL, HIF_IRQ_EN.POISON, HIF_IRQ_EN.WIN_VIOL, HIF_IRQ_EN.EVT_LOST, HIF_IRQ_EN.RING_CONFLICT, HIF_IRQ_EN.HOST_RESET]
def HIF_ID.REG : Reg := regOf [HIF_ID.DEVICE, HIF_ID.VENDOR]
def HIF_SUBID.REG : Reg := regOf [HIF_SUBID.SUBSYS, HIF_SUBID.SUBVEN]
def HIF_FLAG_CMD.REG : Reg := regOf [HIF_FLAG_CMD.OP, HIF_FLAG_CMD.N_M1, HIF_FLAG_CMD.SLOT]
def HIF_FLAG_RESULT.REG : Reg := regOf [HIF_FLAG_RESULT.CODE, HIF_FLAG_RESULT.BUSY, HIF_FLAG_RESULT.SLOT]
def HIF_FLAG_ADDR.REG : Reg := regOf [HIF_FLAG_ADDR.WORD]
def HIF_FLAG_DATA.REG : Reg := regOf [HIF_FLAG_DATA.FLAGS]
def HIF_FLAG_COUNT.REG : Reg := regOf [HIF_FLAG_COUNT.HOST, HIF_FLAG_COUNT.DEVICE]
def HIF_EVT_RING.REG : Reg := regOf [HIF_EVT_RING.COUNT, HIF_EVT_RING.BASE]
def HIF_EVT_CFG.REG : Reg := regOf [HIF_EVT_CFG.FLUSH_US, HIF_EVT_CFG.CLASS_EN]
def HIF_EVT_STAT.REG : Reg := regOf [HIF_EVT_STAT.QUEUED, HIF_EVT_STAT.NEXT]
def HIF_EVT_SEQ.REG : Reg := regOf [HIF_EVT_SEQ.EVSEQ]
def HIF_STATS_RING.REG : Reg := regOf [HIF_STATS_RING.COUNT, HIF_STATS_RING.BASE]
def HIF_STATS_CFG.REG : Reg := regOf [HIF_STATS_CFG.GO, HIF_STATS_CFG.BUSY, HIF_STATS_CFG.PERIOD_S]
def HIF_STATS_MASK.REG : Reg := regOf [HIF_STATS_MASK.UNITS]
def HIF_CNT_LINK_ERR.REG : Reg := regOf [HIF_CNT_LINK_ERR.CE, HIF_CNT_LINK_ERR.UE]
def HIF_CNT_EVT.REG : Reg := regOf [HIF_CNT_EVT.COUNT]
def HIF_CNT_EVT_LOST.REG : Reg := regOf [HIF_CNT_EVT_LOST.COUNT]
def HIF_CNT_SLOT_TX.REG : Reg := regOf [HIF_CNT_SLOT_TX.COUNT]
def HIF_CNT_WIN_VIOL.REG : Reg := regOf [HIF_CNT_WIN_VIOL.COUNT]
def HIF_CNT_POISON.REG : Reg := regOf [HIF_CNT_POISON.COUNT]
def HIF_CNT_MSI.REG : Reg := regOf [HIF_CNT_MSI.COUNT]
def HIF_CNT_LINK_DOWN.REG : Reg := regOf [HIF_CNT_LINK_DOWN.COUNT]
def HIF_CNT_FLR.REG : Reg := regOf [HIF_CNT_FLR.COUNT]
def HIF_EVT_CODE.REG : Reg := regOf [HIF_EVT_CODE.KIND, HIF_EVT_CODE.SLOT]
def HIF_EVT_STAMP_LO.REG : Reg := regOf [HIF_EVT_STAMP_LO.STAMP]
def HIF_EVT_STAMP_HI.REG : Reg := regOf [HIF_EVT_STAMP_HI.STAMP]
def HIF_WIN_LAST_VIOL.REG : Reg := regOf [HIF_WIN_LAST_VIOL.OFFSET]
def HIF_VIEW_GRANT.REG : Reg := regOf [HIF_VIEW_GRANT.OPEN, HIF_VIEW_GRANT.BLOCKS]
def HIF_VIEW_LEFT.REG : Reg := regOf [HIF_VIEW_LEFT.LEFT_S]
def HIF_VIEW_VIOL.REG : Reg := regOf [HIF_VIEW_VIOL.COUNT]
def HIF_VIEW_LAST.REG : Reg := regOf [HIF_VIEW_LAST.WRITE, HIF_VIEW_LAST.PRIV, HIF_VIEW_LAST.REASON, HIF_VIEW_LAST.OFFSET]
def HIF_VEC_CFG.REG : Reg := regOf [HIF_VEC_CFG.HOLDOFF_US, HIF_VEC_CFG.GAP_US]
def HIF_VEC_CNT.REG : Reg := regOf [HIF_VEC_CNT.SENT, HIF_VEC_CNT.PBA]
def HIF_VEC_MAP.REG : Reg := regOf [HIF_VEC_MAP.VEC]
def HIF_UNIT_IRQ.REG : Reg := regOf [HIF_UNIT_IRQ.UNIT]
def HIF_SRC_VEC.REG : Reg := regOf [HIF_SRC_VEC.EVT_VEC]
def HIF_LINK_CFG.REG : Reg := regOf [HIF_LINK_CFG.MAX_WIDTH, HIF_LINK_CFG.MAX_RATE]
def HIF_CNT_CLASS.REG : Reg := regOf [HIF_CNT_CLASS.COUNT]

def regsHif0 : List Reg := [
  HIF_PROFILE.REG, HIF_CTL.REG, HIF_STAT.REG, HIF_IRQ_STAT.REG, HIF_IRQ_EN.REG, HIF_ID.REG, HIF_SUBID.REG, HIF_FLAG_CMD.REG, HIF_FLAG_RESULT.REG, HIF_FLAG_ADDR.REG, HIF_FLAG_DATA.REG, HIF_FLAG_COUNT.REG]

def regsHif1 : List Reg := [
  HIF_EVT_RING.REG, HIF_EVT_CFG.REG, HIF_EVT_STAT.REG, HIF_EVT_SEQ.REG, HIF_STATS_RING.REG, HIF_STATS_CFG.REG, HIF_STATS_MASK.REG, HIF_CNT_LINK_ERR.REG, HIF_CNT_EVT.REG, HIF_CNT_EVT_LOST.REG, HIF_CNT_SLOT_TX.REG, HIF_CNT_WIN_VIOL.REG]

def regsHif2 : List Reg := [
  HIF_CNT_POISON.REG, HIF_CNT_MSI.REG, HIF_CNT_LINK_DOWN.REG, HIF_CNT_FLR.REG, HIF_EVT_CODE.REG, HIF_EVT_STAMP_LO.REG, HIF_EVT_STAMP_HI.REG, HIF_WIN_LAST_VIOL.REG, HIF_VIEW_GRANT.REG, HIF_VIEW_LEFT.REG, HIF_VIEW_VIOL.REG, HIF_VIEW_LAST.REG]

def regsHif3 : List Reg := [
  HIF_VEC_CFG.REG, HIF_VEC_CNT.REG, HIF_VEC_MAP.REG, HIF_UNIT_IRQ.REG, HIF_SRC_VEC.REG, HIF_LINK_CFG.REG, HIF_CNT_CLASS.REG]

/-- The registers of block HIF. -/
def regsHif : List Reg := regsHif0 ++ regsHif1 ++ regsHif2 ++ regsHif3

/-! ## BLN, 21_baseline_cascade.md -/

def BLN_PROFILE.PROFILE : Fld := fld0 0x140000 3 0 .RW 0 .image
def BLN_CTL.CLR_CNT : Fld := fld0 0x140004 1 1 .WO 0 .plain
def BLN_CTL.LOCK : Fld := fld0 0x140004 0 0 .W1S 0 .plain
def BLN_STAT.MEMBERS : Fld := fld0 0x140008 19 16 .RO 1 .plain
def BLN_STAT.MASTER : Fld := fld0 0x140008 14 12 .RO 0 .strap
def BLN_STAT.MASTER_STRAP : Fld := fld0 0x140008 11 11 .RO 0 .strap
def BLN_STAT.DEVICE : Fld := fld0 0x140008 10 8 .RO 0 .strap
def BLN_STAT.TOPO : Fld := fld0 0x140008 5 4 .RO 0 .plain
def BLN_STAT.STATE : Fld := fld0 0x140008 2 0 .RO 0 .plain
def BLN_IRQ_STAT.RACC_DONE : Fld := fld0 0x14000C 5 5 .W1C 0 .plain
def BLN_IRQ_STAT.REFUSED : Fld := fld0 0x14000C 4 4 .W1C 0 .plain
def BLN_IRQ_STAT.MASTER_LOST : Fld := fld0 0x14000C 3 3 .W1C 0 .plain
def BLN_IRQ_STAT.MEMBER : Fld := fld0 0x14000C 2 2 .W1C 0 .plain
def BLN_IRQ_STAT.LINK_DOWN : Fld := fld0 0x14000C 1 1 .W1C 0 .plain
def BLN_IRQ_STAT.LINK_UP : Fld := fld0 0x14000C 0 0 .W1C 0 .plain
def BLN_IRQ_EN.RACC_DONE : Fld := fld0 0x140010 5 5 .RW 0 .plain
def BLN_IRQ_EN.REFUSED : Fld := fld0 0x140010 4 4 .RW 0 .plain
def BLN_IRQ_EN.MASTER_LOST : Fld := fld0 0x140010 3 3 .RW 0 .plain
def BLN_IRQ_EN.MEMBER : Fld := fld0 0x140010 2 2 .RW 0 .plain
def BLN_IRQ_EN.LINK_DOWN : Fld := fld0 0x140010 1 1 .RW 0 .plain
def BLN_IRQ_EN.LINK_UP : Fld := fld0 0x140010 0 0 .RW 0 .plain
def BLN_TIME_CFG.SYNC_PERIOD : Fld := fld0 0x140014 31 16 .RW 0x64 .plain true
def BLN_TIME_CFG.DLY_WIN : Fld := fld0 0x140014 7 0 .RW 0x20 .plain true
def BLN_LINK_CFG.RETRY_MS : Fld := fld0 0x140018 31 16 .RW 0x64 .plain true
def BLN_LINK_CFG.RATE : Fld := fld0 0x140018 4 4 .RW 0 .plain true
def BLN_LINK_CFG.MIN_LANES : Fld := fld0 0x140018 3 0 .RW 1 .plain true
def BLN_MEMBERS.REACH : Fld := fld0 0x14001C 15 8 .RO 0 .plain
def BLN_MEMBERS.PRESENT : Fld := fld0 0x14001C 7 0 .RO 0 .plain
def BLN_GEN.STACK_GEN : Fld := fld0 0x140020 31 0 .RO 0 .plain
def BLN_PART.HELD : Fld := fld0 0x140024 31 24 .RO 0 .plain
def BLN_PART.HOLDER : Fld := fld0 0x140024 23 0 .RO 0 .plain
def BLN_RQ_STAT.PEAK : Fld := fld0 0x140028 25 16 .RO 0 .plain
def BLN_RQ_STAT.QUEUED : Fld := fld0 0x140028 9 0 .RO 0 .plain
def BLN_RACC_ADDR.OFFSET : Fld := fld0 0x14002C 23 2 .RW 0 .plain
def BLN_RACC_DATA.DATA : Fld := fld0 0x140030 31 0 .RW 0 .plain
def BLN_RACC_CTL.GO : Fld := fld0 0x140034 31 31 .WO 0 .plain
def BLN_RACC_CTL.BUSY : Fld := fld0 0x140034 30 30 .RO 0 .plain
def BLN_RACC_CTL.WRITE : Fld := fld0 0x140034 29 29 .RW 0 .plain
def BLN_RACC_CTL.CODE : Fld := fld0 0x140034 23 16 .RO 0 .plain
def BLN_RACC_CTL.DEV : Fld := fld0 0x140034 2 0 .RW 0 .plain
def BLN_EVT_CODE.KIND : Fld := fld0 0x140038 31 28 .RO 0 .plain
def BLN_EVT_CODE.REASON : Fld := fld0 0x140038 27 24 .RO 0 .plain
def BLN_EVT_CODE.PORT : Fld := fld0 0x140038 16 16 .RO 0 .plain
def BLN_EVT_CODE.DEVICE : Fld := fld0 0x140038 10 8 .RO 0 .plain
def BLN_EVT_STAMP_LO.STAMP : Fld := fld0 0x14003C 31 0 .RO 0 .plain
def BLN_EVT_STAMP_HI.STAMP : Fld := fld0 0x140040 31 0 .RO 0 .plain
def BLN_CNT_REQ_TX.COUNT : Fld := fld0 0x140044 31 0 .RO 0 .plain
def BLN_CNT_REQ_RX.COUNT : Fld := fld0 0x140048 31 0 .RO 0 .plain
def BLN_CNT_RPLY_TX.COUNT : Fld := fld0 0x14004C 31 0 .RO 0 .plain
def BLN_CNT_RPLY_RX.COUNT : Fld := fld0 0x140050 31 0 .RO 0 .plain
def BLN_CNT_FWD.COUNT : Fld := fld0 0x140054 31 0 .RO 0 .plain
def BLN_CNT_UNREACH.COUNT : Fld := fld0 0x140058 31 0 .RO 0 .plain
def BLN_CNT_INFLIGHT.COUNT : Fld := fld0 0x14005C 31 0 .RO 0 .plain
def BLN_CNT_LATE_RPLY.COUNT : Fld := fld0 0x140060 31 0 .RO 0 .plain
def BLN_CNT_JOIN.COUNT : Fld := fld0 0x140064 31 0 .RO 0 .plain
def BLN_CNT_LEAVE.COUNT : Fld := fld0 0x140068 31 0 .RO 0 .plain
def BLN_CNT_ORPHAN.COUNT : Fld := fld0 0x14006C 31 0 .RO 0 .plain
def BLN_CNT_REFUSED.COUNT : Fld := fld0 0x140070 31 0 .RO 0 .plain
def BLN_CNT_MAP.COUNT : Fld := fld0 0x140074 31 0 .RO 0 .plain
def BLN_CNT_ENV_FWD.COUNT : Fld := fld0 0x140078 31 0 .RO 0 .plain
def BLN_CNT_RACC.COUNT : Fld := fld0 0x14007C 31 0 .RO 0 .plain
def BLN_PORT_CTL.RETRAIN : Fld := fld1 0x141000 0x100 2 1 1 .WO 0 .plain
def BLN_PORT_CTL.EN : Fld := fld1 0x141000 0x100 2 0 0 .RWL 0 .image
def BLN_PORT_STAT.REASON : Fld := fld1 0x141004 0x100 2 31 28 .RO 0 .plain
def BLN_PORT_STAT.UNAUTH : Fld := fld1 0x141004 0x100 2 23 23 .RO 0 .plain
def BLN_PORT_STAT.PEER_MASTER : Fld := fld1 0x141004 0x100 2 22 22 .RO 0 .plain
def BLN_PORT_STAT.PEER_DEV : Fld := fld1 0x141004 0x100 2 21 19 .RO 0 .plain
def BLN_PORT_STAT.HALF : Fld := fld1 0x141004 0x100 2 18 18 .RO 0 .plain
def BLN_PORT_STAT.LANES : Fld := fld1 0x141004 0x100 2 15 12 .RO 0 .plain
def BLN_PORT_STAT.STATE : Fld := fld1 0x141004 0x100 2 2 0 .RO 0 .plain
def BLN_PORT_PEER_LO.DEVID : Fld := fld1 0x141008 0x100 2 31 0 .RO 0 .plain
def BLN_PORT_PEER_HI.DEVID : Fld := fld1 0x14100C 0x100 2 31 0 .RO 0 .plain
def BLN_PORT_ASYM.ASYM : Fld := fld1 0x141010 0x100 2 15 0 .RWL 0 .image
def BLN_PORT_DELAY.DELAY : Fld := fld1 0x141014 0x100 2 31 0 .RO 0 .plain
def BLN_PORT_OFFSET.OFFSET : Fld := fld1 0x141018 0x100 2 31 0 .RO 0 .plain
def BLN_PORT_LANE.SKEW : Fld := fld1 0x14101C 0x100 2 31 16 .RO 0 .plain
def BLN_PORT_LANE.FAILED : Fld := fld1 0x14101C 0x100 2 7 4 .RO 0 .plain
def BLN_PORT_LANE.REVERSED : Fld := fld1 0x14101C 0x100 2 3 0 .RO 0 .plain
def BLN_PORT_FEC_CE.COUNT : Fld := fld1 0x141020 0x100 2 31 0 .RO 0 .plain
def BLN_PORT_FEC_UE.COUNT : Fld := fld1 0x141024 0x100 2 31 0 .RO 0 .plain
def BLN_PORT_SNR.SNR : Fld := fld2 0x141028 0x100 2 0x4 4 15 0 .RO 0 .plain
def BLN_PORT_CREDIT.RPLY : Fld := fld1 0x141038 0x100 2 31 16 .RO 0 .plain
def BLN_PORT_CREDIT.REQ : Fld := fld1 0x141038 0x100 2 15 0 .RO 0 .plain
def BLN_PORT_RQ.PEAK : Fld := fld1 0x14103C 0x100 2 25 16 .RO 0 .plain
def BLN_PORT_RQ.QUEUED : Fld := fld1 0x14103C 0x100 2 9 0 .RO 0 .plain
def BLN_PORT_CNT_TX.COUNT : Fld := fld1 0x141040 0x100 2 31 0 .RO 0 .plain
def BLN_PORT_CNT_RX.COUNT : Fld := fld1 0x141044 0x100 2 31 0 .RO 0 .plain
def BLN_PORT_CNT_TIME.COUNT : Fld := fld1 0x141048 0x100 2 31 0 .RO 0 .plain
def BLN_PORT_CNT_TIME_BAD.COUNT : Fld := fld1 0x14104C 0x100 2 31 0 .RO 0 .plain
def BLN_PORT_CNT_TRAIN.COUNT : Fld := fld1 0x141050 0x100 2 31 0 .RO 0 .plain
def BLN_PORT_CNT_DOWN.COUNT : Fld := fld1 0x141054 0x100 2 31 0 .RO 0 .plain
def BLN_PORT_CNT_LOS.COUNT : Fld := fld1 0x141058 0x100 2 31 0 .RO 0 .plain
def BLN_PORT_CNT_FEC_DOWN.COUNT : Fld := fld1 0x14105C 0x100 2 31 0 .RO 0 .plain
def BLN_PORT_CNT_IDLE_DOWN.COUNT : Fld := fld1 0x141060 0x100 2 31 0 .RO 0 .plain
def BLN_PORT_CNT_REFUSE.COUNT : Fld := fld1 0x141064 0x100 2 31 0 .RO 0 .plain
def BLN_PORT_CNT_AUTH.COUNT : Fld := fld1 0x141068 0x100 2 31 0 .RO 0 .plain
def BLN_PORT_CNT_HALF.COUNT : Fld := fld1 0x14106C 0x100 2 31 0 .RO 0 .plain
def BLN_PORT_CNT_NARROW.COUNT : Fld := fld1 0x141070 0x100 2 31 0 .RO 0 .plain
def BLN_PORT_CNT_FWD.COUNT : Fld := fld1 0x141074 0x100 2 31 0 .RO 0 .plain
def BLN_PORT_CNT_POISON.COUNT : Fld := fld1 0x141078 0x100 2 31 0 .RO 0 .plain
def BLN_PORT_CNT_QFULL.COUNT : Fld := fld1 0x14107C 0x100 2 31 0 .RO 0 .plain
def BLN_MEM_STAT.PRESENT : Fld := fld1 0x142000 0x10 8 31 31 .RO 0 .plain
def BLN_MEM_STAT.REACH : Fld := fld1 0x142000 0x10 8 30 30 .RO 0 .plain
def BLN_MEM_STAT.MASTER : Fld := fld1 0x142000 0x10 8 29 29 .RO 0 .plain
def BLN_MEM_STAT.PORT : Fld := fld1 0x142000 0x10 8 28 28 .RO 0 .plain
def BLN_MEM_STAT.HOPS : Fld := fld1 0x142000 0x10 8 27 24 .RO 0 .plain
def BLN_MEM_STAT.PART : Fld := fld1 0x142000 0x10 8 18 16 .RO 0 .plain
def BLN_MEM_STAT.PART_VALID : Fld := fld1 0x142000 0x10 8 15 15 .RO 0 .plain
def BLN_MEM_DEVID_LO.DEVID : Fld := fld1 0x142004 0x10 8 31 0 .RO 0 .plain
def BLN_MEM_DEVID_HI.DEVID : Fld := fld1 0x142008 0x10 8 31 0 .RO 0 .plain
def BLN_MEM_LAST.JOINS : Fld := fld1 0x14200C 0x10 8 31 16 .RO 0 .plain
def BLN_MEM_LAST.AGE_US : Fld := fld1 0x14200C 0x10 8 15 0 .RO 0xFFFF .plain
def BLN_PROFILE.REG : Reg := regOf [BLN_PROFILE.PROFILE]
def BLN_CTL.REG : Reg := regOf [BLN_CTL.CLR_CNT, BLN_CTL.LOCK]
def BLN_STAT.REG : Reg := regOf [BLN_STAT.MEMBERS, BLN_STAT.MASTER, BLN_STAT.MASTER_STRAP, BLN_STAT.DEVICE, BLN_STAT.TOPO, BLN_STAT.STATE]
def BLN_IRQ_STAT.REG : Reg := regOf [BLN_IRQ_STAT.RACC_DONE, BLN_IRQ_STAT.REFUSED, BLN_IRQ_STAT.MASTER_LOST, BLN_IRQ_STAT.MEMBER, BLN_IRQ_STAT.LINK_DOWN, BLN_IRQ_STAT.LINK_UP]
def BLN_IRQ_EN.REG : Reg := regOf [BLN_IRQ_EN.RACC_DONE, BLN_IRQ_EN.REFUSED, BLN_IRQ_EN.MASTER_LOST, BLN_IRQ_EN.MEMBER, BLN_IRQ_EN.LINK_DOWN, BLN_IRQ_EN.LINK_UP]
def BLN_TIME_CFG.REG : Reg := regOf [BLN_TIME_CFG.SYNC_PERIOD, BLN_TIME_CFG.DLY_WIN]
def BLN_LINK_CFG.REG : Reg := regOf [BLN_LINK_CFG.RETRY_MS, BLN_LINK_CFG.RATE, BLN_LINK_CFG.MIN_LANES]
def BLN_MEMBERS.REG : Reg := regOf [BLN_MEMBERS.REACH, BLN_MEMBERS.PRESENT]
def BLN_GEN.REG : Reg := regOf [BLN_GEN.STACK_GEN]
def BLN_PART.REG : Reg := regOf [BLN_PART.HELD, BLN_PART.HOLDER]
def BLN_RQ_STAT.REG : Reg := regOf [BLN_RQ_STAT.PEAK, BLN_RQ_STAT.QUEUED]
def BLN_RACC_ADDR.REG : Reg := regOf [BLN_RACC_ADDR.OFFSET]
def BLN_RACC_DATA.REG : Reg := regOf [BLN_RACC_DATA.DATA]
def BLN_RACC_CTL.REG : Reg := regOf [BLN_RACC_CTL.GO, BLN_RACC_CTL.BUSY, BLN_RACC_CTL.WRITE, BLN_RACC_CTL.CODE, BLN_RACC_CTL.DEV]
def BLN_EVT_CODE.REG : Reg := regOf [BLN_EVT_CODE.KIND, BLN_EVT_CODE.REASON, BLN_EVT_CODE.PORT, BLN_EVT_CODE.DEVICE]
def BLN_EVT_STAMP_LO.REG : Reg := regOf [BLN_EVT_STAMP_LO.STAMP]
def BLN_EVT_STAMP_HI.REG : Reg := regOf [BLN_EVT_STAMP_HI.STAMP]
def BLN_CNT_REQ_TX.REG : Reg := regOf [BLN_CNT_REQ_TX.COUNT]
def BLN_CNT_REQ_RX.REG : Reg := regOf [BLN_CNT_REQ_RX.COUNT]
def BLN_CNT_RPLY_TX.REG : Reg := regOf [BLN_CNT_RPLY_TX.COUNT]
def BLN_CNT_RPLY_RX.REG : Reg := regOf [BLN_CNT_RPLY_RX.COUNT]
def BLN_CNT_FWD.REG : Reg := regOf [BLN_CNT_FWD.COUNT]
def BLN_CNT_UNREACH.REG : Reg := regOf [BLN_CNT_UNREACH.COUNT]
def BLN_CNT_INFLIGHT.REG : Reg := regOf [BLN_CNT_INFLIGHT.COUNT]
def BLN_CNT_LATE_RPLY.REG : Reg := regOf [BLN_CNT_LATE_RPLY.COUNT]
def BLN_CNT_JOIN.REG : Reg := regOf [BLN_CNT_JOIN.COUNT]
def BLN_CNT_LEAVE.REG : Reg := regOf [BLN_CNT_LEAVE.COUNT]
def BLN_CNT_ORPHAN.REG : Reg := regOf [BLN_CNT_ORPHAN.COUNT]
def BLN_CNT_REFUSED.REG : Reg := regOf [BLN_CNT_REFUSED.COUNT]
def BLN_CNT_MAP.REG : Reg := regOf [BLN_CNT_MAP.COUNT]
def BLN_CNT_ENV_FWD.REG : Reg := regOf [BLN_CNT_ENV_FWD.COUNT]
def BLN_CNT_RACC.REG : Reg := regOf [BLN_CNT_RACC.COUNT]
def BLN_PORT_CTL.REG : Reg := regOf [BLN_PORT_CTL.RETRAIN, BLN_PORT_CTL.EN]
def BLN_PORT_STAT.REG : Reg := regOf [BLN_PORT_STAT.REASON, BLN_PORT_STAT.UNAUTH, BLN_PORT_STAT.PEER_MASTER, BLN_PORT_STAT.PEER_DEV, BLN_PORT_STAT.HALF, BLN_PORT_STAT.LANES, BLN_PORT_STAT.STATE]
def BLN_PORT_PEER_LO.REG : Reg := regOf [BLN_PORT_PEER_LO.DEVID]
def BLN_PORT_PEER_HI.REG : Reg := regOf [BLN_PORT_PEER_HI.DEVID]
def BLN_PORT_ASYM.REG : Reg := regOf [BLN_PORT_ASYM.ASYM]
def BLN_PORT_DELAY.REG : Reg := regOf [BLN_PORT_DELAY.DELAY]
def BLN_PORT_OFFSET.REG : Reg := regOf [BLN_PORT_OFFSET.OFFSET]
def BLN_PORT_LANE.REG : Reg := regOf [BLN_PORT_LANE.SKEW, BLN_PORT_LANE.FAILED, BLN_PORT_LANE.REVERSED]
def BLN_PORT_FEC_CE.REG : Reg := regOf [BLN_PORT_FEC_CE.COUNT]
def BLN_PORT_FEC_UE.REG : Reg := regOf [BLN_PORT_FEC_UE.COUNT]
def BLN_PORT_SNR.REG : Reg := regOf [BLN_PORT_SNR.SNR]
def BLN_PORT_CREDIT.REG : Reg := regOf [BLN_PORT_CREDIT.RPLY, BLN_PORT_CREDIT.REQ]
def BLN_PORT_RQ.REG : Reg := regOf [BLN_PORT_RQ.PEAK, BLN_PORT_RQ.QUEUED]
def BLN_PORT_CNT_TX.REG : Reg := regOf [BLN_PORT_CNT_TX.COUNT]
def BLN_PORT_CNT_RX.REG : Reg := regOf [BLN_PORT_CNT_RX.COUNT]
def BLN_PORT_CNT_TIME.REG : Reg := regOf [BLN_PORT_CNT_TIME.COUNT]
def BLN_PORT_CNT_TIME_BAD.REG : Reg := regOf [BLN_PORT_CNT_TIME_BAD.COUNT]
def BLN_PORT_CNT_TRAIN.REG : Reg := regOf [BLN_PORT_CNT_TRAIN.COUNT]
def BLN_PORT_CNT_DOWN.REG : Reg := regOf [BLN_PORT_CNT_DOWN.COUNT]
def BLN_PORT_CNT_LOS.REG : Reg := regOf [BLN_PORT_CNT_LOS.COUNT]
def BLN_PORT_CNT_FEC_DOWN.REG : Reg := regOf [BLN_PORT_CNT_FEC_DOWN.COUNT]
def BLN_PORT_CNT_IDLE_DOWN.REG : Reg := regOf [BLN_PORT_CNT_IDLE_DOWN.COUNT]
def BLN_PORT_CNT_REFUSE.REG : Reg := regOf [BLN_PORT_CNT_REFUSE.COUNT]
def BLN_PORT_CNT_AUTH.REG : Reg := regOf [BLN_PORT_CNT_AUTH.COUNT]
def BLN_PORT_CNT_HALF.REG : Reg := regOf [BLN_PORT_CNT_HALF.COUNT]
def BLN_PORT_CNT_NARROW.REG : Reg := regOf [BLN_PORT_CNT_NARROW.COUNT]
def BLN_PORT_CNT_FWD.REG : Reg := regOf [BLN_PORT_CNT_FWD.COUNT]
def BLN_PORT_CNT_POISON.REG : Reg := regOf [BLN_PORT_CNT_POISON.COUNT]
def BLN_PORT_CNT_QFULL.REG : Reg := regOf [BLN_PORT_CNT_QFULL.COUNT]
def BLN_MEM_STAT.REG : Reg := regOf [BLN_MEM_STAT.PRESENT, BLN_MEM_STAT.REACH, BLN_MEM_STAT.MASTER, BLN_MEM_STAT.PORT, BLN_MEM_STAT.HOPS, BLN_MEM_STAT.PART, BLN_MEM_STAT.PART_VALID]
def BLN_MEM_DEVID_LO.REG : Reg := regOf [BLN_MEM_DEVID_LO.DEVID]
def BLN_MEM_DEVID_HI.REG : Reg := regOf [BLN_MEM_DEVID_HI.DEVID]
def BLN_MEM_LAST.REG : Reg := regOf [BLN_MEM_LAST.JOINS, BLN_MEM_LAST.AGE_US]

def regsBln0 : List Reg := [
  BLN_PROFILE.REG, BLN_CTL.REG, BLN_STAT.REG, BLN_IRQ_STAT.REG, BLN_IRQ_EN.REG, BLN_TIME_CFG.REG, BLN_LINK_CFG.REG, BLN_MEMBERS.REG, BLN_GEN.REG, BLN_PART.REG, BLN_RQ_STAT.REG, BLN_RACC_ADDR.REG]

def regsBln1 : List Reg := [
  BLN_RACC_DATA.REG, BLN_RACC_CTL.REG, BLN_EVT_CODE.REG, BLN_EVT_STAMP_LO.REG, BLN_EVT_STAMP_HI.REG, BLN_CNT_REQ_TX.REG, BLN_CNT_REQ_RX.REG, BLN_CNT_RPLY_TX.REG, BLN_CNT_RPLY_RX.REG, BLN_CNT_FWD.REG, BLN_CNT_UNREACH.REG, BLN_CNT_INFLIGHT.REG]

def regsBln2 : List Reg := [
  BLN_CNT_LATE_RPLY.REG, BLN_CNT_JOIN.REG, BLN_CNT_LEAVE.REG, BLN_CNT_ORPHAN.REG, BLN_CNT_REFUSED.REG, BLN_CNT_MAP.REG, BLN_CNT_ENV_FWD.REG, BLN_CNT_RACC.REG, BLN_PORT_CTL.REG, BLN_PORT_STAT.REG, BLN_PORT_PEER_LO.REG, BLN_PORT_PEER_HI.REG]

def regsBln3 : List Reg := [
  BLN_PORT_ASYM.REG, BLN_PORT_DELAY.REG, BLN_PORT_OFFSET.REG, BLN_PORT_LANE.REG, BLN_PORT_FEC_CE.REG, BLN_PORT_FEC_UE.REG, BLN_PORT_SNR.REG, BLN_PORT_CREDIT.REG, BLN_PORT_RQ.REG, BLN_PORT_CNT_TX.REG, BLN_PORT_CNT_RX.REG, BLN_PORT_CNT_TIME.REG]

def regsBln4 : List Reg := [
  BLN_PORT_CNT_TIME_BAD.REG, BLN_PORT_CNT_TRAIN.REG, BLN_PORT_CNT_DOWN.REG, BLN_PORT_CNT_LOS.REG, BLN_PORT_CNT_FEC_DOWN.REG, BLN_PORT_CNT_IDLE_DOWN.REG, BLN_PORT_CNT_REFUSE.REG, BLN_PORT_CNT_AUTH.REG, BLN_PORT_CNT_HALF.REG, BLN_PORT_CNT_NARROW.REG, BLN_PORT_CNT_FWD.REG, BLN_PORT_CNT_POISON.REG]

def regsBln5 : List Reg := [
  BLN_PORT_CNT_QFULL.REG, BLN_MEM_STAT.REG, BLN_MEM_DEVID_LO.REG, BLN_MEM_DEVID_HI.REG, BLN_MEM_LAST.REG]

/-- The registers of block BLN. -/
def regsBln : List Reg := regsBln0 ++ regsBln1 ++ regsBln2 ++ regsBln3 ++ regsBln4 ++ regsBln5

/-! ## MGT, 22_management_and_monitor.md -/

def MGT_PROFILE.PROFILE : Fld := fld0 0x150000 3 0 .RW 0 .image
def MGT_CTL.PROBE : Fld := fld0 0x150004 2 2 .WO 0 .plain
def MGT_CTL.CLR_CNT : Fld := fld0 0x150004 1 1 .WO 0 .plain
def MGT_CTL.LOCK : Fld := fld0 0x150004 0 0 .W1S 0 .plain
def MGT_STAT.SMBUS : Fld := fld0 0x150008 7 7 .RO 0 .plain
def MGT_STAT.DA : Fld := fld0 0x150008 6 0 .RO 0 .plain
def MGT_IRQ_STAT.GAVE_UP : Fld := fld0 0x15000C 4 4 .W1C 0 .plain
def MGT_IRQ_STAT.RECON : Fld := fld0 0x15000C 3 3 .W1C 0 .plain
def MGT_IRQ_STAT.NODE : Fld := fld0 0x15000C 2 2 .W1C 0 .plain
def MGT_IRQ_STAT.TEMP : Fld := fld0 0x15000C 1 1 .W1C 0 .plain
def MGT_IRQ_STAT.MISMATCH : Fld := fld0 0x15000C 0 0 .W1C 0 .plain
def MGT_IRQ_EN.GAVE_UP : Fld := fld0 0x150010 4 4 .RW 0 .plain
def MGT_IRQ_EN.RECON : Fld := fld0 0x150010 3 3 .RW 0 .plain
def MGT_IRQ_EN.NODE : Fld := fld0 0x150010 2 2 .RW 0 .plain
def MGT_IRQ_EN.TEMP : Fld := fld0 0x150010 1 1 .RW 0 .plain
def MGT_IRQ_EN.MISMATCH : Fld := fld0 0x150010 0 0 .RW 0 .plain
def MGT_I3C_CFG.HJ_EN : Fld := fld0 0x150014 0 0 .RWL 0 .image
def MGT_SMB_CFG.SPEED : Fld := fld0 0x150018 1 0 .RWL 0 .image
def MGT_SMB_CFG.PEC_REQ : Fld := fld0 0x150018 2 2 .RWL 0 .image
def MGT_TEMP.MAX : Fld := fld1 0x15001C 0x4 3 31 16 .RO 0x8000 .plain
def MGT_TEMP.TEMP : Fld := fld1 0x15001C 0x4 3 15 0 .RO 0 .plain
def MGT_TEMP_LIM.WARN_C : Fld := fld0 0x150028 7 0 .RW 0x69 .plain
def MGT_HEALTH.BOOT_FAIL : Fld := fld0 0x15002C 7 7 .RO 0 .plain
def MGT_HEALTH.EPH_BAD : Fld := fld0 0x15002C 6 6 .RO 0 .plain
def MGT_HEALTH.ARC_LOW : Fld := fld0 0x15002C 5 5 .RO 0 .plain
def MGT_HEALTH.AVS_FALLBACK : Fld := fld0 0x15002C 4 4 .RO 0 .plain
def MGT_HEALTH.RNG_LATCHED : Fld := fld0 0x15002C 3 3 .RO 0 .plain
def MGT_HEALTH.SECURITY : Fld := fld0 0x15002C 2 2 .RO 0 .plain
def MGT_HEALTH.TEMP_WARN : Fld := fld0 0x15002C 1 1 .RO 0 .plain
def MGT_HEALTH.MISMATCH : Fld := fld0 0x15002C 0 0 .RO 0 .plain
def MGT_RECON_CFG.UNITS : Fld := fld0 0x150030 23 0 .RWL 0 .plain
def MGT_RECON_STAT.GAVE_UP : Fld := fld0 0x150034 23 0 .W1C 0 .plain
def MGT_RECON_TIME.RECON_MS : Fld := fld0 0x150038 31 8 .RW 0x3E8 .plain true
def MGT_RECON_TIME.RECON_MAX : Fld := fld0 0x150038 7 0 .RW 3 .plain true
def MGT_ENV_BUF.DATA : Fld := fld0 0x15003C 31 0 .WO 0 .plain
def MGT_ENV_CTL.GO : Fld := fld0 0x150040 31 31 .WO 0 .plain
def MGT_ENV_CTL.LEN : Fld := fld0 0x150040 28 16 .RW 0 .plain
def MGT_ENV_CTL.FILL : Fld := fld0 0x150040 12 0 .RO 0 .plain
def MGT_FND_CFG.HB_MS : Fld := fld0 0x150044 31 16 .RW 0x3E8 .plain true
def MGT_FND_CFG.ASSIGN_TO : Fld := fld0 0x150044 15 8 .RW 0x32 .plain true
def MGT_FND_CFG.DEPART_N : Fld := fld0 0x150044 7 4 .RW 3 .plain true
def MGT_FND_CFG.BUS_EN : Fld := fld0 0x150044 1 0 .RWL 0 .image
def MGT_FND_STAT.FULL : Fld := fld0 0x150048 16 16 .W1C 0 .plain
def MGT_FND_STAT.PRESENT : Fld := fld0 0x150048 8 0 .RO 0 .plain
def MGT_FND_ADDR.WORD : Fld := fld0 0x15004C 9 8 .RW 0 .plain
def MGT_FND_ADDR.HANDLE : Fld := fld0 0x15004C 7 0 .RW 0 .plain
def MGT_FND_DATA.DATA : Fld := fld0 0x150050 31 0 .RO 0 .plain
def MGT_EVT_CODE.KIND : Fld := fld0 0x150054 31 28 .RO 0 .plain
def MGT_EVT_CODE.CAUSE : Fld := fld0 0x150054 27 24 .RO 0 .plain
def MGT_EVT_CODE.UNIT : Fld := fld0 0x150054 23 16 .RO 0 .plain
def MGT_EVT_CODE.HANDLE : Fld := fld0 0x150054 7 0 .RO 0 .plain
def MGT_EVT_STAMP_LO.STAMP : Fld := fld0 0x150058 31 0 .RO 0 .plain
def MGT_EVT_STAMP_HI.STAMP : Fld := fld0 0x15005C 31 0 .RO 0 .plain
def MGT_CNT_RD.COUNT : Fld := fld0 0x150060 31 0 .RO 0 .plain
def MGT_CNT_WR.COUNT : Fld := fld0 0x150064 31 0 .RO 0 .plain
def MGT_CNT_PEC_ERR.COUNT : Fld := fld0 0x150068 31 0 .RO 0 .plain
def MGT_CNT_IBI.COUNT : Fld := fld0 0x15006C 31 0 .RO 0 .plain
def MGT_CNT_ATTACH.COUNT : Fld := fld0 0x150070 31 0 .RO 0 .plain
def MGT_CNT_DEPART.COUNT : Fld := fld0 0x150074 31 0 .RO 0 .plain
def MGT_CNT_REFUSE.COUNT : Fld := fld0 0x150078 31 0 .RO 0 .plain
def MGT_CNT_DUP.COUNT : Fld := fld0 0x15007C 31 0 .RO 0 .plain
def MGT_RECON_LOG.UNIT : Fld := fld1 0x150080 0x4 16 31 24 .RO 0 .plain
def MGT_RECON_LOG.REP : Fld := fld1 0x150080 0x4 16 23 21 .RO 0 .plain
def MGT_RECON_LOG.GAVE_UP : Fld := fld1 0x150080 0x4 16 20 20 .RO 0 .plain
def MGT_RECON_LOG.MIN : Fld := fld1 0x150080 0x4 16 19 0 .RO 0 .plain
def MGT_PROFILE.REG : Reg := regOf [MGT_PROFILE.PROFILE]
def MGT_CTL.REG : Reg := regOf [MGT_CTL.PROBE, MGT_CTL.CLR_CNT, MGT_CTL.LOCK]
def MGT_STAT.REG : Reg := regOf [MGT_STAT.SMBUS, MGT_STAT.DA]
def MGT_IRQ_STAT.REG : Reg := regOf [MGT_IRQ_STAT.GAVE_UP, MGT_IRQ_STAT.RECON, MGT_IRQ_STAT.NODE, MGT_IRQ_STAT.TEMP, MGT_IRQ_STAT.MISMATCH]
def MGT_IRQ_EN.REG : Reg := regOf [MGT_IRQ_EN.GAVE_UP, MGT_IRQ_EN.RECON, MGT_IRQ_EN.NODE, MGT_IRQ_EN.TEMP, MGT_IRQ_EN.MISMATCH]
def MGT_I3C_CFG.REG : Reg := regOf [MGT_I3C_CFG.HJ_EN]
def MGT_SMB_CFG.REG : Reg := regOf [MGT_SMB_CFG.SPEED, MGT_SMB_CFG.PEC_REQ]
def MGT_TEMP.REG : Reg := regOf [MGT_TEMP.MAX, MGT_TEMP.TEMP]
def MGT_TEMP_LIM.REG : Reg := regOf [MGT_TEMP_LIM.WARN_C]
def MGT_HEALTH.REG : Reg := regOf [MGT_HEALTH.BOOT_FAIL, MGT_HEALTH.EPH_BAD, MGT_HEALTH.ARC_LOW, MGT_HEALTH.AVS_FALLBACK, MGT_HEALTH.RNG_LATCHED, MGT_HEALTH.SECURITY, MGT_HEALTH.TEMP_WARN, MGT_HEALTH.MISMATCH]
def MGT_RECON_CFG.REG : Reg := regOf [MGT_RECON_CFG.UNITS]
def MGT_RECON_STAT.REG : Reg := regOf [MGT_RECON_STAT.GAVE_UP]
def MGT_RECON_TIME.REG : Reg := regOf [MGT_RECON_TIME.RECON_MS, MGT_RECON_TIME.RECON_MAX]
def MGT_ENV_BUF.REG : Reg := regOf [MGT_ENV_BUF.DATA]
def MGT_ENV_CTL.REG : Reg := regOf [MGT_ENV_CTL.GO, MGT_ENV_CTL.LEN, MGT_ENV_CTL.FILL]
def MGT_FND_CFG.REG : Reg := regOf [MGT_FND_CFG.HB_MS, MGT_FND_CFG.ASSIGN_TO, MGT_FND_CFG.DEPART_N, MGT_FND_CFG.BUS_EN]
def MGT_FND_STAT.REG : Reg := regOf [MGT_FND_STAT.FULL, MGT_FND_STAT.PRESENT]
def MGT_FND_ADDR.REG : Reg := regOf [MGT_FND_ADDR.WORD, MGT_FND_ADDR.HANDLE]
def MGT_FND_DATA.REG : Reg := regOf [MGT_FND_DATA.DATA]
def MGT_EVT_CODE.REG : Reg := regOf [MGT_EVT_CODE.KIND, MGT_EVT_CODE.CAUSE, MGT_EVT_CODE.UNIT, MGT_EVT_CODE.HANDLE]
def MGT_EVT_STAMP_LO.REG : Reg := regOf [MGT_EVT_STAMP_LO.STAMP]
def MGT_EVT_STAMP_HI.REG : Reg := regOf [MGT_EVT_STAMP_HI.STAMP]
def MGT_CNT_RD.REG : Reg := regOf [MGT_CNT_RD.COUNT]
def MGT_CNT_WR.REG : Reg := regOf [MGT_CNT_WR.COUNT]
def MGT_CNT_PEC_ERR.REG : Reg := regOf [MGT_CNT_PEC_ERR.COUNT]
def MGT_CNT_IBI.REG : Reg := regOf [MGT_CNT_IBI.COUNT]
def MGT_CNT_ATTACH.REG : Reg := regOf [MGT_CNT_ATTACH.COUNT]
def MGT_CNT_DEPART.REG : Reg := regOf [MGT_CNT_DEPART.COUNT]
def MGT_CNT_REFUSE.REG : Reg := regOf [MGT_CNT_REFUSE.COUNT]
def MGT_CNT_DUP.REG : Reg := regOf [MGT_CNT_DUP.COUNT]
def MGT_RECON_LOG.REG : Reg := regOf [MGT_RECON_LOG.UNIT, MGT_RECON_LOG.REP, MGT_RECON_LOG.GAVE_UP, MGT_RECON_LOG.MIN]

def regsMgt0 : List Reg := [
  MGT_PROFILE.REG, MGT_CTL.REG, MGT_STAT.REG, MGT_IRQ_STAT.REG, MGT_IRQ_EN.REG, MGT_I3C_CFG.REG, MGT_SMB_CFG.REG, MGT_TEMP.REG, MGT_TEMP_LIM.REG, MGT_HEALTH.REG, MGT_RECON_CFG.REG, MGT_RECON_STAT.REG]

def regsMgt1 : List Reg := [
  MGT_RECON_TIME.REG, MGT_ENV_BUF.REG, MGT_ENV_CTL.REG, MGT_FND_CFG.REG, MGT_FND_STAT.REG, MGT_FND_ADDR.REG, MGT_FND_DATA.REG, MGT_EVT_CODE.REG, MGT_EVT_STAMP_LO.REG, MGT_EVT_STAMP_HI.REG, MGT_CNT_RD.REG, MGT_CNT_WR.REG]

def regsMgt2 : List Reg := [
  MGT_CNT_PEC_ERR.REG, MGT_CNT_IBI.REG, MGT_CNT_ATTACH.REG, MGT_CNT_DEPART.REG, MGT_CNT_REFUSE.REG, MGT_CNT_DUP.REG, MGT_RECON_LOG.REG]

/-- The registers of block MGT. -/
def regsMgt : List Reg := regsMgt0 ++ regsMgt1 ++ regsMgt2

/-! ## EYE, 22_management_and_monitor.md -/

def EYE_PROFILE.PROFILE : Fld := fld0 0x160000 3 0 .RW 0 .image
def EYE_CTL.CLR_CNT : Fld := fld0 0x160004 1 1 .WO 0 .plain
def EYE_STAT.BUSY : Fld := fld0 0x160008 3 3 .RO 0 .plain
def EYE_STAT.STATE : Fld := fld0 0x160008 2 0 .RO 0 .fuse
def EYE_IRQ_STAT.GRANT_END : Fld := fld0 0x16000C 2 2 .W1C 0 .plain
def EYE_IRQ_STAT.GRANT : Fld := fld0 0x16000C 1 1 .W1C 0 .plain
def EYE_IRQ_STAT.REFUSE : Fld := fld0 0x16000C 0 0 .W1C 0 .plain
def EYE_IRQ_EN.GRANT_END : Fld := fld0 0x160010 2 2 .RW 0 .plain
def EYE_IRQ_EN.GRANT : Fld := fld0 0x160010 1 1 .RW 0 .plain
def EYE_IRQ_EN.REFUSE : Fld := fld0 0x160010 0 0 .RW 0 .plain
def EYE_CFG.BAUD : Fld := fld0 0x160014 21 0 .RW 0x1C200 .plain true
def EYE_GRANT.LEFT_S : Fld := fld0 0x160018 11 0 .RO 0 .plain
def EYE_LAST.CODE : Fld := fld0 0x16001C 31 24 .RO 0 .plain
def EYE_LAST.CMD : Fld := fld0 0x16001C 7 0 .RO 0 .plain
def EYE_CNT_LINE.COUNT : Fld := fld0 0x160020 31 0 .RO 0 .plain
def EYE_CNT_REFUSE.COUNT : Fld := fld0 0x160024 31 0 .RO 0 .plain
def EYE_CNT_ERR.COUNT : Fld := fld0 0x160028 31 0 .RO 0 .plain
def EYE_CNT_ENV.COUNT : Fld := fld0 0x16002C 31 0 .RO 0 .plain
def EYE_CNT_WRITE.COUNT : Fld := fld0 0x160030 31 0 .RO 0 .plain
def EYE_CNT_DEBUG.COUNT : Fld := fld0 0x160034 31 0 .RO 0 .plain
def EYE_EVT_STAMP_LO.STAMP : Fld := fld0 0x160038 31 0 .RO 0 .plain
def EYE_EVT_STAMP_HI.STAMP : Fld := fld0 0x16003C 31 0 .RO 0 .plain
def EYE_PROFILE.REG : Reg := regOf [EYE_PROFILE.PROFILE]
def EYE_CTL.REG : Reg := regOf [EYE_CTL.CLR_CNT]
def EYE_STAT.REG : Reg := regOf [EYE_STAT.BUSY, EYE_STAT.STATE]
def EYE_IRQ_STAT.REG : Reg := regOf [EYE_IRQ_STAT.GRANT_END, EYE_IRQ_STAT.GRANT, EYE_IRQ_STAT.REFUSE]
def EYE_IRQ_EN.REG : Reg := regOf [EYE_IRQ_EN.GRANT_END, EYE_IRQ_EN.GRANT, EYE_IRQ_EN.REFUSE]
def EYE_CFG.REG : Reg := regOf [EYE_CFG.BAUD]
def EYE_GRANT.REG : Reg := regOf [EYE_GRANT.LEFT_S]
def EYE_LAST.REG : Reg := regOf [EYE_LAST.CODE, EYE_LAST.CMD]
def EYE_CNT_LINE.REG : Reg := regOf [EYE_CNT_LINE.COUNT]
def EYE_CNT_REFUSE.REG : Reg := regOf [EYE_CNT_REFUSE.COUNT]
def EYE_CNT_ERR.REG : Reg := regOf [EYE_CNT_ERR.COUNT]
def EYE_CNT_ENV.REG : Reg := regOf [EYE_CNT_ENV.COUNT]
def EYE_CNT_WRITE.REG : Reg := regOf [EYE_CNT_WRITE.COUNT]
def EYE_CNT_DEBUG.REG : Reg := regOf [EYE_CNT_DEBUG.COUNT]
def EYE_EVT_STAMP_LO.REG : Reg := regOf [EYE_EVT_STAMP_LO.STAMP]
def EYE_EVT_STAMP_HI.REG : Reg := regOf [EYE_EVT_STAMP_HI.STAMP]

def regsEye0 : List Reg := [
  EYE_PROFILE.REG, EYE_CTL.REG, EYE_STAT.REG, EYE_IRQ_STAT.REG, EYE_IRQ_EN.REG, EYE_CFG.REG, EYE_GRANT.REG, EYE_LAST.REG, EYE_CNT_LINE.REG, EYE_CNT_REFUSE.REG, EYE_CNT_ERR.REG, EYE_CNT_ENV.REG]

def regsEye1 : List Reg := [
  EYE_CNT_WRITE.REG, EYE_CNT_DEBUG.REG, EYE_EVT_STAMP_LO.REG, EYE_EVT_STAMP_HI.REG]

/-- The registers of block EYE. -/
def regsEye : List Reg := regsEye0 ++ regsEye1

/-! ## PIN, 23_pins_and_electrical.md -/

def PIN_PROFILE.PROFILE : Fld := fld0 0x170000 3 0 .RW 0 .image
def PIN_CTL.CLR_CNT : Fld := fld0 0x170004 1 1 .WO 0 .plain
def PIN_CTL.LOCK : Fld := fld0 0x170004 0 0 .W1S 0 .plain
def PIN_STAT.TEST_IGNORED : Fld := fld0 0x170008 10 10 .RO 0 .strap
def PIN_STAT.CHARGING : Fld := fld0 0x170008 9 9 .RO 1 .plain
def PIN_STAT.RAIL_EN : Fld := fld0 0x170008 8 8 .RO 1 .plain
def PIN_STAT.RAIL_GOOD : Fld := fld0 0x170008 6 0 .RO 0x7F .plain
def PIN_IRQ_STAT.CAP_LOW : Fld := fld0 0x17000C 3 3 .W1C 0 .plain
def PIN_IRQ_STAT.PAD_FAULT : Fld := fld0 0x17000C 2 2 .W1C 0 .plain
def PIN_IRQ_STAT.XTAL : Fld := fld0 0x17000C 1 1 .W1C 0 .plain
def PIN_IRQ_STAT.RAIL_FAULT : Fld := fld0 0x17000C 0 0 .W1C 0 .plain
def PIN_IRQ_EN.CAP_LOW : Fld := fld0 0x170010 3 3 .RW 0 .plain
def PIN_IRQ_EN.PAD_FAULT : Fld := fld0 0x170010 2 2 .RW 0 .plain
def PIN_IRQ_EN.XTAL : Fld := fld0 0x170010 1 1 .RW 0 .plain
def PIN_IRQ_EN.RAIL_FAULT : Fld := fld0 0x170010 0 0 .RW 0 .plain
def PIN_STRAP.MASTER : Fld := fld0 0x170014 11 11 .RO 0 .strap
def PIN_STRAP.DEV : Fld := fld0 0x170014 10 8 .RO 0 .strap
def PIN_STRAP.BOOT_POL : Fld := fld0 0x170014 7 6 .RO 0 .strap
def PIN_STRAP.TEST_EN : Fld := fld0 0x170014 5 5 .RO 0 .strap
def PIN_RESET.RAIL : Fld := fld0 0x170018 15 8 .RO 0 .text
def PIN_RESET.CAUSE : Fld := fld0 0x170018 0 0 .RO 0 .text
def PIN_RAIL.FAULTS : Fld := fld0 0x17001C 6 0 .W1C 0 .plain
def PIN_VMON.MIN_MV : Fld := fld1 0x170020 0x4 7 31 16 .RO 0xFFFF .plain
def PIN_VMON.MV : Fld := fld1 0x170020 0x4 7 15 0 .RO 0 .plain
def PIN_VHOLD.CAP_UF : Fld := fld0 0x17003C 31 16 .RO 0 .plain
def PIN_VHOLD.CAP_LOW : Fld := fld0 0x17003C 0 0 .RO 0 .plain
def PIN_TAMPER_PAD.LID_CLOSED : Fld := fld0 0x170040 8 8 .RO 0 .plain
def PIN_TAMPER_PAD.MESH_OK : Fld := fld0 0x170040 3 0 .RO 0 .plain
def PIN_CNT_RAIL_FAULT.COUNT : Fld := fld0 0x170044 31 0 .RO 0 .plate
def PIN_CNT_RESET_PIN.COUNT : Fld := fld0 0x170048 31 0 .RO 0 .plate
def PIN_EVT_CODE.KIND : Fld := fld0 0x17004C 31 28 .RO 0 .plain
def PIN_EVT_CODE.INDEX : Fld := fld0 0x17004C 10 0 .RO 0 .plain
def PIN_EVT_STAMP_LO.STAMP : Fld := fld0 0x170050 31 0 .RO 0 .plain
def PIN_EVT_STAMP_HI.STAMP : Fld := fld0 0x170054 31 0 .RO 0 .plain
def PIN_IO_CFG.DRIVE : Fld := fld1 0x170058 0x4 10 13 12 .RWL 0 .image
def PIN_IO_CFG.SLEW : Fld := fld1 0x170058 0x4 10 9 8 .RW 0 .text true
def PIN_IO_CFG.PULL : Fld := fld1 0x170058 0x4 10 1 0 .RWL 0 .image
def PIN_LF_CFG.SHUNT : Fld := fld1 0x170100 0x8 64 31 16 .RWL 0 .image
def PIN_LF_CFG.FITTED : Fld := fld1 0x170100 0x8 64 15 15 .RWL 0 .image
def PIN_LF_CFG.SLEW : Fld := fld1 0x170100 0x8 64 9 8 .RW 2 .plain true
def PIN_LF_STAT.CLIP_CNT : Fld := fld1 0x170104 0x8 64 31 16 .RO 0 .plain
def PIN_LF_STAT.LEG_BLOCK : Fld := fld1 0x170104 0x8 64 15 8 .RO 0 .plain
def PIN_LF_STAT.VCM : Fld := fld1 0x170104 0x8 64 7 0 .RO 0 .plain
def PIN_REL_CFG.ILIM_MA : Fld := fld1 0x170300 0x8 16 15 0 .RWL 0 .image
def PIN_REL_STAT.VOUT : Fld := fld1 0x170304 0x8 16 31 16 .RO 0 .plain
def PIN_REL_STAT.TEMP : Fld := fld1 0x170304 0x8 16 15 8 .RO 0 .plain
def PIN_REL_STAT.HOT : Fld := fld1 0x170304 0x8 16 1 1 .RO 0 .plain
def PIN_REL_STAT.VREL_OK : Fld := fld1 0x170304 0x8 16 0 0 .RO 0 .plain
def PIN_HS.POL_INV : Fld := fld1 0x170400 0x4 25 2 2 .RO 0 .plain
def PIN_HS.CAP_DET : Fld := fld1 0x170400 0x4 25 1 1 .RO 0 .plain
def PIN_HS.TERM_OK : Fld := fld1 0x170400 0x4 25 0 0 .RO 0 .plain
def PIN_XTAL_REF.PPM : Fld := fld0 0x170464 31 16 .RO 0 .plain
def PIN_XTAL_REF.OK : Fld := fld0 0x170464 0 0 .RO 0 .plain
def PIN_XTAL_AON.PPM : Fld := fld0 0x170468 31 16 .RO 0 .plain
def PIN_XTAL_AON.OK : Fld := fld0 0x170468 0 0 .RO 0 .plain
def PIN_CNT_XTAL.COUNT : Fld := fld0 0x17046C 31 0 .RO 0 .plain
def PIN_PAD_ADDR.BALL : Fld := fld0 0x170470 10 0 .RW 0 .plain
def PIN_PAD_DATA.KIND : Fld := fld0 0x170474 31 28 .RO 0 .text
def PIN_PAD_DATA.DOMAIN : Fld := fld0 0x170474 27 24 .RO 0 .text
def PIN_PAD_DATA.OE : Fld := fld0 0x170474 1 1 .RO 0 .plain
def PIN_PAD_DATA.LEVEL : Fld := fld0 0x170474 0 0 .RO 0 .plain
def PIN_CNT_PAD_FAULT.COUNT : Fld := fld0 0x170478 31 0 .RO 0 .plain
def PIN_PAD_FAULT_LAST.BALL : Fld := fld0 0x17047C 10 0 .RO 0 .plain
def PIN_PROFILE.REG : Reg := regOf [PIN_PROFILE.PROFILE]
def PIN_CTL.REG : Reg := regOf [PIN_CTL.CLR_CNT, PIN_CTL.LOCK]
def PIN_STAT.REG : Reg := regOf [PIN_STAT.TEST_IGNORED, PIN_STAT.CHARGING, PIN_STAT.RAIL_EN, PIN_STAT.RAIL_GOOD]
def PIN_IRQ_STAT.REG : Reg := regOf [PIN_IRQ_STAT.CAP_LOW, PIN_IRQ_STAT.PAD_FAULT, PIN_IRQ_STAT.XTAL, PIN_IRQ_STAT.RAIL_FAULT]
def PIN_IRQ_EN.REG : Reg := regOf [PIN_IRQ_EN.CAP_LOW, PIN_IRQ_EN.PAD_FAULT, PIN_IRQ_EN.XTAL, PIN_IRQ_EN.RAIL_FAULT]
def PIN_STRAP.REG : Reg := regOf [PIN_STRAP.MASTER, PIN_STRAP.DEV, PIN_STRAP.BOOT_POL, PIN_STRAP.TEST_EN]
def PIN_RESET.REG : Reg := regOf [PIN_RESET.RAIL, PIN_RESET.CAUSE]
def PIN_RAIL.REG : Reg := regOf [PIN_RAIL.FAULTS]
def PIN_VMON.REG : Reg := regOf [PIN_VMON.MIN_MV, PIN_VMON.MV]
def PIN_VHOLD.REG : Reg := regOf [PIN_VHOLD.CAP_UF, PIN_VHOLD.CAP_LOW]
def PIN_TAMPER_PAD.REG : Reg := regOf [PIN_TAMPER_PAD.LID_CLOSED, PIN_TAMPER_PAD.MESH_OK]
def PIN_CNT_RAIL_FAULT.REG : Reg := regOf [PIN_CNT_RAIL_FAULT.COUNT]
def PIN_CNT_RESET_PIN.REG : Reg := regOf [PIN_CNT_RESET_PIN.COUNT]
def PIN_EVT_CODE.REG : Reg := regOf [PIN_EVT_CODE.KIND, PIN_EVT_CODE.INDEX]
def PIN_EVT_STAMP_LO.REG : Reg := regOf [PIN_EVT_STAMP_LO.STAMP]
def PIN_EVT_STAMP_HI.REG : Reg := regOf [PIN_EVT_STAMP_HI.STAMP]
def PIN_IO_CFG.REG : Reg := regOf [PIN_IO_CFG.DRIVE, PIN_IO_CFG.SLEW, PIN_IO_CFG.PULL]
def PIN_LF_CFG.REG : Reg := regOf [PIN_LF_CFG.SHUNT, PIN_LF_CFG.FITTED, PIN_LF_CFG.SLEW]
def PIN_LF_STAT.REG : Reg := regOf [PIN_LF_STAT.CLIP_CNT, PIN_LF_STAT.LEG_BLOCK, PIN_LF_STAT.VCM]
def PIN_REL_CFG.REG : Reg := regOf [PIN_REL_CFG.ILIM_MA]
def PIN_REL_STAT.REG : Reg := regOf [PIN_REL_STAT.VOUT, PIN_REL_STAT.TEMP, PIN_REL_STAT.HOT, PIN_REL_STAT.VREL_OK]
def PIN_HS.REG : Reg := regOf [PIN_HS.POL_INV, PIN_HS.CAP_DET, PIN_HS.TERM_OK]
def PIN_XTAL_REF.REG : Reg := regOf [PIN_XTAL_REF.PPM, PIN_XTAL_REF.OK]
def PIN_XTAL_AON.REG : Reg := regOf [PIN_XTAL_AON.PPM, PIN_XTAL_AON.OK]
def PIN_CNT_XTAL.REG : Reg := regOf [PIN_CNT_XTAL.COUNT]
def PIN_PAD_ADDR.REG : Reg := regOf [PIN_PAD_ADDR.BALL]
def PIN_PAD_DATA.REG : Reg := regOf [PIN_PAD_DATA.KIND, PIN_PAD_DATA.DOMAIN, PIN_PAD_DATA.OE, PIN_PAD_DATA.LEVEL]
def PIN_CNT_PAD_FAULT.REG : Reg := regOf [PIN_CNT_PAD_FAULT.COUNT]
def PIN_PAD_FAULT_LAST.REG : Reg := regOf [PIN_PAD_FAULT_LAST.BALL]

def regsPin0 : List Reg := [
  PIN_PROFILE.REG, PIN_CTL.REG, PIN_STAT.REG, PIN_IRQ_STAT.REG, PIN_IRQ_EN.REG, PIN_STRAP.REG, PIN_RESET.REG, PIN_RAIL.REG, PIN_VMON.REG, PIN_VHOLD.REG, PIN_TAMPER_PAD.REG, PIN_CNT_RAIL_FAULT.REG]

def regsPin1 : List Reg := [
  PIN_CNT_RESET_PIN.REG, PIN_EVT_CODE.REG, PIN_EVT_STAMP_LO.REG, PIN_EVT_STAMP_HI.REG, PIN_IO_CFG.REG, PIN_LF_CFG.REG, PIN_LF_STAT.REG, PIN_REL_CFG.REG, PIN_REL_STAT.REG, PIN_HS.REG, PIN_XTAL_REF.REG, PIN_XTAL_AON.REG]

def regsPin2 : List Reg := [
  PIN_CNT_XTAL.REG, PIN_PAD_ADDR.REG, PIN_PAD_DATA.REG, PIN_CNT_PAD_FAULT.REG, PIN_PAD_FAULT_LAST.REG]

/-- The registers of block PIN. -/
def regsPin : List Reg := regsPin0 ++ regsPin1 ++ regsPin2

/-- The registers of the block with a unit number (R25). -/
def regsOf : Nat → List Reg
  | 0x00 => regsSys
  | 0x01 => regsMer
  | 0x02 => regsHel
  | 0x03 => regsLfp
  | 0x04 => regsRad
  | 0x05 => regsTrn
  | 0x06 => regsDbx
  | 0x07 => regsAlm
  | 0x08 => regsSes
  | 0x09 => regsShu
  | 0x0A => regsEph
  | 0x0B => regsDom
  | 0x0C => regsKce
  | 0x0D => regsRng
  | 0x0E => regsAst
  | 0x0F => regsMem
  | 0x10 => regsPlt
  | 0x11 => regsBoot
  | 0x12 => regsPwr
  | 0x13 => regsHif
  | 0x14 => regsBln
  | 0x15 => regsMgt
  | 0x16 => regsEye
  | 0x17 => regsPin
  | _ => []

/-- Reset values per instance, where a block's text gives them: LFP_HOP (chapter 04), the step levels of R152 and
R153, SES_STATE_CNT, the pools of R283, RNG_INST_STAT (R419), MEM_ARR_STAT.PRIV (R482), PLT_REGION_CFG (R515),
BOOT_FUSE_GRP (R559), PIN_IO_CFG (R681). -/
def textRst (off lo i : Nat) : Nat :=
  match off with
  | 0x03000C => [0x122870, 0x1312D0, 0x147260].getD i 0
  | 0x040100 => (65536 + 5 * i - 700) % 65536
  | 0x040200 => if i < 4 then (65536 + 20 * i - 200) % 65536 else (65536 + 10 * i - 170) % 65536
  | 0x080080 => if i = 0 then 0x8000 else 0
  | 0x080100 =>
    if lo = 30 then [0, 0, 1, 2, 2, 2, 2, 2, 2, 2, 3].getD i 0
    else [32, 64, 1024, 128, 32, 64, 64, 128, 32, 32, 256].getD i 0
  | 0x0D0100 =>
    if lo = 28 then (if i = 2 then 1 else 0) else [1, 2, 3, 7, 8, 6, 5, 4, 11, 9, 10, 12].getD i 0
  | 0x0F0100 => if i = 0x32 ∨ i = 0x34 ∨ i = 0x35 ∨ i = 0x36 then 1 else 0
  | 0x100080 =>
    if lo = 24 then [0x00, 0x80, 0xA0, 0xA1, 0xA4, 0xA8, 0xB0, 0xC0].getD i 0
    else if lo = 16 then [128, 32, 1, 3, 4, 8, 16, 64].getD i 0
    else [0x04, 0x04, 0x04, 0xC0, 0xBA, 0x80, 0x05, 0x02].getD i 0
  | 0x110200 => if i < 4 ∨ i = 10 then 1 else 0
  | 0x170058 => [2, 1, 1, 1, 1, 1, 1, 1, 1].getD i 0
  | _ => 0

/-- The reset value of an instance of a field. -/
def Fld.rstAt (f : Fld) (i : Nat) : Nat := if f.src = .text then textRst f.off f.lo i else f.rst

end Sys2Proof.Machine
end

