-- ==== Sys2Proof/Machine/State.lean ====
section
/-! DEFINITION. The state of the FK-6410: the register file as one sparse table of field values, and beside it,
unit by unit, everything the chapters give the units that no register holds. Plain data throughout. -/

namespace Sys2Proof.Machine

/-! ## What stops a step -/

/-- Faults. The block has none of its own: every happening the spec describes leaves it in a next state. The one name
stands for a command that reaches the block while no VDD_AON supplies it (S4 of R577: nothing answers), raised by no
command today because S4 answers as "no effect"; safe. -/
inductive Fault where
  /-- The block has no supply. Raised by no meaning; safe. -/
  | noSupply
deriving DecidableEq, Repr

/-- Refusals. -/
inductive Refusal where
  /-- A row of the command table that has no meaning yet, by its mnemonic; safe. -/
  | notModelled (mnemonic : String)
deriving DecidableEq, Repr

/-! ## Meridian (chapter 02) -/

/-- An accepted trim of R61: its civil second and its signed magnitude in µs. -/
structure Trim where
  sec : Nat
  us : Int
deriving DecidableEq, Repr

/-- MER: the counter, civil time and the discipline loop. -/
structure MerS where
  /-- The 64-bit Meridian count (R44). -/
  count : Nat := 0
  /-- The era (R45). -/
  era : Nat := 0
  /-- civil_offset of R55, signed ns. -/
  offset : Int := 0
  /-- The remainder r of R55. -/
  rem : Nat := 0
  /-- MER_CIVIL_LEAP. -/
  leap : Nat := 0
  /-- The last checkpoint's civil minute-free time, in ns (R57). -/
  lastCkpt : Nat := 0
  /-- SEQ of the last checkpoint, of the last era word, and the next trim slot of R690. -/
  ckptSeq : Nat := 0
  eraSeq : Nat := 0
  trimNext : Nat := 0
  /-- The nonce of R63: value and stamp of its read. -/
  nonce : Option (Nat × Nat) := none
  /-- An armed time set (R63): SET_OFFSET, SET_LEAP, OFFSET, LEAP. -/
  armed : Option (Bool × Bool × Int × Nat) := none
  /-- The low word of a privileged write of MER_CIVIL_OFFSET. -/
  offsetLo : Nat := 0
  /-- The accepted trims, newest first, at most 16 (R61). -/
  trims : List Trim := []
  /-- The trim still to slew, in µs, and the stamp its slewing began (R62). -/
  pending : Int := 0
  slewFrom : Nat := 0
  /-- Stamp from which QUALITY has been what it is; the first valid measurement seen since ACQUIRING began. -/
  qualSince : Nat := 0
  measured : Bool := false
  /-- Stamp since which the error has held at or below 20 ps rms (R66). -/
  goodSince : Option Nat := none
  /-- Stamp of the last valid exchange with the master. -/
  lastValid : Nat := 0
  /-- The device has been FORMED since device reset, and the stamp since which BLN has been ALONE (R66). -/
  formed : Bool := false
  aloneSince : Nat := 0
  /-- The count at entry to S2 or S3 (R53). -/
  sleepCount : Option Nat := none
  /-- The values that the Plate store holds have been delivered since device reset (R16, R520). -/
  recalled : Bool := false
deriving DecidableEq, Repr

/-! ## Units and die links (chapter 01) -/

/-- One unit's record beside SYS_UNIT_STATE: how a move under R31 and MISMATCH under R36 stand. -/
structure UnitS where
  /-- The state the unit is moving to next, if any. -/
  target : Option Nat := none
  /-- Stamp since which reported and commanded states have differed. -/
  diffSince : Option Nat := none
  /-- Stamp since which MISMATCH has been set, or of the last automatic reset if that is later (R652). -/
  missFrom : Nat := 0
deriving DecidableEq, Repr

/-- A die-to-die link of R22. -/
structure DieLink where
  /-- Consecutive failed retries of the present packet. -/
  fails : Nat := 0
  down : Bool := false
deriving DecidableEq, Repr

/-! ## Plate store and archive (chapter 17) -/

/-- What a Plate store write carries, so that the unit that waits for its commit or confirmation finds it. -/
inductive PltTag where
  | plain
  /-- The archive record with an ARC_SEQ. -/
  | record (seq : Nat)
  /-- The per-token update of a session (R309). -/
  | perToken (session gen : Nat)
  /-- The per-token update of another member's session: its device, its request's tag, the session (R309). -/
  | remoteToken (dev tag session gen : Nat)
  /-- The open-release entry of a session (R323) written, or cleared. -/
  | openRel (session gen : Nat)
  | openRelClear (entry : Nat)
  /-- A journal entry's words, its COMMIT word, its follow-on writes and its WDONE (R353, R354). -/
  | journalBody (jseq : Nat)
  | journalCommit (jseq : Nat)
  | followOn (jseq : Nat)
  | journalDone (jseq : Nat)
  /-- The Ephemeris commit record (R360). -/
  | ephCommit
  /-- A civil checkpoint that carries out an armed set (R63), an ordinary one, the era, a trim (R690). -/
  | civilSet
  | ckpt
  | era
  | trim
  /-- A duty-ledger page of transceiver t and band b (R162). -/
  | ledger (t b : Nat)
  /-- A user calibration item (R565). -/
  | cal
  /-- Writes of the Dome to AUTHORITY (R514), by what they hold. -/
  | dome (what : Nat)
  /-- A refresh of R523. -/
  | refresh
  /-- The register port's write (R516). -/
  | port
  /-- The export pointer (R529). -/
  | exportPtr
deriving DecidableEq, Repr

/-- A write to the Plate store (R510, R518): its lane, its page operations still to start, and what it is. -/
structure PltWrite where
  id : Nat
  /-- Lane in the order of R518: 0 DOM, 1 ARC, 2 EPH, 3 SHADOW, 4 CAL, 5 refresh, 6 register port. -/
  lane : Nat
  ops : List (List (Nat × Nat))
  tag : PltTag
  /-- The stamp it was issued at. -/
  issued : Nat
  /-- It has a page operation running, so its next one waits (R510). -/
  active : Bool := false
deriving DecidableEq, Repr

/-- What follows when a record's commit point is reached, beside the record itself. -/
inductive RecFor where
  | none
  /-- The decision record of a session. -/
  | decision (session gen : Nat)
  /-- The end record of a session. -/
  | ending (session gen : Nat)
  /-- The closing record of a session's release. -/
  | closing (session gen : Nat)
  /-- The record of an output test (R322). -/
  | test (output : Nat)
  /-- The tamper record that ERASE waits for (R398). -/
  | tamper
deriving DecidableEq, Repr

/-- A request to the archive appender (R525, R526): everything but ARC_SEQ, CHAIN, CHECK and the fields taken at
writing. -/
structure ArcReq where
  kind : Nat
  code : Nat
  source : Nat
  stamp : Nat
  era : Nat
  located : Bool
  session : Nat
  body : List Byte
  recFor : RecFor
deriving DecidableEq, Repr

/-- A numbered record: its number, its 64 bytes (CHECK zero until sealed) and what it is for. -/
structure ArcRec where
  seq : Nat
  bytes : List Byte
  recFor : RecFor
deriving DecidableEq, Repr

/-- PLT: the array, the writes under way and the archive appender. -/
structure PltS where
  /-- The words of the array by word address (byte address / 8); an unlisted word reads 0. -/
  words : SMap Nat := []
  /-- Word addresses that read uncorrectable (R522). -/
  poison : List Nat := []
  /-- Writes issued, in issue order, and the next write's id. -/
  queue : List PltWrite := []
  nextId : Nat := 0
  /-- The page operation each bank runs: the write's id, its words and whether it is the write's last. -/
  banks : SMap (Nat × List (Nat × Nat) × Bool × PltTag) := []
  /-- Writes past their commit point, and confirmed, whose owner has not yet taken it up. -/
  committed : List PltTag := []
  confirmed : List PltTag := []
  /-- The appender: requests waiting, the record numbered and waiting for its seal, the record whose write has not
  reached its commit point, and those past it whose confirmation somebody awaits. -/
  arcQ : List ArcReq := []
  sealing : Option ArcRec := none
  writing : Option ArcRec := none
  written : List ArcRec := []
  /-- CHECK of the last record (R526) and the next number (R524). -/
  lastCheck : Nat := 0
  head : Nat := 1
  /-- Oldest record held, EXPORTED, and the losses of R531 since the last LOSS record: first and count. -/
  oldest : Nat := 1
  exported : Nat := 0
  exportSeq : Nat := 0
  lossFirst : Option Nat := none
  lossCount : Nat := 0
  /-- The BOOT record of R521 has been requested, and its stamp. -/
  bootDone : Bool := false
  bootAt : Nat := 0
  /-- A unit reset waits for the page operations that run (R536). -/
  resetPend : Bool := false
  /-- Stamp at which the register port's write began to wait (R519). -/
  portSince : Option Nat := none
  /-- The next word of the margin pass, and the stamp the pass began at (R523). -/
  marginAt : Nat := 0
  marginSince : Nat := 0
  /-- Stamp of the last sealing attempt. -/
  sealTried : Nat := 0
deriving DecidableEq, Repr

/-! ## Sessions (chapter 09) -/

/-- The context of a session queue (R265). -/
structure Ctx where
  state : Nat := 0
  prog : Nat := 0
  kind : Nat := 0
  zone : Nat := 0
  gen : Nat := 0
  cancelPend : Bool := false
  void : Bool := false
  waitCredit : Bool := false
  committed : Bool := false
  prio : Bool := false
  rangeOvf : Bool := false
  remoteWait : Bool := false
  code : Nat := 0
  core : Nat := 0xFF
  boundTrx : Nat := 0xFF
  dbCap : Nat := 0
  token : Nat := 0
  tdata : Nat := 0
  pend : Nat := 0
  waitPool : Nat := 0
  tOpen : Nat := 0
  tState : Nat := 0
  deadline : Nat := 0
  nonce : Nat := 0
  anchors : Nat := 0
  ephIndex : Nat := 0
  tokenState : Nat := 0
  boundRes : List Byte := []
  locRes : List Byte := []
  dec : Nat := 0
  relKind : Nat := 0
  relTarget : Nat := 0
  arcSeq : Nat := 0
  lfCarrier : Nat := 0
  lfCh : Nat := 0
  sofStamp : Nat := 0
  script : List Byte := []
deriving DecidableEq, Repr

/-- One entry of a session's range area (R266). -/
structure RangeEnt where
  rangeMm : Int
  sigma : Nat
  anchor : Nat
  nlos : Bool
  fallback : Bool
  arrival : Nat
  fpSnr : Nat
deriving DecidableEq, Repr

/-- A session program (R264). -/
structure Prog where
  zone : Nat
  flags : Nat
  script : Nat
  coreMask : Nat
  anchors : Nat
  boundTrx : Nat
  nExch : Nat
  minAnch : Nat
deriving DecidableEq, Repr

/-- What SES keeps for a session beside its context. -/
structure SesAux where
  /-- The range area (R266). -/
  ranges : List RangeEnt := []
  /-- The exchanges of R271 still planned: anchors in order. -/
  plan : List Nat := []
  /-- Codes of the exchanges of the plan that failed. -/
  fails : List Nat := []
  /-- Stamp of entry to WAKE, from which SESSION_MAX runs (R270). -/
  tWake : Nat := 0
  /-- Time taken out of DECIDE_TO and SESSION_MAX: total so far, and since when the present pause runs (R270). -/
  paused : Nat := 0
  pauseFrom : Option Nat := none
  /-- Stamp from which the present credit wait runs (R287). -/
  waitFrom : Nat := 0
  /-- The button frame or held reply that opened the session: counter, button, payload, check (R295, R134). -/
  frame : List Byte := []
  /-- REASON of the failing step for the end record (R528). -/
  reason : Nat := 0
  /-- The parameters of the session call GRANT (R311): DUR or pulse, VU_ID. -/
  relParam : List Nat := []
  /-- The end record has been requested, and its commit seen; the decision record likewise. -/
  recWait : Bool := false
  /-- Stamp at which the per-token update was issued (R309). -/
  ptSince : Option Nat := none
  /-- CHALLENGE: the derived key and the nonce have arrived. -/
  keyReady : Bool := false
  nonceReady : Bool := false
  /-- A solve has been delivered with OK, so the records carry X, Y, Z and b (R528). -/
  located : Bool := false
  /-- The state in which the session ended (R528). -/
  endState : Nat := 0
  /-- The SHU credit is held (R283). -/
  shuHeld : Bool := false
  /-- The token record that the lookup returned (R344). -/
  record : List Byte := []
  /-- The rolling counter that an accepted check leaves (R302), and that the ending counts as a failure (R305). -/
  newCtr : Option Nat := none
  failed : Bool := false
  /-- The per-token word still to commit before the session's record (R309), and that the open-release entry is still to
  commit (R313). -/
  ptWord : Option Nat := none
  orWait : Bool := false
  /-- The ARC credit is held (R283). -/
  arcHeld : Bool := false
  /-- The session's record has been requested. -/
  recSent : Bool := false
  /-- The member that holds the token's partition and the claim, when it is not this device (R366). -/
  holder : Option Nat := none
  /-- After a switch of images (R556): the program in force at the open, and that its step runs under the old bundle. -/
  oldProg : Option Prog := none
  oldBundle : Bool := false
  /-- Its step is queued, or was dispatched, by AGAIN (R465). -/
  again : Bool := false
deriving DecidableEq, Repr

/-- A completion held in a CPL slot (R284). -/
structure Cpl where
  session : Nat
  gen : Nat
  /-- The pool whose credit returns when it is consumed (R283). -/
  pool : Nat
  code : Nat
  reason : Nat
  /-- The result: for EPH the record and word, for TRN the 32 bytes of R182, for DBX the 16 bytes of R223, for ALM
  the 64 bytes of R246, for RNG the nonce, for KCE the MATCH byte. -/
  data : List Byte
  epoch : Nat
deriving DecidableEq, Repr

/-- A claim of R285 that waits: the session, the pools it names together. -/
structure Claim where
  session : Nat
  pools : List Nat
  since : Nat
  remote : Bool := false
deriving DecidableEq, Repr

/-- SES. -/
structure SesS where
  /-- Contexts of the queues that are not FREE (R257, R265). -/
  ctx : SMap Ctx := []
  aux : SMap SesAux := []
  /-- GEN of each queue, 0 where unlisted (R259). -/
  gens : SMap Nat := []
  /-- The FREE list of R258: queues from `freshFrom` up that were never taken, then the tail. -/
  freshFrom : Nat := 0
  freeTail : List Nat := []
  /-- Programs by number (R264). -/
  progs : SMap Prog := []
  /-- Completions held in CPL, oldest first, and claims that wait, oldest first (R284, R286). -/
  cpl : List Cpl := []
  claims : List Claim := []
  /-- Credits of each pool held for requests of other members (R288). -/
  remoteUse : SMap Nat := []
  /-- Refused BUTTON and WATCH opens: in the present second, in the one before, and the present second (R262). -/
  refuseNow : Nat := 0
  refusePrev : Nat := 0
  refuseSec : Nat := 0
  /-- Sessions ready for a step (R279). -/
  ready : List Nat := []
  /-- The pools wait for the purge to be acknowledged (R291). -/
  purging : Bool := false
deriving DecidableEq, Repr

/-! ## Host interface (chapter 20) -/

/-- An event of R607. -/
structure HifEvent where
  seq : Nat
  source : Nat
  cls : Nat
  code : Nat
  stamp : Nat
  era : Nat
  session : Nat
  word : Nat
  arg : Nat
deriving DecidableEq, Repr

/-- HIF. -/
structure HifS where
  /-- Slot flags: 1 DEVICE, 2 HOST; unlisted slots are NOBODY (R599). -/
  flags : SMap Nat := []
  /-- Content of the window slots: at most 4,096 bytes each; unlisted slots hold 0. -/
  slots : SMap (List Byte) := []
  /-- The event slot held, its events, and the stamp of its first (R609). -/
  evSlot : Option Nat := none
  evBuf : List HifEvent := []
  evFirst : Nat := 0
  /-- The queue of R610 and the events lost since the last event slot. -/
  evQueue : List HifEvent := []
  evLost : Nat := 0
  /-- Next slots of the statistics ring; snapshot number; stamp of the last snapshot (R611). -/
  statNext : Nat := 0
  snap : Nat := 0
  snapLast : Nat := 0
  /-- Interrupt sources pending: unit number, or 24 for the event source, with the stamp it became pending (R616). -/
  pend : SMap Nat := []
  /-- Stamp each vector was last sent, masked vectors, and held messages of the pending-bit array (R617). -/
  vecLast : SMap Nat := []
  masked : List Nat := []
  held : List Nat := []
  /-- Messages sent by vector, newest first, as the host sees them. -/
  sent : List Nat := []
  /-- Configuration space as the host last had it: BARs enabled, MSI-X enabled, MSI vectors granted (R593, R616,
  R618). -/
  barOn : Bool := false
  msixOn : Bool := false
  msiVecs : Nat := 0
  /-- Stamp since which the link has been down (R618); R618 has been applied to the present loss. -/
  downSince : Option Nat := some 0
  downDone : Bool := false
  /-- Stamp at which each port's VIEW grant ends (R391, R614). -/
  grantEnd : SMap Nat := []
deriving DecidableEq, Repr


/-! ## Heliostat (chapter 03) -/

/-- A control point of a zone program (R99): its type (0 inside, 1 outside, 2 ignored) and its complex sensitivity to
each channel in µA/m per A, real and imaginary part by channel. -/
structure HelPoint where
  typ : Nat
  sens : SMap (Int × Int)
deriving DecidableEq, Repr

/-- A zone program (R99). -/
structure ZoneProg where
  flags : Nat
  mask : Nat
  hWake : Nat
  mIn : Nat
  mOut : Nat
  points : List HelPoint
deriving DecidableEq, Repr

/-- The solution of a zone at a carrier for one channel (R100): current in nA and voltage in nV, real and imaginary. -/
structure ChSol where
  ch : Nat
  i : Int × Int
  v : Int × Int
deriving DecidableEq, Repr

/-- The last solve of a zone at a carrier: OK with its channels, or the reason. -/
structure ZoneSol where
  code : Nat
  chans : List ChSol
deriving DecidableEq, Repr

/-- A queued column (R89): its rank, carrier index and channel. -/
structure HelCol where
  rank : Nat
  car : Nat
  ch : Nat
deriving DecidableEq, Repr

/-- A measurement slot (R91): the columns still to measure, the stamp the present one began, and its probe current in mA
(R88). -/
structure HelSlot where
  cols : List (Nat × Nat)
  start : Nat
  probe : Nat
deriving DecidableEq, Repr

/-- HEL. -/
structure HelS where
  /-- Zone programs by zone. -/
  progs : SMap ZoneProg := []
  /-- Z in µΩ by 4096 × carrier + 64 × row + column (R84), the value each entry had before its fresh measurement, and the
  fresh entries whose partner is not fresh yet (R86). -/
  z : SMap (Int × Int) := []
  zOld : SMap (Int × Int) := []
  /-- Ratios of currents in 10^-9 whose own self term is not measured yet (R85). -/
  ratio : SMap (Int × Int) := []
  fresh : List Nat := []
  /-- Columns measured since reset, as 64 × carrier + channel; pairs measured once more (R86). -/
  done : List Nat := []
  again : List Nat := []
  /-- The column queue in order of service, and consecutive postponements by 64 × carrier + channel (R87). -/
  cols : List HelCol := []
  late : SMap Nat := []
  /-- Stamp since which a measurement slot is asked for, and the slot that runs. -/
  slotSince : Option Nat := none
  slot : Option HelSlot := none
  /-- Stamp of the last periodic queueing (R89). -/
  periodAt : Nat := 0
  /-- Solves waiting, as (zone, carrier), and solutions by 4 × zone + carrier. -/
  solves : List (Nat × Nat) := []
  sols : SMap ZoneSol := []
  /-- Channels whose calibration is queued, and those of them that are in release from quarantine (R103). -/
  calQ : List Nat := []
  release : List Nat := []
  /-- Stamps of the trips of the last 60 s by channel, newest first (R77). -/
  trips : SMap (List Nat) := []
  /-- Stamp each channel entered TEST (R80). -/
  testAt : SMap Nat := []
  /-- Loop correction of the present burst by channel, in 0.01 % rounded up (R89). -/
  corr : SMap Nat := []
  /-- Consecutive bursts over DRIFT_PCT by channel (R89). -/
  drift : SMap Nat := []
  /-- Channel has valid calibration values by channel: user values as loaded; unlisted follow the fuses (R83). -/
  calOk : SMap Nat := []
  /-- The raising steps left of each zone's level (R96). -/
  ramp : SMap Nat := []
  /-- The carrier last used by LFP in each zone. -/
  zoneCar : SMap Nat := []
deriving DecidableEq, Repr


/-! ## LF polling (chapter 04) -/

/-- An LF exchange past its commit point (R107, R131). -/
structure LfpEx where
  zone : Nat
  /-- The schedule entry of a poll; none for a directed wake. -/
  entry : Option Nat
  /-- The owner, and whether there is one (S3 polls have none). -/
  owned : Bool
  session : Nat
  gen : Nat
  committed : Bool := true
  void : Bool := false
  car : Nat
  /-- Stamp of the first gate edge, and the ticks of a carrier cycle of it, times 1024. -/
  start : Nat
  cycle : Nat
  arb : Bool
  fmt : Nat
  rate : Nat
  /-- The SOF's leading edge, that the turnaround window has closed, and that its outcome is decided. -/
  sof : Option Nat := none
  closed : Bool := false
  ended : Bool := false
  /-- The channels that drive, the solution the burst began with (R92), and kq in force. -/
  chans : List Nat
  sol : List ChSol
  kq : Nat
deriving DecidableEq, Repr

/-- A wake window (R119): of a directed wake, or of a poll's owner once its first exchange is committed. -/
structure LfpWin where
  session : Nat
  gen : Nat
  zone : Nat
  entry : Option Nat
  wakeId : Nat
  rate : Nat
  md : Nat
  fmt : Nat
  since : Nat
  paused : Nat := 0
  pauseFrom : Option Nat := none
  tries : Nat := 0
  tried : List Nat := []
  arb : Bool := false
  /-- Earliest stamp of the next exchange (HOP_GAP), the carrier to keep, and that it is a hop (R126). -/
  next : Nat := 0
  keep : Option Nat := none
  hop : Bool := false
  /-- It was deferred by a measurement slot (R120). -/
  deferred : Bool := false
deriving DecidableEq, Repr

/-- A poll asked for or due (R117, R118): its entry, its due stamp, its owner. -/
structure LfpPoll where
  entry : Nat
  due : Nat
  asked : Bool
  owner : Option (Nat × Nat)
  isDue : Bool
  deferred : Bool := false
  /-- Carriers already tried (R134). -/
  tried : List Nat := []
deriving DecidableEq, Repr

/-- LFP. -/
structure LfpS where
  ex : List LfpEx := []
  wins : List LfpWin := []
  polls : List LfpPoll := []
  /-- Hop carriers still in force, by index, until the exchanges that use them end (R123). -/
  hopOld : SMap Nat := []
  /-- The reply held in S3 (R134): the body, the format, the entry, the carrier and the channel, and its SOF. -/
  held : Option (Nat × Nat × Nat × Nat × Nat × Nat) := none
  /-- A drowned frame in S3 whose hop runs in S0 (R134): entry and carrier. -/
  heldHop : Option (Nat × Nat) := none
  /-- Stamp of the last monitor run. -/
  monAt : Nat := 0
deriving DecidableEq, Repr


/-! ## Radio (chapter 05) -/

/-- A state request to a transceiver (R141): who asks (as OWNER codes it), the state, the channel, the step, the planned
airtime in µs, the follow-on state, HOLD (R145), and the UHF options. -/
structure RadReq where
  owner : Nat
  target : Nat
  ch9 : Nat := 0
  freq : Nat := 0
  step : Nat := 0
  air : Nat := 0
  follow : Nat := 2
  hold : Bool := false
  /-- MOD, DEV in kHz, and RATE of R149. -/
  mod : Nat := 0
  dev : Nat := 0
  rate : Nat := 0
deriving DecidableEq, Repr

/-- A transceiver beside its registers. -/
structure Trx where
  /-- The step in progress: the state it leads to, its start, its length in ticks, and that it was extended (R140). -/
  dest : Option Nat := none
  start : Nat := 0
  dur : Nat := 0
  ext : Bool := false
  /-- The request in force, until it completes; the follow-on state after it. -/
  req : Option RadReq := none
  follow : Nat := 2
  hold : Bool := false
  /-- Stamp from which the idle timers run (R145). -/
  idleFrom : Nat := 0
  /-- Start of the transmission in progress, its band, the planned time not yet counted, and what it asked for. -/
  txFrom : Option Nat := none
  txBand : Nat := 0
  planned : Nat := 0
  txReq : Option RadReq := none
  /-- The calibration item in progress, that it is the start-up calibration, the state it began in, and that RETURN has
  passed in it. -/
  calItem : Option Nat := none
  calBoot : Bool := false
  calFault : Bool := false
  calReturn : Bool := false
  calResult : Nat := 0
deriving DecidableEq, Repr

/-- A duty ledger (R160): 60 bins in µs, and the present bin as last written. -/
structure Ledger where
  bins : List Nat := List.replicate 60 0
  written : Nat := 0
deriving DecidableEq, Repr

/-- RAD. -/
structure RadS where
  trx : SMap Trx := []
  /-- Ledgers by 8 × transceiver + band. -/
  led : SMap Ledger := []
  /-- The Meridian minute the ledgers stand in. -/
  minute : Nat := 0
  /-- The minute of the last archived refusal of each ledger (R164). -/
  refused : SMap Nat := []
  /-- Calibrations queued. -/
  calQ : List Nat := []
  /-- A frame held by the always-on domain in S3 (R171), with its stamp. -/
  held : Option (List Byte × Nat) := none
  /-- Stamp of the last watch cycle. -/
  watchAt : Nat := 0
deriving DecidableEq, Repr



/-! ## Transit (chapter 06) and distance bounding (chapter 07) -/

/-- Whom an exchange is for. -/
inductive ExFor where
  /-- The session's RANGE. -/
  | session
  /-- DBX in its fallback (R221). -/
  | dbx
  /-- Another member: its device and its request's tag (R203). -/
  | remote (dev tag : Nat)
deriving DecidableEq, Repr

/-- A ranging exchange on a transceiver (R177). -/
structure Exch where
  session : Nat
  gen : Nat
  dest : ExFor
  token : Nat
  nonce : Nat
  anchor : Nat
  seq : Nat
  /-- 0 waiting for its slot, then PHASE of TRN_TRX_STAT; 9 a retryable failure waits for RETRY. -/
  phase : Nat := 0
  ds : Bool
  /-- Start of its slot, and the drawn offset r (R180, R202). -/
  slot : Nat
  r : Nat
  retries : Nat := 0
  pad : Bool := false
  /-- A capture is asked for. -/
  cap : Bool := false
  /-- The session was cancelled at or after the commit point (R201). -/
  void : Bool := false
  pollTx : Nat := 0
  respRx : Nat := 0
  finalTx : Nat := 0
  fpSnr : Nat := 0
  stsQ : Nat := 0
  nlos : Bool := false
  eps : Int := 0
  /-- Reason of the failure that waits for RETRY. -/
  fail : Nat := 0
deriving DecidableEq, Repr

/-- A pre-armed transceiver (R198): the session, its generation, the stamp. -/
structure PreArm where
  session : Nat
  gen : Nat
  since : Nat
deriving DecidableEq, Repr

/-- A ranging request at another member (R203): the session, the anchor, the planned end and the request's tag. -/
structure TrnAway where
  session : Nat
  gen : Nat
  anchor : Nat
  until' : Nat
  tag : Nat
  /-- It is an exchange of DBX's fallback. -/
  dbx : Bool := false
deriving DecidableEq, Repr

/-- TRN. -/
structure TrnS where
  /-- Exchanges and pre-arms by transceiver. -/
  ex : SMap Exch := []
  pre : SMap PreArm := []
  /-- Pre-arms whose transceiver a session in RANGE has taken (R199). -/
  displaced : SMap PreArm := []
  /-- Next SEQ of each session, and offsets drawn for it and unused. -/
  seqs : SMap Nat := []
  offsets : SMap (List Nat) := []
  /-- Start of the last POLL's slot by transceiver (R202). -/
  lastPoll : SMap Nat := []
  /-- Stamps of the capture slots of the last second, newest first (R196). -/
  caps : List Nat := []
  /-- Stamps of the exchanges completed in the last second. -/
  doneAt : List Nat := []
  /-- The calibration that runs: its transceiver (R193). -/
  cal : Option Nat := none
  /-- Remote exchanges that wait (R203). -/
  away : List TrnAway := []
deriving DecidableEq, Repr

/-- A challenge block (R211): its 128 bits, the session's generation, and the stamp of the draw. -/
structure DbxBlock where
  bits : Nat
  gen : Nat
  since : Nat
deriving DecidableEq, Repr

/-- The response vectors of a session (R209). -/
structure DbxVec where
  seq : Nat
  /-- The number of bits they were computed for. -/
  n : Nat
  r0 : Nat
  r1 : Nat
deriving DecidableEq, Repr

/-- A bounding request in hand (R208). -/
structure DbxEx where
  session : Nat
  gen : Nat
  token : Nat
  nonce : Nat
  /-- PHASE of DBX_TRX_STAT. -/
  phase : Nat
  seq : Nat := 0
  n : Nat
  turn : Nat
  retries : Nat := 0
  /-- The challenge bits in use once RAPID_BIT is committed. -/
  bits : Nat := 0
  void : Bool := false
  fallback : Bool := false
  /-- The anchor of BOUND_TRX: 16 × device + transceiver. -/
  anchor : Nat := 0
  /-- Fallback: exchanges still to start, and the results that have come (code, range in mm). -/
  left : Nat := 0
  results : List (Nat × Int) := []
  /-- What was observed of each challenge: round trip and polarity. -/
  obs : List (Option (Int × Bool)) := []
  /-- Stamp at which the transceiver left RAPID_BIT. -/
  leftAt : Nat := 0
deriving DecidableEq, Repr

/-- DBX. -/
structure DbxS where
  blocks : SMap DbxBlock := []
  vecs : SMap DbxVec := []
  ex : SMap DbxEx := []
deriving DecidableEq, Repr



/-! ## Almucantar (chapter 08) -/

/-- An anchor of the anchor table (R232). -/
structure Anchor where
  x : Int
  y : Int
  z : Int
  surv : Nat
  valid : Bool
deriving DecidableEq, Repr

/-- A zone region (R247): vertices as (x, y). -/
structure Region where
  acceptUnc : Bool
  zSig : Nat
  zLo : Int
  zHi : Int
  verts : List (Int × Int)
deriving DecidableEq, Repr

/-- Who a solve is for (R249, R252). -/
inductive SolveFor where
  /-- A session of this device. -/
  | session (n gen : Nat)
  /-- A request of another member: the device and its tag. -/
  | remote (device tag : Nat)
  /-- A CP2 request of a core, with its tag. -/
  | core (c tag : Nat)
deriving DecidableEq, Repr

/-- A solve request: its inputs as range-area entries, the zone (255 for none), and how many inputs R234 ignored. -/
structure SolveReq where
  dest : SolveFor
  zone : Nat
  inputs : List RangeEnt
  ignored : Nat
  poisoned : Bool
  /-- Stamp of the request, and whether it went to the master (R249) or is the local solve of R251. -/
  since : Nat
  sent : Bool := false
  fallback : Bool := false
  /-- TABLE_SEQ of the requester (R250), and the table in use when service began (R255). -/
  tableSeq : Nat := 0
  /-- Tag of the request to the master. -/
  tag : Nat := 0
deriving DecidableEq, Repr

/-- A residual of the last solve (R240, ALM_RES_DATA). -/
structure Resid where
  used : Bool
  dropped : Bool
  nlos : Bool
  nres : Int
deriving DecidableEq, Repr

/-- ALM. -/
structure AlmS where
  anchors : SMap Anchor := []
  regions : SMap Region := []
  /-- Session and member requests in order of arrival, then CP2 requests (R252). -/
  queue : List SolveReq := []
  cp2 : List SolveReq := []
  /-- Requests sent to the master that wait for its result (R249, R251). -/
  away : List SolveReq := []
  /-- Residuals of the last solve by anchor. -/
  resid : SMap Resid := []
  /-- An image's anchor table and regions that take effect between solves (R255), with SEQ and CRC. -/
  next : Option (SMap Anchor × SMap Region × Nat × Nat) := none
deriving DecidableEq, Repr



/-! ## Shutter (chapter 10) -/

/-- An entry of the resync table (R301, R303): the token with its KV, the counter, and the stamp. -/
structure Resync where
  token : Nat
  ctr : Nat
  stamp : Nat
deriving DecidableEq, Repr

/-- An entry of the release table (SHU_REL_DATA). -/
structure Rel where
  /-- 1 QUEUED, 2 RUNNING, 3 CLOSING. -/
  state : Nat
  kind : Nat
  target : Nat
  session : Nat
  gen : Nat
  arcSeq : Nat
  toDs : Nat
  tries : Nat := 0
  code : Nat := 0
  tStart : Nat := 0
  vuId : Nat := 0
  validDs : Nat := 0
  reason : Nat := 0
  /-- Stamp of the last send, and that ACK or ACCEPTED has come. -/
  sent : Nat := 0
  acked : Bool := false
  /-- SEQ of the node command. -/
  seq : Nat := 0
  /-- The record of its decision is confirmed, so the action may begin. -/
  begun : Bool := false
  /-- Number of its closing record. -/
  closeSeq : Option Nat := none
  /-- The action has started. -/
  started : Bool := false
deriving DecidableEq, Repr

/-- What Shutter keeps for an output beside its registers. -/
structure OutS where
  /-- Stamp since which the fault's condition has been absent. -/
  absent : Option Nat := none
  /-- The loop has left the state that PASS_ON selects since the output was asserted (R320). -/
  left : Bool := false
  /-- Stamp of the end of the last release session (R318), and of the last assertion. -/
  endAt : Nat := 0
  onAt : Nat := 0
  /-- A test: 1 its record is to be confirmed, 2 the output is pulsed (R322). -/
  test : Nat := 0
deriving DecidableEq, Repr

/-- An open-release entry (R323, R690). -/
structure OpenRel where
  session : Nat
  gen : Nat
  kind : Nat
  target : Nat
  arcFrom : Nat
deriving DecidableEq, Repr

/-- SHU. -/
structure ShuS where
  /-- The payloads of the last 64 frames that opened a session, newest first, with their arrivals (R297). -/
  kept : List (List Byte × Nat) := []
  /-- The resync table, oldest first (R303). -/
  resync : List Resync := []
  /-- The release table by entry. -/
  rel : SMap Rel := []
  outs : SMap OutS := []
  /-- The open-release list by entry. -/
  openRel : SMap OpenRel := []
  /-- Entries found at device reset that are still to resolve (R324). -/
  toResolve : List Nat := []
  /-- Node identity (8 bytes), controller and next command sequence by handle, as Finder learned them. -/
  nodeId : SMap (List Byte) := []
  nodeBus : SMap Nat := []
  nodeSeq : SMap Nat := []
  /-- Stamp of the last status query of a permit by release entry. -/
  polled : SMap Nat := []
  /-- Controllers whose bus-off recovery RESTART has started (R325). -/
  restart : List Nat := []
  /-- Stamp of the last open-load test by output (R319). -/
  loadTest : SMap Nat := []
deriving DecidableEq, Repr



/-! ## Ephemeris (chapter 11) -/

/-- The commit record (R360). -/
structure EphCommit where
  seq : Nat
  root : List Byte
  folded : Nat
  salt : Nat
  npart : Nat
  part : Nat
deriving DecidableEq, Repr

/-- Who asked for a change. -/
inductive EphDest where
  /-- A session's script on a core. -/
  | core (c n gen : Nat)
  /-- A submission through EPH_CODE_DIGITS_HI. -/
  | code
  /-- An accepted envelope of a port. -/
  | env (port : Nat)
  /-- Another member, by its device and its request's tag (R366). -/
  | remote (dev tag : Nat)
  /-- Nobody waits (a replay). -/
  | nobody
deriving DecidableEq, Repr

/-- A change that waits for its pages or its turn (R346, R352). -/
structure EphChange where
  op : Nat
  route : Nat
  token : Nat
  kv : Nat := 0
  record : List Byte := []
  word : Option Nat := none
  template : Nat := 0
  num : Nat := 0
  expDay : Nat := 0
  digits : Nat := 0
  /-- BY of the record it writes. -/
  by' : Nat := 0
  dest : EphDest
  since : Nat
deriving DecidableEq, Repr

/-- A journal entry (R353) and how far it has come: 0 its words are issued, 1 its COMMIT word, 2 committed, 3 its
follow-on writes are issued, 4 its WDONE is issued, 5 done. -/
structure JEntry where
  jseq : Nat
  op : Nat
  route : Nat
  slot : Nat
  min : Nat
  word : Option Nat
  window : Bool
  template : Nat
  num : Nat
  record : List Byte
  dest : EphDest
  stage : Nat
  /-- TOKEN_ID of the record changed. -/
  token : Nat
deriving DecidableEq, Repr

/-- A claim of R308 and R343: the token, the session, its generation and its device. -/
structure EphClaim where
  token : Nat
  session : Nat
  gen : Nat
  device : Nat
deriving DecidableEq, Repr

/-- EPH. -/
structure EphS where
  /-- The commit record in force, and the copy the next change writes (R360). -/
  commit : Option EphCommit := none
  copyB : Bool := false
  /-- The commit record being written, with what follows: the device reload of an ADOPT, or a compaction. -/
  newCommit : Option EphCommit := none
  /-- Step 2 of R361 has passed. -/
  accepted : Bool := false
  /-- Pages below `sweep` and those fetched ahead are verified, but for the bad and the suspect ones. -/
  sweep : Nat := 0
  fetched : List Nat := []
  bad : List Nat := []
  suspect : List Nat := []
  /-- Failed fetches of a page. -/
  tries : SMap Nat := []
  /-- The records in DRAM by slot; an unlisted slot is EMPTY. -/
  slots : SMap (List Byte) := []
  /-- Leaf values t0 and L1 as held; unlisted ones have not been copied. -/
  leaf : SMap (List Byte) := []
  l1 : SMap (List Byte) := []
  /-- Journal entries above JSEQ_FOLDED, in JSEQ order, and the next number. -/
  journal : List JEntry := []
  nextJ : Nat := 1
  /-- Lookups that wait for a page: session and generation. -/
  waiting : List (Nat × Nat) := []
  /-- Pages wanted ahead of the sweep, at most 16. -/
  wanted : List Nat := []
  changes : List EphChange := []
  claims : List EphClaim := []
  /-- Windows of the templates: H and the map of the 64 values below it (R348). -/
  windows : SMap (Nat × Nat) := []
  /-- Stamps of the wrong codes within CODE_WIN, newest first (R349). -/
  wrong : List Nat := []
  /-- The search of EPH_FIND, with its stamp. -/
  find : Option (Nat × Nat) := none
  /-- The compaction's J, its sectors, and the stamp of the last compaction (R363, R364). -/
  compJ : Nat := 0
  compSectors : List Nat := []
  compLast : Nat := 0
  /-- Partition to holder, by device (R365). -/
  holders : SMap Nat := []
  /-- Lookups at another member, as (session, generation, tag), and changes there, by tag (R366). -/
  away : List (Nat × Nat × Nat) := []
  awayCh : SMap EphChange := []
deriving DecidableEq, Repr



/-! ## Dome (chapter 12) -/

/-- The installed keys of R377; an absent key is an empty byte string. -/
structure DomKeys where
  ktr : List Byte := []
  katb : List Byte := []
  kau : List Byte := []
  kcomm : List Byte := []
  fk : List Byte := []
deriving DecidableEq, Repr

/-- A key bank in AUTHORITY (R379): the life-cycle value and the Dome measurement of its tag, and the keys it wraps. -/
structure DomBank where
  lc : Nat
  dm : List Byte
  keys : DomKeys
deriving DecidableEq, Repr

/-- An envelope queued on a port (R396). -/
structure DomEnv where
  port : Nat
  bytes : List Byte
deriving DecidableEq, Repr

/-- An accepted envelope whose consuming commit has not been reached (R393), or a transition under way (R374): its
stage is 0 before the consuming commit, 1 before the pending record's, 2 before the bank's. -/
structure DomJob where
  port : Nat
  typ : Nat
  bytes : List Byte
  stage : Nat
deriving DecidableEq, Repr

/-- A generated key (R387). -/
structure GKey where
  key : List Byte
  nextReset : Bool
  core : Nat
  /-- The script that created it (R380). -/
  script : Nat
  uses : Nat
deriving DecidableEq, Repr

/-- The working-key register (R381): the two shares are held as the key they make. -/
structure WKey where
  cls : Nat
  req : Nat
  uses : Nat
  key : List Byte
  session : Nat
  gen : Nat
deriving DecidableEq, Repr

/-- DOM. -/
structure DomS where
  keys : DomKeys := {}
  /-- The two banks of the authority region. -/
  bankA : Option DomBank := none
  bankB : Option DomBank := none
  /-- The pending-transition record (R374): the target state and what the target introduces. -/
  pend : Option (Nat × DomKeys) := none
  /-- A MIGRATE bank's Dome measurement and version (R401). -/
  migrate : Option (List Byte × Nat) := none
  /-- Envelopes queued, oldest first, and the port served last (R396). -/
  queue : List DomEnv := []
  lastPort : Nat := 4
  job : Option DomJob := none
  /-- Live nonces with the stamp of their reads, oldest first (R395). -/
  nonces : List (Nat × Nat) := []
  gkeys : SMap GKey := []
  wk : Option WKey := none
  /-- Keys derived for sessions: KTOK, KS and the nonce bound, by session (R380, R402). -/
  sesKeys : SMap (List Byte) := []
  /-- EXPORT_DONE has been written (R389). -/
  exportDone : Bool := false
  /-- Device resets since VENDOR (R388). -/
  boots : Nat := 0
  /-- Stamps at which sensor conditions became absent (R398). -/
  absent : SMap Nat := []
  /-- Refusals in the present Meridian second, in the one before, and the present second (R393). -/
  badNow : Nat := 0
  badPrev : Nat := 0
  badSec : Nat := 0
  /-- Stamp of the last re-masking (R382). -/
  maskAt : Nat := 0
  /-- The order of erasure of R398: ERASE waits for the tamper record's commit. -/
  erasing : Bool := false
  /-- The latches that hold HALT, and a response that waits for steps 5 and 6 of a transition (R375, R398): 1 HALT, 2
  ERASE. -/
  haltBy : Nat := 0
  owed : Nat := 0
deriving DecidableEq, Repr


/-! ## Keyed check engine and random numbers (chapter 13) -/

/-- Whom a KCE result is for. -/
inductive KceDest where
  /-- Session n with its generation. -/
  | session (n gen : Nat)
  /-- A core's CP1 request with its tag. -/
  | core (c tag : Nat)
  /-- The unit of the lane itself. -/
  | unit
deriving DecidableEq, Repr

/-- A KCE request (R403, R404): its lane and level, arrival, kind, key class, message and expected value. -/
structure KceReq where
  lane : Nat
  level : Nat
  arrival : Nat
  /-- Stamp from which the age of R405 runs. -/
  aged : Nat
  verify : Bool
  cls : Nat
  key : List Byte
  msg : List Byte
  expect : List Byte
  dest : KceDest
  /-- The generated-key slot of a CP1 request. -/
  gslot : Nat := 0
  /-- Blocks left (R409). -/
  left : Nat
  started : Bool := false
deriving DecidableEq, Repr

/-- KCE. -/
structure KceS where
  /-- Requests whose arrival on their lane has not happened yet. -/
  offered : List KceReq := []
  /-- Queued requests in order of arrival. -/
  queue : List KceReq := []
  running : Option KceReq := none
  /-- Stamp from which the running message waits for a mask reseed (R406). -/
  maskWait : Option Nat := none
  /-- Suspended contexts, newest first, at most 8 (R409). -/
  ctxs : List KceReq := []
  /-- ALARM_TEST forces a mismatch in the next message; KAT_RUN waits for the running message (R413). -/
  alarmTest : Bool := false
  /-- A known-answer test has failed: every request completes with KCE_ALARM (R413). -/
  katBad : Bool := false
deriving DecidableEq, Repr

/-- A generate request that waits (R420). -/
structure RngReq where
  inst : Nat
  n : Nat
  bytes : Nat
  since : Nat
deriving DecidableEq, Repr

/-- RNG. -/
structure RngS where
  /-- Stamps of the failures of the last 60 s, newest first (R416). -/
  fails : List Nat := []
  /-- Stamps of the last reseed of each instance; an unlisted instance is not instantiated (R418). -/
  seeded : SMap Nat := []
  waiting : List RngReq := []
  /-- The host FIFO (R421). -/
  fifo : List Nat := []
  /-- Blocks conditioned in the present second, and that second (RNG_RAW_RATE). -/
  blkSec : Nat := 0
  blkCount : Nat := 0
deriving DecidableEq, Repr



/-! ## Astrolabe cores (chapters 14 and 15) -/

/-- A request of a core on a coprocessor (R450–R452). -/
structure CpReq where
  tag : Nat
  func : Nat
  /-- The request block as copied at issue, and the address of the result area, 0 for none. -/
  block : List Byte
  result : Nat
  since : Nat
deriving DecidableEq, Repr

/-- One coprocessor of a core: the outstanding request, the last completion word, whether it is still unread (line 2 of
R471), the issue sequence, and a completion that waits to become visible: code, DETAIL and result bytes. -/
structure CpS where
  out : Option CpReq := none
  last : Option Nat := none
  unread : Bool := false
  seq : Nat := 0
  done : Option (Nat × Nat × List Byte) := none
deriving DecidableEq, Repr

/-- A core (R425–R429, R454, R468). -/
structure Core where
  /-- g0–g15, 32 bits each (R425). -/
  g : List Nat := List.replicate 16 0
  /-- The accumulators, 72 bits each (R425). -/
  a0 : Nat := 0
  a1 : Nat := 0
  /-- PC, 16 bits (R425). -/
  pc : Nat := 0
  /-- PSW, 32 bits (R426). -/
  psw : Nat := 0
  /-- Instruction words by word index; unlisted words are 0. -/
  imem : SMap Nat := []
  /-- Data words of X and Y by word index; unlisted words are 0. -/
  data : SMap Nat := []
  /-- The architectural ports VBASE, STKLO, STKHI, IMASK and CYCLE_HI as latched (R454). -/
  vbase : Nat := 0
  stklo : Nat := 0
  stkhi : Nat := 0
  imask : Nat := 0
  cycHi : Nat := 0
  /-- SC_ARG0–3, and the session call that runs: waiting, its code, and that its result is new (R466). -/
  scArg : List Nat := [0, 0, 0, 0]
  scBusy : Bool := false
  scCode : Nat := 0
  scNew : Bool := false
  /-- The stamp TIMER expires at, and whether it has (line 0). -/
  timerAt : Option Nat := none
  timerDone : Bool := false
  /-- The ports MBOX_IN with line 1, MBOX_OUT, KEY_RESULT, ENV_RESULT, REG_ADDR and RANGE_IDX (R468). -/
  mboxIn : Nat := 0
  mboxNew : Bool := false
  mboxOut : Nat := 0
  keyResult : Nat := 0
  envResult : Nat := 0
  regAddr : Nat := 0
  rangeIdx : Nat := 0
  /-- The slice warning of line 4 (R471). -/
  sliceWarn : Bool := false
  /-- CP0–CP3. -/
  cp0 : CpS := {}
  cp1 : CpS := {}
  cp2 : CpS := {}
  cp3 : CpS := {}
  /-- Stamp of the step's dispatch (the core is bound from it on), time spent halted since, and since when it is halted. -/
  stepFrom : Nat := 0
  halted : Nat := 0
  haltFrom : Option Nat := none
  /-- The core waits in WFI (R444). -/
  waiting : Bool := false
  /-- Stamps of the Faults of the last 60 s (R476), and the stamp of entry to RELOAD. -/
  faults : List Nat := []
  reloadFrom : Nat := 0
  /-- CRC of the bundle its memories were last loaded from: a core takes another one up only while IDLE (R462). -/
  img : Option Nat := none
deriving DecidableEq, Repr

/-- The code bundle of R462 and the script table of R463. -/
structure Bundle where
  imem : List Byte := []
  xmem : List Byte := []
  ymem : List Byte := []
  scripts : List Byte := []
deriving DecidableEq, Repr

/-- AST. -/
structure AstS where
  cores : SMap Core := []
  /-- The bundle in force. -/
  bundle : Bundle := {}
  /-- The bundle of the image before the last switch, while sessions opened under it live (R556). -/
  old : Option Bundle := none
deriving DecidableEq, Repr


/-! ## Memory integrity (chapter 16) -/

/-- What a codeword holds beside clean data (R485, R486): an error that its next read corrects, or does not, or the poison
codeword. -/
inductive CellSt where
  /-- A correctable error at a bit, 0–71 or 0xFF. -/
  | ce (bit : Nat)
  | ue
  | poison
deriving DecidableEq, Repr

/-- An entry of a remap table (R492). -/
structure Remap where
  factory : Bool
  poison : Bool
  word : Nat
deriving DecidableEq, Repr

/-- An entry of a merge buffer (R495): its array (0x40 for the DRAM), codeword, byte mask, and the stamp of its last
merge. -/
structure MergeEnt where
  arr : Nat
  cw : Nat
  mask : Nat
  since : Nat
deriving DecidableEq, Repr

/-- An entry of the error log (R500). -/
structure MemLog where
  stamp : Nat
  arr : Nat
  kind : Nat
  bit : Nat
  word : Nat
deriving DecidableEq, Repr

/-- MEM. -/
structure MemS where
  /-- Codewords that are not clean, by array × 2^30 + codeword. -/
  cells : SMap CellSt := []
  /-- Remap entries in use, by 8 × array + entry; the factory entries that device reset installs, as (array, word). -/
  remap : SMap Remap := []
  factory : List (Nat × Nat) := []
  /-- Merge-buffer entries, oldest first. -/
  merge : List MergeEnt := []
  /-- The log, newest first. -/
  log : List MemLog := []
  /-- The scrubber: its DRAM codeword and SRAM word next, what is left of each pass, the stamps the passes began, and
  codewords since the scrubber last changed sides. -/
  dram : Nat := 0
  dramLeft : Nat := 0
  dramFrom : Nat := 0
  sram : Nat := 0
  sramLeft : Nat := 0
  sramFrom : Nat := 0
  run : Nat := 0
  onSram : Bool := false
  /-- Bytes scrubbed in the present second, and that second. -/
  scrubBytes : Nat := 0
  scrubSec : Nat := 0
  /-- Stamp of the last leak (R501), and the minute of each unit's last archived overflow. -/
  leakAt : Nat := 0
  ovfMin : SMap Nat := []
  /-- Uncorrectable errors by array or 0x40 + region: second, count in it, count in the one before (R502). -/
  ueSec : SMap (Nat × Nat × Nat) := []
deriving DecidableEq, Repr


/-! ## Fuses (chapter 18) -/

/-- The fuse array (R559): the values of the words that differ from 0, the quality of each word as last read (1
CORRECTED, 2 ONE_MARGINAL, 3 BOTH_MARGINAL), and whether the read at start-up is done. -/
structure FuseS where
  words : SMap Nat := []
  qual : SMap Nat := []
  done : Bool := false
deriving DecidableEq, Repr


/-! ## Boot (chapter 18) -/

/-- A flash-port operation (R557): OP, address, KiB less one, window slot, and that it has started (R558). -/
structure FlashOp where
  op : Nat
  addr : Nat
  kib : Nat
  slot : Nat
  on : Bool
deriving DecidableEq, Repr

/-- BOOT. -/
structure BootS where
  /-- CAUSE of the last device reset, 0 power-on, 1 the reset pin; its stamp. -/
  cause : Nat := 0
  resetAt : Nat := 0
  /-- Discovery has been made (R542). -/
  found : Bool := false
  /-- The device reset has been counted in BOOTS (R388). -/
  counted : Bool := false
  /-- Slots still to try in policy order, and the stamp step 7 began (R550–R553). -/
  tries : List Nat := []
  loadFrom : Nat := 0
  /-- A switch loads this slot (R555); a switch waits for its last old session (R556). -/
  switching : Option Nat := none
  unfinished : Bool := false
  /-- The internal copies of region 4: the running one, and the old one until a switch is finished (R550, R556). -/
  copy : List Byte := []
  copyOld : List Byte := []
  /-- The flash-port operation in progress. -/
  op : Option FlashOp := none
  /-- Findings of the last load (the record log). -/
  recErrs : Nat := 0
deriving DecidableEq, Repr


/-! ## Power (chapter 19) -/

/-- A device-state sequence (R579, R580): 1 entry to S2, 2 entry to S3, 3 wake from S2, 4 wake from S3; its start, and
that a reversing request has arrived (R582). -/
structure PwrSeq where
  kind : Nat
  start : Nat
  rev : Bool := false
deriving DecidableEq, Repr

/-- A domain sequence (R581): its direction, its start, the first step it runs, and that a reversing request has
arrived. -/
structure DomSeq where
  up : Bool
  start : Nat
  first : Nat := 1
  rev : Bool := false
deriving DecidableEq, Repr

/-- The AVSBus write outstanding or last acknowledged (R587): its target, its issue, its acknowledgement, and the
stamp of the last read. -/
structure AvsWrite where
  mv : Nat
  issued : Nat
  acked : Option Nat := none
  superseded : Bool := false
  readAt : Nat := 0
deriving DecidableEq, Repr

/-- PWR. -/
structure PwrS where
  seq : Option PwrSeq := none
  doms : SMap DomSeq := []
  /-- Domains to power down once their units halt. -/
  halting : List Nat := []
  /-- Stamp of the last wake event (R576), and of entry to S2 (R575). -/
  wakeAt : Option Nat := none
  s2At : Nat := 0
  /-- Stamp at which the poll-lead timer fires (R574). -/
  leadAt : Option Nat := none
  /-- Entries to S2, to S3, and wakes in the present Meridian minute and in the one before, and the minute (R578). -/
  evNow : List Nat := [0, 0, 0]
  evPrev : List Nat := [0, 0, 0]
  evMin : Nat := 0
  avs : Option AvsWrite := none
  /-- Consecutive good reads in FALLBACK, and stamp since which VMON has been good (R588). -/
  goodReads : Nat := 0
  vmonFrom : Option Nat := none
  fallRead : Nat := 0
  /-- Residency: the stamp accounted up to, and ticks in S0–S3 and by 16 × domain + state (R591). -/
  resAt : Nat := 0
  res : SMap Nat := []
  domRes : SMap Nat := []
  /-- The device is going to S4, or in it (R577). -/
  goingOff : Bool := false
  off : Bool := false
deriving DecidableEq, Repr

/-! ## Baseline (chapter 21) -/

/-- A REQ frame sent whose reply has not arrived (R629, R634): its tag, target device and unit, the requesting unit and
the port it went out on. -/
structure BlnFlight where
  tag : Nat
  dev : Nat
  dstUnit : Nat
  srcUnit : Nat
  port : Nat
deriving DecidableEq, Repr

/-- A REQ frame in a receive queue (R631). -/
structure BlnReq where
  port : Nat
  src : Nat
  srcUnit : Nat
  dstUnit : Nat
  srcEpoch : Nat
  tag : Nat
  poisoned : Bool
  payload : List Byte
deriving DecidableEq, Repr

/-- What an IDENT said (R636), and the hops to its sender over each port. -/
structure BlnIdent where
  devid : Nat
  master : Bool
  salt : Nat
  npart : Nat
  part : Nat
  hops0 : Option Nat := none
  hops1 : Option Nat := none
deriving DecidableEq, Repr

/-- A port beside its registers: stamp at which its training or its refusal began, whether it trains at HALF after FULL
failed, the nonces of the HELLOs, that pairing passed, the stamp of the last frame and of the last TIME frames sent, the delays of the last 64 exchanges in 1/16
tick, and the minute of the last archived refusal. -/
structure BlnPort where
  since : Nat := 0
  half : Bool := false
  nonce : Nat := 0
  peerNonce : Nat := 0
  paired : Bool := false
  lastFrame : Nat := 0
  lastSync : Nat := 0
  delays : List Int := []
  refuseMin : Option Nat := none
deriving DecidableEq, Repr

/-- BLN. -/
structure BlnS where
  ports : SMap BlnPort := []
  flight : List BlnFlight := []
  rq : List BlnReq := []
  nextTag : Nat := 1
  /-- Epochs of other members' units as last read, by 32 × device + unit. -/
  epochs : SMap Nat := []
  /-- Members known, by device index, and the map held (R636). -/
  idents : SMap BlnIdent := []
  members : List MapMember := []
  /-- Requests of other members not yet answered, by device × 2^32 + tag: the requesting unit, its epoch (R35), and
  the port they came in on. -/
  serving : SMap (Nat × Nat × Nat) := []
  /-- Stamp of the last frame from each device. -/
  heard : SMap Nat := []
  /-- A master has been reached since device reset. -/
  reached : Bool := false
  /-- The remote register access outstanding: its tag and stamp (R643). -/
  racc : Option (Nat × Nat) := none
deriving DecidableEq, Repr


/-! ## Management, Finder and the monitor (chapter 22) -/

/-- An entry of the node table (R655, MGT_FND_DATA): STATE 1 ASSIGNING, 2 PRESENT, 3 RESERVED; an unlisted handle is
FREE. -/
structure FndNode where
  nodeId : Nat
  kind : Nat
  bus : Nat
  ver : Nat
  state : Nat
  dnonce : Nat
  /-- Stamp of the ASSIGN, and of the last frame heard. -/
  since : Nat
  heard : Nat
  /-- The highest CTR accepted of a LEAVE. -/
  ctr : Option Nat := none
deriving DecidableEq, Repr

/-- MGT with Finder. -/
structure MgtS where
  /-- ENEC has enabled in-band interrupts, and hot-join (R646). -/
  ibi : Bool := true
  hj : Bool := true
  /-- An in-band interrupt is requested, and ALERT_N is asserted (R648). -/
  ibiReq : Bool := false
  alert : Bool := false
  hjReq : Bool := false
  /-- The envelope buffer (R650). -/
  buf : List Byte := []
  /-- Stamps of the automatic resets of the last hour by unit, newest first (R652). -/
  made : SMap (List Nat) := []
  /-- The node table by handle; the handle each NODE_ID last held since device reset; the last ANNOUNCE of each bus
  with its stamp (R655). -/
  nodes : SMap FndNode := []
  lastHandle : List (Nat × Nat) := []
  ann : SMap (Nat × Nat) := []
deriving DecidableEq, Repr

/-- A line of the monitor (R660). -/
inductive EyeCmd where
  | id
  | status
  | nonce
  | env (bytes : List Byte)
  | rd (off n : Nat)
  | wr (off val : Nat)
  | dbg (core : Nat) (on : Bool)
  | halt (core : Nat)
  | regs (core : Nat)
  | mrd (core space addr n : Nat)
  | mwr (core space addr val : Nat)
  | step (core : Nat)
  | go (core : Nat)
deriving DecidableEq, Repr

/-- EYE. -/
structure EyeS where
  /-- Stamp of the end of the MONITOR grant, and its LEVEL (R659). -/
  grantEnd : Option Nat := none
  level : Nat := 0
  /-- ENV runs until its result is there (R660). -/
  busy : Bool := false
  /-- The line that waits (R658). -/
  held : Option EyeCmd := none
deriving DecidableEq, Repr

/-! ## The whole -/

/-- The machine. -/
structure State where
  /-- The register file: field values by key (byte offset × 32 + low bit); an unlisted field holds its reset value. -/
  regs : SMap Nat := []
  /-- Field values loaded from straps, fuses and the running image (R16, R685). -/
  loaded : SMap Nat := []
  /-- Field values the Plate store holds (R16, letter P). -/
  persist : SMap Nat := []
  /-- Shadow latches of R15: the value the next read of a register offset returns. -/
  latch : SMap Nat := []
  /-- The last value a register read returned on each port of R612, and the last completion code it gave: the
  model's own fields, what the accessing party sees. -/
  lastRead : SMap Nat := []
  /-- Bytes the last command put on a bus or link, newest first: the model's own field. -/
  out : List (List Byte) := []
  /-- The free-value counter: the model's own field (log entry 3). -/
  entropy : Nat := 0
  units : SMap UnitS := []
  rfLink : DieLink := {}
  msLink : DieLink := {}
  mer : MerS := {}
  plt : PltS := {}
  ses : SesS := {}
  hif : HifS := {}
  hel : HelS := {}
  lfp : LfpS := {}
  rad : RadS := {}
  trn : TrnS := {}
  alm : AlmS := {}
  dbx : DbxS := {}
  shu : ShuS := {}
  eph : EphS := {}
  dom : DomS := {}
  rng : RngS := {}
  kce : KceS := {}
  ast : AstS := {}
  mem : MemS := {}
  fuse : FuseS := {}
  boot : BootS := {}
  pwr : PwrS := {}
  bln : BlnS := {}
  mgt : MgtS := {}
  eye : EyeS := {}
  /-- The commands that wait, first in first out. -/
  pending : List Instr := []
deriving DecidableEq, Repr

/-- The machine right after reset: every field at its default; registers at their reset values (an empty register
table), nothing in the Plate store, nothing pending. -/
def State.reset : State := {}

end Sys2Proof.Machine
end

