-- ==== Sys2Proof/Machine/Ops.lean ====
section
/-! DEFINITION. The named operations every unit shares: register fields, counters, interrupts, time, random words,
window slots and events, Plate store writes, archive requests and unit states. -/

namespace Sys2Proof.Machine

/-! ## Register fields (R7–R12, R683) -/

/-- The place of instance [i][j] of a field in the register table. -/
def Fld.key (f : Fld) (i j : Nat) : Nat := (f.off + f.s1 * i + f.s2 * j) * 32 + f.lo

def Fld.width (f : Fld) : Nat := f.hi + 1 - f.lo

/-- The largest value a field holds. -/
def Fld.max (f : Fld) : Nat := 2 ^ f.width - 1

/-- The instance exists. -/
def Fld.has (f : Fld) (i j : Nat) : Bool := decide (i < f.n1) && decide (j < f.n2)

/-- The value a field holds. -/
def State.rd (s : State) (f : Fld) (i : Nat := 0) (j : Nat := 0) : Nat := SMap.get s.regs (f.key i j) (f.rstAt i)

/-- The register table with a field's value replaced; a field at its reset value is not listed. -/
def putField (m : SMap Nat) (f : Fld) (i j v : Nat) : SMap Nat :=
  if v % 2 ^ f.width = f.rstAt i then SMap.del m (f.key i j) else SMap.put m (f.key i j) (v % 2 ^ f.width)

/-- Set a field. A value the Plate store holds (R16, letter P) is set there too. -/
def State.wr (s : State) (f : Fld) (v : Nat) (i : Nat := 0) (j : Nat := 0) : State :=
  if f.has i j then
    { s with
      regs := putField s.regs f i j v
      persist := if f.src = .plate then putField s.persist f i j v else s.persist }
  else s

/-- The value of a field that the Plate store holds (R16, letter P), which its register shows only after recall. -/
def State.kept (s : State) (f : Fld) (i : Nat := 0) (j : Nat := 0) : Nat := SMap.get s.persist (f.key i j) (f.rstAt i)

/-- Add to a counter, saturating. -/
def State.add (s : State) (f : Fld) (n : Nat) (i : Nat := 0) (j : Nat := 0) : State :=
  s.wr f (min f.max (s.rd f i j + n)) i j

/-- Count one more, saturating. -/
def State.bump (s : State) (f : Fld) (i : Nat := 0) (j : Nat := 0) : State := s.add f 1 i j

/-- Count one fewer. -/
def State.drop (s : State) (f : Fld) (i : Nat := 0) (j : Nat := 0) : State := s.wr f (s.rd f i j - 1) i j

/-- A field as a flag. -/
def State.on (s : State) (f : Fld) (i : Nat := 0) (j : Nat := 0) : Bool := s.rd f i j != 0

/-- Set a field from a flag. -/
def State.flag (s : State) (f : Fld) (b : Bool) (i : Nat := 0) (j : Nat := 0) : State := s.wr f b.toNat i j

/-- The word of a register, from its fields. -/
def State.word (s : State) (r : Reg) (i : Nat := 0) (j : Nat := 0) : Nat :=
  r.flds.foldl (fun a f => a + s.rd f i j * 2 ^ f.lo) 0

/-- Set every field of a register from a word. -/
def State.wrWord (s : State) (r : Reg) (w : Nat) (i : Nat := 0) (j : Nat := 0) : State :=
  r.flds.foldl (fun a f => a.wr f (bits w f.hi f.lo) i j) s

/-- Set a register pair that holds a 64-bit value. -/
def State.wr64 (s : State) (lo hi : Fld) (v : Nat) (i : Nat := 0) : State :=
  (s.wr lo (v % 2 ^ 32) i).wr hi (v / 2 ^ 32) i

/-- The 64-bit value of a register pair. -/
def State.rd64 (s : State) (lo hi : Fld) (i : Nat := 0) : Nat := s.rd lo i + s.rd hi i * 2 ^ 32

/-! ## Time (R44, R47, R54) -/

/-- civil_offset slewed up to the present (R62): 1,000 µs in a second, which is 1 µs in each 63,897,600 ticks, in whole
microseconds, until the trim is spent. -/
def MerS.slew (m : MerS) : MerS :=
  if m.pending = 0 then m
  else
    let us := min ((m.count - m.slewFrom) / 63897600) m.pending.natAbs
    let d : Int := if m.pending < 0 then (0 : Int) - us else us
    { m with pending := m.pending - d, offset := m.offset + 1000 * d, slewFrom := m.slewFrom + us * 63897600 }

/-- The machine at a later stamp: an earlier one acts as the present count; the count ends at its wrap. -/
def State.adv (s : State) (t : Nat) : State :=
  { s with mer := { s.mer with count := max s.mer.count (min t (2 ^ 64 - 1)) }.slew }

/-- The present Meridian count. -/
def State.now (s : State) : Nat := s.mer.count

/-- Civil time in ns under R55. -/
def State.civilNs (s : State) : Nat := ((s.mer.count * 625 / 39936 : Nat) + s.mer.offset).toNat % 2 ^ 64

/-- The civil minute of R56, not cut. -/
def State.civilMin (s : State) : Nat := s.civilNs / 60000000000

/-! ## Random words -/

/-- Draw one random word: the word and the state after. -/
def State.draw (s : State) : Nat × State :=
  ((Config.freeWord s.entropy).toNat, { s with entropy := s.entropy + 1 })

/-- Draw n words, joined least significant first. -/
def State.drawN : Nat → State → Nat × State
  | 0, s => (0, s)
  | n + 1, s =>
    let (w, s1) := s.draw
    let (r, s2) := State.drawN n s1
    (w + 2 ^ 32 * r, s2)

/-! ## Sources and devices (R25, R48) -/

/-- The device index, from the straps. -/
def State.device (s : State) : Nat := s.rd MER_STAT.DEVICE

/-- A source number under R48. -/
def State.source (s : State) (unit inst : Nat) : Nat := s.device * 8192 + unit * 64 + inst

/-- DEVID, fuse-backed. -/
def State.devid (s : State) : Nat := s.rd64 DOM_DEVID_LO.DEVID DOM_DEVID_HI.DEVID

/-! ## Interrupts (R10, R616, R687) -/

/-- The enable bit that stands beside a status bit: IRQ_EN lies at IRQ_STAT + 4. -/
def Fld.enable (f : Fld) : Fld := { f with off := f.off + 4, acc := .RW }

/-- A source of R616 becomes pending: unit number, or 24 for the event source. -/
def State.srcPend (s : State) (u : Nat) : State :=
  match SMap.find s.hif.pend u with
  | some _ => s
  | none => { s with hif := { s.hif with pend := SMap.put s.hif.pend u s.now } }

/-- Bytes put on a bus or link. -/
def State.send (s : State) (l : List Byte) : State := { s with out := l :: s.out.take 15 }

/-- MGT_HEALTH. -/
def State.mgtHealth (s : State) : Nat :=
  let hot := (List.range 3).any (fun k =>
    decide (toSigned 16 (s.rd MGT_TEMP.TEMP k) > 10 * (s.rd MGT_TEMP_LIM.WARN_C : Int)))
  let l := [s.on SYS_UNIT_MISMATCH.UNIT, hot, s.on DOM_STAT.HALT || s.on DOM_STAT.FUSE_BAD || s.on DOM_STAT.NO_BANK,
    s.on RNG_STAT.LATCHED, s.on PWR_STAT.FALLBACK, s.on PLT_STAT.ARC_LOW,
    s.rd EPH_STAT.STATE == 3 || s.on EPH_STAT.BAD_PAGES, s.rd BOOT_STAT.PHASE == 6]
  bitMap ((List.range 8).filter (fun k => l.getD k false))

/-- A requested in-band interrupt is sent, with MGT_HEALTH as its payload, once ENEC has enabled it and the target holds
a dynamic address (R648). -/
def State.ibiSend (s : State) : State :=
  if s.mgt.ibiReq ∧ s.mgt.ibi ∧ s.on MGT_STAT.DA ∧ !s.on MGT_STAT.SMBUS then
    { (s.bump MGT_CNT_IBI.COUNT).send (leBytes 1 s.mgtHealth) with mgt := { s.mgt with ibiReq := false } }
  else s

/-- The management interrupt is raised (R648): under I3C an in-band interrupt is requested, under SMBus ALERT_N is
asserted. -/
def State.mgtRaise (s : State) : State :=
  if s.on MGT_STAT.SMBUS then
    if s.mgt.alert then s else { s.bump MGT_CNT_IBI.COUNT with mgt := { s.mgt with alert := true } }
  else { s with mgt := { s.mgt with ibiReq := true } }.ibiSend

/-- Some bit of a unit's (IRQ_STAT & IRQ_EN) has risen: its source becomes pending (R616), and MGT's is the management
interrupt, too. -/
def State.unitRaise (s : State) (u : Nat) : State :=
  let s := s.srcPend u
  if u = 0x15 then s.mgtRaise else s

/-- A hardware event sets a bit of a unit's IRQ_STAT (R10); its interrupt is raised when the enabled bit rises. -/
def State.irq (s : State) (f : Fld) (i : Nat := 0) : State :=
  let rises := !s.on f i && s.on f.enable i
  let s := s.wr f 1 i
  if rises then s.unitRaise (f.off / 65536) else s

/-! ## Window slots and rings (R599–R606) -/

def slotNobody : Nat := 0
def slotDevice : Nat := 1
def slotHost : Nat := 2

/-- The flag of a window slot. -/
def State.slotFlag (s : State) (n : Nat) : Nat := SMap.get s.hif.flags n slotNobody

/-- Set the flag of a window slot; NOBODY is not listed. -/
def State.setFlag (s : State) (n v : Nat) : State :=
  { s with hif := { s.hif with
    flags := if v = slotNobody then SMap.del s.hif.flags n else SMap.put s.hif.flags n v } }

/-- The content of a window slot. -/
def State.slotData (s : State) (n : Nat) : List Byte := SMap.get s.hif.slots n []

/-- Fill a window slot. -/
def State.fillSlot (s : State) (n : Nat) (d : List Byte) : State :=
  { s with hif := { s.hif with slots := SMap.put s.hif.slots n (d.take 4096) } }

/-- A ring as its registers give it: first slot and number of slots, cut at slot 16,383 (R605). -/
def ringCut (base count : Nat) : Nat × Nat := (base, min (min count 4096) (16384 - base))

/-- Two rings share a slot. -/
def ringsMeet (a b : Nat × Nat) : Bool :=
  decide (0 < a.2) && decide (0 < b.2) && decide (a.1 < b.1 + b.2) && decide (b.1 < a.1 + a.2)

def State.evRing (s : State) : Nat × Nat := ringCut (s.rd HIF_EVT_RING.BASE) (s.rd HIF_EVT_RING.COUNT)

def State.statRing (s : State) : Nat × Nat :=
  let r := ringCut (s.rd HIF_STATS_RING.BASE) (s.rd HIF_STATS_RING.COUNT)
  if ringsMeet s.evRing r then (r.1, 0) else r

def State.cirRing (s : State) : Nat × Nat :=
  let r := ringCut (s.rd TRN_CIR_RING.BASE) (s.rd TRN_CIR_RING.COUNT)
  if ringsMeet s.evRing r || ringsMeet s.statRing r then (r.1, 0) else r

/-- Some enabled rings overlap (R605). -/
def State.ringConflict (s : State) : Bool :=
  let e := s.evRing
  let t := ringCut (s.rd HIF_STATS_RING.BASE) (s.rd HIF_STATS_RING.COUNT)
  let c := ringCut (s.rd TRN_CIR_RING.BASE) (s.rd TRN_CIR_RING.COUNT)
  ringsMeet e t || ringsMeet e c || ringsMeet t c

/-- A slot lies in an enabled ring. -/
def State.inRing (s : State) (n : Nat) : Bool :=
  let r := fun (x : Nat × Nat) => decide (x.1 ≤ n) && decide (n < x.1 + x.2)
  r s.evRing || r s.statRing || r s.cirRing

/-- The slot after one in a ring. -/
def ringNext (r : Nat × Nat) (n : Nat) : Nat := if n + 1 < r.1 + r.2 then n + 1 else r.1

/-! ## Events (R607–R610) -/

/-- An event as its 32 bytes. -/
def HifEvent.bytes (e : HifEvent) : List Byte :=
  leBytes 4 e.seq ++ leBytes 2 e.source ++ leBytes 1 e.cls ++ leBytes 1 e.code ++ leBytes 8 e.stamp ++
    leBytes 1 e.era ++ leBytes 1 0 ++ leBytes 2 e.session ++ leBytes 4 e.word ++ leBytes 8 e.arg

/-- A slot image: header bytes 0–59, the CRC of R607, then the body. -/
def crcSlot (head body : List Byte) : List Byte :=
  let h := padTo head 60
  let b := padTo body 4032
  h ++ leBytes 4 (crc32 (h ++ b)) ++ b

/-- Hand the event slot held to the host (R609). -/
def State.handEvents (s : State) : State :=
  match s.hif.evSlot with
  | none => s
  | some n =>
    let evs := s.hif.evBuf
    let head := bytesOf [0x45, 1] ++ leBytes 1 evs.length ++ leBytes 1 0 ++
      leBytes 4 ((evs.head?.map (·.seq)).getD 0) ++ leBytes 8 s.devid ++ leBytes 4 s.hif.evLost ++
      leBytes 4 0 ++ leBytes 8 s.now
    let s := s.fillSlot n (crcSlot head (evs.flatMap HifEvent.bytes))
    let s := s.setFlag n slotHost
    let s := { s with hif := { s.hif with evSlot := none, evBuf := [], evLost := 0 } }
    let s := s.wr HIF_EVT_STAT.NEXT (ringNext s.evRing n)
    let s := (s.add HIF_CNT_EVT.COUNT evs.length).bump HIF_CNT_SLOT_TX.COUNT
    s.srcPend 24

/-- Take the next ring slot when its flag allows, and move queued events into it (R605, R609, R610). -/
def State.holdSlot : Nat → State → State
  | 0, s => s
  | fuel + 1, s =>
    let r := s.evRing
    let n := s.rd HIF_EVT_STAT.NEXT
    if s.hif.evSlot.isSome || r.2 == 0 || s.slotFlag n == slotHost then s
    else
      let take := s.hif.evQueue.take 126
      let s := s.setFlag n slotDevice
      let s := { s with hif := { s.hif with evSlot := some n, evBuf := take,
                                            evQueue := s.hif.evQueue.drop 126, evFirst := s.now } }
      let s := s.wr HIF_EVT_STAT.QUEUED s.hif.evQueue.length
      if take.length = 126 then State.holdSlot fuel s.handEvents else s

/-- Enter an event: into the slot held, into the queue, or dropped (R608–R610). -/
def State.post (s : State) (source cls code session word arg : Nat) : State :=
  if !bit (s.rd HIF_EVT_CFG.CLASS_EN) cls then s
  else
    let ev : HifEvent := ⟨s.rd HIF_EVT_SEQ.EVSEQ, source, cls, code, s.now, s.mer.era, session, word, arg⟩
    let s := s.wr HIF_EVT_SEQ.EVSEQ ((ev.seq + 1) % 2 ^ 32)
    let s := s.bump HIF_CNT_CLASS.COUNT cls
    let s := State.holdSlot 9 s
    match s.hif.evSlot with
    | some _ =>
      let first := if s.hif.evBuf.isEmpty then s.now else s.hif.evFirst
      let s := { s with hif := { s.hif with evBuf := s.hif.evBuf ++ [ev], evFirst := first } }
      if s.hif.evBuf.length ≥ 126 then State.holdSlot 9 s.handEvents else s
    | none =>
      if s.hif.evQueue.length < 1024 then
        let s := { s with hif := { s.hif with evQueue := s.hif.evQueue ++ [ev] } }
        s.wr HIF_EVT_STAT.QUEUED s.hif.evQueue.length
      else
        let s := { s with hif := { s.hif with evLost := s.hif.evLost + 1 } }
        let s := (s.bump HIF_CNT_EVT_LOST.COUNT).irq HIF_IRQ_STAT.EVT_LOST
        let s := s.wr HIF_EVT_CODE.KIND 6
        s.wr64 HIF_EVT_STAMP_LO.STAMP HIF_EVT_STAMP_HI.STAMP s.now

/-- No session, in records and events. -/
def noSession : Nat := 0xFFFF

/-- A unit records an event in its event-code register and stamp registers, and HIF posts it (R608 class 2, R687). -/
def State.unitEvent (s : State) (unit inst : Nat) (r : Reg) (lo hi : Fld) (word : Nat) (code : Nat := 0)
    (session : Nat := noSession) : State :=
  let s := s.wrWord r word
  let s := s.wr64 lo hi s.now
  s.post (s.source unit inst) 2 code session word 0

/-- Hand a slot that a unit used to the host and post its SLOT event (R600, R606, R608). -/
def State.handSlot (s : State) (n : Nat) : State :=
  let s := s.setFlag n slotHost
  let s := s.bump HIF_CNT_SLOT_TX.COUNT
  s.post (s.source 0x13 0) 3 0 noSession (n + ((s.slotData n).headD 0).toNat * 65536) 0

/-! ## Plate store writes (R510, R515, R518) -/

/-- The lanes of R518. -/
def laneDom : Nat := 0
def laneArc : Nat := 1
def laneEph : Nat := 2
def laneShadow : Nat := 3
def laneCal : Nat := 4
def laneRefresh : Nat := 5
def lanePort : Nat := 6

/-- The region of an address (R515). -/
def pltRegion (a : Nat) : Nat :=
  if a < 0x800000 then 0 else if a < 0xA00000 then 1 else if a < 0xA10000 then 2 else if a < 0xA40000 then 3
  else if a < 0xA80000 then 4 else if a < 0xB00000 then 5 else if a < 0xC00000 then 6 else 7

/-- Split the words of a write into its page operations, ascending: at most 32 words, all of one page (R510). -/
def pageOps : List (Nat × Nat) → List (List (Nat × Nat))
  | [] => []
  | w :: r =>
    match pageOps r with
    | [] => [[w]]
    | op :: ops =>
      match op with
      | [] => [w] :: ops
      | v :: _ => if v.1 / 256 = w.1 / 256 then (w :: op) :: ops else [w] :: op :: ops

/-- Issue a write: words are (byte address, 64-bit value), ascending. -/
def State.pltWrite (s : State) (lane : Nat) (tag : PltTag) (ws : List (Nat × Nat)) : State :=
  let w : PltWrite := { id := s.plt.nextId, lane := lane, ops := pageOps ws, tag := tag, issued := s.now }
  let s := { s with plt := { s.plt with queue := s.plt.queue ++ [w], nextId := s.plt.nextId + 1 } }
  s.wr PLT_STAT.QUEUED (min 255 s.plt.queue.length)

/-- The word at a byte address. -/
def State.pltWord (s : State) (a : Nat) : Nat := SMap.get s.plt.words (a / 8) 0

/-- The word at a byte address reads uncorrectable (R522). -/
def State.pltPoisoned (s : State) (a : Nat) : Bool := s.plt.poison.contains (a / 8)

/-- Words of a byte string from an address. -/
def wordsAt (a : Nat) (l : List Byte) : List (Nat × Nat) :=
  (List.range ((l.length + 7) / 8)).map (fun k => (a + 8 * k, leAt l (8 * k) 8))

/-- A write's owner finds its commit, and takes it up. -/
def State.takeCommitted (s : State) (tag : PltTag) : Option State :=
  if s.plt.committed.contains tag then
    some { s with plt := { s.plt with committed := s.plt.committed.erase tag } }
  else none

/-- A write's owner finds its confirmation, and takes it up. -/
def State.takeConfirmed (s : State) (tag : PltTag) : Option State :=
  if s.plt.confirmed.contains tag then
    some { s with plt := { s.plt with confirmed := s.plt.confirmed.erase tag } }
  else none

/-! ## Archive requests (R29, R525–R528) -/

/-- Record kinds of R527. -/
def recDecision : Nat := 1
def recEnd : Nat := 2
def recClose : Nat := 3
def recTest : Nat := 4
def recEvent : Nat := 5
def recBoot : Nat := 6
def recLoss : Nat := 7

/-- Hand a record request to the appender. -/
def State.archive (s : State) (kind code source session : Nat) (body : List Byte) (recFor : RecFor := .none)
    (located : Bool := false) : State :=
  let r : ArcReq := { kind := kind, code := code, source := source, stamp := s.now, era := s.mer.era,
                      located := located, session := session, body := padTo body 24, recFor := recFor }
  { s with plt := { s.plt with arcQ := s.plt.arcQ ++ [r] } }

/-- An EVENT record (R528): the event word, then the values named, each in its size. -/
def State.archiveEvent (s : State) (unit inst : Nat) (word : Nat := 0) (args : List Byte := []) (code : Nat := 0)
    (session : Nat := noSession) : State :=
  s.archive recEvent code (s.source unit inst) session (leBytes 4 word ++ args.take 20)

/-! ## Unit states (R30, R31, R36, R38) -/

def stOff : Nat := 0
def stReset : Nat := 1
def stInit : Nat := 2
def stRun : Nat := 3
def stQuiesce : Nat := 4
def stHalt : Nat := 5
def stFault : Nat := 6

def State.unitS (s : State) (u : Nat) : UnitS := SMap.get s.units u {}

def State.setUnitS (s : State) (u : Nat) (x : UnitS) : State := { s with units := SMap.put s.units u x }

/-- The reported state of a unit. -/
def State.rep (s : State) (u : Nat) : Nat := s.rd SYS_UNIT_STATE.REP u

/-- The unit takes requests. -/
def State.running (s : State) (u : Nat) : Bool := s.rep u == stRun

/-- Set MISMATCH of a unit and its copy in SYS_UNIT_MISMATCH; a change of that register from zero raises the
management interrupt (R36, R38), and each change posts a HEALTH event (R608). -/
def State.setMismatch (s : State) (u : Nat) (b : Bool) : State :=
  if s.on SYS_UNIT_STATE.MISMATCH u = b then s
  else
    let was := s.rd SYS_UNIT_MISMATCH.UNIT
    let s := s.flag SYS_UNIT_STATE.MISMATCH b u
    let s := s.setUnitS u { s.unitS u with missFrom := s.now }
    let s := s.wr SYS_UNIT_MISMATCH.UNIT (setBit was u b)
    let s := if was = 0 ∧ b then s.irq MGT_IRQ_STAT.MISMATCH else s
    s.post (s.source u 0) 4 0 noSession (s.word SYS_UNIT_STATE.REG u) u

/-- Judge MISMATCH from the reported and the commanded state, and note since when they differ (R36). OFF is no
difference. -/
def State.judgeMismatch (s : State) (u : Nat) : State :=
  let r := s.rep u
  let differs := r != s.rd SYS_UNIT_STATE.CMD u && r != stOff
  let us := s.unitS u
  let since := if differs then some (us.diffSince.getD s.now) else none
  let s := s.setUnitS u { us with diffSince := since }
  if r = stFault then s.setMismatch u true else if differs then s else s.setMismatch u false

/-- Set a unit's reported state: the transition is archived with its stamp (R38) and posted (R608). -/
def State.setRep (s : State) (u st : Nat) : State :=
  if s.rep u = st then s
  else
    let s := s.wr SYS_UNIT_STATE.REP st u
    let s := s.archiveEvent u 0 0 (leBytes 4 st)
    let s := s.post (s.source u 0) 4 0 noSession (s.word SYS_UNIT_STATE.REG u) u
    s.judgeMismatch u

/-- A unit's epoch one further: 0x0000 is never carried (R34). -/
def State.nextEpoch (s : State) (u : Nat) : State :=
  let e := s.rd SYS_UNIT_STATE.EPOCH u
  s.wr SYS_UNIT_STATE.EPOCH (if e ≥ 0xFFFF then 1 else e + 1) u

/-! ## Outcomes -/

/-- The answer of every meaning of the block: a next state. -/
abbrev Answer := Host.Outcome State Fault Refusal

/-- The machine with a queue of waiting commands. -/
def State.withQueue (s : State) (q : List Instr) : State := { s with pending := q }

/-- The answer of a command: a next state with the queue as it was. -/
def State.answer (s s' : State) : Answer := .next (s'.withQueue s.pending)

/-- A happening at stamp t: the machine advances to t, and the happening takes its effect. In S4 nothing answers
(R572, R577). -/
def happen (t : Nat) (s : State) (f : State → State) : Answer := s.answer (if s.pwr.off then s else f (s.adv t))

/-- The last completion code handed to the party on a port (0x100 + port in `lastRead`). -/
def State.answerCode (s : State) (port code : Nat) : State :=
  { s with lastRead := SMap.put s.lastRead (0x100 + port) code }

/-- The last word a read returned on a port. -/
def State.answerWord (s : State) (port w : Nat) : State :=
  { s with lastRead := SMap.put s.lastRead port w }

end Sys2Proof.Machine
end

