-- ==== Sys2Proof/Machine/BlnOps.lean ====
section
/-! DEFINITION. What every unit uses of BLN: the frame header, requests to other members and replies to them
(R629, R632). -/

namespace Sys2Proof.Machine

/-- CLASS of a frame (R629). -/
def fcTime : Nat := 0
def fcCtrl : Nat := 1
def fcReq : Nat := 2
def fcRply : Nat := 3
def fcEnv : Nat := 4
def fcRacc : Nat := 5

/-- A frame: its header and payload (R629). -/
def State.blnFrame (s : State) (cls : Nat) (poison : Bool) (dst srcUnit dstUnit srcEpoch dstEpoch tag : Nat)
    (payload : List Byte) : List Byte :=
  leBytes 1 cls ++ leBytes 1 poison.toNat ++ leBytes 1 s.device ++ leBytes 1 dst ++ leBytes 1 srcUnit ++
    leBytes 1 dstUnit ++ leBytes 2 payload.length ++ leBytes 2 srcEpoch ++ leBytes 2 dstEpoch ++ leBytes 4 tag ++ payload

/-- Put a frame on a port. -/
def State.blnPut (s : State) (p : Nat) (frame : List Byte) : State := (s.send frame).bump BLN_PORT_CNT_TX.COUNT p

/-- The epoch of a member's unit as last read. -/
def State.blnEpoch (s : State) (dev unit : Nat) : Nat := SMap.get s.bln.epochs (32 * dev + unit) 1

/-- A member can be reached over authenticated links (R632, R635). -/
def State.blnReach (s : State) (dev : Nat) : Bool :=
  s.on BLN_MEM_STAT.REACH dev && dev != s.device &&
    (s.rd BLN_STAT.STATE == 2 || s.rd BLN_STAT.STATE == 3)

/-- Send a request to a member's unit (R629, R632): its tag; none when the member is not reachable, and nothing is
sent. -/
def State.blnRequest (s : State) (dev dstUnit srcUnit : Nat) (payload : List Byte) : Option Nat × State :=
  if !s.blnReach dev then (none, s.bump BLN_CNT_UNREACH.COUNT)
  else
    let tag := s.bln.nextTag
    let p := s.rd BLN_MEM_STAT.PORT dev
    let f := s.blnFrame fcReq false dev srcUnit dstUnit (s.rd SYS_UNIT_STATE.EPOCH srcUnit) (s.blnEpoch dev dstUnit) tag
      payload
    let s := { s with bln := { s.bln with
      nextTag := (tag + 1) % 2 ^ 32
      flight := s.bln.flight ++ [({ tag := tag, dev := dev, dstUnit := dstUnit, srcUnit := srcUnit, port := p } : BlnFlight)] } }
    (some tag, (s.blnPut p f).bump BLN_CNT_REQ_TX.COUNT)

/-- The key of a member's request in `serving`. -/
def servingKey (dev tag : Nat) : Nat := dev * 2 ^ 32 + tag

/-- Answer a member's request (R629): the reply carries the requester's epoch back, and the target's present one (R35).
A requester that this device no longer reaches gets none. -/
def State.blnReply (s : State) (dev unit tag : Nat) (payload : List Byte) (poison : Bool := false) : State :=
  match SMap.find s.bln.serving (servingKey dev tag) with
  | none => s
  | some (back, epoch, port) =>
    let s := { s with bln := { s.bln with serving := SMap.del s.bln.serving (servingKey dev tag) } }
    let p := if s.blnReach dev then s.rd BLN_MEM_STAT.PORT dev else port
    if s.rd BLN_PORT_STAT.STATE p ≠ 3 then s
    else
      let f := s.blnFrame fcRply poison dev unit back epoch (s.rd SYS_UNIT_STATE.EPOCH unit) tag payload
      (s.blnPut p f).bump BLN_CNT_RPLY_TX.COUNT

end Sys2Proof.Machine
end

