-- ==== Sys2Proof/Machine/SesBase.lean ====
section
/-! DEFINITION. What every unit uses of SES: contexts, credits and claims, and completions (R257–R260, R265,
R283–R288). -/

namespace Sys2Proof.Machine

/-! ## Contexts (R257–R260, R265) -/

def State.ctx? (s : State) (n : Nat) : Option Ctx := SMap.find s.ses.ctx n

def State.ctx (s : State) (n : Nat) : Ctx := SMap.get s.ses.ctx n {}

def State.aux (s : State) (n : Nat) : SesAux := SMap.get s.ses.aux n {}

def State.updCtx (s : State) (n : Nat) (f : Ctx → Ctx) : State :=
  { s with ses := { s.ses with ctx := SMap.upd s.ses.ctx n f } }

def State.updAux (s : State) (n : Nat) (f : SesAux → SesAux) : State :=
  { s with ses := { s.ses with aux := SMap.upd s.ses.aux n f } }

/-- The session exists and carries this generation (R259). -/
def State.live (s : State) (n gen : Nat) : Bool :=
  match s.ctx? n with
  | some c => c.gen == gen
  | none => false

/-- The session is open and not committed. -/
def Ctx.openEarly (c : Ctx) : Bool :=
  decide (ssIdle ≤ c.state) && decide (c.state ≤ ssDecide) && !c.committed

def Ctx.setPend (c : Ctx) (u : Nat) (b : Bool) : Ctx := { c with pend := setBit c.pend u b }

def State.prog (s : State) (p : Nat) : Option Prog := SMap.find s.ses.progs p

/-- The program of a session: the one in force at its open (R556). -/
def State.progOf (s : State) (n : Nat) : Option Prog :=
  match (s.aux n).oldProg with
  | some p => some p
  | none => s.prog (s.ctx n).prog

/-- A flag of a session's program. -/
def State.progHas (s : State) (n k : Nat) : Bool :=
  match s.progOf n with
  | some g => bit g.flags k
  | none => false

/-- A flag of a program (R264): 1 POLL, 2 DIRECTED, 3 BUTTON, 4 BOUND, 5 LOCATE, 6 RELEASE, 7 PRIO. -/
def State.progFlag (s : State) (p k : Nat) : Bool :=
  match s.prog p with
  | some g => bit g.flags k
  | none => false

/-- SES_STAT from the queues in use. -/
def State.sesStat (s : State) : State :=
  (s.wr SES_STAT.OPEN s.ses.ctx.length).wr SES_STAT.FREE (32768 - s.ses.ctx.length)

/-! ## Credits (R283–R289) -/

/-- The range of each pool's size (R283). -/
def poolRange (k : Nat) : Nat × Nat :=
  if k = poolAlm then (16, 64)
  else if k = poolTrn ∨ k = poolEph ∨ k = poolWake then (16, 1024)
  else (16, 256)

/-- The class of each pool (R283). -/
def poolClass (k : Nat) : Nat := [0, 0, 1, 2, 2, 2, 2, 2, 2, 2, 3].getD k 0

/-- The effective size of a pool (R283, R284). -/
def State.poolSize (s : State) (k : Nat) : Nat :=
  let one := fun (k : Nat) => clampTo (poolRange k).1 (poolRange k).2 (s.rd SES_CREDIT_CFG.SIZE k)
  if k = poolCpl then
    max (s.rd SES_CREDIT_CFG.SIZE poolCpl) (([3, 4, 5, 6, 7, 8, 9, 10].map one).foldl (· + ·) 0)
  else one k

/-- The archive is at its reserve, so the WAKE pool is taken as empty (R531). -/
def State.wakeShut (s : State) : Bool := s.on PLT_STAT.ARC_LOW

/-- A pool has a credit free. -/
def State.poolRoom (s : State) (k : Nat) : Bool :=
  decide (s.rd SES_CREDIT_STAT.IN_USE k < s.poolSize k) && !(k == poolWake && s.wakeShut)

/-- The pools a claim takes: a class 2 or 3 claim takes a CPL reservation with it (R284). -/
def withCpl (ks : List Nat) : List Nat :=
  if ks.any (fun k => decide (2 ≤ poolClass k)) then ks ++ ks.filterMap (fun k => if 2 ≤ poolClass k then some poolCpl else none)
  else ks

/-- Take one credit of a pool, or give one back. -/
def State.takeCredit (s : State) (k : Nat) : State := s.bump SES_CREDIT_STAT.IN_USE k

def State.giveCredit (s : State) (k : Nat) : State := s.drop SES_CREDIT_STAT.IN_USE k

/-- Give back a class 2 or 3 credit with its CPL slot. -/
def State.giveWithCpl (s : State) (k : Nat) : State := (s.giveCredit k).giveCredit poolCpl

/-- Credits of a pool that requests of other members may hold together (R288). -/
def State.remoteRoom (s : State) (k : Nat) : Bool :=
  s.poolRoom k &&
    decide ((SMap.get s.ses.remoteUse k 0 + 1) * 100 ≤ s.poolSize k * min 100 (s.rd SES_SCHED_CFG.REMOTE_PCT))

/-- A request of another member takes a credit of a pool, or gives it back (R288). -/
def State.takeRemote (s : State) (k : Nat) : State :=
  { s with ses := { s.ses with remoteUse := SMap.put s.ses.remoteUse k (SMap.get s.ses.remoteUse k 0 + 1) } }.takeCredit k

def State.giveRemote (s : State) (k : Nat) : State :=
  { s with ses := { s.ses with remoteUse := SMap.put s.ses.remoteUse k (SMap.get s.ses.remoteUse k 0 - 1) } }.giveCredit k

/-- The PEND bit of the unit a pool's requests go to. -/
def poolPend (k : Nat) : Option Nat :=
  [some pendShu, some pendPlt, none, some pendTrn, some pendDbx, some pendAlm, some pendKce, some pendEph,
   some pendDom, some pendRng, some pendLfp].getD k none

/-- WAITERS and WAITING from the claims that wait. -/
def State.claimStat (s : State) : State :=
  let n := fun (k : Nat) => (s.ses.claims.filter (fun c => c.pools.contains k)).length
  let s := (List.range 11).foldl (fun a k => a.wr SES_CREDIT_STAT.WAITERS (min 0xFFFF (n k)) k) s
  s.wr SES_ARB_STAT.WAITING (bitMap ((List.range 11).filter (fun k => decide (0 < n k))))

/-! ## Records of SES (R272, R528) -/

/-- The body of a DECISION or END record. -/
def sesBody (c : Ctx) (x : SesAux) (state detail target : Nat) : List Byte :=
  let loc := if x.located then slice c.locRes 20 2 ++ slice c.locRes 8 12 else List.replicate 14 0
  leBytes 4 c.token ++ leBytes 1 c.prog ++ leBytes 1 c.zone ++ leBytes 1 state ++ leBytes 1 detail ++
    leBytes 2 target ++ loc

/-- B of a record, saturated to 16 bits, with the position (R528). -/
def sesLoc (c : Ctx) (x : SesAux) : List Byte :=
  if x.located then leBytes 2 (satSigned 16 (toSigned 32 (leAt c.locRes 20 4))) ++ slice c.locRes 8 12
  else List.replicate 14 0

/-- Request the end record of a session that ended ABORTED. -/
def State.writeEnd (s : State) (n : Nat) : State :=
  let c := s.ctx n
  let x := s.aux n
  let body := (sesBody c x x.endState x.reason 0).take 10 ++ sesLoc c x
  s.archive recEnd c.code (s.source 0x08 0) n body (.ending n c.gen) x.located

/-- Request the decision record of a session that was granted (R313). -/
def State.writeDecision (s : State) (n : Nat) : State :=
  let c := s.ctx n
  let x := s.aux n
  let body := (sesBody c x ssDecide c.relKind c.relTarget).take 10 ++ sesLoc c x
  s.archive recDecision 0 (s.source 0x08 0) n body (.decision n c.gen) x.located

/-! ## The per-token word (R304–R309) -/

/-- LOCK_EFF: the larger of LOCK_MIN and LOCK_FLOOR, each in 1–60 (R307). -/
def State.lockEff (s : State) : Nat :=
  max (clampTo 1 60 (s.rd SHU_LOCK_CFG.LOCK_MIN)) (clampTo 1 60 (s.rd SHU_LOCK_FLOOR.FLOOR))

def State.failMax (s : State) : Nat := orOne (s.rd SHU_LOCK_CFG.FAIL_MAX)

/-- CTR, FAIL and LU of a per-token word (R304). -/
def tokCtr (w : Nat) : Nat := bits w 31 0
def tokFail (w : Nat) : Nat := bits w 39 32
def tokLu (w : Nat) : Nat := bits w 63 40
def tokWord (ctr fail lu : Nat) : Nat := ctr % 2 ^ 32 + fail % 2 ^ 8 * 2 ^ 32 + lu % 2 ^ 24 * 2 ^ 40

/-- R306: the token is locked out. -/
def State.tokLocked (s : State) (w : Nat) : Bool :=
  decide (tokFail w ≥ s.failMax) && serialBefore 24 (s.civilMin % 2 ^ 24) (tokLu w)

/-- R306: FAIL and LU after a counted failure. -/
def State.afterFailure (s : State) (w : Nat) : Nat × Nat :=
  let now := s.civilMin % 2 ^ 24
  let fail := tokFail w
  let lu := tokLu w
  let fresh := fail = 0 ∨ fail ≥ s.failMax ∨
    (now + 2 ^ 24 - lu) % 2 ^ 24 > clampTo 1 60 (s.rd SHU_LOCK_CFG.FAIL_WIN_MIN)
  let f := if fresh then 1 else min 255 (fail + 1)
  let l := if fresh then now else lu
  if f ≥ s.failMax then (f, (now + s.lockEff + 1) % 2 ^ 24) else (f, l)

/-- The per-token word that an ending leaves (R302, R306): counter, and failure count and lockout minute. -/
def State.wordAfter (s : State) (c : Ctx) (x : SesAux) (granted : Bool) : Nat :=
  let ctr := x.newCtr.getD (tokCtr c.tokenState)
  if granted then tokWord ctr 0 0
  else if x.failed then
    let r := s.afterFailure c.tokenState
    tokWord ctr r.1 r.2
  else tokWord ctr (tokFail c.tokenState) (tokLu c.tokenState)

/-- Account for a counted failure and a lockout that it begins (SHU). -/
def State.countFailure (s : State) (n : Nat) (w : Nat) : State :=
  let s := s.bump SHU_CNT_FAIL.COUNT
  if tokFail w ≥ s.failMax then
    let s := (s.bump SHU_CNT_LOCKOUT.COUNT).irq SHU_IRQ_STAT.LOCKOUT
    s.unitEvent 0x09 0 SHU_EVT_CODE.REG SHU_EVT_STAMP_LO.STAMP SHU_EVT_STAMP_HI.STAMP
      (4 * 2 ^ 28 + ccLockedOut * 2 ^ 16 + n % 2 ^ 15) ccLockedOut n
  else s

/-- EPH_CLAIM_STAT from the claims held. -/
def State.claimsReg (s : State) : State :=
  let h := s.eph.claims.length
  let s := s.wr EPH_CLAIM_STAT.HELD h
  s.wr EPH_CLAIM_STAT.PEAK (max (s.rd EPH_CLAIM_STAT.PEAK) (min 4095 h))

/-- Requests that SES sends to EPH of another member (R366), by their first byte. -/
def erLookup : Nat := 0
def erUpdate : Nat := 1
def erRelease : Nat := 2
def erChange : Nat := 3

/-- The claim of a session is released (R308, R343), at the member that holds it. -/
def State.releaseClaim (s : State) (n gen : Nat) : State :=
  let s := match (s.aux n).holder with
    | some d =>
      let (_, s) := s.blnRequest d 0x0A 0x08 (leBytes 1 erRelease ++ leBytes 2 n ++ leBytes 2 gen)
      s.updAux n (fun x => { x with holder := none })
    | none => s
  let s := { s with eph := { s.eph with
    claims := s.eph.claims.filter (fun q => !(q.session == n && q.gen == gen && q.device == s.device)) } }
  s.claimsReg

/-- The open-release entry of a session is written (R323, R690). -/
def State.openRelWrite (s : State) (n : Nat) (c : Ctx) : State :=
  match (List.range 256).find? (fun e => (SMap.find s.shu.openRel e).isNone) with
  | none => s
  | some e =>
    let r : OpenRel := { session := n, gen := c.gen, kind := c.relKind, target := c.relTarget, arcFrom := s.plt.head }
    let s := { s with shu := { s.shu with openRel := SMap.put s.shu.openRel e r } }
    let w0 := n % 2 ^ 15 + c.gen % 2 ^ 16 * 2 ^ 16 + c.relKind % 2 ^ 8 * 2 ^ 32 + c.relTarget % 2 ^ 16 * 2 ^ 40 +
      0x0E * 2 ^ 56
    let s := s.pltWrite laneShadow (.openRel n c.gen) [(0xA50000 + 16 * e, w0), (0xA50008 + 16 * e, r.arcFrom % 2 ^ 32)]
    (s.wr SHU_STAT.OPEN_LIST s.shu.openRel.length).updAux n (fun x => { x with orWait := true })

/-- The open-release entry of a session is cleared (R323, R690). -/
def State.openRelClear (s : State) (n gen : Nat) : State :=
  match SMap.first s.shu.openRel (fun _ r => r.session == n && r.gen == gen) with
  | none => s
  | some (e, r) =>
    let s := { s with shu := { s.shu with openRel := SMap.del s.shu.openRel e } }
    let w0 := n % 2 ^ 15 + gen % 2 ^ 16 * 2 ^ 16 + r.kind % 2 ^ 8 * 2 ^ 32 + r.target % 2 ^ 16 * 2 ^ 40
    let s := s.pltWrite laneShadow (.openRelClear e) [(0xA50000 + 16 * e, w0), (0xA50008 + 16 * e, r.arcFrom % 2 ^ 32)]
    s.wr SHU_STAT.OPEN_LIST s.shu.openRel.length

/-- A change that the session's script asked for is still to commit (R347). -/
def State.changeOpen (s : State) (n gen : Nat) : Bool :=
  s.eph.journal.any (fun e => decide (e.stage < 2) && (match e.dest with
    | .core _ m g => m == n && g == gen
    | _ => false))

/-- The record of a session is written once what must commit before it has (R309, R313, R347). -/
def State.recordReady (s : State) (n : Nat) : State :=
  let x := s.aux n
  if x.ptWord.isSome ∨ x.orWait ∨ x.recSent ∨ !x.arcHeld ∨ s.changeOpen n (s.ctx n).gen then s
  else
    let s := s.updAux n (fun x => { x with recSent := true })
    if (s.ctx n).state = ssAborted then s.writeEnd n else s.writeDecision n

/-- The writes of a session under its ARC credit (R309, R313): the per-token update and the open-release entry, and
then its record. -/
def State.recordWrites (s : State) (n : Nat) : State :=
  let c := s.ctx n
  let s := match (s.aux n).ptWord with
    | some w =>
      let s := match (s.aux n).holder with
        | some d =>
          let (_, s) := s.blnRequest d 0x0A 0x08 (leBytes 1 erUpdate ++ leBytes 2 n ++ leBytes 2 c.gen ++
            leBytes 4 c.ephIndex ++ leBytes 8 w)
          s.updAux n (fun x => { x with holder := none })
        | none => s.pltWrite laneEph (.perToken n c.gen) [(8 * c.ephIndex, w)]
      s.updAux n (fun x => { x with ptSince := some s.now })
    | none => s
  let s := if c.state ≠ ssAborted ∧ c.dec = 1 ∧ c.relKind ≠ 0 then s.openRelWrite n c else s
  s.recordReady n

/-- What a session does once a claim is granted: the PEND bits of its requests are set; an ARC credit starts its
writes; an SHU credit makes its step ready (R269, R283). -/
def State.granted (s : State) (n : Nat) (ks : List Nat) : State :=
  let s := (withCpl ks).foldl State.takeCredit s
  let s := s.wr SES_ARB_STAT.CLASS (poolClass (ks.headD 0))
  let s := s.updCtx n (fun c => { c with waitCredit := false, waitPool := 0 })
  let s := ks.foldl (fun a k =>
    match poolPend k with
    | some u => a.updCtx n (fun c => c.setPend u true)
    | none => a) s
  if ks = [poolShu] then
    let s := s.updAux n (fun x => { x with shuHeld := true
                                           paused := x.paused + (x.pauseFrom.map (fun p => s.now - p)).getD 0
                                           pauseFrom := none })
    let s := { s with ses := { s.ses with ready := s.ses.ready ++ [n] } }
    s.wr SES_CORE_STAT.READY (min 0xFFFF s.ses.ready.length)
  else if ks = [poolArc] then
    (s.updAux n (fun x => { x with arcHeld := true })).recordWrites n
  else s

/-- Claim credits for one step of a session: granted together at once, or kept waiting (R285, R286). -/
def State.claim (s : State) (n : Nat) (ks : List Nat) : State :=
  let all := withCpl ks
  let free := all.all s.poolRoom && !s.ses.claims.any (fun c => c.pools.any all.contains)
  if free then s.granted n ks
  else
    let s := { s with ses := { s.ses with claims := s.ses.claims ++ [({ session := n, pools := ks, since := s.now, remote := false } : Claim)] } }
    let lacks := (ks.find? (fun k => !s.poolRoom k)).getD (ks.headD 0)
    let s := s.updCtx n (fun c => { c with waitCredit := true, waitPool := lacks })
    let s := s.updAux n (fun x => { x with waitFrom := s.now
                                           pauseFrom := if poolClass (ks.headD 0) = 0 then some s.now else x.pauseFrom })
    s.claimStat

/-- Serve waiting claims in drain order: class 0, then class 2; each pool in claim order (R286). -/
def serveClaims (cls : Nat) : List Claim → List Nat → State → State
  | [], _, s => s
  | c :: r, blocked, s =>
    let all := withCpl c.pools
    let mine := poolClass (c.pools.headD 0) == cls
    if mine && !c.remote && all.all s.poolRoom && !c.pools.any blocked.contains then
      let s := { s with ses := { s.ses with claims := s.ses.claims.erase c } }
      serveClaims cls r blocked ((s.granted c.session c.pools).claimStat)
    else serveClaims cls r (blocked ++ c.pools) s

def State.drainClaims (s : State) : State :=
  let s := serveClaims 0 s.ses.claims [] s
  let s := serveClaims 2 s.ses.claims [] s
  serveClaims 3 s.ses.claims [] s

/-! ## Completions (R259, R284) -/

/-- A unit completes a session's request into its reserved CPL slot; a result of another generation is dropped and
counted, and its credit returns. -/
def State.complete (s : State) (n gen pool code reason : Nat) (data : List Byte) : State :=
  if s.live n gen then
    { s with ses := { s.ses with
      cpl := s.ses.cpl ++ [({ session := n, gen := gen, pool := pool, code := code, reason := reason, data := data,
                               epoch := s.rd SYS_UNIT_STATE.EPOCH 8 } : Cpl)] } }
  else ((s.bump SES_CNT_STALE.COUNT).irq SES_IRQ_STAT.STALE).giveWithCpl pool

/-! ## The range area (R266) -/

/-- A result of R182 as a range-area entry (R266). -/
def rangeEntry (data : List Byte) (arrival : Nat) (fallback : Bool) : RangeEnt :=
  { rangeMm := toSigned 32 (leAt data 12 4), sigma := leAt data 16 2,
    anchor := leAt data 3 1 * 16 + leAt data 2 1 % 16, nlos := bit (leAt data 6 2) 1, fallback := fallback,
    arrival := arrival, fpSnr := leAt data 18 1 }

/-- Store an entry; a full area sets RANGE_OVF (R266). -/
def State.storeRange (s : State) (n : Nat) (e : RangeEnt) : State :=
  if (s.aux n).ranges.length ≥ 128 then s.updCtx n (fun c => { c with rangeOvf := true })
  else s.updAux n (fun x => { x with ranges := x.ranges ++ [e] })

/-- µs since the open. -/
def State.sinceOpen (s : State) (n : Nat) : Nat := (s.now - (s.ctx n).tOpen) * 10 / ticksPerUs10

end Sys2Proof.Machine
end

