-- ==== Sys2Proof/Machine/RngOps.lean ====
section
/-! DEFINITION. What every unit uses of the random number generator: instances, their supply, and fresh words
(R418–R420). -/

namespace Sys2Proof.Machine

/-- SOURCE of RNG_STAT. -/
def rngStartup : Nat := 0
def rngOk : Nat := 1
def rngFailed : Nat := 2
def rngOff : Nat := 3

/-- STATE of RNG_INST_STAT. -/
def instUninst : Nat := 0
def instReady : Nat := 1
def instDue : Nat := 2
def instWait : Nat := 3
def instFailed : Nat := 4

/-- The source is FAILED: every instance refuses output with RNG_HEALTH (R416). -/
def State.rngBad (s : State) : Bool := s.rd RNG_STAT.SOURCE == rngFailed

/-- RESEED_INT, lower values acting as 16. -/
def State.reseedInt (s : State) : Nat := max 16 (s.rd RNG_CFG.RESEED_INT)

/-- A reseed of an instance is due by its time (R418). -/
def State.reseedTimeDue (s : State) (i : Nat) : Bool :=
  match SMap.find s.rng.seeded i with
  | some a => decide (s.now ≥ a + msT (10 * orOne (s.rd RNG_CFG.RESEED_TIME)))
  | none => true

/-- An instance can supply a value at once: RNG is in RUN or INIT, the source has not failed, the instance is
instantiated and below its hard limit, and instance 2 has the blocks of its reseed (R418, R420). -/
def State.rngCan (s : State) (i : Nat) : Bool :=
  !s.rngBad && (s.rep 0x0D == stRun || s.rep 0x0D == stQuiesce) && (SMap.find s.rng.seeded i).isSome &&
  decide (s.rd RNG_INST_STAT.SINCE i < 2 ^ 20) && (i != 2 || decide (3 ≤ s.rd RNG_STAT.POOL))

/-- Reseed an instance from three pool blocks (R418). -/
def State.rngReseed (s : State) (i : Nat) : State :=
  let s := s.wr RNG_STAT.POOL (s.rd RNG_STAT.POOL - 3)
  let s := { s with rng := { s.rng with seeded := SMap.put s.rng.seeded i s.now } }
  ((s.wr RNG_INST_STAT.SINCE 0 i).wr RNG_INST_STAT.STATE instReady i).bump RNG_CNT_RESEED.COUNT

/-- Account for one generate request of an instance. -/
def State.rngUse (s : State) (i : Nat) : State :=
  let s := if i = 2 then s.rngReseed 2 else s
  let n := min (2 ^ 20) (s.rd RNG_INST_STAT.SINCE i + 1)
  let s := (s.wr RNG_INST_STAT.SINCE n i).bump RNG_INST_CNT.SERVED i
  if n ≥ 2 ^ 20 then s.wr RNG_INST_STAT.STATE instWait i
  else if n ≥ s.reseedInt || s.reseedTimeDue i then s.wr RNG_INST_STAT.STATE instDue i
  else s

/-- Fresh words of an instance, when it can supply them at once. -/
def State.rngTake (s : State) (i words : Nat) : Option (Nat × State) :=
  if s.rngCan i then some (State.drawN words (s.rngUse i)) else none

/-- A fresh nonce of an instance: 32 bits, never 0 (R63, R395). A drawn 0 is taken as 1: the value is the
generator's to choose, and 0 is never issued. -/
def State.rngNonce (s : State) (i : Nat) : Option (Nat × State) :=
  match s.rngTake i 1 with
  | some (w, s) => some (orOne w, s)
  | none => none

end Sys2Proof.Machine
end

