-- ==== Sys2Proof/Machine/DomOps.lean ====
section
/-! DEFINITION. What every unit uses of the Dome and of KCE: the life-cycle state, key derivation, the working key and
the check values (R371–R387, R394, R397, R403–R411). -/

namespace Sys2Proof.Machine

/-! ## Life cycle (R371) -/

def lcBlank : Nat := 1
def lcVendor : Nat := 2
def lcCommissioned : Nat := 3
def lcField : Nat := 4
def lcDecommissioned : Nat := 5

/-- The life-cycle state as the Dome has read it; 0 before the fuses are read. -/
def State.lc (s : State) : Nat := s.rd DOM_LC.STATE

/-- The value of a fuse word. -/
def State.fuseWord (s : State) (w : Nat) : Nat := SMap.get s.fuse.words w 0

/-- The quality of a fuse word as last read (R560, R561). -/
def State.fuseQual (s : State) (w : Nat) : Nat := SMap.get s.fuse.qual w 0

/-- Blow fuse words from w with the bytes of a list, 4 a word: a bit blown stays blown. -/
def State.blow (s : State) (w : Nat) (l : List Byte) : State :=
  let put := fun (m : SMap Nat) (k : Nat) => SMap.put m (w + k) (SMap.get m (w + k) 0 ||| leAt l (4 * k) 4)
  let words := (List.range ((l.length + 3) / 4)).foldl put s.fuse.words
  { s with fuse := { s.fuse with words := words } }

/-- The bytes of n fuse words from w. -/
def State.fuseBytes (s : State) (w n : Nat) : List Byte :=
  (List.range n).flatMap (fun k => leBytes 4 (s.fuseWord (w + k)))

/-- The life-cycle value of a fuse word: the number of ones of the thermometer code and one (R371; the code's place in
the word is the model's, log entry 12). -/
def lcOfWord (w : Nat) : Nat := 1 + popCount w 32

/-- The fuse word of a life-cycle value. -/
def lcWord (v : Nat) : Nat := 2 ^ (v - 1) - 1

/-! ## Derivation (R376, R377) -/

/-- The key-derivation function of R376. -/
def kdf (ki : List Byte) (l1 l2 : Nat) (ctx : List Byte) (bits : Nat) : List Byte :=
  kdfBlocks ki (fun i => leBytes 1 i ++ bytesOf [l1, l2, 0] ++ ctx ++ bytesOf [bits / 256, bits % 256])
    (bits / 128) 1

/-- KTST, the test key (R377). -/
def ktst : List Byte := bytesOf (List.range 16)

/-- Measurements DM and AM, as DOM holds them. -/
def State.dm (s : State) : List Byte := (List.range 4).flatMap (fun i => leBytes 4 (s.rd DOM_DM.MEAS i))
def State.am (s : State) : List Byte := (List.range 4).flatMap (fun i => leBytes 4 (s.rd DOM_AM.MEAS i))

/-- PK, the parent key the state holds (R377): empty where the state holds none. -/
def State.pk (s : State) : List Byte :=
  if s.lc = lcBlank then ktst
  else if s.lc = lcVendor then s.dom.keys.ktr
  else if s.lc = lcCommissioned ∨ s.lc = lcField then s.dom.keys.kau
  else []

/-- The key classes of DOM_WK_STAT. -/
def kKTOK : Nat := 1
def kKR : Nat := 2
def kKS : Nat := 3
def kKB : Nat := 4
def kKNODE : Nat := 5
def kKVU : Nat := 6
def kKT : Nat := 7
def kKE : Nat := 8
def kKENV : Nat := 9
def kKSEAL : Nat := 10
def kKAT : Nat := 11
def kGEN : Nat := 12
def kKDCV : Nat := 13
def kKDCA : Nat := 14

/-- The pairs of class and requester unit that R380 allows; a generated key answers to the cores. -/
def keyPair (cls unit : Nat) : Bool :=
  (cls == kKTOK && unit == 0x08) || (cls == kKR && unit == 0x09) || (cls == kKS && unit == 0x05) ||
  (cls == kKB && unit == 0x06) || ((cls == kKNODE || cls == kKVU) && unit == 0x09) ||
  ((cls == kKT || cls == kKE) && unit == 0x0A) || (cls == kKSEAL && unit == 0x10) ||
  ((cls == kKENV || cls == kKDCV || cls == kKDCA || cls == kKAT) && unit == 0x0B) ||
  (cls == kGEN && unit == 0x0E)

/-- KTOK of a token: TOKEN_ID in [23:0] and KV in [27:24] of `token` (R377). -/
def State.ktok (s : State) (token : Nat) : List Byte :=
  kdf s.dom.keys.fk 0x54 0x4B (leBytes 3 (bits token 23 0) ++ leBytes 1 (bits token 27 24)) 128

/-- KS of a session: from KTOK and the session nonce (R377). -/
def State.ks (s : State) (token nonce : Nat) : List Byte := kdf (s.ktok token) 0x53 0x53 (leBytes 16 nonce) 128

/-- A derived key by class; `ctx` is what R377 names beside the parent: TOKEN for KTOK and KR, the derived session
key for KB, the node identity, VU_ID, SALT or the slot's own key. -/
def State.keyOf (s : State) (cls : Nat) (ctx : List Byte) : List Byte :=
  let fk := s.dom.keys.fk
  let dev := leBytes 8 s.devid
  if cls = kKTOK then kdf fk 0x54 0x4B (padTo ctx 4) 128
  else if cls = kKR then kdf (kdf fk 0x54 0x4B (padTo ctx 4) 128) 0x52 0x4C [] 128
  else if cls = kKS ∨ cls = kGEN then ctx
  else if cls = kKB then kdf ctx 0x44 0x42 [] 128
  else if cls = kKNODE then kdf fk 0x4E 0x44 (padTo ctx 8) 128
  else if cls = kKVU then kdf fk 0x56 0x55 (padTo ctx 4) 128
  else if cls = kKT then kdf fk 0x54 0x52 (padTo ctx 4) 128
  else if cls = kKE then kdf fk 0x45 0x43 [] 128
  else if cls = kKSEAL then kdf s.pk 0x53 0x4C (s.am ++ dev) 256
  else if cls = kKAT then kdf s.dom.keys.katb 0x41 0x54 (s.am ++ dev) 256
  else if cls = kKDCV then s.fuseBytes 0x520 4
  else if cls = kKDCA then s.fuseBytes 0x524 4
  else kdf (if leAt ctx 1 1 = 1 then s.dom.keys.kcomm else s.pk) 0x45 0x56 (ctx.take 1 ++ dev) 256

/-- The key of a class needs one of the keys the state holds; in its absence the use completes with LIFECYCLE. -/
def State.keyHeld (s : State) (cls : Nat) : Bool :=
  if cls = kKSEAL ∨ cls = kKENV then !s.pk.isEmpty
  else if cls = kKAT then !s.dom.keys.katb.isEmpty
  else if cls = kGEN ∨ cls = kKDCV ∨ cls = kKDCA then true
  else !s.dom.keys.fk.isEmpty

/-- Why the Dome refuses a key use, 0 when it does not: its unit state (R691), FUSE_BAD in FIELD (R394), no open bank
(R379), HALT (R398), the random generator (R382), or a key the state does not hold. `exempt` marks the uses HALT
allows, `dec` the check of a DECOMMISSION envelope. -/
def State.keyCode (s : State) (cls : Nat) (exempt : Bool) (dec : Bool := false) : Nat :=
  if s.dom.erasing ∧ cls ≠ kKSEAL then ccLifecycle
  else if (s.rep 0x0B = stQuiesce ∨ s.rep 0x0B = stHalt) ∧ !(exempt && cls == kKENV) then
    (if (s.on DOM_STAT.HALT ∨ s.dom.erasing) ∧ cls = kKSEAL then ccOk else ccBusy)
  else if cls = kKDCV ∨ cls = kKDCA then ccOk
  else if s.on DOM_STAT.HALT ∧ !exempt ∧ cls ≠ kKSEAL ∧ cls ≠ kKAT then ccTamper
  else if s.on DOM_STAT.FUSE_BAD ∧ s.lc = lcField ∧ !dec then ccFuseMarginal
  else if s.on DOM_STAT.NO_BANK then ccLifecycle
  else if s.rngBad then ccRngHealth
  else if s.keyHeld cls then ccOk else ccLifecycle

/-! ## The working key (R381–R385) -/

/-- Clear the working-key register. -/
def State.clearWk (s : State) : State :=
  let s := { s with dom := { s.dom with wk := none } }
  s.wrWord DOM_WK_STAT.REG 0

/-- Load the working-key register (R381). -/
def State.loadWk (s : State) (k : WKey) : State :=
  let s := { s with dom := { s.dom with wk := some k } }
  let s := ((s.wr DOM_WK_STAT.CLASS k.cls).wr DOM_WK_STAT.REQ k.req).wr DOM_WK_STAT.USES k.uses
  (s.rngUse 1).bump DOM_CNT_DERIVE.COUNT

/-- Consume one use; the register is cleared when its count reaches 0 (R381, R383). -/
def State.useWk (s : State) : State :=
  match s.dom.wk with
  | none => s
  | some k =>
    if k.uses ≤ 1 then s.clearWk
    else
      let s := { s with dom := { s.dom with wk := some { k with uses := k.uses - 1 } } }
      s.wr DOM_WK_STAT.USES (k.uses - 1)

/-! ## KCE within a step (R403–R411, log entry 13) -/

/-- The lane of a requester unit. -/
def kceLaneOf (unit : Nat) : Nat :=
  if unit = 0x08 then 0 else if unit = 0x05 then 1 else if unit = 0x06 then 2 else if unit = 0x09 then 3
  else if unit = 0x0A then 4 else if unit = 0x10 then 5 else if unit = 0x0B then 6 else 7

/-- Blocks of a message (R409): at least one. -/
def kceBlocks (msg : List Byte) : Nat := max 1 ((msg.length + 15) / 16)

/-- Account for a message that completed on a lane: KCE_LAST, the counters. -/
def State.kceDone (s : State) (lane code : Nat) : State :=
  let s := (s.wr KCE_LAST.CODE code).wr KCE_LAST.LANE lane
  let s := (s.bump KCE_CNT_MSG.COUNT).bump KCE_LANE_STAT.DONE lane
  if code = ccPoisoned then (s.bump KCE_CNT_POISON.COUNT).irq KCE_IRQ_STAT.POISON
  else if code = ccKeySpent then s.bump KCE_CNT_SPENT.COUNT
  else if code = ccRngHealth then s.irq KCE_IRQ_STAT.MASK_WAIT
  else s

/-- Why KCE completes a message with another code than OK, 0 when it does not. -/
def State.kceCode (s : State) : Nat :=
  if s.rep 0x0C = stHalt ∨ s.rep 0x0C = stReset then ccBusy
  else if s.kce.katBad ∨ s.rep 0x0C = stFault then ccKceAlarm
  else if !s.rngCan 0 then ccRngHealth
  else ccOk

/-- A message that a unit has KCE compute within one step: the code, the tag (empty when the code is not OK) and the
state after. The key is loaded for the requester with one use, and the use is consumed. A pending ALARM_TEST is left
to the next message that KCE runs by itself. -/
def State.kceNow (s : State) (unit cls : Nat) (ctx msg : List Byte) (exempt : Bool := false)
    (dec : Bool := false) :
    Nat × List Byte × State :=
  let lane := kceLaneOf unit
  let dc := if keyPair cls unit then s.keyCode cls exempt dec else ccDenied
  if dc ≠ ccOk then (dc, [], s.kceDone lane dc)
  else
    let kc := s.kceCode
    if kc ≠ ccOk then (kc, [], s.kceDone lane kc)
    else
      let key := s.keyOf cls ctx
      let s := s.loadWk { cls := cls, req := unit, uses := 1, key := key, session := noSession, gen := 0 }
      let s := s.rngUse 0
      let s := s.useWk
      let s := s.add KCE_CNT_BLOCK.COUNT (kceBlocks msg)
      (ccOk, cmac key msg, s.kceDone lane ccOk)

/-! ## Writes of the Dome to AUTHORITY (R514, R515) -/

/-- A write of the Dome to its region: what it holds is internal to the Dome, and its word is a fresh random one (the
wrapped form is not disclosed, R379). -/
def State.domWrite (s : State) (what : Nat) : State :=
  let (w, s) := State.drawN 2 s
  s.pltWrite laneDom (.dome what) [(0xB00000 + 8 * what, w)]

/-- What a Dome write stands for. -/
def domEnvelope : Nat := 0
def domPending : Nat := 1
def domBank : Nat := 2
def domOldBank : Nat := 3
def domPendClear : Nat := 4
def domLatch : Nat := 5
def domBoots : Nat := 6
def domErase : Nat := 7
def domProtect : Nat := 8

/-- DOM's event registers. -/
def State.domEvent (s : State) (kind detail code : Nat) : State :=
  s.unitEvent 0x0B 0 DOM_EVT_CODE.REG DOM_EVT_STAMP_LO.STAMP DOM_EVT_STAMP_HI.STAMP
    (kind * 2 ^ 28 + detail * 2 ^ 24 + code * 2 ^ 16) code

/-- DOM_KEYS from the keys held. -/
def State.domKeysReg (s : State) : State :=
  let k := s.dom.keys
  let m := bitMap (([(0, decide (s.lc = lcBlank)), (1, !k.ktr.isEmpty), (2, !k.katb.isEmpty), (3, !k.kau.isEmpty),
    (4, !k.kcomm.isEmpty), (5, !k.fk.isEmpty)].filter (fun x => x.2)).map (fun x => x.1))
  let s := s.wr DOM_KEYS.PRESENT m
  let s := s.flag DOM_KEYS.BANK_A s.dom.bankA.isSome
  let s := s.flag DOM_KEYS.BANK_B s.dom.bankB.isSome
  let s := s.flag DOM_KEYS.KDC_V (!(s.fuseBytes 0x520 4).all (· == 0))
  let s := s.flag DOM_KEYS.KDC_A (!(s.fuseBytes 0x524 4).all (· == 0))
  s.wr DOM_KEYS.GEN_USED s.dom.gkeys.length

end Sys2Proof.Machine
end

