-- ==== Sys2Proof/Machine/CalOps.lean ====
section
/-! DEFINITION. Calibration items: factory value in fuses, user value in the Plate store, effective value
(R561–R565). -/

namespace Sys2Proof.Machine

/-- The user range of an item (R563); none for a number the table does not list. -/
def calRange (item : Nat) : Option (Int × Int) :=
  if item < 0x400 then
    ([some (-500, 500), some (-200, 200), some (-400, 400), some (-256, 256)] : List (Option (Int × Int))).getD
      (item % 16) none
  else if 0x1000 ≤ item ∧ item < 0x1280 then
    ([some (-20, 20), some (-8, 8), some (-512, 512), some (-512, 512), some (-64, 64), some (-64, 64)] :
      List (Option (Int × Int))).getD (item % 32) none
  else if 0x1400 ≤ item ∧ item < 0x1420 then some (-320, 320)
  else if 0x1500 ≤ item ∧ item ≤ 0x1502 then some (-50, 50)
  else none

/-- The fuse word of an item's factory value, and its bits. -/
def calFuse (item : Nat) : Nat × Nat × Nat :=
  if item < 0x400 then (0x100 + 8 * (item / 16) + item % 16, 31, 0)
  else if item < 0x1400 then (0x300 + 16 * ((item - 0x1000) / 32) + item % 32, 31, 0)
  else if item < 0x1500 then
    (if item % 2 = 0 then (0x500 + (item - 0x1400) / 2, 31, 16) else (0x500 + (item - 0x1400) / 2, 15, 0))
  else (0x510 + (item - 0x1500), 31, 0)

/-- The factory value of an item, when its fuse word is not marginal in both copies (R561). -/
def State.calFact (s : State) (item : Nat) : Option Int :=
  match calRange item with
  | none => none
  | some _ =>
    let f := calFuse item
    if s.fuseQual f.1 = 3 then none
    else some (toSigned (f.2.1 + 1 - f.2.2) (bits (s.fuseWord f.1) f.2.1 f.2.2))

/-- The user value of an item (R564). -/
def State.calUser (s : State) (item : Nat) : Option Int :=
  let a := 0xA10000 + 8 * item
  let w := s.pltWord a
  if bits w 63 56 = 0xCA ∧ bits w 47 32 = item ∧ !s.pltPoisoned a then some (toSigned 32 (bits w 31 0)) else none

/-- The effective value (R562) from a user value, and whether it was clamped. -/
def State.calWith (s : State) (item : Nat) (user : Int) : Option (Int × Bool) :=
  match calRange item, s.calFact item with
  | some (lo, hi), some f => some (f + min (max user lo) hi, decide (user < lo) || decide (hi < user))
  | _, _ => none

/-- The effective value of an item; until recall completes, the factory value alone (R565). -/
def State.calEff (s : State) (item : Nat) : Option Int :=
  if !s.on PLT_STAT.RECALLING then (s.calWith item ((s.calUser item).getD 0)).map (·.1) else s.calFact item

/-- The word of a user value (R564). -/
def calWord (item : Nat) (v : Int) : Nat := ofSigned 32 v + item % 65536 * 2 ^ 32 + 0xCA * 2 ^ 56

/-- A calibration procedure writes the user values of its items (R565): each is what was measured less the factory
value. -/
def State.calStore (s : State) (items : List (Nat × Int)) : State :=
  items.foldl (fun (a : State) p =>
    match a.calFact p.1 with
    | some f => a.pltWrite laneCal .cal [(0xA10000 + 8 * p.1, calWord p.1 (p.2 - f))]
    | none => a) s

end Sys2Proof.Machine
end

