-- ==== Sys2Proof/Machine/Solver.lean ====
section
/-! DEFINITION. The position solve of R235–R240 and R248 in exact rational arithmetic, with square roots and iterates
cut to a fixed grid: the "working precision" of R237, which the spec leaves open (DESIGN CHOICE, log entry 9). -/

namespace Sys2Proof.Machine

/-- The grid of iterates and roots: 2^-24 mm. -/
def gridCut (r : Rat) : Rat := ((r * 2 ^ 24).floor : Rat) / 2 ^ 24

/-- The square root of a rational that is not negative, cut to the grid. -/
def ratSqrt (r : Rat) : Rat := ((Nat.sqrt (r * 2 ^ 48).floor.toNat : Nat) : Rat) / 2 ^ 24

/-- The nearest integer, halves upward. -/
def ratRound (r : Rat) : Int := (r + 1 / 2).floor

/-- An input of a solve: its anchor index and place, the range, s squared (R235) and NLOS. -/
structure SolIn where
  idx : Nat
  pos : List Rat
  range : Rat
  s2 : Rat
  nlos : Bool

/-- The sum of products of two lists. -/
def dot (a b : List Rat) : Rat := (List.zipWith (· * ·) a b).foldl (· + ·) 0

def vsub (a b : List Rat) : List Rat := List.zipWith (· - ·) a b

def vadd (a b : List Rat) : List Rat := List.zipWith (· + ·) a b

def vscale (k : Rat) (a : List Rat) : List Rat := a.map (k * ·)

/-- The largest magnitude on the diagonal of the square part of augmented rows. -/
def maxDiag (m : List (List Rat)) : Rat :=
  (List.range m.length).foldl (fun a k => max a |(m.getD k []).getD k 0|) 0

/-- Gauss–Jordan elimination of augmented rows from column c on: none when a pivot vanishes against the bound. -/
def eliminate (tiny : Rat) : Nat → Nat → List (List Rat) → Option (List (List Rat))
  | 0, _, m => some m
  | n + 1, c, m =>
    let cands := (List.range m.length).filter (fun r => decide (c ≤ r))
    let p := cands.foldl (fun b r => if |(m.getD b []).getD c 0| < |(m.getD r []).getD c 0| then r else b) c
    let prow := m.getD p []
    let piv := prow.getD c 0
    if |piv| ≤ tiny then none
    else
      let swapped := (m.set p (m.getD c [])).set c (vscale (1 / piv) prow)
      let row := swapped.getD c []
      let m' := (List.range m.length).map (fun r =>
        let x := swapped.getD r []
        if r = c then x else vsub x (vscale (x.getD c 0) row))
      eliminate tiny n (c + 1) m'

/-- Solve M x = v for every column of right-hand sides appended to the rows of M. -/
def solveRows (m : List (List Rat)) : Option (List (List Rat)) :=
  eliminate (maxDiag m / 2 ^ 40) m.length 0 m

/-- The normal matrix J^T W J of rows with their weights. -/
def normalMat (nu : Nat) (rows : List (List Rat × Rat)) : List (List Rat) :=
  (List.range nu).map (fun i => (List.range nu).map (fun k =>
    rows.foldl (fun a r => a + r.1.getD i 0 * r.1.getD k 0 / r.2) 0))

/-- The inverse of a matrix. -/
def invert (m : List (List Rat)) : Option (List (List Rat)) :=
  let n := m.length
  let aug := (List.range n).map (fun i =>
    m.getD i [] ++ (List.range n).map (fun k => if i = k then (1 : Rat) else 0))
  (solveRows aug).map (fun r => r.map (fun x => x.drop n))

/-- Distance, residual and Jacobian row of an input at a point (R237); none when the distance is below 1 mm. -/
def jacRow (nu : Nat) (p : List Rat) (b : Rat) (i : SolIn) : Option (List Rat × Rat) :=
  let v := vsub p i.pos
  let d := ratSqrt (dot v v)
  if d < 1 then none
  else
    let u := v.map (fun x => gridCut (x / d))
    some (if nu = 4 then u ++ [1] else u, i.range - d - b)

/-- Every element, or none. -/
def allSome {α : Type} : List (Option α) → Option (List α)
  | [] => some []
  | none :: _ => none
  | some x :: r => (allSome r).map (x :: ·)

/-- Gauss–Newton from a start (R237): the point, the delay term and the iterations used. -/
def gaussNewton (nu : Nat) (conv : Rat) (ins : List SolIn) :
    Nat → Nat → List Rat → Rat → Option (List Rat × Rat × Nat)
  | 0, _, _, _ => none
  | n + 1, it, p, b =>
    match allSome (ins.map (jacRow nu p b)) with
    | none => none
    | some rows =>
      let rw := List.zipWith (fun (r : List Rat × Rat) (i : SolIn) => (r, i.s2)) rows ins
      let m := normalMat nu (rw.map (fun x => (x.1.1, x.2)))
      let rhs := (List.range nu).map (fun k => rw.foldl (fun a x => a + x.1.1.getD k 0 * x.1.2 / x.2) 0)
      match solveRows (List.zipWith (fun r v => r ++ [v]) m rhs) with
      | none => none
      | some sol =>
        let dx := sol.map (fun r => r.getD nu 0)
        let p' := (vadd p (dx.take 3)).map gridCut
        let b' := gridCut (b + dx.getD 3 0)
        if dot dx dx < conv * conv then some (p', b', it)
        else gaussNewton nu conv ins n (it + 1) p' b'

/-- The lower median of a list. -/
def lowerMedian (l : List Rat) : Rat :=
  let s := sortBy (fun a b => decide (a ≤ b)) l
  s.getD ((s.length - 1) / 2) 0

/-- Start A of R238: weighted linear least squares against the used anchor of lowest index. -/
def startA (ins : List SolIn) : Option (List Rat) :=
  match ins with
  | [] => none
  | z :: r =>
    let rows := r.map (fun i =>
      (vscale 2 (vsub i.pos z.pos), dot i.pos i.pos - dot z.pos z.pos - i.range * i.range + z.range * z.range, i.s2))
    let m := normalMat 3 (rows.map (fun x => (x.1, x.2.2)))
    let rhs := (List.range 3).map (fun k => rows.foldl (fun a x => a + x.1.getD k 0 * x.2.1 / x.2.2) 0)
    (solveRows (List.zipWith (fun r v => r ++ [v]) m rhs)).map (fun s => s.map (fun r => gridCut (r.getD 3 0)))

/-- Edges of a polygon. -/
def edges (v : List (Int × Int)) : List ((Int × Int) × (Int × Int)) := List.zip v (v.rotateLeft 1)

/-- Twice the signed area of a polygon. -/
def area2 (v : List (Int × Int)) : Int :=
  (edges v).foldl (fun a e => a + (e.1.1 * e.2.2 - e.2.1 * e.1.2)) 0

/-- The centroid of a region's prism. -/
def regionCentroid (g : Region) : List Rat :=
  let a : Rat := area2 g.verts
  let c := (edges g.verts).foldl (fun (acc : Rat × Rat) e =>
    let k : Rat := e.1.1 * e.2.2 - e.2.1 * e.1.2
    (acc.1 + (e.1.1 + e.2.1) * k, acc.2 + (e.1.2 + e.2.2) * k)) (0, 0)
  [gridCut (c.1 / (3 * a)), gridCut (c.2 / (3 * a)), ((g.zLo + g.zHi : Int) : Rat) / 2]

/-- Start B of R238. -/
def startB (g : Option Region) (ins : List SolIn) : List Rat × Rat :=
  let p := match g with
    | some r => regionCentroid r
    | none =>
      let n : Rat := ins.length
      (ins.foldl (fun a i => vadd a i.pos) [0, 0, 0]).map (fun x => gridCut (x / n))
  let d := ins.map (fun i => i.range - ratSqrt (dot (vsub i.pos p) (vsub i.pos p)))
  (p, max 0 (lowerMedian d))

/-- A solution: the point, b, iterations, chi, the residual over s of each input, and cov. -/
structure Solution where
  p : List Rat
  b : Rat
  iter : Nat
  chi : Rat
  nres : List (Nat × Rat)
  cov : List (List Rat)

/-- The figures of R239 at a converged point. -/
def judgePoint (nu : Nat) (ins : List SolIn) (r : List Rat × Rat × Nat) : Option Solution :=
  match allSome (ins.map (jacRow nu r.1 r.2.1)) with
  | none => none
  | some rows =>
    let rw := List.zipWith (fun (x : List Rat × Rat) (i : SolIn) => (x, i)) rows ins
    match invert (normalMat nu (rw.map (fun x => (x.1.1, x.2.s2)))) with
    | none => none
    | some cov =>
      some { p := r.1, b := r.2.1, iter := r.2.2,
             chi := rw.foldl (fun a x => a + x.1.2 * x.1.2 / x.2.s2) 0,
             nres := rw.map (fun x => (x.2.idx, x.1.2 / ratSqrt x.2.s2)), cov := cov }

/-- The kept result of both starts (R238): the lower chi; start A in a tie. -/
def solveBoth (nu maxIter : Nat) (conv : Rat) (g : Option Region) (ins : List SolIn) : Option Solution :=
  let a := (startA ins).bind (fun p => (gaussNewton nu conv ins maxIter 1 p 0).bind (judgePoint nu ins))
  let sb := startB g ins
  let b := (gaussNewton nu conv ins maxIter 1 sb.1 (if nu = 4 then sb.2 else 0)).bind (judgePoint nu ins)
  match a, b with
  | some x, some y => if y.chi < x.chi then some y else some x
  | some x, none => some x
  | none, y => y

/-- The position block of cov scaled off a square: v² I − C. -/
def lessCov (c : List (List Rat)) (v2 : Rat) : List (List Rat) :=
  (List.range 3).map (fun i => (List.range 3).map (fun k =>
    (if i = k then v2 else 0) - (c.getD i []).getD k 0))

/-- A symmetric 3 × 3 matrix has no negative eigenvalue: every principal minor is at least 0. -/
def psd3 (m : List (List Rat)) : Bool :=
  let e := fun i k => (m.getD i []).getD k 0
  let m2 := fun i k => e i i * e k k - e i k * e k i
  let det := e 0 0 * m2 1 2 - e 0 1 * (e 1 0 * e 2 2 - e 1 2 * e 2 0) + e 0 2 * (e 1 0 * e 2 1 - e 1 1 * e 2 0)
  decide (0 ≤ e 0 0) && decide (0 ≤ e 1 1) && decide (0 ≤ e 2 2) && decide (0 ≤ m2 0 1) && decide (0 ≤ m2 0 2) &&
    decide (0 ≤ m2 1 2) && decide (0 ≤ det)

/-- sigp is at most v (R239), by eigenvalues of the position block. -/
def sigpAtMost (c : List (List Rat)) (v : Rat) : Bool := psd3 (lessCov c (v * v))

/-- sigp in units of 0.1 mm, rounded up, saturating: bisection below 2^k from a base. -/
def sigpTenths (c : List (List Rat)) : Nat → Nat → Nat
  | 0, base => if sigpAtMost c ((base : Rat) / 10) then base else base + 1
  | k + 1, base =>
    let mid := base + 2 ^ k
    if sigpAtMost c ((mid : Rat) / 10) then sigpTenths c k base else sigpTenths c k mid

/-- The squared distance of a point to a segment. -/
def segDist2 (px py : Rat) (e : (Int × Int) × (Int × Int)) : Rat :=
  let ax : Rat := e.1.1
  let ay : Rat := e.1.2
  let dx : Rat := e.2.1 - e.1.1
  let dy : Rat := e.2.2 - e.1.2
  let l2 := dx * dx + dy * dy
  let t := if l2 = 0 then 0 else max 0 (min 1 (((px - ax) * dx + (py - ay) * dy) / l2))
  let qx := px - ax - t * dx
  let qy := py - ay - t * dy
  qx * qx + qy * qy

/-- A point lies inside a polygon, by crossings of a ray. -/
def insidePoly (px py : Rat) (v : List (Int × Int)) : Bool :=
  (edges v).foldl (fun a e =>
    let ay : Rat := e.1.2
    let by' : Rat := e.2.2
    let ax : Rat := e.1.1
    let bx : Rat := e.2.1
    if (decide (py < ay) != decide (py < by')) && decide (px < ax + (py - ay) * (bx - ax) / (by' - ay)) then !a
    else a) false

/-- The signed distance e of R248. -/
def regionEdge (g : Region) (p : List Rat) : Rat :=
  let px := p.getD 0 0
  let py := p.getD 1 0
  let pz := p.getD 2 0
  let d2 := (edges g.verts).foldl (fun (a : Option Rat) e =>
    let x := segDist2 px py e
    some (match a with
      | none => x
      | some y => min x y)) none
  let d := ratSqrt (d2.getD 0)
  let dxy := if insidePoly px py g.verts then d else -d
  let dz := min (pz - g.zLo) (g.zHi - pz)
  if 0 ≤ dxy ∧ 0 ≤ dz then min dxy dz
  else
    let ox := max 0 (-dxy)
    let oz := max 0 (-dz)
    (0 : Rat) - ratSqrt (ox * ox + oz * oz)

/-- Membership of R248: 0 IN, 1 OUT, 2 UNCERTAIN. The factor is k tenths; e ≥ k sigp is judged on squares. -/
def membership (g : Region) (e : Rat) (cov : List (List Rat)) : Nat :=
  let k : Rat := (if g.zSig = 0 then 20 else g.zSig : Nat) / 10
  let within := sigpAtMost cov (|e| / k)
  if 0 ≤ e ∧ within then 0 else if e ≤ 0 ∧ within then 1 else 2

/-- What a whole solve found (R236–R240): the form's outcome before the decision of R242. -/
inductive SolveOut where
  /-- Fewer anchors than the form needs. -/
  | few
  /-- No start converges. -/
  | noConv
  /-- A result: the unknowns, the inputs used, those dropped, and the solution. -/
  | found (nu : Nat) (ins dropped : List SolIn) (sol : Solution)

/-- The settings of a solve: CHI_K, CHI_ADD and RES_MAX in tenths, MAX_ITER, CONV in tenths of a millimetre, OUT_MAX,
REQUIRE_DELAY. -/
structure SolveCfg where
  chiK : Nat
  chiAdd : Nat
  resMax : Nat
  maxIter : Nat
  conv : Nat
  outMax : Nat
  reqDelay : Bool

/-- thr of R239, cut to the grid: dof + CHI_K sqrt(2 dof) + CHI_ADD. -/
def solveThr (cfg : SolveCfg) (dof : Nat) : Rat :=
  dof + (cfg.chiK : Rat) / 10 * ratSqrt (2 * dof) + (cfg.chiAdd : Rat) / 10

/-- The form of R236 for n anchors: the unknowns, if there is one. -/
def solveForm (cfg : SolveCfg) (n : Nat) : Option Nat :=
  if n < 4 then none else if n = 4 then (if cfg.reqDelay then none else some 3) else some 4

/-- The residuals fail: chi above thr, or a normalised residual above RES_MAX. -/
def residFail (cfg : SolveCfg) (nu n : Nat) (sol : Solution) : Bool :=
  decide (solveThr cfg (n - nu) < sol.chi) ||
    sol.nres.any (fun x => decide ((cfg.resMax : Rat) / 10 < |x.2|))

/-- The solve with the drops of R240: the NLOS anchor with the largest residual goes, up to OUT_MAX times. -/
def solveDrops (cfg : SolveCfg) (g : Option Region) : Nat → List SolIn → List SolIn → SolveOut
  | k, ins, dropped =>
    match solveForm cfg ins.length with
    | none => .few
    | some nu =>
      match solveBoth nu cfg.maxIter ((cfg.conv : Rat) / 10) g ins with
      | none => .noConv
      | some sol =>
        match k with
        | 0 => .found nu ins dropped sol
        | k + 1 =>
          let cand := (List.zip ins (sol.nres.map (·.2))).filter (fun x => x.1.nlos)
          let worst := cand.foldl (fun (a : Option (SolIn × Rat)) x =>
            match a with
            | none => some x
            | some y => if |y.2| < |x.2| then some x else some y) none
          match residFail cfg nu ins.length sol, worst with
          | true, some w =>
            if solveForm cfg (ins.length - 1) = some nu then
              solveDrops cfg g k (ins.filter (fun i => i.idx ≠ w.1.idx)) (dropped ++ [w.1])
            else .found nu ins dropped sol
          | _, _ => .found nu ins dropped sol
termination_by structural k => k

/-- The whole solve. -/
def solveAll (cfg : SolveCfg) (g : Option Region) (ins : List SolIn) : SolveOut :=
  solveDrops cfg g cfg.outMax ins []

end Sys2Proof.Machine
end

