-- ==== Sys2Proof/Machine/FirstPath.lean ====
section
/-! DEFINITION. Transit's numbers: the first path, the tests of a reception, time of flight and range (R177–R188). -/

namespace Sys2Proof.Machine

/-! ## The first path (R184) -/

/-- |c|² of a tap; 0 outside the response. -/
def tapPow (l : List (Int × Int)) (k : Nat) : Nat :=
  match l[k]? with
  | some (i, q) => (i * i + q * q).natAbs
  | none => 0

/-- |c| of a tap in units of 2^−20, rounded down. -/
def tapMag (l : List (Int × Int)) (k : Nat) : Nat := Nat.sqrt (tapPow l k * 2 ^ 40)

/-- Index of the strongest tap: the first of equals. -/
def peakOf (l : List (Int × Int)) : Nat :=
  (List.range l.length).foldl (fun p k => if tapPow l k > tapPow l p then k else p) 0

/-- Noise power as a sum and a count: the taps not within 64 of the peak. -/
def noiseOf (l : List (Int × Int)) (peak : Nat) : Nat × Nat :=
  let ks := (List.range l.length).filter (fun k => decide (k + 64 < peak) || decide (peak + 64 < k))
  (ks.foldl (fun a k => a + tapPow l k) 0, ks.length)

/-- A tap's power is at least the noise power raised by n half decibels: exact, since 10^(n/20) to the 20th is 10^n. -/
def overNoise (noise : Nat × Nat) (n p : Nat) : Bool := decide ((p * noise.2) ^ 20 ≥ noise.1 ^ 20 * 10 ^ n)

/-- A tap's power is at least the peak's lowered by n half decibels. -/
def underPeak (peak n p : Nat) : Bool := decide (p ^ 20 * 10 ^ n ≥ peak ^ 20)

/-- The search from the peak towards earlier taps: the earliest qualifying tap. -/
def searchBack (l : List (Int × Int)) (ok ok2 : Nat → Bool) : Nat → Nat → Nat → Nat
  | 0, _, k0 => k0
  | fuel + 1, k, k0 =>
    let k0 := if ok (tapPow l k) && ok2 (4 * tapPow l (k + 1)) then k else k0
    if k = 0 then k0 else searchBack l ok ok2 fuel (k - 1) k0

/-- The first local maximum at or after a tap. -/
def localMax (l : List (Int × Int)) : Nat → Nat → Nat
  | 0, k => k
  | fuel + 1, k => if tapPow l (k + 1) > tapPow l k then localMax l fuel (k + 1) else k

/-- The sub-tap position in ticks around tap m. -/
def subTap (l : List (Int × Int)) (m : Nat) : Nat :=
  let a : Int := if m = 0 then 0 else tapMag l (m - 1)
  let b : Int := tapMag l m
  let d : Int := tapMag l (m + 1)
  let den := a - 2 * b + d
  if den = 0 then 64 * m
  else (ratRound (64 * ((m : Rat) + (1 / 2 : Rat) * ((a - d : Int) : Rat) / ((den : Int) : Rat)))).toNat

/-- The largest number of half decibels by which a power stands over the noise, at most 255. -/
def snrOf (noise : Nat × Nat) (p : Nat) : Nat :=
  (List.range 256).foldl (fun a n => if overNoise noise n p then n else a) 0

/-- A first path: position in ticks, its tap m, FP_SNR in 0.5 dB, the strongest tap and the rms noise. -/
structure FPath where
  ticks : Nat
  tap : Nat
  snr : Nat
  peak : Nat
  noise : Nat
deriving DecidableEq, Repr

/-- R184, with FP_THR_DB and PEAK_REL_DB in 0.5 dB and SEARCH_WIN in taps. -/
def firstPath (l : List (Int × Int)) (thrDb relDb win : Nat) : FPath :=
  let peak := peakOf l
  let noise := noiseOf l peak
  let pp := tapPow l peak
  let ok := fun (p : Nat) => overNoise noise thrDb p && underPeak pp relDb p
  let k0 := searchBack l ok ok (min (orOne win) peak + 1) peak peak
  let m := localMax l l.length k0
  { ticks := subTap l m, tap := m, snr := snrOf noise (tapPow l m), peak := peak,
    noise := Nat.sqrt (noise.1 / max 1 noise.2) }

/-! ## Early-detect/late-commit (R187) -/

/-- The test of R187 on the sub-blocks' correlations, SUB_MIN in %. Every a[b] × |ref| is the integer
re(s[b] × conj(ref)), so the comparisons are exact. -/
def edlcPass (subs : List (Int × Int)) (nsub subMin : Nat) : Bool :=
  let s := (List.range nsub).map (fun b => subs.getD b (0, 0))
  let ri := s.foldl (fun a x => a + x.1) 0
  let rq := s.foldl (fun a x => a + x.2) 0
  let pow := ri * ri + rq * rq
  let a := s.map (fun x => x.1 * ri + x.2 * rq)
  a.all (fun x => decide (x * 100 * nsub ≥ (subMin : Int) * pow)) &&
  decide ((a.filter (fun x => decide (x * 2 * nsub < pow))).length ≤ 1)

/-! ## Time of flight and range (R177, R178, R181) -/

/-- DS-TWR: time of flight in 1/16 tick. -/
def dsTof (ra rb da db : Int) : Int :=
  let den := ra + rb + da + db
  if den = 0 then 0 else ratRound ((16 * (ra * rb - da * db) : Int) / ((den : Int) : Rat))

/-- The token's clock offset from the intervals, in 0.01 ppm, positive when it runs fast. -/
def dsEps (ra rb da db : Int) : Int :=
  if ra + da = 0 then 0 else ratRound (((rb + db - ra - da) * 100000000 : Int) / ((ra + da : Int) : Rat))

/-- SS-TWR: (ra − db × (1 − eps)) / 2 in 1/16 tick. -/
def ssTof (ra db eps : Int) : Int :=
  ratRound (8 * ((ra : Rat) - (db : Rat) * (1 - (eps : Rat) / 100000000)))

/-- R181: the range in mm of a time of flight in 1/16 tick. -/
def rangeMm (tof16 : Int) : Int := ratRound ((tof16 : Rat) * 299702547 / (16 * 63897600))

/-- R181: SIGMA_MM from FP_SNR in 0.5 dB and NLOS. -/
def sigmaMm (snr : Nat) (nlos : Bool) : Nat :=
  let b := if snr ≥ 60 then 10 else if snr ≥ 40 then 15 else if snr ≥ 24 then 25 else 60
  if nlos then 2 * b else b

/-! ## Frames (R173, R183) -/

/-- Chips of a preamble symbol: 4 a code element; a chip is 128 ticks. -/
def symChips (code : Nat) : Nat := if code ≥ 25 then 364 else 508

/-- Airtime in µs, rounded up, of a frame of psr + sfd symbols, nseg × len units of STS, and a payload of n bytes (none
for 0) with FCS, PHR and parity at kbit kbit/s. -/
def frameUs (code psr sfd nseg len n kbit : Nat) : Nat :=
  let chips := (psr + sfd) * symChips code + 512 + nseg * len * 512
  let data := if n = 0 then 0 else (19 + 8 * (n + 2) + 48) * 1000000 / (max 1 kbit)
  (chips * 1000 * 10 / 4992 + data + 999) / 1000

/-- RMARKER after the first preamble symbol, in ticks. -/
def markerTicks (code psr sfd : Nat) : Nat := (psr + sfd) * symChips code * 128

/-- The next instant of the grid of 128 ticks (R180). -/
def onGrid (a : Nat) : Nat := (a + 127) / 128 * 128

end Sys2Proof.Machine
end

