-- ==== Sys2Proof/Machine/RadOps.lean ====
section
/-! DEFINITION. What every unit uses of RAD: the states of a transceiver, requests, the locks and the ledgers
(R136–R163). -/

namespace Sys2Proof.Machine

/-! ## States and steps (R137, R138) -/

def rsSleep : Nat := 0
def rsStandby : Nat := 1
def rsSynth : Nat := 2
def rsReceive : Nat := 3
def rsTransmit : Nat := 4
def rsRapid : Nat := 5
def rsCal : Nat := 6
def rsFault : Nat := 7

/-- OWNER (R143). -/
def owNone : Nat := 0
def owTrn : Nat := 1
def owDbx : Nat := 2
def owSes : Nat := 3
def owShu : Nat := 4
def owRad : Nat := 5
def owWatch : Nat := 6

def State.trx (s : State) (t : Nat) : Trx := SMap.get s.rad.trx t {}

def State.updTrx (s : State) (t : Nat) (f : Trx → Trx) : State :=
  { s with rad := { s.rad with trx := SMap.put s.rad.trx t (f (s.trx t)) } }

def State.trxState (s : State) (t : Nat) : Nat := s.rd RAD_TRX_STAT.STATE t

def State.owner (s : State) (t : Nat) : Nat := s.rd RAD_TRX_STAT.OWNER t

/-- The time of a step in ticks (R138); a change of channel in SYNTH takes the STANDBY → SYNTH time. -/
def stepTicks (uhf : Bool) (a b : Nat) : Nat :=
  let pick := fun (x y : Nat) => usT (if uhf then y else x)
  let hi := fun (x : Nat) => x = rsReceive ∨ x = rsTransmit ∨ x = rsRapid
  if a = rsSleep then usT 1500
  else if b = rsStandby then usT 2
  else if b = rsSleep then usT 20
  else if b = rsSynth then (if hi a then pick 1 2 else pick 45 90)
  else if a = rsSynth then (if b = rsReceive then pick 8 20 else if b = rsTransmit then pick 6 25 else usT 8)
  else pick 4 (if a = rsRapid ∨ b = rsRapid then 4 else 40)

/-- The next state on the shortest path (R141): none when the target is reached on its channel. -/
def nextStep (cur target : Nat) (chanOk : Bool) : Option Nat :=
  if target = rsSleep then (if cur = rsSleep then none else if cur = rsStandby then some rsSleep else some rsStandby)
  else if target = rsStandby then (if cur = rsStandby then none else some rsStandby)
  else if cur = rsSleep then some rsStandby
  else if cur = rsStandby then some rsSynth
  else if !chanOk then some rsSynth
  else if cur = target then none
  else some target

/-- The transceiver stands on a request's channel. -/
def State.onChan (s : State) (t : Nat) (r : RadReq) : Bool :=
  if t < 16 then s.rd RAD_TRX_CHAN.CH9 t == r.ch9 else s.rd RAD_TRX_CHAN.FREQ t == r.freq

/-! ## Ledgers (R160–R162) -/

def ledKey (t b : Nat) : Nat := 8 * t + b

/-- Ticks of a Meridian minute (R160). -/
def minuteTicks : Nat := 3833856000000

def State.ledger (s : State) (t b : Nat) : Ledger := SMap.get s.rad.led (ledKey t b) {}

/-- The sum of the bins. -/
def Ledger.sum (l : Ledger) : Nat := l.bins.foldl (· + ·) 0

/-- The ledger total with the planned time of a transmission under way (R161). -/
def State.ledTotal (s : State) (t b : Nat) : Nat :=
  let x := s.trx t
  (s.ledger t b).sum + (if x.txBand = b then x.planned else 0)

/-- DUTY and MAX_TON of a band. -/
def State.lockDuty (s : State) (t b : Nat) : Nat :=
  if t < 16 then s.rd RAD_LOCK_UWB_A.DUTY b else s.rd RAD_LOCK_UHF_LIM.DUTY b
def State.lockTon (s : State) (t b : Nat) : Nat :=
  if t < 16 then s.rd RAD_LOCK_UWB_B.MAX_TON b else s.rd RAD_LOCK_UHF_TON.MAX_TON b
def State.lockStep (s : State) (t b : Nat) : Nat :=
  if t < 16 then s.rd RAD_LOCK_UWB_A.MAX_STEP b else s.rd RAD_LOCK_UHF_LIM.MAX_STEP b

/-- The allowance in µs: DUTY × 360 ms (R160). -/
def State.allowance (s : State) (t b : Nat) : Nat := s.lockDuty t b * 360000

/-- RAD_TRX_DUTY. -/
def State.dutyReg (s : State) (t b : Nat) : State := s.wr RAD_TRX_DUTY.USED_MS (s.ledTotal t b / 1000) t b

/-- Count µs of a band in the present bin. -/
def State.ledAdd (s : State) (t b us : Nat) : State :=
  let l := s.ledger t b
  let k := s.rad.minute % 60
  let l := { l with bins := l.bins.set k (l.bins.getD k 0 + us) }
  { s with rad := { s.rad with led := SMap.put s.rad.led (ledKey t b) l } }.dutyReg t b

/-- Write a ledger's page (R162, R690). -/
def State.ledWrite (s : State) (t b : Nat) : State :=
  let l := s.ledger t b
  let k := s.rad.minute % 60
  let a := 0xA41000 + 256 * ledKey t b
  let w := fun (i : Nat) => l.bins.getD (2 * i) 0 % 2 ^ 32 + l.bins.getD (2 * i + 1) 0 % 2 ^ 32 * 2 ^ 32
  let words := [(a, k + 0x1D * 2 ^ 56)] ++ (List.range 30).map (fun i => (a + 8 * (i + 1), w i)) ++ [(a + 248, 0)]
  let s := { s with rad := { s.rad with led := SMap.put s.rad.led (ledKey t b) { l with written := l.bins.getD k 0 } } }
  s.pltWrite laneShadow (.ledger t b) words

/-- µs of a stretch of ticks, rounded up: counting can only overstate. -/
def ticksUs (d : Nat) : Nat := (d * 10 + ticksPerUs10 - 1) / ticksPerUs10

/-- Count the transmission in progress up to now (R160, R161); `whole` takes its planned time in place of the clock's,
for a frame whose airtime the owner declared. -/
def State.txCount (s : State) (t : Nat) (whole : Bool) : State :=
  let x := s.trx t
  match x.txFrom with
  | none => s
  | some a =>
    let us := if whole then x.planned else ticksUs (s.now - a)
    let s := s.updTrx t (fun x => { x with txFrom := none, planned := 0, txReq := none })
    s.ledAdd t x.txBand us

/-! ## The locks (R157–R159) -/

/-- Symbol rates of R149, in symbols a second. -/
def uhfRate (r : Nat) : Nat := [1200, 2400, 4800, 9600, 19200, 38400, 50000, 76800, 100000].getD r 1200

/-- The band a UHF transmission lies in (R158): the lowest valid one that holds its occupied channel. -/
def State.uhfBand (s : State) (r : RadReq) : Option Nat :=
  let half := if r.mod = 1 then uhfRate r.rate * 2 else clampTo 1 100 r.dev * 2000 + uhfRate r.rate
  let c := r.freq * 200
  (List.range 8).find? (fun b => s.on RAD_LOCK_UHF_LIM.VALID b &&
    decide (s.rd RAD_LOCK_UHF_LO.F_LO b * 2000 ≤ c - half) && decide (half ≤ c) &&
    decide (c + half ≤ s.rd RAD_LOCK_UHF_HI.F_HI b * 2000))

/-- The band of a request and whether its modulation is permitted. -/
def State.bandOf (s : State) (t : Nat) (r : RadReq) : Option Nat :=
  if !s.on RAD_STAT.LOCK_VALID then none
  else if t < 16 then (if s.on RAD_LOCK_UWB_A.PERMIT r.ch9 then some r.ch9 else none)
  else
    match s.uhfBand r with
    | some b => if (if r.mod = 1 then s.on RAD_LOCK_UHF_LIM.ASK b else s.on RAD_LOCK_UHF_LIM.FSK b) then some b else none
    | none => none

/-- R159: the first line that refuses a request for TRANSMIT or RAPID_BIT: its number and code; (0, OK) when admitted. -/
def State.radLocks (s : State) (t : Nat) (r : RadReq) : Nat × Nat :=
  match s.bandOf t r with
  | none => (1, ccRegLimit)
  | some b =>
    if s.on RAD_TRX_STAT.PORT_FAULT t then (2, ccWireBreak)
    else if s.lockTon t b ≠ 0 ∧ r.air > s.lockTon t b * 10 then (3, ccRegLimit)
    else if s.ledTotal t b + r.air > s.allowance t b then (4, ccRegLimit)
    else (0, ccOk)

/-- A refusal with REG_LIMIT: counted, raised, and archived once a minute for its ledger (R164). -/
def State.radRefuse (s : State) (t b line code : Nat) : State :=
  let s := (s.wr RAD_TRX_STAT.LAST_CODE code t).bump RAD_TRX_CNT_REFUSE.COUNT t
  if code ≠ ccRegLimit then s
  else
    let s := (s.bump RAD_CNT_REFUSE.COUNT).irq RAD_IRQ_STAT.REFUSE
    let m := s.now / minuteTicks
    if SMap.find s.rad.refused (ledKey t b) = some m then s
    else
      let s := { s with rad := { s.rad with refused := SMap.put s.rad.refused (ledKey t b) m } }
      s.archiveEvent 0x04 t 0 (leBytes 4 t ++ leBytes 4 b ++ leBytes 4 line ++ leBytes 4 (s.ledTotal t b)) ccRegLimit

/-! ## Steps (R138–R142) -/

/-- Begin a step at a stamp. -/
def State.beginStep (s : State) (t dest at' : Nat) : State :=
  let s := s.updTrx t (fun x => { x with dest := some dest, start := at',
                                         dur := stepTicks (decide (16 ≤ t)) (s.trxState t) dest, ext := false })
  s.wr RAD_TRX_STAT.MOVING 1 t

/-- Move on toward the request in force from a stable state, or complete it. Transmit time stops where TRANSMIT or
RAPID_BIT is left. -/
def State.moveOn (s : State) (t at' : Nat) : State :=
  match (s.trx t).req with
  | none => s
  | some r =>
    match nextStep (s.trxState t) r.target (s.onChan t r) with
    | some d => ((s.txCount t false).beginStep t d at').wr RAD_TRX_STAT.TARGET r.target t
    | none =>
      let s := s.wr RAD_TRX_STAT.LAST_CODE ccOk t
      let tx := r.target = rsTransmit ∨ r.target = rsRapid
      let s := s.updTrx t (fun x => { x with req := none, follow := r.follow, hold := r.hold, idleFrom := at',
                                             txFrom := if tx then some at' else none
                                             txReq := if tx then some r else none })
      if tx then s.bump RAD_TRX_CNT_TX.COUNT t else s

/-- A step reaches its state at a stamp (R139): reported and stamped, and the transceiver moves on. -/
def State.reached (s : State) (t d at' : Nat) : State :=
  let s := s.updTrx t (fun x => { x with dest := none, idleFrom := at' })
  let s := (s.wr RAD_TRX_STAT.STATE d t).wr RAD_TRX_STAT.MOVING 0 t
  let s := s.wr64 RAD_TRX_STAMP_LO.STAMP RAD_TRX_STAMP_HI.STAMP at' t
  let s := match d, (s.trx t).req with
    | 2, some r => if t < 16 then s.wr RAD_TRX_CHAN.CH9 r.ch9 t else s.wr RAD_TRX_CHAN.FREQ r.freq t
    | _, _ => s
  s.moveOn t at'

/-- A step that ends in SYNTH from STANDBY, or changes channel there, waits for the synthesiser's lock. -/
def State.needsLock (s : State) (t : Nat) : Bool :=
  (s.trx t).dest == some rsSynth && (s.trxState t == rsStandby || s.trxState t == rsSynth)

/-- Run the steps that are due and wait for no lock: their times are fixed (R139). -/
def State.settle (t : Nat) : Nat → State → State
  | 0, s => s
  | fuel + 1, s =>
    let x := s.trx t
    match x.dest with
    | some d => if !s.needsLock t ∧ s.now ≥ x.start + x.dur then State.settle t fuel (s.reached t d (x.start + x.dur)) else s
    | none => s

/-- A transceiver at once in a state, as the 2 µs moves of resets leave it (R144, R170). -/
def State.dropTo (s : State) (t d : Nat) : State :=
  let s := s.txCount t false
  let s := s.updTrx t (fun x => { x with dest := none, req := none, hold := false, idleFrom := s.now, calItem := none })
  let s := (s.wr RAD_TRX_STAT.STATE d t).wr RAD_TRX_STAT.MOVING 0 t
  let s := s.wr RAD_TRX_STAT.TARGET d t
  s.wr64 RAD_TRX_STAMP_LO.STAMP RAD_TRX_STAMP_HI.STAMP s.now t

/-! ## Requests (R141–R147, R159) -/

/-- The code RAD gives a request at once; OK when it is taken. -/
def State.radCode (s : State) (t : Nat) (r : RadReq) : Nat :=
  let tx := decide (r.target = rsTransmit ∨ r.target = rsRapid)
  if !s.running 0x04 ∧ s.rep 0x04 ≠ stInit then ccBusy
  else if s.owner t ≠ r.owner ∨ s.trxState t = rsFault ∨ s.trxState t = rsCal ∨ r.target ≥ rsCal then ccBusy
  else if r.target = rsRapid ∧ (r.owner ≠ owDbx ∨ 16 ≤ t) then ccDenied
  else if tx ∧ !s.on RAD_TRX_CTL.PORT_EN t then ccDenied
  else if tx ∧ !s.on RAD_STAT.LEDGER_READY then ccBusy
  else if tx then (s.radLocks t r).2
  else ccOk

/-- A state request (R141, R142): refused at once with a code, or taken; it supersedes one under way. -/
def State.radRequest (s : State) (t : Nat) (r : RadReq) : Nat × State :=
  let code := s.radCode t r
  let b := (s.bandOf t r).getD 0
  if code ≠ ccOk then (code, s.radRefuse t b (s.radLocks t r).1 code)
  else
    let s := s.settle t 4
    let x := s.trx t
    let s := if x.req.isSome then s.bump RAD_CNT_SUPER.COUNT else s
    let tx := decide (r.target = rsTransmit ∨ r.target = rsRapid)
    let s := s.txCount t false
    let s := s.updTrx t (fun x => { x with req := some r, hold := r.hold, planned := if tx then r.air else 0,
                                           txBand := if tx then b else x.txBand })
    let s := s.wr RAD_TRX_STAT.TARGET r.target t
    let s := if tx then
        let eff := min r.step (s.lockStep t b)
        ((s.wr RAD_TRX_STAT.STEP_EFF eff t).flag RAD_TRX_STAT.REG_PINNED (decide (eff < r.step)) t).dutyReg t b
      else s
    (ccOk, if x.dest.isSome then s else s.moveOn t s.now)

/-- The owning engine ends its frame or window (R144): to the follow-on state, or SYNTH. `whole` counts the declared
airtime. -/
def State.frameOver (s : State) (t : Nat) (whole : Bool) : State :=
  let s := s.settle t 4
  let x := s.trx t
  let st := s.trxState t
  if st ≠ rsReceive ∧ st ≠ rsTransmit ∧ st ≠ rsRapid then s
  else
    let s := s.txCount t whole
    let d := if x.follow = rsReceive ∨ x.follow = rsSynth ∨ x.follow = rsStandby ∨ x.follow = rsSleep then x.follow else rsSynth
    let r : RadReq := { owner := s.owner t, target := d, ch9 := s.rd RAD_TRX_CHAN.CH9 t,
                        freq := s.rd RAD_TRX_CHAN.FREQ t, hold := x.hold }
    if d = st ∧ x.dest.isNone then s
    else
      let s := s.updTrx t (fun x => { x with req := some r })
      if x.dest.isSome then s else s.moveOn t s.now

/-! ## Ownership (R143, R146) -/

/-- A transceiver can be granted: fitted into no calibration that must not yield, not in FAULT, not parked. -/
def State.grantable (s : State) (t : Nat) : Bool :=
  let o := s.owner t
  (o == owNone || (o == owRad && !(s.trx t).calBoot)) && s.trxState t != rsFault && !s.on RAD_TRX_CTL.PARK t

/-- A calibration yields (R168): its item keeps the old value, RESULT is BUSY, and it is queued again. -/
def State.calYield (s : State) (t : Nat) : State :=
  if (s.trx t).calItem.isSome then
    let s := s.dropTo t rsStandby
    let s := { s with rad := { s.rad with calQ := s.rad.calQ ++ [t] } }
    let s := (s.wr RAD_CAL_STAT.RESULT ccBusy).wr RAD_TRX_CAL.RESULT ccBusy t
    s.flag RAD_STAT.CAL_BUSY ((List.range 20).any (fun k => (s.trx k).calItem.isSome))
  else s

/-- SES grants a transceiver. -/
def State.grantTrx (s : State) (t o : Nat) : State :=
  if s.grantable t then (s.calYield t).wr RAD_TRX_STAT.OWNER o t else s

/-- The owner hands a transceiver back: idle timers run, and PARK takes effect (R145, R146). -/
def State.handBack (s : State) (t : Nat) : State :=
  let s := s.wr RAD_TRX_STAT.OWNER owNone t
  let s := s.updTrx t (fun x => { x with hold := false, idleFrom := s.now })
  if s.on RAD_TRX_CTL.PARK t then
    let s := s.updTrx t (fun x => { x with req := some { owner := owNone, target := rsSleep } })
    if (s.trx t).dest.isSome then s else s.moveOn t s.now
  else s

/-- An owner unit resets (R144). -/
def State.ownerReset (s : State) (o : Nat) : State :=
  (List.range 20).foldl (fun a t =>
    if a.owner t = o then (a.dropTo t rsStandby).wr RAD_TRX_STAT.OWNER owNone t else a) s

/-! ## Cuts (R161, R163) -/

/-- A transmission in progress is cut: to SYNTH, counted, and its request completes with REG_LIMIT. -/
def State.cutTx (s : State) (t : Nat) : State :=
  let s := s.txCount t false
  let s := ((s.wr RAD_TRX_STAT.LAST_CODE ccRegLimit t).bump RAD_CNT_CUT.COUNT).irq RAD_IRQ_STAT.CUT
  let r : RadReq := { owner := s.owner t, target := rsSynth, ch9 := s.rd RAD_TRX_CHAN.CH9 t,
                      freq := s.rd RAD_TRX_CHAN.FREQ t }
  (s.updTrx t (fun x => { x with req := some r, dest := none, follow := rsSynth })).moveOn t s.now

/-- The transmission in progress has reached MAX_TON, or the ledger its allowance (R161). -/
def State.overLimit (s : State) (t : Nat) : Bool :=
  let x := s.trx t
  match x.txFrom with
  | none => false
  | some a =>
    let us := ticksUs (s.now - a)
    let ton := s.lockTon t x.txBand
    (ton != 0 && decide (us ≥ ton * 10)) || decide ((s.ledger t x.txBand).sum + us > s.allowance t x.txBand)

end Sys2Proof.Machine
end

