-- ==== Sys2Proof/Machine/TrnOps.lean ====
section
/-! DEFINITION. What other units use of Transit: settings, exchanges, results, pre-arming and cancellation
(R173–R204). -/

namespace Sys2Proof.Machine

/-! ## Settings (R204 and the map) -/

def State.trnCode (s : State) : Nat :=
  let prf := s.rd TRN_PHY_CFG.PRF
  let c := s.rd TRN_PHY_CFG.PCODE
  let hprf := prf = 1 ∨ prf = 2
  if hprf then (if 25 ≤ c ∧ c ≤ 32 then c else 25)
  else if (9 ≤ c ∧ c ≤ 12) ∨ (25 ≤ c ∧ c ≤ 32) then c else 9

def State.trnPsr (s : State) : Nat := [32, 64, 128, 256, 1024].getD (s.rd TRN_PHY_CFG.PSR) 64
def State.trnSfd (s : State) : Nat := [4, 8, 16, 32].getD (s.rd TRN_PHY_CFG.SFD) 8
def State.trnHprf (s : State) : Bool := s.rd TRN_PHY_CFG.PRF == 1 || s.rd TRN_PHY_CFG.PRF == 2
def State.trnKbit (s : State) : Nat := if s.rd TRN_PHY_CFG.RATE = 1 ∧ s.trnHprf then 27245 else 6811
def State.trnSeg (s : State) : Nat := if s.trnHprf then s.rd TRN_STS_CFG.NSEG + 1 else 1
def State.trnSts (s : State) : Nat := [32, 64, 128, 256].getD (s.rd TRN_STS_CFG.STS_LEN) 64

/-- Airtime in µs of a device frame: POLL or FINAL carries its kind byte under SP1 and SP2, nothing under SP3. -/
def State.trnAir (s : State) (payload : Nat) : Nat :=
  frameUs s.trnCode s.trnPsr s.trnSfd s.trnSeg s.trnSts payload s.trnKbit

def State.pollAir (s : State) : Nat :=
  let sp := s.rd TRN_STS_CFG.SP
  s.trnAir (if sp = 1 ∨ sp = 2 then 1 else 0)

def State.markerT (s : State) : Nat := markerTicks s.trnCode s.trnPsr s.trnSfd

/-- REPLY_DLY in µs, with the minimum of R204: the airtime of the frame it follows plus 20 µs. -/
def State.replyUs (s : State) : Nat :=
  max (min 4000 (s.rd TRN_DS_CFG.REPLY_DLY)) ((if s.on TRN_DS_CFG.DS then s.pollAir else s.trnAir 24) + 20)

/-- Effective antenna delays (R192). -/
def State.dlyTx (s : State) (t : Nat) : Nat := s.rd TRN_TRX_ADLY_TX.EFF t
def State.dlyRx (s : State) (t : Nat) : Nat := s.rd TRN_TRX_ADLY_RX.EFF t

/-! ## Registers -/

def State.exch (s : State) (t : Nat) : Option Exch := SMap.find s.trn.ex t

/-- PHASE, SESSION and the counts of TRN_STAT. -/
def State.trnStat (s : State) (t : Nat) : State :=
  let s := match s.exch t, SMap.find s.trn.pre t with
    | some e, _ =>
      let p := if e.phase = 9 ∨ e.phase = 0 then 0 else e.phase
      ((s.wr TRN_TRX_STAT.PHASE p t).wr TRN_TRX_STAT.SESSION e.session t).flag TRN_TRX_STAT.PAD e.pad t
    | none, some p => (s.wr TRN_TRX_STAT.PHASE 1 t).wr TRN_TRX_STAT.SESSION p.session t
    | none, none => ((s.wr TRN_TRX_STAT.PHASE 0 t).wr TRN_TRX_STAT.SESSION 0 t).wr TRN_TRX_STAT.PAD 0 t
  (s.wr TRN_STAT.EXCH_ACTIVE s.trn.ex.length).wr TRN_STAT.PREARMED s.trn.pre.length

def State.setExch (s : State) (t : Nat) (e : Exch) : State :=
  { s with trn := { s.trn with ex := SMap.put s.trn.ex t e } }.trnStat t

def State.delExch (s : State) (t : Nat) : State :=
  { s with trn := { s.trn with ex := SMap.del s.trn.ex t } }.trnStat t

/-- The session's STS keys and drawn offsets are cleared: each offset is burned. -/
def State.burnOffsets (s : State) (n : Nat) : State :=
  { s with trn := { s.trn with offsets := SMap.del s.trn.offsets n } }

/-! ## Reasons (R190) -/

def trNone : Nat := 0
def trNoFrame : Nat := 1
def trNoSfd : Nat := 2
def trWeak : Nat := 3
def trStsFail : Nat := 4
def trEdlc : Nat := 5
def trAlign : Nat := 6
def trSat : Nat := 7
def trReport : Nat := 8
def trReplyWin : Nat := 9
def trClkoff : Nat := 0xA
def trCancelled : Nat := 0xB
def trRefused : Nat := 0xC
def trLate : Nat := 0xD

def trnReasonCode (r : Nat) : Nat :=
  [ccOk, ccTimeout, ccTimeout, ccTimeout, ccDenied, ccDenied, ccDenied, ccTimeout, ccDenied, ccDenied, ccDenied].getD r ccTimeout

/-- Event word of TRN_EVT_CODE. -/
def State.trnEvent (s : State) (reason trx code session : Nat) : State :=
  s.unitEvent 0x05 trx TRN_EVT_CODE.REG TRN_EVT_STAMP_LO.STAMP TRN_EVT_STAMP_HI.STAMP
    (reason * 2 ^ 28 + trx * 2 ^ 24 + code * 2 ^ 16 + session % 2 ^ 15) code session

/-! ## Results (R182) -/

/-- The 32 bytes of a result; everything from offset 8 is 0 unless OK. -/
def trnResult (e : Exch) (t dev code reason : Nat) (retried : Bool) (tof range clkoff : Int) (sigma : Nat) : List Byte :=
  let fl := e.ds.toNat + 2 * e.nlos.toNat + 4 * e.pad.toNat + 8 * retried.toNat
  let head := leBytes 1 code ++ leBytes 1 reason ++ leBytes 1 t ++ leBytes 1 dev ++ leBytes 2 e.seq ++ leBytes 2 fl
  if code = ccOk then
    head ++ leBytes 4 (satSigned 32 tof) ++ leBytes 4 (satSigned 32 range) ++ leBytes 2 sigma ++ leBytes 1 e.fpSnr ++
      leBytes 1 e.stsQ ++ leBytes 2 (satSigned 16 clkoff) ++ leBytes 2 0 ++ leBytes 8 e.respRx
  else head ++ List.replicate 24 0

/-- A fallback exchange's result reaches DBX (R221), and the range area when it is OK (R234, R266): its TRN credit
returns with it (R283). -/
def State.dbxTwrResult (s : State) (n code : Nat) (data : List Byte) : State :=
  let s := s.giveCredit poolTrn
  match SMap.first s.dbx.ex (fun _ x => x.session == n && x.fallback) with
  | some (t, x) =>
    let s := if code = ccOk then s.storeRange n (rangeEntry data (s.sinceOpen n) true) else s
    { s with dbx := { s.dbx with
      ex := SMap.put s.dbx.ex t { x with results := x.results ++ [(code, toSigned 32 (leAt data 12 4))] } } }
  | none => s

/-- Counters of an ended exchange, global and by transceiver. -/
def State.trnCount (s : State) (t code reason : Nat) : State :=
  let s := if code = ccOk then (s.bump TRN_CNT_EXCH.COUNT).bump TRN_TRX_CNT_EXCH.COUNT t
    else (s.bump TRN_CNT_FAIL.COUNT).bump TRN_TRX_CNT_FAIL.COUNT t
  let s := if reason = trStsFail ∨ reason = trReport then
      ((s.bump TRN_CNT_STS.COUNT).bump TRN_TRX_CNT_STS.COUNT t).irq TRN_IRQ_STAT.STS_FAIL
    else if reason = trEdlc ∨ reason = trAlign then
      ((s.bump TRN_CNT_EDLC.COUNT).bump TRN_TRX_CNT_EDLC.COUNT t).irq TRN_IRQ_STAT.EDLC
    else if reason = trSat then ((s.bump TRN_CNT_SAT.COUNT).bump TRN_TRX_CNT_SAT.COUNT t).irq TRN_IRQ_STAT.SAT
    else s
  let s := if code = ccTimeout then s.bump TRN_TRX_CNT_TIMEOUT.COUNT t else s
  if code = ccOk then
    let l := s.now :: s.trn.doneAt.filter (fun a => decide (s.now < a + secT 1))
    ({ s with trn := { s.trn with doneAt := l } }).wr TRN_RATE_STAT.EXCH_LAST_S (min 0xFFFF l.length)
  else s

/-- The transceiver climbs to SYNTH and is held there (R145, R198). -/
def State.toSynth (s : State) (t : Nat) : State :=
  (s.radRequest t { owner := owTrn, target := rsSynth, ch9 := s.rd TRN_PHY_CFG.CH9, hold := true }).2

/-- A transceiver under no exchange and no pre-arm is handed back to RAD; one whose pre-arm was taken by a session in
RANGE is pre-armed again (R199). -/
def State.trnRelease (s : State) (t : Nat) : State :=
  if s.owner t = owTrn ∧ (SMap.find s.trn.pre t).isNone then
    let s := s.frameOver t true
    match SMap.find s.trn.displaced t with
    | some p =>
      let s := { s with trn := { s.trn with displaced := SMap.del s.trn.displaced t, pre := SMap.put s.trn.pre t p } }
      (s.toSynth t).trnStat t
    | none => s.handBack t
  else s

/-- The credits of an exchange that is delivered to nobody return. -/
def State.exchGive (s : State) (e : Exch) : State :=
  match e.dest with
  | .session => (s.giveWithCpl poolTrn).updCtx e.session (fun c => if c.gen = e.gen then c.setPend pendTrn false else c)
  | .dbx => s.giveCredit poolTrn
  | .remote _ _ => s.giveRemote poolTrn

/-- A void exchange ends; a reply that arrived for it is counted and posted (R201). -/
def State.voidEnd (s : State) (t : Nat) (e : Exch) (replied : Bool) : State :=
  let s := (s.bump TRN_TRX_CNT_CANCEL.COUNT t).delExch t
  let s := s.trnRelease t
  let s := if replied then ((s.add TRN_CNT_MISC.VOID 1).irq TRN_IRQ_STAT.VOID).trnEvent trCancelled t 0 e.session else s
  s.exchGive e

/-- An exchange ends: its result goes to whom it is for; a void one is delivered to nobody (R182, R201). -/
def State.exchDone (s : State) (t : Nat) (e : Exch) (code reason : Nat) (tof clkoff : Int) : State :=
  let retried := decide (0 < e.retries)
  let sigma := sigmaMm e.fpSnr e.nlos
  let range := rangeMm tof
  let data := trnResult e t s.device code reason retried tof range clkoff sigma
  if e.void then s.voidEnd t e false
  else
    let s := (s.delExch t).trnRelease t
    let s := s.trnCount t code reason
    let s := (s.wr TRN_TRX_LAST.CODE code t).wr TRN_TRX_LAST.REASON reason t
    let s := ((s.flag TRN_TRX_LAST.RETRIED retried t).flag TRN_TRX_LAST.PAD e.pad t).wr TRN_TRX_LAST.SIGMA_MM sigma t
    let s := s.flag TRN_TRX_STAT.NLOS e.nlos t
    let s := if code = ccOk then
        let s := (s.wr TRN_TRX_TOF.TOF (satSigned 32 tof) t).wr TRN_TRX_RANGE.RANGE_MM (satSigned 32 range) t
        s.wr TRN_TRX_CLKOFF.CLKOFF (satSigned 16 clkoff) t
      else s.trnEvent reason t code e.session
    match e.dest with
    | .session => s.complete e.session e.gen poolTrn code reason data
    | .dbx => s.dbxTwrResult e.session code data
    | .remote dev tag => (s.giveRemote poolTrn).blnReply dev 0x05 tag data

/-! ## Starting exchanges (R177, R180, R198, R202) -/

/-- Draw n offsets of 8 bits (R180). -/
def State.drawOffsets (s : State) (n k : Nat) : State :=
  match s.rngTake 6 ((k + 3) / 4) with
  | some (w, s) =>
    { s with trn := { s.trn with offsets := SMap.put s.trn.offsets n ((List.range k).map (fun i => w / 256 ^ i % 256)) } }
  | none => s

/-- The next offset of a session, drawn before it reached RANGE, or drawn now. -/
def State.takeOffset (s : State) (n : Nat) : Nat × State :=
  match SMap.get s.trn.offsets n [] with
  | r :: rest => (r, { s with trn := { s.trn with offsets := SMap.put s.trn.offsets n rest } })
  | [] =>
    match s.rngTake 6 1 with
    | some (w, s) => (w % 256, s)
    | none => (0, s)

/-- Ticks between the starts of successive POLL slots on a transceiver (R202). -/
def pollGap : Nat := 85196800

/-- The key of a session's SEQ and offsets: sessions of other members stand apart. -/
def Exch.key (e : Exch) : Nat :=
  match e.dest with
  | .remote dev _ => 32768 * (dev + 1) + e.session
  | _ => e.session

/-- Put an exchange on a transceiver of this device: it takes ownership and asks for SYNTH with HOLD; it waits for its
slot. -/
def State.startExch (s : State) (t : Nat) (e : Exch) : State :=
  let s := match SMap.find s.trn.pre t with
    | some p =>
      let d := if p.session = e.session ∧ p.gen = e.gen then s.trn.displaced else SMap.put s.trn.displaced t p
      { s with trn := { s.trn with pre := SMap.del s.trn.pre t, displaced := d } }
    | none => s
  let s := s.grantTrx t owTrn
  let q := SMap.get s.trn.seqs e.key 0
  let s := { s with trn := { s.trn with seqs := SMap.put s.trn.seqs e.key ((q + 1) % 65536) } }
  let (r, s) := s.takeOffset e.key
  let slot := match SMap.find s.trn.lastPoll t with
    | some a => max s.now (a + pollGap)
    | none => s.now
  let s := s.setExch t { e with seq := q, r := r, slot := slot, phase := 0 }
  if s.owner t = owTrn ∧ s.trxState t ≠ rsSynth then
    s.toSynth t
  else s

/-- R198: pre-arm up to PREARM_MAX local anchors of a session's set, and draw its offsets. -/
def State.prearm (s : State) (n : Nat) : State :=
  let c := s.ctx n
  let mine := ((List.range 16).filter (fun t => bit c.anchors (16 * s.device + t) && s.on TRN_TRX_CTL.ANCHOR_EN t))
  if mine.isEmpty ∨ !s.running 0x05 then s
  else
    let take := (mine.filter (fun t => s.owner t == owNone && s.grantable t && (s.exch t).isNone)).take
      (min 16 (s.rd TRN_PREARM_CFG.PREARM_MAX))
    let k := match s.progOf n with
      | some g => clampTo 1 4 g.nExch
      | none => 1
    let s := s.drawOffsets n (mine.length * k)
    take.foldl (fun (a : State) t =>
      let a := a.grantTrx t owTrn
      let a := { a with trn := { a.trn with pre := SMap.put a.trn.pre t ⟨n, c.gen, a.now⟩ } }
      (a.toSynth t).trnStat t) s

/-- A session's pre-arms are handed back, its undrawn offsets burned (R199, R200). -/
def State.unPrearm (s : State) (n gen : Nat) : State :=
  let mine := fun (p : Nat × PreArm) => p.2.session == n && p.2.gen == gen
  let ts := (s.trn.pre.filter mine).map (·.1)
  let s := { s with trn := { s.trn with displaced := s.trn.displaced.filter (fun p => !mine p) } }
  let s := ts.foldl (fun (a : State) t =>
    ({ a with trn := { a.trn with pre := SMap.del a.trn.pre t } }.trnRelease t).trnStat t) s
  s.burnOffsets n

/-- A session's cancellation at Transit (R200, R201): before the commit point nothing is sent; at or after it the
exchange runs on as a void one. -/
def State.trnCancel (s : State) (n gen : Nat) : State :=
  let pre := s.trn.pre.any (fun p => p.2.session == n && p.2.gen == gen)
  let s := if pre then s.bump TRN_CNT_PREARM_CANCEL.COUNT else s
  let s := s.unPrearm n gen
  let mine := s.trn.ex.filter (fun p => p.2.session == n && p.2.gen == gen && (match p.2.dest with
    | .remote _ _ => false
    | _ => true))
  let s := mine.foldl (fun (a : State) p =>
    if p.2.phase = 0 ∨ p.2.phase = 9 then
      (((a.delExch p.1).trnRelease p.1).bump TRN_TRX_CNT_CANCEL.COUNT p.1).exchGive p.2
    else a.setExch p.1 { p.2 with void := true }) s
  let away := s.trn.away.filter (fun w => w.session == n && w.gen == gen)
  let s := { s with trn := { s.trn with away := s.trn.away.filter (fun w => !(w.session == n && w.gen == gen)) } }
  away.foldl (fun (a : State) w =>
    if w.dbx then a.giveCredit poolTrn else (a.giveWithCpl poolTrn).updCtx n (fun c => c.setPend pendTrn false)) s

end Sys2Proof.Machine
end

