-- ==== Sys2Proof/Machine/DbxOps.lean ====
section
/-! DEFINITION. What other units use of DBX: challenge blocks, guards, the decision's delivery and cancellation
(R206–R227). -/

namespace Sys2Proof.Machine

/-! ## Blocks and vectors (R209–R212) -/

/-- Store slots: PRECOMP_MAX, at most 64. -/
def State.precompMax (s : State) : Nat := min 64 (s.rd DBX_PRECOMP_CFG.PRECOMP_MAX)

def State.dbxStat (s : State) : State :=
  let s := s.wr DBX_STAT.BLOCKS_BOUND (min 64 s.dbx.blocks.length)
  let s := s.wr DBX_STAT.EXCH_ACTIVE s.dbx.ex.length
  let held := fun (ch : Nat) => s.dbx.ex.any (fun p => (p.2.phase == 3 || p.2.phase == 4) &&
    s.rd RAD_TRX_CHAN.CH9 p.1 == ch)
  (s.flag DBX_STAT.GUARD_CH9 (held 1)).flag DBX_STAT.GUARD_CH5 (held 0)

/-- Draw a block for a session (R211): 128 bits of instance 7. -/
def State.drawBlock (s : State) (n gen : Nat) : State :=
  match s.rngTake 7 4 with
  | some (w, s) => { s with dbx := { s.dbx with blocks := SMap.put s.dbx.blocks n ⟨w, gen, s.now⟩ } }.dbxStat
  | none => s

/-- R211: at an open whose program names bounding, a block is drawn when a store slot is free. -/
def State.bindBlock (s : State) (n : Nat) : State :=
  let c := s.ctx n
  if s.progHas n 4 ∧ s.dbx.blocks.length < s.precompMax ∧ s.running 0x06 then s.drawBlock n c.gen else s

/-- R212: burn a session's block. -/
def State.burn (s : State) (n : Nat) : State :=
  match SMap.find s.dbx.blocks n with
  | some _ => ({ s with dbx := { s.dbx with blocks := SMap.del s.dbx.blocks n } }.bump DBX_CNT_BURN.COUNT).dbxStat
  | none => s

/-- Clear a session's response vectors (R209). -/
def State.clearVecs (s : State) (n : Nat) : State :=
  { s with dbx := { s.dbx with vecs := SMap.del s.dbx.vecs n } }

/-! ## Exchanges -/

def State.dbxEx (s : State) (t : Nat) : Option DbxEx := SMap.find s.dbx.ex t

def State.dbxReg (s : State) (t : Nat) : State :=
  match s.dbxEx t with
  | some x => ((s.wr DBX_TRX_STAT.PHASE x.phase t).wr DBX_TRX_STAT.SESSION x.session t).wr DBX_TRX_STAT.SEQ (x.seq % 4) t
  | none => ((s.wr DBX_TRX_STAT.PHASE 0 t).wr DBX_TRX_STAT.SESSION 0 t).wr DBX_TRX_STAT.SEQ 0 t

def State.setDbx (s : State) (t : Nat) (x : DbxEx) : State :=
  ({ s with dbx := { s.dbx with ex := SMap.put s.dbx.ex t x } }.dbxReg t).dbxStat

def State.delDbx (s : State) (t : Nat) : State :=
  ({ s with dbx := { s.dbx with ex := SMap.del s.dbx.ex t } }.dbxReg t).dbxStat

/-- REASONs of R222. -/
def dbNoResp : Nat := 1
def dbBiterr : Nat := 2
def dbLate : Nat := 3
def dbDist : Nat := 4
def dbTwrCount : Nat := 5
def dbTwrDist : Nat := 6
def dbNoCap : Nat := 7
def dbRemote : Nat := 8
def dbRefused : Nat := 9
def dbRbTimeout : Nat := 0xA
def dbKey : Nat := 0xB
def dbCancelled : Nat := 0xC

/-- The 16 bytes of a decision (R223). -/
def dbxResult (code reason t dev seq n fl miss early late err : Nat) (dest : Int) : List Byte :=
  leBytes 1 code ++ leBytes 1 reason ++ leBytes 1 t ++ leBytes 1 dev ++ leBytes 1 seq ++ leBytes 1 n ++ leBytes 1 fl ++
    leBytes 1 0 ++ leBytes 1 miss ++ leBytes 1 early ++ leBytes 1 late ++ leBytes 1 err ++ leBytes 4 (satSigned 32 dest)

/-- The event of DBX_EVT_CODE. -/
def State.dbxEvent (s : State) (reason t code session : Nat) : State :=
  let w := reason * 2 ^ 28 + t % 16 * 2 ^ 24 + code * 2 ^ 16 + session % 2 ^ 15
  (s.wrWord DBX_EVT_CODE.REG w).post (s.source 0x06 t) 2 code session w 0

/-- A bounding request ends: the vectors are cleared, the transceiver is handed back, and the decision is delivered, or,
for a void exchange, to nobody (R223, R224). -/
def State.dbxDone (s : State) (t : Nat) (x : DbxEx) (code reason miss early late err : Nat) (dest : Int) :
    State :=
  let n := if x.fallback then 0 else x.n
  let fl := x.fallback.toNat + 2 * (decide (0 < x.retries)).toNat
  let data := dbxResult code reason (x.anchor % 16) (x.anchor / 16) (x.seq % 256) n fl miss early late err dest
  let s := s.delDbx t
  let s := s.clearVecs x.session
  let s := if x.fallback || (3 ≤ x.phase && x.phase ≤ 5) then s.burn x.session else s
  let s := if s.owner t = owDbx then (s.frameOver t false).handBack t else s
  if x.void then
    let s := ((s.add DBX_CNT_MISC.VOID 1).irq DBX_IRQ_STAT.VOID).dbxEvent dbCancelled t 0 x.session
    (s.giveWithCpl poolDbx).updCtx x.session (fun c => if c.gen = x.gen then c.setPend pendDbx false else c)
  else
    let s := (s.wr DBX_TRX_RESULT.CODE code t).wr DBX_TRX_RESULT.REASON reason t
    let s := (s.wr DBX_TRX_RESULT.SEQ (x.seq % 4) t).flag DBX_TRX_RESULT.RETRIED (decide (0 < x.retries)) t
    let s := (s.flag DBX_TRX_RESULT.FALLBACK x.fallback t).wr DBX_TRX_RESULT.N n t
    let s := (s.wr DBX_TRX_CLASS.MISS miss t).wr DBX_TRX_CLASS.EARLY early t
    let s := (s.wr DBX_TRX_CLASS.LATE late t).wr DBX_TRX_CLASS.ERR err t
    let s := s.wr DBX_TRX_DEST.D_EST (satSigned 32 dest) t
    let s := if code = ccOk then s.bump DBX_CNT_OK.COUNT
      else if code = ccBoundFail then (s.bump DBX_CNT_FAIL.COUNT).irq DBX_IRQ_STAT.BOUND_FAIL
      else s
    let s := if reason = dbNoResp then s.irq DBX_IRQ_STAT.NO_RESP
      else if reason = dbLate then s.irq DBX_IRQ_STAT.LATE
      else if reason = dbRefused then s.irq DBX_IRQ_STAT.REFUSED
      else s
    let s := if code = ccOk then s else s.dbxEvent reason t code x.session
    s.complete x.session x.gen poolDbx code reason data

/-- A request of a session that has not reached its commit point (R224). -/
def DbxEx.early (x : DbxEx) : Bool := x.phase == 1 || x.phase == 2 || x.phase == 7 || x.phase == 6

/-- A session's cancellation at DBX (R224). -/
def State.dbxCancel (s : State) (n gen : Nat) : State :=
  let mine := s.dbx.ex.filter (fun p => p.2.session == n && p.2.gen == gen)
  let s := mine.foldl (fun (a : State) p =>
    if p.2.early then
      let a := a.delDbx p.1
      let a := if a.owner p.1 = owDbx then a.handBack p.1 else a
      (a.giveWithCpl poolDbx).updCtx n (fun c => c.setPend pendDbx false)
    else a.setDbx p.1 { p.2 with void := true }) s
  let live := s.dbx.ex.any (fun p => p.2.session == n)
  if live then s else (s.burn n).clearVecs n

end Sys2Proof.Machine
end

