-- ==== Sys2Proof/Machine/PwrOps.lean ====
section
/-! DEFINITION. What every unit uses of PWR: the device state and the wake of R576. -/

namespace Sys2Proof.Machine

def psS0 : Nat := 0
def psS1 : Nat := 1
def psS2 : Nat := 2
def psS3 : Nat := 3

def State.pwrState (s : State) : Nat := s.rd PWR_STAT.STATE

/-- Event of PWR_EVT_CODE. -/
def State.pwrEvent (s : State) (kind dom : Nat) : State :=
  s.unitEvent 0x12 dom PWR_EVT_CODE.REG PWR_EVT_STAMP_LO.STAMP PWR_EVT_STAMP_HI.STAMP (kind * 2 ^ 28 + dom * 2 ^ 24)

/-- R578: count an entry to S2 (0), to S3 (1) or a wake (2); the first in each Meridian minute is archived with the
counts of the previous minute. -/
def State.pwrCount (s : State) (k : Nat) : State :=
  let m := s.now / 3833856000000
  let bumpAt := fun (l : List Nat) => l.set k (l.getD k 0 + 1)
  if s.pwr.evMin = m ∧ s.pwr.evNow.any (· ≠ 0) then
    { s with pwr := { s.pwr with evNow := bumpAt s.pwr.evNow } }
  else
    let prev := if s.pwr.evMin + 1 = m then s.pwr.evNow else [0, 0, 0]
    let s := { s with pwr := { s.pwr with evMin := m, evPrev := prev, evNow := bumpAt [0, 0, 0] } }
    s.archiveEvent 0x12 0 0 (prev.flatMap (leBytes 4))

/-- Units of a domain (R568); RAD stands in both radio domains. -/
def domUnits (d : Nat) : List Nat :=
  match d with
  | 0 => [0x00, 0x12, 0x17, 0x15, 0x16]
  | 1 => [0x0B, 0x0C, 0x0D]
  | 2 => [0x0E, 0x08, 0x05, 0x06, 0x07, 0x0A, 0x09, 0x10, 0x11, 0x0F, 0x01]
  | 4 => [0x04]
  | 5 => [0x04]
  | 6 => [0x02, 0x03]
  | 7 => [0x14]
  | 8 => [0x13]
  | _ => []

/-- The domain of a unit; RAD's is UWB. -/
def unitDom (u : Nat) : Nat := ((List.range 9).find? (fun d => (domUnits d).contains u)).getD 0

/-- Domain states (R569). -/
def dsRun : Nat := 0
def dsDoze : Nat := 1
def dsRetain : Nat := 2
def dsOff : Nat := 3

def State.domSt (s : State) (d : Nat) : Nat := s.rd PWR_DOM_STAT.STATE d

/-- Device state in force as residency counts it. -/
def State.resState (s : State) : Nat := min 3 s.pwrState

/-- R591: account the time since the last change to the device state and to each domain's state. -/
def State.pwrAccount (s : State) : State :=
  let dt := s.now - s.pwr.resAt
  let addTo := fun (m : SMap Nat) (k : Nat) => SMap.put m k (SMap.get m k 0 + dt)
  let kind := fun (d : Nat) => let x := s.domSt d; if x ≤ 1 then x else 2
  let s := { s with pwr := { s.pwr with
    res := addTo s.pwr.res s.resState, resAt := s.now
    domRes := (List.range 9).foldl (fun (m : SMap Nat) d => addTo m (16 * d + kind d)) s.pwr.domRes } }
  let ms := fun (k : Nat) => min (2 ^ 64 - 1) (SMap.get s.pwr.res k 0 / 63897600)
  let s := s.wr64 PWR_RES_S0_LO.MS PWR_RES_S0_HI.MS (ms 0)
  let s := s.wr64 PWR_RES_S1_LO.MS PWR_RES_S1_HI.MS (ms 1)
  let s := s.wr64 PWR_RES_S2_LO.MS PWR_RES_S2_HI.MS (ms 2)
  let s := s.wr64 PWR_RES_S3_LO.MS PWR_RES_S3_HI.MS (ms 3)
  (List.range 9).foldl (fun (a : State) d =>
    let cs := fun (k : Nat) => min (2 ^ 32 - 1) (SMap.get a.pwr.domRes (16 * d + k) 0 / 638976000)
    ((a.wr PWR_DOM_RES_RUN.COUNT (cs 0) d).wr PWR_DOM_RES_DOZE.COUNT (cs 1) d).wr PWR_DOM_RES_OFF.COUNT (cs 2) d) s

/-- A domain's state, with the state it seeks. -/
def State.setDom (s : State) (d st : Nat) : State :=
  let s := s.pwrAccount
  (s.wr PWR_DOM_STAT.STATE st d).wr PWR_DOM_STAT.TARGET st d

/-- S0 and S1 follow from the domain states (R572). -/
def State.pwrS01 (s : State) : State :=
  if s.pwrState > psS1 then s
  else
    let dozes := (List.range 8).all (fun k => s.domSt (k + 1) != dsRun)
    let s := s.pwrAccount
    s.wr PWR_STAT.STATE (if dozes then psS1 else psS0)

/-- The last steps of R577: once every Plate store write has been confirmed, every domain is powered down and RAIL_EN is
driven inactive. -/
def State.offCheck (s : State) : State :=
  if s.pwr.goingOff && s.plt.queue.isEmpty && s.plt.banks.isEmpty && s.plt.arcQ.isEmpty && s.plt.sealing.isNone &&
      s.plt.writing.isNone then
    let s := (List.range 9).foldl (fun (a : State) d => a.setDom d dsOff) s
    { s.wr PIN_STAT.RAIL_EN 0 with pwr := { s.pwr with off := true, goingOff := false } }
  else s

/-- R576, R582: a wake event acts in S2 or S3, or reverses an entry under way. The event that acts first names SOURCE,
and in one clock the lowest one; every event is counted. -/
def State.wakeBy (s : State) (src : Nat) (pin : Nat := 0) : State :=
  let asleep := decide (s.pwrState = psS2 ∨ s.pwrState = psS3)
  let entering := match s.pwr.seq with
    | some q => decide (q.kind ≤ 2)
    | none => false
  let waking := match s.pwr.seq with
    | some q => decide (3 ≤ q.kind)
    | none => false
  if !asleep && !entering && !waking then s
  else
    let first := !waking || (s.pwr.wakeAt == some s.now && decide (src < s.rd PWR_WAKE_LAST.SOURCE))
    let s := if first then (s.wr PWR_WAKE_LAST.SOURCE src).wr PWR_WAKE_LAST.PIN (if src = 1 then pin else 0) else s
    if waking then (if s.pwr.wakeAt = some s.now then s.bump PWR_CNT_WAKE.COUNT else s)
    else
      let s := (s.bump PWR_CNT_WAKE.COUNT).pwrCount 2
      let s := { s with pwr := { s.pwr with wakeAt := some s.now } }
      match s.pwr.seq with
      | some q => { s with pwr := { s.pwr with seq := some { q with rev := true } } }
      | none =>
        let s := { s with pwr := { s.pwr with
          seq := some { kind := if s.pwrState = psS2 then 3 else 4, start := s.now } } }
        s.wr PWR_STAT.MOVING 1

end Sys2Proof.Machine
end

