-- ==== Sys2Proof/Machine/Rng.lean ====
section
/-! DEFINITION. RNG: the noise source, its tests, the instances and the test access (R414–R423). -/

namespace Sys2Proof.Machine

/-- RNG's event registers (R687) and an EVENT record (R528). -/
def State.rngEvent (s : State) (kind inst : Nat) : State :=
  let w := kind * 2 ^ 28 + inst
  let s := s.unitEvent 0x0D 0 RNG_EVT_CODE.REG RNG_EVT_STAMP_LO.STAMP RNG_EVT_STAMP_HI.STAMP w
  s.archiveEvent 0x0D 0 w

/-- The shown state of every instance while the source is FAILED, and after (R416). -/
def State.rngStates (s : State) : State :=
  (List.range 12).foldl (fun a i =>
    let seeded := (SMap.find a.rng.seeded i).isSome
    let st := if a.rngBad then instFailed
      else if !seeded then instUninst
      else if a.rd RNG_INST_STAT.SINCE i ≥ 2 ^ 20 then instWait
      else if a.rd RNG_INST_STAT.SINCE i ≥ a.reseedInt then instDue else instReady
    a.wr RNG_INST_STAT.STATE st i) s

/-- Deliver a generate request's outcome to its client (R418, R419). -/
def State.rngDeliver (s : State) (q : RngReq) : State :=
  if q.inst = 5 then
    match s.rngTake 5 4 with
    | some (w, s) => s.complete q.n (s.ctx q.n).gen poolRng ccOk 0 (leBytes 16 w)
    | none => s.complete q.n (s.ctx q.n).gen poolRng ccRngHealth 0 []
  else if q.inst = 11 then
    let need := 64 - s.rng.fifo.length
    match s.rngTake 11 need with
    | some (w, s) =>
      let new := (List.range need).map (fun k => w / 2 ^ (32 * k) % 2 ^ 32)
      let s := { s with rng := { s.rng with fifo := s.rng.fifo ++ new } }
      s.wr RNG_HOST_STAT.LEVEL s.rng.fifo.length
    | none => s
  else if s.rngCan q.inst then s.rngUse q.inst else s

/-- A request that waited more than 1 ms is counted (R420). -/
def State.rngStarve (s : State) (q : RngReq) : State :=
  if s.now > q.since + msT 1 then (s.bump RNG_CNT_STARVE.COUNT).irq RNG_IRQ_STAT.STARVE else s

/-- Serve the waiting requests that can be served, HOST last (R420). -/
def serveRng : List RngReq → State → State
  | [], s => s
  | q :: r, s =>
    let others := s.rng.waiting.any (fun w => w.inst != 11)
    if s.rngCan q.inst && (q.inst != 11 || !others) then
      let s := { s with rng := { s.rng with waiting := s.rng.waiting.erase q } }
      serveRng r ((s.rngStarve q).rngDeliver q)
    else serveRng r s

/-- The waiting requests in order of rank, then of arrival. -/
def State.rngOrder (s : State) : List RngReq :=
  [0, 1, 2, 7, 6, 5, 3, 4, 9, 10, 8, 11].flatMap (fun i => s.rng.waiting.filter (fun q => q.inst == i))

/-- R416: a health failure. -/
def State.healthFail (s : State) (kind inst : Nat) : State :=
  let s := (s.wr RNG_STAT.SOURCE rngFailed).wr RNG_STAT.POOL 0
  let recent := s.now :: s.rng.fails.filter (fun f => decide (s.now < f + secT 60))
  let s := { s with rng := { s.rng with fails := recent } }
  let s := s.wr RNG_STAT.FAILS (min 3 recent.length)
  let s := if kind = 1 then s.bump RNG_CNT_RCT.COUNT else if kind = 2 then s.bump RNG_CNT_APT.COUNT else s
  let s := (s.irq RNG_IRQ_STAT.HEALTH).rngEvent (clampTo 1 3 kind) inst
  let s := if recent.length ≥ 3 ∧ !s.on RNG_STAT.LATCHED then
      (((s.wr RNG_STAT.LATCHED 1).irq RNG_IRQ_STAT.LATCH).wr MGT_HEALTH.RNG_LATCHED 1).rngEvent 4 inst
    else s
  let s := s.rngStates
  let lost := s.rng.waiting
  let s := { s with rng := { s.rng with waiting := [] } }
  let s := lost.foldl (fun a q => if q.inst = 5 then
    a.complete q.n (a.ctx q.n).gen poolRng ccRngHealth 0 [] else a) s
  s.clearWk

def execHealthFail (t kind inst : Nat) (s : State) : Answer := happen t s (fun s =>
  if s.rd RNG_STAT.SOURCE = rngOff ∨ s.rngBad then s else s.healthFail kind inst)

/-- R416: 10 ms after each failure the source restarts, unless it is latched. -/
def execSourceRestart (t : Nat) (s : State) : Answer := happen t s (fun s =>
  match s.rng.fails with
  | f :: _ =>
    if s.rngBad ∧ !s.on RNG_STAT.LATCHED ∧ s.now ≥ f + msT 10 then
      ((s.wr RNG_STAT.SOURCE rngStartup).rngStates).rngEvent 6 0
    else s
  | [] => s)

/-- R415: the start-up test passes. -/
def execStartupTestDone (t : Nat) (s : State) : Answer := happen t s (fun s =>
  if s.rd RNG_STAT.SOURCE = rngStartup ∧ s.rep 0x0D ≠ stReset ∧ s.rep 0x0D ≠ stOff then
    s.wr RNG_STAT.SOURCE rngOk
  else s)

/-- A conditioned block enters the pool, and is counted and rated. -/
def State.blockIn (s : State) : State :=
  let s := s.bump RNG_CNT_BLOCKS.COUNT
  let sec := s.now / secT 1
  let s := if sec = s.rng.blkSec then { s with rng := { s.rng with blkCount := s.rng.blkCount + 1 } }
    else
      let s := s.wr RNG_RAW_RATE.BLOCKS_S (if sec = s.rng.blkSec + 1 then s.rng.blkCount else 0)
      { s with rng := { s.rng with blkSec := sec, blkCount := 1 } }
  s.wr RNG_STAT.POOL (min 64 (s.rd RNG_STAT.POOL + 1))

/-- R414: a block enters the pool; the instances that wait for blocks are reseeded in order of rank. -/
def execBlockConditioned (t : Nat) (s : State) : Answer := happen t s (fun s =>
  if s.rd RNG_STAT.SOURCE = rngOk then
    let s := s.blockIn
    serveRng s.rngOrder s
  else s)

/-- The statistics of a window of raw bits. -/
def State.statsIn (s : State) (bias corr : Int) (kbps : Nat) (hist : List Nat) : State :=
  let s := (s.wr RNG_BIAS.VALUE (satSigned 16 bias)).wr RNG_CORR.VALUE (satSigned 16 corr)
  let s := s.wr RNG_RAW_RATE.RAW_KBPS (min 0xFFFF kbps)
  (List.range 7).foldl (fun (a : State) k => a.wr RNG_RUN_HIST.COUNT (min (2 ^ 32 - 1) (hist.getD k 0)) k) s

/-- R417: a window of raw bits ends. -/
def execStatsWindow (t : Nat) (bias corr : Int) (kbps : Nat) (hist : List Nat) (s : State) : Answer :=
  happen t s (fun s =>
    let s := s.statsIn bias corr kbps hist
    let warn := decide (bias.natAbs > s.rd RNG_WARN_CFG.BIAS_WARN) || decide (corr.natAbs > s.rd RNG_WARN_CFG.CORR_WARN)
    let s := s.flag RNG_STAT.WARN warn
    if warn then (s.irq RNG_IRQ_STAT.WARN).rngEvent 5 0 else s)

/-- The session waits for its nonce and has none held. -/
def State.wantsNonce (s : State) (n : Nat) : Bool :=
  bit (s.ctx n).pend pendRng && !s.ses.cpl.any (fun c => c.session == n && c.pool == poolRng) &&
  !s.rng.waiting.any (fun q => q.inst == 5 && q.n == n)

/-- R418, R420: an instance generates for its client, or the request waits. -/
def execGenerateRequest (t inst n bytes : Nat) (s : State) : Answer := happen t s (fun s =>
  if inst ≥ 12 ∨ bytes > 4096 ∨ (inst = 5 ∧ !s.wantsNonce n) then s
  else
    let q : RngReq := { inst := inst, n := n, bytes := bytes, since := s.now }
    let others := s.rng.waiting.any (fun w => w.inst != 11)
    if s.rngBad || (s.rngCan inst && (inst != 11 || !others)) then s.rngDeliver q
    else { s with rng := { s.rng with waiting := s.rng.waiting ++ [q] } })

/-- Reseed in order of rank: an instance gives way to a higher rank that waits for blocks (R420). -/
def State.rankAbove (s : State) (i : Nat) : Bool :=
  s.rng.waiting.any (fun q => decide (s.rd RNG_INST_STAT.RANK q.inst < s.rd RNG_INST_STAT.RANK i) && !s.rngCan q.inst)

/-- R418, R423: an instance that is due, or not instantiated yet, takes its seed from three pool blocks. -/
def execReseed (t inst : Nat) (s : State) : Answer := happen t s (fun s =>
  let st := s.rd RNG_INST_STAT.STATE inst
  if inst < 12 ∧ s.rd RNG_STAT.SOURCE = rngOk ∧ s.rd RNG_STAT.POOL ≥ 3 ∧ !s.rankAbove inst ∧
      (st = instUninst ∨ st = instDue ∨ st = instWait ∨ s.reseedTimeDue inst) then
    let s := s.rngReseed inst
    serveRng s.rngOrder s
  else s)

/-- R418: RESEED_ALL makes a reseed due on every instance. -/
def State.reseedAll (s : State) : State :=
  (List.range 12).foldl (fun a i =>
    if a.rd RNG_INST_STAT.STATE i = instReady then a.wr RNG_INST_STAT.STATE instDue i else a) s

def execReseedAll (t : Nat) (s : State) : Answer := happen t s State.reseedAll

/-- R421: a read of the host FIFO. -/
def State.hostData (s : State) : Nat × State :=
  match s.rng.fifo with
  | w :: r =>
    let s := { s with rng := { s.rng with fifo := r } }
    (w, s.wr RNG_HOST_STAT.LEVEL r.length)
  | [] => (0, s.bump RNG_CNT_UNDERRUN.COUNT)

def execRngHostDataRead (t port : Nat) (s : State) : Answer := happen t s (fun s =>
  let (w, s) := s.hostData
  s.answerWord port w)

/-- R421, R606: a bulk request fills KiB + 1 KiB of a slot handed to the device and hands it to the host. A request
on a slot that is not DEVICE completes with PRECONDITION. -/
def State.hostBulk (s : State) : State :=
  let slot := s.rd RNG_HOST_BULK.SLOT
  if s.slotFlag slot ≠ slotDevice ∨ s.inRing slot then s.wr RNG_HOST_BULK.CODE ccPrecondition
  else if s.rngBad then (s.wr RNG_HOST_BULK.CODE ccRngHealth).handSlot slot
  else
    let n := 256 * (s.rd RNG_HOST_BULK.KIB + 1)
    match s.rngTake 11 n with
    | some (w, s) =>
      let s := s.fillSlot slot (leBytes (4 * n) w ++ (s.slotData slot).drop (4 * n))
      (s.wr RNG_HOST_BULK.CODE ccOk).handSlot slot
    | none => s.wr RNG_HOST_BULK.BUSY 1

def execRngHostBulk (t slot kib : Nat) (s : State) : Answer := happen t s (fun s =>
  if s.on RNG_HOST_BULK.BUSY then s
  else ((s.wr RNG_HOST_BULK.SLOT slot).wr RNG_HOST_BULK.KIB kib).hostBulk)

/-- R422: the pattern is entered and left in BLANK only; either way the source starts up again and every instance is
instantiated again. -/
def State.testPattern (s : State) (on : Bool) : State :=
  if s.lc = lcBlank ∧ s.on RNG_STAT.PATTERN ≠ on then
    let s := (s.flag RNG_TEST.TEST_PATTERN on).flag RNG_STAT.PATTERN on
    let s := (s.wr RNG_STAT.SOURCE rngStartup).wr RNG_STAT.POOL 0
    let s := { s with rng := { s.rng with seeded := [] } }
    s.rngStates
  else s

def execTestPattern (t : Nat) (on : Bool) (s : State) : Answer := happen t s (fun s => s.testPattern on)

/-- R422: raw bits are copied into slots handed to the device, in BLANK and VENDOR; it stops at the first slot in
other hands (R606). -/
def rawFill : Nat → Nat → State → State
  | 0, _, s => s
  | n + 1, slot, s =>
    if s.slotFlag slot = slotDevice ∧ !s.inRing slot then
      let (w, s) := State.drawN 1024 s
      rawFill n (slot + 1) ((s.fillSlot slot (leBytes 4096 w)).handSlot slot)
    else s

def State.rawCapture (s : State) (on : Bool) : State :=
  if s.lc = lcBlank ∨ s.lc = lcVendor then
    let s := s.flag RNG_TEST.RAW_CAPTURE on
    if on ∧ s.rd RNG_STAT.SOURCE ≠ rngOff then
      let s := rawFill (s.rd RNG_TEST.COUNT) (s.rd RNG_TEST.SLOT) s
      s.wr RNG_TEST.RAW_CAPTURE 0
    else s
  else s

def execRawCapture (t : Nat) (on : Bool) (slot count : Nat) (s : State) : Answer := happen t s (fun s =>
  ((s.wr RNG_TEST.SLOT slot).wr RNG_TEST.COUNT count).rawCapture on)

/-- R423: what a unit reset of RNG does beyond its registers. -/
def State.rngUnitReset (s : State) : State :=
  let lost := s.rng.waiting
  let s := { s with rng := { fails := [], seeded := [], waiting := [], fifo := [] } }
  let s := lost.foldl (fun a q => if q.inst = 5 then
    a.complete q.n (a.ctx q.n).gen poolRng ccTargetReset 0 [] else a) s
  s.clearWk

end Sys2Proof.Machine
end

