-- ==== Sys2Proof/Machine/Kce.lean ====
section
/-! DEFINITION. KCE: lanes, levels, suspension, completion and the known-answer tests (R403–R413), and what KCE
completions bring to cores. -/

namespace Sys2Proof.Machine

def State.core (s : State) (c : Nat) : Core := SMap.get s.ast.cores c {}

def State.updCore (s : State) (c : Nat) (f : Core → Core) : State :=
  { s with ast := { s.ast with cores := SMap.put s.ast.cores c (f (s.core c)) } }

def Core.cp (k : Core) (n : Nat) : CpS :=
  if n = 0 then k.cp0 else if n = 1 then k.cp1 else if n = 2 then k.cp2 else k.cp3

def Core.setCp (k : Core) (n : Nat) (x : CpS) : Core :=
  if n = 0 then { k with cp0 := x } else if n = 1 then { k with cp1 := x }
  else if n = 2 then { k with cp2 := x } else { k with cp3 := x }

/-- A coprocessor has finished a core's request: code, DETAIL and result wait for CP_COMPLETION; a result for a tag
that is no longer outstanding is dropped (R452). -/
def State.cpDone (s : State) (c n tag code detail : Nat) (data : List Byte) : State :=
  let x := (s.core c).cp n
  match x.out with
  | some q => if q.tag = tag then s.updCore c (fun k => k.setCp n { x with done := some (code, detail, data) }) else s
  | none => s

/-- A session call of a core completes with a code (R467). -/
def State.scDone (s : State) (c code : Nat) : State :=
  let s := s.updCore c (fun k => { k with scBusy := false, scCode := code, scNew := true })
  s.wr AST_CORE_LAST.SC_CODE code c

/-! ## The queue -/

/-- Level, lane and queue registers from the queue. -/
def State.kceStat (s : State) : State :=
  let q := s.kce.queue
  let s := s.wr KCE_STAT.QUEUED (min 0xFFFF q.length)
  let s := (List.range 4).foldl (fun a l => a.wr KCE_LVL_STAT.QUEUED (q.filter (fun r => r.level == l)).length l) s
  let s := (List.range 8).foldl (fun a l => a.wr KCE_LANE_STAT.QUEUED (q.filter (fun r => r.lane == l)).length l) s
  let s := s.wr KCE_STAT.SUSPENDED s.kce.ctxs.length
  let s := (List.range 8).foldl (fun a i =>
    match s.kce.ctxs[i]? with
    | some r => (((a.wr KCE_CTX.VALID 1 i).wr KCE_CTX.LEVEL r.level i).wr KCE_CTX.LANE r.lane i).wr
        KCE_CTX.BLOCKS_LEFT r.left i
    | none => a.wrWord KCE_CTX.REG 0 i) s
  match s.kce.running with
  | some r =>
    let s := ((s.wr KCE_STAT.RUNNING 1).wr KCE_STAT.LEVEL r.level).wr KCE_RUN.LANE r.lane
    let s := (s.flag KCE_RUN.K256 (r.key.length == 32)).flag KCE_RUN.VERIFY r.verify
    s.wr KCE_RUN.BLOCKS_LEFT r.left
  | none => ((s.wr KCE_STAT.RUNNING 0).wr KCE_STAT.LEVEL 0).wrWord KCE_RUN.REG 0

/-- Deliver a message's outcome to its requester (R259, R450). -/
def State.kceDeliver (s : State) (r : KceReq) (code : Nat) (data : List Byte) : State :=
  match r.dest with
  | .session n gen => s.complete n gen poolKce code 0 data
  | .core c tag =>
    if r.verify then s.cpDone c 1 tag code (leAt data 0 1) [] else s.cpDone c 1 tag code 0 data
  | .unit => s

/-- The class's requester unit by lane (the inverse of `kceLaneOf`). -/
def kceUnit (lane : Nat) : Nat := [0x08, 0x05, 0x06, 0x09, 0x0A, 0x10, 0x0B, 0x0E].getD lane 0x0E

/-- Uses of a generated key, which each message consumes (R385, R387). -/
def State.gkeyUse (s : State) (slot : Nat) : State :=
  match SMap.find s.dom.gkeys slot with
  | none => s
  | some k =>
    if k.nextReset then s
    else if k.uses ≤ 1 then
      let s := { s with dom := { s.dom with gkeys := SMap.del s.dom.gkeys slot } }
      let s := (s.wrWord DOM_GKEY.REG 0 slot).domKeysReg
      (s.irq DOM_IRQ_STAT.KEY_SPENT).domEvent 5 slot ccKeySpent
    else
      let s := { s with dom := { s.dom with gkeys := SMap.put s.dom.gkeys slot { k with uses := k.uses - 1 } } }
      s.wr DOM_GKEY.USES (k.uses - 1) slot

/-- Start or resume a message: the Dome loads its key and the mask expanders are reseeded (R384, R406). A refused load
completes the message with the Dome's code; a mask instance that cannot supply makes it wait. -/
def State.kceStart (s : State) (r : KceReq) : State :=
  let dc := if r.dest = .unit then ccOk else s.keyCode r.cls false
  if dc ≠ ccOk then ((s.kceDone r.lane dc).kceDeliver r dc []).kceStat
  else
    let lat := s.now - r.arrival
    let s := s.wr KCE_MAX_LAT.ANY_US (max (s.rd KCE_MAX_LAT.ANY_US) (min 0xFFFF (lat * 10 / ticksPerUs10)))
    let s := if r.level = 3 then
        s.wr KCE_MAX_LAT.LVL3_US (max (s.rd KCE_MAX_LAT.LVL3_US) (min 0xFFFF (lat * 100 / ticksPerUs10)))
      else s
    let s := s.loadWk { cls := r.cls, req := kceUnit r.lane, uses := 1, key := r.key, session := noSession, gen := 0 }
    let wait := !s.rngCan 0
    let s := if wait then s else s.rngUse 0
    let s := { s with kce := { s.kce with running := some { r with started := true },
                                          maskWait := if wait then some s.now else none } }
    s.kceStat

/-- The next work (R410): the highest level; a suspended context before a queued request, the newest first; queued
requests in order of arrival. -/
def State.kceNext (s : State) : State :=
  let top := (s.kce.queue ++ s.kce.ctxs).foldl (fun a r => max a r.level) 0
  match s.kce.ctxs.find? (fun r => r.level == top) with
  | some r =>
    let s := { s with kce := { s.kce with ctxs := s.kce.ctxs.erase r, running := none } }
    (s.bump KCE_CNT_RELOAD.COUNT).kceStart r
  | none =>
    match s.kce.queue.find? (fun r => r.level == top) with
    | some r =>
      let s := { s with kce := { s.kce with queue := s.kce.queue.erase r, running := none } }
      s.kceStart r
    | none =>
      let s := { s with kce := { s.kce with running := none, maskWait := none } }
      s.clearWk.kceStat

/-- A request arrives on its lane (R404, R409): it starts, suspends the running message, or waits. -/
def State.kceArrive (s : State) (r : KceReq) : State :=
  if s.kceCode ≠ ccOk ∧ s.kceCode ≠ ccRngHealth then
    ((s.kceDone r.lane s.kceCode).kceDeliver r s.kceCode []).kceStat
  else
    match s.kce.running with
    | none => s.kceStart r
    | some m =>
      if r.level > m.level ∧ m.left > 1 ∧ s.kce.ctxs.length < 8 then
        let m := { m with left := m.left - 1 }
        let s := { s with kce := { s.kce with ctxs := m :: s.kce.ctxs, running := none } }
        let s := (s.bump KCE_CNT_SUSPEND.COUNT).bump KCE_CNT_RELOAD.COUNT
        s.clearWk.kceStart r
      else
        let s := { s with kce := { s.kce with queue := s.kce.queue ++ [r] } }
        s.kceStat

/-- The session's check of its token (R269, R280, R380): a VERIFY under KTOK. The spec gives the session challenge no
layout, so the message is the session nonce and the answer is right or wrong as the command says (log entry 14). -/
def State.sesCheck (s : State) (n level : Nat) (good : Bool) : KceReq :=
  let c := s.ctx n
  let key := SMap.get s.dom.sesKeys n []
  let msg := leBytes 16 c.nonce
  let tag := (cmac key msg).take 8
  { lane := 0, level := level, arrival := s.now, aged := s.now, verify := true, cls := kKTOK, key := key, msg := msg,
    expect := if good then tag else tag.map (fun b => b + 1), dest := .session n c.gen, left := kceBlocks msg }

/-- The level of a session's requests (R280). -/
def kceLevel (state : Nat) : Nat :=
  if state = ssDecide then 3 else if state = ssChallenge ∨ state = ssBound then 2
  else if state = ssIdent ∨ state = ssRange then 1 else 0

/-- The session waits for KCE and has no request there. -/
def State.wantsKce (s : State) (n : Nat) : Bool :=
  let mine := fun (r : KceReq) => decide (r.dest = .session n (s.ctx n).gen)
  bit (s.ctx n).pend pendKce && !(s.kce.queue ++ s.kce.ctxs).any mine && !(s.kce.running.map mine).getD false &&
  !s.ses.cpl.any (fun c => c.session == n && c.pool == poolKce)

/-- R404: a request arrives on a lane; a full lane holds it at the requester. -/
def execKceRequest (t lane n level blocks : Nat) (k256 verify good : Bool) (s : State) : Answer :=
  happen t s (fun s =>
    if lane ≥ 8 ∨ (s.kce.queue.filter (fun r => r.lane == lane)).length ≥ 16 then s
    else if lane = 0 then
      if s.wantsKce n then s.kceArrive (s.sesCheck n (kceLevel (s.ctx n).state) good) else s
    else if lane = 7 then
      match s.kce.offered.find? (fun r => match r.dest with
        | .core c _ => c == n
        | _ => false) with
      | some r =>
        let s := { s with kce := { s.kce with offered := s.kce.offered.erase r } }
        s.kceArrive { r with arrival := s.now, aged := s.now }
      | none => s
    else
      s.kceArrive { lane := lane, level := min 3 level, arrival := s.now, aged := s.now, verify := verify, cls := 0,
                    key := List.replicate (if k256 then 32 else 16) 0,
                    msg := List.replicate (16 * clampTo 1 512 blocks) 0, expect := [], dest := .unit,
                    left := clampTo 1 512 blocks })

/-- R407: an alarm suppresses the result and raises the Dome's FAULT sensor. -/
def State.kceAlarm (s : State) (lane block : Nat) : State :=
  let s := (s.wr KCE_ALARM_STAT.LANE lane).wr KCE_ALARM_STAT.BLOCK block
  let s := s.wr64 KCE_EVT_STAMP_LO.STAMP KCE_EVT_STAMP_HI.STAMP s.now
  let s := (s.bump KCE_CNT_ALARM.COUNT).irq KCE_IRQ_STAT.ALARM
  let s := s.post (s.source 0x0C 0) 2 ccKceAlarm noSession (s.word KCE_ALARM_STAT.REG) 0
  let s := s.archiveEvent 0x0C 0 (s.word KCE_ALARM_STAT.REG) [] ccKceAlarm
  let s := s.wr DOM_TAMPER_STAT.LIVE (setBit (s.rd DOM_TAMPER_STAT.LIVE) 5 true)
  (s.irq DOM_IRQ_STAT.ALARM).clearWk

/-- R413: the known-answer tests run through both datapaths: AES-CMAC of the empty message under the AES-128 example
key of SP 800-38B, and under the AES-256 one (log entry 4). -/
def katGood : Bool :=
  let k128 := bytesOf [0x2b, 0x7e, 0x15, 0x16, 0x28, 0xae, 0xd2, 0xa6, 0xab, 0xf7, 0x15, 0x88, 0x09, 0xcf, 0x4f, 0x3c]
  let k256 := bytesOf [0x60, 0x3d, 0xeb, 0x10, 0x15, 0xca, 0x71, 0xbe, 0x2b, 0x73, 0xae, 0xf0, 0x85, 0x7d, 0x77, 0x81,
    0x1f, 0x35, 0x2c, 0x07, 0x3b, 0x61, 0x08, 0xd7, 0x2d, 0x98, 0x10, 0xa3, 0x09, 0x14, 0xdf, 0xf4]
  cmac k128 [] == bytesOf [0xbb, 0x1d, 0x69, 0x29, 0xe9, 0x59, 0x37, 0x28, 0x7f, 0xa3, 0x7d, 0x12, 0x9b, 0x75, 0x67, 0x46] &&
  cmac k256 [] == bytesOf [0x02, 0x89, 0x62, 0xf6, 0x1b, 0x7b, 0xf8, 0x9e, 0xfc, 0x6b, 0x55, 0x1f, 0x46, 0x67, 0xd9, 0x83]

/-- Every request completes with a code (R413, R412). -/
def State.kceFlush (s : State) (code : Nat) : State :=
  let all := s.kce.running.toList ++ s.kce.ctxs ++ s.kce.queue
  let s := { s with kce := { s.kce with running := none, ctxs := [], queue := [], maskWait := none } }
  (all.foldl (fun a r => (a.kceDone r.lane code).kceDeliver r code []) s).clearWk.kceStat

/-- R413: the tests' outcome; a failed test makes KCE report FAULT. -/
def State.katRun (s : State) : State :=
  if katGood then
    let s := { s with kce := { s.kce with katBad := false } }
    s.wr KCE_STAT.KAT_OK 1
  else
    let s := { s with kce := { s.kce with katBad := true } }
    let s := ((s.wr KCE_STAT.KAT_OK 0).irq KCE_IRQ_STAT.KAT_FAIL).archiveEvent 0x0C 0
    (s.setRep 0x0C stFault).kceFlush ccKceAlarm

/-- The running message ends: its lane, its answer, and the next request. -/
def State.kceEnd (s : State) (r : KceReq) (code : Nat) (data : List Byte) : State :=
  ((s.kceDone r.lane code).kceDeliver r code data).kceNext

/-- The running message is done: its blocks and its key's use counted, its tag given or compared. -/
def State.kceServed (s : State) (r : KceReq) : State :=
  let s := s.add KCE_CNT_BLOCK.COUNT (kceBlocks r.msg)
  let s := s.useWk
  let s := match r.dest with
    | .core _ _ => s.gkeyUse r.gslot
    | _ => s
  let tag := cmac r.key r.msg
  let data := if r.verify then bytesOf [(tag.take r.expect.length == r.expect).toNat] else tag
  s.kceEnd r ccOk data

/-- R408: the running message completes. -/
def execKceMessageDone (t block : Nat) (fault poison : Bool) (s : State) : Answer := happen t s (fun s =>
  match s.kce.running, s.kce.maskWait with
  | some r, none =>
    if fault || s.kce.alarmTest then
      let s := { s with kce := { s.kce with alarmTest := false } }
      (s.kceAlarm r.lane (if fault then min 0x3FF block else 0x3FF)).kceEnd r ccKceAlarm []
    else if poison then s.kceEnd r ccPoisoned []
    else s.kceServed r
  | _, _ => s)

/-- R405: a request that has waited AGE_MS is served as the next level up, never above 2. -/
def execKceAging (t q : Nat) (s : State) : Answer := happen t s (fun s =>
  match s.kce.queue[q]? with
  | some r =>
    if r.level < 2 ∧ s.now ≥ r.aged + msT (orOne (s.rd KCE_CFG.AGE_MS)) then
      let s := { s with kce := { s.kce with queue := s.kce.queue.set q { r with level := r.level + 1, aged := s.now } } }
      (s.bump KCE_LVL_STAT.AGED (r.level + 1)).kceStat
    else s
  | none => s)

/-- R406: a wait for masks of 100 µs ends the message with RNG_HEALTH. -/
def execMaskWaitTimeout (t : Nat) (s : State) : Answer := happen t s (fun s =>
  match s.kce.running, s.kce.maskWait with
  | some r, some since =>
    if s.rngCan 0 then
      let s := s.rngUse 0
      { s with kce := { s.kce with maskWait := none } }
    else if s.now ≥ since + usT 100 then
      ((s.kceDone r.lane ccRngHealth).kceDeliver r ccRngHealth []).kceNext
    else s
  | _, _ => s)

/-- R413: a write of KAT_RUN. -/
def execKatRun (t : Nat) (s : State) : Answer := happen t s State.katRun

/-- R413: ALARM_TEST is honoured in BLANK and VENDOR only. -/
def State.alarmTest (s : State) : State :=
  if s.lc = lcBlank ∨ s.lc = lcVendor then { s with kce := { s.kce with alarmTest := true } } else s

def execAlarmTest (t : Nat) (s : State) : Answer := happen t s State.alarmTest

/-- A session's requests leave KCE (R411): nothing is delivered and no use consumed. -/
def State.kceCancel (s : State) (n gen : Nat) : State :=
  let mine := fun (r : KceReq) => decide (r.dest = .session n gen)
  let all := s.kce.running.toList ++ s.kce.ctxs ++ s.kce.queue
  let gone := all.filter mine
  if gone.isEmpty then s
  else
    let s := { s with kce := { s.kce with queue := s.kce.queue.filter (fun r => !mine r),
                                          ctxs := s.kce.ctxs.filter (fun r => !mine r) } }
    let s := gone.foldl (fun a _ => (a.bump KCE_CNT_CANCEL.COUNT).giveWithCpl poolKce) s
    let s := s.updCtx n (fun c => c.setPend pendKce false)
    if (s.kce.running.map mine).getD false then s.clearWk.kceNext else s.kceStat

end Sys2Proof.Machine
end

