-- ==== Sys2Proof/Machine/Profiles.lean ====
section
/-! DEFINITION. The block profiles: for each expert field of R18 the value each profile implies
(R71, R105, R135, R169, R204, R229, R256, R293, R335, R370, R424, R479, R508, R538, R567, R592, R621, R645, R661,
R681). -/

namespace Sys2Proof.Machine

/-- One expert field and its value under profiles 0, 1, 2 …; a list of one value is implied by every profile. -/
structure ProfEntry where
  fld : Fld
  vals : List Nat
deriving DecidableEq, Repr

/-- The value a profile implies: a profile number the block does not name acts as profile 0. -/
def ProfEntry.value (e : ProfEntry) (p : Nat) : Nat := e.vals.getD p (e.vals.getD 0 0)

/-- Expert fields of MER. -/
def profMer : List ProfEntry := [
  ⟨MER_SYNC_CFG.SLEW_MAX, [100, 20]⟩,
  ⟨MER_SYNC_CFG.STEP_THRESH, [100, 10]⟩,
  ⟨MER_SYNC_CFG.HOLD_LIMIT, [20, 5]⟩,
  ⟨MER_SYNC_CFG.CKPT, [6, 3]⟩]

/-- Expert fields of HEL. -/
def profHel : List ProfEntry := [
  ⟨HEL_DRIFT_CFG.REMEAS_S, [60, 10, 300]⟩,
  ⟨HEL_DRIFT_CFG.DRIFT_PCT, [8, 5, 12]⟩,
  ⟨HEL_MEAS_CFG.PROBE_MA, [50, 50, 20]⟩,
  ⟨HEL_SOLVE_CFG.M_IN, [20, 25, 15]⟩,
  ⟨HEL_SOLVE_CFG.M_OUT, [20, 25, 30]⟩,
  ⟨HEL_LOOP_CFG.LOOP_CYC, [4, 2, 8]⟩,
  ⟨HEL_MEAS_CFG.SETTLE, [16]⟩,
  ⟨HEL_MEAS_CFG.MEAS_CYC, [32]⟩,
  ⟨HEL_DRIFT_CFG.NEIGH, [10]⟩,
  ⟨HEL_SOLVE_CFG.MAX_ITER, [64]⟩,
  ⟨HEL_SOLVE_CFG.TOL, [5]⟩,
  ⟨HEL_LOOP_CFG.TOL_AMP, [20]⟩,
  ⟨HEL_LOOP_CFG.TOL_PH, [20]⟩,
  ⟨HEL_AMB_CFG.AMB_MAX, [2000]⟩,
  ⟨HEL_AMB_CFG.MEAS_SLOT, [4]⟩]

/-- Expert fields of LFP. -/
def profLfp : List ProfEntry := [
  ⟨LFP_RX_CFG.RATE, [2, 3, 1]⟩,
  ⟨LFP_RX_CFG.MOD, [0, 0, 2]⟩,
  ⟨LFP_RX_CFG.FMT, [0, 0, 1]⟩,
  ⟨LFP_DROWN_CFG.ERASE_MAX, [2, 2, 3]⟩,
  ⟨LFP_DROWN_CFG.SNR_MIN, [24, 32, 20]⟩,
  ⟨LFP_TIMING_CFG.HOP_GAP, [20, 10, 20]⟩,
  ⟨LFP_WAKE_CFG.WAKE_WIN, [50, 30, 200]⟩,
  ⟨LFP_WAKE_CFG.TRY_MAX, [6, 4, 8]⟩,
  ⟨LFP_MON_CFG.MON_PERIOD, [100, 50, 250]⟩,
  ⟨LFP_TIMING_CFG.TURN_MIN, [20]⟩,
  ⟨LFP_TIMING_CFG.TURN_MAX, [50]⟩,
  ⟨LFP_DROWN_CFG.Q_ERASE, [12]⟩,
  ⟨LFP_DROWN_CFG.INT_DB, [12]⟩,
  ⟨LFP_MON_CFG.NOISE_MAX, [10]⟩]

/-- Expert fields of RAD. -/
def profRad : List ProfEntry := [
  ⟨RAD_IDLE_CFG.SYNTH_HOLD, [200, 2000, 20]⟩,
  ⟨RAD_IDLE_CFG.STBY_HOLD, [100, 1000, 10]⟩,
  ⟨RAD_CAL_CFG.CAL_DT, [5, 5, 8]⟩,
  ⟨RAD_CAL_CFG.RL_MIN, [60]⟩,
  ⟨RAD_CAL_CFG.RL_FAULT, [30]⟩]

/-- Expert fields of TRN. -/
def profTrn : List ProfEntry := [
  ⟨TRN_PHY_CFG.CH9, [1, 1, 0, 1]⟩,
  ⟨TRN_PHY_CFG.PRF, [0, 2, 0, 0]⟩,
  ⟨TRN_PHY_CFG.PCODE, [9, 25, 9, 9]⟩,
  ⟨TRN_DS_CFG.DS, [1, 1, 1, 0]⟩,
  ⟨TRN_STS_CFG.SP, [3, 3, 3, 1]⟩,
  ⟨TRN_STS_CFG.SP_RPT, [1]⟩,
  ⟨TRN_PHY_CFG.PSR, [1, 0, 1, 1]⟩,
  ⟨TRN_STS_CFG.STS_LEN, [1, 0, 1, 1]⟩,
  ⟨TRN_DS_CFG.REPLY_DLY, [300, 200, 300, 400]⟩,
  ⟨TRN_CIR_CFG.WHEN, [4, 1, 4, 1]⟩,
  ⟨TRN_PHY_CFG.SFD, [1]⟩,
  ⟨TRN_PHY_CFG.RATE, [0]⟩,
  ⟨TRN_PHY_CFG.TX_STEP, [57]⟩,
  ⟨TRN_STS_CFG.NSEG, [0]⟩,
  ⟨TRN_DS_CFG.REPLY_TOL, [20]⟩,
  ⟨TRN_DS_CFG.RX_LEAD, [8]⟩,
  ⟨TRN_RETRY_CFG.RETRY_MAX, [2]⟩,
  ⟨TRN_FP_CFG.FP_THR_DB, [24]⟩,
  ⟨TRN_FP_CFG.PEAK_REL_DB, [48]⟩,
  ⟨TRN_FP_CFG.SEARCH_WIN, [48]⟩,
  ⟨TRN_FP_CFG.SNR_GATE, [20]⟩,
  ⟨TRN_STS_CFG.STS_Q_MIN, [60]⟩,
  ⟨TRN_CHECK_CFG.ALIGN_TOL, [48]⟩,
  ⟨TRN_STS_CFG.NSUB, [8]⟩,
  ⟨TRN_CHECK_CFG.SUB_MIN, [25]⟩,
  ⟨TRN_CHECK_CFG.CLK_MAX, [50]⟩,
  ⟨TRN_CHECK_CFG.SAT_FRAC, [5]⟩,
  ⟨TRN_RETRY_CFG.SAT_PAD, [12]⟩,
  ⟨TRN_PREARM_CFG.PREARM_MAX, [8]⟩,
  ⟨TRN_PREARM_CFG.PREARM_HOLD, [100]⟩,
  ⟨TRN_CIR_CFG.SRC, [2]⟩]

/-- Expert fields of DBX. -/
def profDbx : List ProfEntry := [
  ⟨DBX_RB_CFG.N, [64, 48, 128]⟩,
  ⟨DBX_TURN_CFG.TURN_NS, [100]⟩,
  ⟨DBX_RB_CFG.TOL, [20]⟩,
  ⟨DBX_BOUND_CFG.D_MAX_MM, [3000, 1500, 2000]⟩,
  ⟨DBX_BOUND_CFG.ERR_MAX, [2, 1, 4]⟩,
  ⟨DBX_BOUND_CFG.LATE_MAX, [1, 0, 0]⟩,
  ⟨DBX_BOUND_CFG.RETRY_MAX, [0, 1, 0]⟩,
  ⟨DBX_TWR_CFG.TWR_N, [4, 4, 6]⟩,
  ⟨DBX_TWR_CFG.TWR_ERR, [1]⟩,
  ⟨DBX_TWR_CFG.MODE, [0, 0, 1]⟩,
  ⟨DBX_RB_CFG.CH9, [1]⟩,
  ⟨DBX_RB_CFG.TX_STEP, [57]⟩,
  ⟨DBX_RB_CFG.BURST, [8]⟩,
  ⟨DBX_TURN_CFG.RB_THR, [20]⟩,
  ⟨DBX_TURN_CFG.SEARCH_END, [80]⟩,
  ⟨DBX_PRECOMP_CFG.PRECOMP_MAX, [64]⟩,
  ⟨DBX_PRECOMP_CFG.PRECOMP_HOLD, [100]⟩]

/-- Expert fields of ALM. -/
def profAlm : List ProfEntry := [
  ⟨ALM_DELAY_CFG.B_MAX, [300, 200, 500]⟩,
  ⟨ALM_DELAY_CFG.B_NEG, [300, 200, 400]⟩,
  ⟨ALM_GEOM_CFG.SIGB_MAX, [100, 60, 150]⟩,
  ⟨ALM_GEOM_CFG.SIGP_MAX, [500, 300, 1000]⟩,
  ⟨ALM_RES_CFG.CHI_K, [30, 30, 35]⟩,
  ⟨ALM_RES_CFG.RES_MAX, [40, 40, 45]⟩,
  ⟨ALM_GEOM_CFG.OUT_MAX, [1, 0, 2]⟩,
  ⟨ALM_GEOM_CFG.REQUIRE_DELAY, [1, 1, 0]⟩,
  ⟨ALM_SOLVE_CFG.SPAN_MAX, [20, 10, 50]⟩,
  ⟨ALM_RES_CFG.CHI_ADD, [20]⟩,
  ⟨ALM_SOLVE_CFG.MAX_ITER, [16]⟩,
  ⟨ALM_SOLVE_CFG.CONV, [10]⟩,
  ⟨ALM_SOLVE_CFG.SOLVE_TO, [20]⟩]

/-- Expert fields of SES. -/
def profSes : List ProfEntry := [
  ⟨SES_TO_CFG_A.IDENT_WAIT, [20, 100, 200]⟩,
  ⟨SES_TO_CFG_A.CHAL_TO, [10, 20, 20]⟩,
  ⟨SES_TO_CFG_B.RANGE_TO, [30, 60, 100]⟩,
  ⟨SES_TO_CFG_B.BOUND_TO, [5, 10, 10]⟩,
  ⟨SES_TO_CFG_B.LOCATE_TO, [5, 10, 10]⟩,
  ⟨SES_TO_CFG_C.DECIDE_TO, [10, 50, 100]⟩,
  ⟨SES_TO_CFG_C.SESSION_MAX, [50, 200, 500]⟩,
  ⟨SES_TO_CFG_C.CREDIT_WAIT, [20, 50, 100]⟩,
  ⟨SES_SCHED_CFG.SLICE_MAX, [20]⟩,
  ⟨SES_SCHED_CFG.REMOTE_PCT, [25]⟩]

/-- Expert fields of SHU. -/
def profShu : List ProfEntry := [
  ⟨SHU_ROLL_CFG.WIN, [256, 64, 1024]⟩,
  ⟨SHU_ROLL_CFG.RESYNC_HOLD, [30, 10, 60]⟩,
  ⟨SHU_LOCK_CFG.DUP_WIN, [50, 30, 50]⟩,
  ⟨SHU_LOCK_CFG.FAIL_MAX, [5, 3, 5]⟩,
  ⟨SHU_LOCK_CFG.FAIL_WIN_MIN, [1, 1, 2]⟩,
  ⟨SHU_LOCK_CFG.LOCK_MIN, [10, 30, 10]⟩,
  ⟨SHU_NODE_CFG.NODE_TO, [100, 50, 200]⟩,
  ⟨SHU_PERMIT_CFG.PERMIT_TO, [3, 6, 5]⟩,
  ⟨SHU_PERMIT_CFG.PERMIT_TRIES, [3, 2, 5]⟩,
  ⟨SHU_NODE_CFG.NODE_ACK, [50]⟩,
  ⟨SHU_NODE_CFG.NODE_TRIES, [3]⟩,
  ⟨SHU_PERMIT_CFG.PERMIT_ACK, [50]⟩,
  ⟨SHU_PERMIT_CFG.PERMIT_GAP, [10]⟩,
  ⟨SHU_PERMIT_CFG.PERMIT_POLL, [5]⟩,
  ⟨SHU_NODE_CFG.REL_GAP, [20]⟩]

/-- Expert fields of EPH. -/
def profEph : List ProfEntry := [
  ⟨EPH_COMPACT_CFG.COMPACT_AT, [50, 75, 50]⟩,
  ⟨EPH_COMPACT_CFG.COMPACT_MIN, [10, 60, 10]⟩,
  ⟨EPH_CODE_CFG.CODE_MAX, [5, 5, 3]⟩,
  ⟨EPH_CODE_CFG.CODE_WIN, [60]⟩,
  ⟨EPH_CODE_CFG.CODE_LOCK, [10, 10, 60]⟩,
  ⟨EPH_COMPACT_CFG.CHANGE_WAIT, [10]⟩]

/-- Expert fields of KCE. -/
def profKce : List ProfEntry := [
  ⟨KCE_CFG.AGE_MS, [5, 5, 2]⟩,
  ⟨KCE_CFG.MASK_REFRESH, [64, 16, 64]⟩]

/-- Expert fields of RNG. -/
def profRng : List ProfEntry := [
  ⟨RNG_CFG.RESEED_INT, [4096, 1024]⟩,
  ⟨RNG_CFG.RESEED_TIME, [100, 25]⟩,
  ⟨RNG_WARN_CFG.BIAS_WARN, [1311, 655]⟩,
  ⟨RNG_WARN_CFG.CORR_WARN, [3277, 1638]⟩]

/-- Expert fields of AST. -/
def profAst : List ProfEntry := [
  ⟨AST_CFG.HOLD_FAULT, [0, 1]⟩,
  ⟨AST_CFG.RETIRE_N, [3, 0]⟩]

/-- Expert fields of MEM. -/
def profMem : List ProfEntry := [
  ⟨MEM_SCRUB_CFG.RATE, [8, 1, 64]⟩,
  ⟨MEM_BUCKET_CFG.BUCKET_MAX, [16, 16, 8]⟩,
  ⟨MEM_BUCKET_CFG.LEAK_MS, [1000]⟩]

/-- Expert fields of PLT. -/
def profPlt : List ProfEntry := [
  ⟨PLT_MARGIN_CFG.MARGIN_H, [24, 6]⟩]

/-- Expert fields of BOOT. -/
def profBoot : List ProfEntry := [
  ⟨BOOT_FL_CFG.MODE, [0, 0, 1]⟩,
  ⟨BOOT_FL_CFG.MHZ, [200, 100, 50]⟩]

/-- Expert fields of PWR. -/
def profPwr : List ProfEntry := [
  ⟨PWR_DOM_IDLE.DOZE_US, [100, 1000, 50]⟩,
  ⟨PWR_IDLE_CFG.S2_EN, [1, 0, 1]⟩,
  ⟨PWR_IDLE_CFG.S2_IDLE, [50, 50, 20]⟩,
  ⟨PWR_IDLE_CFG.S3_EN, [0, 0, 1]⟩,
  ⟨PWR_IDLE_CFG.S3_IDLE, [10]⟩,
  ⟨PWR_S2_CFG.S2_MIN, [10]⟩,
  ⟨PWR_S2_CFG.WAKE_LEAD, [30]⟩]

/-- Expert fields of HIF. -/
def profHif : List ProfEntry := [
  ⟨HIF_EVT_CFG.FLUSH_US, [100, 10, 1000]⟩,
  ⟨HIF_VEC_CFG.HOLDOFF_US, [20, 0, 200]⟩,
  ⟨HIF_VEC_CFG.GAP_US, [50, 10, 500]⟩]

/-- Expert fields of BLN. -/
def profBln : List ProfEntry := [
  ⟨BLN_LINK_CFG.RATE, [0, 1, 0]⟩,
  ⟨BLN_LINK_CFG.MIN_LANES, [1, 1, 2]⟩,
  ⟨BLN_TIME_CFG.SYNC_PERIOD, [100, 100, 25]⟩,
  ⟨BLN_TIME_CFG.DLY_WIN, [32, 48, 16]⟩,
  ⟨BLN_LINK_CFG.RETRY_MS, [100, 100, 50]⟩]

/-- Expert fields of MGT. -/
def profMgt : List ProfEntry := [
  ⟨MGT_FND_CFG.HB_MS, [1000, 100]⟩,
  ⟨MGT_FND_CFG.DEPART_N, [3]⟩,
  ⟨MGT_FND_CFG.ASSIGN_TO, [50, 20]⟩,
  ⟨MGT_RECON_TIME.RECON_MS, [1000, 200]⟩,
  ⟨MGT_RECON_TIME.RECON_MAX, [3]⟩]

/-- Expert fields of EYE. -/
def profEye : List ProfEntry := [
  ⟨EYE_CFG.BAUD, [115200, 3000000]⟩]

/-- Expert fields of PIN. -/
def profPin : List ProfEntry := [
  ⟨PIN_IO_CFG.SLEW, [1, 0]⟩,
  ⟨PIN_LF_CFG.SLEW, [2, 1]⟩]

/-- Expert fields of the block with a unit number; none for SYS and DOM, which have no profile (R688). -/
def profilesOf : Nat → List ProfEntry
  | 0x01 => profMer
  | 0x02 => profHel
  | 0x03 => profLfp
  | 0x04 => profRad
  | 0x05 => profTrn
  | 0x06 => profDbx
  | 0x07 => profAlm
  | 0x08 => profSes
  | 0x09 => profShu
  | 0x0A => profEph
  | 0x0C => profKce
  | 0x0D => profRng
  | 0x0E => profAst
  | 0x0F => profMem
  | 0x10 => profPlt
  | 0x11 => profBoot
  | 0x12 => profPwr
  | 0x13 => profHif
  | 0x14 => profBln
  | 0x15 => profMgt
  | 0x16 => profEye
  | 0x17 => profPin
  | _ => []

end Sys2Proof.Machine
end

