-- ==== Sys2Proof/Machine/SysOps.lean ====
section
/-! DEFINITION. Unit-state records in motion (R31, R33, R37) and what a unit reset does to a block's registers (R17). -/

namespace Sys2Proof.Machine

/-- The state that follows on the path RUN, QUIESCE, HALT towards a command (R31); none when it is reached, or when the
unit is not on the path. -/
def pathNext (rep cmd : Nat) : Option Nat :=
  if rep < stRun ∨ stHalt < rep ∨ rep = cmd then none
  else if rep < cmd then some (rep + 1) else some (rep - 1)

/-- A command to a unit (R31); a value other than RUN, QUIESCE and HALT is ignored. A unit that moves reaches its next
stable state first. -/
def State.unitCommand (s : State) (u cmd : Nat) : State :=
  if cmd < stRun ∨ stHalt < cmd ∨ 24 ≤ u then s
  else
    let s := (s.wr SYS_UNIT_STATE.CMD cmd u).judgeMismatch u
    let x := s.unitS u
    if x.target.isSome then s else s.setUnitS u { x with target := pathNext (s.rep u) cmd }

/-- A unit reaches its next stable state, and moves toward the newest command. -/
def State.unitStep (s : State) (u : Nat) : State :=
  match (s.unitS u).target with
  | none => s
  | some d =>
    let s := s.setRep u d
    s.setUnitS u { s.unitS u with target := pathNext d (s.rd SYS_UNIT_STATE.CMD u) }

/-- A unit leaves INIT directly for its commanded state (R31). -/
def State.leaveInit (s : State) (u : Nat) : State :=
  let s := s.setUnitS u { s.unitS u with target := none }
  s.setRep u (s.rd SYS_UNIT_STATE.CMD u)

/-- A unit goes from RESET to INIT. -/
def State.toInit (s : State) (u : Nat) : State :=
  let s := s.setUnitS u { s.unitS u with target := none }
  s.setRep u stInit

/-- Steps 3 and 4 of a unit reset (R32): the epoch increments, and the unit reports RESET, then INIT. -/
def State.resetStates (s : State) (u : Nat) : State := ((s.nextEpoch u).setRep u stReset).toInit u

/-! ## Profiles (R18, R19) -/

/-- PROFILE of a block. -/
def profFld : Nat → Option Fld
  | 0x01 => some MER_PROFILE.PROFILE
  | 0x02 => some HEL_PROFILE.PROFILE
  | 0x03 => some LFP_PROFILE.PROFILE
  | 0x04 => some RAD_PROFILE.PROFILE
  | 0x05 => some TRN_PROFILE.PROFILE
  | 0x06 => some DBX_PROFILE.PROFILE
  | 0x07 => some ALM_PROFILE.PROFILE
  | 0x08 => some SES_PROFILE.PROFILE
  | 0x09 => some SHU_PROFILE.PROFILE
  | 0x0A => some EPH_PROFILE.PROFILE
  | 0x0C => some KCE_PROFILE.PROFILE
  | 0x0D => some RNG_PROFILE.PROFILE
  | 0x0E => some AST_PROFILE.PROFILE
  | 0x0F => some MEM_PROFILE.PROFILE
  | 0x10 => some PLT_PROFILE.PROFILE
  | 0x11 => some BOOT_PROFILE.PROFILE
  | 0x12 => some PWR_PROFILE.PROFILE
  | 0x13 => some HIF_PROFILE.PROFILE
  | 0x14 => some BLN_PROFILE.PROFILE
  | 0x15 => some MGT_PROFILE.PROFILE
  | 0x16 => some EYE_PROFILE.PROFILE
  | 0x17 => some PIN_PROFILE.PROFILE
  | _ => none

/-- The profile of a block. -/
def State.profileOf (s : State) (u : Nat) : Nat :=
  match profFld u with
  | some f => s.rd f
  | none => 0

/-- The value of PROFILE that selects the expert level. -/
def profExpert : Nat := 0xF

/-- The expert fields of a block read back what its profile implies; under EXPERT they stay. -/
def State.applyProfile (s : State) (u : Nat) : State :=
  let p := s.profileOf u
  if p = profExpert then s
  else (profilesOf u).foldl (fun (a : State) e => (List.range e.fld.n1).foldl (fun (a : State) i =>
    (List.range e.fld.n2).foldl (fun (a : State) j => a.wr e.fld (e.value p) i j) a) a) s

/-- A field that a unit reset leaves (R17): a lock bit, an AUT field, a FUS field. -/
def Fld.kept (f : Fld) : Bool := f.acc == .AUT || f.acc == .FUS || f.acc == .W1S

/-- A table with the entries of another put in. -/
def SMap.over' (m : SMap Nat) (l : SMap Nat) : SMap Nat := l.foldl (fun a p => SMap.put a p.1 p.2) m

/-- R17: a block's registers return to their reset values, those that fuses, straps, image and Plate store have loaded
included; lock bits, AUT fields and FUS fields stay. Expert fields follow the profile (R18). -/
def State.unitRegs (s : State) (u : Nat) : State :=
  let mine := fun (p : Nat × Nat) => p.1 / 32 / 65536 == u
  let keep := (regsOf u).flatMap (fun r => (r.flds.filter Fld.kept).flatMap (fun f =>
    (List.range f.n1).flatMap (fun i => (List.range f.n2).filterMap (fun j =>
      (SMap.find s.regs (f.key i j)).map (fun v => (f.key i j, v))))))
  let base := s.regs.filter (fun p => !mine p)
  let base := SMap.over' base (s.loaded.filter mine)
  let base := SMap.over' base (s.persist.filter mine)
  { s with regs := SMap.over' base keep, latch := s.latch.filter (fun p => p.1 / 65536 != u) }.applyProfile u

/-- Set a field whose reset value fuses, straps or the image give (R16): it is kept for unit resets. -/
def State.load (s : State) (f : Fld) (v : Nat) (i : Nat := 0) (j : Nat := 0) : State :=
  let s := s.wr f v i j
  if f.has i j then { s with loaded := putField s.loaded f i j v } else s

end Sys2Proof.Machine
end

