-- ==== Sys2Proof/Machine/AlmOps.lean ====
section
/-! DEFINITION. ALM: building a solve's inputs, serving the queue, the decision and its record (R230–R256). -/

namespace Sys2Proof.Machine

/-! ## REASON values (R245) -/

def arNone : Nat := 0x0
def arDelay : Nat := 0x1
def arEarly : Nat := 0x2
def arResid : Nat := 0x3
def arFew : Nat := 0x4
def arGeom : Nat := 0x5
def arNoConv : Nat := 0x6
def arOutside : Nat := 0x7
def arUncertain : Nat := 0x8
def arTable : Nat := 0x9
def arMaster : Nat := 0xA
def arCancelled : Nat := 0xB

/-- The completion code of a REASON (R245). -/
def almCode (reason : Nat) : Nat :=
  if reason = arNone then ccOk
  else if reason ≤ arResid then ccRelaySuspect
  else if reason ≤ arNoConv ∨ reason = arTable then ccPrecondition
  else if reason = arMaster then ccTimeout
  else ccDenied

/-! ## Range entries (R266) -/

/-- A range entry as its 16 bytes. -/
def RangeEnt.bytes (e : RangeEnt) : List Byte :=
  leBytes 4 (ofSigned 32 e.rangeMm) ++ leBytes 2 e.sigma ++ leBytes 1 e.anchor ++
    leBytes 1 (e.nlos.toNat + 2 * e.fallback.toNat) ++ leBytes 4 e.arrival ++ leBytes 1 e.fpSnr ++ leBytes 3 0

/-- A range entry from its bytes. -/
def rangeEnt (l : List Byte) : RangeEnt :=
  { rangeMm := toSigned 32 (leAt l 0 4), sigma := leAt l 4 2, anchor := leAt l 6 1 % 128,
    nlos := bit (leAt l 7 1) 0, fallback := bit (leAt l 7 1) 1, arrival := leAt l 8 4, fpSnr := leAt l 12 1 }

/-- n range entries from bytes. -/
def rangeEnts : Nat → List Byte → List RangeEnt
  | 0, _ => []
  | n + 1, l => rangeEnt (l.take 16) :: rangeEnts n (l.drop 16)

/-! ## Inputs (R234, R235) -/

/-- Insert by RANGE_MM, later results after equal earlier ones. -/
def insRange (e : RangeEnt) : List RangeEnt → List RangeEnt
  | [] => [e]
  | x :: r => if e.rangeMm < x.rangeMm then e :: x :: r else x :: insRange e r

/-- Sort by RANGE_MM. -/
def sortRange (l : List RangeEnt) : List RangeEnt := l.foldl (fun a e => insRange e a) []

/-- The result of each anchor with the lower median RANGE_MM, in order of anchor index (R235). -/
def medians (l : List RangeEnt) : List RangeEnt :=
  (List.range 128).filterMap (fun a =>
    let mine := sortRange (l.filter (fun e => e.anchor == a))
    mine[(mine.length - 1) / 2]?)

/-- The solver's inputs from usable entries. s squared is at least 1 mm² (log entry 9). -/
def State.solIns (s : State) (l : List RangeEnt) : List SolIn :=
  (medians l).filterMap (fun e =>
    match SMap.find s.alm.anchors e.anchor with
    | some a =>
      if a.valid then
        some { idx := e.anchor, pos := [(a.x : Rat), (a.y : Rat), (a.z : Rat)], range := (e.rangeMm : Rat),
               s2 := ((max 1 (e.sigma * e.sigma + a.surv * a.surv) : Nat) : Rat), nlos := e.nlos }
      else none
    | none => none)

/-- An entry arrived no earlier than SPAN_MAX before the present (R234). -/
def State.inSpan (s : State) (tOpen : Nat) (e : RangeEnt) : Bool :=
  decide (s.now ≤ tOpen + usT e.arrival + msT (orOne (s.rd ALM_SOLVE_CFG.SPAN_MAX)))

/-! ## Settings -/

/-- The settings of a solve (R236–R240). -/
def State.solveCfg (s : State) : SolveCfg :=
  { chiK := s.rd ALM_RES_CFG.CHI_K, chiAdd := s.rd ALM_RES_CFG.CHI_ADD, resMax := orOne (s.rd ALM_RES_CFG.RES_MAX),
    maxIter := clampTo 1 64 (s.rd ALM_SOLVE_CFG.MAX_ITER), conv := orOne (s.rd ALM_SOLVE_CFG.CONV),
    outMax := s.rd ALM_GEOM_CFG.OUT_MAX, reqDelay := s.on ALM_GEOM_CFG.REQUIRE_DELAY }

/-! ## The record (R242, R246) -/

/-- What a solve reports beside its record. -/
structure AlmOut where
  reason : Nat
  code : Nat
  record : List Byte
  sigp : Nat := 0
  thr : Nat := 0
  dof : Nat := 0
  used : List Nat := []
  dropped : List Nat := []
  resid : SMap Resid := []
  worst : Nat × Int := (0, 0)
deriving DecidableEq, Repr

/-- A record with no solution: offset 8 onward 0, except TABLE_SEQ and DEVICE; MEMB NOT_TESTED. -/
def emptyRecord (code reason flags n table device : Nat) : List Byte :=
  leBytes 1 code ++ leBytes 1 reason ++ leBytes 2 flags ++ leBytes 1 n ++ leBytes 1 0 ++ leBytes 1 0 ++ leBytes 1 3 ++
    List.replicate 48 0 ++ leBytes 4 table ++ leBytes 1 device ++ leBytes 3 0

/-- The decision of R242 from a solution. -/
def almDecide (cfg : SolveCfg) (g : Option Region) (sigpMax sigbMax bMax bNeg nu n : Nat) (sol : Solution)
    (sigb : Rat) (memb : Nat) : Nat :=
  if residFail cfg nu n sol then arResid
  else if !sigpAtMost sol.cov (sigpMax : Rat) ∨ (nu = 4 ∧ sigb > (sigbMax : Rat)) then arGeom
  else if nu = 4 ∧ sol.b > (bMax : Rat) then arDelay
  else if nu = 4 ∧ sol.b < (0 : Rat) - (bNeg : Rat) then arEarly
  else if memb = 1 then arOutside
  else if memb = 2 ∧ !(g.map (·.acceptUnc)).getD false then arUncertain
  else arNone

/-- Run a solve (R234–R248) on entries for a zone (255 for none), with the LOCAL and REMOTE flags. -/
def State.almSolve (s : State) (inputs : List RangeEnt) (zone flags : Nat) (poisoned : Bool) : AlmOut :=
  let table := s.rd ALM_TABLE_STAT.SEQ
  let dev := s.device
  let plain := fun (code reason n : Nat) =>
    ({ reason := reason, code := code, record := emptyRecord code reason flags n table dev } : AlmOut)
  if !s.on ALM_STAT.TABLE_VALID then plain ccPrecondition arTable 0
  else if poisoned then plain ccPoisoned arNone 0
  else
    let cfg := s.solveCfg
    let ins := s.solIns inputs
    let g := if zone < 32 then SMap.find s.alm.regions zone else none
    match solveAll cfg g ins with
    | .few => plain ccPrecondition arFew ins.length
    | .noConv => plain ccPrecondition arNoConv ins.length
    | .found nu used dropped sol =>
      let n := used.length
      let sigb := if nu = 4 then ratSqrt (max 0 ((sol.cov.getD 3 []).getD 3 0)) else 0
      let e := match g with
        | some r => regionEdge r sol.p
        | none => 0
      let memb := match g with
        | some r => membership r e sol.cov
        | none => 3
      let reason := almDecide cfg g (s.rd ALM_GEOM_CFG.SIGP_MAX) (s.rd ALM_GEOM_CFG.SIGB_MAX)
        (max 50 (s.rd ALM_DELAY_CFG.B_MAX)) (max 50 (s.rd ALM_DELAY_CFG.B_NEG)) nu n sol sigb memb
      let code := almCode reason
      let c := fun (i j : Nat) => satSigned 32 (ratRound ((sol.cov.getD i []).getD j 0))
      let fl := flags + (decide (nu = 4)).toNat + 8 * (decide (dropped ≠ [])).toNat +
        16 * (used.any (·.nlos)).toNat
      let b := if nu = 4 then sol.b else 0
      let p := fun (k : Nat) => leBytes 4 (satSigned 32 (ratRound (sol.p.getD k 0)))
      let chi := min 0xFFFF (ratRound (sol.chi * 16)).toNat
      let rec64 := leBytes 1 code ++ leBytes 1 reason ++ leBytes 2 fl ++ leBytes 1 n ++ leBytes 1 dropped.length ++
        leBytes 1 sol.iter ++ leBytes 1 memb ++ p 0 ++ p 1 ++ p 2 ++ leBytes 4 (satSigned 32 (ratRound b)) ++
        (leBytes 4 (c 0 0) ++ leBytes 4 (c 1 1) ++ leBytes 4 (c 2 2) ++ leBytes 4 (c 0 1) ++ leBytes 4 (c 0 2) ++
          leBytes 4 (c 1 2)) ++
        leBytes 2 (min 0xFFFF (ratRound (sigb * 10)).toNat) ++ leBytes 2 chi ++
        leBytes 4 (satSigned 32 (ratRound e)) ++ leBytes 4 table ++ leBytes 1 dev ++ leBytes 3 0
      let nr := fun (x : Rat) => max (-32768) (min 32767 (ratRound (x * 16)))
      let resid := sol.nres.foldl (fun (m : SMap Resid) x =>
        SMap.put m x.1 { used := true, dropped := false, nlos := used.any (fun i => i.idx == x.1 && i.nlos),
                         nres := nr x.2 }) []
      let resid := dropped.foldl (fun (m : SMap Resid) i =>
        SMap.put m i.idx { used := false, dropped := true, nlos := i.nlos, nres := 0 }) resid
      let worst := sol.nres.foldl (fun (a : Nat × Rat) x => if |a.2| < |x.2| then x else a) (0, 0)
      { reason := reason, code := code, record := rec64, sigp := min 0xFFFF (sigpTenths sol.cov 20 0),
        thr := min 0xFFFF (ratRound (solveThr cfg (n - nu) * 16)).toNat, dof := n - nu, used := used.map (·.idx),
        dropped := dropped.map (·.idx), resid := resid, worst := (worst.1, nr worst.2) }

/-! ## Effects (R246, ALM_LAST, counters) -/

/-- Event word of a result (ALM_EVT_CODE). -/
def almWord (reason device code session : Nat) : Nat :=
  reason * 2 ^ 28 + device * 2 ^ 24 + code * 2 ^ 16 + session % 2 ^ 15

/-- ALM_LAST registers for a result delivered to a session (the map's introduction), its counters, interrupts and
event. -/
def State.almShow (s : State) (n zone ignored span : Nat) (o : AlmOut) : State :=
  let r := o.record
  let fl := leAt r 2 2
  let s := ((s.wr ALM_LAST_CODE.CODE (leAt r 0 1)).wr ALM_LAST_CODE.REASON (leAt r 1 1)).wr ALM_LAST_CODE.MEMB (leAt r 7 1)
  let s := ((s.flag ALM_LAST_CODE.LOCAL (bit fl 1)).flag ALM_LAST_CODE.REMOTE (bit fl 2)).flag
    ALM_LAST_CODE.DELAY_TESTED (bit fl 0)
  let s := s.wr ALM_LAST_CODE.SESSION n
  let s := ((s.wr ALM_LAST_X.VALUE (leAt r 8 4)).wr ALM_LAST_Y.VALUE (leAt r 12 4)).wr ALM_LAST_Z.VALUE (leAt r 16 4)
  let s := s.wr ALM_LAST_B.VALUE (leAt r 20 4)
  let s := (s.wr ALM_LAST_SIG.SIGB (leAt r 48 2)).wr ALM_LAST_SIG.SIGP o.sigp
  let s := (s.wr ALM_LAST_CHI.THR o.thr).wr ALM_LAST_CHI.CHI (leAt r 50 2)
  let s := ((s.wr ALM_LAST_COV_XX.COV (leAt r 24 4)).wr ALM_LAST_COV_YY.COV (leAt r 28 4)).wr ALM_LAST_COV_ZZ.COV (leAt r 32 4)
  let s := ((s.wr ALM_LAST_COV_XY.COV (leAt r 36 4)).wr ALM_LAST_COV_XZ.COV (leAt r 40 4)).wr ALM_LAST_COV_YZ.COV (leAt r 44 4)
  let s := (s.wr ALM_LAST_ZONE.ZONE zone).wr ALM_LAST_ZONE.EDGE (satSigned 24 (toSigned 32 (leAt r 52 4)))
  let s := (s.wr ALM_LAST_ITER.ITER (leAt r 6 1)).wr ALM_LAST_ITER.N_USED (leAt r 4 1)
  let s := (s.wr ALM_LAST_ITER.N_IGNORED (min 255 ignored)).wr ALM_LAST_ITER.DOF o.dof
  let s := s.wr64 ALM_LAST_STAMP_LO.STAMP ALM_LAST_STAMP_HI.STAMP s.now
  let map := fun (l : List Nat) (w : Nat) => bitMap ((l.filter (fun a => a / 32 == w)).map (· % 32))
  let s := (List.range 4).foldl (fun a w =>
    (a.wr ALM_LAST_USED.MAP (map o.used w) w).wr ALM_LAST_DROP.MAP (map o.dropped w) w) s
  let s := (s.wr ALM_LAST_DEVICE.SOLVER (leAt r 60 1)).wr ALM_LAST_SPAN.SPAN_US (min (2 ^ 32 - 1) span)
  let s := (s.wr ALM_LAST_RESMAX.ANCHOR o.worst.1).wr ALM_LAST_RESMAX.NRES (ofSigned 16 o.worst.2)
  let s := { s with alm := { s.alm with resid := o.resid } }
  let code := leAt r 0 1
  let reason := leAt r 1 1
  let s := s.add ALM_CNT_DROP.COUNT (leAt r 5 1)
  let s :=
    if code = ccOk then s.bump ALM_CNT_OK.COUNT
    else if reason = arDelay ∨ reason = arEarly then (s.bump ALM_CNT_RELAY.COUNT).irq ALM_IRQ_STAT.DELAY
    else if reason = arResid then (s.bump ALM_CNT_RESID.COUNT).irq ALM_IRQ_STAT.RESID
    else if reason = arTable then (s.bump ALM_CNT_PRECOND.COUNT).irq ALM_IRQ_STAT.TABLE
    else if code = ccPrecondition then (s.bump ALM_CNT_PRECOND.COUNT).irq ALM_IRQ_STAT.PRECOND
    else if code = ccDenied then (s.bump ALM_CNT_DENIED.COUNT).irq ALM_IRQ_STAT.DENIED
    else s
  let s := if code = ccOk then s.bump ALM_ZONE_CNT.PASSED zone
    else if code = ccRelaySuspect ∨ code = ccDenied then s.bump ALM_ZONE_CNT.REFUSED zone else s
  if code = ccOk then s
  else s.unitEvent 0x07 0 ALM_EVT_CODE.REG ALM_EVT_STAMP_LO.STAMP ALM_EVT_STAMP_HI.STAMP
    (almWord reason (leAt r 60 1) code n) code n

/-- ALM_QUEUE_STAT and BUSY from the queues. -/
def State.almStat (s : State) : State :=
  let n := s.alm.queue.length
  let s := (s.wr ALM_QUEUE_STAT.SES_QUEUED (min 255 n)).wr ALM_QUEUE_STAT.CP2_QUEUED s.alm.cp2.length
  let s := s.wr ALM_QUEUE_STAT.PEAK (max (s.rd ALM_QUEUE_STAT.PEAK) (min 255 n))
  s.flag ALM_STAT.BUSY (decide (0 < n + s.alm.cp2.length))

/-- The service time of a solve (ALM_TIME_STAT). -/
def State.almTime (s : State) (us : Nat) : State :=
  let s := s.wr ALM_TIME_STAT.LAST_US (min 0xFFFF us)
  s.wr ALM_TIME_STAT.MAX_US (max (s.rd ALM_TIME_STAT.MAX_US) (min 0xFFFF us))

/-- The registers that show the anchor table and the regions. -/
def State.almTableRegs (s : State) : State :=
  let valid := (s.alm.anchors.filter (fun e => e.2.valid)).map (·.1)
  let s := (List.range 4).foldl (fun (t : State) w =>
    t.wr ALM_ANC_VALID.MAP (bitMap ((valid.filter (fun i => i / 32 == w)).map (· % 32))) w) s
  let s := s.flag ALM_STAT.TABLE_VALID (s.rd ALM_TABLE_STAT.SEQ != 0)
  let s := s.wr ALM_STAT.ANCHORS_VALID (min 255 valid.length)
  (List.range 32).foldl (fun (t : State) z =>
    match SMap.find t.alm.regions z with
    | some g => (((t.load ALM_ZONE_CFG.VALID 1 z).load ALM_ZONE_CFG.ACCEPT_UNC g.acceptUnc.toNat z).load
        ALM_ZONE_CFG.NV g.verts.length z).load ALM_ZONE_CFG.Z_SIG g.zSig z
    | none => ALM_ZONE_CFG.REG.flds.foldl (fun (a : State) f => a.load f 0 z) t) s

/-- An image's anchor table and regions take effect between solves (R255). -/
def State.almTake (s : State) : State :=
  match s.alm.next with
  | some (a, r, seq, crc) =>
    let s := { s with alm := { s.alm with anchors := a, regions := r, next := none } }
    ((s.load ALM_TABLE_CRC.CRC crc).load ALM_TABLE_STAT.SEQ seq).almTableRegs
  | none => s

/-- The session waits for ALM and has neither a request there nor a completion. -/
def State.wantsAlm (s : State) (n : Nat) : Bool :=
  let mine := fun (q : SolveReq) => decide (q.dest = .session n (s.ctx n).gen)
  bit (s.ctx n).pend pendAlm && !(s.alm.queue ++ s.alm.away).any mine &&
  !s.ses.cpl.any (fun c => c.session == n && c.pool == poolAlm)

/-- Deliver a result to a session of this device. -/
def State.almDeliver (s : State) (q : SolveReq) (n gen : Nat) (o : AlmOut) : State :=
  let c := s.ctx n
  let span := (s.now - c.tOpen) * 10 / ticksPerUs10 - ((q.inputs.map (·.arrival)).foldl min (2 ^ 32 - 1))
  let s := s.almShow n q.zone q.ignored span o
  s.complete n gen poolAlm o.code o.reason o.record

/-- The master's result does not come (R251): the same inputs are solved here, or the request completes with TIMEOUT. -/
def State.masterLost (s : State) (q : SolveReq) (n gen : Nat) : State :=
  if s.on ALM_CTL.LOCAL_FALLBACK then
    { s with alm := { s.alm with queue := s.alm.queue ++ [({ q with fallback := true } : SolveReq)] } }.almStat
  else
    let r := emptyRecord ccTimeout arMaster 0 0 (s.rd ALM_TABLE_STAT.SEQ) s.device
    s.almDeliver q n gen { reason := arMaster, code := ccTimeout, record := r }

/-- R234, R249: a session's request: its inputs, and where it runs. -/
def State.locate (s : State) (n : Nat) (poisoned : Bool) : State :=
  let c := s.ctx n
  let x := s.aux n
  let usable := x.ranges.filter (fun e => s.inSpan c.tOpen e &&
    (match SMap.find s.alm.anchors e.anchor with
     | some a => a.valid
     | none => false))
  let q : SolveReq :=
    { dest := .session n c.gen, zone := c.zone, inputs := usable,
      ignored := x.ranges.length - usable.length, poisoned := poisoned, since := s.now,
      tableSeq := s.rd ALM_TABLE_STAT.SEQ }
  let remote := usable.any (fun e => e.anchor / 16 != s.device)
  if remote ∧ !s.on MER_STAT.MASTER ∧ s.rd BLN_STAT.STATE ≠ 0 then
    let (tag, s) := s.blnRequest (s.rd BLN_STAT.MASTER) 0x07 0x07
      (leBytes 1 c.zone ++ leBytes 1 poisoned.toNat ++ leBytes 2 usable.length ++ leBytes 4 q.tableSeq ++
        usable.flatMap RangeEnt.bytes)
    match tag with
    | some k => { s with alm := { s.alm with away := s.alm.away ++ [({ q with sent := true, tag := k } : SolveReq)] } }
    | none => s.masterLost q n c.gen
  else
    let s := { s with alm := { s.alm with queue := s.alm.queue ++ [q] } }
    s.almStat

/-- Serve the head of the queue: session and member requests in order of arrival, then CP2 requests (R252). -/
def State.serveSolve (s : State) (us : Nat) : State :=
  match s.alm.queue with
  | q :: r =>
    let s := { s with alm := { s.alm with queue := r } }
    match q.dest with
    | .session n gen =>
      let o := s.almSolve q.inputs q.zone (if q.fallback then 2 else 0) q.poisoned
      let s := if q.fallback then (s.bump ALM_CNT_LOCAL.COUNT).irq ALM_IRQ_STAT.FALLBACK else s
      ((s.almDeliver q n gen o).almTime us).almStat.almTake
    | .remote dev tag =>
      let o := if q.tableSeq ≠ s.rd ALM_TABLE_STAT.SEQ then
          ({ reason := arTable, code := ccPrecondition,
             record := emptyRecord ccPrecondition arTable 4 0 (s.rd ALM_TABLE_STAT.SEQ) s.device } : AlmOut)
        else s.almSolve q.inputs q.zone 4 q.poisoned
      let s := (s.bump ALM_CNT_REMOTE.COUNT).almTime us
      ((s.giveRemote poolAlm).blnReply dev 0x07 tag o.record).almStat.almTake
    | .core _ _ => s.almStat
  | [] =>
    match s.alm.cp2 with
    | q :: r =>
      let s := { s with alm := { s.alm with cp2 := r } }
      match q.dest with
      | .core c tag =>
        let o := s.almSolve q.inputs q.zone 0 q.poisoned
        (((s.cpDone c 2 tag o.code o.reason o.record).bump ALM_CNT_CP2.COUNT).almTime us).almStat.almTake
      | _ => s.almStat
    | [] => s

/-- A session's solve leaves ALM on its cancellation (R253): counted and posted with reason CANCELLED. -/
def State.almCancel (s : State) (n gen : Nat) : State :=
  let mine := fun (q : SolveReq) => decide (q.dest = .session n gen)
  if (s.alm.queue ++ s.alm.away).any mine then
    let s := { s with alm := { s.alm with queue := s.alm.queue.filter (fun q => !mine q),
                                          away := s.alm.away.filter (fun q => !mine q) } }
    let s := (s.giveWithCpl poolAlm).updCtx n (fun c => c.setPend pendAlm false)
    (s.unitEvent 0x07 0 ALM_EVT_CODE.REG ALM_EVT_STAMP_LO.STAMP ALM_EVT_STAMP_HI.STAMP
      (almWord arCancelled s.device 0 n) 0 n).almStat
  else s

/-- R254: a unit reset completes every request with TARGET_RESET. -/
def State.almUnitReset (s : State) : State :=
  let all := s.alm.queue ++ s.alm.away ++ s.alm.cp2
  let s := { s with alm := { s.alm with queue := [], away := [], cp2 := [], resid := [] } }
  (all.foldl (fun a q =>
    match q.dest with
    | .session n gen => a.complete n gen poolAlm ccTargetReset 0 []
    | .remote dev tag => (a.giveRemote poolAlm).blnReply dev 0x07 tag
        (emptyRecord ccTargetReset arNone 4 0 (a.rd ALM_TABLE_STAT.SEQ) a.device)
    | .core c tag => a.cpDone c 2 tag ccTargetReset 0 []) s).almStat

end Sys2Proof.Machine
end

