-- ==== Sys2Proof/Machine/Cancel.lean ====
section
/-! DEFINITION. What each unit does when a session it works for is cancelled (R274): R131, R132, R200, R201, R224,
R253, R411, and the requests that no unit has begun. -/

namespace Sys2Proof.Machine

/-- A request of a pool that stands in no unit's work and no completion slot leaves with its credits. -/
def State.dropRequest (s : State) (n : Nat) (u k : Nat) : State :=
  if bit (s.ctx n).pend u ∧ !s.ses.cpl.any (fun c => c.session == n && c.pool == k) then
    (s.giveWithCpl k).updCtx n (fun c => c.setPend u false)
  else s

/-- The session stands in Transit's or DBX's work. -/
def State.inTrn (s : State) (n : Nat) : Bool := s.trn.ex.any (fun p => p.2.session == n && p.2.dest == .session)
def State.inDbx (s : State) (n : Nat) : Bool := s.dbx.ex.any (fun p => p.2.session == n)

/-- A wake exchange of the session at LFP (R131, R132): one past its commit point runs on and is void. -/
def State.lfpCancel (s : State) (n gen : Nat) : State :=
  if s.lfp.ex.any (fun e => e.session == n && e.gen == gen && e.committed) then
    { s with lfp := { s.lfp with
      ex := s.lfp.ex.map (fun e => if e.session == n && e.gen == gen then { e with void := true } else e),
      wins := s.lfp.wins.filter (fun w => w.session != n) } }
  else
    let s := { s with lfp := { s.lfp with
      ex := s.lfp.ex.filter (fun e => !(e.session == n && e.gen == gen)),
      wins := s.lfp.wins.filter (fun w => w.session != n) } }
    s.updCtx n (fun c => c.setPend pendLfp false)

/-- Every unit whose PEND bit is set acts on a cancellation. -/
def cancelUnits (n gen : Nat) (s : State) : State :=
  let s := s.lfpCancel n gen
  let s := { s with eph := { s.eph with waiting := s.eph.waiting.erase (n, gen) } }
  let s := (((s.trnCancel n gen).dbxCancel n gen).almCancel n gen).kceCancel n gen
  let s := { s with dom := { s.dom with sesKeys := SMap.del s.dom.sesKeys n } }
  let s := s.dropRequest n pendEph poolEph
  let s := (s.dropRequest n pendDom poolDom).dropRequest n pendRng poolRng
  let s := (s.dropRequest n pendKce poolKce).dropRequest n pendAlm poolAlm
  let s := if s.inTrn n then s else s.dropRequest n pendTrn poolTrn
  if s.inDbx n then s else s.dropRequest n pendDbx poolDbx

end Sys2Proof.Machine
end

