-- ==== Sys2Proof/Machine/CoreOps.lean ====
section
/-! DEFINITION. What other units do to a core: cancelling its coprocessor requests, unbinding and stopping it
(R452, R465, R475). -/

namespace Sys2Proof.Machine

/-- STATE of AST_CORE_STAT. -/
def csIdle : Nat := 0
def csStep : Nat := 1
def csFault : Nat := 2
def csReload : Nat := 3
def csDebug : Nat := 4
def csOffline : Nat := 5

def State.coreSt (s : State) (c : Nat) : Nat := s.rd AST_CORE_STAT.STATE c

/-- The transceiver that Transit took for a CP0 request is handed back when no exchange runs on it. -/
def State.cp0Free (s : State) (c : Nat) : State :=
  match (s.core c).cp0.out with
  | some q =>
    let t := leAt q.block 0 1
    if t < 16 ∧ (s.exch t).isNone then s.trnRelease t else s
  | none => s

/-- R452: every outstanding coprocessor request of a core is cancelled; its result is dropped. -/
def State.cpCancelAll (s : State) (c : Nat) : State :=
  let mine := fun (r : KceReq) => match r.dest with
    | .core k _ => k == c
    | _ => false
  let s := s.cp0Free c
  let s := { s with
    kce := { s.kce with offered := s.kce.offered.filter (fun r => !mine r)
                        queue := s.kce.queue.filter (fun r => !mine r)
                        ctxs := s.kce.ctxs.filter (fun r => !mine r) }
    alm := { s.alm with cp2 := s.alm.cp2.filter (fun q => match q.dest with
      | .core k _ => k != c
      | _ => true) } }
  let drop := fun (x : CpS) => { x with out := none, done := none }
  (s.updCore c (fun k => { k with cp0 := drop k.cp0, cp1 := drop k.cp1, cp2 := drop k.cp2, cp3 := drop k.cp3 })).kceStat

/-- The step of a core ends: its requests are cancelled, PEND bit 10 of its session clears, and it is unbound. -/
def State.coreUnbind (s : State) (c : Nat) : State :=
  let n := s.rd AST_CORE_STAT.SESSION c
  let gen := s.rd AST_CORE_SCRIPT.GEN c
  let s := s.cpCancelAll c
  let s := s.updCtx n (fun x => if x.gen = gen ∧ x.core = c then { x.setPend pendCore false with core := 0xFF } else x)
  let s := (s.wr AST_CORE_STAT.SESSION 0 c).wr AST_CORE_SCRIPT.GEN 0 c
  s.updCore c (fun k => { k with sliceWarn := false, waiting := false, haltFrom := none })

/-- AST_STAT.IDLE and the maps of AST_OFFLINE, AST_FAULT and AST_DEBUG. -/
def State.astStat (s : State) : State :=
  let inSt := fun (st : Nat) => (List.range 16).filter (fun c => s.coreSt c == st)
  let s := s.wr AST_STAT.IDLE (inSt csIdle).length
  let s := s.wr AST_OFFLINE.MAP (bitMap (inSt csOffline))
  (s.wr AST_FAULT.MAP (bitMap (inSt csFault))).wr AST_DEBUG.MAP (bitMap (inSt csDebug))

/-- A core enters a state. -/
def State.coreTo (s : State) (c st : Nat) : State := (s.wr AST_CORE_STAT.STATE st c).astStat

/-- AST's event registers. -/
def State.astEvent (s : State) (kind c code session : Nat) : State :=
  s.unitEvent 0x0E c AST_EVT_CODE.REG AST_EVT_STAMP_LO.STAMP AST_EVT_STAMP_HI.STAMP
    (kind * 2 ^ 28 + c * 2 ^ 24 + code * 2 ^ 16 + session) code session

/-- Core cycles of 1.25 ns in a span of ticks (R460). -/
def coreCycles (ticks : Nat) : Nat := ticks * 1000 / 79872

/-- The time a core's present step has run, halts excluded (R477). -/
def State.stepTicks (s : State) (c : Nat) : Nat :=
  let k := s.core c
  let pause := match k.haltFrom with
    | some h => s.now - h
    | none => 0
  s.now - k.stepFrom - (k.halted + pause)

/-- AST_STEP_CYC and AST_MAX_CYC at the end of a step. -/
def State.stepEnds (s : State) (c : Nat) : State :=
  let n := min (2 ^ 32 - 1) (coreCycles (s.stepTicks c))
  (s.wr AST_STEP_CYC.CYCLES n c).wr AST_MAX_CYC.CYCLES (max n (s.rd AST_MAX_CYC.CYCLES c)) c

/-- R475: a core that runs a step is stopped and enters RELOAD. -/
def State.coreStop (s : State) (c : Nat) : State :=
  if s.coreSt c = csStep ∨ s.coreSt c = csDebug then
    let n := s.rd AST_CORE_STAT.SESSION c
    let s := ((s.bump AST_CNT_STOP.COUNT).bump AST_CORE_CNT_STOP.COUNT c).irq AST_IRQ_STAT.STOP
    let s := s.astEvent 2 c (s.ctx n).code n
    let s := ((s.stepEnds c).coreUnbind c).coreTo c csReload
    s.updCore c (fun k => { k with reloadFrom := s.now })
  else s

/-- The core a session's step runs on. -/
def State.coreOf (s : State) (n : Nat) : Option Nat :=
  match s.ctx? n with
  | some c => if c.core < 16 ∧ s.rd AST_CORE_STAT.SESSION c.core = n then some c.core else none
  | none => none

/-- A session call that waits on a core of the session completes with a code (R467). -/
def State.answerCall (s : State) (n code : Nat) : State :=
  match s.coreOf n with
  | some c => if (s.core c).scBusy then s.scDone c code else s
  | none => s

/-- The step of a session is stopped with its session (R465). -/
def State.stopStep (s : State) (n : Nat) : State :=
  match s.coreOf n with
  | some c => s.coreStop c
  | none => s

end Sys2Proof.Machine
end

