-- ==== Sys2Proof/Machine/SesOps.lean ====
section
/-! DEFINITION. The ends of a session, the entry to each session state, and opening (R258–R276). -/

namespace Sys2Proof.Machine

/-! ## Ends (R272–R276) -/

/-- The queue joins the FREE list when its records are committed and PEND is zero (R260). -/
def State.freeIfDone (s : State) (n : Nat) : State :=
  match s.ctx? n with
  | none => s
  | some c =>
    if (c.state = ssClosed ∨ c.state = ssAborted) ∧ c.pend = 0 ∧ !(s.aux n).recWait then
      let s := { s with ses := { s.ses with ctx := SMap.del s.ses.ctx n, aux := SMap.del s.ses.aux n,
                                            freeTail := s.ses.freeTail ++ [n] } }
      s.sesStat
    else s

/-- A session becomes FREE with no record (R269: returned unused): its pre-arms are handed back and its block is
burned. -/
def State.returnUnused (s : State) (n : Nat) : State :=
  let s := s.giveWithCpl poolWake
  let s := (s.unPrearm n (s.ctx n).gen).burn n
  let s := { s with ses := { s.ses with ctx := SMap.del s.ses.ctx n, aux := SMap.del s.ses.aux n,
                                        freeTail := s.ses.freeTail ++ [n] } }
  (s.bump SES_CNT_RETURNED.COUNT).sesStat

/-- SES_LAST_END for an end. -/
def endWord (n code state : Nat) (aborted : Bool) : Nat :=
  code * 2 ^ 24 + state * 2 ^ 20 + aborted.toNat * 2 ^ 15 + n

/-- Record an end in SES_LAST_END, its stamp and the code counters. -/
def State.noteEnd (s : State) (n code state : Nat) (aborted : Bool) : State :=
  let s := s.wrWord SES_LAST_END.REG (endWord n code state aborted)
  let s := s.wr64 SES_LAST_STAMP_LO.STAMP SES_LAST_STAMP_HI.STAMP s.now
  let s := if code < 64 then s.bump SES_CNT_CODE.COUNT code else s
  let s := if code ≥ 0x80 then s.bump SES_CNT_SCRIPT.COUNT else s
  if code = ccPoisoned then s.irq SES_IRQ_STAT.POISON else s

/-- End a session ABORTED with a code: counted, its waiting claims and its WAKE or SHU credit given up, its requests
cancelled in the units that hold them, a decision record not numbered yet withdrawn,
a waiting session call answered (R467), and its end record claimed (R269, R272,
R274, R282); TARGET_RESET and POISONED stop its step (R465). A session that is
committed or already ended is left as it is. -/
def State.abort (s : State) (n code : Nat) (reason : Nat := 0) : State :=
  match s.ctx? n with
  | none => s
  | some c =>
    if !c.openEarly then s
    else
      let x := s.aux n
      let s := if c.state ≤ ssWake then s.giveWithCpl poolWake else s
      let s := if x.shuHeld then s.giveCredit poolShu else s
      let s := if x.arcHeld then s.giveCredit poolArc else s
      let s := { s with ses := { s.ses with claims := s.ses.claims.filter (fun q => q.session ≠ n),
                                            ready := s.ses.ready.filter (· ≠ n) } }
      let s := s.claimStat.wr SES_CORE_STAT.READY (min 0xFFFF s.ses.ready.length)
      let s := s.updCtx n (fun c => { c with state := ssAborted, code := code, tState := s.now, deadline := 0
                                             waitCredit := false, waitPool := 0
                                             pend := setBit (setBit c.pend pendShu false) pendPlt false })
      let failed := decide (c.state ≥ ssChallenge) && (x.failed || code == ccBoundFail || code == ccRelaySuspect)
      let w := s.wordAfter c { x with failed := failed } false
      let upd := decide (c.state ≥ ssChallenge) && w != c.tokenState
      let s := s.updAux n (fun x => { x with endState := c.state, reason := reason, shuHeld := false, arcHeld := false, failed := failed,
                                             recWait := true, recSent := false, plan := [], ptSince := none, orWait := false,
                                             ptWord := if upd then some w else none })
      let s := if failed then s.countFailure n w else s
      let s := if upd then s else s.releaseClaim n c.gen
      let s := s.openRelClear n c.gen
      let s := s.bump SES_CNT_ABORTED.COUNT
      let s := s.bump SES_STATE_ABORT.COUNT c.state
      let s := s.bump SES_PROG_CNT.ABORTED c.prog
      let s := s.noteEnd n code c.state true
      let s := cancelUnits n c.gen s
      let s := { s with plt := { s.plt with
        arcQ := s.plt.arcQ.filter (fun (r : ArcReq) => decide (r.recFor ≠ RecFor.decision n c.gen)) } }
      let s := s.answerCall n code
      let s := if code = ccTargetReset ∨ code = ccPoisoned then s.stopStep n else s
      s.claim n [poolArc]

/-- Cancel a session (R274, R275): CANCEL_PEND is set and it ends at once, and its step is stopped (R465); after the commit point only a count. -/
def State.cancel (s : State) (n code : Nat) (reason : Nat := 0) : State :=
  match s.ctx? n with
  | none => s
  | some c =>
    if c.openEarly then ((s.updCtx n (fun c => { c with cancelPend := true })).abort n code reason).stopStep n
    else if c.committed then (s.bump SES_CNT_LATE_CANCEL.COUNT).irq SES_IRQ_STAT.LATE_CANCEL
    else s

/-- A session that was released, or that released nothing, ends CLOSED (R269). -/
def State.closeSession (s : State) (n code : Nat) : State :=
  let c := s.ctx n
  let s := s.updCtx n (fun c => { c with state := ssClosed, code := code, tState := s.now, deadline := 0 })
  let s := s.updAux n (fun x => { x with endState := c.state })
  let s := s.bump SES_CNT_CLOSED.COUNT
  let s := s.noteEnd n code c.state false
  s.post (s.source 0x08 0) 0 code n (endWord n code c.state false) (c.token + c.arcSeq * 2 ^ 32)

/-! ## Entering the states (R268–R271) -/

/-- Set STATE, T_STATE and DEADLINE. -/
def State.enter (s : State) (n st : Nat) (limitMs : Option Nat) : State :=
  s.updCtx n (fun c => { c with state := st, tState := s.now
                                deadline := match limitMs with
                                  | some ms => s.now + msT (orOne ms)
                                  | none => 0 })

/-- Entry to DECIDE: the SHU credit is claimed when RELEASE is set, and the step becomes ready once it is held. -/
def State.enterDecide (s : State) (n : Nat) : State :=
  let s := s.enter n ssDecide (some (s.rd SES_TO_CFG_C.DECIDE_TO))
  let s := s.updAux n (fun x => { x with paused := 0 })
  if s.progHas n 6 then s.claim n [poolShu]
  else
    let s := { s with ses := { s.ses with ready := s.ses.ready ++ [n] } }
    s.wr SES_CORE_STAT.READY (min 0xFFFF s.ses.ready.length)

/-- Entry to LOCATE, or past it when the program leaves it out. -/
def State.enterLocate (s : State) (n : Nat) : State :=
  let s := s.enter n ssLocate (some (s.rd SES_TO_CFG_B.LOCATE_TO))
  if s.progHas n 5 then s.claim n [poolAlm] else s.enterDecide n

/-- Entry to BOUND, or past it. -/
def State.enterBound (s : State) (n : Nat) : State :=
  let s := s.enter n ssBound (some (s.rd SES_TO_CFG_B.BOUND_TO))
  if s.progHas n 4 then s.claim n [poolDbx] else s.enterLocate n

/-- An anchor takes part in RANGE: VALID in the table and, for a transceiver of this device, ANCHOR_EN 1 (R271). -/
def State.anchorIn (s : State) (a : Nat) : Bool :=
  (match SMap.find s.alm.anchors a with
   | some x => x.valid
   | none => false) &&
  (a / 16 != s.device || s.on TRN_TRX_CTL.ANCHOR_EN (a % 16))

/-- The plan of R271: every anchor in ascending index, N_EXCH exchanges on each. -/
def State.rangePlan (s : State) (n : Nat) : List Nat :=
  let c := s.ctx n
  let k := match s.progOf n with
    | some g => clampTo 1 4 g.nExch
    | none => 1
  ((bitList c.anchors 128).filter s.anchorIn).flatMap (fun a => List.replicate k a)

/-- Anchors that hold an OK result. -/
def State.anchorsOk (s : State) (n : Nat) : Nat := ((s.aux n).ranges.map (·.anchor)).dedup.length

/-- MIN_ANCH of a session's program, 0 selecting 4 with LOCATE and 1 otherwise (R264). -/
def State.minAnch (s : State) (n : Nat) : Nat :=
  match s.progOf n with
  | some g => if g.minAnch = 0 then (if bit g.flags 5 then 4 else 1) else g.minAnch
  | none => 1

/-- The plan of RANGE has ended: on to BOUND with enough anchors, or ABORTED (R269). -/
def State.rangeOver (s : State) (n : Nat) : State :=
  if s.anchorsOk n ≥ s.minAnch n then s.enterBound n
  else
    let f := (s.aux n).fails
    s.abort n (if f ≠ [] ∧ f.all (· == ccRegLimit) then ccRegLimit else ccTimeout)

/-- Entry to RANGE, or past it when ANCHORS is empty. -/
def State.enterRange (s : State) (n : Nat) : State :=
  let s := s.enter n ssRange (some (s.rd SES_TO_CFG_B.RANGE_TO))
  if (s.ctx n).anchors = 0 then s.enterBound n
  else
    let plan := s.rangePlan n
    let s := s.updAux n (fun x => { x with plan := plan, fails := [] })
    if plan.isEmpty then s.rangeOver n else s.claim n [poolTrn]

/-- Entry to CHALLENGE: the key derivation and the nonce are claimed together (R269, R285). -/
def State.enterChallenge (s : State) (n : Nat) : State :=
  let s := s.enter n ssChallenge (some (s.rd SES_TO_CFG_A.CHAL_TO))
  s.claim n [poolDom, poolRng]

/-- Entry to IDENT: the WAKE credit returns and the lookup is claimed. -/
def State.enterIdent (s : State) (n : Nat) : State :=
  let s := s.giveWithCpl poolWake
  let s := s.updCtx n (fun c => c.setPend pendLfp false)
  let s := s.enter n ssIdent (some (s.rd SES_TO_CFG_A.IDENT_WAIT))
  s.claim n [poolEph]

/-- Entry to WAKE: SESSION_MAX runs from here (R270). -/
def State.enterWake (s : State) (n : Nat) : State :=
  (s.enter n ssWake none).updAux n (fun x => { x with tWake := s.now })

/-! ## What a unit's end brings beside its result -/

/-- An exchange ends. A void one may free its queue (R260); a DENIED result of a fallback ends the session before DBX
decides (R191, R221). -/
def State.exchEnd (s : State) (t : Nat) (e : Exch) (code reason : Nat) (tof clkoff : Int) : State :=
  let s := s.exchDone t e code reason tof clkoff
  if e.void then s.freeIfDone e.session
  else if e.dest = .dbx ∧ code = ccDenied then s.abort e.session ccDenied reason
  else s

/-- A bounding request ends; a void one may free its queue (R224, R260). -/
def State.dbxEnd (s : State) (t : Nat) (x : DbxEx) (code reason miss early late err : Nat) (dest : Int) : State :=
  let s := s.dbxDone t x code reason miss early late err dest
  if x.void then s.freeIfDone x.session else s

/-! ## Opening (R258, R261–R263) -/

/-- The queue at the head of the FREE list. -/
def State.freeHead (s : State) : Option Nat :=
  if s.ses.freshFrom < 32768 then some s.ses.freshFrom else s.ses.freeTail.head?

/-- Take the queue at the head of the FREE list. -/
def State.takeHead (s : State) : State :=
  if s.ses.freshFrom < 32768 then { s with ses := { s.ses with freshFrom := s.ses.freshFrom + 1 } }
  else { s with ses := { s.ses with freeTail := s.ses.freeTail.tail } }

/-- The lowest-numbered local anchor of a set, as a transceiver; 0xFF when there is none (R263). -/
def State.localAnchor (s : State) (anchors : Nat) : Nat :=
  (((List.range 16).filter (fun t => bit anchors (16 * s.device + t))).head?).getD 0xFF

/-- The refusals of R262: counted and raised. -/
def State.refuseOpen (s : State) : State := (s.bump SES_CNT_REFUSE.COUNT).irq SES_IRQ_STAT.REFUSE

/-- Open a session of a kind under a program on the head of the FREE list (R263). -/
def State.openOn (s : State) (n kind p : Nat) (zone : Nat) : State :=
  let s := s.takeHead
  let g := SMap.get s.ses.gens n 0
  let gen := if g ≥ 0xFFFF then 1 else g + 1
  let s := { s with ses := { s.ses with gens := SMap.put s.ses.gens n gen } }
  let pr := (s.prog p).getD ⟨zone, 0, 0, 0, 0, 0xFF, 0, 0⟩
  let c : Ctx := { state := ssIdle, prog := p, kind := kind, zone := zone, gen := gen, tOpen := s.now,
                   tState := s.now, prio := bit pr.flags 7, anchors := pr.anchors,
                   boundTrx := if pr.boundTrx = 0xFF then s.localAnchor pr.anchors else pr.boundTrx,
                   pend := if kind ≤ 1 then 1 else 0 }
  let s := { s with ses := { s.ses with ctx := SMap.put s.ses.ctx n c, aux := SMap.put s.ses.aux n {} } }
  let s := { s with trn := { s.trn with seqs := SMap.del s.trn.seqs n } }
  let s := (s.takeCredit poolWake).takeCredit poolCpl
  let s := s.bump SES_CNT_OPEN.COUNT
  let s := s.bump SES_PROG_CNT.OPENED p
  let s := if pr.anchors ≠ 0 then s.prearm n else s
  (s.bindBlock n).sesStat

end Sys2Proof.Machine
end

