-- ==== Sys2Proof/Machine/ShuOps.lean ====
section
/-! DEFINITION. Release sessions: targets, frames, the start and the end of a release, and faults (R310–R332). -/

namespace Sys2Proof.Machine

/-! ## Kinds, reasons, parameters (R311, R316) -/

def rkNone : Nat := 0
def rkOutput : Nat := 1
def rkNode : Nat := 2
def rkPermit : Nat := 3

def rrPassage : Nat := 0
def rrTimeout : Nat := 1
def rrNoSense : Nat := 2
def rrOpen : Nat := 3
def rrShort : Nat := 4
def rrSenseBreak : Nat := 5
def rrSenseShort : Nat := 6
def rrNoAck : Nat := 7
def rrDeparted : Nat := 8
def rrBusOff : Nat := 9
def rrRefused : Nat := 10
def rrLock : Nat := 11
def rrCut : Nat := 12
def rrPower : Nat := 13

/-- PERMIT_TO in units of 0.1 s. -/
def permitTo (v : Nat) : Nat := [50, 100, 200, 300, 600, 1200, 150].getD v 300

/-- The timeout of a release in units of 0.1 s: as asked or the kind's default, within 0.5–120 s (R311). -/
def State.relTo (s : State) (kind target ask : Nat) : Nat :=
  let d := if kind = rkOutput then s.rd SHU_OUT_CFG.REL_TO target
    else if kind = rkNode then max 5 (s.rd SHU_NODE_CFG.NODE_TO)
    else permitTo (s.rd SHU_PERMIT_CFG.PERMIT_TO)
  clampTo 5 1200 (if ask = 0 then d else ask)

/-! ## Tables -/

def State.rel (s : State) (e : Nat) : Option Rel := SMap.find s.shu.rel e

def State.updRel (s : State) (e : Nat) (f : Rel → Rel) : State :=
  { s with shu := { s.shu with rel := SMap.upd s.shu.rel e f } }

def State.outS (s : State) (o : Nat) : OutS := SMap.get s.shu.outs o {}

def State.updOut (s : State) (o : Nat) (f : OutS → OutS) : State :=
  { s with shu := { s.shu with outs := SMap.put s.shu.outs o (f (s.outS o)) } }

/-- Releases of an output that are queued, in order of commit (R318). -/
def State.outQueue (s : State) (o : Nat) : List (Nat × Rel) :=
  sortBy (fun (a b : Nat × Rel) => a.2.arcSeq == b.2.arcSeq || serialBefore 32 a.2.arcSeq b.2.arcSeq)
    (s.shu.rel.filter (fun p => p.2.kind == rkOutput && p.2.target == o && p.2.state == 1))

/-- REL_ACTIVE, QUEUED and RESYNC from the tables. -/
def State.shuStat (s : State) : State :=
  let s := s.wr SHU_STAT.REL_ACTIVE (s.shu.rel.filter (fun p => p.2.state == 2)).length
  let s := s.wr SHU_STAT.RESYNC s.shu.resync.length
  (List.range 16).foldl (fun (a : State) o => a.wr SHU_OUT_STAT.QUEUED (min 4 (a.outQueue o).length) o) s

def State.nodeBit (s : State) (f : Fld) (h : Nat) : Bool := bit (s.rd f (h / 32)) (h % 32)

def State.setNode (s : State) (f : Fld) (h : Nat) (b : Bool) : State :=
  s.wr f (setBit (s.rd f (h / 32)) (h % 32) b) (h / 32)

/-! ## Target check (R312) -/

/-- The code of the first failing line; OK when the target passes. -/
def State.targetCheck (s : State) (kind target : Nat) : Nat :=
  if kind = rkOutput then
    if 16 ≤ target ∨ !s.on SHU_OUT_CFG.EN target then ccDenied
    else if s.rd SHU_OUT_STAT.FAULT target ≠ 0 then ccWireBreak
    else if s.on SHU_OUT_STAT.RUNNING target ∧ (!s.on SHU_OUT_CFG.QUEUE target ∨ 4 ≤ (s.outQueue target).length) then ccBusy
    else ccOk
  else if kind = rkNode then
    let bus := SMap.get s.shu.nodeBus target 0
    if 256 ≤ target ∨ !s.nodeBit SHU_NODE_PRESENT.MAP target ∨ s.nodeBit SHU_NODE_VU.MAP target then ccDenied
    else if s.nodeBit SHU_NODE_FAULT.MAP target ∨ s.rd SHU_CAN_STAT.STATE bus = 2 then ccWireBreak
    else if s.nodeBit SHU_NODE_BUSY.MAP target then ccBusy
    else if s.rd SHU_CAN_CTL.MODE bus = 1 ∨ s.rd SHU_CAN_CTL.MODE bus = 2 then ccDenied
    else ccOk
  else if kind = rkPermit then
    if 20 ≤ target ∨ s.on RAD_TRX_CTL.PARK target ∨ s.on RAD_TRX_STAT.PORT_FAULT target ∨
        !s.on RAD_TRX_CTL.PORT_EN target then ccWireBreak
    else ccOk
  else ccDenied

/-! ## Events (R608) -/

/-- SHU_EVT_CODE and its event. -/
def State.shuEvent (s : State) (kind reason code session : Nat) : State :=
  s.unitEvent 0x09 0 SHU_EVT_CODE.REG SHU_EVT_STAMP_LO.STAMP SHU_EVT_STAMP_HI.STAMP
    (kind * 2 ^ 28 + reason * 2 ^ 24 + code * 2 ^ 16 + session % 2 ^ 15) code session

/-- The RELEASE event of a start or an end. -/
def State.relEvent (s : State) (r : Rel) (kind reason code : Nat) : State :=
  s.post (s.source 0x09 0) 1 code r.session
    (kind * 2 ^ 28 + reason * 2 ^ 24 + code * 2 ^ 16 + r.session % 2 ^ 15)
    (r.arcSeq + (r.kind + r.target * 2 ^ 16) * 2 ^ 32)

/-! ## Outputs (R317, R319) -/

/-- An output's edge. -/
def State.outEdge (s : State) (o : Nat) (b : Bool) : State :=
  if s.on SHU_OUT_STAT.ASSERTED o = b then s
  else (s.flag SHU_OUT_STAT.ASSERTED b o).wr64 SHU_OUT_STAMP_LO.STAMP SHU_OUT_STAMP_HI.STAMP s.now o

/-- The loop stands in the state that PASS_ON selects. -/
def State.inPassState (s : State) (o : Nat) : Bool :=
  s.rd SHU_OUT_STAT.SENSE o == (if s.on SHU_OUT_CFG.PASS_ON o then 0 else 1)

/-! ## Frames to nodes and vehicle units (R326, R327, R330) -/

/-- A REL_CMD: its identifier and its 32 bytes. -/
def State.relCmd (s : State) (r : Rel) : List Byte × State :=
  let msg := padTo (bytesOf [0x10, r.target % 256] ++ leBytes 2 r.toDs ++ leBytes 4 r.arcSeq ++
    leBytes 4 (s.civilMin % 2 ^ 24)) 24
  let (code, tag, s) := s.kceNow 0x09 kKNODE (SMap.get s.shu.nodeId r.target []) msg
  let id := 0x10 * 2 ^ 24 + r.target % 256 * 2 ^ 16 + s.device * 2 ^ 13 + r.seq % 256
  (if code = ccOk then leBytes 4 id ++ msg ++ tag.take 8 else [], s)

/-- Send a release's node command: the first, or the same frame again (R329). -/
def State.sendNode (s : State) (e : Nat) (r : Rel) : State :=
  let (f, s) := s.relCmd r
  let bus := SMap.get s.shu.nodeBus r.target 0
  let s := if f.isEmpty then s else (s.send f).bump SHU_CAN_CNT_TX.COUNT bus
  s.updRel e (fun r => { r with tries := r.tries + 1, sent := s.now })

/-- A permit, or a status query of it: 40 bytes. -/
def State.permitFrame (s : State) (r : Rel) (query : Bool) : List Byte × State :=
  let msg := padTo (bytesOf [0x50, query.toNat, s.device, 0] ++ leBytes 4 r.vuId ++ leBytes 4 (s.ctx r.session).token ++
    leBytes 4 r.arcSeq ++ leBytes 2 r.validDs ++ leBytes 2 0 ++ leBytes 4 (s.civilMin % 2 ^ 24)) 32
  let (code, tag, s) := s.kceNow 0x09 kKVU (leBytes 4 r.vuId) msg
  (if code = ccOk then msg ++ tag.take 8 else [], s)

/-- Airtime of a UHF frame in µs, rounded up (R150, R151). -/
def State.uhfAir (s : State) (t len : Nat) : Nat :=
  let head := 8 * (clampTo 2 64 (s.rd RAD_TRX_UHF_CFG.PREAMBLE t) + (if s.on RAD_TRX_UHF_CFG.SYNC32 t then 4 else 2))
  let body := 8 * ((s.rd RAD_TRX_UHF_CFG.LEN_VAR t) + len + 2 * s.rd RAD_TRX_UHF_CFG.CRC_EN t)
  let sym := head + (if s.on RAD_TRX_UHF_CFG.ENC t then 2 * body else body)
  let rate := uhfRate (s.rd RAD_TRX_UHF_CFG.RATE t)
  (sym * 1000000 + rate - 1) / rate

/-- The request that sends n bytes from a transceiver for Shutter and then listens (R332). -/
def State.permitReq (s : State) (t len : Nat) : RadReq :=
  if t < 16 then
    { owner := owShu, target := rsTransmit, ch9 := s.rd TRN_PHY_CFG.CH9, step := s.rd TRN_PHY_CFG.TX_STEP,
      air := s.trnAir len, follow := rsReceive }
  else
    { owner := owShu, target := rsTransmit, freq := s.rd SHU_UHF_FREQ.FREQ, step := 31,
      air := s.uhfAir t len, follow := rsReceive, mod := s.rd RAD_TRX_UHF_CFG.MOD t, dev := s.rd RAD_TRX_UHF_CFG.DEV t,
      rate := s.rd RAD_TRX_UHF_CFG.RATE t }

/-- SES takes button reception up again on a transceiver (R294): owner SES, in RECEIVE on SHU_UHF_FREQ; one whose
frames have no length or no check is not used, and CFG_BAD is set. -/
def State.btnHold (s : State) (t : Nat) : State :=
  if 16 ≤ t ∧ t < 20 ∧ bit (s.rd SHU_BTN_CFG.BTN_TRX) (t - 16) ∧ s.rep 0x08 = stRun then
    if !s.on RAD_TRX_UHF_CFG.LEN_VAR t ∨ !s.on RAD_TRX_UHF_CFG.CRC_EN t then s.wr SHU_STAT.CFG_BAD 1
    else
      let s := s.grantTrx t owSes
      if s.owner t = owSes ∧ s.trxState t ≠ rsReceive then
        (s.radRequest t { owner := owSes, target := rsReceive, freq := s.rd SHU_UHF_FREQ.FREQ }).2
      else s
  else s

/-- Shutter takes a transceiver: from SES's own reception at once, or by a grant (R278). -/
def State.shuTake (s : State) (t : Nat) : State :=
  if s.owner t = owSes then s.wr RAD_TRX_STAT.OWNER owShu t else s.grantTrx t owShu

/-- Shutter hands a transceiver back, and button reception resumes on it (R294, R332). -/
def State.shuGive (s : State) (t : Nat) : State :=
  if s.owner t = owShu then ((s.frameOver t true).handBack t).btnHold t else s

/-- Send a permit or a status query: the code RAD gives, and the state after. -/
def State.sendPermit (s : State) (e : Nat) (r : Rel) (query : Bool) : Nat × State :=
  let s := s.shuTake r.target
  let q := s.permitReq r.target 40
  let (code, s) := s.radRequest r.target q
  if code ≠ ccOk then (code, s.shuGive r.target)
  else
    let (f, s) := s.permitFrame r query
    let s := (s.send f).bump SHU_CNT_PERMIT_TX.COUNT
    let at' := s.now + usT q.air
    let s := if query then { s with shu := { s.shu with polled := SMap.put s.shu.polled e s.now } }
      else s.updRel e (fun r => { r with tries := r.tries + 1, sent := at' })
    (ccOk, s)

/-! ## The end of a release (R316–R318) -/

/-- Body of a closing record (R528). -/
def relBody (r : Rel) (reason now : Nat) : List Byte :=
  let dur := if r.started then min (2 ^ 32 - 1) ((now - r.tStart) / 63897600) else 0
  leBytes 4 r.arcSeq ++ bytesOf [r.kind, reason] ++ leBytes 2 r.target ++ leBytes 4 dur ++
    leBytes 4 (if r.kind = rkPermit then r.vuId else 0) ++ leBytes 8 (if r.started then r.tStart else 0)

/-- A release session, or a queued release, ends: the output is deasserted, the closing record is requested, and the end
is counted and posted. -/
def State.endRel (s : State) (e code reason : Nat) : State :=
  match s.rel e with
  | none => s
  | some r =>
    if r.state = 3 then s
    else
      let run := decide (r.state = 2)
      let s := s.updRel e (fun r => { r with state := 3, code := code, reason := reason })
      let s := if r.kind = rkOutput then
          let s := if run then
              ((s.outEdge r.target false).flag SHU_OUT_STAT.RUNNING false r.target).updOut r.target
                (fun x => { x with endAt := s.now })
            else s
          let s := (s.wr SHU_OUT_STAT.CODE code r.target).wr SHU_OUT_STAT.REASON reason r.target
          if code = ccOk then s.bump SHU_OUT_CNT_PASS.COUNT r.target
          else if code = ccTimeout then s.bump SHU_OUT_CNT_TIMEOUT.COUNT r.target else s
        else if r.kind = rkNode then s.setNode SHU_NODE_BUSY.MAP r.target false
        else s.shuGive r.target
      let s := if code = ccOk then s.bump SHU_CNT_PASS.COUNT
        else if code = ccTimeout then (s.bump SHU_CNT_REL_TIMEOUT.COUNT).irq SHU_IRQ_STAT.REL_TIMEOUT
        else if code = ccWireBreak then s.bump SHU_CNT_REL_FAULT.COUNT else s
      let s := s.irq SHU_IRQ_STAT.REL_END
      let s := s.shuEvent 2 reason code r.session
      let s := s.relEvent r 2 reason code
      let s := s.archive recClose code (s.source 0x09 0) r.session (relBody r reason s.now) (.closing r.session r.gen)
      s.shuStat

/-- Mark a node FAULT (R329). -/
def State.nodeFault (s : State) (h : Nat) : State :=
  (s.setNode SHU_NODE_FAULT.MAP h true).irq SHU_IRQ_STAT.NODE_FAULT

/-- A node departs (R329, R655): its release ends. -/
def State.nodeDeparts (s : State) (h : Nat) : State :=
  match SMap.first s.shu.rel (fun _ r => r.kind == rkNode && r.target == h && r.state == 2) with
  | some (e, _) => s.endRel e ccWireBreak rrDeparted
  | none => s

/-- An output enters FAULT (R321): deasserted; its running release and every queued one end; archived. -/
def State.outFault (s : State) (o fault reason : Nat) : State :=
  if s.rd SHU_OUT_STAT.FAULT o ≠ 0 then s
  else
    let s := (s.wr SHU_OUT_STAT.FAULT fault o).bump SHU_OUT_CNT_FAULT.COUNT o
    let s := (s.irq SHU_IRQ_STAT.OUT_FAULT).outEdge o false
    let s := s.updOut o (fun x => { x with absent := none, test := 0 })
    let s := (s.wr SHU_OUT_CTL.TEST 0 o)
    let s := s.shuEvent 3 reason ccWireBreak 0
    let s := s.archiveEvent 0x09 o (3 * 2 ^ 28 + reason * 2 ^ 24 + ccWireBreak * 2 ^ 16) [] ccWireBreak
    let mine := s.shu.rel.filter (fun p => p.2.kind == rkOutput && p.2.target == o && p.2.state ≤ 2)
    mine.foldl (fun (a : State) p => a.endRel p.1 ccWireBreak reason) s

/-! ## The start of a release (R313, R316) -/

/-- The action of a release: the assertion, the first command or the first permit. -/
def State.startRel (s : State) (e : Nat) : State :=
  match s.rel e with
  | none => s
  | some r =>
    if r.state ≠ 1 then s
    else
      let s := s.updRel e (fun r => { r with state := 2, tStart := s.now, started := true, seq := SMap.get s.shu.nodeSeq r.target 0 })
      let s := s.bump SHU_CNT_REL.COUNT
      let s := s.relEvent r 0 0 0
      let r := (s.rel e).getD r
      let s := if r.kind = rkOutput then
          let o := r.target
          let s := ((s.outEdge o true).flag SHU_OUT_STAT.RUNNING true o).bump SHU_OUT_CNT_REL.COUNT o
          s.updOut o (fun x => { x with onAt := s.now, left := !s.inPassState o })
        else if r.kind = rkNode then
          let s := { s with shu := { s.shu with nodeSeq := SMap.put s.shu.nodeSeq r.target ((r.seq + 1) % 256) } }
          (s.setNode SHU_NODE_BUSY.MAP r.target true).sendNode e r
        else
          let (code, s) := s.sendPermit e r false
          if code = ccRegLimit then s.endRel e ccRegLimit rrLock
          else if code = ccOk then s
          else s.updRel e (fun r => { r with tries := r.tries + 1, sent := s.now })
      s.shuStat

/-- A release handed over by its session at the commit of the decision record (R269, R313): a table entry. -/
def State.addRel (s : State) (n : Nat) : State :=
  let c := s.ctx n
  let p := (s.aux n).relParam
  match (List.range 256).find? (fun e => (s.rel e).isNone) with
  | none => s
  | some e =>
    let r : Rel := { state := 1, kind := c.relKind, target := c.relTarget, session := n, gen := c.gen, arcSeq := c.arcSeq,
                     toDs := s.relTo c.relKind c.relTarget (p.getD 0 0), validDs := p.getD 1 0, vuId := p.getD 2 0 }
    { s with shu := { s.shu with rel := SMap.put s.shu.rel e r } }.shuStat

/-- The confirmed test record of an output: it is pulsed (R322). -/
def State.testConfirmed (s : State) (o : Nat) : State :=
  if (s.outS o).test = 1 then
    (s.outEdge o true).updOut o (fun x => { x with test := 2, onAt := s.now })
  else s

/-- A unit reset of SHU (R333). -/
def State.shuUnitReset (s : State) : State :=
  let live := s.shu.rel.filter (fun p => p.2.state ≤ 2)
  let s := live.foldl (fun (a : State) p => a.endRel p.1 ccTargetReset rrCut) s
  let s := (List.range 16).foldl (fun (a : State) o =>
    ((a.outEdge o false).wr SHU_OUT_CTL.TEST 0 o).updOut o (fun x => { x with test := 0 })) s
  let s := s.ownerReset owShu
  { s with shu := { s.shu with kept := [], resync := [], polled := [] } }.shuStat

end Sys2Proof.Machine
end

