-- ==== Sys2Proof/Machine/Finder.lean ====
section
/-! DEFINITION. MGT's events and Finder: the node table of lock nodes and vehicle units (R653–R657). -/

namespace Sys2Proof.Machine

/-- MGT_EVT_CODE and its event. -/
def State.mgtEvent (s : State) (kind cause unit handle : Nat) : State :=
  s.unitEvent 0x15 0 MGT_EVT_CODE.REG MGT_EVT_STAMP_LO.STAMP MGT_EVT_STAMP_HI.STAMP
    (kind * 2 ^ 28 + cause * 2 ^ 24 + unit * 2 ^ 16 + handle)

def meAttach : Nat := 1
def meDepart : Nat := 2
def meRefuse : Nat := 3
def meRecon : Nat := 4
def meGaveUp : Nat := 5
def meTemp : Nat := 6

/-! ## The node table -/

def State.fnd (s : State) (h : Nat) : Option FndNode := SMap.find s.mgt.nodes h

def State.putFnd (s : State) (h : Nat) (x : FndNode) : State :=
  { s with mgt := { s.mgt with nodes := SMap.put s.mgt.nodes h x } }

def State.delFnd (s : State) (h : Nat) : State :=
  { s with mgt := { s.mgt with nodes := SMap.del s.mgt.nodes h } }

/-- MGT_FND_STAT.PRESENT from the table. -/
def State.fndStat (s : State) : State :=
  s.wr MGT_FND_STAT.PRESENT (s.mgt.nodes.filter (fun p => p.2.state == 2)).length

/-- Finder runs on a controller, and the controller is in NORMAL mode and on its bus (R654, R657). -/
def State.fndOn (s : State) (bus : Nat) : Bool :=
  decide (bus < 2) && bit (s.rd MGT_FND_CFG.BUS_EN) bus && s.on SHU_CAN_CTL.EN bus &&
    s.rd SHU_CAN_CTL.MODE bus == 0 && s.rd SHU_CAN_STAT.STATE bus != 2

/-- The identifier of a Finder frame (R326, R653). -/
def State.fndId (s : State) (typ handle : Nat) : Nat := typ * 2 ^ 24 + handle * 2 ^ 16 + s.device * 2 ^ 13

/-- CHECK of R653: under KNODE of NODE_ID for a lock node, under KVU of NODE_ID [31:0] for a vehicle unit. -/
def State.fndCheck (s : State) (x : FndNode) (msg : List Byte) : Nat × List Byte × State :=
  let (code, tag, s) :=
    if x.kind = 0 then s.kceNow 0x09 kKNODE (leBytes 8 x.nodeId) msg
    else s.kceNow 0x09 kKVU (leBytes 4 x.nodeId) msg
  (code, tag.take 8, s)

/-- A refusal: counted, and recorded as the event. -/
def State.fndRefuse (s : State) (h : Nat) : State := (s.bump MGT_CNT_REFUSE.COUNT).mgtEvent meRefuse 0 0 h

/-- The node's frame keeps it PRESENT (R656). -/
def State.fndHeard (s : State) (bus h : Nat) : State :=
  match s.fnd h with
  | some x => if x.state = 2 ∧ x.bus = bus then s.putFnd h { x with heard := s.now } else s
  | none => s

/-- An attach or a departure is archived with NODE_ID, handle and cause, and posted (R656). -/
def State.fndArchive (s : State) (h : Nat) (x : FndNode) (kind cause : Nat) : State :=
  let s := s.mgtEvent kind cause 0 h
  let s := s.archiveEvent 0x15 0 (s.word MGT_EVT_CODE.REG) (leBytes 8 x.nodeId ++ bytesOf [h, cause])
  s.irq MGT_IRQ_STAT.NODE

/-- CAUSE of a departure. -/
def dcLeave : Nat := 0
def dcSilent : Nat := 1
def dcBusOff : Nat := 2
def dcRestart : Nat := 3

/-- A PRESENT handle departs (R656): its release ends under R329, and the handle stays reserved for its NODE_ID. -/
def State.fndDepart (s : State) (h cause : Nat) : State :=
  match s.fnd h with
  | none => s
  | some x =>
    if x.state ≠ 2 then s
    else
      let s := s.nodeDeparts h
      let s := (s.putFnd h { x with state := 3 }).fndStat
      let s := (s.setNode SHU_NODE_PRESENT.MAP h false).bump MGT_CNT_DEPART.COUNT
      s.fndArchive h x meDepart cause

/-- The handle for a NODE_ID (R655): the one it last held since device reset if it is free or kept for it, else the
lowest free one. -/
def State.fndHandle (s : State) (nodeId : Nat) : Option Nat :=
  let usable := fun (h : Nat) => match s.fnd h with
    | none => true
    | some x => decide (x.nodeId = nodeId ∧ x.state ≠ 2)
  match s.mgt.lastHandle.find? (fun p => p.1 == nodeId) with
  | some (_, h) => if usable h then some h else (List.range 256).find? (fun k => (s.fnd k).isNone)
  | none => (List.range 256).find? (fun k => (s.fnd k).isNone)

/-- ASSIGN to a node under a handle (R653, R655). -/
def State.fndAssign (s : State) (bus nodeId kind ver nonce : Nat) : State :=
  match s.fndHandle nodeId with
  | none => (s.fndRefuse 0xFF).wr MGT_FND_STAT.FULL 1
  | some h =>
    let x : FndNode := { nodeId := nodeId, kind := kind, bus := bus, ver := ver, state := 1,
                         dnonce := s.now % 2 ^ 32, since := s.now, heard := s.now,
                         ctr := match s.fnd h with
                           | some y => y.ctr
                           | none => none }
    let msg := leBytes 8 nodeId ++ bytesOf [h, bus, 0, 0] ++ leBytes 4 nonce ++ leBytes 4 x.dnonce ++ leBytes 4 0
    let (code, tag, s) := s.fndCheck x msg
    let s := s.putFnd h x
    if code ≠ ccOk then s
    else (s.send (leBytes 4 (s.fndId 0x01 h) ++ msg ++ tag)).bump SHU_CAN_CNT_TX.COUNT bus

/-- ANNOUNCE (R655), judged by the first line that applies. A NODE_ID that is being assigned starts afresh. -/
def State.announce (s : State) (bus nodeId kind ver nonce : Nat) : State :=
  if !s.fndOn bus then s
  else
    let twice := match SMap.find s.mgt.ann (1 - bus) with
      | some (q, at') => decide (q = nodeId ∧ at' = s.now)
      | none => false
    if 1 < kind ∨ (kind = 1 ∧ nodeId / 2 ^ 32 ≠ 0) then s.fndRefuse 0xFF
    else if twice then s.bump MGT_CNT_DUP.COUNT
    else
      let s := { s with mgt := { s.mgt with ann := SMap.put s.mgt.ann bus (nodeId, s.now) } }
      let s := match SMap.first s.mgt.nodes (fun _ x => x.nodeId == nodeId && x.state == 2) with
        | some (h, _) => s.fndDepart h dcRestart
        | none =>
          match SMap.first s.mgt.nodes (fun _ x => x.nodeId == nodeId && x.state == 1) with
          | some (h, _) => s.delFnd h
          | none => s
      s.fndAssign bus nodeId kind ver nonce

def execAnnounce (t bus nodeId kind ver nonce : Nat) (s : State) : Answer := happen t s (fun s =>
  s.announce bus (nodeId % 2 ^ 64) (kind % 256) (ver % 256) (nonce % 2 ^ 32))

/-- A node of handle h is adopted: PRESENT, its identity and bus kept for Shutter, counted and archived. -/
def State.fndAdopt (s : State) (bus h : Nat) (x : FndNode) : State :=
  let x := { x with state := 2, heard := s.now }
  let s := (s.putFnd h x).fndStat
  let s := { s with
    mgt := { s.mgt with lastHandle := (x.nodeId, h) :: s.mgt.lastHandle.filter (fun p => p.1 != x.nodeId) }
    shu := { s.shu with nodeId := SMap.put s.shu.nodeId h (leBytes 8 x.nodeId)
                        nodeBus := SMap.put s.shu.nodeBus h bus } }
  let s := (s.setNode SHU_NODE_PRESENT.MAP h true).setNode SHU_NODE_VU.MAP h (x.kind == 1)
  let s := (s.setNode SHU_NODE_FAULT.MAP h false).bump MGT_CNT_ATTACH.COUNT
  s.fndArchive h x meAttach 0

/-- A CONFIRM (R655): bytes 0–15 of the frame. A wrong one frees the handle and counts a refusal. -/
def State.fndConfirm (s : State) (bus h : Nat) (f : List Byte) : State :=
  match s.fnd h with
  | none => s
  | some x =>
    if x.state ≠ 1 ∨ x.bus ≠ bus ∨ !s.fndOn bus ∨ s.now > x.since + msT (orOne (s.rd MGT_FND_CFG.ASSIGN_TO)) then s
    else
      let form := f.length == 16 && leAt f 0 1 == h && leAt f 1 3 == 0 && leAt f 4 4 == x.dnonce
      let (code, tag, s) := s.fndCheck x (slice f 0 8)
      if !form ∨ code ≠ ccOk ∨ tag ≠ slice f 8 8 then (s.delFnd h).fndRefuse h
      else s.fndAdopt bus h x

def execConfirm (t bus h : Nat) (frame : List Byte) (s : State) : Answer := happen t s (fun s =>
  s.fndConfirm bus h frame)

/-- ASSIGN_TIMEOUT (R655). -/
def execAssignTimeout (t h : Nat) (s : State) : Answer := happen t s (fun s =>
  match s.fnd h with
  | some x =>
    if x.state = 1 ∧ s.now > x.since + msT (orOne (s.rd MGT_FND_CFG.ASSIGN_TO)) then (s.delFnd h).fndRefuse h else s
  | none => s)

/-- BEAT (R656): it keeps the node PRESENT and clears its FAULT (R329). -/
def execBeat (t bus h : Nat) (s : State) : Answer := happen t s (fun s =>
  match s.fnd h with
  | some x =>
    if x.state = 2 ∧ x.bus = bus ∧ s.fndOn bus then (s.fndHeard bus h).setNode SHU_NODE_FAULT.MAP h false else s
  | none => s)

/-- A LEAVE of an adopted node whose bus is right: judged by its counter and its check value. -/
def State.leaveTaken (s : State) (h : Nat) (x : FndNode) (frame : List Byte) : State :=
  let s := s.fndHeard x.bus h
  let ctr := leAt frame 4 4
  let form := frame.length == 16 && leAt frame 0 1 == h && leAt frame 1 3 == 0 &&
    (match x.ctr with
     | some c => decide (c < ctr)
     | none => true)
  let (code, tag, s) := s.fndCheck x (slice frame 0 8)
  if !form ∨ code ≠ ccOk ∨ tag ≠ slice frame 8 8 then s
  else (s.putFnd h { x with ctr := some ctr }).fndDepart h dcLeave

/-- LEAVE (R654, R656): correct with its check right and CTR above every earlier one. -/
def execLeave (t bus h : Nat) (frame : List Byte) (s : State) : Answer := happen t s (fun s =>
  match s.fnd h with
  | none => s
  | some x =>
    if x.state ≠ 2 ∨ x.bus ≠ bus ∨ !s.fndOn bus then s
    else s.leaveTaken h x frame)

/-- DEPARTURE (R656): DEPART_N × HB_MS without any frame. A BEAT in the same clock comes first. -/
def execDeparture (t h : Nat) (s : State) : Answer := happen t s (fun s =>
  match s.fnd h with
  | some x =>
    let span := msT (max 2 (s.rd MGT_FND_CFG.DEPART_N) * max 10 (s.rd MGT_FND_CFG.HB_MS))
    if x.state = 2 ∧ s.now ≥ x.heard + span then s.fndDepart h dcSilent else s
  | none => s)

/-- Every PRESENT handle of a controller departs when it goes bus-off (R656). -/
def State.fndBusOff (s : State) (bus : Nat) : State :=
  (s.mgt.nodes.filter (fun p => p.2.state == 2 && p.2.bus == bus)).foldl (fun (a : State) p => a.fndDepart p.1 dcBusOff) s

/-- PROBE on each enabled controller (R657). -/
def State.fndProbe (s : State) : State :=
  (List.range 2).foldl (fun (a : State) bus =>
    if a.fndOn bus then (a.send (leBytes 4 (a.fndId 0x05 0xFF))).bump SHU_CAN_CNT_TX.COUNT bus else a) s

def execProbe (t : Nat) (s : State) : Answer := happen t s State.fndProbe

/-- A unit reset of SHU empties the node table, with every departure archived (R657). CAUSE has no value for it, and
the model gives RESTART. -/
def State.fndUnitReset (s : State) : State :=
  let s := (s.mgt.nodes.filter (fun p => p.2.state == 2)).foldl (fun (a : State) p => a.fndDepart p.1 dcRestart) s
  { s with mgt := { s.mgt with nodes := [] }, shu := { s.shu with nodeId := [], nodeBus := [], nodeSeq := [] } }.fndStat

end Sys2Proof.Machine
end

