-- ==== Sys2Proof/Machine/Dom.lean ====
section
/-! DEFINITION. DOM: envelopes and their verification, nonces, attestation, derivation, the working key and generated
keys (R376–R396). What an accepted envelope does stands in Envelope.lean. -/

namespace Sys2Proof.Machine

/-! ## Envelope fields (R390, R391) -/

def DomEnv.typ (e : DomEnv) : Nat := leAt e.bytes 3 1
def DomEnv.flags (e : DomEnv) : Nat := leAt e.bytes 4 1
def DomEnv.len (e : DomEnv) : Nat := leAt e.bytes 6 2
def DomEnv.seq (e : DomEnv) : Nat := leAt e.bytes 16 4
def DomEnv.nonce (e : DomEnv) : Nat := leAt e.bytes 20 4
def DomEnv.notAfter (e : DomEnv) : Nat := leAt e.bytes 24 4
/-- n bytes of the payload from k, as a number. -/
def DomEnv.pay (e : DomEnv) (k n : Nat) : Nat := leAt e.bytes (32 + k) n

def envVendor : Nat := 0x0
def envCommission : Nat := 0x1
def envField : Nat := 0x2
def envDecommission : Nat := 0x3
def envMigrate : Nat := 0x4
def envRekey : Nat := 0x5
def envPolicy : Nat := 0x6
def envLockSet : Nat := 0x7
def envEphChange : Nat := 0x8
def envEphAdopt : Nat := 0x9
def envEphTemplate : Nat := 0xA
def envTime : Nat := 0xB
def envView : Nat := 0xC
def envMonitor : Nat := 0xD
def envUnit : Nat := 0xE

/-- The payload length of each TYPE (R391). -/
def envLen (typ : Nat) : Nat := [0, 104, 0, 0, 20, 32, 8, 288, 144, 32, 24, 12, 8, 4, 4].getD typ 0

/-- The life-cycle states that permit a TYPE, as a list of values (R391). -/
def envStates (typ : Nat) : List Nat :=
  [[1], [2], [3], [1, 2, 3, 4], [2, 3, 4], [3, 4], [3, 4], [1, 2, 3, 4], [3, 4], [3, 4], [3, 4], [3, 4],
   [1, 2, 3, 4], [3, 4], [1, 2, 3, 4]].getD typ []

/-- TYPES that KCOMM may check (R391). -/
def envComm (typ : Nat) : Bool := [6, 7, 0xB, 0xC, 0xD].contains typ

/-- TYPES bound to DOM_NONCE, and the one bound to MER_TIME_NONCE; the rest carry SEQ. -/
def envByNonce (typ : Nat) : Bool := [0xC, 0xD, 0xE].contains typ

/-! ## The lock set's format (R155, R156) -/

/-- A UWB entry at an offset of a lock set. -/
def uwbEntryOk (l : List Byte) (o : Nat) : Bool :=
  let permit := leAt l o 1
  decide (permit ≤ 1) && leAt l (o + 6) 2 == 0 &&
  (permit == 0 || (decide (leAt l (o + 1) 1 ≤ 63) && decide (leAt l (o + 2) 2 ≤ 10000)))

/-- A UHF entry at an offset of a lock set. -/
def uhfEntryOk (l : List Byte) (o : Nat) : Bool :=
  let flags := leAt l (o + 9) 1
  let lo := leAt l o 4
  let hi := leAt l (o + 4) 4
  decide (flags < 8) && leAt l (o + 14) 2 == 0 &&
  (!bit flags 0 || (decide (300000 ≤ lo) && decide (lo ≤ 960000) && decide (lo ≤ hi) && decide (hi ≤ 960000) &&
    decide (leAt l (o + 8) 1 ≤ 31) && decide (leAt l (o + 10) 2 ≤ 10000)))

/-- Every field of a lock set lies in its range. An upper UHF edge is held to the range of the lower one (log entry
15). -/
def lockSetOk (l : List Byte) : Bool :=
  leAt l 0 2 == 0x4B4C && leAt l 2 2 == 1 && decide (leAt l 8 2 ≤ leAt l 10 2) && leAt l 12 4 == 0 &&
  (List.range 64).all (fun c => decide (leAt l (16 + 2 * c) 2 ≤ 4000)) &&
  uwbEntryOk l 144 && uwbEntryOk l 152 && (List.range 8).all (fun b => uhfEntryOk l (160 + 16 * b))

/-! ## Verification (R393) -/

/-- Check 1: MAGIC, VERSION, LEN, reserved bytes, TYPE and COMM. LEN is the payload length of the TYPE. -/
def DomEnv.formatOk (e : DomEnv) : Bool :=
  leAt e.bytes 0 2 == 0x4E45 && leAt e.bytes 2 1 == 1 && decide (e.typ < 0xF) && decide (e.flags ≤ 1) &&
  leAt e.bytes 5 1 == 0 && e.len == envLen e.typ && leAt e.bytes 27 1 == 0 && leAt e.bytes 28 4 == 0 &&
  (e.flags == 0 || envComm e.typ)

/-- Check 8: the payload's fields in range (R391, R155, R348, R360, R398). -/
def DomEnv.payloadOk (e : DomEnv) : Bool :=
  let z := fun (k n : Nat) => e.pay k n == 0
  match e.typ with
  | 0x1 => z 99 5 && decide (e.pay 96 2 < 2 ^ 12) && decide (e.pay 98 1 < 64)
  | 0x4 => decide (e.pay 16 4 < 64)
  | 0x6 => z 3 5 && decide (e.pay 0 2 < 2 ^ 12) && decide (e.pay 2 1 < 64)
  | 0x7 => lockSetOk (slice e.bytes 32 288) && e.pay 4 4 == e.seq
  | 0x8 => decide (3 ≤ e.pay 0 1) && decide (e.pay 0 1 ≤ 7) && decide (e.pay 1 1 ≤ 1) && z 2 2 && z 7 1
  | 0x9 => decide (e.pay 0 1 ≤ 1) && z 3 1 && z 12 4 && decide (1 ≤ e.pay 1 1) && decide (e.pay 1 1 ≤ 8) &&
      decide (e.pay 2 1 < e.pay 1 1)
  | 0xA => decide (e.pay 0 1 < 16) && decide (e.pay 1 1 ≤ 1) && decide (e.pay 3 1 < 8) && decide (e.pay 6 1 ≤ 1) &&
      z 7 1 && z 20 4
  | 0xB => decide (e.pay 9 1 < 4) && z 10 2
  | 0xC => decide (e.pay 0 1 < 5) && e.pay 0 1 != 1 && z 1 1 && decide (1 ≤ e.pay 2 2) && decide (e.pay 2 2 ≤ 3600)
  | 0xD => decide (e.pay 2 1 ≤ 1) && z 3 1
  | 0xE => decide (e.pay 1 1 ≤ 1) && z 2 2 && (e.pay 0 1 == stRun || e.pay 0 1 == stQuiesce || e.pay 0 1 == stHalt)
  | _ => true

/-- The nonces still live: 10 s after their read (R395). -/
def State.liveNonces (s : State) : List (Nat × Nat) := s.dom.nonces.filter (fun n => decide (s.now ≤ n.2 + secT 10))

/-- MER's nonce is still live (R63). -/
def State.merNonceLive (s : State) (v : Nat) : Bool :=
  match s.mer.nonce with
  | some (w, at') => v != 0 && w == v && decide (s.now ≤ at' + secT 10)
  | none => false

/-- Check 6: SEQ above the last accepted, or the nonce live; a lock set's SEQ is that of R155. -/
def State.freshOk (s : State) (e : DomEnv) : Bool :=
  if e.typ = envTime then s.merNonceLive e.nonce
  else if envByNonce e.typ then e.nonce != 0 && s.liveNonces.any (fun n => n.1 == e.nonce)
  else decide (e.seq > s.rd DOM_ENV_SEQ.SEQ e.typ)

/-- The decommission key of the present state is marginal in both copies (R394). -/
def State.kdcMarginal (s : State) : Bool :=
  let w := if s.lc = lcVendor then 0x520 else 0x524
  (List.range 4).any (fun k => s.fuseQual (w + k) == 3)

/-- Check 7: the code of the computation, whether CHECK is right, and the state after (R379, R390, R394). -/
def State.envMac (s : State) (e : DomEnv) : Nat × Bool × State :=
  let msg := slice e.bytes 0 (32 + e.len)
  let want := slice e.bytes (32 + e.len) 16
  let dec := decide (e.typ = envDecommission) && s.lc != lcBlank && !s.kdcMarginal
  let cls := if dec then (if s.lc = lcVendor then kKDCV else kKDCA) else kKENV
  let exempt := e.typ == envPolicy || e.typ == envDecommission || e.typ == envUnit
  let (code, tag, s) := s.kceNow 0x0B cls (bytesOf [e.typ, e.flags]) msg exempt (e.typ == envDecommission)
  (code, code == ccOk && tag == want, s)

/-- Check 9: the preconditions of R392. -/
def State.envPre (s : State) (e : DomEnv) : Nat :=
  match e.typ with
  | 0x0 =>
    if s.rd RNG_STAT.SOURCE ≠ rngOk then ccRngHealth
    else if s.on RNG_STAT.PATTERN ∨ (List.range 9).any (fun k => s.fuseWord k != 0) then ccPrecondition
    else ccOk
  | 0x1 => if s.dom.exportDone then ccOk else ccPrecondition
  | 0x2 =>
    if !s.on RAD_STAT.LOCK_VALID then ccPrecondition
    else if s.rd DOM_TAMPER_STAT.LATCH ≠ 0 then ccTamper
    else if s.fuse.qual.any (fun q => q.2 ≥ 2 && (decide (q.1 ≤ 0xB) || (decide (0x520 ≤ q.1) && decide (q.1 ≤ 0x527))))
      then ccFuseMarginal
    else ccOk
  | 0x4 => if e.pay 16 4 ≥ s.rd DOM_VER.FLOOR then ccOk else ccEnvelopeBad
  | _ => ccOk

/-- The checks of R393 in their order: REASON (0 when accepted), code, and the state after. -/
def State.envCheck (s : State) (e : DomEnv) : Nat × Nat × State :=
  let min24 := s.civilMin % 2 ^ 24
  if !e.formatOk then (1, ccEnvelopeBad, s)
  else if leAt e.bytes 8 8 ≠ s.devid then (2, ccEnvelopeBad, s)
  else if !(envStates e.typ).contains s.lc ∨ (s.on DOM_STAT.NO_BANK ∧ e.typ ≠ envDecommission) ∨
      (e.flags = 1 ∧ s.lc ≠ lcCommissioned) then (3, ccLifecycle, s)
  else if s.on DOM_STAT.HALT ∧ e.typ ≠ envPolicy ∧ e.typ ≠ envDecommission ∧ e.typ ≠ envUnit then (4, ccTamper, s)
  else if e.notAfter ≠ 0 ∧ serialBefore 24 e.notAfter min24 then (5, ccEnvelopeBad, s)
  else if !s.freshOk e then (6, ccEnvelopeBad, s)
  else
    let (code, ok, s) := s.envMac e
    if code ≠ ccOk then (7, code, s)
    else if !ok then (7, ccEnvelopeBad, s)
    else if !e.payloadOk then (8, ccEnvelopeBad, s)
    else if s.envPre e ≠ ccOk then (9, s.envPre e, s)
    else (0, ccOk, s)

/-! ## Queues and outcomes (R396) -/

/-- DOM_STAT and DOM_ENV_QUEUE from the queues. -/
def State.envStat (s : State) : State :=
  let n := fun (p : Nat) => (s.dom.queue.filter (fun e => e.port == p)).length
  let s := s.wr DOM_STAT.QUEUED s.dom.queue.length
  let s := s.flag DOM_STAT.BUSY (s.dom.job.isSome || s.dom.pend.isSome)
  s.wr DOM_ENV_QUEUE.DEPTH ((List.range 5).foldl (fun a p => a + n p * 8 ^ p) 0)

/-- The monitor's ENV completes with the result of its envelope (R660). -/
def State.eyeEnvDone (s : State) (code w : Nat) : State :=
  let s := { s with eye := { s.eye with busy := false } }
  let s := (s.wr EYE_STAT.BUSY 0).wr EYE_LAST.CODE code
  (s.answerWord 2 w).send (leBytes 4 w)

/-- Report an envelope's outcome to its port: DOM_ENV_RESULT, and the core's own result for port 4. -/
def State.envResult (s : State) (port typ code reason : Nat) : State :=
  let w := code * 2 ^ 24 + reason * 2 ^ 20 + typ * 2 ^ 16 + min port 4 * 2 ^ 13
  let s := s.wrWord DOM_ENV_RESULT.REG w
  let s := s.answerCode (min port 4) code
  let s := if port = 2 ∧ s.eye.busy then s.eyeEnvDone code w else s
  if port ≥ 4 then s.updCore (port - 4) (fun k => { k with envResult := w }) else s

/-- Ports of envelopes: 0–3 as in R396; the cores share port 4, and an envelope of core c carries 4 + c. -/
def envPort (port : Nat) : Nat := min port 4

/-- Queue an envelope on a port; a fifth completes with BUSY (R396). -/
def State.envQueue (s : State) (port : Nat) (bytes : List Byte) : State :=
  if (s.dom.queue.filter (fun e => envPort e.port == envPort port)).length ≥ 4 then s.envResult port 0 ccBusy 0
  else
    let s := { s with dom := { s.dom with queue := s.dom.queue ++ [(⟨port, padTo bytes 4096⟩ : DomEnv)] } }
    s.envStat

/-- A refused envelope consumes nothing; it is counted, and the first refusal of a Meridian second is archived with the
count of the second before (R393). -/
def State.envRefuse (s : State) (e : DomEnv) (code reason : Nat) : State :=
  let s := (s.bump DOM_CNT_ENV.BAD).irq DOM_IRQ_STAT.ENV_BAD
  let s := (s.envResult e.port (e.typ % 16) code reason).domEvent 1 (e.typ % 16) code
  let sec := s.now / secT 1
  if sec = s.dom.badSec ∧ s.dom.badNow > 0 then { s with dom := { s.dom with badNow := s.dom.badNow + 1 } }
  else
    let prev := if sec = s.dom.badSec + 1 then s.dom.badNow else 0
    let s := { s with dom := { s.dom with badSec := sec, badNow := 1, badPrev := prev } }
    s.archiveEvent 0x0B 0 (s.word DOM_EVT_CODE.REG) (leBytes 4 prev) code

/-- The next envelope in round-robin order of the ports: the oldest of the first port after the one served last that has
one (R396). -/
def State.envNext (s : State) : Option DomEnv :=
  ((List.range 5).map (fun k => (s.dom.lastPort + 1 + k) % 5)).findSome?
    (fun p => s.dom.queue.find? (fun e => envPort e.port == p))

/-- An envelope leaves the queue. -/
def State.envPop (s : State) (e : DomEnv) : State :=
  ({ s with dom := { s.dom with queue := s.dom.queue.erase e, lastPort := envPort e.port } }).envStat

/-- An accepted TIME envelope ends at once: counted, its result, event and archive record (R393). -/
def State.envTimed (s : State) (e : DomEnv) : State :=
  let s := (s.bump DOM_CNT_ENV.OK).irq DOM_IRQ_STAT.ENV_OK
  let s := (s.envResult e.port e.typ ccOk 0).domEvent 1 e.typ ccOk
  s.archiveEvent 0x0B 0 (s.word DOM_EVT_CODE.REG)

/-- An accepted envelope becomes the job of Dome, whose first commit is issued: of a life-cycle envelope the pending
record, of any other the consuming commit. -/
def State.envAccept (s : State) (e : DomEnv) : State :=
  let life := decide (e.typ ≤ envDecommission)
  let s := { s with dom := { s.dom with
    job := some { port := e.port, typ := e.typ, bytes := e.bytes, stage := if life then 1 else 0 } } }
  (s.domWrite (if life then domPending else domEnvelope)).envStat

/-- Take up the next envelope when it is the kind asked for, or one whose TYPE no row names; verify it, and on
acceptance issue the commit that consumes its SEQ or nonce (R393). A TIME envelope arms the set and consumes
nothing (R63). -/
def State.envelope (s : State) (kind : DomEnv → Bool) (armTime : DomEnv → State → State := fun _ s => s) : State :=
  if s.dom.job.isSome || s.dom.pend.isSome || s.rep 0x0B == stReset || s.rep 0x0B == stOff then s
  else
    match s.envNext with
    | none => s
    | some e =>
      if !kind e && decide (e.typ < 0xF) then s
      else
        let s := s.envPop e
        if (s.rep 0x0B = stQuiesce ∨ s.rep 0x0B = stHalt) ∧ e.typ ≠ envUnit then s.envResult e.port (e.typ % 16) ccBusy 0
        else
          let (reason, code, s) := s.envCheck e
          if reason ≠ 0 then s.envRefuse e code reason
          else if e.typ = envTime then (armTime e s).envTimed e
          else s.envAccept e

/-- An envelope of one TYPE. -/
def envIs (typ : Nat) (e : DomEnv) : Bool := e.typ == typ

def execVendor (t : Nat) (s : State) : Answer := happen t s (fun s => s.envelope (envIs envVendor))
def execCommission (t : Nat) (s : State) : Answer := happen t s (fun s => s.envelope (envIs envCommission))
def execField (t : Nat) (s : State) : Answer := happen t s (fun s => s.envelope (envIs envField))
def execDecommission (t : Nat) (s : State) : Answer := happen t s (fun s => s.envelope (envIs envDecommission))
def execMigrate (t : Nat) (s : State) : Answer := happen t s (fun s => s.envelope (envIs envMigrate))
def execRekey (t : Nat) (s : State) : Answer := happen t s (fun s => s.envelope (envIs envRekey))
def execPolicy (t : Nat) (s : State) : Answer := happen t s (fun s => s.envelope (envIs envPolicy))
def execLockSet (t : Nat) (s : State) : Answer := happen t s (fun s => s.envelope (envIs envLockSet))
def execEphTemplate (t : Nat) (s : State) : Answer := happen t s (fun s => s.envelope (envIs envEphTemplate))
def execView (t : Nat) (s : State) : Answer := happen t s (fun s => s.envelope (envIs envView))
def execMonitor (t : Nat) (s : State) : Answer := happen t s (fun s => s.envelope (envIs envMonitor))
def execUnitEnv (t : Nat) (s : State) : Answer := happen t s (fun s => s.envelope (envIs envUnit))

/-- R63: a TIME envelope arms a set; on a member it has no effect, and RESULT reports DENIED (R64). -/
def armTime (e : DomEnv) (s : State) : State :=
  if s.rd MER_STAT.QUALITY ≠ 0 then s.wr MER_TIME_STAT.RESULT ccDenied
  else { s with mer := { s.mer with
    armed := some (bit (e.pay 9 1) 0, bit (e.pay 9 1) 1, toSigned 64 (e.pay 0 8), e.pay 8 1) } }

def execTimeEnv (t : Nat) (s : State) : Answer := happen t s (fun s => s.envelope (envIs envTime) armTime)

/-- R396, R606: a write of GO in DOM_ENV_SUBMIT. The slot goes back to the host once the Dome has copied it. -/
def State.envSubmit (s : State) (slot : Nat) : State :=
  if s.slotFlag slot ≠ slotDevice ∨ s.inRing slot then s.wrWord DOM_ENV_RESULT.REG (ccPrecondition * 2 ^ 24)
  else
    let bytes := s.slotData slot
    (s.envQueue 0 bytes).handSlot slot

def execEnvelopeSubmit (t slot : Nat) (s : State) : Answer := happen t s (fun s => s.envSubmit slot)

/-! ## Nonces, attestation, export (R388, R389, R395) -/

/-- R395: a read of DOM_NONCE. -/
def State.domNonce (s : State) : Nat × State :=
  match s.rngNonce 3 with
  | some (v, s) =>
    let live := s.liveNonces
    let live := if live.length ≥ 8 then live.drop (live.length - 7) else live
    (v, { s with dom := { s.dom with nonces := live ++ [(v, s.now)] } })
  | none => (0, s)

def execDomNonceRead (t port : Nat) (s : State) : Answer := happen t s (fun s =>
  let (v, s) := s.domNonce
  s.answerWord port v)

/-- Bytes 0–79 of an attestation record (R388). -/
def State.attRecord (s : State) (key : Bool) (gslot : Nat) : List Byte :=
  let g := SMap.find s.dom.gkeys gslot
  let (uses, nr, kid) := match g with
    | some k => (if k.nextReset then 0 else k.uses, k.nextReset, cmac k.key (List.replicate 16 0))
    | none => (0, false, [])
  let flags := bitMap (([(0, key), (1, key), (2, key && !nr), (3, key && nr), (4, s.on DOM_STAT.HALT),
    (5, s.on DOM_STAT.FUSE_BAD)].filter (fun x => x.2)).map (fun x => x.1))
  bytesOf [0x41, 0x54, 1, key.toNat] ++ leBytes 8 s.devid ++
    leBytes 1 s.lc ++ leBytes 1 flags ++ leBytes 1 (if key then gslot else 0xFF) ++ leBytes 1 (s.rd DOM_VER.VER) ++
    leBytes 4 (if key then uses else 0) ++ leBytes 4 s.dom.boots ++
    leBytes 8 (s.rd64 DOM_ATT_NONCE_LO.NONCE DOM_ATT_NONCE_HI.NONCE) ++ s.dm ++ s.am ++
    (if key then padTo kid 16 else List.replicate 16 0)

/-- R388: a request for a record, from the fields of DOM_ATT_REQ. The MAGIC 0x5441 is little-endian, and the record is
made within the request. -/
def State.attest (s : State) : State :=
  let slot := s.rd DOM_ATT_REQ.WSLOT
  let key := s.on DOM_ATT_REQ.KIND
  let gslot := s.rd DOM_ATT_REQ.GSLOT
  if s.slotFlag slot ≠ slotDevice ∨ s.inRing slot then s.wr DOM_ATT_REQ.CODE ccPrecondition
  else if s.lc = lcBlank ∨ s.lc = lcDecommissioned ∨ s.lc = 0 then (s.wr DOM_ATT_REQ.CODE ccLifecycle).handSlot slot
  else if key ∧ (SMap.find s.dom.gkeys gslot).isNone then (s.wr DOM_ATT_REQ.CODE ccKeySpent).handSlot slot
  else
    let rec80 := s.attRecord key gslot
    let (code, tag, s) := s.kceNow 0x0B kKAT [] rec80
    let s := if code = ccOk then s.fillSlot slot (rec80 ++ tag ++ (s.slotData slot).drop 96) else s
    (s.wr DOM_ATT_REQ.CODE code).handSlot slot

def execAttestationRequest (t : Nat) (key : Bool) (gslot wslot : Nat) (s : State) : Answer := happen t s (fun s =>
  if s.on DOM_ATT_REQ.BUSY then s.wr DOM_ATT_REQ.CODE ccBusy
  else (((s.flag DOM_ATT_REQ.KIND key).wr DOM_ATT_REQ.GSLOT gslot).wr DOM_ATT_REQ.WSLOT wslot).attest)

/-- DOM_EXPORT[i] (R389). -/
def State.exportWord (s : State) (i : Nat) : Nat :=
  if s.on DOM_STAT.EXPORT_OPEN then leAt (padTo s.dom.keys.katb 32 ++ padTo s.dom.keys.ktr 32) (4 * i) 4 else 0

/-- R389: EXPORT_DONE. -/
def State.exportDone (s : State) : State :=
  if s.lc = lcVendor then
    let s := { s with dom := { s.dom with exportDone := true } }
    s.wr DOM_STAT.EXPORT_OPEN 0
  else s

def execExportDone (t : Nat) (s : State) : Answer := happen t s State.exportDone

/-! ## Keys in use (R376–R387) -/

/-- The session waits for a key derivation and has no completion of it. -/
def State.wantsDom (s : State) (n : Nat) : Bool :=
  bit (s.ctx n).pend pendDom && !s.ses.cpl.any (fun c => c.session == n && c.pool == poolDom)

/-- R376, R380: a derivation for a permitted requester. For a session in CHALLENGE the Dome derives KTOK; its
completion takes the reserved slot. Any other pairing completes with DENIED. -/
def execKeyDerivation (t cls unit n : Nat) (s : State) : Answer := happen t s (fun s =>
  let code := if keyPair cls unit then s.keyCode cls false else ccDenied
  let s := s.answerCode (16 + unit) code
  if cls = kKTOK ∧ unit = 0x08 ∧ s.wantsDom n then
    let c := s.ctx n
    let s := if code = ccOk then
        { s with dom := { s.dom with sesKeys := SMap.put s.dom.sesKeys n (s.ktok c.token) } }
      else s
    s.complete n c.gen poolDom code 0 []
  else s)

/-- The key register is loaded for a unit: the class, the uses, and the session's own key where the class has one. -/
def State.wkGiven (s : State) (cls unit n uses : Nat) : State :=
  let c := s.ctx n
  let key := match SMap.find s.dom.gkeys n with
    | some k => if cls = kGEN then k.key else []
    | none => []
  let base := SMap.get s.dom.sesKeys n []
  let ctx := if cls = kGEN then key else if cls = kKS ∨ cls = kKB then base else leBytes 4 c.token
  s.loadWk { cls := cls, req := unit, uses := clampTo 1 65535 uses, key := s.keyOf cls ctx, session := n, gen := c.gen }

/-- R381: a load of the working-key register. -/
def execWorkingKeyLoad (t cls unit n uses : Nat) (s : State) : Answer := happen t s (fun s =>
  let code := if keyPair cls unit then s.keyCode cls false else ccDenied
  let s := s.answerCode (16 + unit) code
  if code = ccOk then s.wkGiven cls unit n uses else s)

/-- R382: the shares are re-masked every 1 ms with fresh bits; a health failure clears the register. -/
def execRemask (t : Nat) (s : State) : Answer := happen t s (fun s =>
  if s.now ≥ s.dom.maskAt + msT 1 then
    let s := { s with dom := { s.dom with maskAt := s.now } }
    if s.dom.wk.isNone then s else if s.rngCan 1 then s.rngUse 1 else s.clearWk
  else s)

/-- R387: a generated key into the lowest free slot; the answer's code and slot. -/
def State.keygen (s : State) (core : Nat) (k256 nextReset : Bool) (uses : Nat) : Nat × Nat × State :=
  let free := (List.range 8).find? (fun k => (SMap.find s.dom.gkeys k).isNone)
  if s.rep 0x0B = stQuiesce ∨ s.rep 0x0B = stHalt then (ccBusy, 0, s)
  else if s.on DOM_STAT.HALT then (ccTamper, 0, s)
  else if s.dom.keys.katb.isEmpty then (ccLifecycle, 0, s)
  else if !nextReset ∧ uses = 0 then (ccDenied, 0, s)
  else
    match free with
    | none => (ccCapacity, 0, s)
    | some k =>
      match s.rngTake 2 (if k256 then 8 else 4) with
      | none => (ccRngHealth, 0, s)
      | some (w, s) =>
        let u := if nextReset then 0 else min uses 65535
        let g : GKey := { key := leBytes (if k256 then 32 else 16) w, nextReset := nextReset, core := core
                          script := s.rd AST_CORE_SCRIPT.SCRIPT core, uses := u }
        let s := { s with dom := { s.dom with gkeys := SMap.put s.dom.gkeys k g } }
        let s := ((s.wr DOM_GKEY.VALID 1 k).flag DOM_GKEY.NEXT_RESET nextReset k).flag DOM_GKEY.K256 k256 k
        let s := ((s.wr DOM_GKEY.CORE core k).wr DOM_GKEY.USES u k).domKeysReg
        (ccOk, k, s.bump AST_CNT_KEYGEN.COUNT)

/-- A core's KEYGEN or KEYDEL leaves its code and slot in KEY_RESULT (R468). -/
def State.keyAnswer (s : State) (core code slot : Nat) : State :=
  s.updCore core (fun k => { k with keyResult := code * 2 ^ 24 + slot })

def State.keygenPort (s : State) (core : Nat) (k256 nextReset : Bool) (uses : Nat) : State :=
  let (code, slot, s) := s.keygen core k256 nextReset uses
  s.keyAnswer core code slot

/-- R468: KEYDEL destroys a slot that the present script created. -/
def State.keydelPort (s : State) (core slot : Nat) : State :=
  match SMap.find s.dom.gkeys slot with
  | some g =>
    if g.script = s.rd AST_CORE_SCRIPT.SCRIPT core then
      let s := { s with dom := { s.dom with gkeys := SMap.del s.dom.gkeys slot } }
      let s := ((s.wrWord DOM_GKEY.REG 0 slot).domKeysReg).irq DOM_IRQ_STAT.KEY_SPENT
      (s.domEvent 5 slot ccOk).keyAnswer core ccOk slot
    else s.keyAnswer core ccDenied slot
  | none => s.keyAnswer core ccDenied slot

def execKeygen (t core : Nat) (k256 nextReset : Bool) (uses : Nat) (s : State) : Answer := happen t s (fun s =>
  if core < 16 then s.keygenPort core k256 nextReset uses else s)

def execKeydel (t core slot : Nat) (s : State) : Answer := happen t s (fun s =>
  if core < 16 then s.keydelPort core (slot % 8) else s)

/-! ## VIEW grants (R391, R612, R614) -/

/-- End a port's VIEW grant. -/
def State.endView (s : State) (p : Nat) : State :=
  let s := { s with hif := { s.hif with grantEnd := SMap.del s.hif.grantEnd p } }
  s.wrWord HIF_VIEW_GRANT.REG 0 p

def execViewGrantEnd (t port : Nat) (s : State) : Answer := happen t s (fun s =>
  match SMap.find s.hif.grantEnd port with
  | some e => if s.now ≥ e then s.endView port else s
  | none => s)

/-- Seconds left of a port's grant (HIF_VIEW_LEFT). -/
def State.viewLeft (s : State) (p : Nat) : Nat :=
  match SMap.find s.hif.grantEnd p with
  | some e => (e - s.now + secT 1 - 1) / secT 1
  | none => 0

end Sys2Proof.Machine
end

