-- ==== Sys2Proof/Machine/EphOps.lean ====
section
/-! DEFINITION. The credential store: buckets, the tree, lookups, the journal and its entries (R336–R362). -/

namespace Sys2Proof.Machine

/-! ## Buckets and records (R336–R339) -/

def ephPages : Nat := 131072

/-- SALT of the commit record. -/
def State.ephSalt (s : State) : Nat := match s.eph.commit with
  | some c => c.salt
  | none => 0

/-- The crc32 of R337 over SALT, a tag byte and TOKEN_ID. -/
def ephCrc (salt tag token : Nat) : Nat := crc32 (leBytes 4 salt ++ leBytes 1 tag ++ leBytes 3 token)

/-- The two bucket pages of an identity (R337). -/
def ephBuckets (salt token : Nat) : Nat × Nat :=
  let b1 := ephCrc salt 1 token % ephPages
  let b2 := ephCrc salt 2 token % ephPages
  (b1, if b2 = b1 then (b1 + 1) % ephPages else b2)

/-- The record of a slot in DRAM. -/
def State.ephRec (s : State) (slot : Nat) : List Byte := SMap.get s.eph.slots slot (List.replicate 128 0)

/-- Fields of a record (R339). -/
def recStatus (r : List Byte) : Nat := leAt r 0 1
def recToken (r : List Byte) : Nat := leAt r 1 3
def recKv (r : List Byte) : Nat := leAt r 4 1 % 16
def recFlags (r : List Byte) : Nat := leAt r 6 1
def recGroup (r : List Byte) : Nat := leAt r 8 2
def recZones (r : List Byte) : Nat := leAt r 12 4
def recRights (r : List Byte) : Nat := leAt r 16 4
def recFrom (r : List Byte) : Nat := leAt r 20 4
def recTo (r : List Byte) : Nat := leAt r 24 4

def stEmpty : Nat := 0
def stActive : Nat := 1
def stRevoked : Nat := 2
def stSuspended : Nat := 3

/-- STATUS as it counts: other values are treated as REVOKED. -/
def recState (r : List Byte) : Nat := if recStatus r ≤ 3 then recStatus r else stRevoked

/-- A page is verified: fetched, neither BAD nor waiting to be fetched again. -/
def State.ephOk (s : State) (p : Nat) : Bool :=
  (decide (p < s.eph.sweep) || s.eph.fetched.contains p) && !s.eph.bad.contains p && !s.eph.suspect.contains p

/-- The slot of an identity in a page. -/
def State.ephIn (s : State) (p token : Nat) : Option Nat :=
  ((List.range 8).map (8 * p + ·)).find? (fun k =>
    recStatus (s.ephRec k) != stEmpty && recToken (s.ephRec k) == token)

/-- Slots in use of a page. -/
def State.ephUsed (s : State) (p : Nat) : Nat :=
  (((List.range 8).map (8 * p + ·)).filter (fun k => recStatus (s.ephRec k) != stEmpty)).length

/-- Where an identity stands: at a slot, nowhere, behind a BAD page, or behind a page still to verify (R342). -/
inductive EphFind where
  | at (slot : Nat)
  | none
  | bad
  | wait (pages : List Nat)
deriving DecidableEq, Repr

def State.ephFind (s : State) (token : Nat) : EphFind :=
  let b := ephBuckets s.ephSalt token
  let ps := [b.1, b.2]
  match ((ps.filter s.ephOk).filterMap (fun p => s.ephIn p token)).head? with
  | some k => .at k
  | none =>
    if ps.any s.eph.bad.contains then .bad
    else
      match ps.filter (fun p => !s.ephOk p) with
      | [] => .none
      | w => .wait w

/-! ## The tree (R356) -/

/-- KT, for the store's SALT. -/
def State.kt (s : State) : List Byte := s.keyOf kKT (leBytes 4 s.ephSalt)

/-- t0 of a page from its 1,024 bytes. -/
def ephT0 (kt : List Byte) (p : Nat) (page : List Byte) : List Byte :=
  cmac kt (bytesOf [0x45, 0x4C] ++ leBytes 4 p ++ page)

/-- A node of a level over 16 values below it. -/
def ephNode (kt : List Byte) (level i : Nat) (below : List (List Byte)) : List Byte :=
  cmac kt (bytesOf [0x45, level] ++ leBytes 4 i ++ below.flatten)

/-- The values 16i to 16i + 15 of a level held as a table. -/
def sixteen (m : SMap (List Byte)) (i : Nat) : List (List Byte) :=
  (List.range 16).map (fun k => SMap.get m (16 * i + k) (List.replicate 16 0))

/-- The level above a list of values. -/
def ephUp (kt : List Byte) (level : Nat) (l : List (List Byte)) : Nat → Nat → List (List Byte)
  | 0, _ => []
  | n + 1, i => ephNode kt level i ((l.drop (16 * i)).take 16) :: ephUp kt level l n (i + 1)

/-- The root over L1 (R356). -/
def ephRootOf (kt : List Byte) (l1 : List (List Byte)) (seq salt npart part folded : Nat) : List Byte :=
  let l2 := ephUp kt 0x32 l1 512 0
  let l3 := ephUp kt 0x33 l2 32 0
  let l4 := ephUp kt 0x34 l3 2 0
  cmac kt (bytesOf [0x45, 0x52] ++ leBytes 4 seq ++ leBytes 4 salt ++ leBytes 1 npart ++ leBytes 1 part ++
    bytesOf [0, 0] ++ leBytes 4 folded ++ l4.flatten)

/-- L1 as held, in order. -/
def State.ephL1 (s : State) : List (List Byte) :=
  (List.range 8192).map (fun i => SMap.get s.eph.l1 i (List.replicate 16 0))

/-- The root of the store as held, under a SEQ and a JSEQ_FOLDED. -/
def State.ephRoot (s : State) (c : EphCommit) (seq folded : Nat) : List Byte :=
  ephRootOf s.kt s.ephL1 seq c.salt c.npart c.part folded

/-- The bytes of a page in DRAM. -/
def State.ephPage (s : State) (p : Nat) : List Byte := (List.range 8).flatMap (fun q => s.ephRec (8 * p + q))

/-- A change to a page updates t0 and L1 (R357). -/
def State.ephRehash (s : State) (p : Nat) : State :=
  let leaf := SMap.put s.eph.leaf p (ephT0 s.kt p (s.ephPage p))
  let l1 := SMap.put s.eph.l1 (p / 16) (ephNode s.kt 0x31 (p / 16) (sixteen leaf (p / 16)))
  { s with eph := { s.eph with leaf := leaf, l1 := l1 } }

/-- Write a record into its slot; an EMPTY one is not listed. EPH_OCC follows. -/
def State.ephPut (s : State) (slot : Nat) (r : List Byte) : State :=
  let was := recStatus (s.ephRec slot) != stEmpty
  let is := recStatus r != stEmpty
  let s := { s with eph := { s.eph with
    slots := if is then SMap.put s.eph.slots slot (padTo r 128) else SMap.del s.eph.slots slot } }
  if was = is then s
  else if is then s.bump EPH_OCC.RECORDS
  else s.drop EPH_OCC.RECORDS

/-! ## Events and registers -/

def evChange : Nat := 1
def evCode : Nat := 2
def evIntegrity : Nat := 3
def evBadPage : Nat := 4
def evRejected : Nat := 5
def evCompact : Nat := 6
def evPart : Nat := 7

def State.ephEvent (s : State) (kind reason op index code : Nat) : State :=
  s.unitEvent 0x0A 0 EPH_EVT_CODE.REG EPH_EVT_STAMP_LO.STAMP EPH_EVT_STAMP_HI.STAMP
    (kind * 2 ^ 28 + reason * 2 ^ 24 + op * 2 ^ 20 + index % 2 ^ 20) code

/-- EPH_STAT.STATE. -/
def ephNoImage : Nat := 0
def ephLoading : Nat := 1
def ephReady : Nat := 2
def ephRejected : Nat := 3

/-- EPH_LOAD_STAT and BAD_PAGES. -/
def State.ephStat (s : State) : State :=
  let v := s.eph.sweep + s.eph.fetched.length - s.eph.bad.length - s.eph.suspect.length
  let s := s.wr EPH_LOAD_STAT.VERIFIED v
  let s := s.wr EPH_LOAD_STAT.WAITING (min 255 (s.eph.waiting.length + s.eph.changes.length))
  s.flag EPH_STAT.BAD_PAGES (!s.eph.bad.isEmpty)

/-- Entries in use: those above JSEQ_FOLDED (R355). -/
def State.jrnlUsed (s : State) : Nat := s.eph.journal.length

def State.jrnlStat (s : State) : State :=
  let s := s.wr EPH_JRNL_STAT.USED (min 8192 s.jrnlUsed)
  let s := s.wr EPH_JRNL_STAT.FREE (8192 - s.jrnlUsed)
  s.wr EPH_JSEQ.JSEQ ((s.eph.journal.filter (fun e => decide (2 ≤ e.stage))).foldl (fun a e => max a e.jseq)
    (s.rd EPH_JSEQ.JSEQ))

/-- A page is wanted ahead of the sweep, up to 16 (R361). -/
def State.ephWant (s : State) (ps : List Nat) : State :=
  { s with eph := { s.eph with wanted := ps.foldl (fun l p =>
      if l.contains p ∨ l.length ≥ 16 then l else l ++ [p]) s.eph.wanted } }

/-- A DRAM page fails R357: it is fetched again. -/
def State.ephSuspect (s : State) (p : Nat) : State :=
  if !s.ephOk p then s
  else
    let s := { s with eph := { s.eph with suspect := s.eph.suspect ++ [p], tries := SMap.del s.eph.tries p } }
    let s := ((s.bump EPH_CNT_INTEGRITY.COUNT).irq EPH_IRQ_STAT.INTEGRITY).ephEvent evIntegrity 0 0 p 0
    (s.ephWant [p]).ephStat

/-! ## Lookups (R341–R345) -/

/-- The partition of an identity (R365). -/
def State.ephPart (s : State) (token : Nat) : Nat := match s.eph.commit with
  | some c => ephCrc c.salt 0 token % max 1 c.npart
  | none => 0

/-- The holder of an identity's partition: this device for its own partition, or as the master's map gives. -/
def State.ephHolder (s : State) (token : Nat) : Option Nat :=
  match s.eph.commit with
  | some c =>
    if s.ephPart token = c.part ∧ !s.on EPH_STAT.PART_CONFLICT then some s.device
    else SMap.find s.eph.holders (s.ephPart token)
  | none => none

/-- The outcome of a lookup: an answer with REASON, code and slot, or a wait for pages. -/
inductive EphAnswer where
  | done (reason code slot : Nat)
  | wait (pages : List Nat)
deriving DecidableEq, Repr

/-- Lines 5–15 of R341 for a record found at a slot. -/
def State.ephJudge (s : State) (slot token kv zone n gen dev : Nat) : EphAnswer :=
  let r := s.ephRec slot
  let now := s.civilMin % 2 ^ 24
  let valid := recFrom r % 2 ^ 24
  let upto := recTo r % 2 ^ 24
  let held := s.eph.claims.any (fun q => q.token == token && !(q.session == n && q.gen == gen && q.device == dev))
  if recState r = stRevoked then .done 5 ccRevoked slot
  else if recState r = stSuspended then .done 6 ccDenied slot
  else if recKv r ≠ kv then .done 7 ccDenied slot
  else if valid ≠ 0 ∧ serialBefore 24 now valid then .done 8 ccDenied slot
  else if upto ≠ 0 ∧ serialBefore 24 upto now then .done 9 ccDenied slot
  else if (upto ≠ 0 ∨ valid ≠ 0) ∧ s.on MER_STAT.CIVIL_STALE ∧ bit (recFlags r) 2 then .done 0xA ccDenied slot
  else if zone ≠ 0xFF ∧ !bit (recZones r) zone then .done 0xB ccDenied slot
  else if held ∨ s.eph.claims.length ≥ 4096 then .done 0xC ccBusy slot
  else if s.pltPoisoned (8 * slot) then .done 0xD ccPoisoned slot
  else if s.tokLocked (s.pltWord (8 * slot)) then .done 0xE ccLockedOut slot
  else .done 0 ccOk slot

/-- R341 at the holder. -/
def State.ephLookup (s : State) (token kv zone n gen dev : Nat) : EphAnswer :=
  if s.rd EPH_STAT.STATE = ephNoImage then .done 1 ccPrecondition 0
  else if s.rd EPH_STAT.STATE = ephRejected then .done 3 ccNotVerified 0
  else
    match s.ephFind token with
    | .at k => s.ephJudge k token kv zone n gen dev
    | .none => .done 4 ccDenied 0
    | .bad => .done 3 ccNotVerified 0
    | .wait ps => .wait ps

/-- The claim is taken in lines 13–15, in the same step (R343); lines 13 and 14 release it when the session ends. -/
def State.ephTakeClaim (s : State) (reason token n gen dev : Nat) : State :=
  if reason = 0 ∨ reason = 0xD ∨ reason = 0xE then
    let q : EphClaim := ⟨token, n, gen, dev⟩
    if s.eph.claims.contains q then s
    else { s with eph := { s.eph with claims := s.eph.claims ++ [q] } }.claimsReg
  else s

/-- Count a lookup's outcome. -/
def State.ephCount (s : State) (reason : Nat) : State :=
  let s := s.bump EPH_CNT_LOOKUP.COUNT
  if reason = 0 then s.bump EPH_CNT_FOUND.COUNT
  else
    let s := if 5 ≤ reason then s.bump EPH_CNT_FOUND.COUNT else s
    if reason = 4 then s.bump EPH_CNT_ABSENT.COUNT
    else if reason = 3 then s.bump EPH_CNT_NOT_VERIFIED.COUNT
    else s.bump EPH_CNT_DENY.COUNT

/-- What a lookup returns with OK or LOCKED_OUT (R344): slot, per-token word, record. -/
def State.ephData (s : State) (code slot : Nat) : List Byte :=
  if code = ccOk ∨ code = ccLockedOut then leBytes 4 slot ++ leBytes 8 (s.pltWord (8 * slot)) ++ s.ephRec slot
  else []

/-! ## Journal entries (R353–R355) -/

/-- The bytes of an entry, COMMIT and WDONE zero (R353). -/
def JEntry.bytes (e : JEntry) : List Byte :=
  let head := leBytes 2 0x4A45 ++ leBytes 1 e.op ++ leBytes 1 e.route ++ leBytes 4 e.jseq ++ leBytes 4 e.slot ++
    leBytes 4 (e.min % 2 ^ 24) ++ leBytes 8 (e.word.getD 0) ++
    leBytes 1 (e.word.isSome.toNat + 2 * e.window.toNat) ++ leBytes 1 e.template ++ leBytes 2 0 ++ leBytes 4 e.num ++
    padTo e.record 128
  let tail := List.replicate 76 0
  head ++ List.replicate 8 0 ++ tail ++ leBytes 4 (crc32 (head ++ tail))

/-- The address of an entry. -/
def jrnlAddr (jseq : Nat) : Nat := 0x800000 + 256 * (jseq % 8192)

/-- The entry an address holds, when it exists (R353). -/
def State.jrnlRead (s : State) (k : Nat) : Option JEntry :=
  let a := 0x800000 + 256 * k
  let l := (List.range 32).flatMap (fun i => leBytes 8 (s.pltWord (a + 8 * i)))
  let bad := (List.range 32).any (fun i => i != 20 && s.pltPoisoned (a + 8 * i))
  let jseq := leAt l 4 4
  let crc := crc32 (slice l 0 160 ++ slice l 168 76)
  if bad ∨ leAt l 0 2 ≠ 0x4A45 ∨ leAt l 248 8 ≠ jseq + 0xA5A5A5A5 * 2 ^ 32 ∨ leAt l 244 4 ≠ crc then none
  else
    let fl := leAt l 24 1
    some { jseq := jseq, op := leAt l 2 1, route := leAt l 3 1, slot := leAt l 8 4, min := leAt l 12 4,
           word := if bit fl 0 then some (leAt l 16 8) else none, window := bit fl 1, template := leAt l 25 1,
           num := leAt l 28 4, record := slice l 32 128, dest := .nobody,
           stage := if leAt l 160 8 = jseq + 0xFFFFFFFF * 2 ^ 32 then 5 else 2, token := leAt l 33 3 }

/-- Insert an entry in JSEQ order. -/
def jrnlInsert (e : JEntry) : List JEntry → List JEntry
  | [] => [e]
  | x :: r => if e.jseq < x.jseq then e :: x :: r else x :: jrnlInsert e r

/-- The journal as the Plate store holds it, above JSEQ_FOLDED (R361 step 4). -/
def State.jrnlScan (s : State) : List JEntry :=
  let folded := match s.eph.commit with
    | some c => c.folded
    | none => 0
  (((List.range 8192).filterMap s.jrnlRead).filter (fun e => decide (folded < e.jseq))).foldr jrnlInsert []

/-- The follow-on writes of an entry (R354): the per-token word, and the template's window. The window is held by the
Dome in AUTHORITY. -/
def State.followOn (s : State) (e : JEntry) : State :=
  let s := if e.window then
      let w := SMap.get s.eph.windows e.template (0, 0)
      let new := if e.num > w.1 then
          let d := e.num - w.1
          (e.num, (if d ≤ 64 then (w.2 * 2 ^ d + 2 ^ (d - 1)) % 2 ^ 64 else 0))
        else (w.1, setBit w.2 (w.1 - 1 - e.num) true)
      { s with eph := { s.eph with windows := SMap.put s.eph.windows e.template new } }
    else s
  match e.word with
  | some w => s.pltWrite laneEph (.followOn e.jseq) [(8 * e.slot, w)]
  | none =>
    let (w, s) := State.drawN 2 s
    s.pltWrite laneDom (.followOn e.jseq) [(0xB00080 + 8 * (e.template % 16), w)]

/-- Replay the entries of a page in JSEQ order (R362). -/
def State.ephReplay (s : State) (p : Nat) : State :=
  (s.eph.journal.filter (fun e => e.slot / 8 == p && decide (2 ≤ e.stage))).foldl
    (fun a e => a.ephPut e.slot e.record) s

/-! ## The commit record (R360) -/

/-- A commit record as the bytes of its copy: SEQ, ROOT, JSEQ_FOLDED, SALT, NPART, PART, and a CRC. The spec names the
fields and no layout (log entry 17). -/
def EphCommit.bytes (c : EphCommit) : List Byte :=
  let b := leBytes 4 c.seq ++ padTo c.root 16 ++ leBytes 4 c.folded ++ leBytes 4 c.salt ++ leBytes 1 c.npart ++
    leBytes 1 c.part ++ leBytes 6 0
  b ++ leBytes 4 (crc32 b) ++ leBytes 8 0

/-- Write a commit record over the older copy. -/
def State.ephCommitWrite (s : State) (c : EphCommit) : State :=
  let a := if s.eph.copyB then 0xA00100 else 0xA00000
  let s := { s with eph := { s.eph with newCommit := some c, copyB := !s.eph.copyB } }
  s.pltWrite laneEph .ephCommit (wordsAt a c.bytes)

/-- The registers that show the commit record. -/
def State.ephCommitReg (s : State) (c : EphCommit) : State :=
  let s := ((s.wr EPH_IMG_SEQ.VALUE c.seq).wr EPH_IMG_FOLDED.VALUE c.folded).wr EPH_SALT.VALUE c.salt
  let s := (s.wr EPH_STAT.PART c.part).wr EPH_STAT.NPART c.npart
  (List.range 4).foldl (fun a i => a.wr EPH_ROOT.ROOT (leAt c.root (4 * i) 4) i) s

/-- The copy of the commit record at an address, when its CRC is right. -/
def State.ephCommitRead (s : State) (a : Nat) : Option EphCommit :=
  let l := (List.range 6).flatMap (fun i => leBytes 8 (s.pltWord (a + 8 * i)))
  if (List.range 6).any (fun i => s.pltPoisoned (a + 8 * i)) ∨ leAt l 0 4 = 0 ∨ leAt l 36 4 ≠ crc32 (slice l 0 36) then none
  else some ⟨leAt l 0 4, slice l 4 16, leAt l 20 4, leAt l 24 4, leAt l 28 1, leAt l 29 1⟩

/-- Start the load of R361: everything copied before is discarded, and the journal is scanned. -/
def State.ephLoad (s : State) : State :=
  let a := s.ephCommitRead 0xA00000
  let b := s.ephCommitRead 0xA00100
  let pick := if s.on BOOT_STAT.FLASH_SMALL then none
    else match a, b with
      | some x, some y => some (if y.seq > x.seq then y else x)
      | some x, none => some x
      | none, y => y
  let s := { s with eph := { s.eph with
    commit := pick, copyB := decide (pick = a ∧ a.isSome), newCommit := none, accepted := false, sweep := 0,
    fetched := [], bad := [], suspect := [], tries := [], slots := [], leaf := [], l1 := [], waiting := [], wanted := [],
    changes := [], claims := [], find := none, compSectors := [] } }
  let s := { s with eph := { s.eph with journal := s.jrnlScan } }
  let top := s.eph.journal.foldl (fun m e => max m e.jseq) (s.rd EPH_JSEQ.JSEQ)
  let s := { s with eph := { s.eph with nextJ := top + 1 } }
  let s := s.wr EPH_STAT.STATE (if pick.isSome then ephLoading else ephNoImage)
  let s := (s.wr EPH_OCC.RECORDS 0).wr EPH_COMPACT_STAT.STEP 0
  let s := s.wr EPH_STAT.COMPACTING 0
  let s := match pick with
    | some c => s.ephCommitReg c
    | none => s
  s.claimsReg.jrnlStat.ephStat

end Sys2Proof.Machine
end

