-- ==== Sys2Proof/Machine/Eph.lean ====
section
/-! DEFINITION. EPH: lookups, changes, the journal, the load and compaction (R341–R370). -/

namespace Sys2Proof.Machine

/-! ## Lookups (R341–R345) -/

/-- The session waits for its lookup and has no completion of it. -/
def State.wantsEph (s : State) (n : Nat) : Bool :=
  bit (s.ctx n).pend pendEph && !s.ses.cpl.any (fun c => c.session == n && c.pool == poolEph)

/-- A lookup for a session of this device at this device (R341, R342): answered into the reserved slot, or waiting for
pages. `dram` has bit 0 set when the first bucket page fails R357 as it is read, bit 1 for the second. -/
def State.lookup (s : State) (n dram : Nat) : State :=
  let c := s.ctx n
  let tok := bits c.token 23 0
  let b := ephBuckets s.ephSalt tok
  let s := if bit dram 0 then s.ephSuspect b.1 else s
  let s := if bit dram 1 then s.ephSuspect b.2 else s
  let me := (n, c.gen)
  let done := fun (reason code slot : Nat) =>
    let s := { s with eph := { s.eph with waiting := s.eph.waiting.erase me } }
    let s := (s.ephCount reason).ephTakeClaim reason tok n c.gen s.device
    (s.complete n c.gen poolEph code reason (s.ephData code slot)).ephStat
  if s.rd EPH_STAT.STATE ≠ ephNoImage ∧ (s.ephHolder tok).isNone then done 2 ccTimeout 0
  else
    match s.ephLookup tok (bits c.token 27 24) c.zone n c.gen s.device with
    | .done reason code slot => done reason code slot
    | .wait ps =>
      let s := s.ephWant ps
      if s.eph.waiting.contains me then s.ephStat
      else ({ s with eph := { s.eph with waiting := s.eph.waiting ++ [me] } }.bump EPH_CNT_WAIT.COUNT).ephStat

/-- A lookup whose partition another member holds goes there over Baseline (R366); its answer comes back by RPLY. -/
def State.lookupAway (s : State) (n : Nat) : Bool :=
  match s.ephHolder (bits (s.ctx n).token 23 0) with
  | some d => d != s.device
  | none => false

/-- The lookup is sent to the holder; one that is not reachable answers ABSENT at once (R366, R367, R632). -/
def State.lookupSend (s : State) (n : Nat) : State :=
  let c := s.ctx n
  let d := (s.ephHolder (bits c.token 23 0)).getD 0
  if s.eph.away.any (fun w => w.1 == n && w.2.1 == c.gen) then s
  else
    let (tag, s) := s.blnRequest d 0x0A 0x08 (leBytes 1 erLookup ++ leBytes 2 n ++ leBytes 2 c.gen ++ leBytes 4 c.token ++
      leBytes 1 c.zone)
    match tag with
    | some k => { s with eph := { s.eph with away := s.eph.away ++ [(n, c.gen, k)] } }
    | none => (s.ephCount 2).complete n c.gen poolEph ccTimeout 2 []

def execLookup (t n dram : Nat) (s : State) : Answer := happen t s (fun s =>
  if s.wantsEph n ∧ s.running 0x0A then (if s.lookupAway n then s.lookupSend n else s.lookup n dram) else s)

/-! ## Pages (R357, R361, R362) -/

/-- A page copied from flash with the line of 16 leaf values that holds its own: the line is checked against L1, the
page against its leaf; then the journal's entries for it are applied. Two failures make the page BAD. -/
def State.ephFetch (s : State) (p : Nat) (data line : List Byte) : State :=
  let kt := s.kt
  let leaves := (List.range 16).map (fun k => slice line (16 * k) 16)
  let own := slice line (16 * (p % 16)) 16
  let lineOk := ephNode kt 0x31 (p / 16) leaves == SMap.get s.eph.l1 (p / 16) [] || (SMap.find s.eph.leaf p).isSome
  let want := SMap.get s.eph.leaf p own
  if lineOk ∧ ephT0 kt p (padTo data 1024) = want then
    let s := { s with eph := { s.eph with
      fetched := if p < s.eph.sweep ∨ s.eph.fetched.contains p then s.eph.fetched else s.eph.fetched ++ [p],
      suspect := s.eph.suspect.erase p, wanted := s.eph.wanted.erase p, tries := SMap.del s.eph.tries p } }
    let s := (List.range 16).foldl (fun (a : State) k =>
      if (SMap.find a.eph.leaf (16 * (p / 16) + k)).isSome then a
      else { a with eph := { a.eph with leaf := SMap.put a.eph.leaf (16 * (p / 16) + k) (leaves.getD k []) } }) s
    let s := (List.range 8).foldl (fun (a : State) q => a.ephPut (8 * p + q) (slice data (128 * q) 128)) s
    let s := if s.eph.journal.any (fun e => e.slot / 8 == p && decide (2 ≤ e.stage)) then (s.ephReplay p).ephRehash p else s
    s.ephStat
  else
    let k := SMap.get s.eph.tries p 0 + 1
    let s := { s with eph := { s.eph with tries := SMap.put s.eph.tries p k } }
    if k < 2 then s
    else
      let s := { s with eph := { s.eph with
        bad := s.eph.bad ++ [p], suspect := s.eph.suspect.erase p, wanted := s.eph.wanted.erase p,
        fetched := if p < s.eph.sweep ∨ s.eph.fetched.contains p then s.eph.fetched else s.eph.fetched ++ [p] } }
      let s := (s.irq EPH_IRQ_STAT.BAD_PAGE).ephEvent evBadPage 0 0 p 0
      (s.archiveEvent 0x0A 0 (evBadPage * 2 ^ 28 + p) (leBytes 4 p)).ephStat

/-- The store takes pages: step 2 of R361 has passed and KT can be used. -/
def State.ephTakes (s : State) : Bool :=
  s.eph.accepted && (s.keyCode kKT false == ccOk)

/-- A fetch ahead of the sweep, or again under R357. -/
def execPageFetchDone (t page : Nat) (data line : List Byte) (s : State) : Answer := happen t s (fun s =>
  if page < ephPages ∧ s.ephTakes ∧ !s.ephOk page ∧ !s.eph.bad.contains page then
    (s.bump EPH_CNT_REFETCH.COUNT).ephFetch page data line
  else s)

/-- Move the sweep over pages already fetched; at the end the store is READY. -/
def State.sweepOn : Nat → State → State
  | 0, s => s
  | fuel + 1, s =>
    if s.eph.fetched.contains s.eph.sweep then
      State.sweepOn fuel { s with eph := { s.eph with fetched := s.eph.fetched.erase s.eph.sweep,
                                                      sweep := s.eph.sweep + 1 } }
    else if s.eph.sweep = ephPages ∧ s.rd EPH_STAT.STATE = ephLoading then
      (s.wr EPH_STAT.STATE ephReady).irq EPH_IRQ_STAT.READY
    else s

/-- R361 step 5: the next page of the sweep. -/
def execSweepPage (t : Nat) (data line : List Byte) (s : State) : Answer := happen t s (fun s =>
  if s.ephTakes ∧ s.eph.sweep < ephPages then
    let p := s.eph.sweep
    let s := if s.eph.fetched.contains p then s else s.ephFetch p data line
    (State.sweepOn (s.eph.fetched.length + 2) s).ephStat
  else s)

/-- R361 step 2: the copied L1 is hashed to the root. -/
def State.rootCheck (s : State) (staged : Bool) (l1 : List Byte) : State :=
  match s.eph.commit with
  | none => s
  | some c =>
    let vals := (List.range 8192).map (fun i => slice l1 (16 * i) 16)
    let s := s.flag EPH_STAT.STAGED staged
    if ephRootOf s.kt vals c.seq c.salt c.npart c.part c.folded = c.root then
      let s := { s with eph := { s.eph with accepted := true, l1 := (List.range 8192).zip vals } }
      if s.rep 0x0A = stInit then s.setRep 0x0A (s.rd SYS_UNIT_STATE.CMD 0x0A) else s
    else
      let s := (s.wr EPH_STAT.STATE ephRejected).irq EPH_IRQ_STAT.REJECTED
      let s := s.ephEvent evRejected 0 0 0 0
      let s := s.archiveEvent 0x0A 0 (evRejected * 2 ^ 28)
      if s.rep 0x0A = stInit then s.setRep 0x0A (s.rd SYS_UNIT_STATE.CMD 0x0A) else s

def execRootCheck (t : Nat) (staged : Bool) (l1 : List Byte) (s : State) : Answer := happen t s (fun s =>
  if s.rd EPH_STAT.STATE = ephLoading ∧ !s.eph.accepted ∧ s.keyCode kKT false = ccOk then s.rootCheck staged l1 else s)

/-! ## Outcomes of changes (R351, R352) -/

/-- REASONs of a change and their codes (R352). -/
def chReasonCode (r : Nat) : Nat :=
  [ccOk, ccDenied, ccDenied, ccDenied, ccDenied, ccDenied, ccDenied, ccDenied, ccLockedOut, ccCapacity, ccCapacity,
   ccPrecondition, ccNotVerified, ccRevoked, ccTimeout].getD r ccDenied

def rExists : Nat := 1
def rNotEnrolled : Nat := 2
def rRights : Nat := 3
def rState : Nat := 4
def rCode : Nat := 5
def rCodeUsed : Nat := 6
def rCodeExpired : Nat := 7
def rCodeLock : Nat := 8
def rFull : Nat := 9
def rJournal : Nat := 0xA
def rNoImage : Nat := 0xB
def rUnverified : Nat := 0xC
def rRevoked : Nat := 0xD
def rAbsent : Nat := 0xE

/-- The session and generation a core is bound to, while it runs a step. -/
def State.bound (s : State) (core : Nat) : Option (Nat × Nat) :=
  if s.rd AST_CORE_STAT.STATE core = 1 ∨ s.rd AST_CORE_STAT.STATE core = 4 then
    some (s.rd AST_CORE_STAT.SESSION core, s.rd AST_CORE_SCRIPT.GEN core)
  else none

/-- A change completes towards whoever asked for it. -/
def State.ephAnswer (s : State) (d : EphDest) (op reason code slot : Nat) : State :=
  match d with
  | .core c n gen => if s.bound c = some (n, gen) then s.scDone c code else s.wr AST_CORE_LAST.SC_CODE code c
  | .code =>
    let s := (s.wr EPH_CODE_RESULT.CODE code).wr EPH_CODE_RESULT.BUSY 0
    s.wr EPH_CODE_RESULT.SLOT (if code = ccOk then slot else 0)
  | .env p => s.envResult p (if op = 8 then envEphAdopt else envEphChange) code 0
  | .remote dev tag => (s.giveRemote poolEph).blnReply dev 0x0A tag (bytesOf [op, code, reason] ++ leBytes 4 slot)
  | .nobody => s

/-- A change ends with a REASON, or a code where REASON is NONE: event, interrupts, and the record of R351 for changes
under an envelope or a code. -/
def State.ephRefuse (s : State) (c : EphChange) (reason code slot : Nat) : State :=
  let kind := if c.route = 1 then evCode else evChange
  let s := s.ephEvent kind reason c.op slot code
  let s := if c.route = 0 then s
    else s.archiveEvent 0x0A 0 (kind * 2 ^ 28 + reason * 2 ^ 24 + c.op * 2 ^ 20 + slot)
      (leBytes 4 c.op ++ leBytes 4 slot ++ leBytes 4 c.route ++ leBytes 4 code) code
  let s := if reason = rJournal then s.irq EPH_IRQ_STAT.JOURNAL else s
  s.ephAnswer c.dest c.op reason code slot

/-- The journal has room for an operation (R355). -/
def State.jrnlRoom (s : State) (op : Nat) : Bool :=
  let free := 8192 - s.jrnlUsed
  if op = 3 ∨ op = 4 ∨ op = 7 then decide (0 < free) else decide (512 < free)

/-- Write a change's journal entry: its words, and COMMIT last (R353). -/
def State.jrnlWrite (s : State) (c : EphChange) (slot : Nat) (record : List Byte) (word : Option Nat) : State :=
  let e : JEntry :=
    { jseq := s.eph.nextJ, op := c.op, route := c.route, slot := slot, min := s.civilMin % 2 ^ 24, word := word,
      window := c.op == 2, template := c.template, num := c.num, record := record, dest := c.dest, stage := 1,
      token := c.token }
  let a := jrnlAddr e.jseq
  let s := { s with eph := { s.eph with journal := s.eph.journal ++ [e], nextJ := s.eph.nextJ + 1 } }
  let body := (wordsAt a e.bytes).filter (fun w => w.1 != a + 248)
  let s := s.pltWrite laneEph (.journalBody e.jseq) body
  let s := s.pltWrite laneEph (.journalCommit e.jseq) [(a + 248, e.jseq + 0xA5A5A5A5 * 2 ^ 32)]
  s.jrnlStat

/-- Slots that entries not yet committed will fill. -/
def State.slotTaken (s : State) (k : Nat) : Bool :=
  recStatus (s.ephRec k) != stEmpty || s.eph.journal.any (fun e => e.slot == k && decide (e.stage < 2))

/-- The slot of an enrolment (R338). -/
def State.enrolSlot (s : State) (token : Nat) : Option Nat :=
  let b := ephBuckets s.ephSalt token
  let p := if s.ephUsed b.1 ≤ s.ephUsed b.2 then b.1 else b.2
  let q := if p = b.1 then b.2 else b.1
  let free := fun (p : Nat) => ((List.range 8).map (8 * p + ·)).find? (fun k => !s.slotTaken k)
  match free p with
  | some k => some k
  | none => free q

/-- A record as an enrolment or an attribute change writes it: STATUS, ROUTE, ENROLLED and BY are the device's. -/
def stampRecord (r : List Byte) (status token route enrolled by' revokedAt : Nat) : List Byte :=
  leBytes 1 status ++ leBytes 3 token ++ slice r 4 3 ++ leBytes 1 route ++ slice r 8 2 ++ leBytes 2 0 ++ slice r 12 20 ++
    leBytes 4 (enrolled % 2 ^ 24) ++ leBytes 4 by' ++ leBytes 4 revokedAt ++ leBytes 4 0 ++ slice r 48 64 ++
    List.replicate 16 0

/-! ## Judging changes (R346–R352) -/

/-- R347, first step: the session and the enroller's record. -/
def State.enrollerOk (s : State) (n gen : Nat) : Bool :=
  let c := s.ctx n
  let r := (s.aux n).record
  s.live n gen && c.state == ssDecide && !c.committed && s.progHas n 4 && !c.boundRes.isEmpty &&
  leAt c.boundRes 0 1 == ccOk && recStatus r == stActive && bit (recFlags r) 0

/-- R347, third step: what the enroller may give. -/
def enrolRights (r new : List Byte) : Bool :=
  recGroup new == recGroup r && ((recZones new &&& recZones r) == recZones new) &&
  ((recRights new &&& recRights r) == recRights new) &&
  (!bit (recFlags new) 0 || bit (recFlags r) 1) && !bit (recFlags new) 1 &&
  recTo new != 0 && (recTo r == 0 || !serialBefore 24 (recTo r % 2 ^ 24) (recTo new % 2 ^ 24)) &&
  (!bit (recFlags r) 2 || bit (recFlags new) 2)

/-- What a change does once its pages are there: a REASON, or the slot, record and word of its entry. -/
inductive ChangeOut where
  | refuse (reason : Nat) (slot : Nat)
  /-- OK with nothing to write (a REVOKE of a REVOKED record). -/
  | noop (slot : Nat)
  | write (slot : Nat) (record : List Byte) (word : Option Nat)
deriving DecidableEq, Repr

/-- An enrolment at the place the store gives it. -/
def State.enrolOut (s : State) (c : EphChange) (found : Option Nat) (ok : Bool) (record : List Byte) : ChangeOut :=
  match found with
  | some k => if recState (s.ephRec k) = stRevoked then .refuse rRevoked k else .refuse rExists k
  | none =>
    if !ok then .refuse rRights 0
    else
      match s.enrolSlot c.token with
      | some k => .write k record none
      | none => .refuse rFull 0

/-- Judge a change (R346, R347, R350, R352) with the place of its identity. -/
def State.changeOut (s : State) (c : EphChange) (found : Option Nat) : ChangeOut :=
  let now := s.civilMin % 2 ^ 24
  match c.op with
  | 1 =>
    (match c.dest with
     | .core _ n gen =>
       let x := s.aux n
       if !s.enrollerOk n gen then .refuse rState 0
       else s.enrolOut c found (enrolRights x.record c.record)
         (stampRecord c.record stActive c.token 0 now (bits (s.ctx n).token 27 0) 0)
     | _ => .refuse rState 0)
  | 2 =>
    let k := c.template
    let rec' := leBytes 4 0 ++ leBytes 1 c.kv ++ leBytes 1 (s.rd EPH_TMPL_A.DB_CAP k) ++
      leBytes 1 (s.rd EPH_TMPL_A.FLAGS k) ++ leBytes 1 1 ++ leBytes 2 (s.rd EPH_TMPL_A.GROUP k) ++ leBytes 2 0 ++
      leBytes 4 (s.rd EPH_TMPL_ZONES.ZONES k) ++ leBytes 4 (s.rd EPH_TMPL_RIGHTS.RIGHTS k)
    s.enrolOut c found true (stampRecord rec' stActive c.token 1 now c.num 0)
  | 3 =>
    let judge := fun (ok : Bool) =>
      match found with
      | none => .refuse rNotEnrolled 0
      | some k =>
        let r := s.ephRec k
        if recState r = stRevoked then .noop k
        else if !ok then .refuse rRights k
        else .write k (splice (splice r 0 (leBytes 1 stRevoked)) 40 (leBytes 4 now)) none
    (match c.dest with
     | .core _ n gen =>
       if !s.enrollerOk n gen then .refuse rState 0
       else judge (match found with
         | some k => recGroup (s.ephRec k) == recGroup (s.aux n).record
         | none => false)
     | _ => judge true)
  | 4 =>
    (match found with
     | none => .refuse rNotEnrolled 0
     | some k =>
       if recState (s.ephRec k) = stActive then .write k (splice (s.ephRec k) 0 (leBytes 1 stSuspended)) none
       else .refuse rState k)
  | 5 =>
    (match found with
     | none => .refuse rNotEnrolled 0
     | some k =>
       if recState (s.ephRec k) = stSuspended then .write k (splice (s.ephRec k) 0 (leBytes 1 stActive)) none
       else .refuse rState k)
  | 6 =>
    (match found with
     | none => .refuse rNotEnrolled 0
     | some k => .write k (splice (padTo c.record 128) 1 (leBytes 3 c.token)) c.word)
  | 7 =>
    (match found with
     | none => .refuse rNotEnrolled 0
     | some k => .write k (List.replicate 128 0) (some 0))
  | _ => .refuse rState 0

/-- R350: sessions that hold the token's claim and are not COMMITTED end ABORTED with REVOKED. -/
def State.revokeSessions (s : State) (token : Nat) : State :=
  (s.eph.claims.filter (fun q => q.token == token && q.device == s.device)).foldl
    (fun a q => if a.live q.session q.gen then a.cancel q.session ccRevoked else a) s

/-- Carry out a judged change. A REVOKE takes effect in DRAM at once (R350); every other when its entry commits
(R351). -/
def State.applyChange (s : State) (c : EphChange) (o : ChangeOut) : State :=
  match o with
  | .refuse reason slot => s.ephRefuse c reason (chReasonCode reason) slot
  | .noop slot => s.ephAnswer c.dest c.op 0 ccOk slot
  | .write slot record word =>
    if !s.jrnlRoom c.op then s.ephRefuse c rJournal ccCapacity slot
    else
      let s := s.jrnlWrite c slot record word
      if c.op = 3 then ((s.ephPut slot record).ephRehash (slot / 8)).revokeSessions c.token else s

/-- A change with no image, no holder or a REJECTED store (R352, R360, R361, R367). -/
def State.changeBar (s : State) (c : EphChange) : Option Nat :=
  if s.rd EPH_STAT.STATE = ephNoImage then some rNoImage
  else if (s.ephHolder c.token).isNone then some rAbsent
  else if s.rd EPH_STAT.STATE = ephRejected then some rUnverified
  else none

/-- Serve a change that waits: barred, served when its pages are verified, or left waiting (none). -/
def State.serveChange (s : State) (c : EphChange) : Option State :=
  match s.changeBar c with
  | some r => some (s.ephRefuse c r (chReasonCode r) 0)
  | none =>
    let b := ephBuckets s.ephSalt c.token
    let both := s.ephOk b.1 && s.ephOk b.2
    match s.ephFind c.token with
    | .at k => some (s.applyChange c (s.changeOut c (some k)))
    | .bad => some (s.ephRefuse c rUnverified ccNotVerified 0)
    | .none => if both then some (s.applyChange c (s.changeOut c none)) else none
    | .wait _ => none

/-- A change as the request that carries it to the holder (R366). -/
def changeBytes (c : EphChange) : List Byte :=
  leBytes 1 erChange ++ bytesOf [c.op, c.route, c.kv, c.template, c.word.isSome.toNat, 0, 0] ++ leBytes 8 c.digits ++
    leBytes 4 c.token ++ leBytes 4 c.num ++ leBytes 4 c.expDay ++ leBytes 4 c.by' ++ leBytes 8 (c.word.getD 0) ++ padTo c.record 128

/-- A change goes to the member that holds its identity's partition; an unreachable holder answers ABSENT. -/
def State.sendChange (s : State) (c : EphChange) (d : Nat) : State :=
  let (tag, s) := s.blnRequest d 0x0A 0x0A (changeBytes c)
  match tag with
  | some k => { s with eph := { s.eph with awayCh := SMap.put s.eph.awayCh k c } }
  | none => s.ephRefuse c rAbsent (chReasonCode rAbsent) 0

/-- The member that holds a change's identity, when it is not this device. -/
def State.changeAway (s : State) (c : EphChange) : Option Nat :=
  match s.ephHolder c.token with
  | some d => if d = s.device then none else some d
  | none => none

/-- Submit a change: sent to its holder, served at once, or kept with its pages wanted (R352, R366). -/
def State.submitChange (s : State) (c : EphChange) : State :=
  match s.changeAway c with
  | some d => s.sendChange c d
  | none =>
  match s.serveChange c with
  | some s => s
  | none =>
    let b := ephBuckets s.ephSalt c.token
    let s := s.ephWant ([b.1, b.2].filter (fun p => !s.ephOk p))
    { s with eph := { s.eph with changes := s.eph.changes ++ [c] } }.ephStat

/-- A change no longer waits. -/
def State.dropChange (s : State) (c : EphChange) : State :=
  { s with eph := { s.eph with changes := s.eph.changes.erase c } }

/-- Serve the oldest waiting change of an operation. -/
def State.serveOp (s : State) (op : Nat) : State :=
  match s.eph.changes.find? (fun c => c.op == op) with
  | none => s
  | some c =>
    let s0 := s.dropChange c
    match s0.serveChange c with
    | some s => s.ephStat
    | none => s

/-! ## Changes by a script (R347, R466) -/

/-- A session call starts (R467): counted; one made while the core is not bound, or while the session is not in DECIDE
or is COMMITTED, completes with DENIED. -/
def State.scStart (s : State) (core : Nat) (f : Nat → Nat → State → State) : State :=
  let s := s.bump AST_CNT_SESCALL.COUNT
  match s.bound core with
  | none => s.scDone core ccDenied
  | some (n, gen) =>
    let c := s.ctx n
    if s.live n gen ∧ c.state = ssDecide ∧ !c.committed then
      f n gen (s.updCore core (fun k => { k with scBusy := true, scNew := false }))
    else s.scDone core ccDenied

/-- R466: ENROL, with whether SC_ARG3 names 128 bytes inside X or Y, and those bytes. -/
def State.scEnrol (s : State) (core : Nat) (inside : Bool) (record : List Byte) : State :=
  s.scStart core (fun n gen s =>
    if !inside then
      (s.ephEvent evChange rState 1 0 ccDenied).scDone core ccDenied
    else s.submitChange { op := 1, route := 0, token := leAt record 1 3, kv := leAt record 4 1 % 16,
                          record := padTo record 128, dest := .core core n gen, since := s.now })

def State.scRevoke (s : State) (core token : Nat) : State :=
  s.scStart core (fun n gen s =>
    s.submitChange { op := 3, route := 0, token := token % 2 ^ 24, dest := .core core n gen, since := s.now })

/-- R347: a script's ENROL; `record` is what its data memory holds at SC_ARG3. -/
def execEnrolToken (t core : Nat) (inside : Bool) (record : List Byte) (s : State) : Answer := happen t s (fun s =>
  if core < 16 ∧ !(s.core core).scBusy then s.scEnrol core inside record else s.serveOp 1)

/-- R350: a script's REVOKE; core 16 and up serves the REVOKE of an accepted envelope. -/
def execRevoke (t core token : Nat) (s : State) : Answer := happen t s (fun s =>
  if core < 16 ∧ !(s.core core).scBusy then s.scRevoke core token else s.serveOp 3)

/-- R346: the changes of accepted envelopes. -/
def execSuspend (t : Nat) (s : State) : Answer := happen t s (fun s => s.serveOp 4)
def execResume (t : Nat) (s : State) : Answer := happen t s (fun s => s.serveOp 5)
def execAttr (t : Nat) (s : State) : Answer := happen t s (fun s => s.serveOp 6)
def execRemove (t : Nat) (s : State) : Answer := happen t s (fun s => s.serveOp 7)

/-! ## Enrolment codes (R348, R349) -/

/-- The stamps of wrong codes within CODE_WIN. -/
def State.wrongIn (s : State) : List Nat :=
  s.eph.wrong.filter (fun a => decide (s.now ≤ a + secT (orOne (s.rd EPH_CODE_CFG.CODE_WIN))))

/-- Codes are refused (R349). -/
def State.codeLocked (s : State) : Bool :=
  s.rd EPH_CODE_STAT.LOCK_UNTIL != 0 && serialBefore 24 (s.civilMin % 2 ^ 24) (s.rd EPH_CODE_STAT.LOCK_UNTIL)

/-- A wrong code (R349). -/
def State.wrongCode (s : State) : State :=
  let s := { s with eph := { s.eph with wrong := s.now :: s.wrongIn } }
  let s := (s.wr EPH_CODE_STAT.BAD (min 255 s.eph.wrong.length)).bump EPH_CNT_CODE_BAD.COUNT
  if s.eph.wrong.length ≥ orOne (s.rd EPH_CODE_CFG.CODE_MAX) then
    let lock := clampTo 1 1440 (s.rd EPH_CODE_CFG.CODE_LOCK)
    (s.wr EPH_CODE_STAT.LOCK_UNTIL ((s.civilMin + lock) % 2 ^ 24)).irq EPH_IRQ_STAT.CODE_LOCK
  else s

/-- NUM passes a template's window (R348). -/
def State.windowPass (s : State) (k num : Nat) : Bool :=
  let w := SMap.get s.eph.windows k (0, 0)
  decide (num > w.1) || (decide (num < w.1) && decide (w.1 ≤ num + 64) && !bit w.2 (w.1 - 1 - num))

/-- R348: the code's own conditions, in their order; a REASON, or NONE with the code of the computation. -/
def State.codeCheck (s : State) (c : EphChange) : Nat × Nat × State :=
  let msg := bytesOf [0x45, 0x43] ++ leBytes 3 c.token ++ leBytes 1 c.kv ++ leBytes 1 c.template ++ leBytes 1 0 ++
    leBytes 4 c.num ++ leBytes 2 c.expDay ++ leBytes 2 0
  let (code, tag, s) := s.kceNow 0x0A kKE [] msg
  let day := s.civilMin / 1440 % 2 ^ 16
  if code ≠ ccOk then (0, code, s)
  else if leAt tag 0 8 % 10000000000 ≠ c.digits then (rCode, ccDenied, s.wrongCode)
  else if !s.on EPH_TMPL_A.VALID c.template then (rCode, ccDenied, s)
  else if serialBefore 16 c.expDay day then (rCodeExpired, ccDenied, s)
  else if !s.windowPass c.template c.num then (rCodeUsed, ccDenied, s)
  else (0, ccOk, s)

/-- R348: a submission of the EPH_CODE registers. -/
def State.codeSubmit (s : State) : State :=
  if s.on EPH_CODE_RESULT.BUSY then s
  else
    let c : EphChange :=
      { op := 2, route := 1, token := s.rd EPH_CODE_ID.TOKEN_ID, kv := s.rd EPH_CODE_ID.KV,
        template := s.rd EPH_CODE_ARG.TEMPLATE, num := s.rd EPH_CODE_NUM.NUM, expDay := s.rd EPH_CODE_ARG.EXP_DAY,
        digits := s.rd EPH_CODE_DIGITS_LO.DIGITS + s.rd EPH_CODE_DIGITS_HI.DIGITS * 2 ^ 32, dest := .code,
        since := s.now }
    let s := s.wr EPH_CODE_RESULT.BUSY 1
    if s.codeLocked then s.ephRefuse c rCodeLock ccLockedOut 0
    else
      match s.changeBar c with
      | some r => s.ephRefuse c r (chReasonCode r) 0
      | none =>
        let (reason, code, s) := s.codeCheck c
        if code ≠ ccOk then s.ephRefuse c reason code 0 else s.submitChange c

def execEnrolCode (t token kv template expDay num digits : Nat) (s : State) : Answer := happen t s (fun s =>
  if s.on EPH_CODE_RESULT.BUSY then s.serveOp 2
  else
    let s := (s.wr EPH_CODE_ID.TOKEN_ID token).wr EPH_CODE_ID.KV kv
    let s := (s.wr EPH_CODE_ARG.TEMPLATE template).wr EPH_CODE_ARG.EXP_DAY expDay
    let s := (s.wr EPH_CODE_NUM.NUM num).wr EPH_CODE_DIGITS_LO.DIGITS digits
    (s.wr EPH_CODE_DIGITS_HI.DIGITS (digits / 2 ^ 32)).codeSubmit)

/-! ## Adoption (R360) -/

/-- L1 of an image whose every slot is EMPTY. -/
def emptyL1 (kt : List Byte) : List (List Byte) :=
  (List.range 8192).map (fun i => ephNode kt 0x31 i
    ((List.range 16).map (fun k => ephT0 kt (16 * i + k) (List.replicate 1024 0))))

/-- The change of an accepted EPH_ADOPT envelope that waits, by its MODE: its payload stands in `record`. -/
def State.adoptWaiting (s : State) (mode : Nat) : Option EphChange :=
  s.eph.changes.find? (fun c => c.op == 8 && leAt c.record 0 1 == mode)

/-- R360: write the commit record an envelope names, or that of an empty image of SEQ 1 that has been written to flash. -/
def State.adopt (s : State) (mode : Nat) : State :=
  match s.adoptWaiting mode, s.eph.newCommit with
  | some c, none =>
    let npart := leAt c.record 1 1
    let part := leAt c.record 2 1
    let salt := leAt c.record 8 4
    let folded := s.eph.nextJ - 1
    if !s.jrnlRoom 8 then
      let s := s.dropChange c
      s.ephRefuse c rJournal ccCapacity 0
    else
      let kt := s.keyOf kKT (leBytes 4 salt)
      let root := if mode = 1 then ephRootOf kt (emptyL1 kt) 1 salt npart part folded else slice c.record 16 16
      s.ephCommitWrite ⟨if mode = 1 then 1 else leAt c.record 4 4, root, folded, salt, npart, part⟩
  | _, _ => s

def execAdopt (t : Nat) (s : State) : Answer := happen t s (fun s => s.adopt 0)
def execFormat (t : Nat) (s : State) : Answer := happen t s (fun s => s.adopt 1)

/-- The commit record commits: an ADOPT reloads the store and completes; a compaction frees its entries and goes on
(R360, R364). -/
def State.ephCommitted (s : State) : State :=
  match s.eph.newCommit with
  | none => s
  | some c =>
    match s.eph.changes.find? (fun x => x.op == 8) with
    | some x =>
      let rest := s.eph.changes.erase x
      let s := { s with eph := { s.eph with changes := rest } }
      let s := s.ephLoad
      let s := { s with eph := { s.eph with commit := some c, changes := rest } }
      let s := (s.ephCommitReg c).wr EPH_STAT.STATE ephLoading
      let s := s.bump EPH_CNT_CHANGE.COUNT
      let s := s.ephEvent evChange 0 8 0 ccOk
      let s := s.archiveEvent 0x0A 0 (evChange * 2 ^ 28 + 8 * 2 ^ 20)
        (leBytes 4 8 ++ leBytes 4 0 ++ leBytes 4 2 ++ leBytes 4 ccOk)
      s.ephAnswer x.dest 8 0 ccOk 0
    | none =>
      let s := { s with eph := { s.eph with commit := some c, newCommit := none,
                                            journal := s.eph.journal.filter (fun e => decide (c.folded < e.jseq)) } }
      let s := (s.ephCommitReg c).jrnlStat
      let s := (s.wr EPH_COMPACT_STAT.STEP 6).wr EPH_STAT.STAGED 1
      let s := ((s.bump EPH_CNT_COMPACT.COUNT).irq EPH_IRQ_STAT.COMPACT).wr EPH_COMPACT_STAT.RESULT ccOk
      s.ephEvent evCompact 0 0 0 0

/-! ## The journal (R351, R353, R354) -/

def State.updJ (s : State) (j : Nat) (f : JEntry → JEntry) : State :=
  { s with eph := { s.eph with journal := s.eph.journal.map (fun e => if e.jseq = j then f e else e) } }

/-- WDONE of an entry is written. -/
def State.writeDone (s : State) (j : Nat) : State :=
  (s.updJ j (fun e => { e with stage := 4 })).pltWrite laneEph (.journalDone j)
    [(jrnlAddr j + 160, j + 0xFFFFFFFF * 2 ^ 32)]

/-- The commit point of an entry: the change takes effect and completes with OK, is archived, and its follow-on writes
are issued (R350, R351, R354). -/
def State.jrnlCommitted (s : State) (e : JEntry) : State :=
  let s := s.updJ e.jseq (fun e => { e with stage := 2 })
  let s := if e.op = 3 then s else (s.ephPut e.slot e.record).ephRehash (e.slot / 8)
  let s := if e.op ≤ 2 then s.bump EPH_CNT_ENROL.COUNT
    else if e.op = 3 then s.bump EPH_CNT_REVOKE.COUNT
    else s.bump EPH_CNT_CHANGE.COUNT
  let kind := if e.route = 1 then evCode else evChange
  let s := s.ephEvent kind 0 e.op e.slot ccOk
  let s := s.archiveEvent 0x0A 0 (kind * 2 ^ 28 + e.op * 2 ^ 20 + e.slot)
    (leBytes 4 e.op ++ leBytes 4 e.slot ++ leBytes 4 e.route ++ leBytes 4 ccOk)
  let s := s.jrnlStat.ephAnswer e.dest e.op 0 ccOk e.slot
  let s := if e.word.isSome ∨ e.window then (s.followOn e).updJ e.jseq (fun e => { e with stage := 3 })
    else s.writeDone e.jseq
  match e.dest with
  | .core _ n _ => s.recordReady n
  | _ => s

def execJournalCommit (t jseq : Nat) (s : State) : Answer := happen t s (fun s =>
  match s.takeCommitted (.journalCommit jseq), s.eph.journal.find? (fun e => e.jseq == jseq) with
  | some s, some e => if e.stage = 1 then s.jrnlCommitted e else s
  | _, _ => s)

def execFollowOnDone (t jseq : Nat) (s : State) : Answer := happen t s (fun s =>
  match s.takeCommitted (.followOn jseq), s.eph.journal.find? (fun e => e.jseq == jseq) with
  | some s, some e => if e.stage = 3 then s.writeDone jseq else s
  | _, _ => s)

/-- R352: changes and a search that have waited CHANGE_WAIT for their pages. -/
def State.changeWait (s : State) : Nat := msT (100 * orOne (s.rd EPH_COMPACT_CFG.CHANGE_WAIT))

/-- Answer the search of EPH_FIND. -/
def State.findAnswer (s : State) (result slot : Nat) (found : Bool) : State :=
  let s := { s with eph := { s.eph with find := none } }
  let s := ((s.wr EPH_FIND_STAT.DONE 1).flag EPH_FIND_STAT.FOUND found).wr EPH_FIND_STAT.RESULT result
  let s := s.wr EPH_FIND_STAT.STATUS (if found then recStatus (s.ephRec slot) else 0)
  s.wr EPH_FIND_STAT.SLOT (if found then slot else 0)

/-- Try the search (EPH_FIND). -/
def State.findTry (s : State) : State :=
  match s.eph.find with
  | none => s
  | some (token, since) =>
    if s.rd EPH_STAT.STATE = ephNoImage then s.findAnswer 1 0 false
    else if (s.ephHolder token).isNone then s.findAnswer 3 0 false
    else if s.rd EPH_STAT.STATE = ephRejected then s.findAnswer 2 0 false
    else
      match s.ephFind token with
      | .at k => s.findAnswer 0 k true
      | .none => s.findAnswer 0 0 false
      | .bad => s.findAnswer 2 0 false
      | .wait ps => if s.now ≥ since + s.changeWait then s.findAnswer 2 0 false else s.ephWant ps

def State.findStart (s : State) (token : Nat) : State :=
  let s := s.wrWord EPH_FIND_STAT.REG 0
  { s with eph := { s.eph with find := some (token % 2 ^ 24, s.now) } }.findTry

def State.findGo (s : State) (token : Nat) : State :=
  if s.eph.find.isSome then s.findTry else s.findStart token

def execFind (t token : Nat) (s : State) : Answer := happen t s (fun s => s.findGo token)

def execChangeWaitExpired (t : Nat) (s : State) : Answer := happen t s (fun s =>
  let s := s.findTry
  match s.eph.changes.find? (fun c => c.op != 8 && decide (s.now ≥ c.since + s.changeWait)) with
  | some c =>
    let s := s.dropChange c
    (s.ephRefuse c rUnverified ccNotVerified 0).ephStat
  | none => s)

/-! ## Compaction (R363, R364) -/

/-- Step 1: entries in order while the sectors they touch number at most 2,048. -/
def compactTake : List JEntry → List Nat → Nat → Nat × List Nat
  | [], secs, j => (j, secs)
  | e :: r, secs, j =>
    let sec := e.slot / 32
    let secs' := if secs.contains sec then secs else secs ++ [sec]
    if secs'.length > 2048 ∨ e.stage < 2 then (j, secs) else compactTake r secs' e.jseq

/-- A compaction may start: none runs, the store is verified and the current header is not staged. -/
def State.compactFree (s : State) : Bool :=
  s.rd EPH_COMPACT_STAT.STEP == 0 && s.eph.commit.isSome && s.rd EPH_STAT.STATE == ephReady && s.eph.newCommit.isNone

def State.compact (s : State) : State :=
  if s.compactFree then
    let folded := match s.eph.commit with
      | some c => c.folded
      | none => 0
    let (j, secs) := compactTake s.eph.journal [] folded
    let s := { s with eph := { s.eph with compJ := j, compSectors := secs, compLast := s.now } }
    ((s.wr EPH_COMPACT_STAT.STEP 1).wr EPH_STAT.COMPACTING 1).wr EPH_COMPACT_STAT.SECTORS secs.length
  else s

/-- R363: the journal's threshold, or COMPACT_MIN. -/
def execCompactionStart (t : Nat) (s : State) : Answer := happen t s (fun s =>
  let at' := clampTo 10 90 (s.rd EPH_COMPACT_CFG.COMPACT_AT)
  let min' := secT (60 * orOne (s.rd EPH_COMPACT_CFG.COMPACT_MIN))
  if s.jrnlUsed * 100 ≥ at' * 8192 ∨ (s.now ≥ s.eph.compLast + min' ∧ 0 < s.jrnlUsed) then s.compact else s)

def execCompactNow (t : Nat) (s : State) : Answer := happen t s State.compact

/-- A compaction ends without its commit. -/
def State.compactFail (s : State) (code : Nat) : State :=
  let s := (s.wr EPH_COMPACT_STAT.STEP 0).wr EPH_STAT.COMPACTING 0
  s.wr EPH_COMPACT_STAT.RESULT code

/-- R364: a step completes with a code of the flash; the next begins. Step 2 waits while a captured slot carries a
change not yet committed, and does not start while the current header is staged; step 4 is the commit record's. -/
def State.compactStep (s : State) (code : Nat) : State :=
  let st := s.rd EPH_COMPACT_STAT.STEP
  if st = 0 ∨ st = 4 then s
  else if code ≠ ccOk ∧ st < 4 then s.compactFail code
  else if code ≠ ccOk then s
  else if st = 1 then (if s.on EPH_STAT.STAGED then s else s.wr EPH_COMPACT_STAT.STEP 2)
  else if st = 2 then
    (if s.eph.journal.any (fun e => decide (e.stage < 2) && s.eph.compSectors.contains (e.slot / 32)) then s
     else s.wr EPH_COMPACT_STAT.STEP 3)
  else if st = 3 then
    (match s.eph.commit with
     | some c => (s.ephCommitWrite { c with seq := c.seq + 1, folded := s.eph.compJ,
                                            root := s.ephRoot c (c.seq + 1) s.eph.compJ }).wr EPH_COMPACT_STAT.STEP 4
     | none => s.compactFail ccPrecondition)
  else if st = 5 then s.wr EPH_COMPACT_STAT.STEP 6
  else if st = 6 then s.wr EPH_COMPACT_STAT.STEP 7
  else
    let s := (s.wr EPH_COMPACT_STAT.STEP 0).wr EPH_STAT.COMPACTING 0
    s.wr EPH_STAT.STAGED 0

def execCompactionStepDone (t code : Nat) (s : State) : Answer := happen t s (fun s => s.compactStep code)

/-! ## Unit reset (R368) and reading (EPH_REC_DATA) -/

/-- R368: requests complete, claims are released and their sessions end, and INIT reloads the store. -/
def State.ephUnitReset (s : State) : State :=
  let s := s.eph.waiting.foldl (fun a w => a.complete w.1 w.2 poolEph ccTargetReset 0 []) s
  let s := s.eph.changes.foldl (fun a c => a.ephRefuse c 0 ccTargetReset 0) s
  let s := (s.eph.journal.filter (fun e => decide (e.stage < 2))).foldl
    (fun a e => a.ephAnswer e.dest e.op 0 ccTargetReset e.slot) s
  let gone := (s.eph.journal.filter (fun e => decide (e.stage < 2))).map (·.jseq)
  let mine := fun (w : PltWrite) => match w.tag with
    | .journalBody j => gone.contains j
    | .journalCommit j => gone.contains j
    | _ => false
  let s := { s with plt := { s.plt with queue := s.plt.queue.filter (fun w => w.active || !mine w) } }
  let held := s.eph.claims.filter (fun q => q.device == s.device)
  let s := held.foldl (fun a q => if a.live q.session q.gen then a.abort q.session ccTargetReset else a) s
  s.ephLoad

/-- EPH_REC_DATA: a word of a record; 0 for a page not verified. -/
def State.recData (s : State) : Nat × State :=
  let slot := s.rd EPH_REC_ADDR.SLOT
  let w := s.rd EPH_REC_ADDR.WORD
  let v := if s.ephOk (slot / 8) then leAt (s.ephRec slot) (4 * w) 4 else 0
  let next := slot * 32 + w + 1
  (v, (s.wr EPH_REC_ADDR.WORD (next % 32)).wr EPH_REC_ADDR.SLOT (next / 32))

end Sys2Proof.Machine
end

