-- ==== Sys2Proof/Machine/HelSolve.lean ====
section
/-! DEFINITION. The zone solver of R100 and the scale factor of R93, in rational arithmetic cut to a fixed grid (the
precision is the model's, log entry 9). -/

namespace Sys2Proof.Machine

/-- A complex number. -/
abbrev Cx := Rat × Rat

/-- The grid of complex work: 2^-60. -/
def cutFine (r : Rat) : Rat := ((r * 2 ^ 60).floor : Rat) / 2 ^ 60

def rootFine (r : Rat) : Rat := ((Nat.sqrt (r * 2 ^ 120).floor.toNat : Nat) : Rat) / 2 ^ 60

def Cx.add (a b : Cx) : Cx := (a.1 + b.1, a.2 + b.2)
def Cx.sub (a b : Cx) : Cx := (a.1 - b.1, a.2 - b.2)
def Cx.mul (a b : Cx) : Cx := (a.1 * b.1 - a.2 * b.2, a.1 * b.2 + a.2 * b.1)
def Cx.conj (a : Cx) : Cx := (a.1, -a.2)
def Cx.scale (k : Rat) (a : Cx) : Cx := (k * a.1, k * a.2)
def Cx.sq (a : Cx) : Rat := a.1 * a.1 + a.2 * a.2
def Cx.abs (a : Cx) : Rat := rootFine (Cx.sq a)
def Cx.cut (a : Cx) : Cx := (cutFine a.1, cutFine a.2)
def Cx.inv (a : Cx) : Cx := (a.1 / Cx.sq a, -a.2 / Cx.sq a)

def Cx.sum (l : List Cx) : Cx := l.foldl Cx.add (0, 0)

/-- Gauss–Jordan elimination over complex rows; none when a pivot vanishes. -/
def cxElim : Nat → Nat → List (List Cx) → Option (List (List Cx))
  | 0, _, m => some m
  | n + 1, c, m =>
    let at' := fun (r : Nat) => (m.getD r []).getD c (0, 0)
    let p := ((List.range m.length).filter (fun r => decide (c ≤ r))).foldl
      (fun b r => if Cx.sq (at' b) < Cx.sq (at' r) then r else b) c
    if Cx.sq (at' p) * 2 ^ 100 < 1 then none
    else
      let k := Cx.inv (at' p)
      let row := (m.getD p []).map (fun x => Cx.cut (Cx.mul k x))
      let sw := (m.set p (m.getD c [])).set c row
      let m' := (List.range m.length).map (fun r =>
        let x := sw.getD r []
        if r = c then x
        else List.zipWith (fun a b => Cx.cut (Cx.sub a (Cx.mul (x.getD c (0, 0)) b))) x row)
      cxElim n (c + 1) m'

/-- The solution of a square complex system. -/
def cxSolve (m : List (List Cx)) (v : List Cx) : Option (List Cx) :=
  (cxElim m.length 0 (List.zipWith (fun r x => r ++ [x]) m v)).map (fun l => l.map (fun r => r.getD m.length (0, 0)))

/-- A point as the solver takes it: inside or outside, and its sensitivities in the order of the channels. -/
structure SolvePt where
  inside : Bool
  sens : List Cx

/-- The weighted least-norm currents that give the active points their targets (R100). -/
def minNorm (w : List Rat) (act : List (List Cx × Cx)) : Option (List Cx) :=
  let wc := fun (row : List Cx) => List.zipWith (fun s k => Cx.scale (1 / k) (Cx.conj s)) row w
  let m := act.map (fun a => act.map (fun b => Cx.sum (List.zipWith Cx.mul a.1 (wc b.1))))
  (cxSolve m (act.map (·.2))).map (fun lam =>
    (List.range w.length).map (fun c =>
      Cx.cut (Cx.sum (List.zipWith (fun (a : List Cx × Cx) l => Cx.mul ((wc a.1).getD c (0, 0)) l) act lam))))

/-- One solve (R100): the currents and the iterations used, none for INFEASIBLE. -/
def zoneSolve (w : List Rat) (pts : List SolvePt) (hIn hOut tol : Rat) :
    Nat → Nat → List Nat → List Cx → Option (List Cx × Nat)
  | 0, _, _, _ => none
  | fuel + 1, it, act, t =>
    let rows := act.map (fun p => ((pts[p]?).map (·.sens)).getD [])
    match minNorm w (List.zip rows t) with
    | none => none
    | some i =>
      let f := pts.map (fun p => Cx.sum (List.zipWith Cx.mul p.sens i))
      let viol := List.zipWith (fun (p : SolvePt) x =>
        if p.inside then (hIn - Cx.abs x) / hIn else if hOut = 0 then Cx.abs x else (Cx.abs x - hOut) / hOut) pts f
      let worst := (List.range pts.length).foldl (fun b k => if viol.getD b 0 < viol.getD k 0 then k else b) 0
      if viol.getD worst 0 ≤ tol then some (i, it + 1)
      else
        let act' := if act.contains worst then act else act ++ [worst]
        let t' := act'.map (fun q =>
          let b := if ((pts[q]?).map (·.inside)).getD true then hIn else hOut
          let x := f.getD q (0, 0)
          let a := Cx.abs x
          if a = 0 then (b, 0) else Cx.cut (Cx.scale (b / a) x))
        zoneSolve w pts hIn hOut tol fuel (it + 1) act' t'

/-- π. -/
def piRat : Rat := 3141592653589793238462643 / 1000000000000000000000000

/-- The arctangent of a small number. -/
def atanSmall (x : Rat) : Rat :=
  (List.range 14).foldl (fun a k =>
    a + cutFine ((if k % 2 = 0 then 1 else -1) * x ^ (2 * k + 1) / ((2 * k + 1 : Nat) : Rat))) 0

/-- The angle of a complex number in degrees, by four halvings. -/
def argDeg (a : Cx) : Rat :=
  let half := fun (u : Rat) => cutFine (u / (1 + rootFine (1 + u * u)))
  let r := Cx.abs a
  if r = 0 then 0
  else if r + a.1 = 0 then 180
  else 16 * atanSmall (half (half (half (cutFine (a.2 / (r + a.1)))))) * 180 / piRat

/-- The cosine of an angle in degrees, by three doublings. -/
def cosDeg (d : Rat) : Rat :=
  let x := cutFine (d * piRat / (180 * 8))
  let c := (List.range 10).foldl (fun (a : Rat × Rat) k =>
    (a.1 + a.2, cutFine (-(a.2 * x * x) / (((2 * k + 1) * (2 * k + 2) : Nat) : Rat)))) (0, 1)
  let dbl := fun (c : Rat) => cutFine (2 * c * c - 1)
  dbl (dbl (dbl c.1))

/-- A phase code: units of 0.05°, modulo 7,200 (R100). -/
def phaseCode (a : Cx) : Nat := ((ratRound (argDeg a * 20)) % 7200).toNat

/-- A number in units of 10^-9. -/
def toNano (a : Cx) : Int × Int := (ratRound (a.1 * 1000000000), ratRound (a.2 * 1000000000))

/-- The magnitude of a pair of integers. -/
def pairAbs (p : Int × Int) : Rat := Cx.abs (p.1, p.2)

/-- V_FS in nV from the bridge supply in mV (R73). -/
def vfsNano (mv : Nat) : Rat := 4 * mv * 1000000 / piRat

/-- AMP and PHASE of a voltage in nV under a level in 1/1024 (R100, R93), not cut. -/
def ampCode (vbr : Nat) (v : Int × Int) (kq : Nat) : Nat :=
  if vbr = 0 then 0 else (ratRound (4095 * pairAbs v * kq / (1024 * vfsNano vbr))).toNat

end Sys2Proof.Machine
end

