-- ==== Sys2Proof/Machine/HelOps.lean ====
section
/-! DEFINITION. What HEL and LFP share: the hop set, the coupling matrix, zone states and their scale, and the queues of
columns and solves (R84–R103, R112, R123–R125). -/

namespace Sys2Proof.Machine

/-! ## The hop set (R98, R123) -/

/-- Hop carrier k in force, in units of 0.1 Hz. -/
def State.hopCar (s : State) (k : Nat) : Nat :=
  clampTo 200000 1500000 (SMap.get s.lfp.hopOld k (s.rd LFP_HOP.CARRIER k))

/-- The carrier lies in the LF band of the locks. -/
def State.hopPermit (s : State) (k : Nat) : Bool :=
  let lo := s.rd HEL_LOCK_STAT.F_LO
  let hi := s.rd HEL_LOCK_STAT.F_HI
  decide (lo * 1000 ≤ s.hopCar k) && decide (s.hopCar k ≤ hi * 1000) && decide (0 < hi)

/-- A carrier that may be chosen: permitted, and no lower index holds the same. -/
def State.hopUsable (s : State) (k : Nat) : Bool :=
  s.hopPermit k && !(List.range k).any (fun q => s.hopCar q == s.hopCar k)

def State.usableHops (s : State) : List Nat := (List.range 3).filter s.hopUsable

/-- HOP_PERMIT; a carrier that becomes blocked is raised (R123). -/
def State.hopReg (s : State) : State :=
  let m := bitMap ((List.range 3).filter s.hopPermit)
  let blocked := (List.range 3).any (fun k => bit (s.rd LFP_STAT.HOP_PERMIT) k && !bit m k)
  let s := s.wr LFP_STAT.HOP_PERMIT m
  if blocked then s.irq LFP_IRQ_STAT.CARRIER_BLOCKED else s

/-- The centre carrier of the hop set: the middle one of the three (R81). -/
def State.hopCentre (s : State) : Nat :=
  (sortBy (fun a b => decide (a ≤ b)) ((List.range 3).map s.hopCar)).getD 1 0

/-- Ticks of a carrier cycle, times 1024. -/
def State.cycle1024 (s : State) (k : Nat) : Nat := 638976000000 * 1024 / s.hopCar k

/-- Ticks of n cycles. -/
def cyclesT (c n : Nat) : Nat := c * n / 1024

/-! ## Channels and zones -/

/-- Channel n is quarantined. -/
def State.quarantined (s : State) (n : Nat) : Bool :=
  if n < 32 then bit (s.rd HEL_QUAR_LO.QUAR) n else bit (s.rd HEL_QUAR_HI.QUAR) (n - 32)

def State.setQuar (s : State) (n : Nat) (b : Bool) : State :=
  let s := if n < 32 then s.wr HEL_QUAR_LO.QUAR (setBit (s.rd HEL_QUAR_LO.QUAR) n b)
    else s.wr HEL_QUAR_HI.QUAR (setBit (s.rd HEL_QUAR_HI.QUAR) (n - 32) b)
  s.wr HEL_STAT.CH_QUAR (popCount (s.rd HEL_QUAR_LO.QUAR) 32 + popCount (s.rd HEL_QUAR_HI.QUAR) 32)

def State.zoneProg (s : State) (z : Nat) : Option ZoneProg := SMap.find s.hel.progs z

/-- The mode of a channel (R80): one whose bridge is not fitted stays OFF. -/
def State.chMode (s : State) (n : Nat) : Nat := if s.on PIN_LF_CFG.FITTED n then s.rd HEL_CH_CTL.MODE n else 1

/-- A channel takes no part: quarantined, its release calibration still runs (R103), or OFF. -/
def State.chanOut (s : State) (n : Nat) : Bool := s.quarantined n || s.hel.release.contains n || s.chMode n == 1

/-- The channels of a zone that take part. -/
def State.zoneChans (s : State) (z : Nat) : List Nat :=
  match s.zoneProg z with
  | some p => (bitList p.mask 64).filter (fun n => !s.chanOut n)
  | none => []

def State.zoneEnabled (s : State) (z : Nat) : Bool := bit (s.rd HEL_ZONE_CTL.ENABLE) z

/-- Zones that use a channel. -/
def State.zonesOf (s : State) (n : Nat) : List Nat :=
  (s.hel.progs.filter (fun p => bit p.2.mask n)).map (·.1)

/-! ## The matrix (R84–R86) -/

def zKey (k i j : Nat) : Nat := 4096 * k + 64 * i + j

def State.zAt (s : State) (k i j : Nat) : Int × Int := SMap.get s.hel.z (zKey k i j) (0, 0)

def sqInt (p : Int × Int) : Int := p.1 * p.1 + p.2 * p.2

/-- |Z_ij| ≥ NEIGH × |Z_ii|. -/
def State.near (s : State) (k i j : Nat) : Bool :=
  let th : Int := clampTo 1 255 (s.rd HEL_DRIFT_CFG.NEIGH)
  decide (th * th * sqInt (s.zAt k i i) ≤ 1000000 * sqInt (s.zAt k i j)) && decide (0 < sqInt (s.zAt k i j))

/-- The measurement set of a column (R84). -/
def State.measSet (s : State) (k j : Nat) : List Nat :=
  if s.on HEL_STAT.MATRIX_VALID then (List.range 64).filter (fun i => i == j || s.near k i j) else List.range 64

/-- MATRIX_VALID, MEAS_PEND and the busy bits. -/
def State.helStat (s : State) : State :=
  let all := s.usableHops.all (fun k => (List.range 64).all (fun j => s.hel.done.contains (64 * k + j)))
  let s := s.flag HEL_STAT.MATRIX_VALID (all && !s.usableHops.isEmpty)
  let pend := bitMap ((s.hel.cols.map (·.ch)).dedup)
  let s := (s.wr HEL_MEAS_PEND_LO.PEND (bits pend 31 0)).wr HEL_MEAS_PEND_HI.PEND (bits pend 63 32)
  let s := s.flag HEL_STAT.MEAS_BUSY s.hel.slot.isSome
  let s := s.flag HEL_STAT.SOLVE_BUSY (!s.hel.solves.isEmpty)
  s.flag HEL_STAT.CAL_BUSY (!s.hel.calQ.isEmpty)

/-- Queue a column once, by its rank (R89). -/
def State.queueCol (s : State) (rank k j : Nat) : State :=
  if s.hel.cols.any (fun c => c.car == k && c.ch == j) then s
  else
    let before := s.hel.cols.filter (fun c => decide (c.rank ≤ rank))
    let after := s.hel.cols.filter (fun c => decide (rank < c.rank))
    { s with hel := { s.hel with cols := before ++ [({ rank := rank, car := k, ch := j } : HelCol)] ++ after,
                                 slotSince := some (s.hel.slotSince.getD s.now) } }

/-- Queue every column at the carriers given. -/
def State.queueCols (s : State) (rank : Nat) (ks : List Nat) : State :=
  let s := ks.foldl (fun (a : State) k => (List.range 64).foldl (fun (b : State) j => b.queueCol rank k j) a) s
  s.helStat

/-! ## Scale (R93–R96) -/

/-- The effective lock and ceiling of a channel in mA. -/
def State.lockMa (s : State) (n : Nat) : Nat := s.rd HEL_CH_LIMIT.LOCK_MA n
def State.ceilMa (s : State) (n : Nat) : Nat := min (min (s.rd HEL_CH_LIMIT.CEIL_MA n) 4000) (s.lockMa n)

/-- The quotient in 1/1024, cut at 1024; 1024 when there is no current. -/
def kOf (limit : Rat) (a : Rat) : Nat := if a = 0 then 1024 else min 1024 (1024 * limit / a).floor.toNat

/-- kq and PIN_SRC of a solution: 3 LOCK, 2 CEIL, 1 SAT, 0 none (R93). -/
def State.scale (s : State) (l : List ChSol) : Nat × Nat :=
  let m := fun (f : ChSol → Nat) => l.foldl (fun a c => min a (f c)) 1024
  let kl := m (fun c => kOf ((s.lockMa c.ch : Nat) * 1000000) (pairAbs c.i))
  let kc := m (fun c => kOf ((s.ceilMa c.ch : Nat) * 1000000) (pairAbs c.i))
  let ks := m (fun c => kOf (vfsNano (s.rd HEL_CH_BRIDGE.VBR_MV c.ch)) (pairAbs c.v))
  let kq := min kl (min kc ks)
  (kq, if kq = 1024 then 0 else if kl = kq then 3 else if kc = kq then 2 else 1)

/-! ## Zone states (R90, R102, R125) -/

def State.zoneSol (s : State) (z k : Nat) : Option ZoneSol := SMap.find s.hel.sols (4 * z + k)

/-- The zone is solved at a carrier. -/
def State.solvedAt (s : State) (z k : Nat) : Bool :=
  match s.zoneSol z k with
  | some x => x.code == ccOk
  | none => false

/-- NOISE of a carrier, 0 dB while STALE (R124). -/
def State.noise (s : State) (k : Nat) : Int :=
  if s.on LFP_NOISE.STALE k then 0 else toSigned 16 (s.rd LFP_NOISE.NOISE k)

/-- The usable carrier at which a zone is solved with the lowest NOISE, the tried ones left out (R125, R126). -/
def State.pickCar (s : State) (z : Nat) (tried : List Nat) : Option Nat :=
  (s.usableHops.filter (fun k => s.solvedAt z k && !tried.contains k)).foldl (fun (b : Option Nat) k =>
    match b with
    | none => some k
    | some q => if s.noise k < s.noise q then some k else b) none

/-- The carrier LFP uses in a zone: the last one used, or the one it would start on. -/
def State.activeCar (s : State) (z : Nat) : Nat :=
  match SMap.find s.hel.zoneCar z with
  | some k => k
  | none => (s.pickCar z []).getD 0

/-- State and RESULT of a zone (R102). -/
def State.judgeZone (s : State) (z : Nat) : Nat × Nat :=
  match s.zoneProg z with
  | none => (0, s.rd HEL_ZONE_STAT.RESULT z)
  | some p =>
    let ks := s.usableHops
    if ks.isEmpty then (4, ccRegLimit)
    else
      match (ks.filterMap (s.zoneSol z)).find? (fun x => x.code ≠ ccOk) with
      | some x => (4, x.code)
      | none =>
        if !ks.all (s.solvedAt z) then (1, s.rd HEL_ZONE_STAT.RESULT z)
        else if (bitList p.mask 64).any s.chanOut then (3, ccOk) else (2, ccOk)

/-- SOL registers of a zone at its active carrier. -/
def State.solRegs (s : State) (z : Nat) : State :=
  let l := match s.zoneSol z (s.activeCar z) with
    | some x => x.chans
    | none => []
  (List.range 64).foldl (fun (a : State) n =>
    match l.find? (fun c => c.ch == n) with
    | some c =>
      let amp := ampCode (a.rd HEL_CH_BRIDGE.VBR_MV n) c.v 1024
      ((a.wr HEL_CH_SOL.VALID 1 n z).wr HEL_CH_SOL.AMP (min amp 0xFFF) n z).wr HEL_CH_SOL.PHASE (phaseCode (c.v.1, c.v.2)) n z
    | none => ((a.wr HEL_CH_SOL.VALID 0 n z).wr HEL_CH_SOL.AMP 0 n z).wr HEL_CH_SOL.PHASE 0 n z) s

/-- K, PIN_SRC and SHORT of a zone from a level and its source; a change of the source is a pin event (R93, R95). -/
def State.setPin (s : State) (z kq src : Nat) : State :=
  let mIn := match s.zoneProg z with
    | some p => if p.mIn = 0 then min 200 (s.rd HEL_SOLVE_CFG.M_IN) else p.mIn
    | none => 0
  let event := decide (src ≠ 0) && s.rd HEL_ZONE_STAT.PIN_SRC z != src
  let s := (s.wr HEL_ZONE_STAT.K kq z).wr HEL_ZONE_STAT.PIN_SRC src z
  let s := s.flag HEL_ZONE_STAT.SHORT (decide (kq * (100 + mIn) < 1024 * 100)) z
  let s := s.wr HEL_ZONE_PIN.PINNED (setBit (s.rd HEL_ZONE_PIN.PINNED) z (decide (src ≠ 0)))
  if event then (s.bump HEL_CNT_PIN.COUNT).irq HEL_IRQ_STAT.PIN else s

/-- Everything a zone's registers show, from its program, solutions and limits; entry to UNAVAILABLE is raised and
archived (R103). -/
def State.zoneRegs (s : State) (z : Nat) : State :=
  let was := s.rd HEL_ZONE_STAT.STATE z
  let (st, res) := s.judgeZone z
  let s := (s.wr HEL_ZONE_STAT.STATE st z).wr HEL_ZONE_STAT.RESULT res z
  let ready := decide (st = 2 ∨ st = 3)
  let s := s.wr HEL_ZONE_READY.READY (setBit (s.rd HEL_ZONE_READY.READY) z ready)
  let s := s.wr HEL_STAT.ZONES_READY (popCount (s.rd HEL_ZONE_READY.READY) 32)
  let (kq, src) := match s.zoneSol z (s.activeCar z) with
    | some x => if ready then s.scale x.chans else (1024, 0)
    | none => (1024, 0)
  let s := (s.setPin z kq src).solRegs z
  if st = 4 ∧ was ≠ 4 then
    (s.irq HEL_IRQ_STAT.UNAVAIL).archiveEvent 0x02 0 0 (leBytes 4 z ++ leBytes 4 res) res
  else s

/-- The columns of a zone at a carrier are all measured and none is queued (R90). -/
def State.colsReady (s : State) (z k : Nat) : Bool :=
  (s.zoneChans z).all (fun n => s.hel.done.contains (64 * k + n) &&
    !s.hel.cols.any (fun c => c.car == k && c.ch == n))

/-- Queue a solve of a zone at a carrier once its columns are complete. -/
def State.queueSolve (s : State) (z k : Nat) : State :=
  if (s.zoneProg z).isNone ∨ !s.hopUsable k ∨ !s.colsReady z k ∨ s.hel.solves.contains (z, k) then s
  else { s with hel := { s.hel with solves := s.hel.solves ++ [(z, k)] } }.helStat

/-- Re-solve a zone at every carrier (R90). -/
def State.resolveZone (s : State) (z : Nat) : State :=
  s.usableHops.foldl (fun (a : State) k => a.queueSolve z k) s

/-- A solution of a zone at a carrier is no longer one: the zone is UNSOLVED there (R123, R102). -/
def State.unsolve (s : State) (z k : Nat) : State :=
  { s with hel := { s.hel with sols := SMap.del s.hel.sols (4 * z + k) } }

/-- A change of the locks: the hop set and every zone judged again (R96, R98, R163). -/
def State.helLocks (s : State) : State :=
  let s := s.hopReg
  (s.hel.progs.map (·.1)).foldl (fun (a : State) z => a.zoneRegs z) s

/-! ## Channel states (R80) -/

def chIdle : Nat := 0
def chDrive : Nat := 1
def chClamp : Nat := 2
def chMeas : Nat := 3
def chCal : Nat := 4
def chTest : Nat := 5
def chQuar : Nat := 6
def chOff : Nat := 7

/-- The channel drives in an exchange. -/
def State.driving (s : State) (n : Nat) : Bool := s.lfp.ex.any (fun e => e.chans.contains n)

/-- The channel is held by the slot that runs. -/
def State.inSlot (s : State) (n : Nat) : Bool :=
  match s.hel.slot with
  | some x => x.cols.any (fun c => (s.measSet c.1 c.2).contains n)
  | none => false

/-- The reported state of a channel. -/
def State.chState (s : State) (n : Nat) : Nat :=
  let m := s.chMode n
  if s.hel.release.contains n then chCal
  else if s.quarantined n then chQuar
  else if m = 1 then chOff
  else if m = 2 then chClamp
  else if m = 3 then (if (SMap.find s.hel.testAt n).isSome then chTest else chOff)
  else if s.driving n then chDrive
  else
    match s.hel.slot with
    | some x =>
      if (x.cols.head?.map (·.2)) = some n then chMeas
      else if s.inSlot n then chClamp
      else chIdle
    | none => if s.hel.calQ.head? = some n then chCal else chIdle

/-- Report a channel's state. -/
def State.chReg (s : State) (n : Nat) : State := s.wr HEL_CH_STAT.STATE (s.chState n) n

/-- Report every channel's state, and MEASURING of the zones. -/
def State.chRegs (s : State) : State :=
  let s := (List.range 64).foldl (fun (a : State) n => a.chReg n) s
  s.hel.progs.foldl (fun (a : State) p =>
    a.flag HEL_ZONE_STAT.MEASURING ((bitList p.2.mask 64).any a.inSlot) p.1) s

/-- The listen set of a zone at a carrier (R112). -/
def State.listenSet (s : State) (z k : Nat) : List Nat :=
  let own := s.zoneChans z
  own ++ (List.range 64).filter (fun i => !own.contains i && !s.chanOut i && !s.driving i && own.any (fun j => s.near k i j))

/-- Mark the channels that listen. -/
def State.listenRegs (s : State) : State :=
  let on := (s.lfp.ex.flatMap (fun e => s.listenSet e.zone e.car)).dedup
  (List.range 64).foldl (fun (a : State) n => a.flag LFP_CH_STAT.RX (on.contains n) n) s

/-- Quarantine a channel (R77, R83, R103, R129): it leaves its zones, which are solved again; raised and archived. -/
def State.quarantine (s : State) (n : Nat) : State :=
  if s.quarantined n then s
  else
    let s := (s.setQuar n true).irq HEL_IRQ_STAT.QUAR
    let s := { s with hel := { s.hel with testAt := SMap.del s.hel.testAt n } }
    let s := s.archiveEvent 0x02 0 0 (leBytes 4 n ++ leBytes 4 1)
    let s := (s.zonesOf n).foldl (fun (a : State) z =>
      let a := (List.range 3).foldl (fun (b : State) k => b.unsolve z k) a
      (a.resolveZone z).zoneRegs z) s
    s.chReg n

/-- Queue a tuning calibration. -/
def State.queueCal (s : State) (n : Nat) : State :=
  if s.hel.calQ.contains n then s
  else { s with hel := { s.hel with calQ := s.hel.calQ ++ [n] } }.helStat

end Sys2Proof.Machine
end

