-- ==== Sys2Proof/Machine/LfpOps.lean ====
section
/-! DEFINITION. LF exchanges and wake windows as HEL and LFP act on them: ranking, commit, the ends of an exchange and
its stops (R78, R79, R107–R127). -/

namespace Sys2Proof.Machine

/-! ## Settings -/

/-- Body bits of a format, and µs of a bit cell at a rate (R110, R111). -/
def bodyBits (fmt : Nat) : Nat := if fmt = 0 then 32 else 64
def cellT (rate : Nat) : Nat := usT (1000 / 2 ^ (rate % 4))

def State.wakeWin (s : State) : Nat := msT (orOne (s.rd LFP_WAKE_CFG.WAKE_WIN))
def State.tryMax (s : State) : Nat := orOne (s.rd LFP_WAKE_CFG.TRY_MAX)
def State.hopGap (s : State) : Nat := usT (100 * max 10 (s.rd LFP_TIMING_CFG.HOP_GAP))
def State.eraseMax (s : State) : Nat := orOne (s.rd LFP_DROWN_CFG.ERASE_MAX)

/-- The end of the wake frame of an exchange, and the ends of its turnaround window (R108, R113). -/
def LfpEx.wakeEnd (e : LfpEx) : Nat := e.start + cyclesT e.cycle 400
def State.turnMax (s : State) : Nat := 4 * s.rd LFP_TIMING_CFG.TURN_MAX
def State.turnLo (s : State) (e : LfpEx) : Nat := e.wakeEnd + usT (min (s.rd LFP_TIMING_CFG.TURN_MIN) s.turnMax)
def State.turnHi (s : State) (e : LfpEx) : Nat := e.wakeEnd + usT s.turnMax

/-- The planned end of an exchange (R107, R113): one cell after the body, or after the window. -/
def State.plannedEnd (s : State) (e : LfpEx) : Nat :=
  match e.sof with
  | some a => a + cellT e.rate * (bodyBits e.fmt + 2)
  | none => s.turnHi e + cellT e.rate

/-! ## Events and registers -/

def lkDrown : Nat := 1
def lkCrc : Nat := 2
def lkCollision : Nat := 3
def lkLate : Nat := 4
def lkVoid : Nat := 5
def lkCfault : Nat := 6
def lkSkip : Nat := 7

/-- LFP_EVT_CODE and its event; `arg` is what R126 and R132 have the event carry. -/
def State.lfpEvent (s : State) (kind car ch zone : Nat) (entry : Option Nat) (session arg : Nat) : State :=
  let w := kind * 2 ^ 28 + car * 2 ^ 24 + ch * 2 ^ 16 + zone * 2 ^ 8 + (entry.isNone).toNat * 2 ^ 7 + entry.getD 0
  let s := s.wrWord LFP_EVT_CODE.REG w
  let s := s.wr64 LFP_EVT_STAMP_LO.STAMP LFP_EVT_STAMP_HI.STAMP s.now
  let s := match entry with
    | some e => s.wr LFP_SCHED_STAT.LAST_KIND kind e
    | none => s
  s.post (s.source 0x03 0) 2 0 session w arg

def State.lfpStat (s : State) : State :=
  let s := s.wr LFP_STAT.EXCH_ACTIVE (min 255 s.lfp.ex.length)
  s.wr LFP_STAT.DIRECTED_PEND (min 255 (s.lfp.wins.filter (fun w => w.entry.isNone)).length)

def State.exOf (s : State) (z : Nat) : Option LfpEx := s.lfp.ex.find? (fun e => e.zone == z)

def State.updEx (s : State) (z : Nat) (f : LfpEx → LfpEx) : State :=
  { s with lfp := { s.lfp with ex := s.lfp.ex.map (fun e => if e.zone = z then f e else e) } }

def State.winOf (s : State) (n : Nat) : Option LfpWin := s.lfp.wins.find? (fun w => w.session == n)

def State.updWin (s : State) (n : Nat) (f : LfpWin → LfpWin) : State :=
  { s with lfp := { s.lfp with wins := s.lfp.wins.map (fun w => if w.session = n then f w else w) } }

def State.dropWin (s : State) (n : Nat) : State :=
  { s with lfp := { s.lfp with wins := s.lfp.wins.filter (fun w => w.session != n) } }.lfpStat

/-- A hop carrier written takes effect once no exchange uses the old one (R123): every zone is UNSOLVED there, and its
columns are queued at the new carrier. -/
def State.hopApply (s : State) : State :=
  (List.range 3).foldl (fun (a : State) k =>
    match SMap.find a.lfp.hopOld k with
    | none => a
    | some _ =>
      if a.lfp.ex.any (fun e => e.car == k) then a
      else
        let a := { a with lfp := { a.lfp with hopOld := SMap.del a.lfp.hopOld k },
                          hel := { a.hel with done := a.hel.done.filter (fun q => q / 64 ≠ k)
                                              solves := a.hel.solves.filter (fun p => p.2 ≠ k) } }
        let a := a.hopReg
        let zs := a.hel.progs.map (·.1)
        let a := zs.foldl (fun (b : State) z => b.unsolve z k) a
        let a := if a.hopUsable k then a.queueCols 1 [k] else a.helStat
        zs.foldl (fun (b : State) z => (b.resolveZone z).zoneRegs z) a) s

/-- An exchange leaves: its channels stop driving. -/
def State.exLeave (s : State) (z : Nat) : State :=
  let s := { s with lfp := { s.lfp with ex := s.lfp.ex.filter (fun e => e.zone ≠ z) } }
  ((s.chRegs).listenRegs.lfpStat).hopApply

/-- The PEND bit of a void exchange's session is cleared (R131, R260). -/
def State.voidDone (s : State) (e : LfpEx) : State :=
  if s.live e.session e.gen then (s.updCtx e.session (fun c => c.setPend pendLfp false)).freeIfDone e.session else s

/-! ## Windows -/

/-- The window has ended or its exchanges are used up (R119). -/
def State.winOver (s : State) (w : LfpWin) : Bool :=
  (w.pauseFrom.isNone && decide (s.now ≥ w.since + w.paused + s.wakeWin)) || decide (w.tries ≥ s.tryMax)

/-- An exchange of a session runs. -/
def State.exRuns (s : State) (n gen : Nat) : Bool := s.lfp.ex.any (fun e => e.owned && e.session == n && e.gen == gen)

/-- After an exchange that yields no valid reply: the window ends with TIMEOUT, or the wake is sent again no sooner than
HOP_GAP later (R119). -/
def State.afterMiss (s : State) (n : Nat) : State :=
  match s.winOf n with
  | none => s
  | some w =>
    if s.winOver w ∧ !s.exRuns n w.gen then (s.dropWin n).abort n ccTimeout
    else s.updWin n (fun w => { w with next := s.now + s.hopGap })

/-- A poll that draws no SOF returns its owner unused (R118). -/
def State.pollUnused (s : State) (e : LfpEx) : State :=
  let s := s.dropWin e.session
  let s := s.updCtx e.session (fun c => c.setPend pendLfp false)
  if s.live e.session e.gen then s.returnUnused e.session else s

/-! ## Stops (R78, R79, R97, R106, R133) -/

/-- The burst of a zone is stopped: its channels stop within one carrier cycle, and the session whose wake used it
completes with the code. -/
def State.stopBurst (s : State) (z code : Nat) : State :=
  match s.exOf z with
  | none => s
  | some e =>
    let s := s.exLeave z
    if !e.owned then s
    else if e.void then s.voidDone e
    else (s.dropWin e.session).abort e.session code

/-- The burst that a channel drives in is stopped. -/
def State.stopChan (s : State) (n code : Nat) : State :=
  match s.lfp.ex.find? (fun e => e.chans.contains n) with
  | some e => s.stopBurst e.zone code
  | none => s

/-! ## Ranking (R120, R121) -/

/-- Work that waits for an opportunity: its rank, the stamp it is ranked by, its zone and entry, and its session when it
has a window. -/
structure LfpItem where
  rank : Nat
  at' : Nat
  zone : Nat
  entry : Nat
  win : Option Nat
deriving DecidableEq, Repr

def LfpItem.before (a b : LfpItem) : Bool :=
  if a.rank ≠ b.rank then decide (a.rank < b.rank)
  else if a.at' ≠ b.at' then decide (a.at' < b.at')
  else if a.zone ≠ b.zone then decide (a.zone < b.zone)
  else decide (a.entry ≤ b.entry)

/-- The columns the next slot would take (R91). -/
def State.slotCols (s : State) : List HelCol := s.hel.cols.take (clampTo 1 16 (s.rd HEL_AMB_CFG.MEAS_SLOT))

/-- The channels of the measurement sets of the next slot. -/
def State.slotChans (s : State) : List Nat := (s.slotCols.flatMap (fun c => s.measSet c.car c.ch)).dedup

/-- The zone takes bursts: enabled, and READY or DEGRADED (R102). -/
def State.zoneUp (s : State) (z : Nat) : Bool :=
  s.zoneEnabled z && bit (s.rd HEL_ZONE_READY.READY) z

/-- The polls and windows that are ready to be started now. -/
def State.lfpItems (s : State) : List LfpItem :=
  let ws := (s.lfp.wins.filter (fun w => !s.exRuns w.session w.gen && decide (w.next ≤ s.now) && !s.winOver w &&
      w.pauseFrom.isNone && s.zoneUp w.zone)).map (fun w =>
    ({ rank := if w.deferred then 1 else if w.entry.isNone then 3 else 5, at' := w.since, zone := w.zone,
       entry := w.entry.getD 0, win := some w.session } : LfpItem))
  let ps := (s.lfp.polls.filter (fun p => p.isDue && s.zoneUp (s.rd LFP_SCHED_CTL.ZONE p.entry))).map (fun p =>
    ({ rank := if p.deferred then 1 else 5, at' := p.due, zone := s.rd LFP_SCHED_CTL.ZONE p.entry, entry := p.entry,
       win := none } : LfpItem))
  sortBy LfpItem.before (ws ++ ps)

/-- An exchange of a zone may start beside those that run (R121). -/
def State.zoneFree (s : State) (z : Nat) : Bool :=
  let cs := s.zoneChans z
  !cs.any s.inSlot && s.hel.calQ.head?.all (fun n => !cs.contains n) &&
  s.lfp.ex.all (fun e => e.zone != z && !cs.any e.chans.contains && bit (s.rd LFP_ISO.ISO z) e.zone &&
    bit (s.rd LFP_ISO.ISO e.zone) z)

/-- The first item in rank order that can start: an item that waits for its channels keeps them from later ones, and so
does a measurement slot that waits at its rank (R120). -/
def State.pickItem (s : State) (slotRank : Nat) : List LfpItem → List Nat → Bool → Option LfpItem
  | [], _, _ => none
  | i :: r, blocked, seen =>
    let hold := !seen && decide (slotRank < i.rank)
    let blocked := if hold then blocked ++ s.slotChans else blocked
    let seen := seen || hold
    let cs := s.zoneChans i.zone
    if s.zoneFree i.zone && !cs.any blocked.contains then some i
    else s.pickItem slotRank r (blocked ++ cs) seen

/-- The rank of the slot that waits: 2 from 200 ms on, 4 before, 9 when none is asked for. -/
def State.slotRank (s : State) : Nat :=
  match s.hel.slotSince with
  | some a => if s.hel.slot.isSome ∨ s.hel.cols.isEmpty then 9 else if s.now ≥ a + msT 200 then 2 else 4
  | none => 9

/-! ## Commit (R125, R131) -/

/-- Put an exchange on the air at carrier k: its first gate edge follows one carrier cycle later. -/
def State.putEx (s : State) (z k : Nat) (entry : Option Nat) (own : Option (Nat × Nat)) (rate fmt : Nat)
    (arb : Bool) : State :=
  let cyc := s.cycle1024 k
  let chans := s.zoneChans z
  let sol := match s.zoneSol z k with
    | some x => x.chans
    | none => []
  let s := { s with hel := { s.hel with zoneCar := SMap.put s.hel.zoneCar z k, ramp := SMap.del s.hel.ramp z } }
  let s := s.zoneRegs z
  let kq := s.rd HEL_ZONE_STAT.K z
  let e : LfpEx := { zone := z, entry := entry, owned := own.isSome, session := (own.map (·.1)).getD noSession,
                     gen := (own.map (·.2)).getD 0, car := k, start := s.now + cyclesT cyc 1, cycle := cyc, arb := arb,
                     fmt := fmt, rate := rate, chans := chans, sol := sol, kq := kq }
  let s := { s with lfp := { s.lfp with ex := s.lfp.ex ++ [e] } }
  let s := sol.foldl (fun (a : State) c =>
    let a := a.wr HEL_CH_AMP.AMP_APPLIED (min 4095 (ampCode (a.rd HEL_CH_BRIDGE.VBR_MV c.ch) c.v kq)) c.ch
    let a := a.wr HEL_CH_PHASE.PHASE_APPLIED (phaseCode (c.v.1, c.v.2)) c.ch
    (a.flag HEL_CH_STAT.LIMITED (decide (kq < 1024)) c.ch).flag HEL_CH_STAT.SAT false c.ch) s
  let s := { s with hel := { s.hel with corr := sol.foldl (fun m (c : ChSol) => SMap.del m c.ch) s.hel.corr } }
  ((s.bump LFP_CNT_WAKE.COUNT).chRegs).listenRegs.lfpStat

/-- The owner's session sees its first exchange committed (R269). -/
def State.ownerWakes (s : State) (n : Nat) : State :=
  if (s.ctx n).state = ssIdle then s.enterWake n else s

/-- Commit the exchange of a window. -/
def State.commitWin (s : State) (w : LfpWin) : State :=
  let k := match w.keep with
    | some k => if s.hopUsable k && s.solvedAt w.zone k then some k else s.pickCar w.zone w.tried
    | none => s.pickCar w.zone w.tried
  match k with
  | none => s
  | some k =>
    let s := s.putEx w.zone k w.entry (some (w.session, w.gen)) w.rate w.fmt w.arb
    let s := s.updWin w.session (fun w => { w with tries := w.tries + 1, keep := none, hop := false, deferred := false })
    s.ownerWakes w.session

/-- A poll is not sent (R118, R122): counted and raised; its owner, if any, becomes FREE with no record. -/
def State.skipPoll (s : State) (p : LfpPoll) : State :=
  let s := { s with lfp := { s.lfp with polls := s.lfp.polls.erase p } }
  let z := s.rd LFP_SCHED_CTL.ZONE p.entry
  let s := (s.bump LFP_CNT_DEFER.SKIPPED).irq LFP_IRQ_STAT.SKIP
  let s := s.lfpEvent lkSkip (s.rd LFP_SCHED_STAT.LAST_CARRIER p.entry) 0 z (some p.entry) noSession 0
  match p.owner with
  | some (n, g) => if s.live n g then (s.updCtx n (fun c => c.setPend pendLfp false)).returnUnused n else s
  | none => s

/-- Commit a poll that is due: on its HOME carrier where R125 allows; without an owner it is skipped, but in S3. -/
def State.commitPoll (s : State) (p : LfpPoll) : State :=
  let e := p.entry
  let z := s.rd LFP_SCHED_CTL.ZONE e
  let watch := decide (s.pwrState = psS3 ∧ e = s.rd LFP_CTL.S3_ENTRY)
  let owner := match p.owner with
    | some (n, g) => if s.live n g then some (n, g) else none
    | none => none
  if owner.isNone && !watch then s.skipPoll p
  else
    let home := s.rd LFP_SCHED_CTL.HOME e
    let k := if home < 3 ∧ s.hopUsable home ∧ s.solvedAt z home ∧ !p.tried.contains home then some home
      else s.pickCar z p.tried
    match k with
    | none => s
    | some k =>
      let s := { s with lfp := { s.lfp with polls := s.lfp.polls.erase p } }
      let rate := s.rd LFP_SCHED_CTL.RATE e
      let fmt := s.rd LFP_SCHED_CTL.FMT e
      let s := s.putEx z k (some e) owner rate fmt false
      let s := (s.bump LFP_SCHED_CNT.POLLS e).wr LFP_SCHED_STAT.LAST_CARRIER k e
      let s := (s.wr LFP_SCHED_STAT.LAST_DELAY_US (min 0xFFFF ((s.now - p.due) * 10 / ticksPerUs10)) e).wr LFP_SCHED_STAT.LAST_KIND 0 e
      match owner with
      | none => s
      | some (n, g) =>
        let w : LfpWin := { session := n, gen := g, zone := z, entry := some e, wakeId := s.rd LFP_SCHED_CTL.WAKE_ID e,
                            rate := rate, md := s.rd LFP_SCHED_CTL.MOD e, fmt := fmt, since := s.now, tries := 1,
                            tried := p.tried }
        { s with lfp := { s.lfp with wins := s.lfp.wins ++ [w] } }.ownerWakes n

/-- Start the highest-ranked work that can start. -/
def State.opportunity (s : State) : State :=
  match s.pickItem s.slotRank s.lfpItems [] false with
  | none => s
  | some i =>
    match i.win with
    | some n =>
      match s.winOf n with
      | some w => s.commitWin w
      | none => s
    | none =>
      match s.lfp.polls.find? (fun p => p.isDue && p.entry == i.entry) with
      | some p => s.commitPoll p
      | none => s

/-! ## Drowned frames (R126, R134) -/

/-- The strongest spur, as LFP_SPUR[0] reads. -/
def State.topSpur (s : State) : Nat := s.word LFP_SPUR.REG 0

/-- An exchange is drowned and dropped: the burst ends; with an owner after an SOF, and for every directed wake, the
carrier is tried and the wake hops, or the session completes with INTERFERENCE. -/
def State.drowned (s : State) (e : LfpEx) : State :=
  let s := (s.bump LFP_CNT_DROWN.COUNT).irq LFP_IRQ_STAT.DROWN
  let s := s.lfpEvent lkDrown e.car 0 e.zone e.entry e.session s.topSpur
  let s := s.exLeave e.zone
  if !e.owned then
    if e.sof.isSome ∧ s.pwrState = psS3 then
      { s with lfp := { s.lfp with heldHop := some (e.entry.getD 0, e.car) } }.wakeBy 2
    else s
  else if e.void then s.voidDone e
  else if e.entry.isSome ∧ e.sof.isNone then s.pollUnused e
  else
    let s := s.updWin e.session (fun w => { w with tried := w.tried ++ [e.car], next := s.now + s.hopGap, hop := true,
                                                   keep := none })
    match s.winOf e.session with
    | none => s
    | some w =>
      if (s.usableHops.filter (fun k => s.solvedAt w.zone k && !w.tried.contains k)).isEmpty then
        ((s.irq LFP_IRQ_STAT.HOP_EXHAUST).dropWin w.session).abort w.session ccInterference
      else if s.winOver w then (s.dropWin w.session).abort w.session ccTimeout
      else s

/-! ## Unit resets (R106, R133) -/

/-- Every exchange ends, and the sessions of them complete with TARGET_RESET. -/
def State.stopAll (s : State) : State :=
  (s.lfp.ex.map (·.zone)).foldl (fun (a : State) z => a.stopBurst z ccTargetReset) s

/-- A unit reset of LFP (R133, R290). -/
def State.lfpUnitReset (s : State) : State :=
  let s := s.stopAll
  let ws := s.lfp.wins
  let s := ws.foldl (fun (a : State) w => (a.dropWin w.session).abort w.session ccTargetReset) s
  let ps := s.lfp.polls
  let s := ps.foldl (fun (a : State) p =>
    match p.owner with
    | some (n, g) => if a.live n g then a.abort n ccTargetReset else a
    | none => a) s
  let s := { s with lfp := { s.lfp with polls := [], heldHop := none } }
  let s := (List.range 3).foldl (fun (a : State) k => a.wr LFP_NOISE.STALE 1 k) s
  s.lfpStat

/-- The start-up work of HEL (R81, R89, R106): calibration of every channel, every column, and every zone UNSOLVED. -/
def State.helInit (s : State) : State :=
  let s := { s with hel := { s.hel with sols := [], solves := [], done := [], cols := [], slot := none, fresh := [],
                                        zOld := [], ratio := [], again := [], late := [], release := [], testAt := [],
                                        corr := [], drift := [], slotSince := none, calQ := List.range 64,
                                        zoneCar := [], ramp := [] } }
  let s := s.hopReg
  let s := s.queueCols 1 s.usableHops
  let s := (s.hel.progs.map (·.1)).foldl (fun (a : State) z => a.zoneRegs z) s
  s.chRegs

/-- A unit reset of HEL (R106). -/
def State.helUnitReset (s : State) : State := s.stopAll.helInit

end Sys2Proof.Machine
end

