-- ==== Sys2Proof/Machine/Ses.lean ====
section
/-! DEFINITION. The commands of SES (R257–R293) and the rolling-code check (R300–R303). -/

namespace Sys2Proof.Machine

/-! ## Opening (R261–R263, R298, R299) -/

/-- The lowest-numbered valid program with POLL set for a zone (R261). -/
def State.pollProg (s : State) (z : Nat) : Option Nat :=
  (List.range 32).find? (fun p => match s.prog p with
    | some g => bit g.flags 0 && bit g.flags 1 && g.zone == z
    | none => false)

/-- A program is valid and carries a flag. -/
def State.progOk (s : State) (p flag : Nat) : Bool := s.progFlag p 0 && s.progFlag p flag

/-- R262: why an open is refused, OK when it is not. -/
def State.openCode (s : State) (p : Option Nat) : Nat :=
  if p.isNone then ccPrecondition
  else if !s.running 0x08 then ccBusy
  else if s.freeHead.isNone ∨ !s.poolRoom poolWake ∨ s.ses.claims.any (fun c => c.pools.contains poolWake) then ccCapacity
  else ccOk

/-- R262: a refused BUTTON or WATCH open: the first in each Meridian second is archived with the count of the one
before. -/
def State.refuseLate (s : State) (code : Nat) : State :=
  let sec := s.now / secT 1
  let prev := if s.ses.refuseSec = sec then s.ses.refusePrev
    else if s.ses.refuseSec + 1 = sec then s.ses.refuseNow else 0
  let first := s.ses.refuseSec ≠ sec ∨ s.ses.refuseNow = 0
  let s := { s with ses := { s.ses with refuseSec := sec, refusePrev := prev,
                                        refuseNow := if s.ses.refuseSec = sec then s.ses.refuseNow + 1 else 1 } }
  if first then s.archiveEvent 0x08 0 0 (leBytes 4 prev) code else s

/-- Open a session: the queue taken, or the code of the refusal. -/
def State.tryOpen (s : State) (kind : Nat) (p : Option Nat) (zone : Nat) : Nat × Nat × State :=
  let code := s.openCode p
  match s.freeHead with
  | some n =>
    if code = ccOk then (ccOk, n, s.openOn n kind (p.getD 0) zone)
    else (code, 0, if kind ≥ 2 then s.refuseOpen.refuseLate code else s.refuseOpen)
  | none => (code, 0, if kind ≥ 2 then s.refuseOpen.refuseLate code else s.refuseOpen)

/-- A poll's owner is opened for the first request of an entry that has none (R118). -/
def State.openPoll (s : State) (e : Nat) : State :=
  match s.lfp.polls.find? (fun p => p.entry == e && p.asked && p.owner.isNone) with
  | none => s
  | some p =>
    let z := s.rd LFP_SCHED_CTL.ZONE e
    let (code, n, s) := s.tryOpen 0 (s.pollProg z) z
    if code ≠ ccOk then s
    else
      let own := some (n, (s.ctx n).gen)
      let ps := s.lfp.polls.map (fun q => if q = p then { q with owner := own } else q)
      { s with lfp := { s.lfp with polls := ps } }

/-- A button session takes its identity from its frame (R299): with PRESENCE it asks for a directed wake of its zone,
else WAKE is entered and left at once. -/
def State.openButton (s : State) (p : Nat) (presence : Bool) (frame : List Byte) (sync : Nat) : Nat × State :=
  let z := match s.prog p with
    | some g => g.zone
    | none => 0xFF
  let (code, n, s) := s.tryOpen 2 (if s.progOk p 3 then some p else none) z
  if code ≠ ccOk then (code, s)
  else
    let s := s.updCtx n (fun c => { c with token := leAt frame 2 3 + leAt frame 5 1 % 16 * 2 ^ 24, sofStamp := sync
                                           lfCarrier := 0xFF, lfCh := 0xFF })
    let s := (s.updAux n (fun x => { x with frame := frame })).enterWake n
    if presence ∧ z ≠ 0xFF then
      if s.rd HEL_ZONE_STAT.STATE z = 4 then (ccOk, s.abort n (s.rd HEL_ZONE_STAT.RESULT z))
      else
        let w : LfpWin := { session := n, gen := (s.ctx n).gen, zone := z, entry := none, wakeId := 0xFF,
                            rate := s.rd LFP_RX_CFG.RATE, md := s.rd LFP_RX_CFG.MOD, fmt := s.rd LFP_RX_CFG.FMT,
                            since := s.now }
        let s := { s with lfp := { s.lfp with wins := s.lfp.wins ++ [w] } }
        (ccOk, (s.updCtx n (fun c => c.setPend pendLfp true)).lfpStat)
    else (ccOk, s.enterIdent n)

/-- The reply held in S3 opens a session of kind WATCH (R134, R261). -/
def State.openWatch (s : State) : State :=
  match s.lfp.held with
  | none => s
  | some (body, fmt, e, car, ch, sof) =>
    let z := s.rd LFP_SCHED_CTL.ZONE e
    let s := { s with lfp := { s.lfp with held := none } }
    let (code, n, s) := s.tryOpen 3 (s.pollProg z) z
    if code ≠ ccOk then s
    else
      let s := s.enterWake n
      let s := s.updCtx n (fun c => { c with token := bits body 27 0
                                             tdata := if fmt = 0 then 0 else bits body 31 28 + bits body 47 32 * 16
                                             lfCarrier := car, lfCh := ch, sofStamp := sof })
      s.enterIdent n

/-- SESSION_OPEN (R261–R263): kind 0 for schedule entry `sel`; kind 1 for program `sel`, asked by core `core` (16 and
above: by nobody bound), which receives the code of a refusal; kind 2 with a button frame under program `sel`; kind 3
for the reply held in S3. -/
def execSessionOpen (t kind sel core : Nat) (frame : List Byte) (s : State) : Answer := happen t s (fun s =>
  if kind = 0 then s.openPoll sel
  else if kind = 1 then
    let z := match s.prog sel with
      | some g => g.zone
      | none => 0xFF
    let (code, _, s) := s.tryOpen 1 (if s.progOk sel 2 then some sel else none) z
    if core < 16 ∧ (s.bound core).isSome then s.scDone core code else s
  else if kind = 2 then (s.openButton sel false frame s.now).2
  else if kind = 3 then s.openWatch
  else s)

/-! ## The rolling-code check (R300–R303) -/

/-- The outcomes of R302. -/
def rcAccept : Nat := 0
def rcAcceptResync : Nat := 1
def rcResyncPend : Nat := 2
def rcReplay : Nat := 3
def rcBadCheck : Nat := 4
def rcOutOfReach : Nat := 5

/-- WIN of R301. -/
def State.rollWin (s : State) : Nat := clampTo 1 4096 (s.rd SHU_ROLL_CFG.WIN)

/-- R301, after the check value has been judged: the outcome and the resync table after it. -/
def State.rollJudge (s : State) (token c ctr : Nat) (ok : Bool) : Nat × List Resync :=
  let d := (ctr + 2 ^ 32 - c) % 2 ^ 32
  let tab := s.shu.resync
  let others := tab.filter (fun r => r.token ≠ token)
  if d = 0 ∨ d ≥ 0x80000000 then (rcReplay, tab)
  else if !ok then (rcBadCheck, tab)
  else if d > 65536 then (rcOutOfReach, tab)
  else if d ≤ s.rollWin then (rcAccept, tab)
  else
    let hold := secT (orOne (s.rd SHU_ROLL_CFG.RESYNC_HOLD))
    if tab.any (fun r => r.token == token && r.ctr == (ctr + 2 ^ 32 - 1) % 2 ^ 32 && decide (s.now < r.stamp + hold)) then
      (rcAcceptResync, others)
    else
      let l := others ++ [({ token := token, ctr := ctr, stamp := s.now } : Resync)]
      (rcResyncPend, if l.length > 64 then l.drop 1 else l)

/-- The counter of an outcome. -/
def rollCount (o : Nat) : Fld :=
  if o = rcAccept then SHU_CNT_ROLL_OK.COUNT
  else if o ≤ rcResyncPend then SHU_CNT_ROLL_RESYNC.COUNT
  else if o = rcReplay then SHU_CNT_ROLL_REPLAY.COUNT
  else if o = rcBadCheck then SHU_CNT_ROLL_BADCHECK.COUNT
  else SHU_CNT_ROLL_RANGE.COUNT

/-- What follows an accepted check: the session challenge when RANGE or BOUND is planned, else CHALLENGE ends (R300). -/
def State.afterRoll (s : State) (n : Nat) : State :=
  let c := s.ctx n
  if c.anchors ≠ 0 ∨ s.progHas n 4 then s.claim n [poolDom, poolRng] else s.enterRange n

/-- The check of a BUTTON session (R300–R302). -/
def State.rollCheck (s : State) (n : Nat) : State :=
  let c := s.ctx n
  let f := (s.aux n).frame
  let ctr := leAt f 6 4
  let d := (ctr + 2 ^ 32 - tokCtr c.tokenState) % 2 ^ 32
  let (code, tag, s) := if d = 0 ∨ d ≥ 0x80000000 then (ccOk, [], s)
    else s.kceNow 0x09 kKR (leBytes 4 c.token) (padTo f 10)
  if code ≠ ccOk then s.abort n code
  else
    let (o, tab) := s.rollJudge c.token (tokCtr c.tokenState) ctr (tag.take 4 == slice f 10 4)
    let s := { s with shu := { s.shu with resync := tab } }
    let s := (s.bump (rollCount o)).shuStat
    let s := if o = rcAcceptResync ∨ o = rcResyncPend then s.irq SHU_IRQ_STAT.RESYNC
      else if o = rcReplay ∨ o = rcBadCheck then s.irq SHU_IRQ_STAT.REPLAY else s
    if o ≤ rcAcceptResync then (s.updAux n (fun x => { x with newCtr := some ctr })).afterRoll n
    else
      let s := s.shuEvent 1 o ccDenied n
      let s := s.updAux n (fun x => { x with failed := o == rcReplay || o == rcBadCheck })
      s.abort n ccDenied o

/-! ## Consuming completions (R265, R266, R269, R284) -/

/-- The lookup's answer (R269, R308). -/
def State.takeLookup (s : State) (n code reason : Nat) (data : List Byte) : State :=
  if code ≠ ccOk then s.abort n code reason
  else
    let rec' := slice data 12 128
    let s := s.updCtx n (fun c => { c with ephIndex := leAt data 0 4, tokenState := leAt data 4 8, dbCap := leAt rec' 5 1 })
    let s := s.updAux n (fun x => { x with record := rec' })
    if (s.ctx n).kind = 2 then
      (s.enter n ssChallenge (some (s.rd SES_TO_CFG_A.CHAL_TO))).rollCheck n
    else s.enterChallenge n

/-- The derived key or the nonce: with both, the check value is claimed. -/
def State.takeChallenge (s : State) (n pool code : Nat) (data : List Byte) : State :=
  if code ≠ ccOk then s.abort n code
  else
    let s := if pool = poolDom then s.updAux n (fun x => { x with keyReady := true })
      else (s.updAux n (fun x => { x with nonceReady := true })).updCtx n (fun c => { c with nonce := leAt data 0 16 })
    let x := s.aux n
    if x.keyReady ∧ x.nonceReady then s.claim n [poolKce] else s

/-- The check value (R269, R305). -/
def State.takeCheck (s : State) (n code : Nat) (data : List Byte) : State :=
  if code ≠ ccOk then s.abort n code
  else if leAt data 0 1 = 1 then s.enterRange n
  else (s.updAux n (fun x => { x with failed := true })).abort n ccDenied

/-- A ranging result (R266, R269, R271). -/
def State.takeRange (s : State) (n code reason : Nat) (data : List Byte) : State :=
  if code = ccDenied then s.abort n ccDenied reason
  else
    let s := if code = ccOk then s.storeRange n (rangeEntry data (s.sinceOpen n) false)
      else s.updAux n (fun x => { x with fails := x.fails ++ [code] })
    let s := s.updAux n (fun x => { x with plan := x.plan.tail })
    if (s.aux n).plan.isEmpty then s.rangeOver n else s.claim n [poolTrn]

/-- The bounding decision (R269). -/
def State.takeBound (s : State) (n code reason : Nat) (data : List Byte) : State :=
  if code = ccOk then (s.updCtx n (fun c => { c with boundRes := padTo data 16 })).enterLocate n
  else s.abort n code reason

/-- The solve's record (R265, R269). -/
def State.takeLocate (s : State) (n code reason : Nat) (data : List Byte) : State :=
  if code = ccOk then
    let s := s.updCtx n (fun c => { c with locRes := slice data 0 24 ++ slice data 52 4 })
    (s.updAux n (fun x => { x with located := true })).enterDecide n
  else s.abort n code reason

/-- SES consumes a completion: its slot and its credit free, and the session moves (R269, R284). -/
def State.consume (s : State) (q : Cpl) : State :=
  let s := { s with ses := { s.ses with cpl := s.ses.cpl.erase q } }
  let s := s.giveWithCpl q.pool
  if !s.live q.session q.gen then s.bump SES_CNT_STALE.COUNT
  else
    let n := q.session
    let s := match poolPend q.pool with
      | some u => s.updCtx n (fun c => c.setPend u false)
      | none => s
    if !(s.ctx n).openEarly then s.freeIfDone n
    else if q.code = ccTargetReset ∨ q.code = ccPoisoned then s.abort n q.code q.reason
    else if q.pool = poolEph then s.takeLookup n q.code q.reason q.data
    else if q.pool = poolDom ∨ q.pool = poolRng then s.takeChallenge n q.pool q.code q.data
    else if q.pool = poolKce then s.takeCheck n q.code q.data
    else if q.pool = poolTrn then s.takeRange n q.code q.reason q.data
    else if q.pool = poolDbx then s.takeBound n q.code q.reason q.data
    else if q.pool = poolAlm then s.takeLocate n q.code q.reason q.data
    else s

/-- Consume the first completion of a session's pool. -/
def State.consumeOf (s : State) (n pool : Nat) : State :=
  match s.ses.cpl.find? (fun c => c.session == n && c.pool == pool) with
  | some q => s.consume q
  | none => s

/-- COMPLETION_CONSUME (R284): the oldest completion held. -/
def execCompletionConsume (t : Nat) (s : State) : Answer := happen t s (fun s =>
  match s.ses.cpl with
  | q :: _ => s.consume q
  | [] => s)

/-- LOOKUP_RESULT (R269). -/
def execLookupResult (t n : Nat) (s : State) : Answer := happen t s (fun s => s.consumeOf n poolEph)

/-- CHECK_VALUE_RESULT (R269). -/
def execCheckValueResult (t n : Nat) (s : State) : Answer := happen t s (fun s => s.consumeOf n poolKce)

/-- RANGE_RESULT (R266). -/
def execRangeResult (t n : Nat) (s : State) : Answer := happen t s (fun s => s.consumeOf n poolTrn)

/-! ## Time limits (R270, R274, R287) -/

/-- The time a session's clocks have been held, the present hold included (R270). -/
def State.pausedOf (s : State) (n : Nat) : Nat :=
  let x := s.aux n
  x.paused + (x.pauseFrom.map (fun p => s.now - p)).getD 0

/-- DEADLINE_EXPIRED (R270). -/
def execDeadlineExpired (t n : Nat) (s : State) : Answer := happen t s (fun s =>
  match s.ctx? n with
  | none => s
  | some c =>
    let hold := if c.state = ssDecide then s.pausedOf n else 0
    if !c.openEarly ∨ c.deadline = 0 ∨ c.dec = 1 ∨ s.now < c.deadline + hold then s
    else
      let s := s.irq SES_IRQ_STAT.TIMEOUT
      if c.state = ssIdent ∧ s.eph.waiting.contains (n, c.gen) then s.cancel n ccNotVerified else s.cancel n ccTimeout)

/-- SESSION_MAX_EXPIRED (R270). -/
def execSessionMaxExpired (t n : Nat) (s : State) : Answer := happen t s (fun s =>
  match s.ctx? n with
  | none => s
  | some c =>
    let lim := msT (10 * orOne (s.rd SES_TO_CFG_C.SESSION_MAX))
    if !c.openEarly ∨ c.state < ssWake ∨ c.dec = 1 ∨ s.now < (s.aux n).tWake + lim + s.pausedOf n then s
    else (s.irq SES_IRQ_STAT.TIMEOUT).cancel n ccTimeout)

/-- SES_CANCEL (R274): a matching GEN cancels. -/
def State.sesCancel (s : State) (n gen : Nat) : State := if s.live n gen then s.cancel n ccCancelled else s

def execSesCancel (t n gen : Nat) (s : State) : Answer := happen t s (fun s => s.sesCancel n gen)

/-- CREDIT_WAIT_EXPIRED (R287). -/
def execCreditWaitExpired (t n : Nat) (s : State) : Answer := happen t s (fun s =>
  let waits := s.ses.claims.any (fun c => c.session == n && poolClass (c.pools.headD 0) == 2)
  if waits ∧ s.now ≥ (s.aux n).waitFrom + msT (orOne (s.rd SES_TO_CFG_C.CREDIT_WAIT)) then
    (s.irq SES_IRQ_STAT.CREDIT).cancel n ccCapacity
  else s)

/-! ## Credits (R286, R289) -/

/-- CREDIT_GRANT (R286). -/
def execCreditGrant (t : Nat) (s : State) : Answer := happen t s State.drainClaims

/-- POOL_SIZE_WRITE (R289). -/
def State.poolSizeWrite (s : State) (k size : Nat) : State :=
  if s.on SES_CTL.LOCK then s else (s.wr SES_CREDIT_CFG.SIZE size k).drainClaims

def execPoolSizeWrite (t k size : Nat) (s : State) : Answer := happen t s (fun s => s.poolSizeWrite k size)

/-! ## Unit reset (R291) -/

/-- Steps 2–6 of R291; the cores have been stopped. -/
def State.sesUnitReset (s : State) : State :=
  let ns := s.ses.ctx.map (·.1)
  let early := ns.filter (fun n => (s.ctx n).openEarly)
  let s := ns.foldl (fun (a : State) n =>
    if (a.ctx n).committed then a
    else (cancelUnits n (a.ctx n).gen a).updCtx n (fun c => { c with pend := 0, core := 0xFF })) s
  let shu := (ns.filter (fun n => (s.ctx n).committed && (s.aux n).shuHeld)).length
  let arc := (ns.filter (fun n => (s.aux n).arcHeld && !(early.contains n))).length
  let s := (List.range 11).foldl (fun (a : State) k =>
    a.wr SES_CREDIT_STAT.IN_USE (if k = poolShu then shu else if k = poolArc then arc else 0) k) s
  let waits := (s.ses.claims.filter (fun c => (s.ctx c.session).state == ssAborted)).map (·.session)
  let s := { s with ses := { s.ses with cpl := [], claims := [], ready := [] } }
  let s := s.claimStat.wr SES_CORE_STAT.READY 0
  let s := waits.foldl (fun (a : State) n => a.claim n [poolArc]) s
  let polls := s.lfp.polls.map (fun p => { p with owner := none })
  let s := { s with lfp := { s.lfp with polls := polls } }
  let s := early.foldl (fun (a : State) n =>
    if (a.ctx n).state = ssIdle then
      let a := (a.dropWin n)
      let a := { a with ses := { a.ses with ctx := SMap.del a.ses.ctx n, aux := SMap.del a.ses.aux n,
                                            freeTail := a.ses.freeTail ++ [n] } }
      a.sesStat
    else
      let a := a.updAux n (fun x => { x with shuHeld := false, arcHeld := false })
      (a.dropWin n).abort n ccTargetReset) s
  (ns.foldl (fun (a : State) n => a.freeIfDone n) s).ownerReset owSes

end Sys2Proof.Machine
end

