-- ==== Sys2Proof/Machine/ViewOps.lean ====
section
/-! DEFINITION. The privileged view: open grants and view violations (R13, R14, R612, R615). -/

namespace Sys2Proof.Machine

/-- Count a violation on a port, with the reason and offset in HIF_VIEW_LAST (R615). -/
def State.violation (s : State) (port : Nat) (write priv : Bool) (reason off : Nat) : State :=
  let s := (s.bump HIF_VIEW_VIOL.COUNT port).irq HIF_IRQ_STAT.VIEW_VIOL
  let s := (s.flag HIF_VIEW_LAST.WRITE write port).flag HIF_VIEW_LAST.PRIV priv port
  (s.wr HIF_VIEW_LAST.REASON reason port).wr HIF_VIEW_LAST.OFFSET off port

/-- The reason a privileged access of a port to a unit fails: 1 no grant, 2 the unit is not in BLOCKS; none when the
grant opens it (R612). -/
def State.viewReason (s : State) (port unit : Nat) : Option Nat :=
  let open' := s.on HIF_VIEW_GRANT.OPEN port &&
    (match SMap.find s.hif.grantEnd port with
     | some e => decide (s.now < e)
     | none => false)
  if !open' then some 1
  else if bit (s.rd HIF_VIEW_GRANT.BLOCKS port) unit then none else some 2

/-- A privileged write of a register: its effect when the port's grant opens the unit, and a violation otherwise. Each
write that changes an AUT field is archived with offset, old and new value (R613). -/
def State.privWrite (s : State) (port : Nat) (priv : Bool) (unit off : Nat) (f : State → State) : State :=
  if !priv then s
  else
    match s.viewReason port unit with
    | some r => s.violation port true true r off
    | none => f s

/-- R613: archive a change of an AUT field. -/
def State.autRecord (s : State) (unit off old new : Nat) : State :=
  if old = new then s else s.archiveEvent unit 0 0 (leBytes 4 off ++ leBytes 4 old ++ leBytes 4 new)

end Sys2Proof.Machine
end

