-- ==== Sys2Proof/Machine/Shu.lean ====
section
/-! DEFINITION. The commands of SHU (R294–R335): button frames, the writes of a session's end, session calls, releases
on outputs, nodes and vehicle units. -/

namespace Sys2Proof.Machine

/-! ## Button frames (R295–R298) -/

/-- R295: the form of a button frame's payload. -/
def buttonForm (f : List Byte) : Bool :=
  f.length == 14 && leAt f 0 1 == 0x42 && decide (leAt f 1 1 < 16) && decide (leAt f 5 1 < 16)

/-- A frame whose whole payload equals one kept less than DUP_WIN earlier (R297). -/
def State.buttonDup (s : State) (f : List Byte) : Bool :=
  let win := msT (10 * orOne (s.rd SHU_LOCK_CFG.DUP_WIN))
  s.shu.kept.any (fun k => k.1 == f && decide (s.now < k.2 + win))

/-- A button frame that a transceiver received (R295–R298). -/
def State.buttonFrame (s : State) (f : List Byte) (sync : Nat) : State :=
  let s := s.bump SHU_CNT_BTN_RX.COUNT
  if !buttonForm f then (s.bump SHU_CNT_BTN_FMT.COUNT).irq SHU_IRQ_STAT.BTN_DROP
  else if s.buttonDup f then s.bump SHU_CNT_BTN_DUP.COUNT
  else
    let b := leAt f 1 1
    let p := s.rd SHU_BTN_MAP.PROG b
    if !s.on SHU_BTN_MAP.VALID b ∨ !s.progFlag p 3 then
      (s.bump SHU_BTN_CNT.DROPPED b).irq SHU_IRQ_STAT.BTN_DROP
    else
      let (code, s) := s.openButton p (s.on SHU_BTN_MAP.PRESENCE b) f sync
      if code ≠ ccOk then s
      else
        let s := { s with shu := { s.shu with kept := ((f, s.now) :: s.shu.kept).take 64 } }
        s.bump SHU_BTN_CNT.OPENED b

/-- BUTTON_FRAME: received on a UHF transceiver that SES holds. -/
def execButtonFrame (t trx : Nat) (payload : List Byte) (s : State) : Answer := happen t s (fun s =>
  if 16 ≤ trx ∧ trx < 20 ∧ s.owner trx = owSes ∧ s.trxState trx = rsReceive then s.buttonFrame payload s.now else s)

/-! ## The per-token update (R309) -/

/-- The update has committed: the claim is released, and the session's record may follow. -/
def State.perTokenDone (s : State) (n : Nat) : State :=
  match s.takeCommitted (.perToken n (s.ctx n).gen) with
  | none => s
  | some s =>
    let s := s.updAux n (fun x => { x with ptWord := none, ptSince := none })
    (s.releaseClaim n (s.ctx n).gen).recordReady n

def execPerTokenUpdateCommit (t n : Nat) (s : State) : Answer := happen t s (fun s => s.perTokenDone n)

/-- A per-token update that the Plate store did not take in time is withdrawn. -/
def State.perTokenLate (s : State) (n : Nat) : State :=
  let tag := PltTag.perToken n (s.ctx n).gen
  let s := { s with plt := { s.plt with
    queue := s.plt.queue.filter (fun (w : PltWrite) => w.active || decide (w.tag ≠ tag)) } }
  let s := s.wr PLT_STAT.QUEUED (min 255 s.plt.queue.length)
  let s := s.updAux n (fun x => { x with ptWord := none, ptSince := none, newCtr := none, failed := false })
  let s := s.releaseClaim n (s.ctx n).gen
  if (s.ctx n).state = ssAborted then s.recordReady n else s.abort n ccTimeout

/-- PER_TOKEN_UPDATE_TIMEOUT: 5 ms have passed; the token state stands as last committed. -/
def execPerTokenUpdateTimeout (t n : Nat) (s : State) : Answer := happen t s (fun s =>
  match (s.aux n).ptSince with
  | none => s
  | some a =>
    if s.now < a + msT 5 ∨ (s.ctx n).committed then s
    else s.perTokenLate n)

/-! ## Session calls (R311–R314, R466, R467) -/

/-- GRANT: the target is checked, and the writes of R313 follow under the ARC credit. -/
def State.scGrant (s : State) (core : Nat) : State :=
  s.scStart core (fun n _ s =>
    let a := (s.core core).scArg
    let kind := bits (a.getD 0 0) 7 0
    let target := bits (a.getD 0 0) 23 8
    let tmo := bits (a.getD 1 0) 15 0
    let valid := bits (a.getD 1 0) 31 16
    if (s.ctx n).dec ≠ 0 then s.scDone core ccDenied
    else
      let code := if kind = rkNone then ccOk else s.targetCheck kind target
      let s := s.updCtx n (fun c => { c with dec := 1, relKind := kind, relTarget := target })
      if code ≠ ccOk then s.abort n code
      else
        let s := s.updAux n (fun x => { x with relParam := [tmo, valid, a.getD 2 0] })
        let w := s.wordAfter (s.ctx n) (s.aux n) true
        let changed := w != (s.ctx n).tokenState
        let s := s.updAux n (fun x => { x with ptWord := if changed then some w else none })
        let s := if changed then s else s.releaseClaim n (s.ctx n).gen
        s.claim n [poolArc])

/-- REFUSE: a CODE other than DENIED or a script's own acts as DENIED. -/
def State.scRefuse (s : State) (core code : Nat) : State :=
  s.scStart core (fun n _ s =>
    if (s.ctx n).dec ≠ 0 then s.scDone core ccDenied
    else
      let code := if code = ccDenied ∨ (0x80 ≤ code ∧ code ≤ 0xFF) then code else ccDenied
      (s.updCtx n (fun c => { c with dec := 2 })).abort n code)

/-- CANCEL: a CODE other than DENIED or a script's own acts as CANCELLED. -/
def State.scCancel (s : State) (core code : Nat) : State :=
  s.scStart core (fun n _ s =>
    s.cancel n (if code = ccDenied ∨ (0x80 ≤ code ∧ code ≤ 0xFF) then code else ccCancelled))

def execGrant (t core : Nat) (s : State) : Answer := happen t s (fun s =>
  if core < 16 ∧ !(s.core core).scBusy then s.scGrant core else s)

def execRefuse (t core code : Nat) (s : State) : Answer := happen t s (fun s =>
  if core < 16 ∧ !(s.core core).scBusy then s.scRefuse core code else s)

def execCancel (t core code : Nat) (s : State) : Answer := happen t s (fun s =>
  if core < 16 ∧ !(s.core core).scBusy then s.scCancel core code else s)

/-- The decision record reaches its commit point (R269, R273, R314): COMMITTED is set, the ARC credit returns, a waiting
GRANT completes with OK, and the session is RELEASED; with REL_KIND NONE it ends CLOSED at once. -/
def State.decisionDone (s : State) (n : Nat) : State :=
  match s.ctx? n with
  | none => s
  | some c =>
    if c.state ≠ ssDecide ∨ c.dec ≠ 1 ∨ c.committed then s
    else
      match s.takeCommitted (.record c.arcSeq) with
      | none => s
      | some s =>
        let s := s.updCtx n (fun c => { (c.setPend pendPlt false) with committed := true })
        let s := if (s.aux n).arcHeld then s.giveCredit poolArc else s
        let s := s.updAux n (fun x => { x with arcHeld := false })
        let s := s.answerCall n ccOk
        let s := s.enter n ssReleased none
        if c.relKind = rkNone then
          let s := if (s.aux n).shuHeld then s.giveCredit poolShu else s
          let s := s.updAux n (fun x => { x with shuHeld := false })
          let s := s.updCtx n (fun c => c.setPend pendShu false)
          ((s.closeSession n ccOk).drainClaims).freeIfDone n
        else ((s.updCtx n (fun c => c.setPend pendShu true)).addRel n).drainClaims

def execDecisionCommitted (t n : Nat) (s : State) : Answer := happen t s (fun s => s.decisionDone n)

/-! ## The action of a release (R313, R316, R318) -/

/-- A release session of an output is running or was queued before this one. -/
def State.outTaken (s : State) (e : Nat) (r : Rel) : Bool :=
  s.on SHU_OUT_STAT.RUNNING r.target ||
  (match s.outQueue r.target with
   | p :: _ => p.1 != e
   | [] => false)

/-- REL_GAP has passed since the last release session of an output. -/
def State.gapOver (s : State) (o : Nat) : Bool :=
  let x := s.outS o
  x.endAt == 0 || decide (s.now ≥ x.endAt + msT (10 * s.rd SHU_NODE_CFG.REL_GAP))

/-- RELEASE_ACTION: the decision record is confirmed, so the action begins, or the release waits in its output's
queue. -/
def State.releaseAction (s : State) (e : Nat) : State :=
  match s.rel e with
  | none => s
  | some r =>
    if r.state ≠ 1 ∨ r.begun then s
    else
      match s.takeConfirmed (.record r.arcSeq) with
      | none => s
      | some s =>
        let s := s.updRel e (fun r => { r with begun := true })
        if r.kind = rkOutput ∧ (s.outTaken e r ∨ !s.gapOver r.target) then s.shuStat
        else s.startRel e

def execReleaseAction (t e : Nat) (s : State) : Answer := happen t s (fun s => s.releaseAction e)

/-- QUEUED_RELEASE_START (R318): the head of an output's queue, REL_GAP after the release before it. -/
def execQueuedReleaseStart (t o : Nat) (s : State) : Answer := happen t s (fun s =>
  match s.outQueue o with
  | (e, r) :: _ => if r.begun ∧ !s.on SHU_OUT_STAT.RUNNING o ∧ s.gapOver o then s.startRel e else s
  | [] => s)

/-! ## Sense inputs and output faults (R319–R321) -/

/-- The state of a measured loop (R320): 0 NORMAL, 1 ACTIVE, 2 SHORT, 3 BREAK, 4 OFF. -/
def senseOf (sense ohm : Nat) (closed : Bool) : Nat :=
  if sense = 1 then (if closed then 1 else 0)
  else if sense = 2 then
    (if ohm < 110 then 2 else if ohm < 330 then 1 else if ohm ≤ 660 then 0 else 3)
  else 4

/-- The release session that runs on an output. -/
def State.runningOn (s : State) (o : Nat) : Option Nat :=
  (SMap.first s.shu.rel (fun _ r => r.kind == rkOutput && r.target == o && r.state == 2)).map (·.1)

/-- A decided change of a sense input (R320, R321). The stamp of a passage takes the debounce off (R52). -/
def State.senseChange (s : State) (o ohm : Nat) (closed : Bool) : State :=
  let s := s.wr SHU_OUT_SENSE.OHM (min 0xFFFF ohm) o
  let new := senseOf (s.rd SHU_OUT_CFG.SENSE o) ohm closed
  if s.rd SHU_OUT_STAT.SENSE o = new then s
  else
    let s := s.wr SHU_OUT_STAT.SENSE new o
    let f := s.rd SHU_OUT_STAT.FAULT o
    if new = 2 then s.outFault o 4 rrSenseShort
    else if new = 3 then s.outFault o 3 rrSenseBreak
    else
      let s := if f = 3 ∨ f = 4 then s.updOut o (fun x => { x with absent := some s.now }) else s
      if s.inPassState o then
        match s.runningOn o with
        | some e =>
          if (s.outS o).left ∧ new ≤ 1 then
            let deb := msT (orOne (s.rd SHU_OUT_CFG.SENSE_DEB o))
            (s.endRel e ccOk rrPassage).wr64 SHU_EVT_STAMP_LO.STAMP SHU_EVT_STAMP_HI.STAMP (s.now - deb)
          else s
        | none => s
      else s.updOut o (fun x => { x with left := true })

def execSenseChange (t o ohm : Nat) (closed : Bool) (s : State) : Answer := happen t s (fun s =>
  if o < 16 ∧ s.pwrState ≤ psS1 ∧ s.running 0x09 then s.senseChange o ohm closed else s)

/-- OUTPUT_FAULT: a load fault of an asserted output under supervision (R319). -/
def execOutputFault (t o : Nat) (short : Bool) (s : State) : Answer := happen t s (fun s =>
  if o < 16 ∧ s.on SHU_OUT_STAT.ASSERTED o ∧ s.on SHU_OUT_CFG.SUPERVISE o then
    if short then (s.outFault o 2 rrShort).updOut o (fun x => { x with absent := some s.now })
    else s.outFault o 1 rrOpen
  else s)

/-- PULSE_END (R319, R322): PULSE_MS after the assertion; the test of an output ends with it. -/
def execPulseEnd (t o : Nat) (s : State) : Answer := happen t s (fun s =>
  let x := s.outS o
  let due := decide (s.now ≥ x.onAt + msT (max 10 (s.rd SHU_OUT_CTL.PULSE_MS o)))
  if o < 16 ∧ s.on SHU_OUT_STAT.ASSERTED o ∧ due ∧ (x.test = 2 ∨ s.rd SHU_OUT_CFG.MODE o = 1) then
    let s := s.outEdge o false
    if x.test = 2 then (s.updOut o (fun x => { x with test := 0, endAt := s.now })).wr SHU_OUT_CTL.TEST 0 o else s
  else s)

/-- OPEN_LOAD_TEST (R319): every 100 ms a test current checks a deasserted output under supervision. -/
def execOpenLoadTest (t o : Nat) (load : Bool) (s : State) : Answer := happen t s (fun s =>
  let last := SMap.find s.shu.loadTest o
  let due := match last with
    | some a => decide (s.now ≥ a + msT 100)
    | none => true
  if o < 16 ∧ s.on SHU_OUT_CFG.EN o ∧ s.on SHU_OUT_CFG.SUPERVISE o ∧ !s.on SHU_OUT_STAT.ASSERTED o ∧ due = true ∧
      s.running 0x09 ∧ s.pwrState ≤ psS1 then
    let s := { s with shu := { s.shu with loadTest := SMap.put s.shu.loadTest o s.now } }
    if !load then (s.outFault o 1 rrOpen).updOut o (fun x => { x with absent := none })
    else if s.rd SHU_OUT_STAT.FAULT o = 1 ∧ (s.outS o).absent.isNone then
      s.updOut o (fun x => { x with absent := some s.now })
    else s
  else s)

/-- CLR_FAULT (R321): FAULT clears when its condition has been absent for 1 s; archived. -/
def State.clrFault (s : State) (o : Nat) : State :=
  if s.rd SHU_OUT_STAT.FAULT o = 0 then s
  else
    match (s.outS o).absent with
    | none => s
    | some a =>
      if s.now < a + secT 1 then s
      else
        let s := (s.wr SHU_OUT_STAT.FAULT 0 o).updOut o (fun x => { x with absent := none })
        s.archiveEvent 0x09 o 0

def execClrFault (t o : Nat) (s : State) : Answer := happen t s (fun s => if o < 16 then s.clrFault o else s)

/-- TEST (R322): a test record, and after its confirmation the pulse. -/
def State.outTest (s : State) (o : Nat) : State :=
  if 16 ≤ o ∨ s.on SHU_OUT_STAT.RUNNING o ∨ !(s.outQueue o).isEmpty ∨ s.rd SHU_OUT_STAT.FAULT o ≠ 0 ∨
      (s.outS o).test ≠ 0 ∨ !s.running 0x09 then s
  else
    let old := s.word SHU_OUT_CTL.REG o
    let s := (s.wr SHU_OUT_CTL.TEST 1 o).updOut o (fun x => { x with test := 1 })
    let s := s.autRecord 0x09 (0x091000 + 0x40 * o) old (s.word SHU_OUT_CTL.REG o)
    s.archive recTest 0 (s.source 0x09 o) noSession (leBytes 2 o ++ leBytes 2 (max 10 (s.rd SHU_OUT_CTL.PULSE_MS o)))
      (.test o)

def execTest (t port : Nat) (priv : Bool) (o : Nat) (s : State) : Answer := happen t s (fun s =>
  s.privWrite port priv 0x09 (0x091000 + 0x40 * o) (fun s => s.outTest o))

/-! ## Timeouts and closing records (R316, R317) -/

def execReleaseTimeout (t e : Nat) (s : State) : Answer := happen t s (fun s =>
  match s.rel e with
  | none => s
  | some r =>
    if r.state = 2 ∧ s.now ≥ r.tStart + msT (100 * r.toDs) then
      let off := r.kind = rkOutput ∧ s.rd SHU_OUT_STAT.SENSE r.target = 4
      s.endRel e ccTimeout (if off then rrNoSense else rrTimeout)
    else s)

/-- CLOSING_RECORD_COMMIT (R317, R323): the SHU credit returns, the open-release entry is cleared and the session is
CLOSED with the release session's code. -/
def State.closingDone (s : State) (e : Nat) : State :=
  match s.rel e with
  | none => s
  | some r =>
    match r.closeSeq with
    | none => s
    | some q =>
      match s.takeCommitted (.record q) with
      | none => s
      | some s =>
        let s := { s with shu := { s.shu with rel := SMap.del s.shu.rel e, polled := SMap.del s.shu.polled e } }
        let s := s.openRelClear r.session r.gen
        let n := r.session
        let s := if s.live n r.gen ∧ (s.ctx n).state = ssReleased then
            let s := if (s.aux n).shuHeld then s.giveCredit poolShu else s
            let s := s.updAux n (fun x => { x with shuHeld := false })
            let s := s.updCtx n (fun c => c.setPend pendShu false)
            (((s.closeSession n r.code).drainClaims).freeIfDone n)
          else s
        s.shuStat

def execClosingRecordCommit (t e : Nat) (s : State) : Answer := happen t s (fun s => s.closingDone e)

/-! ## Lock nodes (R325–R329) -/

/-- Log a received frame (SHU_CAN_RXLOG). -/
def State.rxLog (s : State) (bus id : Nat) (fd ext : Bool) : State :=
  let s := (List.range 15).foldl (fun (a : State) k =>
    let i := 14 - k
    (((a.wr SHU_CAN_RXLOG.VALID (s.rd SHU_CAN_RXLOG.VALID bus i) bus (i + 1)).wr SHU_CAN_RXLOG.FD
      (s.rd SHU_CAN_RXLOG.FD bus i) bus (i + 1)).wr SHU_CAN_RXLOG.EXT (s.rd SHU_CAN_RXLOG.EXT bus i) bus (i + 1)).wr
      SHU_CAN_RXLOG.ID (s.rd SHU_CAN_RXLOG.ID bus i) bus (i + 1)) s
  let s := ((s.wr SHU_CAN_RXLOG.VALID 1 bus 0).flag SHU_CAN_RXLOG.FD fd bus 0).flag SHU_CAN_RXLOG.EXT ext bus 0
  (s.wr SHU_CAN_RXLOG.ID id bus 0).bump SHU_CAN_CNT_RX.COUNT bus

/-- A reply that is dropped (R327). -/
def State.badReply (s : State) (bus : Nat) : State :=
  (s.bump SHU_CAN_CNT_BAD_CHECK.COUNT bus).irq SHU_CAN_IRQ_STAT.BAD_CHECK bus

/-- A node's reply of a TYPE: taken by the running release it names, when its check holds. -/
def State.nodeReply (s : State) (bus id : Nat) (data : List Byte) (typ : Nat) (f : Nat → Rel → State → State) :
    State :=
  if 2 ≤ bus ∨ !s.on SHU_CAN_CTL.EN bus ∨ s.rd SHU_CAN_STAT.STATE bus ≥ 2 then s
  else
    let h := bits id 23 16
    let s := (s.rxLog bus id true true).fndHeard bus h
    let form := bits id 28 24 == typ && data.length == 16 && leAt data 0 1 == typ && leAt data 1 1 == h &&
      SMap.get s.shu.nodeBus h 0 == bus
    let hit := SMap.first s.shu.rel (fun _ r => r.kind == rkNode && r.target == h && r.state == 2 &&
      r.arcSeq == leAt data 4 4)
    match hit with
    | none => s.badReply bus
    | some (e, r) =>
      if !form then s.badReply bus
      else
        let (code, tag, s) := s.kceNow 0x09 kKNODE (SMap.get s.shu.nodeId h []) (slice data 0 8)
        if code ≠ ccOk ∨ tag.take 8 ≠ slice data 8 8 then s.badReply bus else f e r s

def execAck (t bus id : Nat) (data : List Byte) (s : State) : Answer := happen t s (fun s =>
  s.nodeReply bus id data 0x11 (fun e _ s => s.updRel e (fun r => { r with acked := true })))

def execPassageReport (t bus id : Nat) (data : List Byte) (s : State) : Answer := happen t s (fun s =>
  s.nodeReply bus id data 0x12 (fun e _ s => s.endRel e ccOk rrPassage))

def execNodeRefuse (t bus id : Nat) (data : List Byte) (s : State) : Answer := happen t s (fun s =>
  s.nodeReply bus id data 0x13 (fun e _ s => s.endRel e ccDenied rrRefused))

/-- NODE_ACK_TIMEOUT (R329). -/
def execNodeAckTimeout (t e : Nat) (s : State) : Answer := happen t s (fun s =>
  match s.rel e with
  | none => s
  | some r =>
    if r.state ≠ 2 ∨ r.kind ≠ rkNode ∨ r.acked ∨ s.now < r.sent + msT (max 10 (s.rd SHU_NODE_CFG.NODE_ACK)) then s
    else if r.tries < orOne (s.rd SHU_NODE_CFG.NODE_TRIES) then s.sendNode e r
    else (s.nodeFault r.target).endRel e ccWireBreak rrNoAck)

/-- Error frames on a bus, by LAST_ERR: 2 FORM, 3 ACK and 6 CRC have counters. On the way to bus-off the controller
was error-passive. -/
def State.canErrors (s : State) (bus : Nat) (errs : List Nat) : State :=
  let s := errs.foldl (fun (a : State) e =>
    let a := a.wr SHU_CAN_ERR.LAST_ERR (e % 7) bus
    match e % 7 with
    | 2 => a.bump SHU_CAN_CNT_FORM.COUNT bus
    | 3 => a.bump SHU_CAN_CNT_ACK.COUNT bus
    | 6 => a.bump SHU_CAN_CNT_CRC.COUNT bus
    | _ => a) s
  s.irq SHU_CAN_IRQ_STAT.PASSIVE bus

/-- A bus goes to BUS_OFF: the node actions on it end. -/
def State.busOffNow (s : State) (bus : Nat) (errs : List Nat) : State :=
  let s := ((s.canErrors bus errs).wr SHU_CAN_STAT.STATE 2 bus).bump SHU_CAN_CNT_BUSOFF.COUNT bus
  let s := (s.wr SHU_CAN_ERR.TEC 255 bus).irq SHU_CAN_IRQ_STAT.BUS_OFF bus
  let s := { s with shu := { s.shu with restart := s.shu.restart.erase bus } }
  let mine := s.shu.rel.filter (fun p => p.2.kind == rkNode && p.2.state == 2 &&
    SMap.get s.shu.nodeBus p.2.target 0 == bus)
  (mine.foldl (fun (a : State) p => a.endRel p.1 ccWireBreak rrBusOff) s).fndBusOff bus

/-- BUS_OFF (R329, R656): every release session on the bus ends, and its nodes depart. -/
def execBusOff (t bus : Nat) (errs : List Nat) (s : State) : Answer := happen t s (fun s =>
  if 2 ≤ bus ∨ s.rd SHU_CAN_STAT.STATE bus = 2 ∨ !s.on SHU_CAN_CTL.EN bus then s
  else s.busOffNow bus errs)

/-- RESTART (R325): bus-off recovery is started by hand. -/
def State.canRestart (s : State) (bus : Nat) : State :=
  if bus < 2 ∧ s.rd SHU_CAN_STAT.STATE bus = 2 ∧ !s.shu.restart.contains bus then
    { s with shu := { s.shu with restart := bus :: s.shu.restart } }
  else s

def execRestart (t bus : Nat) (s : State) : Answer := happen t s (fun s => s.canRestart bus)

/-- BUS_OFF_RECOVERED (R325): 128 × 11 recessive bits have passed, after RESTART where RESTART_MAN is set. -/
def execBusOffRecovered (t bus : Nat) (s : State) : Answer := happen t s (fun s =>
  if bus < 2 ∧ s.rd SHU_CAN_STAT.STATE bus = 2 ∧ (!s.on SHU_CAN_CTL.RESTART_MAN bus ∨ s.shu.restart.contains bus) then
    let s := { s with shu := { s.shu with restart := s.shu.restart.erase bus } }
    let s := (s.wr SHU_CAN_STAT.STATE 0 bus).wr SHU_CAN_ERR.TEC 0 bus
    (s.wr SHU_CAN_ERR.REC 0 bus).irq SHU_CAN_IRQ_STAT.RECOVERED bus
  else s)

/-! ## Start permits (R330–R332) -/

/-- A permit got no acknowledgement in its window: sent again after the gap, or given up. -/
def State.permitAgain (s : State) (e : Nat) (r : Rel) (window : Nat) : State :=
  let s := s.shuGive r.target
  if r.tries ≥ orOne (s.rd SHU_PERMIT_CFG.PERMIT_TRIES) then s.endRel e ccTimeout rrNoAck
  else if s.now < window + msT (10 * orOne (s.rd SHU_PERMIT_CFG.PERMIT_GAP)) then s
  else
    let (code, s) := s.sendPermit e r false
    if code = ccRegLimit then s.endRel e ccRegLimit rrLock
    else if code = ccOk then s
    else s.updRel e (fun r => { r with tries := r.tries + 1, sent := s.now })

/-- PERMIT_RESEND (R332): after a silent window and PERMIT_GAP; after the last send, the release session ends. -/
def execPermitResend (t e : Nat) (s : State) : Answer := happen t s (fun s =>
  match s.rel e with
  | none => s
  | some r =>
    let window := r.sent + msT (max 10 (s.rd SHU_PERMIT_CFG.PERMIT_ACK))
    if r.state ≠ 2 ∨ r.kind ≠ rkPermit ∨ r.acked ∨ s.now < window then s
    else s.permitAgain e r window)

/-- The vehicle's status is asked again. -/
def State.permitPoll (s : State) (e : Nat) (r : Rel) : State :=
  let s := s.shuGive r.target
  let (_, s) := s.sendPermit e r true
  { s with shu := { s.shu with polled := SMap.put s.shu.polled e s.now } }

/-- STATUS_QUERY (R332): every PERMIT_POLL after ACCEPTED; one refused by a lock is skipped. -/
def execStatusQuery (t e : Nat) (s : State) : Answer := happen t s (fun s =>
  match s.rel e with
  | none => s
  | some r =>
    let last := SMap.get s.shu.polled e r.sent
    if r.state ≠ 2 ∨ r.kind ≠ rkPermit ∨ !r.acked ∨ s.now < last + msT (100 * orOne (s.rd SHU_PERMIT_CFG.PERMIT_POLL)) then s
    else s.permitPoll e r)

/-- A vehicle unit's reply (R330, R332): 0 REFUSED, 1 ACCEPTED, 2 STARTED; one whose form, identity, ARC_SEQ or check is
wrong is not taken. -/
def State.vehicleReply (s : State) (e : Nat) (f : List Byte) : State :=
  match s.rel e with
  | none => s
  | some r =>
    let form := f.length == 24 && leAt f 0 1 == 0x56 && decide (leAt f 1 1 ≤ 2) && leAt f 4 4 == r.vuId &&
      leAt f 8 4 == r.arcSeq
    if r.state ≠ 2 ∨ r.kind ≠ rkPermit ∨ !form then s
    else
      let (code, tag, s) := s.kceNow 0x09 kKVU (leBytes 4 r.vuId) (slice f 0 16)
      if code ≠ ccOk ∨ tag.take 8 ≠ slice f 16 8 then s
      else
        let s := s.shuGive r.target
        match leAt f 1 1 with
        | 0 => s.endRel e ccDenied rrRefused
        | 1 => s.updRel e (fun r => { r with acked := true })
        | _ => s.endRel e ccOk rrPassage

def execVehicleReply (t e : Nat) (frame : List Byte) (s : State) : Answer := happen t s (fun s =>
  match s.rel e with
  | some r => if s.owner r.target = owShu then s.vehicleReply e frame else s
  | none => s)

end Sys2Proof.Machine
end

