-- ==== Sys2Proof/Machine/Rad.lean ====
section
/-! DEFINITION. The commands of RAD (R136–R171): steps, requests, ownership, ledgers, calibration and the S3 watch. -/

namespace Sys2Proof.Machine

/-! ## Calibration (R165–R168) -/

/-- CAL_BUSY from the transceivers. -/
def State.calBusy (s : State) : State :=
  s.flag RAD_STAT.CAL_BUSY ((List.range 20).any (fun k => (s.trx k).calItem.isSome))

/-- A calibration begins on a transceiver: RAD takes ownership (R143, R165); from FAULT it starts as from STANDBY. -/
def State.calStart (s : State) (t : Nat) (boot : Bool) : State :=
  let fault := decide (s.trxState t = rsFault)
  let s := s.updTrx t (fun x => { x with dest := none, req := none, calItem := some 0, calBoot := boot,
                                         calFault := fault, calReturn := false, calResult := ccOk })
  let s := ((s.wr RAD_TRX_STAT.OWNER owRad t).wr RAD_TRX_STAT.STATE rsCal t).wr RAD_TRX_STAT.MOVING 0 t
  let s := s.wr64 RAD_TRX_STAMP_LO.STAMP RAD_TRX_STAMP_HI.STAMP s.now t
  s.calBusy

/-- A queued calibration can run: no owner, and SLEEP, STANDBY or FAULT (R140, R168). -/
def State.calCan (s : State) (t : Nat) : Bool :=
  s.owner t == owNone && (s.trxState t == rsSleep || s.trxState t == rsStandby || s.trxState t == rsFault) &&
    (s.running 0x04 || s.rep 0x04 == stInit)

/-- Start the queued calibrations that can run. -/
def State.calPump (s : State) : State :=
  let go := s.rad.calQ.filter s.calCan
  let s := { s with rad := { s.rad with calQ := s.rad.calQ.filter (fun t => !go.contains t) } }
  go.foldl (fun (a : State) t => a.calStart t false) s

/-- Queue a calibration; one that is queued or runs stays. -/
def State.calQueue (s : State) (t : Nat) : State :=
  if 20 ≤ t ∨ s.rad.calQ.contains t ∨ (s.trx t).calItem.isSome then s
  else { s with rad := { s.rad with calQ := s.rad.calQ ++ [t] } }

/-- RAD_CAL_ALL, RAD_CAL_ONE: a write of RAD_CAL_CTL. -/
def State.calCtl (s : State) (all one : Bool) (t : Nat) : State :=
  let s := if all then (List.range 20).foldl State.calQueue s else s
  (if one then s.calQueue t else s).calPump

def execRadCalAll (t : Nat) (s : State) : Answer := happen t s (fun s => s.calCtl true false 0)

def execRadCalOne (t trx : Nat) (s : State) : Answer := happen t s (fun s => s.calCtl false true trx)

/-- TEMP_CAL_TRIGGER (R165): the die temperature has moved by CAL_DT since the last passing calibration. -/
def execTempCalTrigger (t trx : Nat) (temp : Int) (s : State) : Answer := happen t s (fun s =>
  let s := s.wr RAD_TEMP.TEMP (ofSigned 16 temp)
  let d := (temp - 10 * toSigned 8 (s.rd RAD_TRX_CAL.TEMP trx)).natAbs
  if trx < 20 ∧ s.rd RAD_TRX_CAL.VALID trx = 15 ∧ d ≥ 10 * clampTo 1 40 (s.rd RAD_CAL_CFG.CAL_DT) then
    (s.calQueue trx).calPump
  else s)

/-- The channel or band on which the RETURN tone is permitted with ledger room for 100 µs (R166). -/
def State.returnBand (s : State) (t : Nat) : Option Nat :=
  let room := fun (b : Nat) => decide (s.ledTotal t b + 100 ≤ s.allowance t b)
  if !s.on RAD_STAT.LOCK_VALID ∨ !s.on RAD_TRX_CTL.PORT_EN t then none
  else if t < 16 then (List.range 2).find? (fun b => s.on RAD_LOCK_UWB_A.PERMIT b && room b)
  else (List.range 8).find? (fun b => s.on RAD_LOCK_UHF_LIM.VALID b && room b)

/-- RL_FAULT: a value above RL_MIN acts as RL_MIN. -/
def State.rlFault (s : State) : Nat := min (s.rd RAD_CAL_CFG.RL_FAULT) (s.rd RAD_CAL_CFG.RL_MIN)

/-- The item passes (R166): its precondition holds. -/
def State.calPre (s : State) (t item : Nat) (pre : Bool) (rl : Nat) : Bool :=
  if item = 1 then pre && (s.returnBand t).isSome
  else if item = 2 then pre && (s.trx t).calReturn && decide (rl ≥ s.rd RAD_CAL_CFG.RL_MIN)
  else pre

/-- GAIN registers from a measured level offset (R166): the difference from the factory value, clamped to ±2.0 dB. -/
def State.gainReg (s : State) (t : Nat) (v : Int) : State :=
  let f := toSigned 8 (s.rd RAD_TRX_GAIN.GAIN_F t)
  let u := v - f
  let c := max (-20) (min 20 u)
  let s := (s.wr RAD_TRX_GAIN.GAIN_U (ofSigned 8 c) t).wr RAD_TRX_GAIN.GAIN_EFF (satSigned 8 (f + c)) t
  s.flag RAD_TRX_GAIN.CLAMPED (u != c) t

/-- The effective gain offset from the factory and the calibrated value. -/
def State.gainEff (s : State) (t : Nat) : State :=
  s.wr RAD_TRX_GAIN.GAIN_EFF (satSigned 8 (toSigned 8 (s.rd RAD_TRX_GAIN.GAIN_F t) + toSigned 8 (s.rd RAD_TRX_GAIN.GAIN_U t))) t

/-- The items of the user calibration region that an item of R165 writes (R563). -/
def calItemsOf (t item : Nat) (vals : List Int) : List (Nat × Int) :=
  let b := 0x1000 + 32 * t
  if item = 0 then [(b + 1, vals.getD 0 0)]
  else if item = 2 then [(b, vals.getD 0 0)]
  else if item = 3 then [(b + 2, vals.getD 0 0), (b + 3, vals.getD 1 0), (b + 4, vals.getD 2 0), (b + 5, vals.getD 3 0)]
  else []

/-- A passing item is stored; RETURN also counts its tone and judges PORT_FAULT (R165–R167). -/
def State.calPass (s : State) (t item : Nat) (vals : List Int) (rl : Nat) : State :=
  let s := s.calStore (calItemsOf t item vals)
  let s := s.wr RAD_TRX_CAL.VALID (setBit (s.rd RAD_TRX_CAL.VALID t) item true) t
  let s := if item = 2 then s.gainReg t (vals.getD 0 0) else s
  if item ≠ 1 then s
  else
    let s := (s.wr RAD_TRX_REFL.RL (min 0xFFFF rl) t).updTrx t (fun x => { x with calReturn := true })
    let s := match s.returnBand t with
      | some b => s.ledAdd t b 100
      | none => s
    if rl < s.rlFault then
      if s.on RAD_TRX_STAT.PORT_FAULT t then s
      else (s.wr RAD_TRX_STAT.PORT_FAULT 1 t).irq RAD_IRQ_STAT.PORT_FAULT
    else s.wr RAD_TRX_STAT.PORT_FAULT 0 t

/-- The last item is done: STANDBY, or FAULT again when it began there and SYNTH has not passed; SES takes up button
reception again. -/
def State.calEnd (s : State) (t : Nat) (temp : Int) : State :=
  let x := s.trx t
  let s := (s.wr RAD_CAL_STAT.RESULT x.calResult).wr RAD_TRX_CAL.RESULT x.calResult t
  let s := if x.calResult = ccOk then s.wr RAD_TRX_CAL.TEMP (satSigned 8 (temp / 10)) t else s
  let s := s.updTrx t (fun x => { x with calItem := none, calBoot := false })
  let s := (s.dropTo t (if x.calFault then rsFault else rsStandby)).wr RAD_TRX_STAT.OWNER owNone t
  let s := s.wr RAD_FAULT.FAULT (setBit (s.rd RAD_FAULT.FAULT) t x.calFault)
  (s.calBusy.calPump).btnHold t

/-- One calibration item of a transceiver is judged and stored. -/
def State.calItemTaken (s : State) (trx i : Nat) (pre : Bool) (vals : List Int) (rl : Nat) (temp : Int) : State :=
  let s := s.wr RAD_TEMP.TEMP (ofSigned 16 temp)
  let rl := if i = 2 then s.rd RAD_TRX_REFL.RL trx else rl
  let ok := s.calPre trx i pre rl
  let s := (s.wr RAD_CAL_STAT.LAST_TRX trx).wr RAD_CAL_STAT.LAST_ITEM i
  let s := s.wr RAD_CAL_STAT.RESULT (if ok then ccOk else ccPrecondition)
  let s := if ok then s.calPass trx i vals rl
    else (s.irq RAD_IRQ_STAT.CAL_FAIL).updTrx trx (fun x => { x with calResult := ccPrecondition })
  let s := if i = 0 ∧ ok then s.updTrx trx (fun x => { x with calFault := false }) else s
  let next := if i = 0 ∧ !s.on RAD_TRX_CTL.PORT_EN trx then 3 else i + 1
  if next ≤ 3 then s.updTrx trx (fun x => { x with calItem := some next }) else s.calEnd trx temp

/-- CAL_ITEM_DONE (R165, R166): the item is stored, or keeps its value with PRECONDITION; RETURN and TXLVL are skipped
where PORT_EN is 0 (R146). -/
def execCalItemDone (t trx : Nat) (pre : Bool) (vals : List Int) (rl : Nat) (temp : Int) (s : State) : Answer :=
  happen t s (fun s =>
    match (s.trx trx).calItem with
    | none => s
    | some i => s.calItemTaken trx i pre vals rl temp)

/-- Start-up calibration of every transceiver (R165). -/
def State.calBootAll (s : State) : State := (List.range 20).foldl (fun (a : State) t => a.calStart t true) s

/-! ## What an owner learns -/

/-- The request of the present owner has failed with a code: its exchange, its bounding request or its permit ends. -/
def State.radTell (s : State) (t code dbxReason : Nat) : State :=
  let o := s.owner t
  if o = owTrn then
    match s.exch t with
    | some e => s.exchEnd t e code (if code = ccTargetReset then trNone else trRefused) 0 0
    | none => s
  else if o = owDbx then
    match s.dbxEx t with
    | some x => s.dbxEnd t x code dbxReason 0 0 0 0 0
    | none => s
  else if o = owShu ∧ code = ccRegLimit then
    match SMap.first s.shu.rel (fun _ r => r.kind == rkPermit && r.target == t && r.state == 2 && !r.acked) with
    | some (e, _) => s.endRel e ccRegLimit rrLock
    | none => s
  else s

/-! ## Steps and requests (R138–R147) -/

/-- STATE_REQUEST (R141): RAD's code stands in LAST_CODE when it refuses. -/
def execStateRequest (t trx owner target ch9 freq step air follow : Nat) (hold : Bool) (mod dev rate : Nat)
    (s : State) : Answer := happen t s (fun s =>
  if trx < 20 then
    (s.radRequest trx { owner := owner, target := target, ch9 := ch9 % 2, freq := freq, step := step, air := air,
                        follow := follow, hold := hold, mod := mod, dev := dev, rate := rate }).2
  else s)

/-- STEP_COMPLETE (R139, R140): the state is reported exactly the tabled time after the step began; a step that waits
for a lock is extended without one. -/
def execStepComplete (t trx : Nat) (lock : Bool) (s : State) : Answer := happen t s (fun s =>
  let x := s.trx trx
  match x.dest with
  | none => s
  | some d =>
    if trx ≥ 20 ∨ s.now < x.start + x.dur ∨ x.ext then s
    else if s.needsLock trx && !lock then
      let s := s.updTrx trx (fun x => { x with ext := true })
      (s.bump RAD_CNT_LATE.COUNT).irq RAD_IRQ_STAT.LATE_LOCK
    else (s.reached trx d (x.start + x.dur)).calPump)

/-- LATE_LOCK (R140): the extended step ends where lock is reported. -/
def execLateLock (t trx : Nat) (s : State) : Answer := happen t s (fun s =>
  let x := s.trx trx
  match x.dest with
  | none => s
  | some d => if trx < 20 ∧ x.ext ∧ s.now ≤ x.start + 2 * x.dur then s.reached trx d s.now else s)

/-- The synthesizer of a transceiver did not lock within its extension: the fault state, and its owner told. -/
def State.lockLost (s : State) (trx : Nat) : State :=
  let b := (s.trx trx).txBand
  let s := s.updTrx trx (fun x => { x with planned := 0 })
  let s := ((s.dropTo trx rsFault).wr RAD_TRX_STAT.LAST_CODE ccTimeout trx).dutyReg trx b
  let s := (s.wr RAD_FAULT.FAULT (setBit (s.rd RAD_FAULT.FAULT) trx true)).irq RAD_IRQ_STAT.FAULT
  (s.radTell trx ccTimeout dbRefused).wr RAD_TRX_STAT.OWNER owNone trx

/-- SYNTH_LOCK_TIMEOUT (R140): FAULT; the request completes with TIMEOUT. -/
def execSynthLockTimeout (t trx : Nat) (s : State) : Answer := happen t s (fun s =>
  let x := s.trx trx
  if trx < 20 ∧ x.dest.isSome ∧ x.ext ∧ s.now ≥ x.start + 2 * x.dur then
    s.lockLost trx
  else s)

/-- An idle timer has run (R145): no request pending, no HOLD, in the state since the timer's time. -/
def State.idleOver (s : State) (t st ticks : Nat) : Bool :=
  let x := s.trx t
  decide (t < 20) && s.trxState t == st && x.dest.isNone && x.req.isNone && !x.hold && decide (s.now ≥ x.idleFrom + ticks)

def execSynthHoldExpired (t trx : Nat) (s : State) : Answer := happen t s (fun s =>
  if s.idleOver trx rsSynth (usT (10 * orOne (s.rd RAD_IDLE_CFG.SYNTH_HOLD))) then
    (s.beginStep trx rsStandby s.now).wr RAD_TRX_STAT.TARGET rsStandby trx
  else s)

def execStbyHoldExpired (t trx : Nat) (s : State) : Answer := happen t s (fun s =>
  if s.idleOver trx rsStandby (msT (orOne (s.rd RAD_IDLE_CFG.STBY_HOLD))) then
    (s.beginStep trx rsSleep s.now).wr RAD_TRX_STAT.TARGET rsSleep trx
  else s)

/-- PARK (R146): a transceiver without owner is moved to SLEEP at once. -/
def State.park (s : State) (t : Nat) (on : Bool) : State :=
  let s := s.flag RAD_TRX_CTL.PARK on t
  if on ∧ s.owner t = owNone ∧ s.trxState t ≠ rsFault ∧ s.trxState t ≠ rsSleep then s.handBack t else s

def execPark (t trx : Nat) (on : Bool) (s : State) : Answer := happen t s (fun s =>
  if trx < 20 then s.park trx on else s)

/-- RAPID_BIT_TIMEOUT (R147): 200 µs of residence. -/
def execRapidBitTimeout (t trx : Nat) (s : State) : Answer := happen t s (fun s =>
  if trx < 16 ∧ s.trxState trx = rsRapid ∧ (s.trx trx).dest.isNone ∧ s.now ≥ (s.trx trx).idleFrom + usT 200 then
    let s := s.updTrx trx (fun x => { x with follow := rsSynth })
    let s := s.frameOver trx false
    (s.wr RAD_TRX_STAT.LAST_CODE ccTimeout trx).radTell trx ccTimeout dbRbTimeout
  else s)

/-- Transit's phase moves on where its frame ends (R177). -/
def State.pollOver (s : State) (t : Nat) : State :=
  match s.exch t with
  | some e =>
    if e.phase = 2 then s.setExch t { e with phase := 3 }
    else if e.phase = 4 ∧ e.finalTx ≠ 0 then s.setExch t { e with phase := 5 }
    else s
  | none => s

/-- TRANSMISSION_END (R144, R161): the owner ends its frame; the time counted replaces the plan. -/
def execTransmissionEnd (t trx : Nat) (s : State) : Answer := happen t s (fun s =>
  if trx < 20 ∧ (s.trxState trx = rsTransmit ∨ s.trxState trx = rsRapid) then
    (s.frameOver trx false).pollOver trx
  else s)

/-- TRANSMISSION_CUT (R161). -/
def execTransmissionCut (t trx : Nat) (s : State) : Answer := happen t s (fun s =>
  if trx < 20 ∧ s.overLimit trx then (s.cutTx trx).radTell trx ccRegLimit dbRefused else s)

/-- A transmission in progress or admitted on a transceiver does not meet the lock set in force (R163). -/
def State.lockBad (a : State) (t : Nat) : Bool :=
  let x := a.trx t
  let q := match x.txReq with
    | some r => some r
    | none => x.req
  match q with
  | none => false
  | some r =>
    if r.target = rsTransmit ∨ r.target = rsRapid then
      match a.bandOf t r with
      | none => true
      | some b => (a.lockTon t b != 0 && decide (r.air > a.lockTon t b * 10)) ||
          decide (a.ledTotal t b > a.allowance t b) || decide (a.rd RAD_TRX_STAT.STEP_EFF t > a.lockStep t b)
    else false

/-- A new lock set (R163): a transmission that no longer meets it is cut. -/
def State.radRejudge (s : State) : State :=
  (List.range 20).foldl (fun (a : State) t => if a.lockBad t then (a.cutTx t).radTell t ccRegLimit dbRefused else a)
    (s.irq RAD_IRQ_STAT.LOCK_CHANGE)

/-! ## Ownership (R143) -/

def execOwnershipGrant (t trx owner : Nat) (s : State) : Answer := happen t s (fun s =>
  if trx < 20 ∧ owTrn ≤ owner ∧ owner ≤ owShu then s.grantTrx trx owner else s)

def execHandover (t trx owner : Nat) (s : State) : Answer := happen t s (fun s =>
  if trx < 20 ∧ owTrn ≤ s.owner trx ∧ s.owner trx ≤ owShu ∧ owner ≤ owShu then
    if owner = owNone then ((s.handBack trx).calPump).btnHold trx else s.wr RAD_TRX_STAT.OWNER owner trx
  else s)

/-! ## UHF reception (R150, R171) -/

/-- The check of a received frame, over length and payload in the order sent. -/
def State.uhfCheck (s : State) (t : Nat) (payload : List Byte) (check : Nat) : Bool :=
  let len := if s.on RAD_TRX_UHF_CFG.LEN_VAR t then leBytes 1 payload.length else []
  !s.on RAD_TRX_UHF_CFG.CRC_EN t || crcBits 16 0x1021 0xFFFF (bitsMsb (len ++ payload)) == check % 65536

/-- The watch transceiver (R171). -/
def State.s3Trx (s : State) : Nat :=
  let v := s.rd RAD_CTL.S3_TRX
  if 16 ≤ v ∧ v ≤ 19 then v else 16

/-- UHF_FRAME_RECEIVED: passed to the owner, dropped, or held by the always-on domain in S3, which wakes the device. -/
def execUhfFrameReceived (t trx syncErr : Nat) (payload : List Byte) (check : Nat) (s : State) : Answer :=
  happen t s (fun s =>
    let sync := syncErr ≤ (if s.on RAD_TRX_UHF_CFG.SYNC32 trx then 1 else 0)
    if trx < 16 ∨ 20 ≤ trx ∨ !sync ∨ payload.length = 0 ∨ 255 < payload.length then s
    else if s.pwrState = psS3 then
      if trx = s.s3Trx ∧ s.owner trx = owWatch ∧ s.now ≥ s.rad.watchAt + usT 1610 ∧ s.uhfCheck trx payload check ∧
          s.rad.held.isNone then
        { s with rad := { s.rad with held := some (payload, s.now) } }.wakeBy 3
      else s
    else if s.trxState trx ≠ rsReceive then s
    else if !s.uhfCheck trx payload check then s.bump RAD_TRX_CNT_CRC.COUNT trx
    else if s.owner trx = owSes then s.buttonFrame payload s.now
    else if s.owner trx = owShu then
      match SMap.first s.shu.rel (fun _ r => r.kind == rkPermit && r.target == trx && r.state == 2) with
      | some (e, _) => s.vehicleReply e payload
      | none => s
    else s)

/-- WATCH_CYCLE (R171): the watch transceiver climbs, listens for S3_ON and sleeps again. -/
def execWatchCycle (t : Nat) (s : State) : Answer := happen t s (fun s =>
  let period := msT (max 10 (s.rd RAD_S3_CFG.S3_PERIOD))
  if s.pwrState = psS3 ∧ s.now ≥ s.rad.watchAt + period then
    let s := { s with rad := { s.rad with watchAt := s.now } }
    let s := s.wr RAD_TRX_STAT.OWNER owWatch s.s3Trx
    s.wr64 RAD_TRX_STAMP_LO.STAMP RAD_TRX_STAMP_HI.STAMP
      (s.now + usT 1610 + usT (100 * orOne (s.rd RAD_S3_CFG.S3_ON)) + usT 22) s.s3Trx
  else s)

/-! ## Ledgers (R160–R162, R690) -/

/-- Count every running transmission up to now in the present bin; its plan shrinks by what is counted. -/
def State.countRunning (s : State) : State :=
  (List.range 20).foldl (fun (a : State) t =>
    let x := a.trx t
    match x.txFrom with
    | none => a
    | some f =>
      let us := ticksUs (a.now - f)
      let a := a.updTrx t (fun x => { x with txFrom := some a.now, planned := x.planned - us })
      a.ledAdd t x.txBand us) s

/-- One minute boundary: every ledger's bin is written, and the oldest bin leaves its ring. -/
def State.minuteOver (s : State) : State :=
  let ks := s.rad.led.map (·.1)
  let s := ks.foldl (fun (a : State) k => a.ledWrite (k / 8) (k % 8)) s
  let m := s.rad.minute + 1
  let led := s.rad.led.map (fun p => (p.1, ({ bins := p.2.bins.set (m % 60) 0, written := 0 } : Ledger)))
  let s := { s with rad := { s.rad with minute := m, led := led } }
  ks.foldl (fun (a : State) k => a.dutyReg (k / 8) (k % 8)) s

/-- Minute boundaries passed, at most a ring of them. -/
def State.minutesOver : Nat → State → State
  | 0, s => s
  | n + 1, s => State.minutesOver n s.minuteOver

def execLedgerMinute (t : Nat) (s : State) : Answer := happen t s (fun s =>
  let m := s.now / minuteTicks
  if m = s.rad.minute then s
  else
    let s := State.minutesOver (if s.rad.minute < m then min 60 (m - s.rad.minute) else 1) s.countRunning
    { s with rad := { s.rad with minute := m, led := s.rad.led.map (fun p =>
        (p.1, { p.2 with bins := (List.range 60).map (fun j => p.2.bins.getD ((j + s.rad.minute + 60 - m % 60) % 60) 0) })) } })

/-- CURRENT_BIN_WRITE (R162): the present bin has grown by a sixty-fourth of the allowance since its last write. -/
def execCurrentBinWrite (t trx b : Nat) (s : State) : Answer := happen t s (fun s =>
  let s := s.countRunning
  let l := s.ledger trx b
  let grown := l.bins.getD (s.rad.minute % 60) 0 - l.written
  if trx < 20 ∧ b < 8 ∧ 0 < grown ∧ grown ≥ s.allowance trx b / 64 then s.ledWrite trx b else s)

/-- A ledger as its page holds it (R162, R522, R690): the bin current at the loss grows by a sixty-fourth of the
allowance; a lost bin counts as a full allowance; the ring is turned so that bin stands in the present minute. A page
never written holds an empty ledger. -/
def State.ledLoad (s : State) (t b : Nat) : Option Ledger :=
  let a := 0xA41000 + 256 * ledKey t b
  let h := s.pltWord a
  let full := s.allowance t b
  if h = 0 ∧ !s.pltPoisoned a then none
  else
    let lost := s.pltPoisoned a || bits h 63 56 != 0x1D
    let bin := fun (j : Nat) =>
      let w := a + 8 * (j / 2 + 1)
      if lost || s.pltPoisoned w then full else bits (s.pltWord w) (32 * (j % 2) + 31) (32 * (j % 2))
    let cur := if lost then 0 else bits h 5 0 % 60
    let k := s.rad.minute % 60
    let at' := fun (j : Nat) => bin ((cur + j + 60 - k) % 60) + (if j = k then full / 64 else 0)
    some { bins := (List.range 60).map at', written := 0 }

/-- R162: every ledger is loaded, and transmit requests are taken from then on. -/
def State.ledLoadAll (s : State) : State :=
  let s := { s with rad := { s.rad with minute := s.now / minuteTicks } }
  let keys := (List.range 20).flatMap (fun t => (List.range (if t < 16 then 2 else 8)).map (fun b => (t, b)))
  let s := keys.foldl (fun (a : State) k =>
    match a.ledLoad k.1 k.2 with
    | some l => { a with rad := { a.rad with led := SMap.put a.rad.led (ledKey k.1 k.2) l } }.dutyReg k.1 k.2
    | none => a) s
  s.wr RAD_STAT.LEDGER_READY 1

/-! ## Resets (R170) -/

/-- A unit reset of RAD: every transceiver to STANDBY, one in FAULT to SLEEP; ownership is cleared, requests complete
with TARGET_RESET, and INIT runs start-up calibration. -/
def State.radUnitReset (s : State) : State :=
  let s := (List.range 20).foldl (fun (a : State) t =>
    let fault := decide (a.trxState t = rsFault)
    let a := a.radTell t ccTargetReset 0
    let a := a.updTrx t (fun x => { x with calItem := none, calBoot := false })
    (a.dropTo t (if fault then rsSleep else rsStandby)).wr RAD_TRX_STAT.OWNER owNone t) s
  let s := { s with rad := { s.rad with calQ := [] } }
  (s.wr RAD_FAULT.FAULT 0).calBootAll

/-- R171: before S2 and S3 every transceiver moves to SLEEP. -/
def State.radSleep (s : State) : State :=
  (List.range 20).foldl (fun (a : State) t =>
    if a.trxState t = rsFault then a
    else
      let a := a.updTrx t (fun x => { x with calItem := none, calBoot := false })
      (a.dropTo t rsSleep).wr RAD_TRX_STAT.OWNER owNone t) s

end Sys2Proof.Machine
end

