-- ==== Sys2Proof/Machine/Trn.lean ====
section
/-! DEFINITION. The commands of Transit (R172–R205): exchanges, receptions, captures, pre-arms and antenna delays. -/

namespace Sys2Proof.Machine

/-! ## Exchanges (R177, R202, R203) -/

/-- CAL_BUSY, and RESULT BUSY for a calibration that yields its transceiver (R193). -/
def State.trnCalYield (s : State) (t : Nat) : State :=
  if s.trn.cal = some t then
    let s := { s with trn := { s.trn with cal := none } }
    let s := ((s.wr TRN_CAL_STAT.RESULT ccBusy).wr TRN_CAL_STAT.LAST_TRX t).wr TRN_STAT.CAL_BUSY 0
    (s.wr TRN_TRX_STAT.PHASE 0 t).handBack t
  else s

/-- A transceiver that SES can give to an exchange: it runs none, DBX holds none of another session on it, and its owner
is Transit or yields (R143, R202, R226). -/
def State.trnAvail (s : State) (t n : Nat) : Bool :=
  (s.exch t).isNone &&
    (match s.dbxEx t with
     | some x => x.fallback && x.session == n
     | none => true) &&
    (s.owner t == owTrn || s.grantable t)

/-- A transceiver that no exchange can have: in FAULT, or parked without owner (R141, R146). -/
def State.trnDead (s : State) (t : Nat) : Bool :=
  s.trxState t == rsFault || (s.owner t == owNone && s.on RAD_TRX_CTL.PARK t)

/-- A result that no exchange gave. -/
def State.trnRefuse (s : State) (n gen a code reason : Nat) : State :=
  let e : Exch := { session := n, gen := gen, dest := .session, token := 0, nonce := 0, anchor := a, seq := 0,
                    ds := s.on TRN_DS_CFG.DS, slot := 0, r := 0 }
  s.complete n gen poolTrn code reason (trnResult e (a % 16) (a / 16) code reason false 0 0 0 0)

/-- When an exchange that starts now ends, as planned (R177). -/
def State.rangeEnd (s : State) : Nat :=
  let k := if s.on TRN_DS_CFG.DS then 3 else 1
  s.now + usT (6 + k * s.replyUs + s.trnAir 24 + 40)

/-- Send an exchange to the member that has the anchor (R203): session, generation, anchor, token, nonce, the capture
and the next SEQ. None when the member cannot be reached. -/
def State.rangeAway (s : State) (n gen a : Nat) (cap dbx : Bool) : Option State :=
  let c := s.ctx n
  let (tag, s) := s.blnRequest (a / 16) 0x05 (if dbx then 0x06 else 0x05)
    (leBytes 2 n ++ leBytes 2 gen ++ leBytes 1 a ++ leBytes 4 c.token ++ leBytes 16 c.nonce ++ leBytes 1 cap.toNat ++
      leBytes 2 (SMap.get s.trn.seqs n 0))
  match tag with
  | some k =>
    let w : TrnAway := { session := n, gen := gen, anchor := a, until' := s.rangeEnd, tag := k, dbx := dbx }
    some { s with trn := { s.trn with away := s.trn.away ++ [w] } }
  | none => none

/-- The exchange of a session on a local transceiver, to be started. -/
def State.newExch (s : State) (n gen : Nat) (dest : ExFor) (token nonce a : Nat) (cap : Bool) : Exch :=
  { session := n, gen := gen, dest := dest, token := token, nonce := nonce, anchor := a, seq := 0,
    ds := s.on TRN_DS_CFG.DS || (match dest with
      | .dbx => true
      | _ => false), slot := 0, r := 0, cap := cap }

/-- A session's next exchange of RANGE (R271). -/
def State.rangeNext (s : State) (n : Nat) (cap : Bool) : State :=
  let c := s.ctx n
  match (s.aux n).plan with
  | [] => s
  | a :: _ =>
    if s.inTrn n ∨ s.trn.away.any (fun w => w.session == n) ∨
        s.ses.cpl.any (fun q => q.session == n && q.pool == poolTrn) then s
    else if !s.running 0x05 then s.trnRefuse n c.gen a ccBusy trRefused
    else if a / 16 ≠ s.device then
      match s.rangeAway n c.gen a cap false with
      | some s => s
      | none => s.trnRefuse n c.gen a ccTargetReset trNone
    else if s.trnDead (a % 16) then s.trnRefuse n c.gen a ccBusy trRefused
    else
      let s := s.trnCalYield (a % 16)
      if s.trnAvail (a % 16) n then s.startExch (a % 16) (s.newExch n c.gen .session c.token c.nonce a cap) else s

/-- A fallback's next exchange (R221): it waits for a TRN credit and for its transceiver. -/
def State.twrNext (s : State) (k : Nat) (x : DbxEx) (cap : Bool) : State :=
  let t := x.anchor % 16
  if !s.poolRoom poolTrn ∨ s.trn.ex.any (fun p => p.2.session == x.session && p.2.dest == .dbx) ∨
      s.trn.away.any (fun w => w.session == x.session) then s
  else
    let less := { x with left := x.left - 1 }
    if x.anchor / 16 ≠ s.device then
      match s.rangeAway x.session x.gen x.anchor cap true with
      | some s => (s.takeCredit poolTrn).setDbx k less
      | none => s.setDbx k { less with results := x.results ++ [(ccTargetReset, 0)] }
    else if !s.running 0x05 ∨ s.trnDead t then s.setDbx k { less with results := x.results ++ [(ccBusy, 0)] }
    else
      let s := s.trnCalYield t
      if s.trnAvail t x.session then
        ((s.takeCredit poolTrn).setDbx k less).startExch t (s.newExch x.session x.gen .dbx x.token x.nonce x.anchor cap)
      else s

/-- EXCHANGE_REQUEST (R177): for a session in RANGE that holds its credit, or for a fallback in BOUND. -/
def execExchangeRequest (t n : Nat) (cap : Bool) (s : State) : Answer := happen t s (fun s =>
  match s.ctx? n with
  | none => s
  | some c =>
    if c.state = ssRange ∧ bit c.pend pendTrn then s.rangeNext n cap
    else
      match SMap.first s.dbx.ex (fun _ x => x.session == n && x.gen == c.gen && x.fallback && decide (0 < x.left)) with
      | some (k, x) => s.twrNext k x cap
      | none => s)

/-- A ranging request of another member (R203), in the payload of `rangeAway`; none while it must wait. -/
def State.serveRange (s : State) (dev tag : Nat) (p : List Byte) : Option State :=
  let a := leAt p 4 1
  let t := a % 16
  let e := s.newExch (leAt p 0 2) (leAt p 2 2) (.remote dev tag) (leAt p 5 4) (leAt p 9 16) a (leAt p 25 1 == 1)
  let dead := !s.running 0x05 || s.trnDead t || !s.on TRN_TRX_CTL.ANCHOR_EN t || a / 16 != s.device
  if dead then some (s.blnReply dev 0x05 tag (trnResult e t s.device ccBusy trRefused false 0 0 0 0))
  else if !s.remoteRoom poolTrn then none
  else
    let s := s.trnCalYield t
    if s.trnAvail t 65536 then
      let s := { s with trn := { s.trn with seqs := SMap.put s.trn.seqs e.key (leAt p 26 2) } }
      some ((s.takeRemote poolTrn).startExch t e)
    else none

/-- The result of an exchange at another member arrives (R203). -/
def State.rangeBack (s : State) (tag : Nat) (data : List Byte) : State :=
  match s.trn.away.find? (fun w => w.tag == tag) with
  | none => s
  | some w =>
    let s := { s with trn := { s.trn with away := s.trn.away.erase w
                                          seqs := SMap.put s.trn.seqs w.session ((leAt data 4 2 + 1) % 65536) } }
    let code := leAt data 0 1
    if w.dbx then
      let s := s.dbxTwrResult w.session code data
      if code = ccDenied then s.abort w.session ccDenied (leAt data 1 1) else s
    else s.complete w.session w.gen poolTrn code (leAt data 1 1 % 16) (padTo data 32)

/-- A remote result that will not come ends with a code. -/
def State.rangeLost (s : State) (w : TrnAway) (code : Nat) : State :=
  let s := { s with trn := { s.trn with away := s.trn.away.erase w } }
  if w.dbx then s.dbxTwrResult w.session code [] else s.trnRefuse w.session w.gen w.anchor code trNone

/-- REMOTE_RANGE_TIMEOUT (R203). -/
def execRemoteRangeTimeout (t n : Nat) (s : State) : Answer := happen t s (fun s =>
  match s.trn.away.find? (fun w => w.session == n) with
  | some w => if s.now ≥ w.until' + msT 5 then s.rangeLost w ccTimeout else s
  | none => s)

/-! ## POLL and FINAL (R177, R180, R190, R225) -/

/-- GUARD of the channel Transit uses is held (R225). -/
def State.guarded (s : State) : Bool :=
  if s.on TRN_PHY_CFG.CH9 then s.on DBX_STAT.GUARD_CH9 else s.on DBX_STAT.GUARD_CH5

/-- A poll is committed, or is late. -/
def State.pollGo (s : State) (trx : Nat) (e : Exch) (plan : Nat) : State :=
  let s := s.settle trx 4
  if s.trxState trx ≠ rsSynth ∨ (s.trx trx).dest.isSome then
    let s := (s.add TRN_CNT_MISC.LATE 1).irq TRN_IRQ_STAT.LATE
    let s := s.trnEvent trLate trx 0 e.session
    (if (s.trx trx).dest.isSome then s else s.toSynth trx).setExch trx { e with slot := max e.slot s.now + pollGap }
  else
    let t0 := max plan (onGrid (s.now + usT 6))
    let (code, s) := s.radRequest trx { owner := owTrn, target := rsTransmit, ch9 := s.rd TRN_PHY_CFG.CH9,
                                        step := s.rd TRN_PHY_CFG.TX_STEP, air := s.pollAir, follow := rsReceive }
    if code ≠ ccOk then s.exchEnd trx e code trRefused 0 0
    else
      let s := { s with trn := { s.trn with lastPoll := SMap.put s.trn.lastPoll trx t0 } }
      let tx := t0 + s.markerT + s.dlyTx trx
      let s := s.wr64 TRN_TRX_TX_TS_LO.STAMP TRN_TRX_TX_TS_HI.STAMP tx trx
      s.setExch trx { e with phase := 2, pollTx := tx }

/-- POLL_COMMIT (R177, R180): the frame starts at its slot plus its offset; a transceiver not in SYNTH then has missed
its slot (LATE), and the exchange takes the next one. -/
def execPollCommit (t trx : Nat) (s : State) : Answer := happen t s (fun s =>
  match s.exch trx with
  | none => s
  | some e =>
    let plan := onGrid e.slot + 128 * e.r
    if 16 ≤ trx ∨ e.phase ≠ 0 ∨ s.now + usT 6 < plan ∨ s.guarded then s
    else s.pollGo trx e plan)

/-- The final frame is handed to the transceiver. -/
def State.finalGo (s : State) (trx : Nat) (e : Exch) : State :=
  let (code, s) := s.radRequest trx { owner := owTrn, target := rsTransmit, ch9 := s.rd TRN_PHY_CFG.CH9,
                                      step := s.rd TRN_PHY_CFG.TX_STEP, air := s.pollAir, follow := rsReceive }
  if code ≠ ccOk then s.exchEnd trx e code trRefused 0 0
  else s.setExch trx { e with finalTx := onGrid (e.respRx + usT s.replyUs) + s.dlyTx trx }

/-- FINAL_SEND (R180): the first grid instant at or after the RX stamp of RESP plus REPLY_DLY; no FINAL for a void
exchange (R201). -/
def execFinalSend (t trx : Nat) (s : State) : Answer := happen t s (fun s =>
  match s.exch trx with
  | none => s
  | some e =>
    if 16 ≤ trx ∨ e.phase ≠ 4 ∨ e.finalTx ≠ 0 ∨ e.void then s
    else s.finalGo trx e)

/-! ## Receptions (R183–R189) -/

/-- What the tests of a reception gave: REASON, the STS first path and the Ipatov one, and NLOS. -/
structure RxJudge where
  reason : Nat
  poisoned : Bool
  sts : FPath
  ipa : FPath
  nlos : Bool
deriving DecidableEq, Repr

/-- R184–R189, in the order SFD, saturation, alignment, correlation, early detection. -/
def State.judgeRx (s : State) (rx : Reception) : RxJudge :=
  let fp := fun (l : List (Int × Int)) =>
    firstPath l (s.rd TRN_FP_CFG.FP_THR_DB) (s.rd TRN_FP_CFG.PEAK_REL_DB) (s.rd TRN_FP_CFG.SEARCH_WIN)
  let ipa := fp rx.ipatov
  let sts := fp rx.sts
  let tol := s.rd TRN_CHECK_CFG.ALIGN_TOL
  let nlos := decide (sts.ticks + tol < ipa.ticks) || decide (rx.rxPwr - rx.fpPwr > 60)
  let nsub := max 2 (s.rd TRN_STS_CFG.NSUB)
  let reason :=
    if !rx.sfd then trNoSfd
    else if rx.sat > clampTo 1 100 (s.rd TRN_CHECK_CFG.SAT_FRAC) then trSat
    else if ipa.ticks + tol < sts.ticks then trAlign
    else if rx.stsQ < s.rd TRN_STS_CFG.STS_Q_MIN then
      (if ipa.snr ≥ s.rd TRN_FP_CFG.SNR_GATE then trStsFail else trWeak)
    else if !edlcPass rx.subs nsub (min 100 (s.rd TRN_CHECK_CFG.SUB_MIN)) then trEdlc
    else trNone
  { reason := reason, poisoned := rx.poisoned, sts := sts, ipa := ipa, nlos := nlos }

/-- The registers of the last reception (TRN_TRX_FP, PWR, FPDIAG). -/
def State.rxShow (s : State) (t : Nat) (rx : Reception) (j : RxJudge) : State :=
  let s := (s.wr TRN_TRX_FP.FP_IDX j.sts.ticks t).wr TRN_TRX_FP.FP_SNR j.sts.snr t
  let s := s.wr TRN_TRX_FP.STS_Q (min 255 rx.stsQ) t
  let s := (s.wr TRN_TRX_PWR.RX_PWR (satSigned 16 rx.rxPwr) t).wr TRN_TRX_PWR.FP_PWR (satSigned 16 rx.fpPwr) t
  (List.range 16).foldl (fun (a : State) i =>
    let k := j.sts.tap + i
    let c := if 8 ≤ k ∧ k - 8 ≤ 1015 then rx.sts.getD (k - 8) (0, 0) else (0, 0)
    (a.wr TRN_TRX_FPDIAG.I (satSigned 16 c.1) t i).wr TRN_TRX_FPDIAG.Q (satSigned 16 c.2) t i) s

/-! ## Captures (R194–R197) -/

/-- A frame's capture is called for (R194). -/
def State.capWanted (s : State) (cap : Bool) (reason : Nat) : Bool :=
  let w := s.rd TRN_CIR_CFG.WHEN
  let fail := reason == trStsFail || reason == trEdlc || reason == trAlign || reason == trSat
  (w == 1 && fail) || w == 2 || (w == 3 && cap) || (w == 4 && (fail || cap))

/-- A capture slot's bytes (R197). -/
def State.capBytes (s : State) (t session seq frame flags : Nat) (sts : Bool) (rx : Reception) (f : FPath) :
    List Byte :=
  let taps := if sts then rx.sts else rx.ipatov
  let head := bytesOf [0x43] ++ leBytes 1 t ++ leBytes 1 (flags + sts.toNat) ++ leBytes 1 rx.exp ++ leBytes 2 session ++
    leBytes 2 seq ++ leBytes 8 (rx.tap0 - s.dlyRx t) ++ leBytes 1 s.mer.era ++ leBytes 1 frame ++
    leBytes 2 (min 65023 f.ticks) ++ leBytes 2 f.peak ++ leBytes 2 (min 65535 f.noise) ++ leBytes 2 (s.source 0x05 t) ++
    leBytes 1 f.snr ++ leBytes 1 (min 255 rx.stsQ)
  let body := (List.range 1016).flatMap (fun k =>
    let c := taps.getD k (0, 0)
    leBytes 2 (satSigned 16 c.1) ++ leBytes 2 (satSigned 16 c.2))
  head ++ leBytes 4 (crc32 (head ++ body)) ++ body

/-- Write one capture slot, or drop it (R195, R196). -/
def State.capSlot (s : State) (t : Nat) (bytes : List Byte) : State :=
  let r := s.cirRing
  let n := s.rd TRN_CIR_STAT.NEXT
  let recent := s.trn.caps.filter (fun a => decide (s.now < a + secT 1))
  if r.2 = 0 then s
  else if recent.length ≥ 2000 ∨ s.slotFlag n = slotHost then
    (s.bump TRN_CNT_CIR_DROP.COUNT).irq TRN_IRQ_STAT.CIR_DROP
  else
    let s := { s with trn := { s.trn with caps := s.now :: recent } }
    let s := (s.fillSlot n bytes).wr TRN_CIR_STAT.NEXT (ringNext r n)
    let s := (s.bump TRN_CNT_CIR.COUNT).bump TRN_TRX_CNT_CIR.COUNT t
    (s.wr TRN_RATE_STAT.CIR_LAST_S (min 0xFFFF (recent.length + 1))).handSlot n

/-- Capture a frame when WHEN calls for it. -/
def State.capture (s : State) (t session seq frame : Nat) (cap pad void : Bool) (rx : Reception) (j : RxJudge) : State :=
  if !s.capWanted cap j.reason then s
  else
    let flags := 2 * (decide (j.reason = trSat)).toNat + 4 * pad.toNat + 8 * (decide (j.reason = trStsFail)).toNat +
      16 * (decide (j.reason = trAlign)).toNat + 32 * (decide (j.reason = trEdlc)).toNat + 64 * void.toNat +
      128 * (decide (j.reason = trWeak)).toNat
    let src := s.rd TRN_CIR_CFG.SRC
    let which := if src = 0 then [false] else if src = 1 then [true] else [false, true]
    which.foldl (fun (a : State) sts =>
      a.capSlot t (a.capBytes t session seq frame flags sts rx (if sts then j.sts else j.ipa))) s

/-! ## Outcomes (R188–R191) -/

/-- A frame or exchange has failed: repeated in the next slot where R189 and R190 allow, else its result. -/
def State.rxFail (s : State) (t : Nat) (e : Exch) (reason : Nat) (replied : Bool) : State :=
  let again := decide ((reason = trNoFrame ∨ reason = trNoSfd ∨ reason = trWeak) ∧ e.retries < s.rd TRN_RETRY_CFG.RETRY_MAX) ||
    (decide (reason = trSat) && !e.pad)
  if e.void then (s.voidEnd t e replied).freeIfDone e.session
  else if again then (s.frameOver t true).setExch t { e with phase := 9, fail := reason }
  else s.exchEnd t e (trnReasonCode reason) reason 0 0

/-- The end of an exchange whose frames were all received: R188's clock test, then the result. -/
def State.rxDone (s : State) (t : Nat) (e : Exch) (tof eps : Int) : State :=
  if eps.natAbs > 100 * clampTo 1 200 (s.rd TRN_CHECK_CFG.CLK_MAX) then s.rxFail t e trClkoff true
  else if e.void then (s.voidEnd t e true).freeIfDone e.session
  else s.exchEnd t e ccOk trNone tof eps

/-- KIND, SEQ and CHECK of a report hold (R175), or the code that KCE gave. -/
def State.reportCheck (s : State) (e : Exch) (p : List Byte) : Nat × Bool × State :=
  let (code, tag, s) := s.kceNow 0x05 kKS (s.ks e.token e.nonce)
    (leBytes 16 e.nonce ++ leBytes 2 e.seq ++ slice p 0 16)
  (code, leAt p 0 1 == 0x52 && leAt p 1 1 == e.seq % 256 && tag.take 8 == slice p 16 8, s)

/-- A response frame is judged. -/
def State.respTaken (s : State) (trx : Nat) (e : Exch) (rx : Reception) : State :=
  let s := s.settle trx 4
  let s := if s.trxState trx = rsTransmit then s.frameOver trx true else s
  let j := s.judgeRx rx
  let s := s.rxShow trx rx j
  let s := s.capture trx e.session e.seq 1 e.cap e.pad e.void rx j
  let stamp := rx.tap0 + j.sts.ticks + rx.marker - s.dlyRx trx
  let e := { e with respRx := stamp, fpSnr := min 255 j.sts.snr, stsQ := min 255 rx.stsQ, nlos := j.nlos,
                    eps := rx.clkoff, phase := 4 }
  if j.poisoned then s.exchEnd trx e ccPoisoned trNone 0 0
  else if j.reason ≠ trNone then s.rxFail trx e j.reason true
  else
    let s := s.wr64 TRN_TRX_RX_TS_LO.STAMP TRN_TRX_RX_TS_HI.STAMP stamp trx
    if e.ds then
      if e.void then (s.voidEnd trx e true).freeIfDone e.session else s.setExch trx e
    else
      let s := s.wr TRN_TRX_STAT.PHASE 6 trx
      let (code, ok, s) := s.reportCheck e rx.payload
      if code ≠ ccOk then s.exchEnd trx e code trNone 0 0
      else if !ok then s.rxFail trx e trReport true
      else s.rxDone trx e (ssTof (stamp - e.pollTx) (leAt rx.payload 4 5) rx.clkoff) rx.clkoff

/-- RESP_RECEIVED (R183–R189): the RX stamp is taken and the frame tested; under SS-TWR it carries the report. -/
def execRespReceived (t trx : Nat) (rx : Reception) (s : State) : Answer := happen t s (fun s =>
  match s.exch trx with
  | none => s
  | some e =>
    if 16 ≤ trx ∨ (e.phase ≠ 2 ∧ e.phase ≠ 3) then s
    else s.respTaken trx e rx)

/-- REPLY_DLY, and REPLY_TOL plus CLK_MAX of it, in ticks (R188). -/
def State.replyWin (s : State) : Nat × Nat :=
  let d := usT s.replyUs
  (d, s.rd TRN_DS_CFG.REPLY_TOL * ticksPerUs10 / 100 + d * clampTo 1 200 (s.rd TRN_CHECK_CFG.CLK_MAX) / 1000000)

/-- A report frame is judged. -/
def State.reportTaken (s : State) (trx : Nat) (e : Exch) (rx : Reception) : State :=
  let s := s.settle trx 4
  let s := if s.trxState trx = rsTransmit then s.frameOver trx true else s
  let j := s.judgeRx rx
  let s := s.capture trx e.session e.seq 3 e.cap e.pad e.void rx j
  if j.poisoned then s.exchEnd trx e ccPoisoned trNone 0 0
  else if j.reason ≠ trNone then s.rxFail trx e j.reason true
  else
    let s := s.wr TRN_TRX_STAT.PHASE 6 trx
    let (code, ok, s) := s.reportCheck e rx.payload
    let db : Int := leAt rx.payload 4 5
    let rb : Int := leAt rx.payload 9 5
    let ra : Int := (e.respRx : Int) - e.pollTx
    let da : Int := (e.finalTx : Int) - e.respRx
    let w := s.replyWin
    let bad := fun (v : Int) => decide ((v - w.1).natAbs > w.2)
    if code ≠ ccOk then s.exchEnd trx e code trNone 0 0
    else if !ok then s.rxFail trx e trReport true
    else if bad db || bad (rb - db) then s.rxFail trx e trReplyWin true
    else s.rxDone trx e (dsTof ra rb da db) (dsEps ra rb da db)

/-- REPORT_RECEIVED (R175, R177, R188): tested as a frame, checked, and the time of flight computed. -/
def execReportReceived (t trx : Nat) (rx : Reception) (s : State) : Answer := happen t s (fun s =>
  match s.exch trx with
  | none => s
  | some e =>
    if 16 ≤ trx ∨ !e.ds ∨ e.finalTx = 0 ∨ (e.phase ≠ 4 ∧ e.phase ≠ 5) then s
    else s.reportTaken trx e rx)

/-- No frame came in its window. -/
def State.frameMissed (s : State) (trx : Nat) (e : Exch) : State :=
  let s := s.settle trx 4
  let s := if s.trxState trx = rsTransmit then s.frameOver trx true else s
  s.rxFail trx e trNoFrame false

/-- NO_FRAME (R190): no preamble by REPLY_TOL and 16 preamble symbols after the expected start. -/
def execNoFrame (t trx : Nat) (s : State) : Answer := happen t s (fun s =>
  match s.exch trx with
  | none => s
  | some e =>
    let sent := if e.finalTx ≠ 0 then e.finalTx else e.pollTx
    let waits := e.phase = 2 ∨ e.phase = 3 ∨ e.phase = 5 ∨ (e.phase = 4 ∧ e.finalTx ≠ 0)
    let until' := sent + usT s.replyUs + s.rd TRN_DS_CFG.REPLY_TOL * ticksPerUs10 / 100 +
      16 * symChips s.trnCode * 128 - s.markerT - s.dlyTx trx
    if 16 ≤ trx ∨ ¬ waits ∨ s.now < until' then s
    else s.frameMissed trx e)

/-- RETRY (R189, R190): the exchange takes the next slot, with the receive pad after a saturated frame. -/
def execRetry (t trx : Nat) (s : State) : Answer := happen t s (fun s =>
  match s.exch trx with
  | none => s
  | some e =>
    if 16 ≤ trx ∨ e.phase ≠ 9 then s
    else
      let e : Exch := if e.fail = trSat then { e with pad := true } else { e with retries := e.retries + 1 }
      let s := s.toSynth trx
      s.startExch trx { e with pollTx := 0, respRx := 0, finalTx := 0, nlos := false, fail := 0 })

/-! ## Pre-arms (R199) -/

def execPrearmHoldExpired (t n : Nat) (s : State) : Answer := happen t s (fun s =>
  let all := s.trn.pre ++ s.trn.displaced
  match SMap.first all (fun _ p => p.session == n) with
  | none => s
  | some (_, p) =>
    if (s.ctx n).state ≥ ssRange ∧ s.live n p.gen then s
    else if s.now ≥ p.since + msT (orOne (s.rd TRN_PREARM_CFG.PREARM_HOLD)) then
      (s.unPrearm n p.gen).bump TRN_CNT_PREARM.COUNT
    else s)

/-! ## Antenna delays (R192, R193) -/

/-- The effective delays of a port: factory plus user, clamped (R192). -/
def State.adlyEff (s : State) (t : Nat) : State :=
  let eff := fun (f u : Nat) => ofSigned 16 ((f : Int) + max (-320) (min 320 (toSigned 16 u)))
  let s := s.wr TRN_TRX_ADLY_TX.EFF (eff (s.rd TRN_TRX_ADLY_F.TX_F t) (s.rd TRN_TRX_ADLY_TX.USER t)) t
  s.wr TRN_TRX_ADLY_RX.EFF (eff (s.rd TRN_TRX_ADLY_F.RX_F t) (s.rd TRN_TRX_ADLY_RX.USER t)) t

/-- A user delay is written and stored in the Plate store (R192, R563). -/
def State.adlyWrite (s : State) (t : Nat) (rx : Bool) (v : Int) : State :=
  if 16 ≤ t then s
  else
    let s := if rx then s.wr TRN_TRX_ADLY_RX.USER (satSigned 16 v) t else s.wr TRN_TRX_ADLY_TX.USER (satSigned 16 v) t
    let item := 0x1400 + 2 * t + rx.toNat
    (s.pltWrite laneCal .cal [(0xA10000 + 8 * item, calWord item v)]).adlyEff t

def execAntennaDelayWrite (t trx : Nat) (rx : Bool) (v : Int) (s : State) : Answer :=
  happen t s (fun s => s.adlyWrite trx rx v)

/-- A write of START in TRN_CAL_CTL (R193): the transceiver is taken, when it is free. -/
def State.trnCalStart (s : State) : State :=
  let k := s.rd TRN_CAL_CTL.TRX
  if s.trn.cal.isSome then s
  else if !s.running 0x05 ∨ (s.exch k).isSome ∨ !s.grantable k then
    (s.wr TRN_CAL_STAT.RESULT ccBusy).wr TRN_CAL_STAT.LAST_TRX k
  else
    let s := s.grantTrx k owTrn
    let s := { s with trn := { s.trn with cal := some k } }
    ((s.wr TRN_STAT.CAL_BUSY 1).wr TRN_TRX_STAT.PHASE 7 k).toSynth k

def execTrnCalStart (t : Nat) (s : State) : Answer := happen t s State.trnCalStart

/-- The bias of a run in 1/16 tick: mean time of flight less that of the reference distance (R193). -/
def calBias (shots : List CalShot) (refMm : Nat) : Int :=
  let sum : Int := shots.foldl (fun a x => a + x.tof) 0
  ratRound ((sum : Rat) / (max 1 shots.length : Nat) - (refMm : Rat) * 63897600 * 16 / 299702547)

/-- The criteria of R193 on the shots that completed OK, of n exchanges: the rate of success, the lower median FP_SNR,
NLOS, and the standard deviation. -/
def calCriteria (shots : List CalShot) (n : Nat) : Bool :=
  let k := shots.length
  let snrs := sortBy (fun a b => decide (a ≤ b)) (shots.map (·.snr))
  let sum : Int := shots.foldl (fun a x => a + x.tof) 0
  let sq : Int := shots.foldl (fun a x => a + x.tof * x.tof) 0
  decide (0 < k) && decide (k * 10 ≥ 9 * n) && decide (snrs.getD ((k - 1) / 2) 0 ≥ 40) &&
    decide ((shots.filter (·.nlos)).length * 20 ≤ k) && decide ((k : Int) * sq - sum * sum ≤ (96 * 96 * (k * k) : Nat))

/-- An antenna-delay calibration of transceiver k is judged and stored. -/
def State.trnCalTaken (s : State) (k : Nat) (shots : List CalShot) : State :=
  let n := clampTo 32 1000 (s.rd TRN_CAL_REF.N)
  let shots := shots.take n
  let band := s.rd TRN_PHY_CFG.CH9
  let s := s.ledAdd k band (2 * n * s.pollAir)
  let bias := calBias shots (s.rd TRN_CAL_REF.REF_MM)
  let step := ratRound ((bias : Rat) / 16)
  let tx := toSigned 16 (s.rd TRN_TRX_ADLY_TX.USER k) + step
  let rx := toSigned 16 (s.rd TRN_TRX_ADLY_RX.USER k) + step
  let inside := fun (v : Int) => decide (-320 ≤ v) && decide (v ≤ 320)
  let good := calCriteria shots n && bit (s.rd RAD_TRX_CAL.VALID k) 1 && !s.on RAD_TRX_STAT.PORT_FAULT k &&
    inside tx && inside rx
  let s := { s with trn := { s.trn with cal := none } }
  let s := ((s.wr TRN_STAT.CAL_BUSY 0).wr TRN_CAL_STAT.LAST_TRX k).wr TRN_CAL_STAT.BIAS (satSigned 16 bias)
  let s := s.wr TRN_TRX_STAT.PHASE 0 k
  let s := s.trnRelease k
  if good then
    ((s.wr TRN_CAL_STAT.RESULT ccOk).irq TRN_IRQ_STAT.CAL_DONE |>.adlyWrite k false tx).adlyWrite k true rx
  else (s.wr TRN_CAL_STAT.RESULT ccPrecondition).irq TRN_IRQ_STAT.CAL_FAIL

/-- TRN_CAL_DONE (R193). -/
def execTrnCalDone (t : Nat) (shots : List CalShot) (s : State) : Answer := happen t s (fun s =>
  match s.trn.cal with
  | none => s
  | some k => s.trnCalTaken k shots)

/-! ## Resets (R205) -/

/-- Every exchange that a unit's reset ends (R34, R205). -/
def State.trnEndAll (s : State) (code : Nat) : State :=
  let s := s.trn.ex.foldl (fun (a : State) p =>
    if p.2.void then (a.voidEnd p.1 p.2 false).freeIfDone p.2.session else a.exchEnd p.1 p.2 code trNone 0 0) s
  s.trn.away.foldl (fun (a : State) w => a.rangeLost w code) s

/-- A unit reset of TRN. -/
def State.trnUnitReset (s : State) : State :=
  let s := s.trnEndAll ccTargetReset
  let s := { s with trn := { s.trn with pre := [], displaced := [], offsets := [], cal := none, ex := [], away := [] } }
  let s := s.ownerReset owTrn
  let s := s.wr TRN_STAT.CAL_BUSY 0
  (List.range 16).foldl (fun (a : State) t => (a.trnStat t).adlyEff t) s

/-- Before S2 and S3 the pre-arms are handed back (R205). -/
def State.trnSleep (s : State) : State :=
  let all := (s.trn.pre ++ s.trn.displaced).map (fun p => (p.2.session, p.2.gen))
  all.foldl (fun (a : State) p => a.unPrearm p.1 p.2) s

end Sys2Proof.Machine
end

