-- ==== Sys2Proof/Machine/Dbx.lean ====
section
/-! DEFINITION. The commands of DBX (R206–R229). -/

namespace Sys2Proof.Machine

/-! ## Settings (R207, R218, R228) -/

def State.dbxN (s : State) : Nat := clampTo 8 128 (s.rd DBX_RB_CFG.N)

/-- TURN in ns (R228). -/
def State.dbxTurn (s : State) (cap : Nat) : Nat :=
  let sel := bits cap 2 1
  if sel = 0 then clampTo 50 400 (s.rd DBX_TURN_CFG.TURN_NS) else [100, 100, 150, 200].getD sel 100

/-- TURN_TICKS, TOL_TICKS and DMAX_RT of R218. -/
def turnTicks (ns : Nat) : Nat := (ns * 638976 + 5000) / 10000
def State.tolTicks (s : State) : Nat := (clampTo 5 50 (s.rd DBX_RB_CFG.TOL) * 638976 + 50000) / 100000
def State.dMax (s : State) : Nat := max 100 (s.rd DBX_BOUND_CFG.D_MAX_MM)
def State.dMaxRt (s : State) : Nat := (s.dMax * 127795200 + 299702546) / 299702547

/-- TWR_N, and TWR_ERR under R221. -/
def State.twrN (s : State) : Nat := clampTo 1 16 (s.rd DBX_TWR_CFG.TWR_N)
def State.twrErr (s : State) : Nat := min (s.twrN - 1) (s.rd DBX_TWR_CFG.TWR_ERR)

/-! ## Requests (R206–R209, R226) -/

/-- The session waits for DBX and has neither a request there nor a completion. -/
def State.wantsDbx (s : State) (n : Nat) : Bool :=
  let c := s.ctx n
  c.state == ssBound && bit c.pend pendDbx && !s.inDbx n && !s.ses.cpl.any (fun q => q.session == n && q.pool == poolDbx)

/-- A request that ends before it begins. -/
def State.dbxRefuse (s : State) (n k : Nat) (x : DbxEx) (code reason : Nat) : State :=
  ((s.irq DBX_IRQ_STAT.REFUSED).setDbx k x).dbxEnd k x code reason 0 0 0 0 0 |> fun (a : State) => a.dbxEvent reason k code n

/-- The transceiver climbs to SYNTH on the bounding channel and is held there (R216). -/
def State.dbxSynth (s : State) (t : Nat) : State :=
  (s.radRequest t { owner := owDbx, target := rsSynth, ch9 := s.rd DBX_RB_CFG.CH9, hold := true }).2

/-- The anchor of a session's BOUND_TRX: 16 × device + transceiver; 0xFF takes the lowest anchor of the set, which is
another member's; none when the set is empty. -/
def State.boundAnchor (s : State) (c : Ctx) : Option Nat :=
  if c.boundTrx < 16 then some (16 * s.device + c.boundTrx) else (bitList c.anchors 128).head?

/-- A rapid-bit request takes its transceiver, and its block is drawn when the session has none (R211). -/
def State.rapidStart (s : State) (n t : Nat) (x : DbxEx) : State :=
  let s := s.trnCalYield t
  let s := s.grantTrx t owDbx
  let s := if (SMap.find s.dbx.blocks n).isSome then s else s.drawBlock n x.gen
  let ready := match SMap.find s.dbx.vecs n with
    | some v => v.seq == x.seq && v.n == x.n
    | none => false
  (s.dbxSynth t).setDbx t { x with phase := if ready then 2 else 1 }

/-- The anchor that a bound exchange of the session runs on, or the device itself where there is none. -/
def State.boundAnc (s : State) (c : Ctx) : Nat := (s.boundAnchor c).getD (16 * s.device + 15)

/-- That anchor stands at this device. -/
def State.boundHere (s : State) (c : Ctx) : Bool := decide (s.boundAnc c / 16 = s.device ∧ (s.boundAnchor c).isSome)

/-- The bound is taken by two-way ranging: DBX_TWR_CFG.MODE says so, or the token has no rapid bits. -/
def State.boundTwr (s : State) (c : Ctx) : Bool :=
  s.rd DBX_TWR_CFG.MODE == 1 || (s.rd DBX_TWR_CFG.MODE != 2 && !bit c.dbCap 0)

/-- A bound exchange of session n before its first act. -/
def State.boundEx (s : State) (n : Nat) (c : Ctx) : DbxEx :=
  { session := n, gen := c.gen, token := c.token, nonce := c.nonce, phase := 6, n := s.dbxN,
    turn := s.dbxTurn c.dbCap, anchor := s.boundAnc c, fallback := s.boundTwr c, left := s.twrN }

/-- BOUND_REQUEST (R206–R208). -/
def execBoundRequest (t n : Nat) (s : State) : Answer := happen t s (fun s =>
  if !s.wantsDbx n then s
  else
    let c := s.ctx n
    let mode := s.rd DBX_TWR_CFG.MODE
    let fallback := s.boundTwr c
    let here := s.boundHere c
    let k := if here then s.boundAnc c % 16 else 32 + n
    let x := s.boundEx n c
    if mode = 2 ∧ !bit c.dbCap 0 then s.dbxRefuse n (32 + n) x ccDenied dbNoCap
    else if !s.running 0x06 then s.dbxRefuse n (32 + n) x ccBusy dbRefused
    else if fallback then
      if here ∧ (s.dbxEx k).isSome then s
      else if (s.boundAnchor c).isNone then
        s.setDbx k { x with left := 0, results := List.replicate s.twrN (ccTargetReset, 0) }
      else s.setDbx k x
    else if !here then s.dbxRefuse n (32 + n) x ccDenied dbRemote
    else if s.trnDead k then s.dbxRefuse n (32 + n) x ccBusy dbRefused
    else if (s.dbxEx k).isSome ∨ (s.exch k).isSome ∨ !(s.grantable k || s.trn.cal == some k) then s
    else s.rapidStart n k x)

/-- m_b of R209. -/
def vecMsg (b seq n nonce : Nat) : List Byte :=
  bytesOf [0x44, 0x42, b] ++ leBytes 2 seq ++ leBytes 1 n ++ leBytes 16 nonce

/-- The two response vectors of session n are formed under its bounding key, for the exchange given or ahead of one. -/
def State.vecLoad (s : State) (n : Nat) (ex : Option (Nat × DbxEx)) : State :=
  let c := s.ctx n
  let seq := (ex.map (fun p => p.2.seq)).getD 0
  let k := (ex.map (fun p => p.2.n)).getD s.dbxN
  let ks := s.ks c.token c.nonce
  let (c0, r0, s) := s.kceNow 0x06 kKB ks (vecMsg 0 seq k c.nonce)
  let (c1, r1, s) := if c0 = ccOk then s.kceNow 0x06 kKB ks (vecMsg 1 seq k c.nonce) else (c0, [], s)
  let s := if c1 = ccOk then
      { s with dbx := { s.dbx with vecs := SMap.put s.dbx.vecs n ({ seq := seq, n := k, r0 := ofLe r0, r1 := ofLe r1 } : DbxVec) } }
    else s
  match ex with
  | none => s
  | some (i, x) => if c1 = ccOk then s.setDbx i { x with phase := 2 } else s.dbxEnd i x c1 dbKey 0 0 0 0 0

/-- VECTORS_LOADED (R209): KCE computes both vectors under KB. -/
def execVectorsLoaded (t n : Nat) (s : State) : Answer := happen t s (fun s =>
  let c := s.ctx n
  let ex := SMap.first s.dbx.ex (fun _ x => x.session == n && !x.fallback && x.phase == 1)
  let early := decide (c.state = ssRange) && s.progHas n 4 && (SMap.find s.dbx.vecs n).isNone
  if ex.isNone && !early then s
  else
    s.vecLoad n ex)

/-! ## Blocks (R212) -/

/-- PRECOMP_HOLD_EXPIRED. -/
def execPrecompHoldExpired (t n : Nat) (s : State) : Answer := happen t s (fun s =>
  match SMap.find s.dbx.blocks n with
  | none => s
  | some b =>
    let reached := s.live n b.gen && decide ((s.ctx n).state ≥ ssBound)
    if !reached ∧ s.now ≥ b.since + msT (orOne (s.rd DBX_PRECOMP_CFG.PRECOMP_HOLD)) then
      (s.burn n).irq DBX_IRQ_STAT.HOLD_BURN
    else s)

/-- BURN_FREE: every block not bound to a session in BOUND. -/
def State.burnFree (s : State) : State :=
  (s.dbx.blocks.map (·.1)).foldl (fun (a : State) n => if (a.ctx n).state = ssBound then a else a.burn n) s

def execBurnFree (t : Nat) (s : State) : Answer := happen t s State.burnFree

/-- Every block is burned (R212, R227). -/
def State.burnAll (s : State) : State := (s.dbx.blocks.map (·.1)).foldl (fun (a : State) n => a.burn n) s

/-! ## The rapid-bit exchange (R213–R217, R225) -/

/-- The rapid bits of an exchange are handed to the transceiver. -/
def State.bitsGo (s : State) (trx : Nat) (x : DbxEx) (bitv : Nat) : State :=
  let (code, s) := s.radRequest trx { owner := owDbx, target := rsRapid, ch9 := s.rd DBX_RB_CFG.CH9,
                                      step := s.rd DBX_RB_CFG.TX_STEP, air := 15 + x.n, follow := rsSynth }
  if code ≠ ccOk then s.dbxEnd trx x code dbRefused 0 0 0 0 0
  else s.setDbx trx { x with phase := 3, bits := bitv }

/-- RAPID_BIT_COMMIT (R216): the commit point; it waits while the channel is guarded. -/
def execRapidBitCommit (t trx : Nat) (poison : Bool) (s : State) : Answer := happen t s (fun s =>
  match s.dbxEx trx with
  | none => s
  | some x =>
    let s := s.settle trx 4
    let ch9 := s.rd DBX_RB_CFG.CH9
    let guard := if ch9 = 1 then s.on DBX_STAT.GUARD_CH9 else s.on DBX_STAT.GUARD_CH5
    let polling := s.trn.ex.any (fun p => p.2.phase == 2 && s.rd RAD_TRX_CHAN.CH9 p.1 == ch9)
    match SMap.find s.dbx.blocks x.session with
    | none => s
    | some b =>
      if 16 ≤ trx ∨ x.phase ≠ 2 ∨ x.fallback ∨ guard ∨ polling ∨ s.trxState trx ≠ rsSynth ∨ (s.trx trx).dest.isSome then s
      else if poison then (s.burn x.session).dbxEnd trx x ccPoisoned 0 0 0 0 0 0
      else
        s.bitsGo trx x b.bits)

/-- SEARCH_WINDOW_CLOSE (R216): the block is burned as the transceiver leaves RAPID_BIT. -/
def execSearchWindowClose (t trx : Nat) (obs : List (Option (Int × Bool))) (s : State) : Answer := happen t s (fun s =>
  match s.dbxEx trx with
  | none => s
  | some x =>
    let s := s.settle trx 4
    if 16 ≤ trx ∨ (x.phase ≠ 3 ∧ x.phase ≠ 4) ∨ s.trxState trx ≠ rsRapid then s
    else
      let s := s.frameOver trx false
      (s.burn x.session).setDbx trx { x with phase := 5, obs := obs.take x.n, leftAt := s.now })

/-! ## The decision (R218–R221) -/

/-- Classes of a bit. -/
inductive BitCls where
  | ok | miss | early | late | err
deriving DecidableEq, Repr

/-- R218 for one bit. -/
def bitClass (early late : Int) (expect : Bool) (o : Option (Int × Bool)) : BitCls :=
  match o with
  | none => .miss
  | some (rtt, pol) =>
    if rtt < early then .early else if rtt > late then .late else if pol != expect then .err else .ok

/-- What an exchange's bits say. -/
structure RbJudge where
  cls : List BitCls
  miss : Nat
  early : Nat
  late : Nat
  err : Nat
  /-- d_est, when some bit is OK. -/
  dest : Option Int
deriving DecidableEq, Repr

/-- R218 over an exchange. -/
def State.rbJudge (s : State) (x : DbxEx) (v : DbxVec) : RbJudge :=
  let turn : Int := turnTicks x.turn
  let early := turn - s.tolTicks
  let late := turn + s.tolTicks + s.dMaxRt
  let cls := (List.range x.n).map (fun i =>
    bitClass early late (if bit x.bits i then bit v.r1 i else bit v.r0 i) (x.obs.getD i none))
  let oks := ((List.range x.n).filter (fun i => cls.getD i .miss == .ok)).filterMap (fun i => (x.obs.getD i none).map (·.1))
  let sorted := sortBy (fun a b => decide (a ≤ b)) oks
  let med := sorted[(oks.length - 1) / 2]?
  { cls := cls, miss := cls.count .miss, early := cls.count .early, late := cls.count .late, err := cls.count .err,
    dest := med.map (fun m => ratRound (((m - turn) * 299702547 : Int) / (127795200 : Rat))) }

/-- R219: REASON of an exchange. -/
def State.rbReason (s : State) (n : Nat) (j : RbJudge) : Nat :=
  let fails := j.miss + j.early + j.late + j.err
  if j.miss = n then dbNoResp
  else if j.late > s.rd DBX_BOUND_CFG.LATE_MAX then dbLate
  else if fails > min (n / 4) (s.rd DBX_BOUND_CFG.ERR_MAX) then dbBiterr
  else if (j.dest.getD 0) > (s.dMax : Int) then dbDist
  else 0

/-- DBX_TRX_MAP of an exchange. -/
def State.mapShow (s : State) (t : Nat) (cls : List BitCls) : State :=
  (List.range 4).foldl (fun (a : State) k =>
    a.wr DBX_TRX_MAP.FAIL (bitMap ((List.range 32).filter (fun i => cls.getD (32 * k + i) .ok != .ok))) t k) s

/-- The decision on a rapid-bit exchange, or its retry (R219, R220). -/
def State.rbDecide (s : State) (t : Nat) (x : DbxEx) (v : DbxVec) : State :=
  let j := s.rbJudge x v
  let reason := s.rbReason x.n j
  let s := s.mapShow t j.cls
  let s := (s.add DBX_CNT_BITS.EARLY j.early).add DBX_CNT_BITS.LATE j.late
  let s := if 0 < j.early then s.irq DBX_IRQ_STAT.EARLY else s
  let again := (reason = dbNoResp ∨ (reason = dbBiterr ∧ j.early = 0 ∧ j.late = 0)) ∧
    x.retries < s.rd DBX_BOUND_CFG.RETRY_MAX ∧ !x.void
  if again then (s.clearVecs x.session).setDbx t { x with phase := 7, obs := [], bits := 0 }
  else
    let (d, s) : Int × State := match j.dest with
      | some d => (d, s)
      | none => if reason = dbNoResp then (0, s) else (let (w, s) := s.draw; (toSigned 32 w, s))
    let code := if reason = 0 then ccOk else if reason = dbNoResp then ccTimeout else ccBoundFail
    s.dbxEnd t x code reason j.miss j.early j.late j.err (if reason = dbNoResp then 0 else d)

/-- The decision on a fallback (R221). -/
def State.twrDecide (s : State) (k : Nat) (x : DbxEx) : State :=
  let oks := sortBy (fun a b => decide (a ≤ b)) ((x.results.filter (fun r => r.1 == ccOk)).map (·.2))
  let bad := x.results.length - oks.length
  let d := oks.getD ((oks.length - 1) / 2) 0
  let far := match oks.getLast? with
    | some m => decide (m > (s.dMax : Int))
    | none => false
  if oks.length < s.twrN - s.twrErr then s.dbxEnd k x ccBoundFail dbTwrCount 0 0 0 bad 0
  else if far then s.dbxEnd k x ccBoundFail dbTwrDist 0 0 0 bad d
  else s.dbxEnd k x ccOk 0 0 0 0 bad d

/-- BOUND_DECISION (R219, R221): an exchange whose bits are in, or a fallback whose results are in. -/
def execBoundDecision (t n : Nat) (poison : Bool) (s : State) : Answer := happen t s (fun s =>
  match SMap.first s.dbx.ex (fun _ x => x.session == n && (x.phase == 5 || (x.fallback && x.left == 0))) with
  | none => s
  | some (k, x) =>
    if x.fallback then
      (if s.trn.ex.any (fun p => p.2.session == n && p.2.dest == .dbx) ∨ s.trn.away.any (fun w => w.session == n && w.dbx)
       then s else s.twrDecide k x)
    else
      match SMap.find s.dbx.vecs n with
      | none => s
      | some v => if poison then s.dbxEnd k x ccPoisoned 0 0 0 0 0 0 else s.rbDecide k x v)

/-- DBX_RETRY (R220). -/
def execDbxRetry (t trx : Nat) (s : State) : Answer := happen t s (fun s =>
  match s.dbxEx trx with
  | none => s
  | some x =>
    if x.phase ≠ 7 ∨ s.now < x.leftAt + usT 100 then s
    else
      let s := (s.add DBX_CNT_MISC.RETRY 1).drawBlock x.session x.gen
      (s.dbxSynth trx).setDbx trx { x with phase := 1, seq := x.seq + 1, retries := x.retries + 1 })

/-! ## Resets (R212, R226, R227) -/

/-- Requests that depend on a unit that has reset complete with TARGET_RESET. -/
def State.dbxDepend (s : State) (p : DbxEx → Bool) : State :=
  (s.dbx.ex.filter (fun q => p q.2)).foldl (fun (a : State) q => a.dbxEnd q.1 q.2 ccTargetReset 0 0 0 0 0 0) s

/-- A unit reset of DBX. -/
def State.dbxUnitReset (s : State) : State :=
  let s := s.dbxDepend (fun _ => true)
  let s := s.burnAll.ownerReset owDbx
  { s with dbx := { s.dbx with vecs := [], ex := [] } }.dbxStat

/-- Before S2 and S3: blocks are burned and vectors cleared (R212, R227). -/
def State.dbxSleep (s : State) : State := { s.burnAll with dbx := { s.burnAll.dbx with vecs := [] } }

end Sys2Proof.Machine
end

