-- ==== Sys2Proof/Machine/Alm.lean ====
section
/-! DEFINITION. The commands of Almucantar (R230–R256). -/

namespace Sys2Proof.Machine

/-- LOCATE_REQUEST (R234, R249). -/
def execLocateRequest (t n : Nat) (poisoned : Bool) (s : State) : Answer := happen t s (fun s =>
  if !s.wantsAlm n ∨ (s.ctx n).state ≠ ssLocate then s
  else if !s.running 0x07 then
    s.complete n (s.ctx n).gen poolAlm ccBusy 0 (emptyRecord ccBusy arNone 0 0 (s.rd ALM_TABLE_STAT.SEQ) s.device)
  else s.locate n poisoned)

/-- SOLVE_DONE (R242): the solve at the head of the queue completes. -/
def execSolveDone (t us : Nat) (s : State) : Answer := happen t s (fun s =>
  if s.running 0x07 then s.serveSolve us else s)

/-- A member's solve request (R249, R250); none while it must wait for a credit (R288). -/
def State.serveLocate (s : State) (dev tag : Nat) (p : List Byte) : Option State :=
  let table := s.rd ALM_TABLE_STAT.SEQ
  if !s.running 0x07 then
    some (s.blnReply dev 0x07 tag (emptyRecord ccBusy arNone 4 0 table s.device))
  else if !s.remoteRoom poolAlm then none
  else
    let s := s.takeRemote poolAlm
    let k := min 128 (leAt p 2 2)
    let q : SolveReq := { dest := .remote dev tag, zone := leAt p 0 1, inputs := rangeEnts k (p.drop 8), ignored := 0,
                          poisoned := leAt p 1 1 == 1, since := s.now, tableSeq := leAt p 4 4 }
    some { s with alm := { s.alm with queue := s.alm.queue ++ [q] } }.almStat

/-- REMOTE_SOLVE_REQUEST (R249). -/
def execRemoteSolveRequest (t dev tag : Nat) (payload : List Byte) (s : State) : Answer := happen t s (fun s =>
  if s.on MER_STAT.MASTER then (s.serveLocate dev tag payload).getD s else s)

/-- What a record solved elsewhere shows beside itself: SIGP from its covariance, THR and DOF from its counts, and the
anchors of its inputs when none was dropped. -/
def State.recordOut (s : State) (q : SolveReq) (r : List Byte) : AlmOut :=
  let nu := 3 + leAt r 2 2 % 2
  let used := leAt r 4 1
  let dof := used - nu
  let v := fun (k : Nat) => (toSigned 32 (leAt r (24 + 4 * k) 4) : Rat)
  let cov := [[v 0, v 3, v 4], [v 3, v 1, v 5], [v 4, v 5, v 2]]
  let solved := decide (leAt r 7 1 ≠ 3) || decide (leAt r 6 1 ≠ 0)
  { reason := leAt r 1 1 % 16, code := leAt r 0 1, record := padTo r 64,
    sigp := if solved then min 0xFFFF (sigpTenths cov 20 0) else 0,
    thr := if solved then min 0xFFFF (ratRound (solveThr s.solveCfg dof * 16)).toNat else 0,
    dof := dof, used := if solved ∧ leAt r 5 1 = 0 then (medians q.inputs).map (·.anchor) else [] }

/-- The master's reply arrives (R249, R251); one that is late is dropped and counted. -/
def State.solveBack (s : State) (tag : Nat) (r : List Byte) : State :=
  match s.alm.away.find? (fun q => q.tag == tag) with
  | none => s.bump SES_CNT_STALE.COUNT
  | some q =>
    let s := { s with alm := { s.alm with away := s.alm.away.erase q } }
    let s := s.wr ALM_STACK_STAT.MASTER_REACH 1
    match q.dest with
    | .session n gen =>
      if leAt r 0 1 = ccTargetReset then s.masterLost q n gen else s.almDeliver q n gen (s.recordOut q r)
    | _ => s

/-- A solve sent to the master got no answer in time. -/
def State.solveLost (s : State) (n : Nat) (q : SolveReq) : State :=
  let s := { s with alm := { s.alm with away := s.alm.away.erase q } }
  let s := s.wr ALM_STACK_STAT.MASTER_REACH 0
  s.masterLost q n (match q.dest with
    | .session _ g => g
    | _ => 0)

/-- SOLVE_TIMEOUT (R251). -/
def execSolveTimeout (t n : Nat) (s : State) : Answer := happen t s (fun s =>
  let mine := fun (q : SolveReq) => match q.dest with
    | .session m _ => m == n
    | _ => false
  match s.alm.away.find? mine with
  | none => s
  | some q =>
    if s.now < q.since + usT (100 * orOne (s.rd ALM_SOLVE_CFG.SOLVE_TO)) then s
    else s.solveLost n q)

end Sys2Proof.Machine
end

