-- ==== Sys2Proof/Machine/BootOps.lean ====
section
/-! DEFINITION. BOOT: the configuration image as bytes (header, record table, records), its check, and the steps of
start-up that several units' happenings end (R539, R545–R552). -/

namespace Sys2Proof.Machine

/-! ## Events and the record log -/

/-- BOOT's event registers. -/
def State.bootEvent (s : State) (kind reason code slot index : Nat) : State :=
  s.unitEvent 0x11 0 BOOT_EVT_CODE.REG BOOT_EVT_STAMP_LO.STAMP BOOT_EVT_STAMP_HI.STAMP
    (kind * 2 ^ 28 + reason * 2 ^ 24 + code * 2 ^ 16 + slot * 2 ^ 15 + index % 2 ^ 15) code

def beSlot : Nat := 1
def beFail : Nat := 2
def beRec : Nat := 3
def beSwitch : Nat := 4
def beRecopy : Nat := 5
def beFuse : Nat := 6
def beClamp : Nat := 7

/-- REASON of the record log. -/
def reLayout : Nat := 1
def reDuplicate : Nat := 2
def reUnknown : Nat := 3
def reField : Nat := 4
def reRecopy : Nat := 5

/-- A finding: its reason, the record's number and TYPE. -/
def State.recErr (s : State) (reason num typ : Nat) : State :=
  let i := s.boot.recErrs
  let s := { s with boot := { s.boot with recErrs := i + 1 } }
  let s := s.wrWord BOOT_REC_ERR.REG (reason * 2 ^ 28 + num * 2 ^ 16 + typ) i
  let s := (s.bump BOOT_CNT_REC_BAD.COUNT).irq BOOT_IRQ_STAT.REC_BAD
  s.bootEvent beRec reason 0 (s.rd BOOT_STAT.SLOT_RUN) num

/-- The log of a load begins empty. -/
def State.recErrClear (s : State) : State :=
  let s := { s with boot := { s.boot with recErrs := 0 } }
  (List.range 32).foldl (fun (a : State) i => a.wrWord BOOT_REC_ERR.REG 0 i) s

/-! ## Calibration items after a load (R565) -/

/-- An item that was clamped is counted, and signalled once for each load of it. -/
def State.calLoaded (s : State) (item : Nat) : State :=
  match s.calUser item with
  | none => s
  | some u =>
    match s.calWith item u with
    | some (_, true) =>
      ((s.bump BOOT_CAL_ADDR.CLAMP_CNT).irq BOOT_IRQ_STAT.CAL_CLAMP).bootEvent beClamp 0 0 0 item
    | _ => s

/-- The items whose words lie among word addresses. -/
def State.calLoadedAt (s : State) (ws : List Nat) : State :=
  (ws.filter (fun a => 0xA10000 ≤ 8 * a && 8 * a < 0xA40000)).foldl
    (fun (a : State) w => a.calLoaded ((8 * w - 0xA10000) / 8)) s

/-! ## The image (R545–R547) -/

def imgSeq (m : List Byte) : Nat := leAt m 4 4
def imgLen (m : List Byte) : Nat := leAt m 8 4
def imgNrec (m : List Byte) : Nat := leAt m 12 2
def imgVer (m : List Byte) : Nat := leAt m 14 1
def imgClass (m : List Byte) : Nat := leAt m 15 1

/-- A record-table entry (R546). -/
structure ImgRec where
  num : Nat
  typ : Nat
  flags : Nat
  off : Nat
  len : Nat
deriving DecidableEq, Repr

def imgRec (m : List Byte) (i : Nat) : ImgRec :=
  let a := 64 + 16 * i
  ⟨i, leAt m a 2, leAt m (a + 2) 2, leAt m (a + 4) 4, leAt m (a + 8) 4⟩

def imgRecs (m : List Byte) : List ImgRec := (List.range (imgNrec m)).map (imgRec m)

def ImgRec.body (r : ImgRec) (m : List Byte) : List Byte := slice m r.off r.len

/-- A record lies in its place: after the table, before CHECK, aligned, reserved bits 0. -/
def ImgRec.inside (r : ImgRec) (m : List Byte) : Bool :=
  r.off % 16 == 0 && decide (64 + 16 * imgNrec m ≤ r.off) && decide (r.off + r.len ≤ imgLen m - 16) &&
  decide (r.flags < 2) && leAt m (64 + 16 * r.num + 12) 4 == 0

/-- Two records do not overlap. -/
def ImgRec.apart (a b : ImgRec) : Bool :=
  decide (a.off + a.len ≤ b.off) || decide (b.off + b.len ≤ a.off) || a.len == 0 || b.len == 0

/-- No two of a list of records overlap. -/
def recsApart : List ImgRec → Bool
  | [] => true
  | r :: l => l.all r.apart && recsApart l

/-- Check 3 of R551: VERSION, HCRC, LENGTH, NREC and the record table in range. -/
def imgHeader (m : List Byte) : Bool :=
  leAt m 2 2 == 1 && leAt m 48 4 == crc32 (slice m 0 48) && imgLen m % 16 == 0 && decide (256 ≤ imgLen m) &&
  decide (imgLen m ≤ 16777216) && decide (1 ≤ imgNrec m) && decide (imgNrec m ≤ 1024) && decide (imgVer m < 64) &&
  decide (64 + 16 * imgNrec m + 16 ≤ imgLen m) && (imgRecs m).all (fun r => r.inside m) && recsApart (imgRecs m)

/-- Record types (R547). -/
def rtDome : Nat := 0x0001
def rtImem : Nat := 0x0002
def rtXmem : Nat := 0x0003
def rtYmem : Nat := 0x0004
def rtScripts : Nat := 0x0005
def rtRegInit : Nat := 0x0010
def rtZoneProg : Nat := 0x0020
def rtRegion : Nat := 0x0021
def rtAnchors : Nat := 0x0022
def rtSesProg : Nat := 0x0023
def rtNote : Nat := 0x00F0

def rtKnown (t : Nat) : Bool :=
  [rtDome, rtImem, rtXmem, rtYmem, rtScripts, rtRegInit, rtZoneProg, rtRegion, rtAnchors, rtSesProg, rtNote].contains t

/-- The body of the first record of a type. -/
def imgBody (m : List Byte) (t : Nat) : List Byte :=
  match (imgRecs m).find? (fun r => r.typ == t) with
  | some r => r.body m
  | none => []

/-- Check 10 of R551: each required record once, of the length R547 gives it, and no unknown one that is REQUIRED. -/
def imgRequired (m : List Byte) : Bool :=
  let once := fun (t : Nat) => ((imgRecs m).filter (fun r => r.typ == t)).length == 1
  [rtDome, rtImem, rtXmem, rtYmem, rtScripts].all once && (imgBody m rtImem).length == 65536 &&
  (imgBody m rtXmem).length == 32768 && (imgBody m rtYmem).length == 32768 &&
  (imgRecs m).all (fun r => rtKnown r.typ || r.flags == 0)

/-- DM and AM (R549). -/
def imgDm (m : List Byte) : List Byte := (sha256 (imgBody m rtDome)).take 16

def imgAm (m : List Byte) : List Byte :=
  let r := imgRec m 0
  (sha256 (slice m 0 r.off ++ slice m (r.off + r.len) (imgLen m - 16 - (r.off + r.len)))).take 16

/-! ## The bank that a measurement opens (R379) -/

/-- The bank whose tag matches the present state and a measurement; none while RS is marginal in both copies (R394). -/
def State.bankFor (s : State) (dm : List Byte) : Option (Nat × DomBank) :=
  if (List.range 8).any (fun k => s.fuseQual (k + 1) == 3) then none
  else
    let fits := fun (b : DomBank) => b.lc == s.lc && b.dm == dm
    match s.dom.bankA, s.dom.bankB with
    | some a, some b => if fits a then some (0, a) else if fits b then some (1, b) else none
    | some a, none => if fits a then some (0, a) else none
    | none, some b => if fits b then some (1, b) else none
    | none, none => none

/-- PK of a set of keys in a state (R377). -/
def pkOf (lc : Nat) (k : DomKeys) : List Byte :=
  if lc = lcBlank then ktst else if lc = lcVendor then k.ktr
  else if lc = lcCommissioned ∨ lc = lcField then k.kau else []

/-- KIMG, the key of the image check (R377, R550). -/
def State.kimg (s : State) (dm : List Byte) : List Byte :=
  let k := match s.bankFor dm with
    | some (_, b) => b.keys
    | none => {}
  kdf (pkOf s.lc k) 0x49 0x4D [] 256

/-- PK_CLASS that a state takes (R545). -/
def classOf (lc : Nat) : Option Nat :=
  if lc = lcBlank then some 0 else if lc = lcVendor then some 1
  else if lc = lcCommissioned ∨ lc = lcField then some 2 else none

/-- The checks of R551 in order: REASON and CODE of the first that fails, or (0, OK). -/
def State.imgCheck (s : State) (answered : Bool) (m : List Byte) (poison : Bool) : Nat × Nat :=
  let dev := leAt m 24 8
  if !answered then (1, ccTimeout)
  else if leAt m 0 2 ≠ 0x4D49 then (2, ccPrecondition)
  else if !imgHeader m then (3, ccPrecondition)
  else if dev ≠ 0 ∧ dev ≠ s.devid then (4, ccDenied)
  else if classOf s.lc ≠ some (imgClass m) then (5, ccLifecycle)
  else if imgVer m < s.rd DOM_VER.FLOOR then (6, ccDenied)
  else if (imgRec m 0).typ ≠ rtDome ∨ (s.lc ≠ lcBlank ∧ s.bankFor (imgDm m) = none) then (7, ccLifecycle)
  else if poison then (8, ccPoisoned)
  else if slice m (imgLen m - 16) 16 ≠ cmac (s.kimg (imgDm m)) (slice m 0 (imgLen m - 16)) then (9, ccDenied)
  else if !imgRequired m then (10, ccPrecondition)
  else (0, ccOk)

/-- What a slot's registers show of its header and measurement. -/
def State.slotRegs (s : State) (k : Nat) (m : List Byte) : State :=
  ((s.wr BOOT_SLOT_SEQ.VALUE (imgSeq m) k).wr BOOT_SLOT_LEN.VALUE (imgLen m) k).wrWord BOOT_SLOT_VER.REG
    (imgClass m % 4 * 256 + imgVer m % 64) k

def State.slotDm (s : State) (k : Nat) (m : List Byte) : State :=
  (List.range 4).foldl (fun (a : State) i => a.wr BOOT_SLOT_DM.DM (leAt (imgDm m) (4 * i) 4) k i) s

/-! ## The bodies of records -/

/-- A byte string holds only zeros. -/
def allZero (l : List Byte) : Bool := l.all (· == 0)

/-- A zone program (R99). -/
def parseZoneProg (l : List Byte) : Option (Nat × ZoneProg) :=
  let z := leAt l 0 1
  let n := leAt l 1 1
  if n = 0 ∨ 64 < n ∨ l.length ≠ 32 + 260 * n ∨ 32 ≤ z ∨ 2 ≤ leAt l 2 2 ∨ !allZero (slice l 16 16) then none
  else
    let mask := leAt l 4 8
    let point := fun (p : Nat) =>
      let a := 32 + 260 * p
      let e := leAt l (a + 1) 1
      let term := fun (c : Nat) =>
        (c, (toSigned 16 (leAt l (a + 4 + 4 * c) 2) * 2 ^ e, toSigned 16 (leAt l (a + 6 + 4 * c) 2) * 2 ^ e))
      ({ typ := leAt l a 1, sens := (bitList mask 64).map term } : HelPoint)
    let ok := fun (p : Nat) =>
      let a := 32 + 260 * p
      decide (leAt l a 1 ≤ 2) && decide (leAt l (a + 1) 1 ≤ 15) && leAt l (a + 2) 2 == 0
    if (List.range n).all ok then
      some (z, { flags := leAt l 2 2, mask := mask, hWake := leAt l 12 2, mIn := leAt l 14 1, mOut := leAt l 15 1,
                 points := (List.range n).map point })
    else none

/-- Twice the signed area of a triangle: on which side of a line a point lies. -/
def turn (a b c : Int × Int) : Int := (b.1 - a.1) * (c.2 - a.2) - (b.2 - a.2) * (c.1 - a.1)

/-- A point on a line through two points lies between them. -/
def between (a b c : Int × Int) : Bool :=
  decide (min a.1 b.1 ≤ c.1) && decide (c.1 ≤ max a.1 b.1) && decide (min a.2 b.2 ≤ c.2) && decide (c.2 ≤ max a.2 b.2)

/-- Two segments meet. -/
def segsMeet (a b c d : Int × Int) : Bool :=
  let t1 := (turn a b c).sign
  let t2 := (turn a b d).sign
  let t3 := (turn c d a).sign
  let t4 := (turn c d b).sign
  (t1 != t2 && t3 != t4) || (t1 == 0 && between a b c) || (t2 == 0 && between a b d) ||
  (t3 == 0 && between c d a) || (t4 == 0 && between c d b)

/-- A polygon is simple: no two edges without a common vertex meet, and two that share one meet nowhere else. -/
def simplePoly (v : List (Int × Int)) : Bool :=
  let n := v.length
  let at' := fun (i : Nat) => v.getD (i % n) (0, 0)
  (List.range n).all (fun i => (List.range n).all (fun j =>
    if j ≤ i then true
    else if j = i + 1 ∨ (i = 0 ∧ j + 1 = n) then
      let (p, q, r) := if j = i + 1 then (at' i, at' j, at' (j + 1)) else (at' j, at' 0, at' 1)
      !(turn p q r == 0 && (between q p r || between q r p)) && p != q && q != r
    else !segsMeet (at' i) (at' (i + 1)) (at' j) (at' (j + 1))))

/-- A zone region (R247). -/
def parseRegion (l : List Byte) : Option (Nat × Region) :=
  let z := leAt l 0 1
  let n := leAt l 1 1
  let lo := toSigned 32 (leAt l 4 4)
  let hi := toSigned 32 (leAt l 8 4)
  let vs := (List.range n).map (fun k => (toSigned 32 (leAt l (16 + 8 * k) 4), toSigned 32 (leAt l (20 + 8 * k) 4)))
  let sig := leAt l 3 1
  if z ≥ 32 ∨ n < 3 ∨ 8 < n ∨ l.length ≠ 16 + 8 * n ∨ 2 ≤ leAt l 2 1 ∨ hi ≤ lo ∨ leAt l 12 4 ≠ 0 ∨ !simplePoly vs then
    none
  else some (z, { acceptUnc := bit (leAt l 2 1) 0, zSig := if sig = 0 then 20 else sig, zLo := lo, zHi := hi, verts := vs })

/-- The anchor table (R232): its SEQ and its anchors. -/
def parseAnchors (l : List Byte) : Option (Nat × SMap Anchor) :=
  let ok := fun (a : Nat) =>
    let o := 16 + 16 * a
    decide (leAt l (o + 12) 2 ≤ 1000) && decide (leAt l (o + 14) 1 < 2) && leAt l (o + 15) 1 == 0
  if l.length ≠ 2064 ∨ leAt l 0 2 ≠ 0x4C41 ∨ leAt l 2 2 ≠ 1 ∨ leAt l 4 4 = 0 ∨ leAt l 8 8 ≠ 0 ∨
      !(List.range 128).all ok then none
  else
    let anc := fun (a : Nat) =>
      let o := 16 + 16 * a
      (a, ({ x := toSigned 32 (leAt l o 4), y := toSigned 32 (leAt l (o + 4) 4), z := toSigned 32 (leAt l (o + 8) 4),
             surv := leAt l (o + 12) 2, valid := bit (leAt l (o + 14) 1) 0 } : Anchor))
    some (leAt l 4 4, (List.range 128).map anc)

/-- A session program (R264). -/
def parseSesProg (l : List Byte) : Option (Nat × Prog) :=
  let p := leAt l 0 1
  let z := leAt l 1 1
  let bt := leAt l 24 1
  if l.length ≠ 32 ∨ 32 ≤ p ∨ (32 ≤ z ∧ z ≠ 0xFF) ∨ 256 ≤ leAt l 2 2 ∨ (16 ≤ bt ∧ bt ≠ 0xFF) ∨ 4 < leAt l 25 1 ∨
      !allZero (slice l 27 5) then none
  else
    let cm := leAt l 6 2
    some (p, { zone := z, flags := leAt l 2 2, script := leAt l 4 2, coreMask := if cm = 0 then 0xFFFF else cm,
               anchors := leAt l 8 16, boundTrx := bt, nExch := leAt l 25 1, minAnch := leAt l 26 1 })

/-- Entry i of a script table (R463) is valid. -/
def scriptOk (l : List Byte) (i : Nat) : Bool :=
  let o := 16 * i
  let lo := leAt l (o + 6) 2
  let hi := leAt l (o + 8) 4
  decide (o + 16 ≤ l.length) && decide (leAt l o 2 < 256) && leAt l (o + 2) 2 % 4 == 0 && leAt l (o + 4) 2 % 128 == 0 &&
  lo % 4 == 0 && decide (lo + 64 ≤ hi) && decide (hi ≤ 0x10000) && leAt l (o + 12) 2 == 1 && leAt l (o + 14) 2 == 0 &&
  (decide (hi ≤ 0x8000) || decide (0x8000 ≤ lo))

/-- Entry i is laid out: an entry with VALID 0 and nothing else against the layout is no finding. -/
def scriptEmpty (l : List Byte) (i : Nat) : Bool := leAt l (16 * i + 12) 2 == 0

/-- The valid entry of a script: the first in the table. -/
def scriptEntry (l : List Byte) (k : Nat) : Option (List Byte) :=
  ((List.range 256).find? (fun i => scriptOk l i && leAt l (16 * i) 2 == k)).map (fun i => slice l (16 * i) 16)

/-- Valid script entries. -/
def scriptCount (l : List Byte) : Nat := ((List.range 256).filter (scriptOk l)).length

/-- The number that a record serves (a zone, a program, or the one table), by its TYPE (R547). -/
def recServes (t : Nat) (l : List Byte) : Option Nat :=
  if t = rtZoneProg then (parseZoneProg l).map (·.1)
  else if t = rtRegion then (parseRegion l).map (·.1)
  else if t = rtAnchors then (parseAnchors l).map (fun _ => 0)
  else if t = rtSesProg then (parseSesProg l).map (·.1)
  else none

/-- The records of a type that stand: those laid out, the first for each number; and the findings of the others. -/
def recSieve (m : List Byte) (t : Nat) : List ImgRec → List Nat → List ImgRec × List (Nat × ImgRec)
  | [], _ => ([], [])
  | r :: rs, seen =>
    if r.typ ≠ t then recSieve m t rs seen
    else
      match recServes t (r.body m) with
      | none => let (a, b) := recSieve m t rs seen; (a, (reLayout, r) :: b)
      | some k =>
        if seen.contains k then let (a, b) := recSieve m t rs seen; (a, (reDuplicate, r) :: b)
        else let (a, b) := recSieve m t rs (k :: seen); (r :: a, b)

/-- The records of a type that stand. -/
def recsOf (m : List Byte) (t : Nat) : List (List Byte) := (recSieve m t (imgRecs m) []).1.map (fun r => r.body m)

/-- Every finding of a load beside those of REG_INIT entries, in table order (R547). -/
def imgFindings (m : List Byte) : List (Nat × ImgRec) :=
  let known := [rtZoneProg, rtRegion, rtAnchors, rtSesProg].flatMap (fun t => (recSieve m t (imgRecs m) []).2)
  let bad := ((imgRecs m).filter (fun r => !rtKnown r.typ)).map (fun r => (reUnknown, r))
  let extra := (((imgRecs m).filter (fun r => r.typ == rtRegInit)).drop 16).map (fun r => (reDuplicate, r))
  let half := ((imgRecs m).filter (fun r => r.typ == rtRegInit && r.len % 8 != 0)).map (fun r => (reLayout, r))
  let scr := (imgRecs m).filter (fun r => r.typ == rtScripts &&
    (r.len % 16 != 0 || decide (4096 < r.len) ||
      (List.range (r.len / 16)).any (fun i => !scriptOk (r.body m) i && !scriptEmpty (r.body m) i)))
  let all := known ++ bad ++ extra ++ half ++ scr.map (fun r => (reLayout, r))
  (List.range (imgNrec m)).flatMap (fun i => all.filter (fun x => x.2.num == i))

/-- The code bundle (R462). -/
def imgBundle (m : List Byte) : Bundle :=
  { imem := imgBody m rtImem, xmem := imgBody m rtXmem, ymem := imgBody m rtYmem, scripts := imgBody m rtScripts }

/-- CRC of a bundle (AST_IMG_CRC). -/
def Bundle.crc (b : Bundle) : Nat := crc32 (b.imem ++ b.xmem ++ b.ymem ++ b.scripts)

/-- CRC over the anchor record and every region record, in record order (ALM_TABLE_CRC). -/
def imgTableCrc (m : List Byte) : Nat :=
  crc32 (((imgRecs m).filter (fun r => r.typ == rtAnchors || r.typ == rtRegion)).flatMap (fun r => r.body m))

/-- A keyed table in canonical form from its entries. -/
def tableOf {α : Type} (l : List (Nat × α)) : SMap α := l.foldl (fun m p => SMap.put m p.1 p.2) []

def imgZoneProgs (m : List Byte) : SMap ZoneProg := tableOf ((recsOf m rtZoneProg).filterMap parseZoneProg)
def imgRegions (m : List Byte) : SMap Region := tableOf ((recsOf m rtRegion).filterMap parseRegion)
def imgSesProgs (m : List Byte) : SMap Prog := tableOf ((recsOf m rtSesProg).filterMap parseSesProg)

def imgAnchors (m : List Byte) : Nat × SMap Anchor :=
  match (recsOf m rtAnchors).filterMap parseAnchors with
  | a :: _ => a
  | [] => (0, [])

/-! ## Steps of start-up (R539, R552) -/

/-- PHASE of BOOT_STAT. -/
def bpFuses : Nat := 0
def bpFlash : Nat := 1
def bpCopy : Nat := 2
def bpCheck : Nat := 3
def bpDistribute : Nat := 4
def bpRun : Nat := 5
def bpFail : Nat := 6
def bpSwitch : Nat := 7

def State.bootPhase (s : State) : Nat := s.rd BOOT_STAT.PHASE

/-- The order in which the slots are tried (R552). -/
def State.slotOrder (s : State) : List Nat :=
  match s.rd BOOT_STAT.POLICY with
  | 0 => if s.rd BOOT_SLOT_SEQ.VALUE 1 > s.rd BOOT_SLOT_SEQ.VALUE 0 then [1, 0] else [0, 1]
  | 1 => [0, 1]
  | 2 => [1, 0]
  | _ => [0]

/-- Step 7 begins once the fuses, the flash, the Plate store and the memories are ready (R539); the device reset is
counted when the state is past BLANK (R388). -/
def State.bootGo (s : State) : State :=
  if s.bootPhase > bpFlash ∨ !s.fuse.done ∨ !s.boot.found ∨ !s.on PLT_STAT.READY ∨ !s.on MEM_STAT.INIT_DONE then s
  else
    let s := { s with boot := { s.boot with tries := s.slotOrder, loadFrom := s.now } }
    let s := s.wr BOOT_STAT.PHASE bpCopy
    if s.lc ≥ lcVendor ∧ !s.boot.counted then
      let s := { s with boot := { s.boot with counted := true }
                        dom := { s.dom with boots := min (2 ^ 32 - 1) (s.dom.boots + 1) } }
      s.domWrite domBoots
    else s

/-- Units of 0.1 ms since a stamp, saturating in 16 bits. -/
def State.tenthsSince (s : State) (from' : Nat) : Nat := min 0xFFFF ((s.now - from') / 6389760)

/-- Step 12: SES accepts opens, and PHASE reads RUN. -/
def State.bootRun (s : State) : State :=
  if s.bootPhase = bpDistribute ∧ s.plt.bootDone ∧ s.running 0x08 then
    (s.wr BOOT_STAT.PHASE bpRun).wr BOOT_LOAD_TIME.RUN_MS (s.tenthsSince s.boot.resetAt)
  else s

end Sys2Proof.Machine
end

