-- ==== Sys2Proof/Machine/EyeOps.lean ====
section
/-! DEFINITION. The Kolryn monitor's state and what leaving it does to the cores (R477, R659). -/

namespace Sys2Proof.Machine

/-- STATE of EYE_STAT. -/
def esOpen : Nat := 0
def esClosed : Nat := 1
def esReadonly : Nat := 2
def esFull : Nat := 3
def esShut : Nat := 4

/-- The monitor's state (R659): by the life cycle, and under a MONITOR grant by its LEVEL. Before the fuses are read it
is closed. -/
def State.eyeStateOf (s : State) : Nat :=
  if s.lc = lcBlank ∨ s.lc = lcVendor then esOpen
  else if s.lc = lcDecommissioned then esShut
  else
    match s.eye.grantEnd with
    | some e => if s.now < e ∧ s.lc ≠ 0 then (if s.eye.level = 1 then esFull else esReadonly) else esClosed
    | none => esClosed

/-- DEBUG_EN of every core is cleared, and a halted core is stopped (R477, R659). -/
def State.debugOff (s : State) : State :=
  (List.range 16).foldl (fun (a : State) c =>
    let a := a.wr AST_CORE_CTL.DEBUG_EN 0 c
    if a.coreSt c = csDebug then a.coreStop c else a) s

/-- EYE_STAT.STATE follows; leaving OPEN clears DEBUG_EN. -/
def State.eyeRefresh (s : State) : State :=
  let was := s.rd EYE_STAT.STATE
  let new := s.eyeStateOf
  let s := s.wr EYE_STAT.STATE new
  if was = esOpen ∧ new ≠ esOpen then s.debugOff else s

/-- The MONITOR grant ends (R659). -/
def State.endMonitor (s : State) : State :=
  match s.eye.grantEnd with
  | none => s
  | some _ =>
    let s := { s with eye := { s.eye with grantEnd := none, level := 0 } }
    ((s.irq EYE_IRQ_STAT.GRANT_END).debugOff).eyeRefresh

/-- A MONITOR grant opens (R391, R659); it replaces an open one. -/
def State.openMonitor (s : State) (dur level : Nat) : State :=
  let s := s.endMonitor
  let s := { s with eye := { s.eye with grantEnd := some (s.now + secT dur), level := level } }
  (s.irq EYE_IRQ_STAT.GRANT).eyeRefresh

end Sys2Proof.Machine
end

