-- ==== Sys2Proof/Machine/AstBase.lean ====
section
/-! DEFINITION. Astrolabe cores as a whole: loading the code bundle, taking a new one up, and a unit reset of AST
(R462, R474, R478, R556). -/

namespace Sys2Proof.Machine

/-- The words of a byte string by word index from a base; words of 0 are not listed. -/
def wordTable (l : List Byte) (base : Nat) : SMap Nat :=
  ((List.range ((l.length + 3) / 4)).map (fun i => (base + i, leAt l (4 * i) 4))).filter (fun p => p.2 != 0)

/-- The memories of a core are written afresh: no error is left in their arrays, and no byte in their buffers. -/
def State.coreArrays (s : State) (c : Nat) : State :=
  let mine := fun (a : Nat) => a == c || a == 0x10 + c || a == 0x20 + c
  { s with mem := { s.mem with cells := s.mem.cells.filter (fun p => !mine (p.1 / 2 ^ 30))
                               merge := s.mem.merge.filter (fun e => !mine e.arr) } }

/-- R462, R474: a core is loaded from the internal copy of a bundle: memories from the copy, registers and device ports
cleared. What R476 counts stays. -/
def State.coreLoad (s : State) (c : Nat) (b : Bundle) : State :=
  let s := s.coreArrays c
  s.updCore c (fun k =>
    { imem := wordTable (b.imem.take 65536) 0
      data := wordTable (b.xmem.take 32768) 0 ++ wordTable (b.ymem.take 32768) 8192
      faults := k.faults, reloadFrom := k.reloadFrom, img := some b.crc })

/-- A core holds the code of a bundle. -/
def State.coreHas (s : State) (c : Nat) (b : Bundle) : Bool := (s.core c).img == some b.crc

/-- A core that is IDLE takes up the bundle in force (R462). -/
def State.coreTake (s : State) (c : Nat) : State :=
  if s.coreSt c = csIdle ∧ !s.coreHas c s.ast.bundle ∧ s.on AST_STAT.IMAGE_VALID then s.coreLoad c s.ast.bundle else s

def State.coreTakeAll (s : State) : State := (List.range 16).foldl (fun (a : State) c => a.coreTake c) s

/-- A core becomes IDLE. -/
def State.coreIdle (s : State) (c : Nat) : State := (s.coreTo c csIdle).coreTake c

/-- The bundle of an image, with the registers that show it. -/
def State.bundleIn (s : State) (b : Bundle) : State :=
  let s := { s with ast := { s.ast with bundle := b } }
  (s.load AST_STAT.SCRIPTS (scriptCount b.scripts)).load AST_IMG_CRC.CRC b.crc

/-- The end of AST's INIT (R462): every core is loaded. -/
def State.astLoadAll (s : State) : State :=
  let s := s.wr AST_STAT.IMAGE_VALID 1
  let s := (List.range 16).foldl (fun (a : State) c => (a.coreLoad c a.ast.bundle).wr AST_CORE_STAT.STATE csIdle c) s
  s.astStat

/-- R478: a unit reset of AST stops every core, and each session with a step running ends (R290). -/
def State.astUnitReset (s : State) : State :=
  let s := (List.range 16).foldl (fun (a : State) c =>
    if a.coreSt c = csStep ∨ a.coreSt c = csDebug then
      let n := a.rd AST_CORE_STAT.SESSION c
      (a.abort n ccTargetReset).coreStop c
    else a) s
  { s with ast := { s.ast with cores := [] } }

end Sys2Proof.Machine
end

