-- ==== Sys2Proof/Machine/Mem.lean ====
section
/-! DEFINITION. MEM: codewords, poison, hard words, narrow writes, the scrubber and the flip mask (R480–R508). -/

namespace Sys2Proof.Machine

/-! ## The memories (R482, R483) -/

/-- The DRAM as a target. -/
def arrDram : Nat := 0x40

/-- Sizes of the arrays in KiB (R482). -/
def arrKiB (a : Nat) : Nat :=
  if a < 0x10 then 64 else if a < 0x30 then 32
  else [8192, 256, 288, 64, 64, 16, 128, 4, 1024, 512, 256, 64, 4, 512, 256].getD (a - 0x30) 0

/-- 64-bit words of an array. -/
def arrWords (a : Nat) : Nat := arrKiB a * 128

/-- Owner units of the arrays. -/
def arrUnit (a : Nat) : Nat :=
  if a < 0x30 then 0x0E
  else [0x08, 0x08, 0x0A, 0x0A, 0x0B, 0x0B, 0x10, 0x0C, 0x05, 0x02, 0x07, 0x09, 0x13, 0x14, 0x00].getD (a - 0x30) 0x0F

/-- The privileged arrays. -/
def arrPriv (a : Nat) : Bool := a == 0x32 || a == 0x34 || a == 0x35 || a == 0x36

/-- Region of a DRAM byte address, and its owner unit (R483). -/
def dramRegion (a : Nat) : Nat :=
  if a < 0x08000000 then 0 else if a < 0x0C000000 then 1 else if a < 0x10000000 then 2 else if a < 0x14000000 then 3
  else if a < 0x18000000 then 4 else if a < 0x1C000000 then 5 else if a < 0x1E000000 then 6 else 7

def dramUnit (r : Nat) : Nat := [0x0A, 0x0A, 0x13, 0x08, 0x11, 0x05, 0x15, 0x0F].getD r 0x0F

/-- Bytes of a codeword's data. -/
def cwBytes (a : Nat) : Nat := if a = arrDram then 16 else 8

/-- The number that reports give an array, or 0x40 + region. -/
def memPlace (a cw : Nat) : Nat := if a = arrDram then 0x40 + dramRegion (16 * cw) else a

def memUnit (a cw : Nat) : Nat := if a = arrDram then dramUnit (dramRegion (16 * cw)) else arrUnit a

def cellKey (a cw : Nat) : Nat := a * 2 ^ 30 + cw

def State.cell (s : State) (a cw : Nat) : Option CellSt := SMap.find s.mem.cells (cellKey a cw)

def State.setCell (s : State) (a cw : Nat) (c : Option CellSt) : State :=
  { s with mem := { s.mem with cells := match c with
    | some x => SMap.put s.mem.cells (cellKey a cw) x
    | none => SMap.del s.mem.cells (cellKey a cw) } }

/-! ## Reporting (R500–R502) -/

/-- Enter the log (R500). -/
def State.memLog (s : State) (a kind bitNo cw : Nat) : State :=
  let full := decide (s.mem.log.length ≥ 32)
  let e : MemLog := { stamp := s.now, arr := a, kind := kind, bit := bitNo, word := cw }
  let s := { s with mem := { s.mem with log := e :: s.mem.log.take 31 } }
  let s := if full then s.add MEM_LOG_STAT.OVERWRITTEN 1 else s
  (s.wr MEM_LOG_STAT.ENTRIES s.mem.log.length).irq MEM_IRQ_STAT.LOG

/-- One more in a unit's bucket (R501). -/
def State.bucketAdd (s : State) (u : Nat) : State :=
  let f := s.rd MEM_BUCKET.FILL u + 1
  if f ≤ orOne (s.rd MEM_BUCKET_CFG.BUCKET_MAX) then s.wr MEM_BUCKET.FILL f u
  else
    let s := ((s.wr MEM_BUCKET.FILL 0 u).bump MEM_BUCKET.OVF_CNT u).bump MEM_CNT_BUCKET_OVF.COUNT
    let s := s.irq MEM_IRQ_STAT.BUCKET
    let m := s.now / 3833856000000
    if SMap.find s.mem.ovfMin u = some m then s
    else
      let s := { s with mem := { s.mem with ovfMin := SMap.put s.mem.ovfMin u m } }
      s.archiveEvent 0x0F 0 0 (leBytes 4 u ++ leBytes 4 (s.rd MEM_BUCKET.OVF_CNT u))

/-- A correctable error is counted once (R485, R487, R500, R501). -/
def State.memCe (s : State) (a cw bitNo : Nat) : State :=
  let s := if a = arrDram then (s.bump MEM_CNT_CE_DRAM.COUNT).bump MEM_DRAM_REG.CE (dramRegion (16 * cw))
    else (s.bump MEM_CNT_CE_SRAM.COUNT).bump MEM_ARR_STAT.CE a
  if a ≠ arrDram ∧ arrPriv a then s.memLog a 0 bitNo cw else s.bucketAdd (memUnit a cw)

/-- A mismatch of the Dome's own datapath raises sensor FAULT (R397, R489). -/
def State.domMismatch (s : State) : State :=
  (s.wr DOM_TAMPER_STAT.LIVE (setBit (s.rd DOM_TAMPER_STAT.LIVE) 5 true)).irq DOM_IRQ_STAT.ALARM

/-- An uncorrectable error is counted and recorded (R500, R502). -/
def State.ueCount (s : State) (a cw foundBy : Nat) : State :=
  let s := if a = arrDram then (s.bump MEM_CNT_UE_DRAM.COUNT).bump MEM_DRAM_REG.UE (dramRegion (16 * cw))
    else (s.bump MEM_CNT_UE_SRAM.COUNT).bump MEM_ARR_STAT.UE a
  let s := (s.wr MEM_UE_LAST.ARRAY (memPlace a cw)).wr MEM_UE_LAST.FOUND_BY foundBy
  let s := s.wr MEM_UE_ADDR.VALUE (cw * cwBytes a)
  (s.wr64 MEM_UE_STAMP_LO.VALUE MEM_UE_STAMP_HI.VALUE s.now).irq MEM_IRQ_STAT.UE

/-- The first uncorrectable error of an array or region in a second is archived with the count of the second before
(R502). -/
def State.ueArchive (s : State) (a cw : Nat) : State :=
  let p := memPlace a cw
  let sec := s.now / secT 1
  let q := SMap.get s.mem.ueSec p (0, 0, 0)
  if q.1 = sec ∧ q.2.1 ≠ 0 then
    { s with mem := { s.mem with ueSec := SMap.put s.mem.ueSec p (sec, q.2.1 + 1, q.2.2) } }
  else
    let prev := if q.1 + 1 = sec then q.2.1 else 0
    let s := { s with mem := { s.mem with ueSec := SMap.put s.mem.ueSec p (sec, 1, prev) } }
    s.archiveEvent 0x0F 0 (s.word MEM_UE_LAST.REG) (leBytes 4 (cw * cwBytes a) ++ leBytes 4 prev)

/-- An uncorrectable error is counted once, recorded, and archived the first time in a second (R486, R489, R502). -/
def State.memUe (s : State) (a cw foundBy : Nat) : State :=
  let s := s.ueCount a cw foundBy
  let s := if a ≠ arrDram ∧ arrPriv a then s.memLog a 1 0xFF cw else s
  let s := if a = 0x34 ∨ a = 0x35 then s.domMismatch else s
  s.ueArchive a cw

/-- Poisoned data is consumed (R488, R502). -/
def State.poisonUse (s : State) : State := s.bump MEM_CNT_POISON_USE.COUNT

/-! ## Reads (R485–R487) -/

/-- A read of a codeword: whether it delivers poison, and the state after. -/
def State.memRead (s : State) (a cw foundBy : Nat) : Bool × State :=
  match s.cell a cw with
  | none => (false, s)
  | some (.ce b) => (false, (s.memCe a cw b).setCell a cw none)
  | some .ue => (true, (s.memUe a cw foundBy).setCell a cw (some .poison))
  | some .poison => (true, if a ≠ arrDram ∧ arrPriv a then s.memLog a 2 0xFF cw else s)

/-! ## Writes (R495–R497, R503) -/

/-- 4-bit symbols of a number below 2^(4n) that are not 0. -/
def symCount (v n : Nat) : Nat := ((List.range n).filter (fun k => v / 16 ^ k % 16 ≠ 0)).length

/-- The flip mask: its data and check bits. -/
def State.flipMask (s : State) : Nat × Nat :=
  (s.rd MEM_FLIP_D.VALUE 0 + s.rd MEM_FLIP_D.VALUE 1 * 2 ^ 32 + s.rd MEM_FLIP_D.VALUE 2 * 2 ^ 64 +
    s.rd MEM_FLIP_D.VALUE 3 * 2 ^ 96, s.rd MEM_FLIP_C.VALUE % 2 ^ 16)

/-- What the mask does to a codeword of a target: none when R504 refuses it. -/
def State.flipEffect (s : State) (target : Nat) : Option CellSt :=
  let m := s.flipMask
  if target = arrDram then
    let k := symCount m.1 32 + symCount m.2 4
    if k = 1 then some (.ce 0xFF) else if k = 2 then some .ue else none
  else
    let k := popCount m.1 64 + popCount m.2 8
    if m.1 ≥ 2 ^ 64 ∨ m.2 ≥ 2 ^ 8 then none
    else if k = 1 then
      some (.ce ((((bitList m.1 64).head?).getD (64 + ((bitList m.2 8).head?).getD 0))))
    else if k = 2 then some .ue else none

/-- A codeword is written with clean data; an armed flip mask that matches it fires (R503). -/
def State.cwWrite (s : State) (a cw : Nat) : State :=
  let hit := s.on MEM_FLIP_CTL.ARM && s.rd MEM_FLIP_CTL.TARGET == a &&
    (!s.on MEM_FLIP_CTL.ADDR_EN || s.rd MEM_FLIP_ADDR.VALUE / cwBytes a == cw)
  match hit, s.flipEffect a with
  | true, some c =>
    let s := ((s.setCell a cw (some c)).wr MEM_FLIP_CTL.ARM 0).wr MEM_FLIP_CTL.FIRED 1
    (s.bump MEM_CNT_FLIP.COUNT).irq MEM_IRQ_STAT.FLIP
  | _, _ => s.setCell a cw none

/-- A merge-buffer entry drains (R497): a partial one reads the old codeword first. -/
def State.mergeDrain (s : State) (e : MergeEnt) : State :=
  let s := { s with mem := { s.mem with merge := s.mem.merge.erase e } }
  if e.mask + 1 = 2 ^ cwBytes e.arr then s.cwWrite e.arr e.cw
  else
    let (bad, s) := (s.bump MEM_CNT_MERGE_RMW.COUNT).memRead e.arr e.cw 2
    if bad then s.setCell e.arr e.cw (some .poison) else s.cwWrite e.arr e.cw

/-- A narrow write (R495): bytes of a mask within a codeword. -/
def State.memNarrow (s : State) (a cw mask : Nat) : State :=
  match s.mem.merge.find? (fun e => e.arr == a && e.cw == cw) with
  | some e =>
    let e' : MergeEnt := { e with mask := e.mask ||| mask, since := s.now }
    let s := { s with mem := { s.mem with merge := s.mem.merge.map (fun x => if x = e then e' else x) } }
    if e'.mask + 1 = 2 ^ cwBytes a then s.mergeDrain e' else s
  | none =>
    let held := s.mem.merge.filter (fun e => e.arr == a)
    let s := if held.length ≥ 8 then
        (match held with
         | o :: _ => s.mergeDrain o
         | [] => s)
      else s
    let e : MergeEnt := { arr := a, cw := cw, mask := mask, since := s.now }
    { s with mem := { s.mem with merge := s.mem.merge ++ [e] } }

/-- A full-width write (R495): an entry that holds the codeword is discarded. -/
def State.memFull (s : State) (a cw : Nat) : State :=
  { s with mem := { s.mem with merge := s.mem.merge.filter (fun e => !(e.arr == a && e.cw == cw)) } }.cwWrite a cw

/-- The bytes of a codeword that its merge entry holds: a read of these alone does not reach the array (R496). -/
def State.mergeMask (s : State) (a cw : Nat) : Nat :=
  ((s.mem.merge.find? (fun e => e.arr == a && e.cw == cw)).map (·.mask)).getD 0

/-- A read of n bytes from a byte address of a memory: whether any codeword delivers poison. -/
def memReadFrom (a : Nat) : Nat → Nat → Nat → State → Bool × State
  | 0, _, _, s => (false, s)
  | k + 1, cw, last, s =>
    let (b, s) := s.memRead a cw 0
    if cw ≥ last then (b, s)
    else
      let (r, s) := memReadFrom a k (cw + 1) last s
      (b || r, s)

def State.memReadBytes (s : State) (a addr n : Nat) : Bool × State :=
  let w := cwBytes a
  let first := addr / w
  let last := (addr + max 1 n - 1) / w
  if n ≤ w ∧ first = last then
    let need := (2 ^ n - 1) * 2 ^ (addr % w)
    if s.mergeMask a first &&& need = need then (false, s) else s.memRead a first 0
  else memReadFrom a (last - first + 1) first last s

/-- Writes of n bytes from a byte address: whole codewords at full width, the rest narrow. -/
def memWriteFrom (a : Nat) : Nat → Nat → Nat → State → State
  | 0, _, _, s => s
  | k + 1, addr, n, s =>
    if n = 0 then s
    else
      let w := cwBytes a
      let off := addr % w
      let take := min n (w - off)
      let s := if take = w then s.memFull a (addr / w) else s.memNarrow a (addr / w) ((2 ^ take - 1) * 2 ^ off)
      memWriteFrom a k (addr + take) (n - take) s

def State.memWriteBytes (s : State) (a addr n : Nat) : State := memWriteFrom a (n / cwBytes a + 2) addr n s

/-! ## Hard words (R491–R493) -/

/-- Remap entries in use of an array. -/
def State.remapCount (s : State) (a : Nat) : Nat := (s.mem.remap.filter (fun p => p.1 / 8 == a)).length

/-- A hard SRAM word (R491, R492). -/
def State.hardSram (s : State) (a cw : Nat) (poison : Bool) : State :=
  let s := s.bump MEM_CNT_HARD.COUNT
  let s := if arrPriv a then s.memLog a 3 0xFF cw else s
  match (List.range 8).find? (fun e => (SMap.find s.mem.remap (8 * a + e)).isNone) with
  | none => (s.wr MEM_STAT.HARD_FULL 1).irq MEM_IRQ_STAT.REMAP
  | some e =>
    let r : Remap := { factory := false, poison := poison, word := cw }
    let s := { s with mem := { s.mem with remap := SMap.put s.mem.remap (8 * a + e) r } }
    let s := ((s.wr MEM_ARR_STAT.REMAP (s.remapCount a) a).bump MEM_CNT_REMAP.COUNT).irq MEM_IRQ_STAT.REMAP
    let s := if arrPriv a then s.memLog a 4 0xFF cw else s
    s.archiveEvent 0x0F 0 0 (leBytes 4 a ++ leBytes 4 cw)

/-- A hard DRAM word (R493): its row enters the suspect list. -/
def State.hardDram (s : State) (bank row : Nat) : State :=
  let s := s.bump MEM_CNT_HARD.COUNT
  let bank := bank % 16
  let row := row % 16384
  let here := fun (i : Nat) => s.on MEM_DRAM_SUSPECT.VALID i && s.rd MEM_DRAM_SUSPECT.BANK i == bank &&
    s.rd MEM_DRAM_SUSPECT.ROW i == row
  if (List.range 8).any here then s
  else
    match (List.range 8).find? (fun i => !s.on MEM_DRAM_SUSPECT.VALID i) with
    | none => s.wr MEM_STAT.SUSPECT_FULL 1
    | some i =>
      let s := ((s.wr MEM_DRAM_SUSPECT.VALID 1 i).wr MEM_DRAM_SUSPECT.BANK bank i).wr MEM_DRAM_SUSPECT.ROW row i
      (s.irq MEM_IRQ_STAT.SUSPECT).archiveEvent 0x0F 0 0 (leBytes 4 bank ++ leBytes 4 row)

/-- The factory entries of the fuse map are installed (R492): a table that they fill takes no more. -/
def State.remapFactory (s : State) : State :=
  let s := { s with mem := { s.mem with remap := [] } }
  let s := s.mem.factory.foldl (fun (a : State) p =>
    match (List.range 8).find? (fun e => (SMap.find a.mem.remap (8 * p.1 + e)).isNone) with
    | some e =>
      let r : Remap := { factory := true, poison := false, word := p.2 }
      { a with mem := { a.mem with remap := SMap.put a.mem.remap (8 * p.1 + e) r } }
    | none => a) s
  let s := s.wr MEM_SPARE_STAT.FACTORY_REMAP s.mem.remap.length
  (List.range 63).foldl (fun (a : State) k => a.wr MEM_ARR_STAT.REMAP (a.remapCount k) k) s

/-- Arrays whose domain was switched off (R484, R507): cleared, with their factory entries alone. -/
def State.arraysOff (s : State) (p : Nat → Bool) : State :=
  { s with mem := { s.mem with
    cells := s.mem.cells.filter (fun c => !p (c.1 / 2 ^ 30))
    merge := s.mem.merge.filter (fun e => !p e.arr)
    remap := s.mem.remap.filter (fun r => r.2.factory || !p (r.1 / 8)) } }

/-! ## The scrubber (R498, R499) -/

/-- SRAM words before an array, in the order of scrubbing. -/
def sramBase (a : Nat) : Nat := (List.range a).foldl (fun n k => n + arrWords k) 0

def sramAll : Nat := 13688 * 128
def dramAll : Nat := 2 ^ 25

/-- The array and word of a place in the SRAM pass. -/
def sramPlace (n : Nat) : Nat × Nat :=
  let a := (List.range 63).foldl (fun b k => if sramBase k ≤ n then k else b) 0
  (a, n - sramBase a)

/-- SCRUB_POS and SCRUB_SPOS. -/
def State.scrubPos (s : State) : State :=
  let p := sramPlace s.mem.sram
  ((s.wr MEM_SCRUB_POS.ADDR (16 * s.mem.dram)).wr MEM_SCRUB_SPOS.ARRAY p.1).wr MEM_SCRUB_SPOS.WORD p.2

/-- Begin a DRAM pass at a 64 KiB boundary drawn from instance 10 (R499). -/
def State.dramPass (s : State) : State :=
  let (w, s) := (s.rngTake 10 1).getD (0, s)
  { s with mem := { s.mem with dram := w % 8192 * 4096, dramLeft := dramAll, dramFrom := s.now } }

/-- Begin an SRAM pass at a 4 KiB boundary of an array. -/
def State.sramPass (s : State) : State :=
  let (w, s) := (s.rngTake 10 1).getD (0, s)
  { s with mem := { s.mem with sram := w % (sramAll / 512) * 512, sramLeft := sramAll, sramFrom := s.now } }

/-- The scrubber starts new passes (R499, R506). -/
def State.scrubStart (s : State) : State := ((s.dramPass.sramPass).wr MEM_STAT.SCRUBBING 1).scrubPos

/-- LAG of the last second (R498). -/
def State.scrubRate (s : State) (bytes : Nat) : State :=
  let sec := s.now / secT 1
  if s.mem.scrubSec = sec then { s with mem := { s.mem with scrubBytes := s.mem.scrubBytes + bytes } }
  else
    let want := clampTo 1 64 (s.rd MEM_SCRUB_CFG.RATE) * 2 ^ 20
    let got := if s.mem.scrubSec + 1 = sec then s.mem.scrubBytes else 0
    let lag := decide (got * 10 < want * 9)
    let s := if lag ∧ !s.on MEM_STAT.LAG then s.irq MEM_IRQ_STAT.LAG else s
    { s.flag MEM_STAT.LAG lag with mem := { s.mem with scrubSec := sec, scrubBytes := bytes } }

/-- The scrubber moves to its next codeword: 8 KiB of SRAM after each 64 KiB of DRAM. -/
def State.scrubNext (s : State) : State :=
  let m := s.mem
  let run := m.run + 1
  if m.onSram then
    let m := { m with sram := (m.sram + 1) % sramAll, sramLeft := m.sramLeft - 1
                      run := if run ≥ 1024 then 0 else run, onSram := decide (run < 1024) }
    let s := { s with mem := m }
    if m.sramLeft = 0 then
      let ds := (s.now - m.sramFrom) * 10 / secT 1
      ((s.bump MEM_CNT_PASS_SRAM.COUNT).wr MEM_SCRUB_STAT.LAST_SRAM_DS (min 0xFFFF ds)).sramPass
    else s
  else
    let m := { m with dram := (m.dram + 1) % dramAll, dramLeft := m.dramLeft - 1
                      run := if run ≥ 4096 then 0 else run, onSram := decide (run ≥ 4096) }
    let s := { s with mem := m }
    if m.dramLeft = 0 then
      let sec := (s.now - m.dramFrom) / secT 1
      ((s.bump MEM_CNT_PASS_DRAM.COUNT).wr MEM_SCRUB_STAT.LAST_DRAM_S (min 0xFFFF sec)).dramPass
    else s

/-- An uncorrectable error in a core's instruction memory is repaired from the internal copy; a poisoned copy takes the
core OFFLINE (R490). -/
def State.imemRepair (s : State) (c cw : Nat) (copyBad : Bool) : State :=
  if copyBad then
    let s := (s.coreStop c).coreTo c csOffline
    s.archiveEvent 0x0E c 0 (leBytes 4 c)
  else s.setCell c cw none

/-- One step of the scrubber. -/
def State.scrubStep (s : State) (find bitNo bank row : Nat) (hard copyBad : Bool) : State :=
  let p := sramPlace s.mem.sram
  let (a, cw) := if s.mem.onSram then p else (arrDram, s.mem.dram)
  let was := s.cell a cw
  let s := if was = none then
      (if find = 1 then s.setCell a cw (some (.ce (min 0xFF bitNo))) else if find = 2 then s.setCell a cw (some .ue) else s)
    else s
  let ce := match s.cell a cw with
    | some (.ce _) => true
    | _ => false
  let (bad, s) := s.memRead a cw 1
  let s := if hard && (ce || bad) then (if a = arrDram then s.hardDram bank row else s.hardSram a cw bad) else s
  let s := if bad ∧ a < 0x10 then s.imemRepair a cw copyBad else s
  ((s.scrubRate (cwBytes a)).scrubNext).scrubPos

/-- SCRUB (R485–R491, R498): one codeword. -/
def execScrub (t find bitNo bank row : Nat) (hard copyBad : Bool) (s : State) : Answer := happen t s (fun s =>
  if !s.running 0x0F ∨ !s.on MEM_STAT.SCRUBBING then s
  else s.scrubStep find bitNo bank row hard copyBad)

/-! ## The commands -/

/-- MERGE_DRAIN (R497): the oldest entry of a memory that has been idle for MERGE_IDLE cycles, which are those of the
1.25 ns core clock. -/
def execMergeDrain (t arr : Nat) (s : State) : Answer := happen t s (fun s =>
  let idle := clampTo 8 255 (s.rd MEM_MERGE_CFG.MERGE_IDLE) * 79872 / 1000
  match s.mem.merge.find? (fun e => e.arr == arr) with
  | some e => if s.now ≥ e.since + idle then s.mergeDrain e else s
  | none => s)

/-- A write of MEM_FLIP_CTL (R503–R505). -/
def State.flipArm (s : State) (port : Nat) (priv : Bool) (w : Nat) : State :=
  let target := bits w 15 8
  let locked := (target == 0x34 || target == 0x35) && !(s.lc == lcBlank || s.lc == lcVendor)
  if bit w 0 ∧ arrPriv target ∧ (!priv ∨ locked) then s.violation port true priv 1 0x0F005C
  else
    let s := (s.wr MEM_FLIP_CTL.TARGET target).flag MEM_FLIP_CTL.ADDR_EN (bit w 1)
    let s := if bit w 3 then s.wr MEM_FLIP_CTL.REFUSED 0 else s
    let s := if bit w 2 then s.wr MEM_FLIP_CTL.FIRED 0 else s
    if !bit w 0 then s.wr MEM_FLIP_CTL.ARM 0
    else if (s.flipEffect target).isNone then s.wr MEM_FLIP_CTL.REFUSED 1
    else s.wr MEM_FLIP_CTL.ARM 1

def execFlipArm (t port : Nat) (priv : Bool) (w : Nat) (s : State) : Answer := happen t s (fun s =>
  if priv then s.privWrite port true 0x0F 0x0F005C (fun s => s.flipArm port true w) else s.flipArm port false w)

/-- BUCKET_LEAK (R501). -/
def execBucketLeak (t : Nat) (s : State) : Answer := happen t s (fun s =>
  if s.now < s.mem.leakAt + msT (orOne (s.rd MEM_BUCKET_CFG.LEAK_MS)) then s
  else
    let s := { s with mem := { s.mem with leakAt := s.now } }
    (List.range 24).foldl (fun (a : State) u => a.drop MEM_BUCKET.FILL u) s)

/-! ## Resets and power (R484, R506, R507) -/

/-- Every merge buffer drains. -/
def State.mergeDrainAll (s : State) : State := s.mem.merge.foldl (fun (a : State) e => a.mergeDrain e) s

/-- A unit reset of MEM, and its INIT. -/
def State.memUnitReset (s : State) : State :=
  let s := s.mergeDrainAll
  let s := { s with mem := { s.mem with log := [], ueSec := [], ovfMin := [], leakAt := s.now } }
  s.scrubStart

/-- Before S2: the buffers drain and the scrubber stops at a codeword. -/
def State.memSleep (s : State) : State := s.mergeDrainAll.wr MEM_STAT.SCRUBBING 0

end Sys2Proof.Machine
end

