-- ==== Sys2Proof/Machine/Operands.lean ====
section
/-! DEFINITION. Operand forms of the core's instructions (R425, R428, R430): encodings, fields, registers and words. -/

namespace Sys2Proof.Machine

/-! ## Encodings (R430) -/

/-- A field of a word: a value cut to its width, at its place. -/
def fld (v width lo : Nat) : Nat := v % 2 ^ width * 2 ^ lo

/-- Format R: imm8 is SYS's. -/
def encR (major fn rd ra rb imm8 : Nat) : Nat :=
  fld major 6 26 + fld rd 4 22 + fld ra 4 18 + fld rb 4 14 + fld imm8 8 6 + fld fn 6 0

/-- Format I. -/
def encI (major rd ra imm18 : Nat) : Nat := fld major 6 26 + fld rd 4 22 + fld ra 4 18 + fld imm18 18 0

/-- Formats M and B: rd or cond, and 22 bits. -/
def encM (major rd imm22 : Nat) : Nat := fld major 6 26 + fld rd 4 22 + fld imm22 22 0

/-- Format J. -/
def encJ (major imm26 : Nat) : Nat := fld major 6 26 + fld imm26 26 0

/-- Format A. -/
def encA (fn rd ra rb : Nat) (acc opt : Bool) (imm6 : Nat) : Nat :=
  fld 0x29 6 26 + fld rd 4 22 + fld ra 4 18 + fld rb 4 14 + fld acc.toNat 1 13 + fld opt.toNat 1 12 + fld imm6 6 6 + fld fn 6 0

/-- Format X. -/
def encX (acc : Bool) (op px py mx my : Nat) : Nat :=
  fld 0x28 6 26 + fld acc.toNat 1 25 + fld op 2 23 + fld px 4 19 + fld py 4 15 + fld mx 5 10 + fld my 5 5

/-- Format P. -/
def encP (major rd ra : Nat) (abs : Bool) (imm12 : Nat) : Nat :=
  fld major 6 26 + fld rd 4 22 + fld ra 4 18 + fld abs.toNat 1 17 + fld imm12 12 0

/-- Format S. -/
def encS (major mask : Nat) : Nat := fld major 6 26 + fld mask 16 0

/-- Format C: CPn. -/
def encC (cp rd ra rb func : Nat) : Nat := fld (0x38 + cp % 8) 6 26 + fld rd 4 22 + fld ra 4 18 + fld rb 4 14 + fld func 14 0

/-- sx of a field of w bits, as a 32-bit value. -/
def sx (w v : Nat) : Nat := ofSigned 32 (toSigned w (v % 2 ^ w))

/-! ## Registers (R425) -/

def Core.reg (k : Core) (r : Nat) : Nat := k.g.getD (r % 16) 0

def Core.setReg (k : Core) (r v : Nat) : Core := { k with g := k.g.set (r % 16) (v % 2 ^ 32) }

def Core.acc (k : Core) (a : Bool) : Nat := if a then k.a1 else k.a0

def Core.setAcc (k : Core) (a : Bool) (v : Nat) : Core :=
  if a then { k with a1 := v % 2 ^ 72 } else { k with a0 := v % 2 ^ 72 }

/-- A general register of a core. -/
def State.gr (s : State) (c r : Nat) : Nat := (s.core c).reg r

def State.setGr (s : State) (c r v : Nat) : State := s.updCore c (fun k => k.setReg r v)

/-! ## Data memory (R428) -/

/-- A data address exists and is aligned for its size. -/
def dataOk (a size : Nat) : Bool := decide (a ≤ 0xFFFF) && a % size == 0

/-- The array that holds a data address, and the byte address in it. -/
def dataArr (c a : Nat) : Nat × Nat := if a < 0x8000 then (0x10 + c, a) else (0x20 + c, a - 0x8000)

/-- The word that holds a data address. -/
def Core.dataWord (k : Core) (a : Nat) : Nat := SMap.get k.data (a / 4) 0

def Core.setDataWord (k : Core) (a v : Nat) : Core :=
  { k with data := if v % 2 ^ 32 = 0 then SMap.del k.data (a / 4) else SMap.put k.data (a / 4) (v % 2 ^ 32) }

/-- The value of size bytes at an aligned data address. -/
def Core.load (k : Core) (a size : Nat) : Nat := k.dataWord a / 2 ^ (8 * (a % 4)) % 2 ^ (8 * size)

/-- Data memory with size bytes at an aligned data address replaced. -/
def Core.store (k : Core) (a size v : Nat) : Core :=
  let w := k.dataWord a
  let sh := 8 * (a % 4)
  k.setDataWord a (w - w / 2 ^ sh % 2 ^ (8 * size) * 2 ^ sh + v % 2 ^ (8 * size) * 2 ^ sh)

/-- n bytes from a data address. -/
def Core.bytesAt (k : Core) (a n : Nat) : List Byte :=
  (List.range n).map (fun i => BitVec.ofNat 8 (k.load (a + i) 1))

/-- Data memory with bytes replaced from an address. -/
def Core.putBytes (k : Core) (a : Nat) (l : List Byte) : Core :=
  (List.range l.length).foldl (fun (x : Core) i => x.store (a + i) 1 (l.getD i 0).toNat) k

/-- n bytes from an address lie in data memory. -/
def dataRange (a n : Nat) : Bool := decide (a + n ≤ 0x10000)

/-- n bytes from an address lie wholly inside X or inside Y. -/
def oneBank (a n : Nat) : Bool := dataRange a n && (decide (a + n ≤ 0x8000) || decide (0x8000 ≤ a))

/-- The memory's account of a read that ends X with x bytes from an address and goes on with y bytes of Y. -/
def State.readAcross (s : State) (c a x y : Nat) : Bool × State :=
  let r := s.memReadBytes (0x10 + c) a x
  let q := r.2.memReadBytes (0x20 + c) 0 y
  (r.1 || q.1, q.2)

/-- The memory's account of a read of n bytes of data memory: whether it delivers poison. -/
def State.dataRead (s : State) (c a n : Nat) : Bool × State :=
  if n = 0 then (false, s)
  else if a < 0x8000 ∧ 0x8000 < a + n then s.readAcross c a (0x8000 - a) (a + n - 0x8000)
  else s.memReadBytes (dataArr c a).1 (dataArr c a).2 n

/-- The memory's account of a write that ends X with x bytes and goes on with y bytes of Y. -/
def State.writeAcross (s : State) (c a x y : Nat) : State :=
  (s.memWriteBytes (0x10 + c) a x).memWriteBytes (0x20 + c) 0 y

/-- The memory's account of a write of n bytes. -/
def State.dataWrite (s : State) (c a n : Nat) : State :=
  if n = 0 then s
  else if a < 0x8000 ∧ 0x8000 < a + n then s.writeAcross c a (0x8000 - a) (a + n - 0x8000)
  else s.memWriteBytes (dataArr c a).1 (dataArr c a).2 n

/-- Bytes are stored in a core's data memory. -/
def State.storeBytes (s : State) (c a : Nat) (l : List Byte) : State :=
  (s.dataWrite c a l.length).updCore c (fun k => k.putBytes a l)

/-- A word is stored. -/
def State.storeWord32 (s : State) (c a v : Nat) : State :=
  (s.dataWrite c a 4).updCore c (fun k => k.setDataWord a v)

end Sys2Proof.Machine
end

