-- ==== Sys2Proof/Machine/Flags.lean ====
section
/-! DEFINITION. The PSW and every flag computation of the core's instructions (R426, R433–R437, R443). -/

namespace Sys2Proof.Machine

/-! ## The PSW (R426) -/

def pbN : Nat := 0
def pbZ : Nat := 1
def pbC : Nat := 2
def pbV : Nat := 3
def pbDZ : Nat := 4
def pbAV : Nat := 5
def pbSAT : Nat := 6
def pbIE : Nat := 8
def pbTRAPDZ : Nat := 9
def pbREPA : Nat := 10

def Core.flag (k : Core) (b : Nat) : Bool := bit k.psw b

/-- Flags set as a list of bits and values gives. -/
def Core.setFlags (k : Core) (l : List (Nat × Bool)) : Core :=
  { k with psw := l.foldl (fun (p : Nat) x => setBit p x.1 x.2) k.psw }

/-- RC. -/
def Core.rc (k : Core) : Nat := bits k.psw 23 12

/-- REPA and RC set together. -/
def Core.setRep (k : Core) (repa : Bool) (rc : Nat) : Core :=
  { k with psw := setBit (k.psw - bits k.psw 23 12 * 2 ^ 12) pbREPA repa + rc % 2 ^ 12 * 2 ^ 12 }

/-! ## Results with their flags -/

/-- A result and the flags that come with it. -/
abbrev AluOut := Nat × List (Nat × Bool)

/-- "NZ". -/
def nzF (r : Nat) : List (Nat × Bool) := [(pbN, bit r 31), (pbZ, r == 0)]

/-- A result with NZ. -/
def nzOut (v : Nat) : AluOut := (v % 2 ^ 32, nzF (v % 2 ^ 32))

/-- "add": s + t + cin; C the carry out, V signed overflow. -/
def addOut (a b cin : Nat) : AluOut :=
  let exact := a + b + cin
  let r := exact % 2 ^ 32
  let v := toSigned 32 a + toSigned 32 b + cin != toSigned 32 r
  (r, nzF r ++ [(pbC, decide (2 ^ 32 ≤ exact)), (pbV, v)])

/-- "sub": s + ~t + cin, which with cin 1 is s − t; C is 1 when there is no borrow. -/
def subOut (a b cin : Nat) : AluOut :=
  let exact := a + (2 ^ 32 - 1 - b) + cin
  let r := exact % 2 ^ 32
  let v := toSigned 32 a - toSigned 32 b - 1 + cin != toSigned 32 r
  (r, nzF r ++ [(pbC, decide (2 ^ 32 ≤ exact)), (pbV, v)])

/-! ## Shifts (R437) -/

/-- SHL by the low six bits of n. -/
def shlOut (a n : Nat) : AluOut :=
  let n := n % 64
  let r := if 32 ≤ n then 0 else a * 2 ^ n % 2 ^ 32
  (r, nzF r ++ (if n = 0 then [] else [(pbC, decide (n ≤ 32) && bit a (32 - n))]))

def shrOut (a n : Nat) : AluOut :=
  let n := n % 64
  let r := a / 2 ^ n
  (r, nzF r ++ (if n = 0 then [] else [(pbC, decide (n ≤ 32) && bit a (n - 1))]))

def sarOut (a n : Nat) : AluOut :=
  let n := n % 64
  let r := ofSigned 32 (toSigned 32 a / (2 ^ n : Nat))
  (r, nzF r ++ (if n = 0 then [] else [(pbC, bit a (min (n - 1) 31))]))

def rorOut (a n : Nat) : AluOut :=
  let n := n % 64
  let m := n % 32
  let r := a / 2 ^ m + a % 2 ^ m * 2 ^ (32 - m) % 2 ^ 32
  (r, nzF r ++ (if n = 0 then [] else [(pbC, bit r 31)]))

/-! ## Multiplication and division (R433, R436) -/

/-- MUL: the low word; V when the product does not fit 32 bits. -/
def mulOut (a b : Nat) : AluOut :=
  let p := toSigned 32 a * toSigned 32 b
  let r := ofSigned 32 p
  (r, nzF r ++ [(pbV, toSigned 32 r != p)])

def mulhOut (a b : Nat) : AluOut := nzOut (ofSigned 64 (toSigned 32 a * toSigned 32 b) / 2 ^ 32)

def mulhuOut (a b : Nat) : AluOut := nzOut (a * b / 2 ^ 32)

/-- A division's result with NZ, V, and DZ when it divides by zero. -/
def divOut (r : Nat) (v zero : Bool) : AluOut :=
  (r % 2 ^ 32, nzF (r % 2 ^ 32) ++ [(pbV, v)] ++ (if zero then [(pbDZ, true)] else []))

/-- DIVS; MIN by −1 gives MIN with V. -/
def divsOut (a b : Nat) : AluOut :=
  if b = 0 then divOut (if bit a 31 then 0x80000000 else 0x7FFFFFFF) false true
  else divOut (ofSigned 32 (Int.tdiv (toSigned 32 a) (toSigned 32 b))) (a == 0x80000000 && b == 0xFFFFFFFF) false

def divuOut (a b : Nat) : AluOut := if b = 0 then divOut 0xFFFFFFFF false true else divOut (a / b) false false

/-- REMS; the remainder takes the sign of ra. -/
def remsOut (a b : Nat) : AluOut :=
  if b = 0 then divOut a false true else divOut (ofSigned 32 (Int.tmod (toSigned 32 a) (toSigned 32 b))) false false

def remuOut (a b : Nat) : AluOut := if b = 0 then divOut a false true else divOut (a % b) false false

/-! ## The rest of the ALU group (R433, R435) -/

def absOut (a : Nat) : AluOut :=
  let r := if bit a 31 then (2 ^ 32 - a) % 2 ^ 32 else a
  (r, nzF r ++ [(pbV, a == 0x80000000)])

/-- Leading zero bits of 32. -/
def clz32 (a : Nat) : Nat := 32 - ((List.range 32).filter (fun i => decide (2 ^ i ≤ a))).length

/-- Bytes in reverse order. -/
def bswap32 (a : Nat) : Nat := a % 2 ^ 8 * 2 ^ 24 + a / 2 ^ 8 % 2 ^ 8 * 2 ^ 16 + a / 2 ^ 16 % 2 ^ 8 * 2 ^ 8 + a / 2 ^ 24 % 2 ^ 8

/-- Bitwise complement of 32 bits. -/
def not32 (a : Nat) : Nat := 2 ^ 32 - 1 - a % 2 ^ 32

/-! ## Conditions (R443) -/

/-- The condition of B.cond holds. -/
def Core.cond (k : Core) (cond : Nat) : Bool :=
  let n := k.flag pbN
  let z := k.flag pbZ
  let c := k.flag pbC
  let v := k.flag pbV
  ([z, !z, c, !c, n, !n, v, !v, c && !z, !c || z, n == v, n != v, !z && n == v, z || n != v, true,
    k.flag pbDZ] : List Bool).getD (cond % 16) false

end Sys2Proof.Machine
end

