-- ==== Sys2Proof/Machine/AstOps.lean ====
section
/-! DEFINITION. One instruction of a core: fetch, outcome, exception entry and Fault (R427, R431, R445, R455–R459, R474,
R476). -/

namespace Sys2Proof.Machine

/-- How an instruction comes out. -/
inductive CoreRes where
  /-- It completes; the next instruction, or the next iteration of a REP, follows. -/
  | done (s : State)
  /-- It completes, and execution goes on at an address. -/
  | goto (s : State) (pc : Nat)
  /-- It stalls, or the core has left its step: PC stands. -/
  | hold (s : State)
  /-- It raises an exception: code, DETAIL, EADDR. -/
  | exc (s : State) (code detail eaddr : Nat)

/-! ## Causes (R455) -/

def exIllegal : Nat := 0x01
def exCoproc : Nat := 0x02
def exIaddr : Nat := 0x03
def exDaddr : Nat := 0x04
def exIoaddr : Nat := 0x05
def exPoison : Nat := 0x06
def exDivzero : Nat := 0x07
def exTrap : Nat := 0x08
def exBrk : Nat := 0x09
def exIrq : Nat := 0x10

/-! ## Fault (R458, R474, R476) -/

/-- AST_CFG's RETIRE_N and HOLD_FAULT. -/
def State.retireN (s : State) : Nat := s.rd AST_CFG.RETIRE_N
def State.holdFault (s : State) : Bool := s.on AST_CFG.HOLD_FAULT

/-- The shadow registers of a core. -/
def State.shadow (s : State) (c pc psw g14 cause eaddr : Nat) : State :=
  let s := (s.wr AST_SH_PC.VALUE pc c).wr AST_SH_PSW.VALUE psw c
  let s := ((s.wr AST_SH_G14.VALUE g14 c).wr AST_SH_CAUSE.VALUE cause c).wr AST_SH_EADDR.VALUE eaddr c
  (s.wr AST_SH_STAMP_LO.VALUE (s.now % 2 ^ 32) c).wr AST_SH_STAMP_HI.VALUE (s.now / 2 ^ 32) c

/-- A core enters Fault: shadow registers, the session's end with STACK_FAULT, and the state that R474 and R476 give. -/
def State.coreFault (s : State) (c cause eaddr : Nat) : State :=
  let k := s.core c
  let n := s.rd AST_CORE_STAT.SESSION c
  let s := s.shadow c k.pc k.psw (k.reg 14) cause eaddr
  let s := (s.bump AST_CNT_FAULT.COUNT).bump AST_CORE_CNT_FAULT.COUNT c
  let s := (s.stepEnds c).coreUnbind c
  let s := (s.coreTo c csFault).abort n ccStackFault
  let s := (s.irq AST_IRQ_STAT.FAULT).astEvent 1 c ccStackFault n
  let recent := (s.now :: (s.core c).faults).filter (fun a => decide (s.now < a + secT 60))
  let s := s.updCore c (fun k => { k with faults := recent, reloadFrom := s.now })
  if 0 < s.retireN ∧ s.retireN ≤ recent.length then
    let s := ((s.bump AST_CNT_RETIRE.COUNT).coreTo c csOffline).irq AST_IRQ_STAT.OFFLINE
    s.astEvent 3 c ccStackFault n
  else if s.holdFault then s
  else s.coreTo c csReload

/-! ## Exception entry (R458) -/

/-- g14 is valid for entry. -/
def Core.stackOk (k : Core) : Bool :=
  k.reg 14 % 4 == 0 && decide (k.stklo + 16 ≤ k.reg 14) && decide (k.reg 14 ≤ k.stkhi)

/-- The frame: EPC, PSW, the cause word and EADDR. -/
def State.pushFrame (s : State) (c epc cause eaddr : Nat) : State :=
  let k := s.core c
  let b := k.reg 14 - 16
  let s := ((s.storeWord32 c b epc).storeWord32 c (b + 4) k.psw).storeWord32 c (b + 8) cause
  (s.storeWord32 c (b + 12) eaddr).setGr c 14 b

/-- A core takes an exception with an EPC. -/
def State.coreEnter (s : State) (c code detail epc eaddr : Nat) : State :=
  let cause := code + detail % 256 * 256
  let s := s.wr AST_CORE_LAST.CAUSE code c
  if (s.core c).stackOk then
    let s := s.pushFrame c epc cause eaddr
    s.updCore c (fun k => { (k.setFlags [(pbIE, false)]).setRep false 0 with pc := k.vbase + 4 * code, waiting := false })
  else s.coreFault c cause eaddr

/-- An instruction's exception: EPC is the instruction, or the next one for TRAP and BRK; consumed poison is counted
(R488). -/
def State.coreExcept (s : State) (c code detail eaddr : Nat) : State :=
  let pc := (s.core c).pc
  let s := if code = exPoison then s.poisonUse else s
  s.coreEnter c code detail (if code = exTrap ∨ code = exBrk then pc + 4 else pc) eaddr

/-! ## Running an instruction -/

/-- PC after an instruction that completes, and RC and REPA after an iteration (R445). -/
def State.coreAdvance (s : State) (c : Nat) : State :=
  s.updCore c (fun k =>
    if !k.flag pbREPA then { k with pc := k.pc + 4, waiting := false }
    else if k.rc ≤ 1 then { k.setRep false 0 with pc := k.pc + 4 }
    else k.setRep true (k.rc - 1))

/-- What an outcome leaves. -/
def CoreRes.settle (r : CoreRes) (c : Nat) : State :=
  match r with
  | .done s => s.coreAdvance c
  | .goto s pc => s.updCore c (fun k => { k with pc := pc })
  | .hold s => s
  | .exc s code detail eaddr => s.coreExcept c code detail eaddr

/-- The instruction word at an address. -/
def Core.word (k : Core) : Nat := SMap.get k.imem (k.pc / 4) 0

/-- The fetch (R427, R456): none when it raises, and then the state after its exception. A poisoned instruction word is
repaired from the internal copy before the next fetch (R490). -/
def State.coreFetch (s : State) (c : Nat) : State ⊕ State :=
  let pc := (s.core c).pc
  if 0xFFFC < pc ∨ pc % 4 ≠ 0 then .inl (s.coreExcept c exIaddr 0 pc)
  else
    let (bad, s) := s.memReadBytes c pc 4
    if bad then .inl ((s.coreExcept c exPoison 0 pc).imemRepair c (pc / 8) false) else .inr s

/-- The state after a fetch that raises nothing: the memory's account of it. -/
def State.fetched (s : State) (c : Nat) : State := (s.memReadBytes c (s.core c).pc 4).2

/-- The core runs an instruction: fetch, and the restriction of R445 on a repeated one. `rep` says that it may be
repeated. -/
def State.coreRun (s : State) (c : Nat) (rep : Bool) (op : State → CoreRes) : State :=
  match s.coreFetch c with
  | .inl s => s
  | .inr s =>
    if (s.core c).flag pbREPA && !rep then s.coreExcept c exIllegal 2 0 else (op s).settle c

/-- The core runs a step, unhalted. -/
def State.coreSteps (s : State) (c : Nat) : Bool := decide (c < 16) && s.coreSt c == csStep

/-- The row of an instruction: it happens when the core runs a step and the word at PC is its encoding, or when the fetch
raises. -/
def coreRow (t c w : Nat) (rep : Bool) (op : State → CoreRes) (s : State) : Answer := happen t s (fun s =>
  if !s.coreSteps c then s
  else
    match s.coreFetch c with
    | .inl s => s
    | .inr _ => if (s.core c).word = w then s.coreRun c rep op else s)

/-! ## Shared outcomes -/

/-- A register takes a value. -/
def State.putReg (s : State) (c rd v : Nat) : CoreRes := .done (s.setGr c rd v)

/-- A register takes a result, and the PSW its flags. -/
def State.putAlu (s : State) (c rd : Nat) (o : AluOut) : CoreRes :=
  .done (s.updCore c (fun k => (k.setReg rd o.1).setFlags o.2))

/-- The PSW takes a result's flags. -/
def State.putFlags (s : State) (c : Nat) (o : AluOut) : CoreRes := .done (s.updCore c (fun k => k.setFlags o.2))

/-- ILLEGAL for an encoding. -/
def State.illegal (s : State) : CoreRes := .exc s exIllegal 0 0

end Sys2Proof.Machine
end

