-- ==== Sys2Proof/Machine/AstAlu.lean ====
section
/-! DEFINITION. The integer instructions (R433–R437). -/

namespace Sys2Proof.Machine

/-! ## The ALU group -/

/-- Three registers. -/
def opRrr (f : Nat → Nat → AluOut) (c rd ra rb : Nat) (s : State) : CoreRes := s.putAlu c rd (f (s.gr c ra) (s.gr c rb))

/-- Two registers. -/
def opRr (f : Nat → AluOut) (c rd ra : Nat) (s : State) : CoreRes := s.putAlu c rd (f (s.gr c ra))

/-- Flags alone. -/
def opCmp (f : Nat → Nat → AluOut) (c ra rb : Nat) (s : State) : CoreRes := s.putFlags c (f (s.gr c ra) (s.gr c rb))

/-- With the carry in. -/
def opCarry (f : Nat → Nat → Nat → AluOut) (c rd ra rb : Nat) (s : State) : CoreRes :=
  s.putAlu c rd (f (s.gr c ra) (s.gr c rb) ((s.core c).flag pbC).toNat)

/-- A division or remainder: under TRAPDZ one by zero raises DIVZERO. -/
def opDiv (f : Nat → Nat → AluOut) (c rd ra rb : Nat) (s : State) : CoreRes :=
  if s.gr c rb = 0 ∧ (s.core c).flag pbTRAPDZ then .exc s exDivzero 0 0 else opRrr f c rd ra rb s

def addF (a b : Nat) : AluOut := addOut a b 0
def subF (a b : Nat) : AluOut := subOut a b 1
def negF (a : Nat) : AluOut := subOut 0 a 1
def andF (a b : Nat) : AluOut := nzOut (Nat.land a b)
def orF (a b : Nat) : AluOut := nzOut (Nat.lor a b)
def xorF (a b : Nat) : AluOut := nzOut (Nat.xor a b)
def andnF (a b : Nat) : AluOut := nzOut (Nat.land a (not32 b))
def notF (a : Nat) : AluOut := nzOut (not32 a)
def movF (a : Nat) : AluOut := nzOut a
def minF (a b : Nat) : AluOut := nzOut (if toSigned 32 a ≤ toSigned 32 b then a else b)
def maxF (a b : Nat) : AluOut := nzOut (if toSigned 32 a ≤ toSigned 32 b then b else a)
def minuF (a b : Nat) : AluOut := nzOut (min a b)
def maxuF (a b : Nat) : AluOut := nzOut (max a b)
def clzF (a : Nat) : AluOut := nzOut (clz32 a)
def sextbF (a : Nat) : AluOut := nzOut (sx 8 a)
def sexthF (a : Nat) : AluOut := nzOut (sx 16 a)
def zextbF (a : Nat) : AluOut := nzOut (a % 2 ^ 8)
def zexthF (a : Nat) : AluOut := nzOut (a % 2 ^ 16)
def bswapF (a : Nat) : AluOut := nzOut (bswap32 a)

/-- A row of the ALU group with three registers, or with two. -/
def alu3 (t c fn rd ra rb : Nat) (op : State → CoreRes) (s : State) : Answer := coreRow t c (encR 0x00 fn rd ra rb 0) true op s

def execAdd (t core rd ra rb : Nat) (s : State) : Answer := alu3 t core 0x00 rd ra rb (opRrr addF core rd ra rb) s
def execAddc (t core rd ra rb : Nat) (s : State) : Answer := alu3 t core 0x01 rd ra rb (opCarry addOut core rd ra rb) s
def execSub (t core rd ra rb : Nat) (s : State) : Answer := alu3 t core 0x02 rd ra rb (opRrr subF core rd ra rb) s
def execSubb (t core rd ra rb : Nat) (s : State) : Answer := alu3 t core 0x03 rd ra rb (opCarry subOut core rd ra rb) s
def execNeg (t core rd ra : Nat) (s : State) : Answer := alu3 t core 0x04 rd ra 0 (opRr negF core rd ra) s
def execCmp (t core ra rb : Nat) (s : State) : Answer := alu3 t core 0x05 0 ra rb (opCmp subF core ra rb) s
def execAndR (t core rd ra rb : Nat) (s : State) : Answer := alu3 t core 0x06 rd ra rb (opRrr andF core rd ra rb) s
def execOrR (t core rd ra rb : Nat) (s : State) : Answer := alu3 t core 0x07 rd ra rb (opRrr orF core rd ra rb) s
def execXorR (t core rd ra rb : Nat) (s : State) : Answer := alu3 t core 0x08 rd ra rb (opRrr xorF core rd ra rb) s
def execAndn (t core rd ra rb : Nat) (s : State) : Answer := alu3 t core 0x09 rd ra rb (opRrr andnF core rd ra rb) s
def execNotR (t core rd ra : Nat) (s : State) : Answer := alu3 t core 0x0A rd ra 0 (opRr notF core rd ra) s
def execMov (t core rd ra : Nat) (s : State) : Answer := alu3 t core 0x0B rd ra 0 (opRr movF core rd ra) s
def execShl (t core rd ra rb : Nat) (s : State) : Answer := alu3 t core 0x0C rd ra rb (opRrr shlOut core rd ra rb) s
def execShr (t core rd ra rb : Nat) (s : State) : Answer := alu3 t core 0x0D rd ra rb (opRrr shrOut core rd ra rb) s
def execSar (t core rd ra rb : Nat) (s : State) : Answer := alu3 t core 0x0E rd ra rb (opRrr sarOut core rd ra rb) s
def execRor (t core rd ra rb : Nat) (s : State) : Answer := alu3 t core 0x0F rd ra rb (opRrr rorOut core rd ra rb) s
def execMul (t core rd ra rb : Nat) (s : State) : Answer := alu3 t core 0x10 rd ra rb (opRrr mulOut core rd ra rb) s
def execMulh (t core rd ra rb : Nat) (s : State) : Answer := alu3 t core 0x11 rd ra rb (opRrr mulhOut core rd ra rb) s
def execMulhu (t core rd ra rb : Nat) (s : State) : Answer := alu3 t core 0x12 rd ra rb (opRrr mulhuOut core rd ra rb) s
def execDivs (t core rd ra rb : Nat) (s : State) : Answer := alu3 t core 0x13 rd ra rb (opDiv divsOut core rd ra rb) s
def execDivu (t core rd ra rb : Nat) (s : State) : Answer := alu3 t core 0x14 rd ra rb (opDiv divuOut core rd ra rb) s
def execRems (t core rd ra rb : Nat) (s : State) : Answer := alu3 t core 0x15 rd ra rb (opDiv remsOut core rd ra rb) s
def execRemu (t core rd ra rb : Nat) (s : State) : Answer := alu3 t core 0x16 rd ra rb (opDiv remuOut core rd ra rb) s
def execMin (t core rd ra rb : Nat) (s : State) : Answer := alu3 t core 0x17 rd ra rb (opRrr minF core rd ra rb) s
def execMax (t core rd ra rb : Nat) (s : State) : Answer := alu3 t core 0x18 rd ra rb (opRrr maxF core rd ra rb) s
def execMinu (t core rd ra rb : Nat) (s : State) : Answer := alu3 t core 0x19 rd ra rb (opRrr minuF core rd ra rb) s
def execMaxu (t core rd ra rb : Nat) (s : State) : Answer := alu3 t core 0x1A rd ra rb (opRrr maxuF core rd ra rb) s
def execAbs (t core rd ra : Nat) (s : State) : Answer := alu3 t core 0x1B rd ra 0 (opRr absOut core rd ra) s
def execClz (t core rd ra : Nat) (s : State) : Answer := alu3 t core 0x1C rd ra 0 (opRr clzF core rd ra) s
def execSextb (t core rd ra : Nat) (s : State) : Answer := alu3 t core 0x1D rd ra 0 (opRr sextbF core rd ra) s
def execSexth (t core rd ra : Nat) (s : State) : Answer := alu3 t core 0x1E rd ra 0 (opRr sexthF core rd ra) s
def execZextb (t core rd ra : Nat) (s : State) : Answer := alu3 t core 0x1F rd ra 0 (opRr zextbF core rd ra) s
def execZexth (t core rd ra : Nat) (s : State) : Answer := alu3 t core 0x20 rd ra 0 (opRr zexthF core rd ra) s
def execBswap (t core rd ra : Nat) (s : State) : Answer := alu3 t core 0x21 rd ra 0 (opRr bswapF core rd ra) s
def execTst (t core ra rb : Nat) (s : State) : Answer := alu3 t core 0x22 0 ra rb (opCmp andF core ra rb) s

/-! ## Immediates (R434) -/

/-- A register and an immediate, sign-extended or zero-extended. -/
def opRi (f : Nat → Nat → AluOut) (c rd ra v : Nat) (s : State) : CoreRes := s.putAlu c rd (f (s.gr c ra) v)

def opCmpi (c ra imm : Nat) (s : State) : CoreRes := s.putFlags c (subF (s.gr c ra) (sx 18 imm))

/-- LUI: bits [21:16] of imm22 are 0. -/
def opLui (c rd imm : Nat) (s : State) : CoreRes :=
  if 2 ^ 16 ≤ imm % 2 ^ 22 then s.illegal else s.putReg c rd (imm % 2 ^ 16 * 2 ^ 16)

/-- SHI: bits [15:6] of imm18 are 0. -/
def opShi (f : Nat → Nat → AluOut) (c rd ra imm : Nat) (s : State) : CoreRes :=
  if bits imm 15 6 ≠ 0 then s.illegal else opRi f c rd ra (imm % 64) s

/-- A row of an immediate instruction. -/
def aluI (t c major rd ra imm : Nat) (op : State → CoreRes) (s : State) : Answer :=
  coreRow t c (encI major rd ra imm) true op s

def execAddi (t core rd ra imm : Nat) (s : State) : Answer := aluI t core 0x01 rd ra imm (opRi addF core rd ra (sx 18 imm)) s
def execAndi (t core rd ra imm : Nat) (s : State) : Answer := aluI t core 0x02 rd ra imm (opRi andF core rd ra (imm % 2 ^ 18)) s
def execOri (t core rd ra imm : Nat) (s : State) : Answer := aluI t core 0x03 rd ra imm (opRi orF core rd ra (imm % 2 ^ 18)) s
def execXori (t core rd ra imm : Nat) (s : State) : Answer := aluI t core 0x04 rd ra imm (opRi xorF core rd ra (imm % 2 ^ 18)) s
def execCmpi (t core ra imm : Nat) (s : State) : Answer := aluI t core 0x05 0 ra imm (opCmpi core ra imm) s

/-- The immediate of SHI: kind and amount. -/
def shiImm (kind n : Nat) : Nat := kind * 2 ^ 16 + n % 64

def execShiShl (t core rd ra n : Nat) (s : State) : Answer :=
  aluI t core 0x06 rd ra (shiImm 0 n) (opShi shlOut core rd ra (shiImm 0 n)) s
def execShiShr (t core rd ra n : Nat) (s : State) : Answer :=
  aluI t core 0x06 rd ra (shiImm 1 n) (opShi shrOut core rd ra (shiImm 1 n)) s
def execShiSar (t core rd ra n : Nat) (s : State) : Answer :=
  aluI t core 0x06 rd ra (shiImm 2 n) (opShi sarOut core rd ra (shiImm 2 n)) s
def execShiRor (t core rd ra n : Nat) (s : State) : Answer :=
  aluI t core 0x06 rd ra (shiImm 3 n) (opShi rorOut core rd ra (shiImm 3 n)) s

def execMovi (t core rd imm : Nat) (s : State) : Answer :=
  coreRow t core (encM 0x07 rd imm) true (fun s => s.putReg core rd (sx 22 imm)) s
def execLui (t core rd imm : Nat) (s : State) : Answer := coreRow t core (encM 0x08 rd imm) true (opLui core rd imm) s

end Sys2Proof.Machine
end

