-- ==== Sys2Proof/Machine/AstMem.lean ====
section
/-! DEFINITION. Loads, stores, PUSHM and POPM (R428, R438, R439). -/

namespace Sys2Proof.Machine

/-- A load of size bytes from an address, with what it does to the value; then `f` writes the registers. -/
def State.loadAt (s : State) (c a size : Nat) (f : Nat → State → State) : CoreRes :=
  if !dataOk a size then .exc s exDaddr 0 a
  else
    let (bad, s) := s.dataRead c a size
    if bad then .exc s exPoison 1 a else .done (f ((s.core c).load a size) s)

/-- A store of size bytes at an address; then `f`. -/
def State.storeAt (s : State) (c a size v : Nat) (f : State → State) : CoreRes :=
  if !dataOk a size then .exc s exDaddr 0 a
  else .done (f ((s.dataWrite c a size).updCore c (fun k => k.store a size v)))

/-- ea of format I. -/
def State.ea (s : State) (c ra imm : Nat) : Nat := (s.gr c ra + sx 18 imm) % 2 ^ 32

/-- A load; `ext` extends its value. -/
def opLoad (size : Nat) (ext : Nat → Nat) (c rd ra imm : Nat) (s : State) : CoreRes :=
  s.loadAt c (s.ea c ra imm) size (fun v s => s.setGr c rd (ext v))

/-- A store. -/
def opStore (size c rd ra imm : Nat) (s : State) : CoreRes := s.storeAt c (s.ea c ra imm) size (s.gr c rd) id

/-- LDWP: rd equal to ra is ILLEGAL. -/
def opLdwp (c rd ra imm : Nat) (s : State) : CoreRes :=
  if rd % 16 = ra % 16 then s.illegal
  else s.loadAt c (s.gr c ra) 4 (fun v s => (s.setGr c ra (s.ea c ra imm)).setGr c rd v)

/-- STWP: the value stored is rd's before the update. -/
def opStwp (c rd ra imm : Nat) (s : State) : CoreRes :=
  s.storeAt c (s.gr c ra) 4 (s.gr c rd) (fun s => s.setGr c ra (s.ea c ra imm))

/-- A row of a load or store. -/
def memI (t c major rd ra imm : Nat) (op : State → CoreRes) (s : State) : Answer :=
  coreRow t c (encI major rd ra imm) true op s

def execLdw (t core rd ra imm : Nat) (s : State) : Answer := memI t core 0x10 rd ra imm (opLoad 4 id core rd ra imm) s
def execLdh (t core rd ra imm : Nat) (s : State) : Answer := memI t core 0x11 rd ra imm (opLoad 2 (sx 16) core rd ra imm) s
def execLdhu (t core rd ra imm : Nat) (s : State) : Answer := memI t core 0x12 rd ra imm (opLoad 2 id core rd ra imm) s
def execLdb (t core rd ra imm : Nat) (s : State) : Answer := memI t core 0x13 rd ra imm (opLoad 1 (sx 8) core rd ra imm) s
def execLdbu (t core rd ra imm : Nat) (s : State) : Answer := memI t core 0x14 rd ra imm (opLoad 1 id core rd ra imm) s
def execStw (t core rd ra imm : Nat) (s : State) : Answer := memI t core 0x15 rd ra imm (opStore 4 core rd ra imm) s
def execSth (t core rd ra imm : Nat) (s : State) : Answer := memI t core 0x16 rd ra imm (opStore 2 core rd ra imm) s
def execStb (t core rd ra imm : Nat) (s : State) : Answer := memI t core 0x17 rd ra imm (opStore 1 core rd ra imm) s
def execLdwp (t core rd ra imm : Nat) (s : State) : Answer := memI t core 0x18 rd ra imm (opLdwp core rd ra imm) s
def execStwp (t core rd ra imm : Nat) (s : State) : Answer := memI t core 0x19 rd ra imm (opStwp core rd ra imm) s

/-! ## PUSHM and POPM (R439) -/

/-- Registers of a mask, ascending. -/
def maskRegs (mask : Nat) : List Nat := (List.range 16).filter (fun r => bit mask r)

/-- The mask is one the instructions take. -/
def maskOk (mask : Nat) : Bool := !bit mask 14 && mask % 2 ^ 16 != 0

/-- The range lies in the stack window. -/
def Core.window (k : Core) (lo hi : Int) : Bool :=
  lo % 4 == 0 && decide ((k.stklo : Int) ≤ lo) && decide (hi ≤ (k.stkhi : Int))

def opPushm (c mask : Nat) (s : State) : CoreRes :=
  if !maskOk mask then s.illegal
  else
    let rs := maskRegs mask
    let sp := s.gr c 14
    let base : Int := (sp : Int) - (4 * rs.length : Nat)
    if !(s.core c).window base sp then .exc s exDaddr 1 (ofSigned 32 base)
    else
      let b := base.toNat
      let s := (List.range rs.length).foldl (fun (a : State) i => a.storeWord32 c (b + 4 * i) (s.gr c (rs.getD i 0))) s
      .done (s.setGr c 14 b)

def opPopm (c mask : Nat) (s : State) : CoreRes :=
  if !maskOk mask then s.illegal
  else
    let rs := maskRegs mask
    let sp := s.gr c 14
    if !(s.core c).window sp (sp + (4 * rs.length : Nat)) then .exc s exDaddr 1 sp
    else
      let (bad, s) := s.dataRead c sp (4 * rs.length)
      if bad then .exc s exPoison 1 sp
      else
        let k := s.core c
        let s := (List.range rs.length).foldl (fun (a : State) i => a.setGr c (rs.getD i 0) (k.dataWord (sp + 4 * i))) s
        .done (s.setGr c 14 (sp + 4 * rs.length))

def execPushm (t core mask : Nat) (s : State) : Answer := coreRow t core (encS 0x1A mask) true (opPushm core mask) s
def execPopm (t core mask : Nat) (s : State) : Answer := coreRow t core (encS 0x1B mask) true (opPopm core mask) s

end Sys2Proof.Machine
end

