-- ==== Sys2Proof/Machine/AstAcc.lean ====
section
/-! DEFINITION. Accumulators and the dual fetch (R446–R449). -/

namespace Sys2Proof.Machine

/-- An accumulator takes an exact value modulo 2^72; AV is set when it lies outside the signed range. -/
def State.putAcc (s : State) (c : Nat) (a : Bool) (v : Int) : CoreRes :=
  .done (s.updCore c (fun k =>
    let k := k.setAcc a (ofSigned 72 v)
    if toSigned 72 (ofSigned 72 v) = v then k else k.setFlags [(pbAV, true)]))

/-- An accumulator's value. -/
def State.accVal (s : State) (c : Nat) (a : Bool) : Int := toSigned 72 ((s.core c).acc a)

/-- The product of two words, signed or unsigned. -/
def product (signed : Bool) (x y : Nat) : Int := if signed then toSigned 32 x * toSigned 32 y else ((x * y : Nat) : Int)

/-- What an operation of MACXY or of MACR to MACUR leaves: 0 add, 1 subtract, 2 replace, 3 add unsigned. -/
def State.macOut (s : State) (c : Nat) (a : Bool) (op x y : Nat) : CoreRes :=
  let p := product (op != 3) x y
  if op = 2 then .done (s.updCore c (fun k => k.setAcc a (ofSigned 72 p)))
  else if op = 1 then s.putAcc c a (s.accVal c a - p)
  else s.putAcc c a (s.accVal c a + p)

/-- A pointer after its step of sx(m) words. -/
def stepPtr (v m : Nat) : Nat := ofSigned 32 ((v : Int) + 4 * toSigned 5 m)

/-- A pointer addresses a word of X, or of Y. -/
def inX (a : Nat) : Bool := decide (a < 0x8000)
def inY (a : Nat) : Bool := decide (0x8000 ≤ a) && decide (a ≤ 0xFFFF)

/-- MACXY. -/
def opMacxy (op c : Nat) (acc : Bool) (px py mx my : Nat) (s : State) : CoreRes :=
  let x := s.gr c px
  let y := s.gr c py
  if px % 16 = py % 16 then s.illegal
  else if x % 4 ≠ 0 then .exc s exDaddr 0 x
  else if !inX x then .exc s exDaddr 2 x
  else if y % 4 ≠ 0 then .exc s exDaddr 0 y
  else if !inY y then .exc s exDaddr 2 y
  else
    let (badX, s) := s.dataRead c x 4
    let (badY, s) := s.dataRead c y 4
    if badX then .exc s exPoison 3 x
    else if badY then .exc s exPoison 4 y
    else
      let k := s.core c
      let s := (s.setGr c px (stepPtr x mx)).setGr c py (stepPtr y my)
      s.macOut c acc op (k.dataWord x) (k.dataWord y)

def execMac (t core : Nat) (acc : Bool) (px py mx my : Nat) (s : State) : Answer :=
  coreRow t core (encX acc 0 px py mx my) true (opMacxy 0 core acc px py mx my) s
def execMsu (t core : Nat) (acc : Bool) (px py mx my : Nat) (s : State) : Answer :=
  coreRow t core (encX acc 1 px py mx my) true (opMacxy 1 core acc px py mx my) s
def execMpy (t core : Nat) (acc : Bool) (px py mx my : Nat) (s : State) : Answer :=
  coreRow t core (encX acc 2 px py mx my) true (opMacxy 2 core acc px py mx my) s
def execMacu (t core : Nat) (acc : Bool) (px py mx my : Nat) (s : State) : Answer :=
  coreRow t core (encX acc 3 px py mx my) true (opMacxy 3 core acc px py mx my) s

/-! ## The accumulator group (R448, R449) -/

def opMacr (op c : Nat) (acc : Bool) (ra rb : Nat) (s : State) : CoreRes := s.macOut c acc op (s.gr c ra) (s.gr c rb)

def opAclr (c : Nat) (acc : Bool) (s : State) : CoreRes := .done (s.updCore c (fun k => k.setAcc acc 0))

def opAmov (c : Nat) (acc : Bool) (s : State) : CoreRes := .done (s.updCore c (fun k => k.setAcc acc (k.acc (!acc))))

def opAadd (c : Nat) (acc opt : Bool) (s : State) : CoreRes :=
  s.putAcc c acc (if opt then s.accVal c acc - s.accVal c (!acc) else s.accVal c acc + s.accVal c (!acc))

/-- ASH: a shift to the left sets AV when the bits lost or the new sign differ from the old sign. -/
def opAsh (c : Nat) (acc opt : Bool) (imm6 : Nat) (s : State) : CoreRes :=
  let n := imm6 % 64
  if opt then s.putAcc c acc (s.accVal c acc * (2 ^ n : Nat))
  else .done (s.updCore c (fun k => k.setAcc acc (ofSigned 72 (s.accVal c acc / (2 ^ n : Nat)))))

/-- AEXT (R449). -/
def opAext (c rd : Nat) (acc opt : Bool) (imm6 : Nat) (s : State) : CoreRes :=
  let n := imm6 % 64
  let v := s.accVal c acc + (if opt && n != 0 then ((2 ^ (n - 1) : Nat) : Int) else 0)
  let v := v / (2 ^ n : Nat)
  let r := satSigned 32 v
  let sat := toSigned 32 r != v
  .done (s.updCore c (fun k =>
    (k.setReg rd r).setFlags (nzF r ++ [(pbV, sat)] ++ (if sat then [(pbSAT, true)] else []))))

/-- ARD. -/
def opArd (c rd : Nat) (acc : Bool) (imm6 : Nat) (s : State) : CoreRes :=
  let a := (s.core c).acc acc
  match imm6 % 64 with
  | 0 => s.putReg c rd (a % 2 ^ 32)
  | 1 => s.putReg c rd (a / 2 ^ 32 % 2 ^ 32)
  | 2 => s.putReg c rd (sx 8 (a / 2 ^ 64))
  | _ => s.illegal

/-- AWR. -/
def opAwr (c : Nat) (acc : Bool) (ra imm6 : Nat) (s : State) : CoreRes :=
  let a := (s.core c).acc acc
  let v := s.gr c ra
  let put := fun (x : Nat) => CoreRes.done (s.updCore c (fun k => k.setAcc acc x))
  match imm6 % 64 with
  | 0 => put (a / 2 ^ 32 * 2 ^ 32 + v)
  | 1 => put (a / 2 ^ 64 * 2 ^ 64 + v * 2 ^ 32 + a % 2 ^ 32)
  | 2 => put (v % 2 ^ 8 * 2 ^ 64 + a % 2 ^ 64)
  | _ => s.illegal

/-- A row of the accumulator group. -/
def accRow (t c fn rd ra rb : Nat) (acc opt : Bool) (imm6 : Nat) (op : State → CoreRes) (s : State) : Answer :=
  coreRow t c (encA fn rd ra rb acc opt imm6) true op s

def execMacr (t core : Nat) (acc : Bool) (ra rb : Nat) (s : State) : Answer :=
  accRow t core 0x00 0 ra rb acc false 0 (opMacr 0 core acc ra rb) s
def execMsur (t core : Nat) (acc : Bool) (ra rb : Nat) (s : State) : Answer :=
  accRow t core 0x01 0 ra rb acc false 0 (opMacr 1 core acc ra rb) s
def execMpyr (t core : Nat) (acc : Bool) (ra rb : Nat) (s : State) : Answer :=
  accRow t core 0x02 0 ra rb acc false 0 (opMacr 2 core acc ra rb) s
def execMacur (t core : Nat) (acc : Bool) (ra rb : Nat) (s : State) : Answer :=
  accRow t core 0x03 0 ra rb acc false 0 (opMacr 3 core acc ra rb) s
def execAclr (t core : Nat) (acc : Bool) (s : State) : Answer := accRow t core 0x04 0 0 0 acc false 0 (opAclr core acc) s
def execAmov (t core : Nat) (acc : Bool) (s : State) : Answer := accRow t core 0x05 0 0 0 acc false 0 (opAmov core acc) s
def execAadd (t core : Nat) (acc opt : Bool) (s : State) : Answer := accRow t core 0x06 0 0 0 acc opt 0 (opAadd core acc opt) s
def execAsh (t core : Nat) (acc opt : Bool) (imm6 : Nat) (s : State) : Answer :=
  accRow t core 0x07 0 0 0 acc opt imm6 (opAsh core acc opt imm6) s
def execAext (t core rd : Nat) (acc opt : Bool) (imm6 : Nat) (s : State) : Answer :=
  accRow t core 0x08 rd 0 0 acc opt imm6 (opAext core rd acc opt imm6) s
def execArd (t core rd : Nat) (acc : Bool) (imm6 : Nat) (s : State) : Answer :=
  accRow t core 0x09 rd 0 0 acc false imm6 (opArd core rd acc imm6) s
def execAwr (t core : Nat) (acc : Bool) (ra imm6 : Nat) (s : State) : Answer :=
  accRow t core 0x0A 0 ra 0 acc false imm6 (opAwr core acc ra imm6) s

end Sys2Proof.Machine
end

