-- ==== Sys2Proof/Machine/Counters.lean ====
section
/-! DEFINITION. The counters of each unit: the registers whose names are formed with _CNT_ (R611), and the fields that
CLR_CNT clears, which are theirs and the other fields that a map describes as a count since reset (R685, R688). -/

namespace Sys2Proof.Machine

def cntRegsHel0 : List Reg := [HEL_CNT_MEAS.REG, HEL_CNT_SOLVE.REG, HEL_CNT_PIN.REG, HEL_CNT_TRIP.REG]
def cntFldsHel0 : List Fld := [HEL_MEAS_STAT.POSTPONED, HEL_CNT_MEAS.COUNT, HEL_CNT_SOLVE.COUNT, HEL_CNT_PIN.COUNT, HEL_CNT_TRIP.COUNT]
def cntRegsLfp0 : List Reg := [LFP_CNT_WAKE.REG, LFP_CNT_REPLY.REG, LFP_CNT_CRC.REG, LFP_CNT_DROWN.REG, LFP_CNT_VOID.REG, LFP_CNT_LATE.REG, LFP_CNT_CFAULT.REG, LFP_CNT_DEFER.REG]
def cntFldsLfp0 : List Fld := [LFP_CNT_WAKE.COUNT, LFP_CNT_REPLY.COUNT, LFP_CNT_CRC.COUNT, LFP_CNT_DROWN.COUNT, LFP_CNT_VOID.COUNT, LFP_CNT_LATE.COUNT, LFP_CNT_CFAULT.COUNT, LFP_CNT_DEFER.SKIPPED, LFP_CNT_DEFER.DEFERRED, LFP_SCHED_CNT.REPLIES, LFP_SCHED_CNT.POLLS, LFP_CH_STAT.CFAULT_CNT]
def cntRegsRad0 : List Reg := [RAD_CNT_REFUSE.REG, RAD_CNT_CUT.REG, RAD_CNT_LATE.REG, RAD_CNT_SUPER.REG, RAD_TRX_CNT_TX.REG, RAD_TRX_CNT_REFUSE.REG, RAD_TRX_CNT_CRC.REG]
def cntFldsRad0 : List Fld := [RAD_CNT_REFUSE.COUNT, RAD_CNT_CUT.COUNT, RAD_CNT_LATE.COUNT, RAD_CNT_SUPER.COUNT, RAD_TRX_CNT_TX.COUNT, RAD_TRX_CNT_REFUSE.COUNT, RAD_TRX_CNT_CRC.COUNT]
def cntRegsTrn0 : List Reg := [TRN_CNT_EXCH.REG, TRN_CNT_FAIL.REG, TRN_CNT_STS.REG, TRN_CNT_EDLC.REG, TRN_CNT_CIR.REG, TRN_CNT_CIR_DROP.REG, TRN_CNT_PREARM.REG, TRN_CNT_PREARM_CANCEL.REG, TRN_CNT_SAT.REG, TRN_CNT_MISC.REG, TRN_TRX_CNT_EXCH.REG, TRN_TRX_CNT_FAIL.REG, TRN_TRX_CNT_STS.REG, TRN_TRX_CNT_EDLC.REG, TRN_TRX_CNT_SAT.REG, TRN_TRX_CNT_TIMEOUT.REG, TRN_TRX_CNT_CANCEL.REG, TRN_TRX_CNT_CIR.REG]
def cntFldsTrn0 : List Fld := [TRN_CNT_EXCH.COUNT, TRN_CNT_FAIL.COUNT, TRN_CNT_STS.COUNT, TRN_CNT_EDLC.COUNT, TRN_CNT_CIR.COUNT, TRN_CNT_CIR_DROP.COUNT, TRN_CNT_PREARM.COUNT, TRN_CNT_PREARM_CANCEL.COUNT, TRN_CNT_SAT.COUNT, TRN_CNT_MISC.VOID, TRN_CNT_MISC.LATE, TRN_TRX_CNT_EXCH.COUNT, TRN_TRX_CNT_FAIL.COUNT, TRN_TRX_CNT_STS.COUNT, TRN_TRX_CNT_EDLC.COUNT, TRN_TRX_CNT_SAT.COUNT, TRN_TRX_CNT_TIMEOUT.COUNT, TRN_TRX_CNT_CANCEL.COUNT, TRN_TRX_CNT_CIR.COUNT]
def cntRegsDbx0 : List Reg := [DBX_CNT_OK.REG, DBX_CNT_FAIL.REG, DBX_CNT_BURN.REG, DBX_CNT_MISC.REG, DBX_CNT_BITS.REG]
def cntFldsDbx0 : List Fld := [DBX_CNT_OK.COUNT, DBX_CNT_FAIL.COUNT, DBX_CNT_BURN.COUNT, DBX_CNT_MISC.VOID, DBX_CNT_MISC.RETRY, DBX_CNT_BITS.LATE, DBX_CNT_BITS.EARLY]
def cntRegsAlm0 : List Reg := [ALM_CNT_OK.REG, ALM_CNT_RELAY.REG, ALM_CNT_RESID.REG, ALM_CNT_PRECOND.REG, ALM_CNT_DENIED.REG, ALM_CNT_DROP.REG, ALM_CNT_REMOTE.REG, ALM_CNT_LOCAL.REG, ALM_CNT_CP2.REG]
def cntFldsAlm0 : List Fld := [ALM_CNT_OK.COUNT, ALM_CNT_RELAY.COUNT, ALM_CNT_RESID.COUNT, ALM_CNT_PRECOND.COUNT, ALM_CNT_DENIED.COUNT, ALM_CNT_DROP.COUNT, ALM_CNT_REMOTE.COUNT, ALM_CNT_LOCAL.COUNT, ALM_CNT_CP2.COUNT, ALM_ZONE_CNT.PASSED, ALM_ZONE_CNT.REFUSED]
def cntRegsSes0 : List Reg := [SES_CNT_OPEN.REG, SES_CNT_CLOSED.REG, SES_CNT_ABORTED.REG, SES_CNT_RETURNED.REG, SES_CNT_REFUSE.REG, SES_CNT_STALE.REG, SES_CNT_SCRIPT.REG, SES_CNT_LATE_CANCEL.REG, SES_CNT_CODE.REG]
def cntFldsSes0 : List Fld := [SES_CNT_OPEN.COUNT, SES_CNT_CLOSED.COUNT, SES_CNT_ABORTED.COUNT, SES_CNT_RETURNED.COUNT, SES_CNT_REFUSE.COUNT, SES_CNT_STALE.COUNT, SES_CNT_SCRIPT.COUNT, SES_CNT_LATE_CANCEL.COUNT, SES_STATE_ABORT.COUNT, SES_CNT_CODE.COUNT, SES_PROG_CNT.ABORTED, SES_PROG_CNT.OPENED]
def cntRegsShu0 : List Reg := [SHU_CNT_BTN_RX.REG, SHU_CNT_BTN_DUP.REG, SHU_CNT_BTN_FMT.REG, SHU_CNT_ROLL_OK.REG, SHU_CNT_ROLL_RESYNC.REG, SHU_CNT_ROLL_REPLAY.REG, SHU_CNT_ROLL_BADCHECK.REG, SHU_CNT_ROLL_RANGE.REG, SHU_CNT_FAIL.REG, SHU_CNT_LOCKOUT.REG, SHU_CNT_REL.REG, SHU_CNT_PASS.REG, SHU_CNT_REL_TIMEOUT.REG, SHU_CNT_REL_FAULT.REG, SHU_CNT_PERMIT_TX.REG, SHU_OUT_CNT_REL.REG, SHU_OUT_CNT_PASS.REG, SHU_OUT_CNT_TIMEOUT.REG, SHU_OUT_CNT_FAULT.REG, SHU_CAN_CNT_TX.REG, SHU_CAN_CNT_RX.REG, SHU_CAN_CNT_CRC.REG, SHU_CAN_CNT_FORM.REG, SHU_CAN_CNT_ACK.REG]
def cntRegsShu1 : List Reg := [SHU_CAN_CNT_BUSOFF.REG, SHU_CAN_CNT_BAD_CHECK.REG, SHU_CAN_CNT_DROP.REG]
def cntFldsShu0 : List Fld := [SHU_CNT_BTN_RX.COUNT, SHU_CNT_BTN_DUP.COUNT, SHU_CNT_BTN_FMT.COUNT, SHU_CNT_ROLL_OK.COUNT, SHU_CNT_ROLL_RESYNC.COUNT, SHU_CNT_ROLL_REPLAY.COUNT, SHU_CNT_ROLL_BADCHECK.COUNT, SHU_CNT_ROLL_RANGE.COUNT, SHU_CNT_FAIL.COUNT, SHU_CNT_LOCKOUT.COUNT, SHU_CNT_REL.COUNT, SHU_CNT_PASS.COUNT, SHU_CNT_REL_TIMEOUT.COUNT, SHU_CNT_REL_FAULT.COUNT, SHU_CNT_PERMIT_TX.COUNT, SHU_BTN_CNT.DROPPED, SHU_BTN_CNT.OPENED, SHU_OUT_CNT_REL.COUNT, SHU_OUT_CNT_PASS.COUNT, SHU_OUT_CNT_TIMEOUT.COUNT, SHU_OUT_CNT_FAULT.COUNT, SHU_CAN_CNT_TX.COUNT, SHU_CAN_CNT_RX.COUNT, SHU_CAN_CNT_CRC.COUNT]
def cntFldsShu1 : List Fld := [SHU_CAN_CNT_FORM.COUNT, SHU_CAN_CNT_ACK.COUNT, SHU_CAN_CNT_BUSOFF.COUNT, SHU_CAN_CNT_BAD_CHECK.COUNT, SHU_CAN_CNT_DROP.COUNT]
def cntRegsEph0 : List Reg := [EPH_CNT_LOOKUP.REG, EPH_CNT_FOUND.REG, EPH_CNT_ABSENT.REG, EPH_CNT_WAIT.REG, EPH_CNT_NOT_VERIFIED.REG, EPH_CNT_DENY.REG, EPH_CNT_ENROL.REG, EPH_CNT_REVOKE.REG, EPH_CNT_CHANGE.REG, EPH_CNT_CODE_BAD.REG, EPH_CNT_COMPACT.REG, EPH_CNT_INTEGRITY.REG, EPH_CNT_REFETCH.REG, EPH_CNT_REMOTE.REG]
def cntFldsEph0 : List Fld := [EPH_CNT_LOOKUP.COUNT, EPH_CNT_FOUND.COUNT, EPH_CNT_ABSENT.COUNT, EPH_CNT_WAIT.COUNT, EPH_CNT_NOT_VERIFIED.COUNT, EPH_CNT_DENY.COUNT, EPH_CNT_ENROL.COUNT, EPH_CNT_REVOKE.COUNT, EPH_CNT_CHANGE.COUNT, EPH_CNT_CODE_BAD.COUNT, EPH_CNT_COMPACT.COUNT, EPH_CNT_INTEGRITY.COUNT, EPH_CNT_REFETCH.COUNT, EPH_CNT_REMOTE.COUNT]
def cntRegsDom0 : List Reg := [DOM_CNT_ENV.REG, DOM_CNT_DERIVE.REG]
def cntFldsDom0 : List Fld := [DOM_CNT_ENV.OK, DOM_CNT_ENV.BAD, DOM_CNT_DERIVE.COUNT]
def cntRegsKce0 : List Reg := [KCE_CNT_MSG.REG, KCE_CNT_BLOCK.REG, KCE_CNT_SUSPEND.REG, KCE_CNT_RELOAD.REG, KCE_CNT_ALARM.REG, KCE_CNT_POISON.REG, KCE_CNT_SPENT.REG, KCE_CNT_CANCEL.REG]
def cntFldsKce0 : List Fld := [KCE_CNT_MSG.COUNT, KCE_CNT_BLOCK.COUNT, KCE_CNT_SUSPEND.COUNT, KCE_CNT_RELOAD.COUNT, KCE_CNT_ALARM.COUNT, KCE_CNT_POISON.COUNT, KCE_CNT_SPENT.COUNT, KCE_CNT_CANCEL.COUNT, KCE_LVL_STAT.AGED, KCE_LANE_STAT.DONE]
def cntRegsRng0 : List Reg := [RNG_CNT_RCT.REG, RNG_CNT_APT.REG, RNG_CNT_BLOCKS.REG, RNG_CNT_RESEED.REG, RNG_CNT_STARVE.REG, RNG_CNT_UNDERRUN.REG]
def cntFldsRng0 : List Fld := [RNG_CNT_RCT.COUNT, RNG_CNT_APT.COUNT, RNG_CNT_BLOCKS.COUNT, RNG_CNT_RESEED.COUNT, RNG_CNT_STARVE.COUNT, RNG_CNT_UNDERRUN.COUNT, RNG_INST_CNT.SERVED]
def cntRegsAst0 : List Reg := [AST_CNT_STEP.REG, AST_CNT_DONE.REG, AST_CNT_AGAIN.REG, AST_CNT_FAULT.REG, AST_CNT_STOP.REG, AST_CNT_RETIRE.REG, AST_CNT_CP0.REG, AST_CNT_CP1.REG, AST_CNT_CP2.REG, AST_CNT_CP3.REG, AST_CNT_CP_BUSY.REG, AST_CNT_CP_CANCEL.REG, AST_CNT_SESCALL.REG, AST_CNT_ENV.REG, AST_CNT_KEYGEN.REG, AST_CNT_REGVIOL.REG, AST_CNT_MBOX.REG, AST_CORE_CNT_STEP.REG, AST_CORE_CNT_FAULT.REG, AST_CORE_CNT_STOP.REG, AST_CORE_CNT_CP.REG]
def cntFldsAst0 : List Fld := [AST_CNT_STEP.COUNT, AST_CNT_DONE.COUNT, AST_CNT_AGAIN.COUNT, AST_CNT_FAULT.COUNT, AST_CNT_STOP.COUNT, AST_CNT_RETIRE.COUNT, AST_CNT_CP0.COUNT, AST_CNT_CP1.COUNT, AST_CNT_CP2.COUNT, AST_CNT_CP3.COUNT, AST_CNT_CP_BUSY.COUNT, AST_CNT_CP_CANCEL.COUNT, AST_CNT_SESCALL.COUNT, AST_CNT_ENV.COUNT, AST_CNT_KEYGEN.COUNT, AST_CNT_REGVIOL.COUNT, AST_CNT_MBOX.COUNT, AST_CORE_CNT_STEP.COUNT, AST_CORE_CNT_FAULT.COUNT, AST_CORE_CNT_STOP.COUNT, AST_CORE_CNT_CP.COUNT, AST_CORE_REGVIOL.COUNT]
def cntRegsMem0 : List Reg := [MEM_CNT_PASS_DRAM.REG, MEM_CNT_PASS_SRAM.REG, MEM_CNT_CE_DRAM.REG, MEM_CNT_CE_SRAM.REG, MEM_CNT_UE_DRAM.REG, MEM_CNT_UE_SRAM.REG, MEM_CNT_POISON_USE.REG, MEM_CNT_MERGE_RMW.REG, MEM_CNT_REMAP.REG, MEM_CNT_FLIP.REG, MEM_CNT_HARD.REG, MEM_CNT_BUCKET_OVF.REG]
def cntFldsMem0 : List Fld := [MEM_CNT_PASS_DRAM.COUNT, MEM_CNT_PASS_SRAM.COUNT, MEM_CNT_CE_DRAM.COUNT, MEM_CNT_CE_SRAM.COUNT, MEM_CNT_UE_DRAM.COUNT, MEM_CNT_UE_SRAM.COUNT, MEM_CNT_POISON_USE.COUNT, MEM_CNT_MERGE_RMW.COUNT, MEM_CNT_REMAP.COUNT, MEM_LOG_STAT.OVERWRITTEN, MEM_BUCKET.OVF_CNT, MEM_CNT_FLIP.COUNT, MEM_CNT_HARD.COUNT, MEM_CNT_BUCKET_OVF.COUNT, MEM_ARR_STAT.CE, MEM_ARR_STAT.UE, MEM_DRAM_REG.CE, MEM_DRAM_REG.UE]
def cntRegsPlt0 : List Reg := [PLT_CNT_WRITE.REG, PLT_CNT_PAGE.REG, PLT_CNT_CE.REG, PLT_CNT_UE.REG, PLT_CNT_REFRESH.REG, PLT_CNT_ARC.REG, PLT_CNT_VHOLD_WAIT.REG, PLT_CNT_BUSY.REG, PLT_CNT_DENIED.REG]
def cntFldsPlt0 : List Fld := [PLT_CNT_WRITE.COUNT, PLT_CNT_PAGE.COUNT, PLT_CNT_CE.COUNT, PLT_CNT_UE.COUNT, PLT_CNT_REFRESH.COUNT, PLT_CNT_ARC.COUNT, PLT_CNT_VHOLD_WAIT.COUNT, PLT_CNT_BUSY.COUNT, PLT_CNT_DENIED.COUNT, PLT_REGION_STAT.CE, PLT_REGION_STAT.UE]
def cntRegsBoot0 : List Reg := [BOOT_CNT_LOAD.REG, BOOT_CNT_FALLBACK.REG, BOOT_CNT_FL_READ.REG, BOOT_CNT_FL_PROG.REG, BOOT_CNT_FL_ERASE.REG, BOOT_CNT_SWITCH.REG, BOOT_CNT_REC_BAD.REG, BOOT_CNT_RECOPY.REG]
def cntFldsBoot0 : List Fld := [BOOT_CAL_ADDR.CLAMP_CNT, BOOT_CNT_LOAD.COUNT, BOOT_CNT_FALLBACK.COUNT, BOOT_CNT_FL_READ.COUNT, BOOT_CNT_FL_PROG.COUNT, BOOT_CNT_FL_ERASE.COUNT, BOOT_CNT_SWITCH.COUNT, BOOT_CNT_REC_BAD.COUNT, BOOT_CNT_RECOPY.COUNT]
def cntRegsPwr0 : List Reg := [PWR_CNT_WAKE.REG, PWR_CNT_AVS_REQ.REG, PWR_CNT_AVS_SUPER.REG, PWR_CNT_AVS_FAIL.REG, PWR_CNT_REVERSE.REG, PWR_DOM_CNT_UP.REG, PWR_DOM_CNT_REV.REG]
def cntFldsPwr0 : List Fld := [PWR_CNT_WAKE.COUNT, PWR_CNT_AVS_REQ.COUNT, PWR_CNT_AVS_SUPER.COUNT, PWR_CNT_AVS_FAIL.COUNT, PWR_CNT_REVERSE.COUNT, PWR_DOM_RES_RUN.COUNT, PWR_DOM_RES_DOZE.COUNT, PWR_DOM_RES_OFF.COUNT, PWR_DOM_CNT_UP.COUNT, PWR_DOM_CNT_REV.COUNT, PWR_WAKE_CFG.COUNT]
def cntRegsHif0 : List Reg := [HIF_CNT_LINK_ERR.REG, HIF_CNT_EVT.REG, HIF_CNT_EVT_LOST.REG, HIF_CNT_SLOT_TX.REG, HIF_CNT_WIN_VIOL.REG, HIF_CNT_POISON.REG, HIF_CNT_MSI.REG, HIF_CNT_LINK_DOWN.REG, HIF_CNT_FLR.REG, HIF_CNT_CLASS.REG]
def cntFldsHif0 : List Fld := [HIF_CNT_LINK_ERR.CE, HIF_CNT_LINK_ERR.UE, HIF_CNT_EVT.COUNT, HIF_CNT_EVT_LOST.COUNT, HIF_CNT_SLOT_TX.COUNT, HIF_CNT_WIN_VIOL.COUNT, HIF_CNT_POISON.COUNT, HIF_CNT_MSI.COUNT, HIF_CNT_LINK_DOWN.COUNT, HIF_CNT_FLR.COUNT, HIF_VIEW_VIOL.COUNT, HIF_VEC_CNT.SENT, HIF_CNT_CLASS.COUNT]
def cntRegsBln0 : List Reg := [BLN_CNT_REQ_TX.REG, BLN_CNT_REQ_RX.REG, BLN_CNT_RPLY_TX.REG, BLN_CNT_RPLY_RX.REG, BLN_CNT_FWD.REG, BLN_CNT_UNREACH.REG, BLN_CNT_INFLIGHT.REG, BLN_CNT_LATE_RPLY.REG, BLN_CNT_JOIN.REG, BLN_CNT_LEAVE.REG, BLN_CNT_ORPHAN.REG, BLN_CNT_REFUSED.REG, BLN_CNT_MAP.REG, BLN_CNT_ENV_FWD.REG, BLN_CNT_RACC.REG, BLN_PORT_CNT_TX.REG, BLN_PORT_CNT_RX.REG, BLN_PORT_CNT_TIME.REG, BLN_PORT_CNT_TIME_BAD.REG, BLN_PORT_CNT_TRAIN.REG, BLN_PORT_CNT_DOWN.REG, BLN_PORT_CNT_LOS.REG, BLN_PORT_CNT_FEC_DOWN.REG, BLN_PORT_CNT_IDLE_DOWN.REG]
def cntRegsBln1 : List Reg := [BLN_PORT_CNT_REFUSE.REG, BLN_PORT_CNT_AUTH.REG, BLN_PORT_CNT_HALF.REG, BLN_PORT_CNT_NARROW.REG, BLN_PORT_CNT_FWD.REG, BLN_PORT_CNT_POISON.REG, BLN_PORT_CNT_QFULL.REG]
def cntFldsBln0 : List Fld := [BLN_CNT_REQ_TX.COUNT, BLN_CNT_REQ_RX.COUNT, BLN_CNT_RPLY_TX.COUNT, BLN_CNT_RPLY_RX.COUNT, BLN_CNT_FWD.COUNT, BLN_CNT_UNREACH.COUNT, BLN_CNT_INFLIGHT.COUNT, BLN_CNT_LATE_RPLY.COUNT, BLN_CNT_JOIN.COUNT, BLN_CNT_LEAVE.COUNT, BLN_CNT_ORPHAN.COUNT, BLN_CNT_REFUSED.COUNT, BLN_CNT_MAP.COUNT, BLN_CNT_ENV_FWD.COUNT, BLN_CNT_RACC.COUNT, BLN_PORT_FEC_CE.COUNT, BLN_PORT_FEC_UE.COUNT, BLN_PORT_CNT_TX.COUNT, BLN_PORT_CNT_RX.COUNT, BLN_PORT_CNT_TIME.COUNT, BLN_PORT_CNT_TIME_BAD.COUNT, BLN_PORT_CNT_TRAIN.COUNT, BLN_PORT_CNT_DOWN.COUNT, BLN_PORT_CNT_LOS.COUNT]
def cntFldsBln1 : List Fld := [BLN_PORT_CNT_FEC_DOWN.COUNT, BLN_PORT_CNT_IDLE_DOWN.COUNT, BLN_PORT_CNT_REFUSE.COUNT, BLN_PORT_CNT_AUTH.COUNT, BLN_PORT_CNT_HALF.COUNT, BLN_PORT_CNT_NARROW.COUNT, BLN_PORT_CNT_FWD.COUNT, BLN_PORT_CNT_POISON.COUNT, BLN_PORT_CNT_QFULL.COUNT, BLN_MEM_LAST.JOINS]
def cntRegsMgt0 : List Reg := [MGT_CNT_RD.REG, MGT_CNT_WR.REG, MGT_CNT_PEC_ERR.REG, MGT_CNT_IBI.REG, MGT_CNT_ATTACH.REG, MGT_CNT_DEPART.REG, MGT_CNT_REFUSE.REG, MGT_CNT_DUP.REG]
def cntFldsMgt0 : List Fld := [MGT_CNT_RD.COUNT, MGT_CNT_WR.COUNT, MGT_CNT_PEC_ERR.COUNT, MGT_CNT_IBI.COUNT, MGT_CNT_ATTACH.COUNT, MGT_CNT_DEPART.COUNT, MGT_CNT_REFUSE.COUNT, MGT_CNT_DUP.COUNT]
def cntRegsEye0 : List Reg := [EYE_CNT_LINE.REG, EYE_CNT_REFUSE.REG, EYE_CNT_ERR.REG, EYE_CNT_ENV.REG, EYE_CNT_WRITE.REG, EYE_CNT_DEBUG.REG]
def cntFldsEye0 : List Fld := [EYE_CNT_LINE.COUNT, EYE_CNT_REFUSE.COUNT, EYE_CNT_ERR.COUNT, EYE_CNT_ENV.COUNT, EYE_CNT_WRITE.COUNT, EYE_CNT_DEBUG.COUNT]
def cntRegsPin0 : List Reg := [PIN_CNT_RAIL_FAULT.REG, PIN_CNT_RESET_PIN.REG, PIN_CNT_XTAL.REG, PIN_CNT_PAD_FAULT.REG]
def cntFldsPin0 : List Fld := [PIN_CNT_RAIL_FAULT.COUNT, PIN_CNT_RESET_PIN.COUNT, PIN_LF_STAT.CLIP_CNT, PIN_LF_STAT.LEG_BLOCK, PIN_CNT_XTAL.COUNT, PIN_CNT_PAD_FAULT.COUNT]

/-- The registers of a unit whose names are formed with _CNT_. -/
def cntRegs : Nat → List Reg
  | 0x02 => cntRegsHel0
  | 0x03 => cntRegsLfp0
  | 0x04 => cntRegsRad0
  | 0x05 => cntRegsTrn0
  | 0x06 => cntRegsDbx0
  | 0x07 => cntRegsAlm0
  | 0x08 => cntRegsSes0
  | 0x09 => cntRegsShu0 ++ cntRegsShu1
  | 0x0A => cntRegsEph0
  | 0x0B => cntRegsDom0
  | 0x0C => cntRegsKce0
  | 0x0D => cntRegsRng0
  | 0x0E => cntRegsAst0
  | 0x0F => cntRegsMem0
  | 0x10 => cntRegsPlt0
  | 0x11 => cntRegsBoot0
  | 0x12 => cntRegsPwr0
  | 0x13 => cntRegsHif0
  | 0x14 => cntRegsBln0 ++ cntRegsBln1
  | 0x15 => cntRegsMgt0
  | 0x16 => cntRegsEye0
  | 0x17 => cntRegsPin0
  | _ => []

/-- The counters of a unit. -/
def cntFlds : Nat → List Fld
  | 0x02 => cntFldsHel0
  | 0x03 => cntFldsLfp0
  | 0x04 => cntFldsRad0
  | 0x05 => cntFldsTrn0
  | 0x06 => cntFldsDbx0
  | 0x07 => cntFldsAlm0
  | 0x08 => cntFldsSes0
  | 0x09 => cntFldsShu0 ++ cntFldsShu1
  | 0x0A => cntFldsEph0
  | 0x0B => cntFldsDom0
  | 0x0C => cntFldsKce0
  | 0x0D => cntFldsRng0
  | 0x0E => cntFldsAst0
  | 0x0F => cntFldsMem0
  | 0x10 => cntFldsPlt0
  | 0x11 => cntFldsBoot0
  | 0x12 => cntFldsPwr0
  | 0x13 => cntFldsHif0
  | 0x14 => cntFldsBln0 ++ cntFldsBln1
  | 0x15 => cntFldsMgt0
  | 0x16 => cntFldsEye0
  | 0x17 => cntFldsPin0
  | _ => []

end Sys2Proof.Machine
end

