-- ==== Sys2Proof/Machine/Hif.lean ====
section
/-! DEFINITION. HIF: window slots, events and rings, snapshots, interrupt vectors, and the resets of the host side
(R593–R620). -/

namespace Sys2Proof.Machine

/-- HIF records an event (R687). -/
def State.hifEvent (s : State) (kind slot : Nat) : State :=
  s.unitEvent 0x13 0 HIF_EVT_CODE.REG HIF_EVT_STAMP_LO.STAMP HIF_EVT_STAMP_HI.STAMP (kind * 2 ^ 28 + slot % 2 ^ 14)

/-! ## Rings (R605) -/

/-- A next-slot pointer that its ring no longer holds starts at BASE. -/
def ringAt (r : Nat × Nat) (n : Nat) : Nat := if r.1 ≤ n ∧ n < r.1 + r.2 then n else r.1

/-- After a write of a ring register: pointers stand in their rings, RING_CONFLICT says whether two overlap, and HIF
takes a slot when it holds none. -/
def State.ringsChanged (s : State) : State :=
  let s := if s.hif.evSlot.isSome then s else s.wr HIF_EVT_STAT.NEXT (ringAt s.evRing (s.rd HIF_EVT_STAT.NEXT))
  let s := { s with hif := { s.hif with statNext := ringAt s.statRing s.hif.statNext } }
  let was := s.on HIF_STAT.RING_CONFLICT
  let now' := s.ringConflict
  let s := s.flag HIF_STAT.RING_CONFLICT now'
  let s := if now' && !was then (s.irq HIF_IRQ_STAT.RING_CONFLICT).hifEvent 7 0 else s
  State.holdSlot 9 s

/-! ## Flag commands (R600–R602) -/

def opClaim : Nat := 0
def opGive : Nat := 1
def opReturn : Nat := 2

/-- The flag a host command moves a slot from, and to. -/
def flagMove (op : Nat) : Nat × Nat :=
  if op = opClaim then (slotNobody, slotHost) else if op = opGive then (slotHost, slotDevice) else (slotHost, slotNobody)

def State.flagResult (s : State) (code slot : Nat) : State :=
  (s.wr HIF_FLAG_RESULT.CODE code).wr HIF_FLAG_RESULT.SLOT slot

/-- Apply a command to n slots from one on, until it stops. -/
def flagWalk (op : Nat) : Nat → Nat → State → State
  | 0, slot, s => s.flagResult ccOk (slot - 1)
  | n + 1, slot, s =>
    if 16383 < slot then s.flagResult ccPrecondition 16383
    else if op ≠ opReturn ∧ s.inRing slot then s.flagResult ccDenied slot
    else if s.slotFlag slot ≠ (flagMove op).1 then s.flagResult ccBusy slot
    else flagWalk op n (slot + 1) (s.setFlag slot (flagMove op).2)

/-- A write of HIF_FLAG_CMD: n slots from a slot on. A slot that is returned may be one that HIF waits for. -/
def State.flagCommand (s : State) (op slot n : Nat) : State :=
  if op > opReturn ∨ n = 0 then s
  else
    let s := flagWalk op (min n 16384) (slot % 16384) s
    if op = opReturn then State.holdSlot 9 s else s

def execClaim (t slot n : Nat) (s : State) : Answer := happen t s (fun s => s.flagCommand opClaim slot n)
def execGive (t slot n : Nat) (s : State) : Answer := happen t s (fun s => s.flagCommand opGive slot n)
def execReturn (t slot n : Nat) (s : State) : Answer := happen t s (fun s => s.flagCommand opReturn slot n)

/-! ## Window writes (R598, R603) -/

/-- Codewords of the DRAM that n bytes from an address cover are poisoned. -/
def State.poisonBytes (s : State) (addr n : Nat) : State :=
  if n = 0 then s
  else (List.range ((addr + n - 1) / 16 - addr / 16 + 1)).foldl
    (fun (a : State) k => (a.memFull arrDram (addr / 16 + k)).setCell arrDram (addr / 16 + k) (some .poison)) s

/-- The DRAM address of a BAR2 offset (R599). -/
def windowAddr (off : Nat) : Nat := 0x0C000000 + off

/-- A host write that lies in one slot. -/
def State.slotWrite (s : State) (off : Nat) (data : List Byte) (poison : Bool) : State :=
  let slot := off / 4096
  if s.slotFlag slot ≠ slotHost then
    let s := ((s.bump HIF_CNT_WIN_VIOL.COUNT).wr HIF_WIN_LAST_VIOL.OFFSET off).irq HIF_IRQ_STAT.WIN_VIOL
    s.hifEvent 5 slot
  else
    let s := s.fillSlot slot (splice (s.slotData slot) (off % 4096) data)
    if poison then s.poisonBytes (windowAddr off) data.length else s.memWriteBytes arrDram (windowAddr off) data.length

/-- A host write of the window, slot by slot. -/
def windowWrite (poison : Bool) : Nat → Nat → List Byte → State → State
  | 0, _, _, s => s
  | k + 1, off, data, s =>
    if data.isEmpty ∨ 0x4000000 ≤ off then s
    else
      let room := 4096 - off % 4096
      windowWrite poison k (off + room) (data.drop room) (s.slotWrite off (data.take room) poison)

def execBar2Write (t off : Nat) (data : List (BitVec 8)) (poison : Bool) (s : State) : Answer := happen t s (fun s =>
  let s := { s with hif := { s.hif with barOn := true } }
  windowWrite poison (data.length / 4096 + 2) off data s)

/-! ## Events (R609) -/

/-- Hand over the event slot while it holds an event, and take the next. -/
def State.flushEvents (s : State) : State := if s.hif.evBuf.isEmpty then s else State.holdSlot 9 s.handEvents

def execFlushTimeout (t : Nat) (s : State) : Answer := happen t s (fun s =>
  if s.now < s.hif.evFirst + usT (10 * orOne (s.rd HIF_EVT_CFG.FLUSH_US)) then s else s.flushEvents)

def execEvtFlush (t : Nat) (s : State) : Answer := happen t s State.flushEvents

/-! ## Statistics (R611) -/

/-- Instances of a register: offset and word. A unit whose domain is off reads 0. -/
def State.regWords (s : State) (r : Reg) : List (Nat × Nat) :=
  let off := s.rep (r.off / 65536) == stOff
  (List.range r.n1).flatMap (fun i => (List.range r.n2).map (fun j =>
    (r.off + r.s1 * i + r.s2 * j, if off then 0 else s.word r i j)))

/-- The counters of the units of a mask, in ascending offset. -/
def State.snapWords (s : State) (mask : Nat) : SMap Nat :=
  ((bitList mask 24).flatMap cntRegs).foldl (fun m r => (s.regWords r).foldl (fun m p => SMap.put m p.1 p.2) m) []

/-- The n slots that follow a slot of a ring. -/
def ringRun (r : Nat × Nat) : Nat → Nat → List Nat
  | 0, _ => []
  | n + 1, k => k :: ringRun r n (ringNext r k)

/-- One slot of a snapshot. -/
def State.snapSlot (s : State) (part parts snap start : Nat) (ws : List (Nat × Nat)) : List Byte :=
  crcSlot (bytesOf [0x53, 1] ++ leBytes 2 ws.length ++ leBytes 1 part ++ leBytes 1 parts ++ leBytes 2 0 ++
      leBytes 4 snap ++ leBytes 4 0 ++ leBytes 8 s.devid ++ leBytes 8 start)
    (ws.flatMap (fun p => leBytes 4 p.1 ++ leBytes 4 p.2))

/-- Fill the slots of a snapshot in order. -/
def snapFill (snap start parts : Nat) (ws : List (Nat × Nat)) : List Nat → Nat → State → State
  | [], _, s => s
  | n :: r, part, s =>
    let s := s.setFlag n slotDevice
    let s := s.fillSlot n (s.snapSlot part parts snap start ((ws.drop (504 * part)).take 504))
    snapFill snap start parts ws r (part + 1) (s.handSlot n)

/-- Take a snapshot. -/
def State.snapshot (s : State) : State :=
  let ws := s.snapWords (s.rd HIF_STATS_MASK.UNITS)
  let parts := (ws.length + 503) / 504
  let r := s.statRing
  let snap := s.hif.snap
  let slots := ringRun r parts s.hif.statNext
  let s := { s with hif := { s.hif with snap := (snap + 1) % 2 ^ 32, snapLast := s.now } }
  if r.2 < parts ∨ slots.any (fun n => s.slotFlag n == slotHost) then
    (s.irq HIF_IRQ_STAT.SNAP_SKIP).hifEvent 8 s.hif.statNext
  else
    let s := { s with hif := { s.hif with statNext := parts.repeat (ringNext r) s.hif.statNext } }
    snapFill snap s.now parts ws slots 0 s

def execStatsSnapshot (t : Nat) (s : State) : Answer := happen t s (fun s =>
  let p := s.rd HIF_STATS_CFG.PERIOD_S
  if p = 0 ∨ s.now < s.hif.snapLast + secT p then s else s.snapshot)

def execStatsGo (t : Nat) (s : State) : Answer := happen t s State.snapshot

/-! ## Interrupt vectors (R616, R617) -/

/-- The vector of a source: a unit number, or 24 for the event source. -/
def State.vecOf (s : State) (src : Nat) : Nat :=
  if src < 24 then bits (s.rd HIF_VEC_MAP.VEC (src / 8)) (4 * (src % 8) + 3) (4 * (src % 8))
  else s.rd HIF_SRC_VEC.EVT_VEC

/-- The sources pending on a vector. -/
def State.vecPend (s : State) (v : Nat) : SMap Nat := s.hif.pend.filter (fun p => s.vecOf p.1 == v)

/-- A vector falls due: HOLDOFF_US after its first source, and GAP_US after it was last sent. -/
def State.vecDue (s : State) (v : Nat) : Bool :=
  match (s.vecPend v).map (·.2) with
  | [] => false
  | a :: r =>
    decide (r.foldl min a + usT (s.rd HIF_VEC_CFG.HOLDOFF_US v) ≤ s.now) &&
      (match SMap.find s.hif.vecLast v with
       | some l => decide (l + usT (s.rd HIF_VEC_CFG.GAP_US v) ≤ s.now)
       | none => true)

/-- Send a vector's message: it carries every source pending on it. -/
def State.vecSend (s : State) (v : Nat) : State :=
  let msg := if s.hif.msixOn ∨ s.hif.msiVecs = 0 then v else v % s.hif.msiVecs
  let s := { s with hif := { s.hif with
    pend := s.hif.pend.filter (fun p => s.vecOf p.1 != v)
    vecLast := SMap.put s.hif.vecLast v s.now
    sent := msg :: s.hif.sent.take 15 } }
  (s.bump HIF_VEC_CNT.SENT v).bump HIF_CNT_MSI.COUNT

/-- What the host has set for vector v: MSI-X or a number of MSI vectors, the mask, the device's power state. -/
def State.vecHost (s : State) (v granted : Nat) (masked d3hot : Bool) : State :=
  let h := s.hif
  let s := { s with hif := { h with
    msixOn := granted = 0
    msiVecs := min 16 granted
    masked := if masked then (if h.masked.contains v then h.masked else v :: h.masked) else h.masked.erase v } }
  s.wr HIF_STAT.DSTATE (if d3hot then 3 else 0)

def execVectorSend (t v granted : Nat) (masked d3hot : Bool) (s : State) : Answer := happen t s (fun s =>
  let v := v % 16
  let s := s.vecHost v granted masked d3hot
  if d3hot ∨ !s.vecDue v ∨ s.hif.held.contains v then s
  else if masked then
    ({ s with hif := { s.hif with held := v :: s.hif.held } }).bump HIF_VEC_CNT.PBA v
  else s.vecSend v)

def execMsiUnmask (t v : Nat) (s : State) : Answer := happen t s (fun s =>
  let v := v % 16
  let was := s.hif.held.contains v
  let s := { s with hif := { s.hif with masked := s.hif.masked.erase v, held := s.hif.held.erase v } }
  if was && !(s.vecPend v).isEmpty && s.rd HIF_STAT.DSTATE == 0 then s.vecSend v else s)

/-! ## Resets of the host side (R618–R620) -/

/-- The effects of R618. -/
def State.hostSide (s : State) : State :=
  let s := { s with hif := { s.hif with
    flags := s.hif.flags.filter (fun p => p.2 != slotHost)
    pend := [], held := [], masked := [], barOn := false, msixOn := false, msiVecs := 0 } }
  let s := ((s.endView 0).wr HIF_STAT.DSTATE 0).irq HIF_IRQ_STAT.HOST_RESET
  State.holdSlot 9 s

def execHostReset (t : Nat) (hot : Bool) (s : State) : Answer := happen t s (fun s =>
  let s := s.hostSide.bump HIF_CNT_FLR.COUNT
  let kind := if hot then 4 else 3
  (s.hifEvent kind 0).archiveEvent 0x13 0 (kind * 2 ^ 28))

/-- LINK_DOWN_TIMEOUT: the loss was counted when it came. -/
def execLinkDownTimeout (t : Nat) (s : State) : Answer := happen t s (fun s =>
  match s.hif.downSince with
  | none => s
  | some d =>
    if s.hif.downDone ∨ s.now < d + msT 100 then s
    else
      let s := { s with hif := { s.hif with downDone := true } }
      (s.hostSide.hifEvent 1 0).archiveEvent 0x13 0 (2 ^ 28))

/-- The link goes down. -/
def State.linkDown (s : State) : State :=
  if !s.on HIF_STAT.LINK_UP then s
  else
    let s := (((s.wr HIF_STAT.LINK_UP 0).wr HIF_STAT.FLIT 0).wr HIF_STAT.LINK_SLOW 0).wr HIF_STAT.RATE 0
    let s := (s.wr HIF_STAT.WIDTH 0).bump HIF_CNT_LINK_DOWN.COUNT
    let s := { s with hif := { s.hif with downSince := some s.now, downDone := false } }
    (s.hifEvent 1 0).archiveEvent 0x13 0 (2 ^ 28)

def execPcieLinkDown (t : Nat) (s : State) : Answer := happen t s State.linkDown

/-- The link to the host came up. -/
def State.linkCome (s : State) (rate width : Nat) (flit : Bool) : State :=
  let cap := s.rd HIF_LINK_CFG.MAX_WIDTH
  let rate := min (min rate 5) (s.rd HIF_LINK_CFG.MAX_RATE)
  let width := if 4 ≤ width ∧ 4 ≤ cap then 4 else if 2 ≤ width ∧ 2 ≤ cap then 2 else 1
  let s := ((s.wr HIF_STAT.LINK_UP 1).wr HIF_STAT.RATE rate).wr HIF_STAT.WIDTH width
  let s := (s.flag HIF_STAT.LINK_SLOW (rate < 3)).flag HIF_STAT.FLIT (rate = 5 || (flit && 3 ≤ rate))
  let s := { s with hif := { s.hif with downSince := none, downDone := false } }
  (s.hifEvent 2 0).archiveEvent 0x13 0 (2 * 2 ^ 28)

/-- PCIE_LINK_UP: the link trains at the rate and width that both sides take, within HIF_LINK_CFG. -/
def execPcieLinkUp (t rate width : Nat) (flit : Bool) (s : State) : Answer := happen t s (fun s =>
  if s.on HIF_STAT.LINK_UP ∨ s.rep 0x13 = stOff then s
  else s.linkCome rate width flit)

/-- What a unit reset of HIF does beside its registers (R619). -/
def State.hifUnitReset (s : State) : State :=
  let lost := s.hif.evQueue.length + s.hif.evBuf.length
  let s := { s with hif := { s.hif with evQueue := [], evBuf := [], evSlot := none, evLost := s.hif.evLost + lost
                                        statNext := s.statRing.1 } }
  State.holdSlot 9 ((s.add HIF_CNT_EVT_LOST.COUNT lost).wr HIF_EVT_STAT.NEXT s.evRing.1)

end Sys2Proof.Machine
end

