-- ==== Sys2Proof/Machine/Mer.lean ====
section
/-! DEFINITION. MER: the counter and its era, civil time, trims, authority sets, and the discipline states (R44–R71,
R690). -/

namespace Sys2Proof.Machine

/-- QUALITY of MER_STAT. -/
def qRef : Nat := 0
def qLocked : Nat := 1
def qAcquiring : Nat := 2
def qHoldover : Nat := 3

/-! ## Checkpoints and the era (R45, R57, R690) -/

/-- Write a civil checkpoint of a civil time, leap and CIVIL_STALE, in rotation. -/
def State.ckpt (s : State) (tag : PltTag) (civil leap : Nat) (stale : Bool) : State :=
  let n := (s.mer.ckptSeq + 1) % 2 ^ 32
  let a := 0xA40100 + 16 * (n % 16)
  let w1 := n + leap % 256 * 2 ^ 32 + stale.toNat * 2 ^ 40 + 0xC7 * 2 ^ 56
  let s := { s with mer := { s.mer with ckptSeq := n, lastCkpt := civil } }
  s.pltWrite laneShadow tag [(a, civil % 2 ^ 64), (a + 8, w1)]

/-- A checkpoint of the present civil time. -/
def State.ckptNow (s : State) : State := s.ckpt .ckpt s.civilNs s.mer.leap (s.on MER_STAT.CIVIL_STALE)

/-- Persist the era, in the two copies alternately. -/
def State.persistEra (s : State) : State :=
  let n := (s.mer.eraSeq + 1) % 2 ^ 32
  let s := { s with mer := { s.mer with eraSeq := n } }
  s.pltWrite laneShadow .era [(0xA40000 + 8 * (n % 2), s.mer.era + n * 2 ^ 8 + 0xE1 * 2 ^ 56)]

/-- R45, R55: the count wraps; the era advances and civil time stays continuous. -/
def State.wrapCount (s : State) : State :=
  let total := 2 ^ 64 * 625 + s.mer.rem
  let m := s.mer
  let s := { s with mer := { m with count := 0, era := (m.era + 1) % 256, offset := m.offset + (total / 39936 : Nat),
                                    rem := total % 39936, slewFrom := 0 } }
  s.persistEra.ckptNow

def execMeridianWrap (s : State) : Answer := s.answer s.wrapCount

/-- R53: a 1 s window of the always-on clock, measured in S0. -/
def execAonRatioWindow (t ratio : Nat) (s : State) : Answer := happen t s (fun s =>
  if s.rd PWR_STAT.STATE = 0 then s.wr MER_AON_RATIO.RATIO (min ratio (2 ^ 32 - 1)) else s)

/-- CKPT in units of 10 s: 0 acts as 1, above 60 as 60. -/
def State.ckptPeriodNs (s : State) : Nat := clampTo 1 60 (s.rd MER_SYNC_CFG.CKPT) * 10000000000

/-- R57: a checkpoint at every CKPT period of civil time. -/
def execCivilCheckpoint (t : Nat) (s : State) : Answer := happen t s (fun s =>
  if s.civilNs ≥ s.mer.lastCkpt + s.ckptPeriodNs ∨ s.civilNs < s.mer.lastCkpt then s.ckptNow else s)

/-! ## Operator trims (R59–R62) -/

/-- The accepted trims that count toward the present 24 h: those not older than a day, and those later than the present
(R61). -/
def State.trimsIn (s : State) : List Trim :=
  let sec := s.civilNs / 1000000000
  s.mer.trims.filter (fun x => decide (sec < x.sec + 86400))

/-- Sum of their magnitudes in µs. -/
def State.trimSum (s : State) : Nat := s.trimsIn.foldl (fun a x => a + x.us.natAbs) 0

/-- Why a trim is refused, in the order of R60. -/
def State.trimCode (s : State) (us : Int) : Nat :=
  if s.rd MER_STAT.QUALITY ≠ qRef then ccDenied
  else if us.natAbs > 2000000 ∨ s.trimSum + us.natAbs > 2000000 then ccRegLimit
  else if s.trimsIn.length ≥ 16 then ccCapacity
  else ccOk

/-- MER_TIME_STAT, MER_TRIM_BUDGET and MER_TRIM_PENDING from the trims. -/
def State.trimStat (s : State) : State :=
  let s := s.wr MER_TIME_STAT.ENTRIES s.trimsIn.length
  let s := s.wr MER_TRIM_BUDGET.USED_US s.trimSum
  let s := s.wr MER_TRIM_PENDING.PENDING_US (ofSigned 32 s.mer.pending)
  s.flag MER_STAT.TRIM_ACTIVE (s.mer.pending != 0)

/-- R59–R62: a trim request; 0 has no effect. An accepted trim is kept, persisted in rotation, checkpointed and slewed;
it adds to what remains of an earlier one. -/
def State.trimReq (s : State) (us : Int) : State :=
  if us = 0 then s
  else
    let code := s.trimCode us
    let s := s.wr MER_TIME_STAT.RESULT code
    if code ≠ ccOk then s
    else
      let sec := s.civilNs / 1000000000
      let k := s.mer.trimNext % 16
      let w := sec % 2 ^ 32 + us.natAbs * 2 ^ 32 + (decide (us < 0)).toNat * 2 ^ 53 + 0x7A * 2 ^ 56
      let from' := if s.mer.pending = 0 then s.now else s.mer.slewFrom
      let s := { s with mer := { s.mer with trims := ((⟨sec, us⟩ : Trim) :: s.mer.trims).take 16, trimNext := k + 1,
                                            pending := s.mer.pending + us, slewFrom := from' } }
      let s := s.pltWrite laneShadow .trim [(0xA40200 + 8 * k, w)]
      s.ckptNow.trimStat

def execTrimReq (t : Nat) (us : Int) (s : State) : Answer := happen t s (fun s => s.trimReq us)

/-- R62: the slewing ends when the trim is spent. -/
def execTrimSpent (t : Nat) (s : State) : Answer := happen t s (fun s =>
  if s.mer.pending = 0 then s.trimStat else s)

/-! ## Authority sets (R63–R65) -/

/-- R63: a read of MER_TIME_NONCE. -/
def State.timeNonce (s : State) : Nat × State :=
  match s.rngNonce 4 with
  | some (v, s) => (v, { s with mer := { s.mer with nonce := some (v, s.now), armed := none } })
  | none => (0, s)

def execTimeNonceRead (t port : Nat) (s : State) : Answer := happen t s (fun s =>
  let (v, s) := s.timeNonce
  s.answerWord port v)

/-- The set armed, while its nonce lives. -/
def State.armedSet (s : State) : Option (Bool × Bool × Int × Nat) :=
  match s.mer.nonce with
  | some (v, _) => if s.merNonceLive v then s.mer.armed else none
  | none => none

/-- A privileged write that carries out a set (R63, R64): the checkpoint carries the new civil time and consumes the
nonce; the set takes effect at its commit. -/
def State.carryOut (s : State) (offset : Int) (leap : Nat) : State :=
  let civil := ((s.mer.count * 625 / 39936 : Nat) + offset).toNat % 2 ^ 64
  let s := { s with mer := { s.mer with nonce := none, armed := some (true, true, offset, leap) } }
  s.ckpt .civilSet civil leap false

/-- R63, R64: the write of MER_CIVIL_OFFSET_HI. -/
def State.civilOffsetSet (s : State) (lo hi : Nat) : State :=
  let v := toSigned 64 (lo % 2 ^ 32 + hi % 2 ^ 32 * 2 ^ 32)
  if s.rd MER_STAT.QUALITY ≠ qRef then s.wr MER_TIME_STAT.RESULT ccDenied
  else
    match s.armedSet with
    | some (true, setLeap, off, leap) =>
      if v = off then s.carryOut off (if setLeap then leap else s.mer.leap)
      else s.wr MER_TIME_STAT.RESULT ccEnvelopeBad
    | _ => s.wr MER_TIME_STAT.RESULT ccEnvelopeBad

def execCivilOffsetSet (t port : Nat) (priv : Bool) (lo hi : Nat) (s : State) : Answer := happen t s (fun s =>
  s.privWrite port priv 0x01 0x01002C (fun s => s.civilOffsetSet lo hi))

/-- R63–R65: the write of MER_CIVIL_LEAP when only SET_LEAP is armed. -/
def State.civilLeapSet (s : State) (leap : Nat) : State :=
  if s.rd MER_STAT.QUALITY ≠ qRef then s.wr MER_TIME_STAT.RESULT ccDenied
  else
    match s.armedSet with
    | some (false, true, _, l) =>
      if leap % 256 = l then s.carryOut s.mer.offset l else s.wr MER_TIME_STAT.RESULT ccEnvelopeBad
    | _ => s.wr MER_TIME_STAT.RESULT ccEnvelopeBad

def execCivilLeapSet (t port : Nat) (priv : Bool) (leap : Nat) (s : State) : Answer := happen t s (fun s =>
  s.privWrite port priv 0x01 0x010030 (fun s => s.civilLeapSet leap))

/-- R63: at the commit the set takes effect: civil time steps, any trim that remains is cancelled, CIVIL_STALE clears,
and the step is archived with the old and the new civil time. -/
def State.civilSetCommitted (s : State) : State :=
  match s.mer.armed with
  | some (_, _, off, leap) =>
    let old := s.civilNs
    let s := { s with mer := { s.mer with offset := off, leap := leap, armed := none, pending := 0 } }
    let s := (s.wr MER_STAT.CIVIL_STALE 0).wr MER_TIME_STAT.RESULT ccOk
    let s := (s.wr64 MER_CIVIL_OFFSET_LO.OFFSET MER_CIVIL_OFFSET_HI.OFFSET (ofSigned 64 off)).wr MER_CIVIL_LEAP.LEAP leap
    s.trimStat.archiveEvent 0x01 0 0 (leBytes 8 old ++ leBytes 8 s.civilNs)
  | none => s

/-! ## Discipline (R66–R70) -/

/-- Set QUALITY, noting since when. -/
def State.setQuality (s : State) (q : Nat) : State :=
  let s := { s with mer := { s.mer with qualSince := s.now, goodSince := none } }
  s.wr MER_STAT.QUALITY q

/-- R66: a strapped member that has not been FORMED and has been ALONE for 100 ms after BLN's INIT ends in REF. -/
def execAcquireAloneTimeout (t : Nat) (s : State) : Answer := happen t s (fun s =>
  if s.rd MER_STAT.QUALITY = qAcquiring ∧ !s.on MER_STAT.MASTER ∧ s.rd BLN_STAT.STATE = 0 ∧ s.now ≥ s.mer.aloneSince + msT 100
      ∧ !s.mer.formed ∧ s.rep 0x14 ≠ stInit ∧ s.rep 0x14 ≠ stReset
  then s.setQuality qRef else s)

/-- R66, R70: error at or below 20 ps rms (1.278 ticks, 20 in units of 1/16 tick) for 1 s gives LOCKED. -/
def execLockAchieved (t rms : Nat) (s : State) : Answer := happen t s (fun s =>
  let s := s.wr MER_SYNC_RMS.RMS (min 0xFFFF rms)
  if s.rd MER_STAT.QUALITY = qAcquiring ∧ s.mer.measured ∧ rms ≤ 20 then
    match s.mer.goodSince with
    | some g =>
      if s.now ≥ g + secT 1 then (s.setQuality qLocked).wr MER_STAT.HOLD_EXPIRED 0 else s
    | none => { s with mer := { s.mer with goodSince := some s.now } }
  else { s with mer := { s.mer with goodSince := none } })

/-- R66: no valid exchange for 1 ms in LOCKED. -/
def execHoldoverEntry (t : Nat) (s : State) : Answer := happen t s (fun s =>
  if s.rd MER_STAT.QUALITY = qLocked ∧ s.now ≥ s.mer.lastValid + msT 1 then
    (s.setQuality qHoldover).wr MER_HOLD_TIME.HOLD_MS 0
  else s)

/-- HOLD_LIMIT in units of 100 ms: 0 acts as 1. -/
def State.holdLimit (s : State) : Nat := msT (100 * orOne (s.rd MER_SYNC_CFG.HOLD_LIMIT))

/-- R66: HOLDOVER lasts longer than HOLD_LIMIT. -/
def execHoldLimitExpired (t : Nat) (s : State) : Answer := happen t s (fun s =>
  if s.rd MER_STAT.QUALITY = qHoldover ∧ s.now > s.mer.qualSince + s.holdLimit then
    let s := s.wr MER_HOLD_TIME.HOLD_MS (min (2 ^ 32 - 1) ((s.now - s.mer.qualSince) / msT 1))
    s.wr MER_STAT.HOLD_EXPIRED 1
  else s)

/-- STEP_THRESH in ticks: units of 10 µs, 0 acting as 1. -/
def State.stepThresh (s : State) : Nat := usT (10 * orOne (s.rd MER_SYNC_CFG.STEP_THRESH))

/-- SLEW_MAX in ppm: 0 acts as 1, above 200 as 200. -/
def State.slewMax (s : State) : Nat := clampTo 1 200 (s.rd MER_SYNC_CFG.SLEW_MAX)

/-- R67: RATE_TRIM in units of 2^−40 for an offset from the master: its sign brings the offset to zero and it stays
within SLEW_MAX; the spec gives the loop no gain, so its size is a free value (log entry 16). -/
def State.rateTrim (s : State) (off : Int) : Int × State :=
  let m := s.slewMax * 2 ^ 40 / 1000000
  let (w, s) := s.draw
  let v : Int := (w % (m + 1) : Nat)
  (if off = 0 then 0 else if off > 0 then v else (0 : Int) - v, s)

/-- R68: the member adopts the master's era and count, and civil time does not move. -/
def State.stepTo (s : State) (era count : Nat) : State :=
  let oldEra := s.mer.era
  let old := s.mer.count
  let d : Int := (old * 625 / 39936 : Nat) - (count * 625 / 39936 : Nat)
  let m := s.mer
  let s := { s with mer := { m with era := era % 256, count := count % 2 ^ 64, offset := m.offset + d,
                                    slewFrom := count % 2 ^ 64, qualSince := count % 2 ^ 64, goodSince := none } }
  let s := s.wr MER_STAT.STEPPED 1
  let s := s.archiveEvent 0x01 0 0 (leBytes 4 oldEra ++ leBytes 8 old ++ leBytes 4 era)
  if era % 256 = oldEra then s else s.persistEra.ckptNow

/-- A valid measurement of the offset in ticks (the master's count minus the own one, as R640 computes it), with the
master's era and count: step, or slew (R66–R68). -/
def State.offsetMeasured (s : State) (off : Int) (era count : Nat) : State :=
  let q := s.rd MER_STAT.QUALITY
  if q = qRef then s
  else
    let s := { s with mer := { s.mer with lastValid := s.now } }
    let s := s.wr MER_OFFSET_EST.OFFSET (satSigned 32 off)
    let s := if q = qHoldover then
        let s := s.wr MER_HOLD_TIME.HOLD_MS (min (2 ^ 32 - 1) ((s.now - s.mer.qualSince) / msT 1))
        s.setQuality qAcquiring
      else s
    let s := { s with mer := { s.mer with measured := true } }
    if off.natAbs > s.stepThresh ∨ era ≠ s.mer.era then
      let s := s.stepTo era count
      { s with mer := { s.mer with lastValid := s.now } }
    else
      let (r, s) := s.rateTrim off
      s.wr MER_RATE_TRIM.TRIM (ofSigned 32 r)

/-- R69, R58: the member takes the master's civil_offset, leap and CIVIL_STALE, except in HOLDOVER. -/
def State.takeCivil (s : State) (offset : Int) (leap : Nat) (stale : Bool) : State :=
  let q := s.rd MER_STAT.QUALITY
  if q = qRef ∨ q = qHoldover then s
  else
    let s := { s with mer := { s.mer with offset := offset, leap := leap % 256 } }
    let s := (s.wr64 MER_CIVIL_OFFSET_LO.OFFSET MER_CIVIL_OFFSET_HI.OFFSET (ofSigned 64 offset)).wr MER_CIVIL_LEAP.LEAP leap
    s.flag MER_STAT.CIVIL_STALE stale

end Sys2Proof.Machine
end

