-- ==== Sys2Proof/Machine/Bln.lean ====
section
/-! DEFINITION. BLN: ports, the forming of the stack, Meridian exchange, requests between members and remote register
access (R622–R645). -/

namespace Sys2Proof.Machine

def psDown : Nat := 0
def psTraining : Nat := 1
def psPairing : Nat := 2
def psUp : Nat := 3
def psRefused : Nat := 4

def State.blnPort (s : State) (p : Nat) : BlnPort := SMap.get s.bln.ports p {}

def State.setBlnPort (s : State) (p : Nat) (x : BlnPort) : State :=
  { s with bln := { s.bln with ports := SMap.put s.bln.ports p x } }

def State.portState (s : State) (p : Nat) : Nat := s.rd BLN_PORT_STAT.STATE p

/-- The port is UP over an authenticated link. -/
def State.portAuth (s : State) (p : Nat) : Bool := s.portState p == psUp && !s.on BLN_PORT_STAT.UNAUTH p

/-- BLN records an event (R687). -/
def State.blnEvent (s : State) (kind reason port dev : Nat) : State :=
  s.unitEvent 0x14 0 BLN_EVT_CODE.REG BLN_EVT_STAMP_LO.STAMP BLN_EVT_STAMP_HI.STAMP
    (kind * 2 ^ 28 + reason % 16 * 2 ^ 24 + port % 2 * 2 ^ 16 + dev % 8 * 2 ^ 8)

/-- An event that is archived too. -/
def State.blnRecord (s : State) (kind reason port dev : Nat) : State :=
  let s := s.blnEvent kind reason port dev
  s.archiveEvent 0x14 0 (s.word BLN_EVT_CODE.REG)

/-- A frame has arrived on a port from a device. -/
def State.blnHeard (s : State) (p src : Nat) (poison : Bool) : State :=
  let s := s.setBlnPort p { s.blnPort p with lastFrame := s.now }
  let s := { s with bln := { s.bln with heard := SMap.put s.bln.heard (src % 8) s.now } }
  let s := s.bump BLN_PORT_CNT_RX.COUNT p
  if poison then s.bump BLN_PORT_CNT_POISON.COUNT p else s

/-! ## The map and its routes (R632, R635–R639) -/

/-- The place of a member on the chain of links, the master at 0: down ports lead to rising places. -/
def mapPos (m : MapMember) : Int :=
  match m.down, m.up with
  | some d, _ => d
  | none, some u => (0 : Int) - u
  | none, none => 0

/-- The member is the master. -/
def mapMaster (m : MapMember) : Bool := m.down == some 0

/-- The links close a ring: each member lies on both ports of the master. -/
def mapRing (ms : List MapMember) : Bool :=
  decide (1 < ms.length) && ms.all (fun m => mapMaster m || (m.down.isSome && m.up.isSome))

/-- Hops from one member to another over port 0 (up) or 1 (down). -/
def mapHops (ms : List MapMember) (me q : MapMember) (p : Nat) : Option Nat :=
  let x := if p = 1 then mapPos q - mapPos me else mapPos me - mapPos q
  if mapRing ms then some (x % (ms.length : Int)).toNat
  else if 0 < x then some x.toNat
  else none

/-- The route to a member: port and hops, the fewer hops first, and the up port on a tie (R632). -/
def State.blnRoute (s : State) (q : MapMember) : Option (Nat × Nat) :=
  match s.bln.members.find? (fun m => m.dev == s.device) with
  | none => none
  | some me =>
    let via := fun (p : Nat) => if s.portAuth p then mapHops s.bln.members me q p else none
    match via 0, via 1 with
    | some a, some b => if a ≤ b then some (0, a) else some (1, b)
    | some a, none => some (0, a)
    | none, some b => some (1, b)
    | none, none => none

/-- BLN_MEM_STAT and the global registers from the map and the links; the holders EPH reads (R365). -/
def State.blnRoutes (s : State) : State :=
  let ms := s.bln.members
  let one := fun (s : State) (d : Nat) =>
    match ms.find? (fun m => m.dev == d) with
    | none => (s.wrWord BLN_MEM_STAT.REG 0 d).wr64 BLN_MEM_DEVID_LO.DEVID BLN_MEM_DEVID_HI.DEVID 0 d
    | some m =>
      let route := if d = s.device then some (0, 0) else s.blnRoute m
      let s := s.wr64 BLN_MEM_DEVID_LO.DEVID BLN_MEM_DEVID_HI.DEVID m.devid d
      let s := ((s.wr BLN_MEM_STAT.PRESENT 1 d).flag BLN_MEM_STAT.REACH route.isSome d).flag BLN_MEM_STAT.MASTER (mapMaster m) d
      let s := (s.wr BLN_MEM_STAT.PORT ((route.getD (0, 0)).1) d).wr BLN_MEM_STAT.HOPS ((route.getD (0, 0)).2) d
      (s.flag BLN_MEM_STAT.PART_VALID m.part.isSome d).wr BLN_MEM_STAT.PART (m.part.getD 0) d
  let s := (List.range 8).foldl one s
  let s := s.wr BLN_MEMBERS.PRESENT (bitMap (ms.map (·.dev)))
  let s := s.wr BLN_MEMBERS.REACH (bitMap ((List.range 8).filter (fun d => s.on BLN_MEM_STAT.REACH d)))
  let s := s.wr BLN_STAT.MEMBERS (max 1 ms.length)
  let s := s.wr BLN_STAT.TOPO (if ms.length ≤ 1 then 0 else if mapRing ms then 2 else 1)
  let held := ms.filterMap (fun m => if s.on BLN_MEM_STAT.REACH m.dev then m.part.map (fun k => (k, m.dev)) else none)
  let s := s.wr BLN_PART.HELD (bitMap (held.map (·.1)))
  let s := s.wr BLN_PART.HOLDER (held.foldl (fun a p => setBits a (3 * p.1 + 2) (3 * p.1) p.2) 0)
  { s with eph := { s.eph with holders := held.foldl (fun m p => SMap.put m p.1 p.2) [] } }

/-- STATE of the stack at this device (R635), and what its changes do (R66, R639). -/
def State.blnJudge (s : State) : State :=
  let links := s.portAuth 0 || s.portAuth 1
  let strap := s.on BLN_STAT.MASTER_STRAP
  let master := (s.bln.members.find? mapMaster).map (·.dev)
  let listed := s.bln.members.any (fun m => m.dev == s.device)
  let reach := listed && (match master with
    | some d => s.on BLN_MEM_STAT.REACH d
    | none => false)
  let was := s.rd BLN_STAT.STATE
  let st := if strap then (if links then 2 else 0) else if reach then 2 else if s.bln.reached then 3
    else if links then 1 else 0
  let s := s.wr BLN_STAT.STATE st
  let s := s.wr BLN_STAT.MASTER (if st = 2 ∨ st = 3 then master.getD s.device else s.device)
  let s := s.wr ALM_STACK_STAT.MASTER (s.rd BLN_STAT.MASTER)
  let s := if strap then s.wr ALM_STACK_STAT.MASTER_REACH 1 else s
  let s := if st = 0 ∧ was ≠ 0 then { s with mer := { s.mer with aloneSince := s.now } } else s
  let s := if st = 2 ∧ !strap then
      { s with bln := { s.bln with reached := true }, mer := { s.mer with formed := true } }
    else s
  if st = 3 ∧ was ≠ 3 then ((s.irq BLN_IRQ_STAT.MASTER_LOST).bump BLN_CNT_ORPHAN.COUNT).blnRecord 6 0 0 s.device
  else if st = 2 ∧ was = 3 then s.blnRecord 7 0 0 (s.rd BLN_STAT.MASTER)
  else s

/-- A request whose reply will not come (R367, R632, R634, R638). -/
def State.flightLost (s : State) (f : BlnFlight) : State :=
  let s := { s with bln := { s.bln with flight := s.bln.flight.erase f } }
  if f.dstUnit = 0x05 then
    match s.trn.away.find? (fun w => w.tag == f.tag) with
    | some w => s.rangeLost w ccTargetReset
    | none => s
  else if f.dstUnit = 0x07 then s.solveBack f.tag (bytesOf [ccTargetReset])
  else if f.dstUnit = 0x0A then
    match s.eph.away.find? (fun w => w.2.2 == f.tag), SMap.find s.eph.awayCh f.tag with
    | some w, _ =>
      let s := { s with eph := { s.eph with away := s.eph.away.erase w } }
      (s.ephCount 2).complete w.1 w.2.1 poolEph ccTimeout 2 []
    | none, some c =>
      ({ s with eph := { s.eph with awayCh := SMap.del s.eph.awayCh f.tag } }).ephRefuse c rAbsent (chReasonCode rAbsent) 0
    | none, none => s
  else
    match s.bln.racc with
    | some (tag, _) =>
      if tag = f.tag then
        let s := { s with bln := { s.bln with racc := none } }
        ((s.wr BLN_RACC_CTL.CODE ccTargetReset).wr BLN_RACC_CTL.BUSY 0).irq BLN_IRQ_STAT.RACC_DONE
      else s
    | none => s

/-- Requests in flight that meet a test are lost. -/
def State.flightsLost (s : State) (p : BlnFlight → Bool) : State :=
  (s.bln.flight.filter p).foldl (fun (a : State) f => (a.bump BLN_CNT_INFLIGHT.COUNT).flightLost f) s

/-- A member leaves (R367, R638): its claims are released, and the requests to it are lost. -/
def State.blnLeave (s : State) (d : Nat) : State :=
  let s := { s with eph := { s.eph with claims := s.eph.claims.filter (fun q => q.device != d) } }
  let s := s.claimsReg.flightsLost (fun f => f.dev == d)
  let s := { s with bln := { s.bln with rq := s.bln.rq.filter (fun r => r.src != d) } }
  let s := (s.irq BLN_IRQ_STAT.MEMBER).bump BLN_CNT_LEAVE.COUNT
  if s.on BLN_STAT.MASTER_STRAP then s.blnRecord 5 0 0 d else s.blnEvent 5 0 0 d

/-- A member joins (R637): archived by the master and by the member. -/
def State.blnJoin (s : State) (d : Nat) : State :=
  let s := ((s.irq BLN_IRQ_STAT.MEMBER).bump BLN_CNT_JOIN.COUNT).bump BLN_MEM_LAST.JOINS d
  if s.on BLN_STAT.MASTER_STRAP ∨ d = s.device then s.blnRecord 4 0 0 d else s.blnEvent 4 0 0 d

/-- A device that a MAP lists without a partition, though it has one in its commit record, is in conflict (R365). -/
def State.partJudge (s : State) : State :=
  let own := (s.bln.members.find? (fun m => m.dev == s.device)).bind (·.part)
  let bad := s.eph.commit.isSome && own.isNone && !s.on BLN_STAT.MASTER_STRAP
  let was := s.on EPH_STAT.PART_CONFLICT
  let s := s.flag EPH_STAT.PART_CONFLICT bad
  if bad && !was then s.ephEvent evPart 0 0 0 0 else s

/-- A map is applied (R636–R638). -/
def State.mapApply (s : State) (gen anchorSeq : Nat) (ms : List MapMember) : State :=
  let has := fun (l : List MapMember) (d : Nat) => l.any (fun m => m.dev == d)
  let old := s.bln.members
  let meOld := has old s.device
  let s := { s with bln := { s.bln with members := ms } }
  let s := (s.wr BLN_GEN.STACK_GEN gen).bump BLN_CNT_MAP.COUNT
  let s := s.blnRoutes
  let s := (old.filter (fun m => !has ms m.dev)).foldl (fun (a : State) m => a.blnLeave m.dev) s
  let s := (ms.filter (fun m => !has old m.dev)).foldl (fun (a : State) m => a.blnJoin m.dev) s
  let s := s.blnJudge
  let s := s.flag ALM_STACK_STAT.TABLE_MATCH (anchorSeq == s.rd ALM_TABLE_STAT.SEQ)
  let joined := has ms s.device && !meOld
  if s.on BLN_STAT.MASTER_STRAP then s
  else
    let s := s.partJudge
    if joined ∧ s.rd MER_STAT.QUALITY = qRef then
      ({ s with mer := { s.mer with measured := false } }).setQuality qAcquiring
    else s

/-- Put a frame on every authenticated port but one. -/
def State.blnSpread (s : State) (but : Nat) (frame : List Byte) : State :=
  ([0, 1].filter (fun p => p != but && s.portAuth p)).foldl (fun (a : State) p => a.blnPut p frame) s

/-- The payload of a MAP. -/
def mapBytes (gen anchorSeq : Nat) (ms : List MapMember) : List Byte :=
  leBytes 4 gen ++ leBytes 4 anchorSeq ++ leBytes 1 ms.length ++ ms.flatMap (fun m =>
    leBytes 8 m.devid ++ bytesOf [m.dev, m.down.getD 0xFF, m.up.getD 0xFF, m.part.getD 0xFF])

/-- The partition map of the master (R365): the master's own first, then the members in ascending index. -/
def State.masterParts (s : State) (l : List (Nat × BlnIdent)) : SMap Nat :=
  match s.eph.commit with
  | none => []
  | some c =>
    l.foldl (fun (m : SMap Nat) p =>
      let taken := p.2.part == c.part || m.any (fun e => e.2 == p.2.part)
      if p.2.salt = c.salt ∧ p.2.npart = c.npart ∧ !taken then SMap.put m p.1 p.2.part else m) [(s.device, c.part)]

/-- The master builds its map from the members it reaches; one that differs is numbered, applied and sent (R636). -/
def State.masterMap (s : State) : State :=
  if !s.on BLN_STAT.MASTER_STRAP then s
  else
    let seen := s.bln.idents.map (fun p => (p.1, { p.2 with
      hops0 := if s.portAuth 0 then p.2.hops0 else none, hops1 := if s.portAuth 1 then p.2.hops1 else none }))
    let seen := seen.filter (fun p => p.2.hops0.isSome || p.2.hops1.isSome)
    let parts := s.masterParts seen
    let me : MapMember := { dev := s.device, devid := s.devid, down := some 0, up := some 0,
                            part := SMap.find parts s.device }
    let ms : List MapMember := if seen.isEmpty then [] else me :: seen.map (fun p =>
      { dev := p.1, devid := p.2.devid, down := p.2.hops1, up := p.2.hops0, part := SMap.find parts p.1 })
    if ms = s.bln.members then s.blnRoutes.blnJudge
    else
      let gen := (s.rd BLN_GEN.STACK_GEN + 1) % 2 ^ 32
      let anchors := s.rd ALM_TABLE_STAT.SEQ
      let s := s.mapApply gen anchors ms
      s.blnSpread 2 (s.blnFrame fcCtrl false 0xFF 0x14 0x14 (s.rd SYS_UNIT_STATE.EPOCH 0x14) 0 0 (mapBytes gen anchors ms))

/-! ## Links (R625–R628) -/

/-- A port in use trains whenever BLN is in INIT or RUN (R625). -/
def State.portTrain (s : State) (p : Nat) : State :=
  let can := s.on BLN_PORT_CTL.EN p && (s.rep 0x14 == stInit || s.rep 0x14 == stRun)
  let x := s.blnPort p
  if can then
    let s := s.setBlnPort p { x with since := s.now, half := s.on BLN_LINK_CFG.RATE, paired := false, delays := [] }
    s.wr BLN_PORT_STAT.STATE psTraining p
  else s.wr BLN_PORT_STAT.STATE psDown p

/-- A refusal (R627): the first of each port in each Meridian minute is archived. -/
def State.portRefuse (s : State) (p reason : Nat) : State :=
  let s := (s.wr BLN_PORT_STAT.STATE psRefused p).wr BLN_PORT_STAT.REASON reason p
  let s := ((s.bump BLN_PORT_CNT_REFUSE.COUNT p).bump BLN_CNT_REFUSED.COUNT).irq BLN_IRQ_STAT.REFUSED
  let s := if reason = 4 then s.bump BLN_PORT_CNT_AUTH.COUNT p else s
  let x := s.blnPort p
  let m := s.now / 3833856000000
  let s := s.setBlnPort p { x with since := s.now, refuseMin := some m }
  if x.refuseMin = some m then s.blnEvent 3 reason p 0 else s.blnRecord 3 reason p 0

/-- MIN_LANES as it acts: 1, 2 or 4, other values as the next higher. -/
def State.minLanes (s : State) : Nat :=
  let v := s.rd BLN_LINK_CFG.MIN_LANES
  if v ≤ 1 then 1 else if v ≤ 2 then 2 else 4

/-- The lowest n of the lanes kept. -/
def lowLanes (kept n : Nat) : Nat := bitMap ((bitList kept 4).take n)

/-- Training of port p ended with the lanes kept. -/
def State.portTrained (s : State) (p kept skew : Nat) (reversed : Bool) (snr : List Nat) : State :=
  let s := if s.portState p = psDown then s.portTrain p else s
  let x := s.blnPort p
  let n := popCount kept 4
  let w := if 4 ≤ n then 4 else if 2 ≤ n then 2 else n
  let s := (s.bump BLN_PORT_CNT_TRAIN.COUNT p).wr BLN_PORT_LANE.FAILED (15 - kept % 16) p
  if w < s.minLanes then
    if x.half then s.portRefuse p 5 else s.setBlnPort p { x with half := true, since := s.now }
  else
    let s := (s.wr BLN_PORT_STAT.LANES (lowLanes kept w) p).flag BLN_PORT_STAT.HALF x.half p
    let s := (s.wr BLN_PORT_LANE.SKEW skew p).flag BLN_PORT_LANE.REVERSED reversed p
    let s := (List.range 4).foldl (fun (a : State) l => a.wr BLN_PORT_SNR.SNR (snr.getD l 0) p l) s
    let s := if x.half then s.bump BLN_PORT_CNT_HALF.COUNT p else s
    let s := if w < 4 then s.bump BLN_PORT_CNT_NARROW.COUNT p else s
    let s := s.wr BLN_PORT_STAT.REASON 0 p
    let (nonce, s) := (s.rngTake 9 2).getD (0, s)
    let s := s.setBlnPort p { s.blnPort p with nonce := nonce, lastFrame := s.now }
    s.blnPut p (s.blnFrame fcCtrl false 0xFF 0x14 0x14 (s.rd SYS_UNIT_STATE.EPOCH 0x14) 0 0
      (leBytes 8 s.devid ++ bytesOf [s.device, (s.on BLN_STAT.MASTER_STRAP).toNat, p] ++ leBytes 8 nonce))

def execPortTrainingDone (t p kept skew : Nat) (reversed : Bool) (snr : List Nat) (s : State) : Answer :=
    happen t s (fun s =>
  if 2 ≤ p ∨ (s.portState p ≠ psTraining ∧ s.portState p ≠ psDown) ∨ !s.on BLN_PORT_CTL.EN p ∨
      (s.rep 0x14 ≠ stInit ∧ s.rep 0x14 ≠ stRun) then s
  else s.portTrained p kept skew reversed snr)

/-- The first reason of R627 that applies before pairing. -/
def State.refusal (s : State) (p devid dev : Nat) (down master : Bool) : Nat :=
  let held := s.bln.members.any (fun m => m.dev == dev && m.devid != devid) ||
    (dev == s.device && devid != s.devid)
  if down = decide (p = 1) then 1 else if master && s.on BLN_STAT.MASTER_STRAP then 2 else if held then 3 else 0

/-- The message of the pairing check (R626): 0x42, 0x4C, the DEVIDs and the nonces, the lower DEVID's first. -/
def State.pairMsg (s : State) (p : Nat) : List Byte :=
  let x := s.blnPort p
  let peer := s.rd64 BLN_PORT_PEER_LO.DEVID BLN_PORT_PEER_HI.DEVID p
  let mine := (s.devid, x.nonce)
  let its := (peer, x.peerNonce)
  let (a, b) := if s.devid ≤ peer then (mine, its) else (its, mine)
  bytesOf [0x42, 0x4C] ++ leBytes 8 a.1 ++ leBytes 8 b.1 ++ leBytes 8 a.2 ++ leBytes 8 b.2

/-- The peer's hello on port p is judged. -/
def State.helloTaken (s : State) (p devid dev nonce : Nat) (down master : Bool) : State :=
  let s := s.blnHeard p dev false
  let s := s.wr64 BLN_PORT_PEER_LO.DEVID BLN_PORT_PEER_HI.DEVID devid p
  let s := (s.wr BLN_PORT_STAT.PEER_DEV dev p).flag BLN_PORT_STAT.PEER_MASTER master p
  let s := s.setBlnPort p { s.blnPort p with peerNonce := nonce, paired := false }
  let r := s.refusal p devid dev down master
  if r ≠ 0 then s.portRefuse p r
  else
    let s := s.wr BLN_PORT_STAT.STATE psPairing p
    let (code, v, s) := s.kceNow 0x0A kKE [] (s.pairMsg p)
    let s := s.flag BLN_PORT_STAT.UNAUTH (code ≠ ccOk) p
    s.blnPut p (s.blnFrame fcCtrl false dev 0x14 0x14 (s.rd SYS_UNIT_STATE.EPOCH 0x14) 0 0 (v.take 8))

def execHello (t p devid dev nonce : Nat) (down master : Bool) (s : State) : Answer := happen t s (fun s =>
  if 2 ≤ p ∨ s.portState p ≠ psTraining then s
  else s.helloTaken p devid dev nonce down master)

/-- The peer's pairing answer on port p is judged. -/
def State.pairingTaken (s : State) (p : Nat) (held : Bool) (check : List (BitVec 8)) : State :=
  let s := s.blnHeard p (s.rd BLN_PORT_STAT.PEER_DEV p) false
  let (code, v, s) := s.kceNow 0x0A kKE [] (s.pairMsg p)
  let un := !held || code != ccOk
  if !un && v.take 8 != padTo check 8 then s.portRefuse p 4
  else
    let s := (s.flag BLN_PORT_STAT.UNAUTH un p).setBlnPort p { s.blnPort p with paired := true }
    s.blnPut p (s.blnFrame fcCtrl false 0xFF 0x14 0x14 (s.rd SYS_UNIT_STATE.EPOCH 0x14) 0 0
      (leBytes 8 s.devid ++ bytesOf [s.device, (s.on BLN_STAT.MASTER_STRAP).toNat, s.rd BLN_STAT.STATE]))

/-- PAIRING (R626): compared with the own value; a side without a fleet key marks the link UNAUTH. -/
def execPairing (t p : Nat) (held : Bool) (check : List (BitVec 8)) (s : State) : Answer := happen t s (fun s =>
  if 2 ≤ p ∨ s.portState p ≠ psPairing ∨ (s.blnPort p).paired then s
  else s.pairingTaken p held check)

/-- The link comes UP (R625 step 5). -/
def State.portUp (s : State) (p : Nat) : State :=
  let s := (s.wr BLN_PORT_STAT.STATE psUp p).irq BLN_IRQ_STAT.LINK_UP
  let s := s.setBlnPort p { s.blnPort p with lastFrame := s.now, lastSync := s.now }
  let (w, s) := s.draw
  let s := (s.wr BLN_PORT_CREDIT.REQ 512 p).wr BLN_PORT_CREDIT.RPLY w p
  s.blnRecord 1 0 p (s.rd BLN_PORT_STAT.PEER_DEV p)

/-- An identity frame of member dev is used: the master forms the map anew, another member passes it on. -/
def State.identTaken (s : State) (p devid dev hops salt npart part : Nat) (master : Bool) : State :=
  if !s.portAuth p then s.blnJudge
  else if s.on BLN_STAT.MASTER_STRAP then
    let was : BlnIdent := SMap.get s.bln.idents dev { devid := devid, master := master, salt := 0, npart := 0, part := 0 }
    let h := some (max 1 hops)
    let x : BlnIdent := { devid := devid, master := master, salt := salt, npart := npart, part := part,
                          hops0 := if p = 0 then h else was.hops0, hops1 := if p = 1 then h else was.hops1 }
    ({ s with bln := { s.bln with idents := SMap.put s.bln.idents dev x } }).masterMap
  else
    let f := s.blnFrame fcCtrl false 0xFF 0x14 0x14 (s.rd SYS_UNIT_STATE.EPOCH 0x14) 0 0
      (leBytes 8 devid ++ bytesOf [dev, master.toNat, hops + 1] ++ leBytes 4 salt ++ bytesOf [npart, part])
    (s.blnSpread p f).blnRoutes.blnJudge

/-- IDENT (R627, R636). The peer's own brings the port UP; a member forwards each toward the master, which keeps them. -/
def execIdent (t p devid dev hops salt npart part : Nat) (master : Bool) (s : State) : Answer := happen t s (fun s =>
  let st := s.portState p
  if 2 ≤ p ∨ 8 ≤ dev then s
  else
    let peer := decide (dev = s.rd BLN_PORT_STAT.PEER_DEV p)
    let first := decide (st = psPairing) && (s.blnPort p).paired && peer
    if !first && st ≠ psUp then s
    else
      let s := s.blnHeard p dev false
      let clash := s.refusal p devid dev (decide (p = 0)) master
      if first && clash ≠ 0 then s.portRefuse p clash
      else (if first then s.portUp p else s).identTaken p devid dev hops salt npart part master)

/-- A stack map received on port p is applied when it is newer, and passed on. -/
def State.mapTaken (s : State) (p gen anchorSeq : Nat) (members : List MapMember) : State :=
  let s := s.blnHeard p (s.rd BLN_STAT.MASTER) false
  if gen ≤ s.rd BLN_GEN.STACK_GEN then s
  else
    let s := s.mapApply gen anchorSeq members
    s.blnSpread p (s.blnFrame fcCtrl false 0xFF 0x14 0x14 (s.rd SYS_UNIT_STATE.EPOCH 0x14) 0 0 (mapBytes gen anchorSeq members))

/-- MAP (R636): applied when its STACK_GEN is higher, and passed on. -/
def execMap (t p gen anchorSeq : Nat) (members : List MapMember) (s : State) : Answer := happen t s (fun s =>
  if 2 ≤ p ∨ !s.portAuth p ∨ s.on BLN_STAT.MASTER_STRAP then s
  else s.mapTaken p gen anchorSeq members)

/-- A port goes DOWN (R628, R634): its requests in flight are lost, and it retrains. -/
def State.portDown (s : State) (p : Nat) : State :=
  if s.portState p = psUp then
    let dev := s.rd BLN_PORT_STAT.PEER_DEV p
    let s := ((s.wr BLN_PORT_STAT.STATE psDown p).wr BLN_PORT_STAT.LANES 0 p).wr BLN_PORT_STAT.HALF 0 p
    let s := (s.bump BLN_PORT_CNT_DOWN.COUNT p).irq BLN_IRQ_STAT.LINK_DOWN
    let s := s.blnRecord 2 0 p dev
    let s := s.flightsLost (fun f => f.port == p)
    let s := { s with bln := { s.bln with rq := s.bln.rq.filter (fun r => r.port != p) } }
    let s := (s.blnRoutes).blnJudge
    s.masterMap
  else s.wr BLN_PORT_STAT.STATE psDown p

/-- BLN_LINK_DOWN (R628). A link between two other members that goes DOWN takes devices out of the master's map (R638). -/
def execBlnLinkDown (t p cause : Nat) (far : List Nat) (s : State) : Answer := happen t s (fun s =>
  if 2 ≤ p then
    if !s.on BLN_STAT.MASTER_STRAP then s
    else ({ s with bln := { s.bln with idents := s.bln.idents.filter (fun q => !far.contains q.1) } }).masterMap
  else if s.portState p ≠ psUp then s
  else if cause = 2 ∧ s.now < (s.blnPort p).lastFrame + 3 * usT (clampTo 10 1000 (s.rd BLN_TIME_CFG.SYNC_PERIOD)) then s
  else
    let s := if cause = 0 then s.bump BLN_PORT_CNT_LOS.COUNT p
      else if cause = 1 then s.bump BLN_PORT_CNT_FEC_DOWN.COUNT p else s.bump BLN_PORT_CNT_IDLE_DOWN.COUNT p
    (s.portDown p).portTrain p)

def execRefusalRetry (t p : Nat) (s : State) : Answer := happen t s (fun s =>
  if p < 2 ∧ s.portState p = psRefused ∧ s.now ≥ (s.blnPort p).since + msT (orOne (s.rd BLN_LINK_CFG.RETRY_MS)) then
    s.portTrain p
  else s)

/-- A write of RETRAIN. -/
def State.portRetrain (s : State) (p : Nat) : State := (s.portDown p).portTrain p

def execRetrain (t p : Nat) (s : State) : Answer := happen t s (fun s => if p < 2 then s.portRetrain p else s)

/-! ## Meridian discipline (R640–R642) -/

/-- A period of port p: its error counts, and a time frame when one is due. -/
def State.syncTaken (s : State) (p ce ue : Nat) : State :=
  let s := (s.add BLN_PORT_FEC_CE.COUNT ce p).add BLN_PORT_FEC_UE.COUNT ue p
  let x := s.blnPort p
  if s.now < x.lastSync + usT (clampTo 10 1000 (s.rd BLN_TIME_CFG.SYNC_PERIOD)) then s
  else
    let s := s.setBlnPort p { x with lastSync := s.now }
    s.blnPut p (s.blnFrame fcTime false (s.rd BLN_PORT_STAT.PEER_DEV p) 0x14 0x14 (s.rd SYS_UNIT_STATE.EPOCH 0x14) 0 0
      (leBytes 8 s.now ++ leBytes 8 0))

def execSyncPeriod (t p ce ue : Nat) (s : State) : Answer := happen t s (fun s =>
  if 2 ≤ p ∨ !s.portAuth p then s
  else s.syncTaken p ce ue)

/-- The median of a list of integers; of an even number, the lower of the two in the middle. -/
def medianInt (l : List Int) : Int :=
  let m := sortBy (fun a b => decide (a ≤ b)) l
  m.getD ((m.length - 1) / 2) 0

/-- A time exchange on port p is measured and used. -/
def State.timeTaken (s : State) (p t1 t2 t3 t4 corrFwd corrBack era count : Nat) (offset : Int) (leap : Nat) (stale : Bool) : State :=
  let s := s.blnHeard p (s.rd BLN_PORT_STAT.PEER_DEV p) false
  if s.on BLN_STAT.MASTER_STRAP then s
  else
    let delay : Int := 8 * (((t4 : Int) - t1) - ((t3 : Int) - t2) - corrFwd - corrBack)
    let asym : Int := toSigned 16 (s.rd BLN_PORT_ASYM.ASYM p)
    let off16 : Int := 8 * (((t2 : Int) - t1 - corrFwd) - ((t4 : Int) - t3 - corrBack)) + 16 * asym
    let x := s.blnPort p
    let last := (delay :: x.delays).take 64
    let s := s.setBlnPort p { x with delays := last }
    let win := orOne (s.rd BLN_TIME_CFG.DLY_WIN)
    if (delay - medianInt last).natAbs > 16 * win then s.bump BLN_PORT_CNT_TIME_BAD.COUNT p
    else
      let s := (s.bump BLN_PORT_CNT_TIME.COUNT p).wr BLN_PORT_DELAY.DELAY (ofSigned 32 delay) p
      let s := s.wr BLN_PORT_OFFSET.OFFSET (satSigned 32 off16) p
      let stepped := decide ((off16 / 16).natAbs > s.stepThresh) || era != s.mer.era
      let s := (s.offsetMeasured (off16 / 16) era count).takeCivil offset leap stale
      if stepped && s.rd MER_STAT.QUALITY != qRef then s.blnEvent 8 0 p (s.rd BLN_STAT.MASTER) else s

/-- TIME_EXCHANGE (R640): the measures are in 1/16 tick. -/
def execTimeExchange (t p t1 t2 t3 t4 corrFwd corrBack era count : Nat) (offset : Int) (leap : Nat) (stale : Bool)
    (s : State) : Answer := happen t s (fun s =>
  if 2 ≤ p ∨ !s.portAuth p then s
  else s.timeTaken p t1 t2 t3 t4 corrFwd corrBack era count offset leap stale)

/-! ## Requests and replies (R629–R634) -/

/-- QUEUED and PEAK of the receive queues, and the REQ credits they leave. -/
def State.rqStat (s : State) : State :=
  let n := fun (p : Nat) => (s.bln.rq.filter (fun r => r.port == p)).length
  let one := fun (s : State) (p : Nat) =>
    let s := (s.wr BLN_PORT_RQ.QUEUED (n p) p).wr BLN_PORT_RQ.PEAK (max (s.rd BLN_PORT_RQ.PEAK p) (n p)) p
    s.wr BLN_PORT_CREDIT.REQ (512 - n p) p
  let s := one (one s 0) 1
  let s := s.wr BLN_RQ_STAT.QUEUED (min 1023 (n 0 + n 1))
  s.wr BLN_RQ_STAT.PEAK (max (s.rd BLN_RQ_STAT.PEAK) (max (n 0) (n 1)))

/-- A completion without more, as a reply. -/
def bareCode (code : Nat) : List Byte := bytesOf [code]

/-- A member's lookup, at the holder (R366). -/
def State.serveLookup (s : State) (dev tag : Nat) (p : List Byte) : Option State :=
  let tok := leAt p 5 4
  let answer := fun (s : State) (reason code slot : Nat) =>
    let s := (s.ephCount reason).ephTakeClaim reason (bits tok 23 0) (leAt p 1 2) (leAt p 3 2) dev
    (s.blnReply dev 0x0A tag (bytesOf [reason, code] ++ s.ephData code slot)).ephStat
  if !s.remoteRoom poolEph then none
  else if s.ephHolder (bits tok 23 0) ≠ some s.device then some (answer s 2 ccTimeout 0)
  else
    match s.ephLookup (bits tok 23 0) (bits tok 27 24) (leAt p 9 1) (leAt p 1 2) (leAt p 3 2) dev with
    | .done reason code slot => some (answer s reason code slot)
    | .wait _ => none

/-- The pages a waiting lookup or change of a member needs are wanted (R362). -/
def State.wantFor (s : State) (tok : Nat) : State :=
  let b := ephBuckets s.ephSalt tok
  s.ephWant ([b.1, b.2].filter (fun p => !s.ephOk p))

/-- A change as its request carries it. -/
def changeOf (p : List Byte) (dev tag now : Nat) : EphChange :=
  { op := leAt p 1 1, route := leAt p 2 1, kv := leAt p 3 1, template := leAt p 4 1, digits := leAt p 8 8,
    word := if leAt p 5 1 = 1 then some (leAt p 32 8) else none, token := leAt p 16 4, num := leAt p 20 4,
    expDay := leAt p 24 4, by' := leAt p 28 4, record := slice p 40 128, dest := .remote dev tag, since := now }

/-- A member's request to EPH (R309, R366); none while it must wait for a credit or for pages. -/
def State.serveEph (s : State) (dev tag : Nat) (p : List Byte) : Option State :=
  let op := leAt p 0 1
  if s.rep 0x0A ≠ stRun then some (s.blnReply dev 0x0A tag (bareCode ccBusy))
  else if op = erLookup then (s.serveLookup dev tag p).map (fun s => s.bump EPH_CNT_REMOTE.COUNT)
  else if op = erUpdate then
    if !s.remoteRoom poolArc then none
    else
      let s := (s.takeRemote poolArc).bump EPH_CNT_REMOTE.COUNT
      some (s.pltWrite laneEph (.remoteToken dev tag (leAt p 1 2) (leAt p 3 2)) [(8 * leAt p 5 4, leAt p 9 8)])
  else if op = erRelease then
    let gone := fun (q : EphClaim) => q.device == dev && q.session == leAt p 1 2 && q.gen == leAt p 3 2
    let s := { s with eph := { s.eph with claims := s.eph.claims.filter (fun q => !gone q) } }
    some ((s.claimsReg.bump EPH_CNT_REMOTE.COUNT).blnReply dev 0x0A tag (bareCode ccOk))
  else if !s.remoteRoom poolEph then none
  else
    let c := changeOf p dev tag s.now
    let s := (s.takeRemote poolEph).bump EPH_CNT_REMOTE.COUNT
    if s.ephHolder c.token ≠ some s.device then some (s.ephRefuse c rAbsent (chReasonCode rAbsent) 0)
    else
      match s.serveChange c with
      | some s => some s
      | none => some ({ s.wantFor c.token with eph := { (s.wantFor c.token).eph with changes := s.eph.changes ++ [c] } }.ephStat)

/-- A request of a member at its target unit; none while it must wait (R631). -/
def State.serveReq (s : State) (r : BlnReq) : Option State :=
  if r.poisoned then some ((s.poisonUse).blnReply r.src r.dstUnit r.tag (bareCode ccPoisoned))
  else if s.rep r.dstUnit = stFault ∨ s.rep r.dstUnit = stOff then some (s.blnReply r.src r.dstUnit r.tag (bareCode ccTargetReset))
  else if r.dstUnit = 0x05 then s.serveRange r.src r.tag r.payload
  else if r.dstUnit = 0x07 then s.serveLocate r.src r.tag r.payload
  else if r.dstUnit = 0x0A then s.serveEph r.src r.tag r.payload
  else some (s.blnReply r.src r.dstUnit r.tag (bareCode ccDenied))

/-- Serve the requests that wait, in order of arrival; one that still waits keeps those behind it for its unit. -/
def rqServe : List BlnReq → List Nat → State → State
  | [], _, s => s
  | r :: rest, blocked, s =>
    if blocked.contains r.dstUnit then rqServe rest blocked s
    else
      match s.serveReq r with
      | some s => rqServe rest blocked { s with bln := { s.bln with rq := s.bln.rq.erase r } }
      | none => rqServe rest (r.dstUnit :: blocked) s

def State.rqDrain (s : State) : State := (rqServe s.bln.rq [] s).rqStat

/-- The port toward a device, when the map reaches it. -/
def State.portTo (s : State) (dev : Nat) : Option Nat := if s.blnReach dev then some (s.rd BLN_MEM_STAT.PORT dev) else none

/-- Forward a frame that is for another device (R632). -/
def State.blnForward (s : State) (p dst : Nat) (poison : Bool) (frame : List Byte) : Option State :=
  match s.portTo dst with
  | some q =>
    let q := if q = p then 1 - p else q
    if s.portState q ≠ psUp then none
    else
      let s := ((s.blnPut q frame).bump BLN_CNT_FWD.COUNT).bump BLN_PORT_CNT_FWD.COUNT q
      some (if poison then s.bump BLN_PORT_CNT_POISON.COUNT q else s)
  | none => none

/-- A frame as it came, for forwarding. -/
def frameOf (cls : Nat) (poison : Bool) (src dst srcUnit dstUnit srcEpoch dstEpoch tag : Nat) (payload : List Byte) :
    List Byte :=
  bytesOf [cls, poison.toNat, src, dst, srcUnit, dstUnit] ++ leBytes 2 payload.length ++ leBytes 2 srcEpoch ++
    leBytes 2 dstEpoch ++ leBytes 4 tag ++ payload

/-- A request is noted, so that its reply finds its way (R35). -/
def State.noteReq (s : State) (p src srcUnit srcEpoch tag : Nat) : State :=
  let s := { s with bln := { s.bln with
    serving := SMap.put s.bln.serving (servingKey src tag) (srcUnit, srcEpoch, p)
    epochs := SMap.put s.bln.epochs (32 * src + srcUnit) srcEpoch } }
  s.bump BLN_CNT_REQ_RX.COUNT

/-- A request frame: passed on, answered at once, or queued. -/
def State.reqTaken (s : State) (p src dst srcUnit dstUnit srcEpoch dstEpoch tag : Nat) (poison : Bool) (payload : List (BitVec 8)) : State :=
  let s := s.blnHeard p src poison
  if dst ≠ s.device then
    match s.blnForward p dst poison (frameOf fcReq poison src dst srcUnit dstUnit srcEpoch dstEpoch tag payload) with
    | some s => s
    | none => ((s.noteReq p src srcUnit srcEpoch tag).bump BLN_CNT_UNREACH.COUNT).blnReply src dstUnit tag (bareCode ccTargetReset)
  else
    let s := s.noteReq p src srcUnit srcEpoch tag
    if s.rd BLN_STAT.STATE = 1 ∨ dstEpoch ≠ s.rd SYS_UNIT_STATE.EPOCH dstUnit then
      s.blnReply src dstUnit tag (bareCode ccTargetReset)
    else
      let full := decide ((s.bln.rq.filter (fun r => r.port == p)).length + 1 ≥ 512)
      let r : BlnReq := { port := p, src := src, srcUnit := srcUnit, dstUnit := dstUnit, srcEpoch := srcEpoch,
                          tag := tag, poisoned := poison, payload := payload }
      let s := { s with bln := { s.bln with rq := s.bln.rq ++ [r] } }
      let s := if full then s.bump BLN_PORT_CNT_QFULL.COUNT p else s
      let s := if dstUnit = 0x0A ∧ leAt payload 0 1 = erLookup then s.wantFor (bits (leAt payload 5 4) 23 0) else s
      s.rqDrain

def execReq (t p src dst srcUnit dstUnit srcEpoch dstEpoch tag : Nat) (poison : Bool) (payload : List (BitVec 8))
    (s : State) : Answer := happen t s (fun s =>
  if 2 ≤ p ∨ !s.portAuth p then s
  else s.reqTaken p src dst srcUnit dstUnit srcEpoch dstEpoch tag poison payload)

/-- A reply reaches the unit that asked. -/
def State.replyTo (s : State) (src srcUnit tag : Nat) (payload : List Byte) : State :=
  let bare := decide (payload.length = 1)
  if srcUnit = 0x05 then s.rangeBack tag payload
  else if srcUnit = 0x07 then s.solveBack tag payload
  else if srcUnit = 0x0A then
    match s.eph.away.find? (fun w => w.2.2 == tag), SMap.find s.eph.awayCh tag with
    | some w, _ =>
      let s := { s with eph := { s.eph with away := s.eph.away.erase w } }
      if bare then s.complete w.1 w.2.1 poolEph (leAt payload 0 1) 0 []
      else
        let reason := leAt payload 0 1
        let s := if (reason = 0 ∨ reason = 0xD ∨ reason = 0xE) ∧ s.live w.1 w.2.1 then
            s.updAux w.1 (fun x => { x with holder := some src })
          else s
        s.complete w.1 w.2.1 poolEph (leAt payload 1 1) reason (payload.drop 2)
    | none, some c =>
      let s := { s with eph := { s.eph with awayCh := SMap.del s.eph.awayCh tag } }
      if bare then s.ephAnswer c.dest c.op 0 (leAt payload 0 1) 0
      else s.ephAnswer c.dest c.op (leAt payload 2 1) (leAt payload 1 1) (leAt payload 3 4)
    | none, none =>
      if payload.length = 5 ∧ leAt payload 0 1 = ccOk then
        { s with plt := { s.plt with committed := s.plt.committed ++ [.perToken (leAt payload 1 2) (leAt payload 3 2)] } }
      else s
  else
    match s.bln.racc with
    | some (k, _) =>
      if k = tag then
        let s := { s with bln := { s.bln with racc := none } }
        let s := (s.wr BLN_RACC_CTL.CODE (leAt payload 0 1)).wr BLN_RACC_CTL.BUSY 0
        let s := if s.on BLN_RACC_CTL.WRITE ∨ bare then s else s.wr BLN_RACC_DATA.DATA (leAt payload 1 4)
        s.irq BLN_IRQ_STAT.RACC_DONE
      else s
    | none => s

/-- A reply frame: passed on, or handed to the request in flight it answers. -/
def State.rplyTaken (s : State) (p src dst srcUnit dstUnit reqEpoch tgtEpoch tag : Nat) (poison : Bool) (payload : List (BitVec 8)) : State :=
  let s := s.blnHeard p src poison
  if dst ≠ s.device then
    (s.blnForward p dst poison (frameOf fcRply poison src dst srcUnit dstUnit reqEpoch tgtEpoch tag payload)).getD s
  else
    match s.bln.flight.find? (fun f => f.tag == tag && f.dev == src) with
    | none => s.bump BLN_CNT_LATE_RPLY.COUNT
    | some f =>
      let s := { s with bln := { s.bln with flight := s.bln.flight.erase f
                                            epochs := SMap.put s.bln.epochs (32 * src + srcUnit) tgtEpoch } }
      let s := s.bump BLN_CNT_RPLY_RX.COUNT
      if reqEpoch ≠ s.rd SYS_UNIT_STATE.EPOCH f.srcUnit then s.bump SYS_UNIT_STATE.STALE_CNT f.srcUnit
      else if poison then ((s.poisonUse).replyTo src f.dstUnit tag (bareCode ccPoisoned)).rqDrain
      else (s.replyTo src f.dstUnit tag payload).rqDrain

def execRply (t p src dst srcUnit dstUnit reqEpoch tgtEpoch tag : Nat) (poison : Bool) (payload : List (BitVec 8))
    (s : State) : Answer := happen t s (fun s =>
  if 2 ≤ p ∨ !s.portAuth p then s
  else s.rplyTaken p src dst srcUnit dstUnit reqEpoch tgtEpoch tag poison payload)

/-- A frame that carries an envelope: passed on, or queued. -/
def State.envTaken (s : State) (p src dst : Nat) (payload : List (BitVec 8)) : State :=
  let s := s.blnHeard p src false
  let devid := leAt payload 8 8
  let frame := frameOf fcEnv false src dst 0x14 0x0B 0 0 0 payload
  if dst ≠ s.device ∧ dst ≠ 0xFF then (s.blnForward p dst false frame).getD s
  else if devid = s.devid then s.envQueue 3 payload
  else if s.on BLN_STAT.MASTER_STRAP then
    match s.bln.members.find? (fun m => m.devid == devid && m.dev != s.device) with
    | some m =>
      (match s.blnForward 2 m.dev false (frameOf fcEnv false s.device m.dev 0x14 0x0B 0 0 0 payload) with
       | some s => s.bump BLN_CNT_ENV_FWD.COUNT
       | none => s.envQueue 3 payload)
    | none => s.envQueue 3 payload
  else if s.rd BLN_STAT.STATE = 3 then s.envResult 3 (leAt payload 3 1 % 16) ccTimeout 0
  else s.envQueue 3 payload

/-- ENV_FRAME (R396, R639): an envelope for this device is queued on port 3; the master forwards one that names a member;
in ORPHAN one that names another device completes with TIMEOUT. -/
def execEnvFrame (t p src dst : Nat) (payload : List (BitVec 8)) (s : State) : Answer := happen t s (fun s =>
  if 2 ≤ p ∨ s.portState p ≠ psUp then s
  else s.envTaken p src dst payload)

/-! ## Remote register access (R643) -/

/-- A write of GO in BLN_RACC_CTL. -/
def State.raccGo (s : State) : State :=
  if s.on BLN_RACC_CTL.BUSY then s
  else
    let dev := s.rd BLN_RACC_CTL.DEV
    let done := fun (s : State) (code : Nat) => (s.wr BLN_RACC_CTL.CODE code).irq BLN_IRQ_STAT.RACC_DONE
    let s := s.bump BLN_CNT_RACC.COUNT
    if dev = s.device then done s ccDenied
    else if !s.blnReach dev then done (s.bump BLN_CNT_UNREACH.COUNT) ccTargetReset
    else
      let tag := s.bln.nextTag
      let p := s.rd BLN_MEM_STAT.PORT dev
      let f : BlnFlight := { tag := tag, dev := dev, dstUnit := 0x14, srcUnit := 0x14, port := p }
      let s := { s with bln := { s.bln with nextTag := (tag + 1) % 2 ^ 32, flight := s.bln.flight ++ [f], racc := some (tag, s.now) } }
      (s.wr BLN_RACC_CTL.BUSY 1).blnPut p (s.blnFrame fcRacc false dev 0x14 0x14 (s.rd SYS_UNIT_STATE.EPOCH 0x14)
        (s.blnEpoch dev 0x14) tag (leBytes 1 (s.rd BLN_RACC_CTL.WRITE) ++ leBytes 3 (4 * s.rd BLN_RACC_ADDR.OFFSET) ++
          leBytes 4 (s.rd BLN_RACC_DATA.DATA)))

def execRaccGo (t : Nat) (s : State) : Answer := happen t s State.raccGo

/-- RACC_TIMEOUT: a reply that comes later is dropped as late. -/
def execRaccTimeout (t : Nat) (s : State) : Answer := happen t s (fun s =>
  match s.bln.racc with
  | some (tag, since) =>
    if s.now < since + usT 10 then s
    else
      let s := { s with bln := { s.bln with racc := none, flight := s.bln.flight.filter (fun f => f.tag != tag) } }
      ((s.wr BLN_RACC_CTL.CODE ccTimeout).wr BLN_RACC_CTL.BUSY 0).irq BLN_IRQ_STAT.RACC_DONE
  | none => s)

/-! ## Reset (R644) -/

/-- A unit reset of BLN takes every port DOWN; what was in flight or queued is lost. -/
def State.blnUnitReset (s : State) : State :=
  let s := (s.portDown 0).portDown 1
  let s := s.flightsLost (fun _ => true)
  { s with bln := { s.bln with rq := [], serving := [], ports := [], idents := [], members := [], racc := none } }

/-- After the reset of its registers: STATE as the links give it. At INIT the ports in use train. -/
def State.blnInit (s : State) : State := ((s.blnRoutes.blnJudge).portTrain 0).portTrain 1

end Sys2Proof.Machine
end

