-- ==== Sys2Proof/Machine/Hel.lean ====
section
/-! DEFINITION. The commands of HEL (R72–R104). -/

namespace Sys2Proof.Machine

/-! ## The current loop (R76, R96) -/

/-- The level of a burst at a loop update: a lower one takes effect at once, a higher one over four updates. -/
def State.levelStep (s : State) (z : Nat) (e : LfpEx) : State :=
  let (kt, src) := s.scale e.sol
  if kt ≤ e.kq then
    let s := { s with hel := { s.hel with ramp := SMap.del s.hel.ramp z } }
    (s.updEx z (fun e => { e with kq := kt })).setPin z kt src
  else
    let r := SMap.get s.hel.ramp z 4
    let kq := e.kq + (kt - e.kq + r - 1) / r
    let s := { s with hel := { s.hel with
      ramp := if r ≤ 1 then SMap.del s.hel.ramp z else SMap.put s.hel.ramp z (r - 1) } }
    let src := if kq = 1024 then 0 else if src = 0 then s.rd HEL_ZONE_STAT.PIN_SRC z else src
    (s.updEx z (fun e => { e with kq := kq })).setPin z kq src

/-- The correction of a channel against its feed-forward drive, in 0.01 %, rounded up (R89). -/
def loopCorr (ffAmp ffPh amp ph : Nat) : Nat :=
  if ffAmp = 0 then 0
  else
    let a : Rat := amp
    let b : Rat := ffAmp
    let c := cosDeg (((ph : Int) - (ffPh : Int) : Int) / (20 : Rat))
    (rootFine (max 0 (a * a + b * b - 2 * a * b * c)) * 10000 / b).ceil.toNat

/-- One channel at a loop update: outside its tolerances AMP and PHASE become those the loop arrives at. -/
def State.loopChan (s : State) (kq : Nat) (c : ChSol) (o : LoopObs) : State :=
  let n := c.ch
  let s := (s.wr HEL_CH_IMEAS.MA (min 0xFFFF o.ma) n).wr HEL_CH_IMEAS.PHASE (o.ph % 7200) n
  let tgt := pairAbs c.i * kq / 1024 / 1000000
  let tph := phaseCode (c.i.1, c.i.2)
  let dph := (o.ph % 7200 + 7200 - tph) % 7200
  let inAmp := decide (|(o.ma : Rat) - tgt| ≤ tgt * (s.rd HEL_LOOP_CFG.TOL_AMP : Nat) / 1000)
  let inPh := decide (min dph (7200 - dph) ≤ s.rd HEL_LOOP_CFG.TOL_PH)
  let s := if inAmp && inPh then s
    else (s.wr HEL_CH_AMP.AMP_APPLIED (min 4095 o.amp) n).wr HEL_CH_PHASE.PHASE_APPLIED (o.phase % 7200) n
  let amp := s.rd HEL_CH_AMP.AMP_APPLIED n
  let x := loopCorr (ampCode (s.rd HEL_CH_BRIDGE.VBR_MV n) c.v kq) (phaseCode (c.v.1, c.v.2)) amp
    (s.rd HEL_CH_PHASE.PHASE_APPLIED n)
  let s := { s with hel := { s.hel with corr := SMap.put s.hel.corr n x } }
  let s := s.wr HEL_CH_STAT.DRIFT_PCT (min 255 (x / 100)) n
  let s := if amp ≥ 4095 then s.flag HEL_CH_STAT.SAT true n else s
  if kq < 1024 then s.flag HEL_CH_STAT.LIMITED true n else s

/-- One loop update of zone z: the level step and each channel's loop (R91–R93). -/
def State.loopTaken (s : State) (z : Nat) (e : LfpEx) (obs : List LoopObs) : State :=
  let s := s.levelStep z e
  let kq := match s.exOf z with
    | some e => e.kq
    | none => e.kq
  obs.foldl (fun (a : State) o =>
    match e.sol.find? (fun c => c.ch == o.ch) with
    | some c => a.loopChan kq c o
    | none => a) s

/-- LOOP_UPDATE (R76, R96). -/
def execLoopUpdate (t z : Nat) (obs : List LoopObs) (s : State) : Answer := happen t s (fun s =>
  match s.exOf z with
  | none => s
  | some e => s.loopTaken z e obs)

/-! ## Trips and guards (R77–R79, R97) -/

/-- Channel n trips: counted, stopped, its zone solved again, and quarantined at the third trip in 60 s (R96). -/
def State.tripped (s : State) (n : Nat) : State :=
  let s := (s.bump HEL_CNT_TRIP.COUNT).irq HEL_IRQ_STAT.TRIP
  let s := s.wr HEL_CH_STAT.TRIP 1 n
  let l := s.now :: (SMap.get s.hel.trips n []).filter (fun a => decide (s.now < a + secT 60))
  let s := { s with hel := { s.hel with trips := SMap.put s.hel.trips n l, testAt := SMap.del s.hel.testAt n } }
  let z := (s.lfp.ex.find? (fun e => e.chans.contains n)).map (·.zone)
  let s := s.stopChan n ccWireBreak
  let s := match z with
    | some z => s.resolveZone z
    | none => s
  let s := if l.length ≥ 3 then s.quarantine n else s
  s.chReg n

/-- TRIP (R77): the channel's gates go low; its burst stops with WIRE_BREAK and its zone is solved again; three within
60 s quarantine it. -/
def execTrip (t n : Nat) (s : State) : Answer := happen t s (fun s =>
  let st := s.chState n
  if n ≥ 64 ∨ !(st == chDrive || st == chMeas || st == chCal || st == chTest) then s
  else s.tripped n)

/-- LOCK_GUARD (R97): the burst stops with REG_LIMIT; raised and archived. -/
def execLockGuard (t n : Nat) (s : State) : Answer := happen t s (fun s =>
  if !s.driving n then s
  else
    let s := (s.irq HEL_IRQ_STAT.LOCK_GUARD).archiveEvent 0x02 0 0 (leBytes 4 n) ccRegLimit
    s.stopChan n ccRegLimit)

/-! ## Modes (R80) -/

/-- The hop carrier nearest the TEST carrier. -/
def State.testHop (s : State) : Nat :=
  let c : Int := clampTo 200000 1500000 (s.rd HEL_TEST_CARRIER.CARRIER)
  let d := fun (k : Nat) => ((s.hopCar k : Int) - c).natAbs
  (List.range 3).foldl (fun b k => if d k < d b then k else b) 0

/-- The drive of TEST under R93: the current is that of the present self term; without one the drive is as written. -/
def State.testDrive (s : State) (n : Nat) : State :=
  let amp := s.rd HEL_CH_AMP.AMP_TEST n
  let zz := pairAbs (s.zAt s.testHop n n)
  let v := vfsNano (s.rd HEL_CH_BRIDGE.VBR_MV n) * amp / 4095
  let kq := if zz = 0 then 1024
    else
      let i := v * 1000000 / zz
      min (kOf ((s.lockMa n : Nat) * 1000000) i) (kOf ((s.ceilMa n : Nat) * 1000000) i)
  let s := s.wr HEL_CH_AMP.AMP_APPLIED (amp * kq / 1024) n
  s.wr HEL_CH_PHASE.PHASE_APPLIED (s.rd HEL_CH_PHASE.PHASE_TEST n % 7200) n

/-- CHANNEL_MODE_WRITE (R80): TEST and CLAMP are ignored for a channel of an enabled zone. -/
def State.channelMode (s : State) (n mode : Nat) : State :=
  let m := mode % 4
  if n ≥ 64 ∨ (m ≥ 2 ∧ (s.zonesOf n).any s.zoneEnabled) then s
  else
    let was := s.chMode n
    let s := s.wr HEL_CH_CTL.MODE m n
    let m := s.chMode n
    let s := { s with hel := { s.hel with
      testAt := if m = 3 ∧ !s.quarantined n then SMap.put s.hel.testAt n s.now else SMap.del s.hel.testAt n } }
    let s := if m = 3 ∧ !s.quarantined n then s.testDrive n else s
    let s := if (was = 1) = (m = 1) then s
      else
        let z := (s.lfp.ex.find? (fun e => e.chans.contains n))
        let s := match z with
          | some e => if m = 1 then (s.exLeave e.zone).afterMiss e.session else s
          | none => s
        (s.zonesOf n).foldl (fun (a : State) z =>
          let a := (List.range 3).foldl (fun (b : State) k => b.unsolve z k) a
          (a.resolveZone z).zoneRegs z) s
    s.chReg n

def execChannelModeWrite (t n mode : Nat) (s : State) : Answer := happen t s (fun s => s.channelMode n mode)

/-- TEST_TIMEOUT (R80): after 10 s a channel in TEST returns to OFF. -/
def execTestTimeout (t n : Nat) (s : State) : Answer := happen t s (fun s =>
  match SMap.find s.hel.testAt n with
  | some a =>
    if s.now < a + secT 10 then s
    else
      let s := { s with hel := { s.hel with testAt := SMap.del s.hel.testAt n } }
      (s.wr HEL_CH_CTL.MODE 1 n).chReg n
  | none => s)

/-! ## Calibration (R81–R83, R103) -/

/-- HEL_CAL_ALL (R81). -/
def State.calAll (s : State) : State :=
  (List.range 64).foldl (fun (a : State) n => a.queueCal n) s

def execHelCalAll (t : Nat) (s : State) : Answer := happen t s (fun s => s.calAll)

/-- HEL_CAL_ONE (R81). -/
def State.calOne (s : State) (n : Nat) : State :=
  if n < 64 then s.queueCal n else s

def execHelCalOne (t n : Nat) (s : State) : Answer := happen t s (fun s => s.calOne n)

/-- The channel holds calibration values: those it measured or loaded, or the factory's (R83). -/
def State.calHeld (s : State) (n : Nat) : Bool := (s.calEff (16 * n)).isSome

/-- A channel's effective tuning and the DETUNED mark (R83). -/
def State.tuneRegs (s : State) (n : Nat) (fRes q : Int) : State :=
  let s := (s.wr HEL_CH_TUNE.F_RES (min 0xFFFF fRes.toNat) n).wr HEL_CH_TUNE.Q (min 0xFFF q.toNat) n
  let c : Int := s.hopCentre
  s.flag HEL_CH_STAT.DETUNED (decide (3 * c < 100 * ((100 * fRes - c).natAbs : Int))) n

/-- A tuning calibration of channel n is judged and stored. -/
def State.calTaken (s : State) (n amb : Nat) (ofs : Int) (fRes q : Nat) (ph : Int) : State :=
  let rel := s.hel.release.contains n
  let s := { s with hel := { s.hel with calQ := s.hel.calQ.erase n, release := s.hel.release.erase n } }
  let s := s.wr HEL_CAL_STAT.LAST_CH n
  let ok := amb ≤ s.rd HEL_AMB_CFG.AMB_MAX ∧ ofs.natAbs ≤ 256 ∧ s.rd LFP_CH_STAT.FAULT n = 0
  let s := if ok then
      let s := s.wr HEL_CAL_STAT.RESULT ccOk
      let eff := fun (item : Nat) (v : Int) => ((s.calWith item (v - (s.calFact item).getD 0)).map (·.1)).getD v
      let f := eff (16 * n) fRes
      let qq := eff (16 * n + 1) q
      let s := s.calStore [(16 * n, fRes), (16 * n + 1, q), (16 * n + 2, ph), (16 * n + 3, ofs)]
      let s := s.tuneRegs n f qq
      let s := { s with hel := { s.hel with calOk := SMap.put s.hel.calOk n 1 } }
      if rel then
        let s := s.archiveEvent 0x02 0 0 (leBytes 4 n ++ leBytes 4 0)
        (s.zonesOf n).foldl (fun (a : State) z =>
          let a := (List.range 3).foldl (fun (b : State) k => b.unsolve z k) a
          (a.resolveZone z).zoneRegs z) s
      else s
    else
      let s := (s.wr HEL_CAL_STAT.RESULT ccPrecondition).irq HEL_IRQ_STAT.CAL_FAIL
      if rel then s.setQuar n true else s
  let s := if s.calHeld n then s else s.quarantine n
  (s.helStat).chRegs

/-- TUNING_CAL_DONE (R81–R83, R103): new values on success; PRECONDITION keeps the old ones. -/
def execTuningCalDone (t n amb : Nat) (ofs : Int) (fRes q : Nat) (ph : Int) (s : State) : Answer := happen t s (fun s =>
  if !s.hel.calQ.contains n ∨ s.driving n ∨ s.inSlot n then s
  else s.calTaken n amb ofs fRes q ph)

/-- HEL_QUAR_CLEAR (R103): each bit written 1 is cleared and its release calibration starts. -/
def State.quarClear (s : State) (high : Bool) (w : Nat) : State :=
  let base := if high then 32 else 0
  let s := ((bitList w 32).map (· + base)).foldl (fun (a : State) n =>
    if a.quarantined n then
      let a := a.setQuar n false
      let a := (a.wr LFP_CH_STAT.FAULT 0 n).wr HEL_CH_STAT.CFAULT 0 n
      let a := { a with hel := { a.hel with release := a.hel.release ++ [n] } }
      a.queueCal n
    else a) s
  s.chRegs

def execHelQuarClear (t : Nat) (high : Bool) (w : Nat) (s : State) : Answer := happen t s (fun s => s.quarClear high w)

/-! ## The matrix (R84–R92) -/

/-- MEAS_ALL (R89). -/
def State.measAll (s : State) : State :=
  s.queueCols 3 s.usableHops

def execMeasAll (t : Nat) (s : State) : Answer := happen t s (fun s => s.measAll)

/-- MEAS_ONE (R89). -/
def State.measOne (s : State) (n : Nat) : State :=
  if n < 64 then (s.usableHops.foldl (fun (a : State) k => a.queueCol 3 k n) s).helStat else s

def execMeasOne (t n : Nat) (s : State) : Answer := happen t s (fun s => s.measOne n)

/-- REMEAS_PERIOD (R89). -/
def execRemeasPeriod (t : Nat) (s : State) : Answer := happen t s (fun s =>
  if s.running 0x02 ∧ s.now ≥ s.hel.periodAt + secT (orOne (s.rd HEL_DRIFT_CFG.REMEAS_S)) ∧ s.pwrState ≤ psS1 then
    { s with hel := { s.hel with periodAt := s.now } }.queueCols 4 s.usableHops
  else s)

/-- The probe current of a column (R88): no point of an enabled zone sees more than a quarter of its H_WAKE. -/
def State.probeMa (s : State) (j : Nat) : Nat :=
  let p0 := clampTo 5 500 (s.rd HEL_MEAS_CFG.PROBE_MA)
  let lim := s.hel.progs.foldl (fun (a : Nat) p =>
    if s.zoneEnabled p.1 then
      p.2.points.foldl (fun (b : Nat) pt =>
        match SMap.find pt.sens j with
        | some x => if sqInt x = 0 then b else min b (25000 * (p.2.hWake : Rat) / pairAbs x).floor.toNat
        | none => b) a
    else a) p0
  max 5 lim

/-- The ticks of a column: 8 ambient cycles, SETTLE, MEAS_CYC and SETTLE (R84). -/
def State.colTicks (s : State) (k : Nat) : Nat :=
  let st := max 4 (s.rd HEL_MEAS_CFG.SETTLE)
  cyclesT (s.cycle1024 k) (8 + 2 * st + max 8 (s.rd HEL_MEAS_CFG.MEAS_CYC))

/-- A slot's sessions and polls on its channels are deferred: windows are paused (R91, R92). -/
def State.deferOn (s : State) (chans : List Nat) : State :=
  let hit := fun (z : Nat) => (s.zoneChans z).any chans.contains
  let nw := (s.lfp.wins.filter (fun w => hit w.zone && !w.deferred)).length +
    (s.lfp.polls.filter (fun p => p.isDue && hit (s.rd LFP_SCHED_CTL.ZONE p.entry) && !p.deferred)).length
  let s := s.add LFP_CNT_DEFER.DEFERRED nw
  { s with lfp := { s.lfp with
    wins := s.lfp.wins.map (fun w =>
      if hit w.zone then { w with deferred := true, pauseFrom := some (w.pauseFrom.getD s.now) } else w)
    polls := s.lfp.polls.map (fun p =>
      if p.isDue ∧ hit (s.rd LFP_SCHED_CTL.ZONE p.entry) then { p with deferred := true } else p) } }

/-- The slot ends: the pauses end (R92). -/
def State.slotEnd (s : State) : State :=
  let go := fun (w : LfpWin) =>
    { w with paused := w.paused + (w.pauseFrom.map (fun p => s.now - p)).getD 0, pauseFrom := none }
  let since := if s.hel.cols.isEmpty then none else some s.now
  let s := { s with
    hel := { s.hel with slot := none, slotSince := since }
    lfp := { s.lfp with wins := s.lfp.wins.map go } }
  (s.helStat).chRegs

/-- A postponed column (R87): after three in a row it keeps its values with PRECONDITION. -/
def State.postpone (s : State) (c : HelCol) : State :=
  let key := 64 * c.car + c.ch
  let n := SMap.get s.hel.late key 0 + 1
  let s := s.bump HEL_MEAS_STAT.POSTPONED
  if n ≥ 3 then
    let s := { s with hel := { s.hel with late := SMap.del s.hel.late key, cols := s.hel.cols.erase c } }
    (s.wr HEL_MEAS_STAT.RESULT ccPrecondition).irq HEL_IRQ_STAT.MEAS_FAIL
  else { s with hel := { s.hel with late := SMap.put s.hel.late key n } }

/-- A measurement slot is granted over its channels; columns with a high ambient are put off. -/
def State.measSlot (s : State) (chans amb : List Nat) : State :=
  let take := s.slotCols
  let pairs := List.zip take (List.range take.length)
  let high := fun (p : HelCol × Nat) => decide (s.rd HEL_AMB_CFG.AMB_MAX < amb.getD p.2 0)
  let late := (pairs.filter high).map (·.1)
  let good : List HelCol := (pairs.filter (fun p => !high p)).map (·.1)
  let s := late.foldl (fun (a : State) c => a.postpone c) s
  match good with
  | [] => ({ s with hel := { s.hel with slotSince := if s.hel.cols.isEmpty then none else some s.now } }.helStat).chRegs
  | c :: _ =>
    let s := { s with hel := { s.hel with
      slot := some { cols := good.map (fun (c : HelCol) => (c.car, c.ch)), start := s.now, probe := s.probeMa c.ch }
      late := good.foldl (fun m (c : HelCol) => SMap.del m (64 * c.car + c.ch)) s.hel.late } }
    ((s.deferOn chans).helStat).chRegs

/-- MEAS_SLOT_GRANT (R87, R91, R120): LFP grants the slot once its channels are free and no earlier-ranked wake waits
on them. -/
def execMeasSlotGrant (t : Nat) (amb : List Nat) (s : State) : Answer := happen t s (fun s =>
  let chans := s.slotChans
  let busy := s.lfp.ex.any (fun e => e.chans.any chans.contains || (s.listenSet e.zone e.car).any chans.contains)
  let first := s.lfpItems.any (fun i => decide (i.rank < s.slotRank) && (s.zoneChans i.zone).any chans.contains)
  if s.hel.cols.isEmpty ∨ s.hel.slot.isSome ∨ busy ∨ first ∨ s.pwrState ≥ psS2 ∨
      !(s.running 0x02 || s.rep 0x02 == stInit) then s
  else s.measSlot chans amb)

/-- The quotient of two phasors as an impedance in µΩ, or a ratio in 10^-9 (`k`); none for no current. -/
def phasorDiv (a b : Int × Int) (k : Int) : Option (Int × Int) :=
  let d := sqInt b
  if d = 0 then none
  else some (k * (a.1 * b.1 + a.2 * b.2) / d, k * (a.2 * b.1 - a.1 * b.2) / d)

/-- A quotient that no current defines is a value the spec does not give: a free one. -/
def State.freePair (s : State) (p : Option (Int × Int)) : (Int × Int) × State :=
  match p with
  | some x => (x, s)
  | none =>
    let (a, s) := s.draw
    let (b, s) := s.draw
    ((toSigned 32 a, toSigned 32 b), s)

/-- Store an entry of Z, keeping the value it had before its fresh measurement (R86). -/
def State.putZ (s : State) (k i j : Nat) (v : Int × Int) : State :=
  let key := zKey k i j
  let old := if s.hel.fresh.contains key ∨ (SMap.find s.hel.zOld key).isSome then s.hel.zOld
    else SMap.put s.hel.zOld key (s.zAt k i j)
  { s with hel := { s.hel with z := SMap.put s.hel.z key v, zOld := old
                               fresh := if s.hel.fresh.contains key then s.hel.fresh else s.hel.fresh ++ [key] } }

/-- Both entries of a pair are fresh: their mean, or another measurement, or the previous values with ASYM (R86). -/
def State.settlePair (s : State) (k i j : Nat) : State :=
  let a := zKey k i j
  let b := zKey k j i
  if !(s.hel.fresh.contains a && s.hel.fresh.contains b) then s
  else
    let x := s.zAt k i j
    let y := s.zAt k j i
    let d := (x.1 - y.1, x.2 - y.2)
    let clear := fun (s : State) => { s with hel := { s.hel with
      fresh := (s.hel.fresh.erase a).erase b, zOld := SMap.del (SMap.del s.hel.zOld a) b
      again := (s.hel.again.erase a).erase b } }
    if max (sqInt x) (sqInt y) < 100 * sqInt d then
      if s.hel.again.contains (min a b) then
        let xo := SMap.get s.hel.zOld a (0, 0)
        let yo := SMap.get s.hel.zOld b (0, 0)
        let s := { s with hel := { s.hel with z := SMap.put (SMap.put s.hel.z a xo) b yo } }
        (clear s).wr HEL_MEAS_STAT.ASYM 1
      else
        let s := { s with hel := { s.hel with fresh := (s.hel.fresh.erase a).erase b, again := s.hel.again ++ [min a b] } }
        (s.queueCol 1 k i).queueCol 1 k j
    else
      let m := ((x.1 + y.1) / 2, (x.2 + y.2) / 2)
      clear { s with hel := { s.hel with z := SMap.put (SMap.put s.hel.z a m) b m } }

/-- An off-diagonal term from its ratio of currents and its self term (R85). -/
def ratioTerm (zii r : Int × Int) : Int × Int :=
  (-(zii.1 * r.1 - zii.2 * r.2) / 1000000000, -(zii.1 * r.2 + zii.2 * r.1) / 1000000000)

/-- One row of a column (R85). -/
def State.colRow (s : State) (k j : Nat) (ij : Int × Int) (i : Nat) (ii : Int × Int) : State :=
  let (r, s) := s.freePair (phasorDiv ii ij 1000000000)
  if s.hel.done.contains (64 * k + i) then (s.putZ k i j (ratioTerm (s.zAt k i i) r)).settlePair k i j
  else { s with hel := { s.hel with ratio := SMap.put s.hel.ratio (zKey k i j) r } }

/-- A column's terms (R85), and those that waited for its self term. -/
def State.column (s : State) (k j : Nat) (v : Int × Int) (i : List (Int × Int)) : State :=
  let set := s.measSet k j
  let ij := i.getD j (0, 0)
  let (zjj, s) := s.freePair (phasorDiv v ij 1000000)
  let s := { s with hel := { s.hel with
    z := SMap.put s.hel.z (zKey k j j) zjj
    done := if s.hel.done.contains (64 * k + j) then s.hel.done else s.hel.done ++ [64 * k + j] } }
  let s := (set.filter (· ≠ j)).foldl (fun (a : State) r => a.colRow k j ij r (i.getD r (0, 0))) s
  (List.range 64).foldl (fun (a : State) c =>
    match SMap.find a.hel.ratio (zKey k j c) with
    | some r =>
      let a := { a with hel := { a.hel with ratio := SMap.del a.hel.ratio (zKey k j c) } }
      (a.putZ k j c (ratioTerm zjj r)).settlePair k j c
    | none => a) s

/-- A column of the coupling matrix is measured: stored, counted, its zones queued to be solved. -/
def State.columnTaken (s : State) (k j : Nat) (rest : List (Nat × Nat)) (v : Int × Int) (amps : List (Int × Int)) : State :=
  let s := { s with hel := { s.hel with cols := s.hel.cols.filter (fun c => !(c.car == k && c.ch == j)) } }
  let s := s.column k j v amps
  let s := ((s.bump HEL_CNT_MEAS.COUNT).wr HEL_MEAS_STAT.LAST_COL j).wr HEL_MEAS_STAT.RESULT ccOk
  let s := if s.hel.cols.isEmpty then s.irq HEL_IRQ_STAT.MEAS_DONE else s
  let s := (s.helStat)
  let s := (s.hel.progs.filter (fun p => bit p.2.mask j)).foldl (fun (a : State) p => a.queueSolve p.1 k) s
  match rest with
  | [] => s.slotEnd
  | c :: _ =>
    ({ s with hel := { s.hel with slot := some { cols := rest, start := s.now, probe := s.probeMa c.2 } } }).chRegs

/-- COLUMN_DONE (R84–R86, R90): the column of the slot that is measured now completes; zones whose columns are complete
are solved again. -/
def execColumnDone (t : Nat) (v : Int × Int) (amps : List (Int × Int)) (s : State) : Answer := happen t s (fun s =>
  match s.hel.slot with
  | none => s
  | some x =>
    match x.cols with
    | [] => s.slotEnd
    | (k, j) :: rest =>
      if s.now < x.start + s.colTicks k then s
      else s.columnTaken k j rest v amps)

/-! ## Solves (R90, R100, R101) -/

/-- SOLVE_ALL (R90). -/
def State.solveAll (s : State) : State :=
  ((List.range 32).filter s.zoneEnabled).foldl (fun (a : State) z => a.resolveZone z) s

def execSolveAll (t : Nat) (s : State) : Answer := happen t s (fun s => s.solveAll)

/-- SOLVE_ONE (R90). -/
def execSolveOne (t z : Nat) (s : State) : Answer := happen t s (fun s => s.resolveZone z)

/-- The inside and outside fields of a zone in A/m (R100); a nonzero margin of the program comes before the profile's. -/
def State.zoneFields (s : State) (p : ZoneProg) : Rat × Rat :=
  let mIn := if p.mIn = 0 then min 200 (s.rd HEL_SOLVE_CFG.M_IN) else p.mIn
  let mOut := if p.mOut = 0 then min 90 (s.rd HEL_SOLVE_CFG.M_OUT) else p.mOut
  let h : Rat := (p.hWake : Rat) / 10000
  (h * (100 + (mIn : Nat)) / 100, h * (100 - (mOut : Nat)) / 100)

/-- Solve a zone at a carrier (R100): the solution and the iterations used. -/
def State.solveZone (s : State) (z k : Nat) (p : ZoneProg) : ZoneSol × Nat :=
  let cs := s.zoneChans z
  let zc := fun (i j : Nat) => let q := s.zAt k i j; (((q.1 : Rat) / 1000000, (q.2 : Rat) / 1000000) : Cx)
  let w := cs.map (fun c => max (zc c c).1 (1 / 1000000))
  let pts := (p.points.filter (fun x => x.typ < 2)).map (fun x =>
    ({ inside := x.typ == 0, sens := cs.map (fun c =>
        let q : Int × Int := SMap.get x.sens c ((0 : Int), (0 : Int))
        ((q.1 : Rat) / 1000000, (q.2 : Rat) / 1000000)) } : SolvePt))
  let (hIn, hOut) := s.zoneFields p
  let act := (List.range pts.length).filter (fun q => ((pts[q]?).map (·.inside)).getD false)
  let maxIt := clampTo 1 255 (s.rd HEL_SOLVE_CFG.MAX_ITER)
  let tol : Rat := (clampTo 1 100 (s.rd HEL_SOLVE_CFG.TOL) : Nat) / 1000
  match zoneSolve w pts hIn hOut tol maxIt 0 act (act.map (fun _ => (hIn, 0))) with
  | none =>
    let wire := (bitList p.mask 64).any s.quarantined
    (⟨if wire then ccWireBreak else ccPrecondition, []⟩, maxIt)
  | some (i, n) =>
    let pair := List.zip cs i
    let sols := pair.map (fun q =>
      let v := Cx.sum (pair.map (fun d => Cx.mul (zc q.1 d.1) d.2))
      ({ ch := q.1, i := toNano q.2, v := toNano v } : ChSol))
    (⟨ccOk, sols⟩, n)

/-- A zone's currents are solved on a carrier: the record, its registers, and the windows of an unavailable zone. -/
def State.solveTaken (s : State) (z k : Nat) (p : ZoneProg) : State :=
  let (sol, n) := s.solveZone z k p
  let s := { s with hel := { s.hel with sols := SMap.put s.hel.sols (4 * z + k) sol } }
  let s := ((s.wr HEL_SOLVE_STAT.ITER n).wr HEL_SOLVE_STAT.LAST_ZONE z).wr HEL_SOLVE_STAT.RESULT sol.code
  let s := ((s.bump HEL_CNT_SOLVE.COUNT).zoneRegs z).helStat
  if s.rd HEL_ZONE_STAT.STATE z = 4 then
    let ws := s.lfp.wins.filter (fun w => w.zone == z && w.entry.isNone && !s.exRuns w.session w.gen)
    ws.foldl (fun (a : State) w => (a.dropWin w.session).abort w.session (a.rd HEL_ZONE_STAT.RESULT z)) s
  else s

/-- ZONE_SOLVE_DONE (R101, R102): the first waiting solve completes; wakes that wait on a zone that becomes UNAVAILABLE
complete with its RESULT. -/
def execZoneSolveDone (t : Nat) (s : State) : Answer := happen t s (fun s =>
  match s.hel.solves with
  | [] => s
  | (z, k) :: rest =>
    let s := { s with hel := { s.hel with solves := rest } }
    match s.zoneProg z with
    | none => s.helStat
    | some p => s.solveTaken z k p)

end Sys2Proof.Machine
end

