-- ==== Sys2Proof/Machine/Lfp.lean ====
section
/-! DEFINITION. The commands of LFP (R107–R134). -/

namespace Sys2Proof.Machine

/-! ## Polls (R117, R118, R122) -/

/-- PERIOD_MS in force: 1–9 act as 10; 0 disables the entry. -/
def State.pollPeriod (s : State) (e : Nat) : Nat :=
  let p := s.rd LFP_SCHED_TIME.PERIOD_MS e
  if p = 0 then 0 else max 10 p

/-- The entry runs. -/
def State.pollOn (s : State) (e : Nat) : Bool :=
  decide (e < 64) && s.on LFP_SCHED_CTL.EN e && s.on LFP_CTL.SCHED_EN && decide (s.pollPeriod e ≠ 0) && s.running 0x03

/-- A Meridian millisecond at which an entry falls due. -/
def State.dueMs (s : State) (e ms : Nat) : Bool :=
  let p := s.pollPeriod e
  decide (p ≠ 0) && ms % p == s.rd LFP_SCHED_TIME.PHASE_MS e % p

/-- The next millisecond after one at which the entry falls due. -/
def State.nextDue (s : State) (e ms : Nat) : Nat :=
  let p := s.pollPeriod e
  let ph := s.rd LFP_SCHED_TIME.PHASE_MS e % p
  ms + 1 + (ph + p - (ms + 1) % p) % p

/-- POLL_OWNER_REQUEST (R118): within 2 ms of the due instant LFP asks SES for an owner. -/
def execPollOwnerRequest (t e : Nat) (s : State) : Answer := happen t s (fun s =>
  let due := s.nextDue e (s.now / msT 1) * msT 1
  if s.pollOn e && decide (due ≤ s.now + msT 2) && decide (s.pwrState ≤ psS1) &&
      !s.lfp.polls.any (fun p => p.entry == e && p.due == due) then
    let p : LfpPoll := { entry := e, due := due, asked := true, owner := none, isDue := false }
    { s with lfp := { s.lfp with polls := s.lfp.polls ++ [p] } }
  else s)

/-- POLL_DUE (R117): the entry's poll falls due; in S3 only that of S3_ENTRY (R134). -/
def execPollDue (t e : Nat) (s : State) : Answer := happen t s (fun s =>
  let ms := s.now / msT 1
  if s.pollOn e && s.dueMs e ms && (decide (s.pwrState ≤ psS1) || (s.pwrState == psS3 && e == s.rd LFP_CTL.S3_ENTRY)) then
    let due := ms * msT 1
    if s.lfp.polls.any (fun p => p.entry == e && p.due == due) then
      let ps := s.lfp.polls.map (fun p => if p.entry = e ∧ p.due = due then { p with isDue := true } else p)
      { s with lfp := { s.lfp with polls := ps } }
    else
      let p : LfpPoll := { entry := e, due := due, asked := false, owner := none, isDue := true }
      { s with lfp := { s.lfp with polls := s.lfp.polls ++ [p] } }
  else s)

/-- POLL_SKIP (R122): a poll that has waited one full period. -/
def execPollSkip (t e : Nat) (s : State) : Answer := happen t s (fun s =>
  match s.lfp.polls.find? (fun p => p.entry == e && p.isDue && decide (s.now ≥ p.due + msT (s.pollPeriod e))) with
  | some p => s.skipPoll p
  | none => s)

/-! ## Exchanges -/

/-- EXCHANGE_COMMIT (R120, R131): the highest-ranked work that can start reaches its commit point. -/
def execExchangeCommit (t : Nat) (s : State) : Answer := happen t s (fun s =>
  if s.running 0x03 || s.pwrState == psS3 then s.opportunity else s)

/-- A directed wake opens its window. -/
def State.wakeOpened (s : State) (n : Nat) (c : Ctx) (wid rate md fmt : Option Nat) : State :=
  let w : LfpWin := { session := n, gen := c.gen, zone := c.zone, entry := none, wakeId := wid.getD 0xFF,
                      rate := rate.getD (s.rd LFP_RX_CFG.RATE), md := md.getD (s.rd LFP_RX_CFG.MOD),
                      fmt := fmt.getD (s.rd LFP_RX_CFG.FMT), since := s.now }
  let s := { s with lfp := { s.lfp with wins := s.lfp.wins ++ [w] } }
  (s.updCtx n (fun c => c.setPend pendLfp true)).lfpStat

/-- DIRECTED_WAKE (R119): accepted, and the wake window begins; a zone that is UNAVAILABLE answers at once. -/
def execDirectedWake (t n : Nat) (wid rate md fmt : Option Nat) (s : State) : Answer := happen t s (fun s =>
  match s.ctx? n with
  | none => s
  | some c =>
    if c.kind ≠ 1 ∨ c.state ≠ ssIdle ∨ (s.winOf n).isSome ∨ !c.openEarly then s
    else if !s.running 0x03 then s.abort n ccBusy
    else if s.rd HEL_ZONE_STAT.STATE c.zone = 4 then s.abort n (s.rd HEL_ZONE_STAT.RESULT c.zone)
    else s.wakeOpened n c wid rate md fmt)

/-- WAKE_WINDOW_EXPIRED (R119). -/
def execWakeWindowExpired (t n : Nat) (s : State) : Answer := happen t s (fun s =>
  match s.winOf n with
  | some w => if s.winOver w ∧ !s.exRuns n w.gen then (s.dropWin n).abort n ccTimeout else s
  | none => s)

/-- SOF_DETECTED (R113): reception starts inside the window; in the guard cell the SOF is LATE. -/
def execSofDetected (t z : Nat) (s : State) : Answer := happen t s (fun s =>
  match s.exOf z with
  | none => s
  | some e =>
    if e.sof.isSome ∨ e.ended ∨ s.now < s.turnLo e then s
    else if !e.closed ∧ s.now ≤ s.turnHi e then s.updEx z (fun e => { e with sof := some s.now })
    else if s.now > s.turnHi e ∧ s.now ≤ s.turnHi e + cellT e.rate then
      let s := (s.bump LFP_CNT_LATE.COUNT).irq LFP_IRQ_STAT.LATE
      s.lfpEvent lkLate e.car 0 z e.entry e.session 0
    else s)

/-- TURNAROUND_EXPIRED (R113, R126): no SOF started; with in-band power the exchange is drowned; a poll's owner returns
unused. -/
def execTurnaroundExpired (t z pow : Nat) (s : State) : Answer := happen t s (fun s =>
  match s.exOf z with
  | none => s
  | some e =>
    if e.sof.isSome ∨ e.closed ∨ s.now < s.turnHi e then s
    else if pow ≥ s.rd LFP_DROWN_CFG.INT_DB then s.drowned e
    else
      let s := s.updEx z (fun e => { e with closed := true })
      if e.owned ∧ !e.void ∧ e.entry.isSome then
        (s.updEx z (fun e => { e with owned := false, ended := true })).pollUnused e
      else s)

/-- The check of a reply body (R111). -/
def replyGood (fmt body : Nat) : Bool :=
  if fmt = 0 then crcBits 4 3 15 (bitsLsb 28 body) == bits body 31 28
  else crcBits 16 0x1021 0xFFFF (bitsLsb 48 body) == bits body 63 48

/-- SNR registers of the listening channels. -/
def State.snrRegs (s : State) (chans : List Nat) (snr : List Int) : State :=
  (List.zip chans snr).foldl (fun (a : State) p => a.wr LFP_CH_SNR.SNR (satSigned 16 p.2) p.1) s

/-- A reply that is dropped: the wake is sent again on the same carrier (R116). -/
def State.resend (s : State) (e : LfpEx) (arb : Bool) : State :=
  s.updWin e.session (fun w => { w with arb := w.arb || arb, keep := some e.car })

/-- A valid reply is reported to its owner (R115, R269): WAKE ends. A BUTTON session takes only a reply of the token
that its frame names; others are ignored, and its window runs on (R299). -/
def State.report (s : State) (n body fmt car ch sof : Nat) : State :=
  let c := s.ctx n
  if c.state ≠ ssWake then s.dropWin n
  else if c.kind = 2 then (if bits body 27 0 = c.token then (s.dropWin n).enterIdent n else s)
  else
    let s := s.dropWin n
    let s := s.updCtx n (fun c => { c with token := bits body 27 0
                                           tdata := if fmt = 0 then 0 else bits body 31 28 + bits body 47 32 * 16
                                           lfCarrier := car, lfCh := ch, sofStamp := sof })
    s.enterIdent n

/-- A whole reply frame is judged. -/
def State.replyTaken (s : State) (z : Nat) (e : LfpEx) (a body er viol ch : Nat) (snr : List Int) : State :=
  let s := s.snrRegs (s.listenSet z e.car) snr
  let s := s.updEx z (fun e => { e with ended := true })
  if e.void then
    let s := (s.bump LFP_CNT_VOID.COUNT).irq LFP_IRQ_STAT.VOID
    let good := er = 0 ∧ viol = 0 ∧ replyGood e.fmt body
    s.lfpEvent lkVoid e.car ch z e.entry e.session (if good then bits body 23 0 else 0)
  else if viol ≠ 0 then
    let s := (s.irq LFP_IRQ_STAT.COLLISION).lfpEvent lkCollision e.car ch z e.entry e.session 0
    s.resend e true
  else if er ≠ 0 ∨ !replyGood e.fmt body then
    let s := (s.bump LFP_CNT_CRC.COUNT).lfpEvent lkCrc e.car ch z e.entry e.session 0
    s.resend e false
  else
    let s := s.bump LFP_CNT_REPLY.COUNT
    let s := match e.entry with
      | some k => (s.bump LFP_SCHED_CNT.REPLIES k).wr LFP_SCHED_STAT.LAST_KIND 0 k
      | none => s
    if e.owned then s.report e.session body e.fmt e.car ch a
    else if s.pwrState = psS3 then
      { s with lfp := { s.lfp with held := some (body, e.fmt, e.entry.getD 0, e.car, ch, a) } }.wakeBy 2
    else s

/-- REPLY_RECEIVED (R114–R116, R127, R132, R134): the last body bit is decided. -/
def execReplyReceived (t z body er viol ch : Nat) (snr : List Int) (s : State) : Answer := happen t s (fun s =>
  match s.exOf z with
  | none => s
  | some e =>
    match e.sof with
    | none => s
    | some a =>
      if e.ended ∨ s.now < a + cellT e.rate * (bodyBits e.fmt + 1) then s
      else if er ≥ s.eraseMax then s.drowned e
      else s.replyTaken z e a body er viol ch snr)

/-- DROWN (R126): erasures, a poor SNR, or in-band power without an SOF. -/
def execDrown (t z er : Nat) (snr : Int) (pow : Nat) (s : State) : Answer := happen t s (fun s =>
  match s.exOf z with
  | none => s
  | some e =>
    let after := e.sof.isSome ∧ !e.ended ∧ (er ≥ s.eraseMax ∨ snr < (s.rd LFP_DROWN_CFG.SNR_MIN : Nat))
    let before := e.sof.isNone ∧ !e.closed ∧ s.now ≥ s.turnHi e ∧ pow ≥ s.rd LFP_DROWN_CFG.INT_DB
    if after ∨ before then s.drowned e else s)

/-- HOP_RESEND (R126): after HOP_GAP the wake goes out on the untried carrier with the lowest NOISE. -/
def execHopResend (t n : Nat) (s : State) : Answer := happen t s (fun s =>
  match s.winOf n with
  | none => s
  | some w =>
    if w.hop ∧ w.next ≤ s.now ∧ !s.winOver w ∧ !s.exRuns n w.gen ∧ s.zoneUp w.zone ∧ s.zoneFree w.zone ∧
        w.pauseFrom.isNone then s.commitWin w
    else s)

/-- R89 drift of the channels of a burst that ends. -/
def State.driftCheck (s : State) (e : LfpEx) : State :=
  let th := clampTo 1 100 (s.rd HEL_DRIFT_CFG.DRIFT_PCT) * 100
  let s := e.chans.foldl (fun (a : State) c =>
    if SMap.get a.hel.corr c 0 > th then
      let k := SMap.get a.hel.drift c 0 + 1
      let a := { a with hel := { a.hel with drift := SMap.put a.hel.drift c (if k ≥ 2 then 0 else k) } }
      if k ≥ 2 then (a.measSet e.car c).foldl (fun (b : State) j => b.queueCol 2 e.car j) (a.queueCol 2 e.car c) else a
    else { a with hel := { a.hel with drift := SMap.del a.hel.drift c } }) s
  s.helStat

/-- A burst ends: the drift check, the end of the exchange, and what its owner does next. -/
def State.burstOver (s : State) (z : Nat) (e : LfpEx) : State :=
  let s := (s.driftCheck e).exLeave z
  if !e.owned then s
  else if e.void then s.voidDone e
  else s.afterMiss e.session

/-- BURST_END (R107, R113): the exchange ends at its planned end. -/
def execBurstEnd (t z : Nat) (s : State) : Answer := happen t s (fun s =>
  match s.exOf z with
  | none => s
  | some e =>
    if s.now < s.plannedEnd e ∨ (e.sof.isSome ∧ !e.ended) ∨ (e.sof.isNone ∧ !e.closed) then s
    else s.burstOver z e)

/-- LFP_HOP_WRITE (R123): takes effect at the end of every exchange that uses the carrier. -/
def State.hopWrite (s : State) (k carrier : Nat) : State :=
  if s.on LFP_CTL.LOCK ∨ k ≥ 3 then s
  else
    let old := s.hopCar k
    let s := s.wr LFP_HOP.CARRIER carrier k
    let s := { s with lfp := { s.lfp with hopOld := SMap.put s.lfp.hopOld k old } }
    s.hopApply

def execLfpHopWrite (t k carrier : Nat) (s : State) : Answer := happen t s (fun s => s.hopWrite k carrier)

/-- One run of the noise monitor. -/
def State.monitorTaken (s : State) (noise : List Int) (spurs : List (Nat × Nat)) : State :=
  let s := (List.range 3).foldl (fun (a : State) k =>
    (a.wr LFP_NOISE.NOISE (satSigned 16 (noise.getD k 0)) k).wr LFP_NOISE.STALE 0 k) s
  let top := (sortBy (fun a b => decide (b.1 ≤ a.1)) spurs).take 4
  let s := (List.range 4).foldl (fun (a : State) k =>
    let p := top.getD k (0, 0)
    (a.wr LFP_SPUR.LEVEL (min 255 p.1) k).wr LFP_SPUR.FREQ p.2 k) s
  { s with lfp := { s.lfp with monAt := s.now } }

/-- MONITOR_RUN (R124): NOISE of each carrier and the four strongest spurs. -/
def execMonitorRun (t : Nat) (noise : List Int) (spurs : List (Nat × Nat)) (s : State) : Answer := happen t s (fun s =>
  if !s.running 0x03 ∨ s.pwrState ≥ psS2 then s
  else s.monitorTaken noise spurs)

/-- A coil fault of channel n. -/
def State.coilFaulted (s : State) (n kind : Nat) : State :=
  let ex := s.lfp.ex.find? (fun e => e.chans.contains n)
  let s := (s.wr LFP_CH_STAT.FAULT kind n).wr LFP_CH_STAT.INVALID 1 n
  let s := ((s.bump LFP_CH_STAT.CFAULT_CNT n).bump LFP_CNT_CFAULT.COUNT).irq LFP_IRQ_STAT.CFAULT
  let s := s.wr HEL_CH_STAT.CFAULT 1 n
  let s := match ex with
    | some e => s.lfpEvent lkCfault e.car n e.zone e.entry e.session 0
    | none => s.lfpEvent lkCfault 0 n 0 none noSession 0
  (s.stopChan n ccWireBreak).quarantine n

/-- COIL_FAULT (R128–R130): the channel is quarantined; a driving one stops its burst with WIRE_BREAK, and the zone is
solved again. -/
def execCoilFault (t n kind : Nat) (s : State) : Answer := happen t s (fun s =>
  let listens := s.lfp.ex.any (fun e => (s.listenSet e.zone e.car).contains n)
  if kind = 0 ∨ kind > 3 ∨ !(s.driving n || listens) then s
  else s.coilFaulted n kind)

end Sys2Proof.Machine
end

