-- ==== Sys2Proof/Machine/Envelope.lean ====
section
/-! DEFINITION. What an accepted envelope does once its commit is reached, the life-cycle transitions, and the tamper
sensors (R371–R375, R391–R402). -/

namespace Sys2Proof.Machine

/-! ## Banks and keys (R373, R377, R379) -/

/-- A key bank: 0 A, 1 B. -/
def State.bank (s : State) (b : Nat) : Option DomBank := if b = 0 then s.dom.bankA else s.dom.bankB

def State.setBank (s : State) (b : Nat) (x : Option DomBank) : State :=
  { s with dom := if b = 0 then { s.dom with bankA := x } else { s.dom with bankB := x } }.domKeysReg

/-- The bank that is not open. -/
def State.otherBank (s : State) : Nat := 1 - s.rd DOM_STAT.BANK

/-- AES-256 in counter mode, the counter block one 128-bit big-endian number from 0 (R390). -/
def aesCtr (key : List Byte) (l : List Byte) : List Byte :=
  let ks := aesKeys (key.map BitVec.toNat)
  let stream := (List.range ((l.length + 15) / 16)).flatMap (fun i => aesBlock ks ((leBytes 16 i).reverse.map BitVec.toNat))
  (List.zipWith (fun (a : Byte) b => a ^^^ BitVec.ofNat 8 b) l stream)

/-- The encrypted part of a payload, its first n bytes in clear (R377 KENC, R390). -/
def State.envClear (s : State) (e : DomEnv) (n : Nat) : List Byte :=
  let parent := if e.flags = 1 then s.dom.keys.kcomm else s.pk
  let key := kdf parent 0x45 0x4E (leBytes 1 e.typ ++ leBytes 8 s.devid ++ leBytes 4 e.seq) 256
  aesCtr key (slice e.bytes 32 n)

/-- The keys of a target state: those of the present one that continue, and those it introduces (R373). -/
def nextKeys (target : Nat) (k new : DomKeys) : DomKeys :=
  if target = lcVendor then new
  else if target = lcCommissioned then { katb := k.katb, kau := new.kau, kcomm := new.kcomm, fk := new.fk }
  else if target = lcField then { katb := k.katb, kau := k.kau, fk := k.fk }
  else {}

/-! ## The end of grants and keys at a commit point (R374, R383) -/

def State.endViews (s : State) : State := (List.range 5).foldl (fun (a : State) p => a.endView p) s

/-- Every generated key is destroyed. -/
def State.dropGkeys (s : State) (which : GKey → Bool) : State :=
  let gone := s.dom.gkeys.filter (fun p => which p.2)
  let s := { s with dom := { s.dom with gkeys := s.dom.gkeys.filter (fun p => !which p.2) } }
  let s := gone.foldl (fun (a : State) p => (a.wrWord DOM_GKEY.REG 0 p.1).domEvent 5 p.1 ccKeySpent) s
  let s := if gone.isEmpty then s else s.irq DOM_IRQ_STAT.KEY_SPENT
  s.domKeysReg

/-! ## POLICY (R398) -/

/-- HALT ends when no latch holds it. -/
def State.haltEnds (s : State) : State :=
  if s.on DOM_STAT.HALT ∧ s.dom.haltBy = 0 then s.wr DOM_STAT.HALT 0 else s

/-- A latch clears only when its condition has been absent for 1 s. -/
def State.clearLatches (s : State) (clear : Nat) : State :=
  let latch := s.rd DOM_TAMPER_STAT.LATCH
  let live := s.rd DOM_TAMPER_STAT.LIVE
  let gone := bitMap ((bitList latch 6).filter (fun b => bit clear b && !bit live b &&
    decide (s.now ≥ SMap.get s.dom.absent b 0 + secT 1)))
  let s := s.wr DOM_TAMPER_STAT.LATCH (latch &&& (63 - gone))
  ({ s with dom := { s.dom with haltBy := s.dom.haltBy &&& (63 - gone) } }).haltEnds

/-- The 8 bytes of POLICY. -/
def State.policy (s : State) (p : List Byte) : State :=
  (s.wr DOM_TAMPER_POLICY.RESP (leAt p 0 2)).clearLatches (leAt p 2 1)

/-! ## LOCK_SET (R155, R156, R163) -/

/-- A lock set replaces the present one as a whole, and everything it limits is judged again. -/
def State.lockSet (s : State) (l : List Byte) : State :=
  let old := s.rd RAD_LOCK_STAT.SEQ
  let new := leAt l 4 4
  let s := (s.wr RAD_LOCK_STAT.SEQ new).wr RAD_STAT.LOCK_VALID 1
  let s := (s.wr HEL_LOCK_STAT.F_LO (leAt l 8 2)).wr HEL_LOCK_STAT.F_HI (leAt l 10 2)
  let s := (List.range 64).foldl (fun (a : State) c => a.wr HEL_CH_LIMIT.LOCK_MA (leAt l (16 + 2 * c) 2) c) s
  let s := (List.range 2).foldl (fun (a : State) k =>
    let o := 144 + 8 * k
    let a := (a.wr RAD_LOCK_UWB_A.PERMIT (leAt l o 1) k).wr RAD_LOCK_UWB_A.MAX_STEP (leAt l (o + 1) 1) k
    (a.wr RAD_LOCK_UWB_A.DUTY (leAt l (o + 2) 2) k).wr RAD_LOCK_UWB_B.MAX_TON (leAt l (o + 4) 2) k) s
  let s := (List.range 8).foldl (fun (a : State) b =>
    let o := 160 + 16 * b
    let fl := leAt l (o + 9) 1
    let a := (a.wr RAD_LOCK_UHF_LO.F_LO (leAt l o 4) b).wr RAD_LOCK_UHF_HI.F_HI (leAt l (o + 4) 4) b
    let a := ((a.flag RAD_LOCK_UHF_LIM.VALID (bit fl 0) b).flag RAD_LOCK_UHF_LIM.ASK (bit fl 1) b).flag
      RAD_LOCK_UHF_LIM.FSK (bit fl 2) b
    let a := (a.wr RAD_LOCK_UHF_LIM.MAX_STEP (leAt l (o + 8) 1) b).wr RAD_LOCK_UHF_LIM.DUTY (leAt l (o + 10) 2) b
    a.wr RAD_LOCK_UHF_TON.MAX_TON (leAt l (o + 12) 2) b) s
  let s := s.archiveEvent 0x04 0 0 (leBytes 4 old ++ leBytes 4 new)
  (s.radRejudge).helLocks

/-! ## EPH envelopes (R346, R348, R360) -/

/-- An EPH_CHANGE goes to its holder, or waits for the row of its operation. -/
def State.envEph (s : State) (e : DomEnv) : State :=
  let c : EphChange := { op := e.pay 0 1, route := 2, token := e.pay 4 4 % 2 ^ 24, record := slice e.bytes (32 + 16) 128,
                         word := if e.pay 1 1 = 1 then some (e.pay 8 8) else none, dest := .env e.port,
                         since := s.now }
  match s.changeAway c with
  | some d => s.sendChange c d
  | none =>
    let b := ephBuckets s.ephSalt c.token
    let s := s.ephWant ([b.1, b.2].filter (fun p => !s.ephOk p))
    { s with eph := { s.eph with changes := s.eph.changes ++ [c] } }.ephStat

/-- EPH_ADOPT waits for its row, with its payload. -/
def State.envAdopt (s : State) (e : DomEnv) : State :=
  let c : EphChange := { op := 8, route := 2, token := 0, record := slice e.bytes 32 32, dest := .env e.port,
                         since := s.now }
  { s with eph := { s.eph with changes := s.eph.changes ++ [c] } }

/-- EPH_TEMPLATE (R348): the template, and its window reset to H where asked. -/
def State.envTemplate (s : State) (e : DomEnv) : State :=
  let k := e.pay 0 1
  let s := (s.wr EPH_TMPL_A.VALID (e.pay 1 1) k).wr EPH_TMPL_A.DB_CAP (e.pay 2 1) k
  let s := (s.wr EPH_TMPL_A.FLAGS (e.pay 3 1) k).wr EPH_TMPL_A.GROUP (e.pay 4 2) k
  let s := (s.wr EPH_TMPL_ZONES.ZONES (e.pay 8 4) k).wr EPH_TMPL_RIGHTS.RIGHTS (e.pay 12 4) k
  if bit (e.pay 6 1) 0 then
    { s with eph := { s.eph with windows := SMap.put s.eph.windows k (e.pay 16 4, 0) } }
  else s

/-! ## The other actions -/

/-- MIGRATE (R401): every installed key into the other bank, tagged with NEW_DM. -/
def State.envMigrateAct (s : State) (e : DomEnv) : State :=
  let dm := slice e.bytes 32 16
  let ver := e.pay 16 4
  let s := s.setBank s.otherBank (some { lc := s.lc, dm := dm, keys := s.dom.keys })
  let s := { s with dom := { s.dom with migrate := some (dm, ver) } }
  (s.wr DOM_STAT.MIGRATE_PEND 1).wr DOM_VER.PEND_VER ver

/-- REKEY (R402): FK is replaced, in every bank that wraps it. -/
def State.envRekeyAct (s : State) (e : DomEnv) : State :=
  let fk := s.envClear e 32
  let swap := fun (b : Option DomBank) => b.map (fun x => { x with keys := { x.keys with fk := fk } })
  { s with dom := { s.dom with keys := { s.dom.keys with fk := fk }, bankA := swap s.dom.bankA
                               bankB := swap s.dom.bankB } }.domKeysReg

/-- A VIEW grant opens (R391, R612, R614). -/
def State.envViewAct (s : State) (e : DomEnv) : State :=
  let p := e.pay 0 1
  let s := { s with hif := { s.hif with grantEnd := SMap.put s.hif.grantEnd p (s.now + secT (e.pay 2 2)) } }
  (s.wr HIF_VIEW_GRANT.OPEN 1 p).wr HIF_VIEW_GRANT.BLOCKS (e.pay 4 4) p

/-! ## DOM unit reset (R400) -/

/-- What a DOM unit reset re-forms in its registers from what it leaves in place. -/
def State.domRegsAgain (s : State) : State :=
  let s := s.dom.gkeys.foldl (fun (a : State) p =>
    let a := ((a.wr DOM_GKEY.VALID 1 p.1).flag DOM_GKEY.NEXT_RESET p.2.nextReset p.1).flag DOM_GKEY.K256
      (p.2.key.length == 32) p.1
    (a.wr DOM_GKEY.CORE p.2.core p.1).wr DOM_GKEY.USES p.2.uses p.1) s
  let s := s.flag DOM_STAT.EXPORT_OPEN (s.lc == lcVendor && !s.dom.exportDone)
  s.domKeysReg.envStat

/-- The effects of R400. -/
def State.domUnitReset (s : State) : State :=
  let s := s.clearWk.dropGkeys (·.nextReset)
  let out := s.dom.queue
  let s := { s with dom := { s.dom with queue := [] } }
  let s := out.foldl (fun (a : State) e => a.envResult e.port (e.typ % 16) ccTargetReset 0) s
  let waits := (s.ses.ctx.map (·.1)).filter s.wantsDom
  let s := waits.foldl (fun (a : State) n => a.complete n (a.ctx n).gen poolDom ccTargetReset 0 []) s
  match s.dom.job with
  | some j =>
    if j.stage ≤ 1 then
      let mine := fun (w : PltWrite) => w.tag == .dome domEnvelope || w.tag == .dome domPending
      let s := { s with dom := { s.dom with job := none }
                        plt := { s.plt with queue := s.plt.queue.filter (fun w => !mine w) } }
      s.envResult j.port j.typ ccTargetReset 0
    else s
  | none => s

/-- A DOM unit reset: the effects, the registers, the states. -/
def State.domReset (s : State) : State :=
  let live := s.rd DOM_TAMPER_STAT.LIVE
  let bad := s.rd DOM_STAT.NO_BANK
  let s := (s.domUnitReset).unitRegs 0x0B
  let s := ((s.wr DOM_TAMPER_STAT.LIVE live).wr DOM_STAT.NO_BANK bad).domRegsAgain
  s.resetStates 0x0B

/-- UNIT (R33, R400): CMD, and RST. -/
def State.envUnitAct (s : State) (e : DomEnv) : State :=
  if e.pay 1 1 = 1 then ((s.wr SYS_UNIT_STATE.CMD (e.pay 0 1) 0x0B).judgeMismatch 0x0B).domReset
  else s.unitCommand 0x0B (e.pay 0 1)

/-! ## Consumption and action (R393) -/

/-- The SEQ or the nonce is consumed. -/
def State.envConsume (s : State) (e : DomEnv) : State :=
  if envByNonce e.typ then
    { s with dom := { s.dom with nonces := s.dom.nonces.filter (fun n => n.1 != e.nonce) } }
  else s.wr DOM_ENV_SEQ.SEQ e.seq e.typ

/-- An envelope is accepted: counted, signalled and archived. -/
def State.envAccepted (s : State) (e : DomEnv) : State :=
  let s := (s.bump DOM_CNT_ENV.OK).irq DOM_IRQ_STAT.ENV_OK
  let s := s.domEvent 1 e.typ ccOk
  s.archiveEvent 0x0B 0 (s.word DOM_EVT_CODE.REG)

/-- What each TYPE does. -/
def State.envAction (s : State) (e : DomEnv) : State :=
  match e.typ with
  | 0x4 => s.envMigrateAct e
  | 0x5 => s.envRekeyAct e
  | 0x6 => s.policy (slice e.bytes 32 8)
  | 0x7 => s.lockSet (slice e.bytes 32 288)
  | 0x8 => s.envEph e
  | 0x9 => s.envAdopt e
  | 0xA => s.envTemplate e
  | 0xC => s.envViewAct e
  | 0xD => s.openMonitor (e.pay 0 2) (e.pay 2 1)
  | 0xE => s.envUnitAct e
  | _ => s

/-- The consuming commit of an envelope that is no life-cycle one: it takes effect. The result of an EPH envelope is its
change's. -/
def State.envCommit (s : State) : State :=
  match s.dom.job with
  | none => s
  | some j =>
    if j.stage ≠ 0 then s
    else
      let e : DomEnv := ⟨j.port, j.bytes⟩
      let s := { s with dom := { s.dom with job := none } }
      let s := ((s.envConsume e).envAccepted e).envStat
      let s := if e.typ = envEphChange ∨ e.typ = envEphAdopt then s else s.envResult e.port e.typ ccOk 0
      s.envAction e

/-! ## Life-cycle transitions (R372–R375) -/

/-- The state a life-cycle TYPE leads to. -/
def lcTarget (typ : Nat) : Nat := if typ = envDecommission then lcDecommissioned else typ + 2

/-- Step 3 of R374 for the pending record's target: the root, and the continuing and the new keys in the other bank. -/
def State.wrapBank (s : State) (target : Nat) (new : DomKeys) : State :=
  let k := nextKeys target s.dom.keys new
  let s := s.setBank s.otherBank (if target = lcDecommissioned then none else some { lc := target, dm := s.dm, keys := k })
  let s := { s with dom := { s.dom with migrate := none } }
  (s.wr DOM_STAT.MIGRATE_PEND 0).wr DOM_VER.PEND_VER 0

/-- What a target state introduces: for VENDOR a root secret, KTR and KATB drawn from instance 2 (R373, R377), for
COMMISSIONED the keys of the envelope. -/
def State.introduce (s : State) (target : Nat) (e : DomEnv) : DomKeys × State :=
  if target = lcVendor then
    let (w, s) := State.drawN 24 (s.rngUse 2)
    let l := leBytes 96 w
    let s := if (List.range 8).all (fun k => s.fuseWord (k + 1) == 0) then s.blow 1 (slice l 0 32) else s
    ({ ktr := slice l 32 32, katb := slice l 64 32 }, s)
  else if target = lcCommissioned then
    let l := s.envClear e 96
    ({ kau := slice l 0 32, kcomm := slice l 32 32, fk := slice l 64 32 }, s)
  else ({}, s)

/-- The pending record's commit (step 2), then step 3. -/
def State.pendCommit (s : State) : State :=
  match s.dom.job with
  | none => s
  | some j =>
    if j.stage ≠ 1 then s
    else
      let e : DomEnv := ⟨j.port, j.bytes⟩
      let s := (s.envConsume e).envAccepted e
      let target := lcTarget e.typ
      let (new, s) := s.introduce target e
      let s := { s with dom := { s.dom with pend := some (target, new), job := some { j with stage := 2 } } }
      let s := (s.wr DOM_LC.PENDING 1).wr DOM_LC.PEND_TARGET target
      (s.domWrite domBank).envStat

/-- Step 4 of R374 and the commit point: the decommission key a transition introduces, then the life-cycle word, are
programmed; the keys are those of the target state, and every grant and the working key end. -/
def State.lifeCommit (s : State) (target : Nat) (new : DomKeys) : State :=
  let dev := leBytes 8 s.devid
  let s := if target = lcVendor then s.blow 0x520 (kdf new.ktr 0x44 0x43 dev 128)
    else if target = lcCommissioned then s.blow 0x524 (kdf new.kau 0x44 0x43 dev 128) else s
  let s := s.blow 0 (leBytes 4 (lcWord target))
  let keys := nextKeys target s.dom.keys new
  let s := { s with dom := { s.dom with keys := keys, erasing := false } }
  let s := s.load DOM_LC.STATE target
  let s := (s.clearWk).endViews.endMonitor
  let s := if target = lcDecommissioned then
      { s with dom := { s.dom with sesKeys := [] } }.dropGkeys (fun _ => true) else s
  let s := s.flag DOM_STAT.EXPORT_OPEN (target == lcVendor && !s.dom.exportDone)
  let s := (s.domKeysReg).eyeRefresh
  let s := s.irq DOM_IRQ_STAT.LC_CHANGE
  s.domEvent 3 target ccOk

/-- The bank's commit, step 4, and the order to erase the old bank. -/
def State.bankCommit (s : State) : State :=
  match s.dom.pend with
  | none => s
  | some (target, new) =>
    let s := s.wrapBank target new
    let s := s.lifeCommit target new
    let s := s.wr DOM_STAT.BANK (if target = lcDecommissioned then 0 else s.otherBank)
    let s := match s.dom.job with
      | some j =>
        let s := { s with dom := { s.dom with job := some { j with stage := 3 } } }
        if j.typ = envCommission then s.policy (slice j.bytes (32 + 96) 8) else s
      | none => s
    let s := s.wr DOM_STAT.NO_BANK 0
    s.domWrite domOldBank

/-- Step 5: the old bank is erased. -/
def State.oldBankGone (s : State) : State :=
  let s := s.setBank s.otherBank none
  let s := if s.lc = lcDecommissioned then (s.setBank 0 none).setBank 1 none else s
  let s := match s.dom.job with
    | some j => { s with dom := { s.dom with job := some { j with stage := 4 } } }
    | none => s
  s.domWrite domPendClear

/-! ## Tamper responses (R397–R399) -/

/-- HALT takes effect. -/
def State.halt (s : State) : State := ((s.wr DOM_STAT.HALT 1).clearWk).endViews.endMonitor

/-- ERASE begins: every key but that of the seal goes, and the tamper record is requested. -/
def State.erase (s : State) (word : Nat) : State :=
  let k := s.dom.keys
  let keys : DomKeys := { ktr := if s.lc = lcVendor then k.ktr else [], kau := k.kau }
  let s := s.clearWk
  let s := { s with dom := { s.dom with keys := keys, sesKeys := [], erasing := true } }
  let s := (s.dropGkeys (fun _ => true)).domKeysReg
  s.archive recEvent ccTamper (s.source 0x0B 0) noSession (leBytes 4 word) .tamper

/-- The tamper record has committed: KSEAL is cleared, SHU is reset, and both banks are to be erased. -/
def State.eraseGo (s : State) : State :=
  if !s.dom.erasing then s
  else
    let s := { s with dom := { s.dom with keys := {} } }.domKeysReg
    let s := ((s.shuUnitReset).fndUnitReset).unitRegs 0x09
    let s := s.resetStates 0x09
    s.domWrite domErase

/-- Both banks are erased; the transition to DECOMMISSIONED follows from step 4 of R374. -/
def State.eraseDone (s : State) : State :=
  let s := (s.setBank 0 none).setBank 1 none
  let s := (s.wr DOM_STAT.ERASED 1).wr DOM_STAT.BANK 0
  let s := s.lifeCommit lcDecommissioned {}
  s.archiveEvent 0x0B 0 (s.word DOM_EVT_CODE.REG)

/-- A response that waited for steps 5 and 6. -/
def State.respond (s : State) (r : Nat) : State :=
  if r = 2 then (if s.lc = lcDecommissioned then s else s.erase (s.word DOM_TAMPER_STAT.REG))
  else if r = 1 then s.halt else s

/-- Step 6: the pending record is cleared, and the transition is archived. -/
def State.pendGone (s : State) : State :=
  let job := s.dom.job
  let owed := s.dom.owed
  let s := { s with dom := { s.dom with pend := none, job := none, owed := 0 } }
  let s := (s.wr DOM_LC.PENDING 0).wr DOM_LC.PEND_TARGET 0
  let s := s.archiveEvent 0x0B 0 (3 * 2 ^ 28 + s.lc * 2 ^ 24)
  let s := match job with
    | some j => s.envResult j.port j.typ ccOk 0
    | none => s
  (s.envStat).respond owed

/-- What a write of the Dome to AUTHORITY does at its commit point. -/
def State.domCommitted (s : State) (what : Nat) : State :=
  if what = domEnvelope then s.envCommit
  else if what = domPending then s.pendCommit
  else if what = domBank then s.bankCommit
  else if what = domOldBank then s.oldBankGone
  else if what = domPendClear then s.pendGone
  else if what = domErase then s.eraseDone
  else s

/-- The response of a sensor: in BLANK and VENDOR every one is LOG; 0b11 acts as HALT. -/
def State.tamperResp (s : State) (b : Nat) : Nat :=
  if s.lc ≤ lcVendor then 0
  else
    let r := bits (s.rd DOM_TAMPER_POLICY.RESP) (2 * b + 1) (2 * b)
    if r = 3 then 1 else r

/-- A tamper before a transition's commit point clears its pending record (R375). -/
def State.pendDrop (s : State) : State :=
  let first := match s.dom.job with
    | some j => j.stage == 1
    | none => false
  let before := match s.dom.pend with
    | some p => p.1 != s.lc
    | none => first
  if !before then s
  else
    let job := s.dom.job
    let mine := fun (w : PltWrite) => w.tag == .dome domPending || w.tag == .dome domBank
    let s := { s with plt := { s.plt with queue := s.plt.queue.filter (fun w => !mine w) }
                      dom := { s.dom with job := none, pend := none } }
    let s := (s.wr DOM_LC.PENDING 0).wr DOM_LC.PEND_TARGET 0
    let s := s.domWrite domProtect
    let s := match job with
      | some j => s.envResult j.port j.typ ccTamper 0
      | none => s
    s.envStat

/-- The sensors watched in the present power state (R397). -/
def State.tamperWatched (s : State) : Nat :=
  if s.pwr.off then 0 else if s.rd PWR_STAT.STATE ≤ 1 then 63 else 0b011101

/-- R397–R399: each detection is latched, counted, archived and signalled, and the strongest response applies. A
response of the steps after a commit point waits for them. -/
def State.tamper (s : State) (live : Nat) : State :=
  let was := s.rd DOM_TAMPER_STAT.LIVE
  let live := live % 32 &&& s.tamperWatched
  let new := ((bitList live 5).filter (fun b => !bit was b)) ++ (if bit was 5 then [5] else [])
  let ends := (bitList was 6).filter (fun b => !bit live b)
  let s := { s with dom := { s.dom with
    absent := ends.foldl (fun m b => SMap.put m b s.now) ((bitList live 5).foldl (fun m b => SMap.del m b) s.dom.absent) } }
  let s := s.wr DOM_TAMPER_STAT.LIVE live
  if new.isEmpty then s
  else
    let s := s.wr DOM_TAMPER_STAT.LATCH (s.kept DOM_TAMPER_STAT.LATCH ||| bitMap new)
    let s := if s.lc ≥ lcVendor then s.wr DOM_TAMPER_STAT.COUNT (min 0xFFFF (s.kept DOM_TAMPER_STAT.COUNT + new.length)) else s
    let s := s.irq DOM_IRQ_STAT.TAMPER
    let s := new.foldl (fun (a : State) b =>
      let a := a.domEvent 2 b 0
      a.archiveEvent 0x0B 0 (a.word DOM_EVT_CODE.REG)) s
    let s := s.domWrite domLatch
    let resp := new.foldl (fun m b => max m (s.tamperResp b)) 0
    let holds := bitMap (new.filter (fun b => s.tamperResp b == 1))
    let s := { s with dom := { s.dom with haltBy := s.dom.haltBy ||| holds } }
    let s := s.pendDrop
    if s.dom.pend.isSome then { s with dom := { s.dom with owed := max s.dom.owed resp } }
    else s.respond resp

def execTamperDetect (t live : Nat) (s : State) : Answer := happen t s (fun s => s.tamper live)

/-- R375: at start-up a pending transition is finished, when the life-cycle word reads its target in both copies at both
margins, or repeated from step 3, once the bank it wraps anew is open. -/
def State.pendResolve (s : State) : State :=
  match s.dom.pend with
  | none => s
  | some (target, _) =>
    if s.dom.job.isSome ∨ !s.fuse.done then s
    else if s.fuseWord 0 = lcWord target ∧ s.fuseQual 0 = 0 then s.domWrite domOldBank
    else if s.lc ≠ lcBlank ∧ target ≠ lcDecommissioned ∧ !s.on BOOT_STAT.IMAGE_OK then s
    else s.domWrite domBank

def execPendingTransitionResolve (t : Nat) (s : State) : Answer := happen t s State.pendResolve

end Sys2Proof.Machine
end

