-- ==== Sys2Proof/Machine/Plt.lean ====
section
/-! DEFINITION. The Plate store and the archive appender (R509–R538), and the open releases found at start-up (R324). -/

namespace Sys2Proof.Machine

/-! ## Events and regions -/

/-- PLT_EVT_CODE and its event. -/
def State.pltEvent (s : State) (kind addr : Nat) : State :=
  s.unitEvent 0x10 0 PLT_EVT_CODE.REG PLT_EVT_STAMP_LO.STAMP PLT_EVT_STAMP_HI.STAMP
    (kind * 2 ^ 28 + pltRegion addr * 2 ^ 24 + addr % 2 ^ 24)

def peUe : Nat := 1
def peDenied : Nat := 2
def peVhold : Nat := 3
def peLoss : Nat := 4
def peRefresh : Nat := 5

/-- Accesses are served once recall has ended (R520). -/
def State.pltReady (s : State) : Bool := s.on PLT_STAT.READY

/-- PLT_STAT.QUEUED. -/
def State.pltStat (s : State) : State := s.wr PLT_STAT.QUEUED (min 255 s.plt.queue.length)

/-! ## Word errors (R522) -/

/-- What a read of a word finds: 0 sound, 1 different at a tightened margin, 2 correctable, 3 uncorrectable; a word
known to be uncorrectable reads so. -/
def State.pltJudge (s : State) (a find : Nat) : State :=
  let r := pltRegion a
  if find ≥ 3 ∨ s.pltPoisoned a then
    let s := if s.pltPoisoned a then s else { s with plt := { s.plt with poison := s.plt.poison ++ [a / 8] } }
    let s := ((s.bump PLT_CNT_UE.COUNT).bump PLT_REGION_STAT.UE r).irq PLT_IRQ_STAT.UE
    let s := s.pltEvent peUe a
    if r = 6 then s.domMismatch else s
  else if find = 0 then s
  else
    let s := if find = 2 then (s.bump PLT_CNT_CE.COUNT).bump PLT_REGION_STAT.CE r else s
    s.pltWrite laneRefresh .refresh [(a, s.pltWord a)]

/-! ## The archive ring (R524, R531) -/

/-- The record in the slot of a number, 64 bytes. -/
def State.arcBytes (s : State) (seq : Nat) : List Byte :=
  (List.range 8).flatMap (fun k => leBytes 8 (s.pltWord (0xC00000 + 64 * (seq % 65536) + 8 * k)))

/-- Some word of a slot reads uncorrectable. -/
def State.arcPoison (s : State) (seq : Nat) : Bool :=
  (List.range 8).any (fun k => s.pltPoisoned (0xC00000 + 64 * (seq % 65536) + 8 * k))

/-- The numbers of the valid records (R525). -/
def State.arcValid (s : State) : List Nat :=
  s.plt.words.filterMap (fun p =>
    let a := 8 * p.1
    let seq := bits p.2 31 0
    let kind := bits p.2 39 32
    let slot := (a - 0xC00000) / 64
    if 0xC00000 ≤ a ∧ a % 64 = 0 ∧ 1 ≤ kind ∧ kind ≤ 7 ∧ seq % 65536 = slot ∧ !s.arcPoison seq then some seq else none)

/-- The greatest number of a list in serial order, from one on. -/
def serialMax (l : List Nat) : Option Nat :=
  l.foldl (fun (m : Option Nat) q => match m with
    | some a => if serialBefore 32 a q then some q else some a
    | none => some q) none

/-- The least. -/
def serialMin (l : List Nat) : Option Nat :=
  l.foldl (fun (m : Option Nat) q => match m with
    | some a => if serialBefore 32 q a then some q else some a
    | none => some q) none

/-- Records held that follow EXPORTED. -/
def State.arcKept (s : State) : Nat :=
  let held := (s.plt.head + 2 ^ 32 - s.plt.oldest) % 2 ^ 32
  let after := (s.plt.head + 2 ^ 32 - 1 - s.plt.exported) % 2 ^ 32
  min held after

/-- AVAIL (R531). -/
def State.arcAvail (s : State) : Nat := 65536 - s.arcKept

/-- PLT_ARC_HEAD, OLDEST, EXPORTED, AVAIL and ARC_LOW. -/
def State.arcRegs (s : State) : State :=
  let s := (s.wr PLT_ARC_HEAD.SEQ s.plt.head).wr PLT_ARC_OLDEST.SEQ s.plt.oldest
  let s := (s.wr PLT_ARC_EXPORTED.SEQ s.plt.exported).wr PLT_ARC_AVAIL.AVAIL s.arcAvail
  let low := decide (s.arcAvail ≤ clampTo 256 16384 (s.rd PLT_PROTECT.RESERVE))
  if low ∧ !s.on PLT_STAT.ARC_LOW then (s.wr PLT_STAT.ARC_LOW 1).irq PLT_IRQ_STAT.ARC_LOW
  else s.flag PLT_STAT.ARC_LOW low

/-- The LOSS record of R531. -/
def State.lossRecord (s : State) : State :=
  match s.plt.lossFirst with
  | none => s
  | some f =>
    let body := leBytes 4 f ++ leBytes 4 s.plt.lossCount
    let s := { s with plt := { s.plt with lossFirst := none, lossCount := 0 } }
    s.archive recLoss 0 (s.source 0x10 0) noSession body

/-- A record is about to be written: the ring's oldest record makes room, and one lost unexported is counted (R531). -/
def State.arcRoom (s : State) (seq : Nat) : State :=
  let full := decide ((seq + 2 ^ 32 - s.plt.oldest) % 2 ^ 32 ≥ 65536)
  let lost := full && s.arcAvail == 0
  let s := if lost then
      let s := { s with plt := { s.plt with
        lossFirst := some (s.plt.lossFirst.getD s.plt.oldest), lossCount := s.plt.lossCount + 1 } }
      let s := (s.bump PLT_ARC_LOST.LOST).irq PLT_IRQ_STAT.LOSS
      s.pltEvent peLoss (0xC00000 + 64 * (s.plt.oldest % 65536))
    else s
  let s := if full then { s with plt := { s.plt with oldest := (s.plt.oldest + 1) % 2 ^ 32 } } else s
  if s.plt.lossCount ≥ 4096 then s.lossRecord else s

/-! ## Sealing and writing a record (R525, R526) -/

/-- Write a sealed record: one page operation. -/
def State.arcIssue (s : State) (r : ArcRec) : State :=
  let s := { s with plt := { s.plt with sealing := none, writing := some r, lastCheck := leAt r.bytes 56 8 } }
  let s := s.wr PLT_STAT.SEAL_WAIT 0
  s.pltWrite laneArc (.record r.seq) (wordsAt (0xC00000 + 64 * (r.seq % 65536)) r.bytes)

/-- Step 2 of R525: the seal; one that fails is tried again every 1 ms. -/
def State.arcSeal (s : State) (r : ArcRec) : State :=
  let (code, tag, s) := s.kceNow 0x10 kKSEAL [] (slice r.bytes 0 56)
  if code = ccOk then s.arcIssue { r with bytes := slice r.bytes 0 56 ++ tag.take 8 }
  else
    let s := { s with plt := { s.plt with sealing := some r, sealTried := s.now } }
    s.wr PLT_STAT.SEAL_WAIT 1

/-- The 56 bytes before CHECK (R526). -/
def State.arcHead (s : State) (r : ArcReq) (seq : Nat) : List Byte :=
  let flags := (s.on MER_STAT.CIVIL_STALE).toNat + 2 * (s.rd MER_STAT.QUALITY == qHoldover).toNat + 4 * r.located.toNat
  leBytes 4 seq ++ leBytes 1 r.kind ++ leBytes 1 r.code ++ leBytes 2 r.source ++ leBytes 8 r.stamp ++ leBytes 1 r.era ++
    leBytes 1 flags ++ leBytes 2 r.session ++ leBytes 4 (s.civilMin % 2 ^ 24) ++ padTo r.body 24 ++
    leBytes 8 (if seq = 1 then 0 else s.plt.lastCheck)

/-- The request the appender takes next: the BOOT record first, then what was held before it and the closing records of
start-up, then the rest (R521, R541). -/
def State.arcNext (s : State) : Option ArcReq :=
  if !s.plt.bootDone then none
  else
    match s.plt.arcQ with
    | [] => none
    | r :: _ =>
      if s.shu.toResolve.isEmpty ∨ r.stamp ≤ s.plt.bootAt ∨ r.kind = recClose then some r else none

/-- ARCHIVE_APPEND: number the next request, seal it, write it. -/
def State.arcAppend (s : State) : State :=
  if !s.pltReady ∨ s.plt.sealing.isSome ∨ s.plt.writing.isSome then s
  else
    match s.arcNext with
    | none => s
    | some r =>
      let seq := s.plt.head
      let bytes := s.arcHead r seq
      let s := s.arcRoom seq
      let s := { s with plt := { s.plt with arcQ := s.plt.arcQ.tail, head := (seq + 1) % 2 ^ 32 } }
      let s := s.arcRegs
      let s := match r.recFor with
        | .decision n gen => s.updCtx n (fun c => if c.gen = gen then { c with arcSeq := seq } else c)
        | .ending n gen => s.updCtx n (fun c => if c.gen = gen then { c with arcSeq := seq } else c)
        | .closing n gen =>
          match SMap.first s.shu.rel (fun _ x => x.session == n && x.gen == gen && x.state == 3 && x.closeSeq.isNone) with
          | some (e, _) => s.updRel e (fun x => { x with closeSeq := some seq })
          | none => s
        | _ => s
      s.arcSeal { seq := seq, bytes := bytes, recFor := r.recFor }

def execArchiveAppend (t : Nat) (s : State) : Answer := happen t s State.arcAppend

/-- SEAL_RETRY (R525). -/
def execSealRetry (t : Nat) (s : State) : Answer := happen t s (fun s =>
  match s.plt.sealing with
  | some r => if s.now ≥ s.plt.sealTried + msT 1 then s.arcSeal r else s
  | none => s)

/-! ## Commit points and confirmations (R513) -/

/-- The end record of a session has committed: its credit returns and the queue may be freed (R260, R283), and the
SESSION event is posted (R608). -/
def State.endDone (s : State) (n gen seq : Nat) : State :=
  if !s.live n gen then s
  else
    let x := s.aux n
    let c := s.ctx n
    let s := if x.arcHeld then s.giveCredit poolArc else s
    let s := s.updAux n (fun x => { x with arcHeld := false, recWait := false })
    let s := s.updCtx n (fun c => c.setPend pendPlt false)
    let s := s.post (s.source 0x08 0) 0 c.code n (endWord n c.code x.endState true) (c.token + seq * 2 ^ 32)
    s.drainClaims.freeIfDone n

/-- A record reaches its commit point. -/
def State.recordCommitted (s : State) (seq : Nat) : State :=
  match s.plt.writing with
  | none => s
  | some r =>
    if r.seq ≠ seq then s
    else
      let s := { s with plt := { s.plt with writing := none } }
      let s := s.bump PLT_CNT_ARC.COUNT
      let s := s.post (s.source 0x10 0) 5 0 noSession seq (leAt r.bytes 4 1 + leAt r.bytes 5 1 * 256)
      let keep := fun (a : State) => { a with plt := { a.plt with written := a.plt.written ++ [r] } }
      let give := fun (a : State) => { a with plt := { a.plt with committed := a.plt.committed ++ [.record seq] } }
      match r.recFor with
      | .decision _ _ => keep (give s)
      | .closing _ _ => give s
      | .ending n gen => s.endDone n gen seq
      | .test _ => keep s
      | .tamper => s.eraseGo
      | .none => s

/-- A record's write is confirmed. -/
def State.recordConfirmed (s : State) (seq : Nat) : State :=
  match s.plt.written.find? (fun r => r.seq == seq) with
  | none => s
  | some r =>
    let s := { s with plt := { s.plt with written := s.plt.written.erase r } }
    match r.recFor with
    | .decision _ _ => { s with plt := { s.plt with confirmed := s.plt.confirmed ++ [.record seq] } }
    | .test o => s.testConfirmed o
    | _ => s

/-- The update of another member's session has committed: its claim is released, its ARC credit returns, and it is
answered (R309, R366). -/
def State.remoteDone (s : State) (dev tag session gen : Nat) : State :=
  let keep := fun (q : EphClaim) => !(q.session == session && q.gen == gen && q.device == dev)
  let s := { s with eph := { s.eph with claims := s.eph.claims.filter keep } }.claimsReg
  (s.giveRemote poolArc).blnReply dev 0x0A tag (leBytes 1 ccOk ++ leBytes 2 session ++ leBytes 2 gen)

/-- What a write does at its commit point, by what it holds; a unit whose own row takes the commit up finds it in
`committed`. -/
def State.pltCommitted (s : State) (tag : PltTag) : State :=
  let give := { s with plt := { s.plt with committed := s.plt.committed ++ [tag] } }
  match tag with
  | .record seq => s.recordCommitted seq
  | .perToken _ _ => give
  | .remoteToken dev tag session gen => s.remoteDone dev tag session gen
  | .openRel n gen =>
    if s.live n gen then (s.updAux n (fun x => { x with orWait := false })).recordReady n else s
  | .journalCommit _ => give
  | .followOn _ => give
  | .journalDone j => s.updJ j (fun e => { e with stage := 5 })
  | .ephCommit => s.ephCommitted
  | .civilSet => s.civilSetCommitted
  | .dome what => s.domCommitted what
  | _ => s

/-- What a write does at its confirmation. -/
def State.pltConfirmed (s : State) (tag : PltTag) : State :=
  match tag with
  | .record seq => s.recordConfirmed seq
  | .refresh => (s.bump PLT_CNT_REFRESH.COUNT).irq PLT_IRQ_STAT.REFRESH
  | .port =>
    let s := { s with plt := { s.plt with portSince := none } }
    (s.wr PLT_ACC_CTL.RESULT ccOk).wr PLT_ACC_CTL.BUSY 0
  | _ => s

/-! ## Page operations (R510–R513, R518, R519) -/

/-- The writes that may start an operation: of each lane, its first write with an operation left; none while that write
has one running. -/
def State.laneHeads (s : State) : List PltWrite :=
  (List.range 7).filterMap (fun l =>
    match s.plt.queue.find? (fun w => w.lane == l && !w.ops.isEmpty) with
    | some w => if w.active then none else some w
    | none => none)

/-- The operation a bank starts next: the first lane in order whose head lies in the bank. -/
def State.bankNext (s : State) (bank : Nat) : Option PltWrite :=
  s.laneHeads.find? (fun w => match w.ops with
    | (x :: _) :: _ => x.1 / 0x400000 == bank
    | _ => false)

/-- Store words: a word of 0 is not listed, and a word written is no longer poisoned. -/
def State.pltStore (s : State) (ws : List (Nat × Nat)) : State :=
  let put := fun (m : SMap Nat) (w : Nat × Nat) => if w.2 = 0 then SMap.del m (w.1 / 8) else SMap.put m (w.1 / 8) w.2
  { s with plt := { s.plt with
    words := ws.foldl put s.plt.words
    poison := s.plt.poison.filter (fun a => !ws.any (fun w => w.1 / 8 == a)) } }

/-- A refresh of a word that a writer's operation covers is dropped (R523). -/
def State.dropRefresh (s : State) (ws : List (Nat × Nat)) : State :=
  let covered := fun (w : PltWrite) => w.lane == laneRefresh && !w.active &&
    w.ops.any (fun op => op.any (fun x => ws.any (fun y => y.1 == x.1)))
  { s with plt := { s.plt with queue := s.plt.queue.filter (fun (w : PltWrite) => !covered w) } }

/-- PAGE_OPERATION_START. -/
def State.pageStart (s : State) (bank mv : Nat) : State :=
  if bank ≥ 4 ∨ !s.pltReady ∨ s.on PLT_STAT.VHOLD_LOW ∨ mv < 3000 ∨ (SMap.find s.plt.banks bank).isSome ∨
      s.pwrState ≥ psS2 ∨ s.plt.resetPend then s
  else
    match s.bankNext bank with
    | none => s
    | some w =>
      match w.ops with
      | [] => s
      | op :: rest =>
        let last := rest.isEmpty
        let s := { s with plt := { s.plt with
          queue := s.plt.queue.map (fun (x : PltWrite) => if x.id = w.id then { x with ops := rest, active := true } else x)
          banks := SMap.put s.plt.banks bank (w.id, op, last, w.tag) } }
        let s := if w.lane = laneRefresh then s else s.dropRefresh op
        let s := (s.pltStore op).calLoadedAt (op.map (fun (w : Nat × Nat) => w.1 / 8))
        let s := (s.wr PLT_STAT.BANK_BUSY (setBit (s.rd PLT_STAT.BANK_BUSY) bank true)).bump PLT_CNT_PAGE.COUNT
        let s := s.wr PLT_VHOLD.MV mv
        let low := s.rd PLT_VHOLD.MIN_MV
        let s := if low == 0 || Nat.blt mv low then s.wr PLT_VHOLD.MIN_MV mv else s
        let s := s.pltStat
        if last then s.pltCommitted w.tag else s

def execPageOperationStart (t bank mv : Nat) (s : State) : Answer := happen t s (fun s => s.pageStart bank mv)

/-! ## Unit reset (R536) -/

/-- A queued write that a unit reset of PLT ends with TARGET_RESET, towards its owner. -/
def State.writeReset (s : State) (w : PltWrite) : State :=
  match w.tag with
  | .port =>
    let s := { s with plt := { s.plt with portSince := none } }
    (s.wr PLT_ACC_CTL.RESULT ccTargetReset).wr PLT_ACC_CTL.BUSY 0
  | .perToken n gen =>
    if !s.live n gen then s
    else
      let s := s.updAux n (fun x => { x with ptWord := none, ptSince := none, newCtr := none, failed := false })
      let s := s.releaseClaim n gen
      if (s.ctx n).state = ssAborted then s.recordReady n else s.abort n ccTargetReset
  | .openRel n gen => if s.live n gen then s.abort n ccTargetReset else s
  | .remoteToken dev tag session gen =>
    let keep := fun (q : EphClaim) => !(q.session == session && q.gen == gen && q.device == dev)
    let s := { s with eph := { s.eph with claims := s.eph.claims.filter keep } }.claimsReg
    (s.giveRemote poolArc).blnReply dev 0x0A tag (leBytes 1 ccTargetReset)
  | .journalCommit j =>
    match s.eph.journal.find? (fun e => e.jseq == j) with
    | some e =>
      let s := { s with eph := { s.eph with journal := s.eph.journal.filter (fun x => x.jseq != j) } }
      s.ephAnswer e.dest e.op 0 ccTargetReset e.slot
    | none => s
  | .civilSet => { s with mer := { s.mer with armed := none } }.wr MER_TIME_STAT.RESULT ccTargetReset
  | .dome what =>
    match s.dom.job with
    | some j =>
      if (what = domEnvelope ∨ what = domPending) ∧ j.stage ≤ 1 then
        let s := { s with dom := { s.dom with job := none } }
        (s.envResult j.port j.typ ccTargetReset 0).envStat
      else s.domWrite what
    | none => s.domWrite what
  | .followOn j =>
    match s.eph.journal.find? (fun e => e.jseq == j) with
    | some e => s.followOn { e with window := false }
    | none => s
  | .journalDone j => s.writeDone j
  | .openRelClear e => s.pltWrite laneShadow (.openRelClear e) (w.ops.flatMap (fun op => op))
  | _ => s

/-- Steps of R536 once no operation runs: queued writes end with TARGET_RESET but those of the archive, and recall runs
again. What the Dome, EPH and SHU must still write they issue again. -/
def State.pltUnitReset (s : State) : State :=
  let out := s.plt.queue.filter (fun w => w.lane != laneArc)
  let s := { s with plt := { s.plt with queue := s.plt.queue.filter (fun (w : PltWrite) => w.lane == laneArc), resetPend := false } }
  let s := out.foldl State.writeReset s
  let low := s.rd PLT_STAT.VHOLD_LOW
  let mv := s.rd PLT_VHOLD.MV
  let s := s.unitRegs 0x10
  let s := ((s.wr PLT_STAT.VHOLD_LOW low).wr PLT_VHOLD.MV mv).pltStat
  s.resetStates 0x10

/-- A unit reset of PLT waits until every started operation has ended. -/
def State.pltResetAsk (s : State) : State :=
  if s.plt.banks.isEmpty then s.pltUnitReset else { s with plt := { s.plt with resetPend := true } }

/-- PAGE_OPERATION_END. -/
def State.pageEnd (s : State) (bank : Nat) : State :=
  match SMap.find s.plt.banks bank with
  | none => s
  | some (id, op, last, tag) =>
    let s := { s with plt := { s.plt with banks := SMap.del s.plt.banks bank } }
    let s := s.wr PLT_STAT.BANK_BUSY (setBit (s.rd PLT_STAT.BANK_BUSY) bank false)
    let s : State := if last then
        let s := { s with plt := { s.plt with queue := s.plt.queue.filter (fun (w : PltWrite) => w.id != id) } }
        let s := if tag = .refresh then s.pltEvent peRefresh ((op.head?.map (·.1)).getD 0) else s
        ((s.bump PLT_CNT_WRITE.COUNT).pltStat).pltConfirmed tag
      else
        { s with plt := { s.plt with
          queue := s.plt.queue.map (fun (w : PltWrite) => if w.id = id then { w with active := false } else w) } }
    if s.plt.resetPend && s.plt.banks.isEmpty then s.pltUnitReset else s.offCheck

def execPageOperationEnd (t bank : Nat) (s : State) : Answer := happen t s (fun s => s.pageEnd bank)

/-! ## VHOLD (R519) -/

def execVholdLow (t mv : Nat) (s : State) : Answer := happen t s (fun s =>
  if s.on PLT_STAT.VHOLD_LOW ∨ mv ≥ 3000 then s
  else ((((s.wr PLT_VHOLD.MV mv).wr PLT_STAT.VHOLD_LOW 1).irq PLT_IRQ_STAT.VHOLD_LOW).pltEvent peVhold 0))

/-- Queued writes that waited are counted. -/
def execVholdGood (t mv : Nat) (s : State) : Answer := happen t s (fun s =>
  if !s.on PLT_STAT.VHOLD_LOW ∨ mv < 3000 then s
  else
    let n := (s.plt.queue.filter (fun w => !w.ops.isEmpty && !w.active)).length
    let s := (s.wr PLT_VHOLD.MV mv).wr PLT_STAT.VHOLD_LOW 0
    s.add PLT_CNT_VHOLD_WAIT.COUNT n)

/-- A write through the port that waited 100 ms for the supply ends PRECONDITION. -/
def State.vholdLate (s : State) (mine : PltWrite → Bool) : State :=
  let s := { s with plt := { s.plt with queue := s.plt.queue.filter (fun (w : PltWrite) => !mine w), portSince := none } }
  let s := ((s.wr PLT_ACC_CTL.RESULT ccPrecondition).wr PLT_ACC_CTL.BUSY 0).bump PLT_CNT_VHOLD_WAIT.COUNT
  s.pltStat

/-- VHOLD_WAIT_TIMEOUT: a register-port write has waited 100 ms. -/
def execVholdWaitTimeout (t : Nat) (s : State) : Answer := happen t s (fun s =>
  match s.plt.portSince with
  | none => s
  | some a =>
    let mine := fun (w : PltWrite) => w.tag == .port && !w.active
    if !s.on PLT_STAT.VHOLD_LOW ∨ s.now < a + msT 100 ∨ !s.plt.queue.any mine then s
    else s.vholdLate mine)

/-! ## Recall (R520) -/

/-- EXPORTED as the SHADOW set of R690 holds it, with its SEQ. -/
def State.exportFound (s : State) : Nat × Nat :=
  (List.range 64).foldl (fun (m : Nat × Nat) k =>
    let a := 0xA51000 + 8 * k
    let w := s.pltWord a
    if bits w 63 56 = 0xEB ∧ !s.pltPoisoned a ∧ (m.2 = 0 ∨ serialBefore 24 m.2 (bits w 55 32)) then (bits w 31 0, bits w 55 32)
    else m) (0, 0)

/-- An open-release entry as SHADOW holds it (R690). -/
def State.openRelRead (s : State) (e : Nat) : Option OpenRel :=
  let a := 0xA50000 + 16 * e
  let w := s.pltWord a
  if bits w 63 56 = 0x0E ∧ !s.pltPoisoned a ∧ !s.pltPoisoned (a + 8) then
    some { session := bits w 14 0, gen := bits w 31 16, kind := bits w 39 32, target := bits w 55 40,
           arcFrom := bits (s.pltWord (a + 8)) 31 0 }
  else none

/-- The open releases that device reset finds. -/
def State.openRelLoad (s : State) : State :=
  let found := (List.range 256).filterMap (fun e => (s.openRelRead e).map (fun r => (e, r)))
  let s := { s with shu := { s.shu with openRel := found, toResolve := found.map (fun (p : Nat × OpenRel) => p.1) } }
  s.wr SHU_STAT.OPEN_LIST found.length

/-- RECALL_DONE: the head is found, and every value marked P is delivered; MER_NOW_ERA holds it as a latch does. -/
def State.recallDone (s : State) : State :=
  if s.pltReady then s
  else
    let valid := s.arcValid
    let head := match serialMax valid with
      | some q => (q + 1) % 2 ^ 32
      | none => 1
    let (exported, eseq) := s.exportFound
    let s := { s with plt := { s.plt with
      head := match s.plt.sealing, s.plt.writing with
        | some r, _ => (r.seq + 1) % 2 ^ 32
        | none, some r => (r.seq + 1) % 2 ^ 32
        | none, none => head
      oldest := (serialMin valid).getD 1, exported := exported, exportSeq := eseq } }
    let s := match s.plt.sealing, s.plt.writing with
      | none, none => { s with plt := { s.plt with
          lastCheck := if valid.isEmpty then 0 else leAt (s.arcBytes (head + 2 ^ 32 - 1)) 56 8 } }
      | _, _ => s
    let s := { s with regs := SMap.over' s.regs s.persist, latch := SMap.put s.latch MER_NOW_ERA.ERA.off s.mer.era
                      mer := { s.mer with recalled := true } }.trimStat
    let s := ((s.wr PLT_STAT.RECALLING 0).wr PLT_STAT.READY 1).irq PLT_IRQ_STAT.RECALL_DONE
    let s := s.arcRegs
    let s := s.calLoadedAt (s.plt.words.map (fun (w : Nat × Nat) => w.1))
    if s.plt.bootDone then s else (s.openRelLoad.ledLoadAll).bootGo

def execRecallDone (t : Nat) (s : State) : Answer := happen t s State.recallDone

/-- BOOT_RECORD (R521, R541): once an image runs and VHOLD is good, the BOOT record goes before every request held. -/
def State.bootRecord (s : State) (cause slot : Nat) : State :=
  if s.plt.bootDone ∨ !s.pltReady ∨ s.on PLT_STAT.VHOLD_LOW ∨ !s.on BOOT_STAT.IMAGE_OK then s
  else
    let body := s.am ++ leBytes 1 (s.rd DOM_VER.VER) ++ leBytes 1 s.lc ++ leBytes 1 cause ++ leBytes 1 slot ++
      leBytes 4 s.dom.boots
    let r : ArcReq := { kind := recBoot, code := 0, source := s.source 0x10 0, stamp := s.now, era := s.mer.era,
                        located := false, session := noSession, body := body, recFor := .none }
    { s with plt := { s.plt with arcQ := r :: s.plt.arcQ, bootDone := true, bootAt := s.now } }

/-! ## Open releases at start-up (R324) -/

/-- The archive holds a decision record of a session at or after a number. -/
def State.decisionFound (s : State) (r : OpenRel) : Option Nat :=
  s.arcValid.find? (fun q => leAt (s.arcBytes q) 4 1 == recDecision && leAt (s.arcBytes q) 18 2 == r.session &&
    (q == r.arcFrom || serialBefore 32 r.arcFrom q))

/-- Closing records of start-up come before the requests that were made after the BOOT record. -/
def closeInsert (bootAt : Nat) (x : ArcReq) : List ArcReq → List ArcReq
  | [] => [x]
  | r :: rest => if r.stamp > bootAt ∧ r.kind ≠ recClose then x :: r :: rest else r :: closeInsert bootAt x rest

/-- OPEN_RELEASE_RESOLVE. -/
def State.openRelResolve (s : State) (e : Nat) : State :=
  match SMap.find s.shu.openRel e with
  | none => s
  | some r =>
    if !s.shu.toResolve.contains e ∨ !s.plt.bootDone then s
    else
      let s := { s with shu := { s.shu with toResolve := s.shu.toResolve.erase e } }
      match s.decisionFound r with
      | none => s.openRelClear r.session r.gen
      | some q =>
        let x : Rel := { state := 3, kind := r.kind, target := r.target, session := r.session, gen := r.gen, arcSeq := q,
                         toDs := 0, code := ccTargetReset, reason := rrPower }
        let req : ArcReq := { kind := recClose, code := ccTargetReset, source := s.source 0x09 0, stamp := s.now,
                              era := s.mer.era, located := false, session := r.session, body := relBody x rrPower s.now,
                              recFor := .closing r.session r.gen }
        match (List.range 256).find? (fun k => (s.rel k).isNone) with
        | none => s
        | some k =>
          { s with shu := { s.shu with rel := SMap.put s.shu.rel k x }
                   plt := { s.plt with arcQ := closeInsert s.plt.bootAt req s.plt.arcQ } }.shuStat

def execOpenReleaseResolve (t entry : Nat) (s : State) : Answer := happen t s (fun s => s.openRelResolve entry)

/-! ## Margin (R523) -/

/-- MARGIN_NOW: a pass starts at once. -/
def State.marginNow (s : State) : State :=
  let s := { s with plt := { s.plt with marginAt := 0, marginSince := s.now } }
  (s.wr PLT_STAT.MARGIN_RUN 1).wr PLT_MARGIN_STAT.PAGE 0

def execMarginNow (t : Nat) (s : State) : Answer := happen t s State.marginNow

/-- MARGIN_READ: the next word of the pass. -/
def State.marginRead (s : State) (find : Nat) : State :=
  if !s.pltReady ∨ s.pwrState ≥ psS2 then s
  else
    let s := if s.on PLT_STAT.MARGIN_RUN then s else s.marginNow
    let k := s.plt.marginAt
    let s := s.pltJudge (8 * k) find
    if k + 1 ≥ 2097152 then
      let min' := (s.now - s.plt.marginSince) / 3833856000000
      let s := { s with plt := { s.plt with marginAt := 0 } }
      ((s.wr PLT_MARGIN_STAT.LAST_MIN (min 65535 min')).wr PLT_MARGIN_STAT.PAGE 0).wr PLT_STAT.MARGIN_RUN 0
    else
      let s := { s with plt := { s.plt with marginAt := k + 1 } }
      s.wr PLT_MARGIN_STAT.PAGE ((k + 1) / 32)

def execMarginRead (t find : Nat) (s : State) : Answer := happen t s (fun s => s.marginRead find)

/-! ## The register port (R516, R517) -/

/-- The word address the port names. -/
def State.accAddr (s : State) : Nat := 8 * s.rd PLT_ACC_ADDR.ADDR

/-- An access during recall (R520). -/
def State.accBusy (s : State) : State := (s.wr PLT_ACC_CTL.RESULT ccBusy).bump PLT_CNT_BUSY.COUNT

/-- PLT_ACC_READ: AUTHORITY reads 0; a poisoned word delivers no data. -/
def State.accRead (s : State) (find : Nat) : State :=
  if s.on PLT_ACC_CTL.BUSY then s
  else
    let s := s.wr PLT_ACC_CTL.WRITE 0
    let a := s.accAddr
    if !s.pltReady then s.accBusy
    else if pltRegion a = 6 then
      ((s.wr PLT_ACC_DATA_LO.DATA 0).wr PLT_ACC_DATA_HI.DATA 0).wr PLT_ACC_CTL.RESULT ccOk
    else
      let s := s.pltJudge a find
      if s.pltPoisoned a then s.wr PLT_ACC_CTL.RESULT ccPoisoned
      else (s.wr64 PLT_ACC_DATA_LO.DATA PLT_ACC_DATA_HI.DATA (s.pltWord a)).wr PLT_ACC_CTL.RESULT ccOk

def execPltAccRead (t port find : Nat) (s : State) : Answer := happen t s (fun s =>
  (s.accRead find).answerCode port ccOk)

/-- BP covers an address (R517). -/
def bpCovers (bp a : Nat) : Bool :=
  match bp with
  | 0 => false
  | 1 => decide (0xC00000 ≤ a)
  | 2 => decide (0x800000 ≤ a)
  | _ => true

/-- A refused write (R515, R517). -/
def State.accDenied (s : State) (a : Nat) : State :=
  (((s.wr PLT_ACC_CTL.RESULT ccDenied).bump PLT_CNT_DENIED.COUNT).irq PLT_IRQ_STAT.DENIED).pltEvent peDenied a

/-- A port write of a word; `open'` in a privileged view that a grant opens. -/
def State.portWrite (s : State) (open' : Bool) (a w : Nat) : State :=
  let r := pltRegion a
  if !s.pltReady then s.accBusy
  else if !(r == 5 || (open' && (r == 3 || r == 4))) || bpCovers (s.rd PLT_PROTECT.BP) a then s.accDenied a
  else
    let s := { s with plt := { s.plt with portSince := some s.now } }
    (s.wr PLT_ACC_CTL.BUSY 1).pltWrite lanePort .port [(a, w)]

/-- PLT_ACC_WRITE. -/
def State.accWrite (s : State) (port : Nat) (priv : Bool) : State :=
  if s.on PLT_ACC_CTL.BUSY then s
  else
    let go := fun (a : State) =>
      let a := a.wr PLT_ACC_CTL.WRITE 1
      a.portWrite priv a.accAddr (a.rd64 PLT_ACC_DATA_LO.DATA PLT_ACC_DATA_HI.DATA)
    if priv then s.privWrite port true 0x10 0x100030 go else go s

def execPltAccWrite (t port : Nat) (priv : Bool) (s : State) : Answer := happen t s (fun s => s.accWrite port priv)

/-! ## Export (R529–R531) -/

/-- The first number not past its commit point: an export goes no further. -/
def State.arcEnd (s : State) : Nat :=
  match s.plt.sealing, s.plt.writing with
  | some r, _ => r.seq
  | none, some r => r.seq
  | none, none => s.plt.head

/-- The header of an export, but for CHECK. -/
def State.exportHead (s : State) (first count map : Nat) : List Byte :=
  bytesOf [0x41, 1, count, 0] ++ leBytes 4 first ++ leBytes 8 s.devid ++ leBytes 4 s.plt.head ++ leBytes 4 s.plt.oldest ++
    leBytes 4 (s.rd PLT_ARC_LOST.LOST) ++ leBytes 1 s.lc ++ leBytes 3 0 ++ leBytes 8 map ++ leBytes 8 s.now ++ leBytes 8 0

/-- EXPORTED advances, is committed to SHADOW, and the LOSS record follows when AVAIL rises above 0. -/
def State.exportTo (s : State) (last : Nat) : State :=
  if !serialBefore 32 s.plt.exported last then s
  else
    let was := s.arcAvail
    let n := (s.plt.exportSeq + 1) % 2 ^ 24
    let s := { s with plt := { s.plt with exported := last, exportSeq := n } }
    let s := s.pltWrite laneArc .exportPtr [(0xA51000 + 8 * (n % 64), last + n * 2 ^ 32 + 0xEB * 2 ^ 56)]
    let s := s.arcRegs
    if was == 0 && s.arcAvail != 0 then s.lossRecord else s

/-- ARCHIVE_EXPORT. -/
def State.arcExport (s : State) (slot : Nat) : State :=
  let s := s.wr PLT_ARC_EXP_CTL.SLOT slot
  let ask := s.rd PLT_ARC_EXP_FROM.FROM
  let from' := if serialBefore 32 ask s.plt.oldest then s.plt.oldest else ask
  let stop := s.arcEnd
  if !s.pltReady then (s.wr PLT_ARC_EXP_CTL.CODE ccBusy).bump PLT_CNT_BUSY.COUNT
  else if s.slotFlag slot ≠ slotDevice ∨ s.inRing slot ∨ !serialBefore 32 from' stop then
    s.wr PLT_ARC_EXP_CTL.CODE ccPrecondition
  else
    let count := min 63 ((stop + 2 ^ 32 - from') % 2 ^ 32)
    let seqs := (List.range count).map (fun i => (from' + i) % 2 ^ 32)
    let map := bitMap ((List.range count).filter (fun i => s.arcPoison (seqs.getD i 0)))
    let body := seqs.flatMap s.arcBytes
    let head := s.exportHead from' count map
    let (code, tag, s) := s.kceNow 0x10 kKSEAL [] (slice head 0 56)
    let check := if code = ccOk then tag.take 8 else List.replicate 8 0
    let s := s.fillSlot slot (slice head 0 56 ++ check ++ body)
    let s := (s.wr PLT_ARC_EXP_CTL.CODE code).handSlot slot
    if code = ccOk then s.exportTo ((from' + count - 1) % 2 ^ 32) else s

def execArchiveExport (t slot : Nat) (s : State) : Answer := happen t s (fun s => s.arcExport slot)

end Sys2Proof.Machine
end

