-- ==== Sys2Proof/Machine/UnitReset.lean ====
section
/-! DEFINITION. A unit reset of each unit (R32, R33): what it ends, the registers that survive it, and the work of the
unit's INIT. -/

namespace Sys2Proof.Machine

/-! ## What a reset ends -/

/-- R412: a unit reset of KCE. -/
def State.kceUnitReset (s : State) : State :=
  let waits := s.kce.offered
  let s := { s with kce := { s.kce with offered := [], alarmTest := false, katBad := false } }
  let s := waits.foldl (fun (a : State) r => a.kceDeliver r ccTargetReset []) s
  let ns := (s.ses.ctx.map (·.1)).filter s.wantsKce
  let s := ns.foldl (fun (a : State) n => a.complete n (a.ctx n).gen poolKce ccTargetReset 0 []) s
  s.kceFlush ccTargetReset

/-- R566: a unit reset of BOOT ends a flash-port operation, a RETRY and a SWITCH; the running image stays. -/
def State.bootUnitReset (s : State) : State :=
  let s := match s.boot.op with
    | some _ => ((s.wr BOOT_FL_CTL.CODE ccTargetReset).wr BOOT_FL_CTL.BUSY 0).irq BOOT_IRQ_STAT.FL_DONE
    | none => s
  let s := { s with boot := { s.boot with op := none } }
  let s := match s.boot.switching with
    | some k =>
      let s := { s with boot := { s.boot with switching := none } }
      ((s.wr BOOT_STAT.PHASE bpRun).irq BOOT_IRQ_STAT.SWITCH_FAIL).bootEvent beSwitch 0 ccTargetReset k 0
    | none => s
  if s.bootPhase = bpCopy ∧ !s.on BOOT_STAT.IMAGE_OK ∧ !s.boot.tries.isEmpty then
    let s := { s with boot := { s.boot with tries := [] } }
    ((s.wr BOOT_STAT.PHASE bpFail).wr BOOT_STAT.FAIL_CODE ccTargetReset).irq BOOT_IRQ_STAT.FAIL
  else s

/-- A unit reset of EYE: the line that runs or waits is given up. -/
def State.eyeUnitReset (s : State) : State := { s with eye := { s.eye with busy := false, held := none } }

/-- Every core that runs a step is stopped (step 1 of R291). -/
def State.stopAllSteps (s : State) : State := (List.range 16).foldl (fun (a : State) c => a.coreStop c) s

/-- Requests that depend on a unit at the moment it resets: DBX's of TRN, KCE and RAD (R227). -/
def State.dbxOn (s : State) (u : Nat) : State :=
  if u = 0x04 then s.dbxDepend (fun x => decide (2 ≤ x.phase) && decide (x.phase ≤ 7))
  else if u = 0x05 then s.dbxDepend (fun x => x.fallback)
  else if u = 0x0C then s.dbxDepend (fun x => x.phase == 1)
  else s

/-- What a unit reset ends (steps 1 and 2 of R32). -/
def State.resetEffect (s : State) (u : Nat) : State :=
  match u with
  | 0x02 => s.helUnitReset
  | 0x03 => s.lfpUnitReset
  | 0x04 => (s.dbxOn 0x04).radUnitReset
  | 0x05 => (s.dbxOn 0x05).trnUnitReset
  | 0x06 => s.dbxUnitReset
  | 0x07 => s.almUnitReset
  | 0x08 => s.stopAllSteps.sesUnitReset
  | 0x09 => (s.shuUnitReset).fndUnitReset
  | 0x0A => s.ephUnitReset
  | 0x0C => (s.dbxOn 0x0C).kceUnitReset
  | 0x0D => s.rngUnitReset
  | 0x0E => s.astUnitReset
  | 0x0F => s.memUnitReset
  | 0x11 => s.bootUnitReset
  | 0x13 => s.hifUnitReset
  | 0x14 => s.blnUnitReset
  | 0x16 => s.eyeUnitReset
  | _ => s

/-! ## The registers -/

/-- Registers that show what a unit reset leaves as it is, and so keep their values (R170, R283, R506, R566, R619,
R655, R659). -/
def keptRegs (u : Nat) : List Reg :=
  match u with
  | 0x04 => [RAD_TRX_STAT.REG, RAD_STAT.REG, RAD_TRX_DUTY.REG]
  | 0x08 => [SES_CREDIT_STAT.REG]
  | 0x0F => [MEM_STAT.REG, MEM_DRAM_SUSPECT.REG]
  | 0x11 => [BOOT_STAT.REG, BOOT_FL_ID.REG, BOOT_FL_SIZE.REG, BOOT_LOAD_TIME.REG, BOOT_SLOT_STAT.REG,
             BOOT_SLOT_SEQ.REG, BOOT_SLOT_LEN.REG, BOOT_SLOT_VER.REG, BOOT_SLOT_DM.REG, BOOT_REC_ERR.REG]
  | 0x13 => [HIF_STAT.REG, HIF_VIEW_GRANT.REG]
  | 0x15 => [MGT_STAT.REG, MGT_FND_STAT.REG]
  | 0x16 => [EYE_STAT.REG]
  | _ => []

/-- The entries of the register table that belong to registers of a list. -/
def State.entriesOf (s : State) (rs : List Reg) : SMap Nat :=
  rs.flatMap (fun r => r.flds.flatMap (fun f => (List.range f.n1).flatMap (fun i => (List.range f.n2).filterMap (fun j =>
    (SMap.find s.regs (f.key i j)).map (fun v => (f.key i j, v))))))

/-- R17 with what the unit keeps. -/
def State.unitRegsKeep (s : State) (u : Nat) : State :=
  let keep := s.entriesOf (keptRegs u)
  let s := s.unitRegs u
  { s with regs := SMap.over' s.regs keep }

/-- Registers that a unit forms anew from what it holds. -/
def State.regsAgain (s : State) (u : Nat) : State :=
  match u with
  | 0x02 => (s.helLocks).chRegs
  | 0x03 => s.lfpStat
  | 0x04 => (List.range 20).foldl (fun (a : State) t => a.gainEff t) s
  | 0x05 => (List.range 16).foldl (fun (a : State) t => (a.trnStat t).adlyEff t) s
  | 0x06 => s.dbxStat
  | 0x07 => s.almTableRegs.almStat
  | 0x08 => s.sesStat.claimStat
  | 0x09 => s.shuStat
  | 0x0A => s.claimsReg.jrnlStat.ephStat
  | 0x0B => s.domRegsAgain
  | 0x0C => s.kceStat
  | 0x0D => s.rngStates
  | 0x0E => s.astStat
  | 0x0F => (List.range 63).foldl (fun (a : State) k => a.wr MEM_ARR_STAT.REMAP (a.remapCount k) k) s
  | 0x14 => s.blnRoutes
  | 0x15 => s.fndStat
  | 0x16 => ((s.wr EYE_STAT.BUSY 0).wr EYE_STAT.STATE s.eyeStateOf)
  | _ => s

/-! ## INIT -/

/-- The work that a unit's INIT begins. -/
def State.unitInit (s : State) (u : Nat) : State :=
  match u with
  | 0x02 => s.helInit
  | 0x04 => s.calBootAll
  | 0x0A => if s.on BOOT_STAT.IMAGE_OK then s.ephLoad else s
  | 0x0C => s.katRun
  | 0x0F => if s.on MEM_STAT.INIT_DONE then s.scrubStart else s
  | 0x14 => s.blnInit
  | _ => s

/-- A session's end record is still to commit. -/
def State.endsWait (s : State) : Bool :=
  s.ses.ctx.any (fun p => p.2.state == ssAborted && ((s.aux p.1).recWait || (s.aux p.1).recSent))

/-- Nothing holds a unit in INIT: start-up calibrations (R81, R170), the store's acceptance (R368), the closing records
(R333), the end records (R291), the list of open releases (R324), the recall (R520), the start-up test (R423), the
known-answer tests (R412). -/
def State.initReady (s : State) (u : Nat) : Bool :=
  match u with
  | 0x02 => s.hel.calQ.isEmpty
  | 0x04 => (List.range 20).all (fun t => !(s.trx t).calBoot)
  | 0x08 => s.shu.toResolve.isEmpty && !s.endsWait && s.plt.bootDone
  | 0x09 => s.shu.rel.all (fun p => p.2.state != 3)
  | 0x0A => s.eph.accepted || s.eph.commit.isNone || s.rd EPH_STAT.STATE != ephLoading
  | 0x0C => !s.kce.katBad
  | 0x0D => s.rd RNG_STAT.SOURCE == rngOk
  | 0x10 => s.on PLT_STAT.READY
  | _ => true

/-- What the end of INIT does. -/
def State.initEnds (s : State) (u : Nat) : State :=
  match u with
  | 0x08 => s.bootRun
  | 0x09 => s.fndProbe
  | 0x0E => s.astLoadAll
  | 0x0F => if s.on MEM_STAT.INIT_DONE then s else ((s.wr MEM_STAT.INIT_DONE 1).scrubStart).bootGo
  | _ => s

/-! ## The reset -/

/-- Units that a write of RST does not reset (R33). -/
def neverReset (u : Nat) : Bool := u == 0x00 || u == 0x01 || u == 0x12 || u == 0x17

/-- A unit goes from RESET through INIT. -/
def State.enterInit (s : State) (u : Nat) : State := (s.toInit u).unitInit u

/-- R32: a unit reset of a unit that is not held in RESET or OFF. -/
def State.unitReset (s : State) (u : Nat) : State :=
  if neverReset u ∨ 24 ≤ u ∨ s.rep u = stOff ∨ s.rep u = stReset then s
  else if u = 0x0B then s.domReset
  else if u = 0x10 then s.pltResetAsk
  else ((((s.resetEffect u).unitRegsKeep u).regsAgain u).resetStates u).unitInit u

/-- A unit whose power or whose release from RESET has come passes through RESET and INIT (R540, R571). -/
def State.unitUp (s : State) (u : Nat) : State :=
  ((((s.unitRegsKeep u).regsAgain u).nextEpoch u).setRep u stReset).enterInit u

end Sys2Proof.Machine
end

