-- ==== Sys2Proof/Machine/Pwr.lean ====
section
/-! DEFINITION. PWR: domains, device states, their sequences and reversals, the core supply and the wake pins
(R568–R592). -/

namespace Sys2Proof.Machine

/-! ## Domains (R571, R581, R582) -/

/-- Domains that may be commanded OFF (R568). -/
def domOffable (d : Nat) : Bool := decide (4 ≤ d) && decide (d ≤ 8)

/-- The domain runs a sequence or waits for its units. -/
def State.domMoving (s : State) (d : Nat) : Bool := (SMap.find s.pwr.doms d).isSome || s.pwr.halting.contains d

/-- STEP of R581 in progress, from the time since the sequence's start. -/
def domStep (up : Bool) (us : Nat) : Nat :=
  if up then (if us < 8 then 1 else if us < 12 then 2 else if us < 20 then 3 else if us < 24 then 4 else 5)
  else (if us < 2 then 2 else if us < 3 then 3 else if us < 4 then 4 else 5)

/-- Microseconds since a stamp. -/
def State.usSince (s : State) (a : Nat) : Nat := (s.now - a) * 10 / ticksPerUs10

/-- Begin a sequence of a domain, `ago` µs into its table. -/
def State.domBegin (s : State) (d : Nat) (up : Bool) (ago : Nat) : State :=
  let q : DomSeq := { up := up, start := s.now - usT ago }
  let s := { s with pwr := { s.pwr with doms := SMap.put s.pwr.doms d q, halting := s.pwr.halting.erase d } }
  let s := s.wr PWR_DOM_STAT.TARGET (if up then dsRun else dsOff) d
  (s.flag PWR_DOM_STAT.DOWN (!up) d).wr PWR_DOM_STAT.STEP (domStep up ago) d

/-- Every unit of a domain reports HALT, or takes no part any more. -/
def State.domHalted (s : State) (d : Nat) : Bool :=
  (domUnits d).all (fun u =>
    if u = 0x04 ∧ s.domSt (9 - d) ≠ dsOff then true
    else s.rep u == stHalt || s.rep u == stReset || s.rep u == stFault || s.rep u == stOff)

/-- A domain whose units have halted goes down. -/
def State.haltedDown (s : State) : State :=
  (s.pwr.halting.filter s.domHalted).foldl (fun (a : State) d => a.domBegin d false 0) s

/-- DOMAIN_OFF (R571). RAD, which spans two domains, is commanded to HALT when the other one is off or going off. -/
def State.domainOff (s : State) (d : Nat) : State :=
  if !domOffable d ∨ s.on PWR_DOM_CTL.OFF d then s
  else
    let s := s.wr PWR_DOM_CTL.OFF 1 d
    let s := (s.pwrEvent 5 d).archiveEvent 0x12 d (5 * 2 ^ 28 + d * 2 ^ 24)
    match SMap.find s.pwr.doms d with
    | some q => { s with pwr := { s.pwr with doms := SMap.put s.pwr.doms d { q with rev := q.up } } }
    | none =>
      let us := if (d = 4 ∨ d = 5) ∧ !s.on PWR_DOM_CTL.OFF (9 - d) then [] else domUnits d
      let s := us.foldl (fun (a : State) u => a.unitCommand u stHalt) s
      let s := { s with pwr := { s.pwr with halting := s.pwr.halting ++ [d] } }
      s.haltedDown

def execDomainOff (t d : Nat) (s : State) : Answer := happen t s (fun s => s.domainOff d)

/-- DOMAIN_ON (R571, R582). -/
def State.domainOn (s : State) (d : Nat) : State :=
  if !domOffable d ∨ !s.on PWR_DOM_CTL.OFF d then s
  else
    let s := s.wr PWR_DOM_CTL.OFF 0 d
    let s := (s.pwrEvent 6 d).archiveEvent 0x12 d (6 * 2 ^ 28 + d * 2 ^ 24)
    match SMap.find s.pwr.doms d with
    | some q => { s with pwr := { s.pwr with doms := SMap.put s.pwr.doms d { q with rev := !q.up } } }
    | none =>
      if s.pwr.halting.contains d then
        let s := { s with pwr := { s.pwr with halting := s.pwr.halting.erase d } }
        ((s.bump PWR_DOM_CNT_REV.COUNT d).bump PWR_CNT_REVERSE.COUNT).irq PWR_IRQ_STAT.REVERSE
      else s.domBegin d true 0

def execDomainOn (t d : Nat) (s : State) : Answer := happen t s (fun s => s.domainOn d)

/-- Units of a domain that stand in no other powered one. -/
def State.domOnlyUnits (s : State) (d : Nat) : List Nat :=
  (domUnits d).filter (fun u => !(u == 0x04 && s.domSt (9 - d) != dsOff))

/-- What a unit loses with its power: its requests and its state end as at a unit reset. -/
def State.unitDown (s : State) (u : Nat) : State :=
  let s := if u = 0x13 then s.linkDown else s.resetEffect u
  let s := s.setUnitS u { s.unitS u with target := none }
  s.setRep u stOff

/-- A domain has gone down: its units report OFF. -/
def State.domGone (s : State) (d : Nat) : State :=
  let s := s.setDom d dsOff
  (s.domOnlyUnits d).foldl (fun (a : State) u => a.unitDown u) s

/-- A domain has come up: its units pass through RESET and INIT. -/
def State.domCome (s : State) (d : Nat) : State :=
  let us := (domUnits d).filter (fun u => s.rep u == stOff)
  let s := (s.setDom d dsRun).bump PWR_DOM_CNT_UP.COUNT d
  us.foldl (fun (a : State) u => a.unitUp u) s

/-- DOMAIN_SEQUENCE_DONE (R581). -/
def execDomainSequenceDone (t d : Nat) (s : State) : Answer := happen t s (fun s =>
  match SMap.find s.pwr.doms d with
  | none => s
  | some q =>
    if q.rev ∨ s.now < q.start + usT (if q.up then 24 else 4) then s
    else
      let s := { s with pwr := { s.pwr with doms := SMap.del s.pwr.doms d } }
      let s := (s.wr PWR_DOM_STAT.STEP 0 d).wr PWR_DOM_STAT.DOWN 0 d
      if q.up then (s.domCome d).pwrS01 else (s.domGone d).pwrS01)

/-- Where the opposite sequence begins (R582): µs into its table, from the µs run of this one. Steps that were completed
are undone in reverse order. -/
def revAgo (up : Bool) (us : Nat) : Nat :=
  if up then (if us < 12 then 4 else if us < 20 then 3 else if us < 24 then 2 else 0)
  else (if us < 2 then 20 else if us < 3 then 12 else if us < 4 then 8 else 0)

/-- A reversal is counted. -/
def State.revCount (s : State) (d : Nat) : State :=
  let s := ((s.bump PWR_CNT_REVERSE.COUNT).irq PWR_IRQ_STAT.REVERSE).pwrEvent 9 d
  if d < 9 then s.bump PWR_DOM_CNT_REV.COUNT d else s

/-- REVERSAL of a domain's sequence. -/
def State.domReverse (s : State) (d : Nat) : State :=
  match SMap.find s.pwr.doms d with
  | none => s
  | some q => if q.rev then (s.domBegin d (!q.up) (revAgo q.up (s.usSince q.start))).revCount d else s

/-! ## DOZE (R570) -/

/-- DOZE: a domain in RUN that has been idle dozes; one that a request reaches runs again. -/
def execDoze (t d : Nat) (idle : Bool) (s : State) : Answer := happen t s (fun s =>
  if d = 0 ∨ 9 ≤ d ∨ s.domMoving d ∨ s.pwrState > psS1 then s
  else if idle then
    if s.domSt d = dsRun ∧ s.rd PWR_DOM_IDLE.DOZE_US d ≠ 0 then (s.setDom d dsDoze).pwrS01 else s
  else if s.domSt d = dsDoze then (s.setDom d dsRun).pwrS01 else s)

/-! ## The conditions of S2 (R573) -/

/-- A Meridian millisecond count at which an enabled entry falls due, the next one. -/
def State.pollSoon (s : State) : Option Nat :=
  let ms := s.now / msT 1
  let es := (List.range 64).filter (fun e => s.pollOn e)
  es.foldl (fun (m : Option Nat) e =>
    let d := s.nextDue e ms
    match m with
    | some x => some (min x d)
    | none => some d) none

/-- WAKE_LEAD in ticks. -/
def State.wakeLead (s : State) : Nat := usT (100 * max 25 (s.rd PWR_S2_CFG.WAKE_LEAD))

/-- BLOCK: the conditions that fail. -/
def State.pwrBlock (s : State) : Nat :=
  let ses := !s.ses.ctx.isEmpty || s.lfp.polls.any (fun p => p.asked && p.owner.isNone)
  let shu := s.shu.rel.any (fun p => p.2.state == 1 || p.2.state == 2)
  let stack := (List.range 2).any (fun p => s.rd BLN_PORT_STAT.STATE p == 3)
  let pin := (List.range 8).any (fun p => s.on PWR_WAKE_CFG.EN p && s.on PWR_WAKE_CFG.MODE p && s.on PWR_WAKE_CFG.LEVEL p)
  let poll := match s.pollSoon with
    | some ms => decide (ms * msT 1 ≤ s.now + msT (s.rd PWR_S2_CFG.S2_MIN) + s.wakeLead)
    | none => false
  let work := !s.hel.calQ.isEmpty || s.hel.slot.isSome || (List.range 20).any (fun t => (s.trx t).calItem.isSome) ||
    s.trn.cal.isSome || s.boot.op.isSome || s.boot.switching.isSome || s.boot.unfinished ||
    s.on EPH_STAT.COMPACTING
  let s2 := !s.on PWR_IDLE_CFG.S2_EN
  bitMap ((([(0, ses), (1, shu), (2, stack), (3, pin), (4, poll), (5, work), (6, s2)] : List (Nat × Bool)).filter
    (fun x => x.2)).map (fun x => x.1))

/-! ## Entry (R573–R575, R579) -/

/-- Step 1 of R579: what the units do before S2 or S3. -/
def State.beforeSleep (s : State) : State :=
  let s := ((s.radSleep.trnSleep).dbxSleep).memSleep
  let s := (List.range 16).foldl (fun (a : State) o => a.outEdge o false) s
  (s.clearWk).wr RNG_STAT.SOURCE rngOff

/-- The domains in S2 (R568), those commanded OFF staying so. -/
def State.domsS2 (s : State) : State :=
  let s := ((s.setDom 1 dsRetain).setDom 2 dsRetain).setDom 3 dsRetain
  let s := [4, 5, 6, 7].foldl (fun (a : State) d => a.setDom d dsOff) s
  if s.on PWR_DOM_CTL.KEEP 8 ∨ s.domSt 8 = dsOff then s else (s.linkDown).setDom 8 dsOff

/-- The stamp the AON timer wakes the device at (R574). -/
def State.leadStamp (s : State) : Option Nat := (s.pollSoon).map (fun ms => ms * msT 1 - s.wakeLead)

/-- S2 is reached. -/
def State.enterS2 (s : State) : State :=
  let s := { s with pwr := { s.pwr with seq := none, s2At := s.now, leadAt := s.leadStamp, wakeAt := none }
                    mer := { s.mer with sleepCount := some s.mer.count } }
  let s := s.domsS2.pwrAccount
  let s := (s.wr PWR_STAT.STATE psS2).wr PWR_STAT.MOVING 0
  (s.pwrEvent 1 0).pwrCount 0

/-- S2_ENTRY: the decision, when no condition of R573 fails; and, 4 µs after the writes of R537 are confirmed, S2. The
happening says that the conditions have held for S2_IDLE. -/
def execS2Entry (t : Nat) (s : State) : Answer := happen t s (fun s =>
  match s.pwr.seq with
  | some q =>
    if q.kind = 1 ∧ !q.rev ∧ s.plt.queue.isEmpty ∧ s.plt.banks.isEmpty ∧ s.now ≥ q.start + usT 4 then s.enterS2 else s
  | none =>
    let b := s.pwrBlock
    let s := s.wr PWR_STAT.BLOCK b
    if s.pwrState ≤ psS1 ∧ b = 0 ∧ s.pwr.doms.isEmpty ∧ s.pwr.halting.isEmpty then
      let s := s.beforeSleep
      let s := { s with pwr := { s.pwr with seq := some { kind := 1, start := s.now } } }
      s.wr PWR_STAT.MOVING 1
    else s)

/-- S3 is reached: CORE is off, and arrays 0x00–0x2F are lost (R575). -/
def State.enterS3 (s : State) : State :=
  let s := (s.setDom 2 dsOff).arraysOff (fun a => a < 0x30)
  let s := { s with pwr := { s.pwr with seq := none }, ast := { s.ast with cores := [] } }
  let s := s.pwrAccount
  let s := (s.wr PWR_STAT.STATE psS3).wr PWR_STAT.MOVING 0
  (s.pwrEvent 2 0).pwrCount 1

/-- S3_ENTRY: the decision after S3_IDLE in S2, the POLL condition excepted; and, 20 µs later, S3. -/
def execS3Entry (t : Nat) (s : State) : Answer := happen t s (fun s =>
  match s.pwr.seq with
  | some q => if q.kind = 2 ∧ !q.rev ∧ s.now ≥ q.start + usT 20 then s.enterS3 else s
  | none =>
    if s.pwrState = psS2 ∧ s.on PWR_IDLE_CFG.S3_EN ∧ setBit s.pwrBlock 4 false = 0 ∧
        s.now ≥ s.pwr.s2At + secT (orOne (s.rd PWR_IDLE_CFG.S3_IDLE)) then
      let s := { s with pwr := { s.pwr with seq := some { kind := 2, start := s.now } } }
      s.wr PWR_STAT.MOVING 1
    else s)

/-! ## Wake (R574, R576, R580) -/

/-- POLL_LEAD_TIMER: the timer of R574 wakes the device in S2. -/
def execPollLeadTimer (t : Nat) (s : State) : Answer := happen t s (fun s =>
  match s.pwr.leadAt with
  | some a =>
    if s.now ≥ a ∧ s.pwrState = psS2 then
      { s with pwr := { s.pwr with leadAt := none } }.wakeBy 4
    else s
  | none => s)

/-- WAKE (R576): an event of a SOURCE. -/
def execWake (t src pin : Nat) (s : State) : Answer := happen t s (fun s =>
  if 1 ≤ src ∧ src ≤ 6 then s.wakeBy src (pin % 8) else s)

/-- What S3 held is delivered (R134, R171). -/
def State.deliverHeld (s : State) : State :=
  let s := match s.rad.held with
    | some (p, at') => { s with rad := { s.rad with held := none } }.buttonFrame p at'
    | none => s
  let s := if s.lfp.held.isSome then s.openWatch else s
  match s.lfp.heldHop with
  | some (e, car) =>
    let p : LfpPoll := { entry := e, due := s.now, asked := false, owner := none, isDue := true, tried := [car] }
    { s with lfp := { s.lfp with heldHop := none, polls := s.lfp.polls ++ [p] } }
  | none => s

/-- Meridian resumes (R53): its value at entry and the elapsed always-on cycles; never earlier than any stamp given
(R54). -/
def State.merWake (s : State) (aon : Nat) : State :=
  match s.mer.sleepCount with
  | none => s
  | some c =>
    let n := max s.mer.count (c + aon * s.rd MER_AON_RATIO.RATIO)
    let s := { s with mer := { s.mer with count := min n (2 ^ 64 - 1), sleepCount := none } }
    s.wr MER_STAT.RESTORED 1

/-- S0 is reported. -/
def State.wakeDone (s : State) (deep : Bool) (aon : Nat) : State :=
  let s := { s with pwr := { s.pwr with seq := none, leadAt := none } }
  let s := s.merWake aon
  let s := (List.range 9).foldl (fun (a : State) d => if a.on PWR_DOM_CTL.OFF d then a else a.setDom d dsRun) s
  let s := s.pwrAccount
  let s := (s.wr PWR_STAT.STATE psS0).wr PWR_STAT.MOVING 0
  let s := (s.irq PWR_IRQ_STAT.WAKE).pwrEvent 3 0
  let s := (s.wr RNG_STAT.SOURCE rngStartup).rngStates
  let s := s.wr MEM_STAT.SCRUBBING 1
  let s := if deep ∧ s.on AST_STAT.IMAGE_VALID then
      (s.astLoadAll).wr RAD_TRX_STAT.OWNER owNone s.s3Trx
    else s
  let s := (s.portTrain 0).portTrain 1
  s.deliverHeld

/-- WAKE_DONE (R580): 50 µs from S2, 2 ms from S3. -/
def execWakeDone (t aon : Nat) (s : State) : Answer := happen t s (fun s =>
  match s.pwr.seq with
  | some q =>
    if q.kind = 3 ∧ s.now ≥ q.start + usT 50 then s.wakeDone false aon
    else if q.kind = 4 ∧ s.now ≥ q.start + msT 2 then s.wakeDone true aon
    else s
  | none => s)

/-! ## Reversal (R582) -/

/-- The device's entry is reversed: from that to S2 the units resume as from S0; from that to S3 the device is in S2
again, and wakes from it. -/
def State.devReverse (s : State) : State :=
  match s.pwr.seq with
  | none => s
  | some q =>
    if !q.rev then s
    else
      let s := s.revCount 9
      if q.kind = 1 then
        let s := { s with pwr := { s.pwr with seq := none } }
        let s := s.wr PWR_STAT.MOVING 0
        let s := (s.wr RNG_STAT.SOURCE rngStartup).rngStates
        (s.wr MEM_STAT.SCRUBBING 1).deliverHeld
      else { s with pwr := { s.pwr with seq := some { kind := 3, start := s.now } } }

/-- REVERSAL: the step in progress has reached its stable point, and the opposite sequence runs. -/
def execReversal (t d : Nat) (s : State) : Answer := happen t s (fun s =>
  if d = 9 then s.devReverse else s.domReverse d)

/-! ## S4 (R577) -/

/-- A write of OFF in PWR_CTL. -/
def State.pwrOff (s : State) : State :=
  if s.pwr.goingOff then s.offCheck
  else
    let live := s.shu.rel.filter (fun p => p.2.state ≤ 2)
    let s := live.foldl (fun (a : State) p => a.endRel p.1 ccTargetReset rrCut) s
    let s := (List.range 16).foldl (fun (a : State) o => a.outEdge o false) s
    let s := (s.pwrEvent 4 0).archiveEvent 0x12 0 (4 * 2 ^ 28)
    let s := { s with pwr := { s.pwr with goingOff := true } }
    s.offCheck

def execOffCmd (t : Nat) (s : State) : Answer := happen t s State.pwrOff

/-! ## The core supply (R585–R588) -/

/-- HALF in both its registers. -/
def State.setHalf (s : State) (b : Bool) : State := (s.flag PWR_STAT.HALF b).flag PWR_FREQ.HALF b

/-- STATE of PWR_AVS_STAT. -/
def avIdle : Nat := 0
def avIssued : Nat := 1
def avConfirming : Nat := 2
def avFallback : Nat := 3

/-- A target is issued: below VMIN_FULL only after HALF; an acknowledged and unconfirmed write is superseded. -/
def State.avsIssue (s : State) (mv : Nat) : State :=
  let above := match s.pwr.avs with
    | some w => w.acked.isSome
    | none => false
  let s := if above then s.bump PWR_CNT_AVS_SUPER.COUNT else s
  let s := if mv < s.rd PWR_FREQ.VMIN_FULL then s.setHalf true else s
  let s := { s with pwr := { s.pwr with avs := some { mv := mv, issued := s.now, readAt := s.now } } }
  let s := (s.wr PWR_VCORE.TARGET_MV mv).bump PWR_CNT_AVS_REQ.COUNT
  (s.wr PWR_AVS_STAT.STATE avIssued).wr PWR_AVS_STAT.PENDING_MV 0

/-- A voltage command (R586, R587): issued, or pending while a write is outstanding; none is issued in FALLBACK. -/
def State.avsCommand (s : State) (mv : Nat) : State :=
  let mv := clampTo 650 850 mv
  if s.on PWR_STAT.FALLBACK then s
  else
    match s.pwr.avs with
    | some w =>
      if w.acked.isNone then
        let s := if s.rd PWR_AVS_STAT.PENDING_MV ≠ 0 then s.bump PWR_CNT_AVS_SUPER.COUNT else s
        let s := if mv < s.rd PWR_FREQ.VMIN_FULL then s.setHalf true else s
        s.wr PWR_AVS_STAT.PENDING_MV mv
      else s.avsIssue mv
    | none => s.avsIssue mv

/-- The target of the present mode (R586). -/
def State.avsTarget (s : State) : Nat :=
  if s.on PWR_PERF.MODE then s.rd PWR_AVS_TGT.TGT_MV
  else 600 + 2 * bits (s.rd PWR_AVS_BAND.BAND) (8 * s.rd PWR_PERF.BAND_NOW + 7) (8 * s.rd PWR_PERF.BAND_NOW)

/-- A change of the effective target is a voltage command. -/
def State.avsRefresh (s : State) : State :=
  let mv := clampTo 650 850 s.avsTarget
  let held := if s.rd PWR_AVS_STAT.PENDING_MV ≠ 0 then s.rd PWR_AVS_STAT.PENDING_MV else s.rd PWR_VCORE.TARGET_MV
  if mv = held then s else s.avsCommand mv

/-- VOLTAGE_COMMAND: a write of TGT_MV, which in MANUAL is a command whatever its value. -/
def State.tgtWrite (s : State) (mv : Nat) : State :=
  let s := s.wr PWR_AVS_TGT.TGT_MV mv
  if s.on PWR_PERF.MODE then s.avsCommand (mv % 1024) else s

def execVoltageCommand (t mv : Nat) (s : State) : Answer := happen t s (fun s => s.tgtWrite mv)

/-- TEMPERATURE_BAND: the hysteresis of R586 has been passed. -/
def execTemperatureBand (t band : Nat) (s : State) : Answer := happen t s (fun s =>
  (s.wr PWR_PERF.BAND_NOW band).avsRefresh)

/-- The supply acknowledged a voltage command. -/
def State.avsAcked (s : State) (w : AvsWrite) (status : Nat) : State :=
  let s := { s with pwr := { s.pwr with avs := some { w with acked := some s.now, readAt := s.now } } }
  let s := (s.wr PWR_AVS_STAT.STATUS status).wr PWR_AVS_STAT.STATE avConfirming
  let p := s.rd PWR_AVS_STAT.PENDING_MV
  if p ≠ 0 then s.avsIssue p else s

/-- AVS_ACK: a good status. -/
def execAvsAck (t status : Nat) (s : State) : Answer := happen t s (fun s =>
  match s.pwr.avs with
  | some w =>
    if w.acked.isSome then s
    else s.avsAcked w status
  | none => s)

/-- PWR_VMON, with the lowest since reset (0 before the first reading). -/
def State.vmonReg (s : State) (v : Nat) : State :=
  let low := s.rd PWR_VMON.TARGET_MV
  let s := s.wr PWR_VMON.MV v
  if low == 0 || Nat.blt v low then s.wr PWR_VMON.TARGET_MV v else s

/-- Two voltages lie within 10 mV of each other. -/
def near10 (a b : Nat) : Bool := decide (a ≤ b + 10) && decide (b ≤ a + 10)

/-- One read of the output and monitor voltages while a command is confirmed. -/
def State.avsRead (s : State) (w : AvsWrite) (vout vmon : Nat) : State :=
  let s := s.vmonReg vmon
  if near10 vout w.mv && near10 vmon w.mv then
    let s := { s with pwr := { s.pwr with avs := none } }
    let s := ((s.wr PWR_VCORE.MV vout).wr PWR_AVS_STAT.STATE avIdle).wr PWR_AVS_STAT.FAILS 0
    if w.mv ≥ s.rd PWR_FREQ.VMIN_FULL ∧ vout ≥ s.rd PWR_FREQ.VMIN_FULL ∧ !s.on PWR_FREQ.FORCE_HALF then
      s.setHalf false
    else s
  else { s with pwr := { s.pwr with avs := some { w with readAt := s.now } } }

/-- VOUT_READ: every 20 µs after the last acknowledgement, until VOUT and VMON confirm the target; then FULL, under R585
and FORCE_HALF. -/
def execVoutRead (t vout vmon : Nat) (s : State) : Answer := happen t s (fun s =>
  match s.pwr.avs with
  | some w =>
    if w.acked.isNone ∨ s.now < w.readAt + usT 20 then s
    else s.avsRead w vout vmon
  | none => s)

/-- FALLBACK is entered (R588). -/
def State.fallback (s : State) : State :=
  let s := { s with pwr := { s.pwr with avs := none, goodReads := 0, fallRead := s.now } }
  let s := (s.setHalf true).wr PWR_STAT.FALLBACK 1
  let s := (s.wr PWR_AVS_STAT.STATE avFallback).wr PWR_AVS_STAT.PENDING_MV 0
  ((s.irq PWR_IRQ_STAT.FALLBACK).pwrEvent 7 2).archiveEvent 0x12 0 (7 * 2 ^ 28 + 2 * 2 ^ 24) (leBytes 4 1)

/-- A voltage command failed: issued again, or the fall-back at the third. -/
def State.avsFailed (s : State) (w : AvsWrite) (kind status : Nat) : State :=
  let s := if kind = 2 then s.wr PWR_AVS_STAT.STATUS status else s
  let s := ((s.bump PWR_CNT_AVS_FAIL.COUNT).irq PWR_IRQ_STAT.AVS_FAIL).pwrEvent 8 2
  let n := s.rd PWR_AVS_STAT.FAILS + 1
  let s := s.wr PWR_AVS_STAT.FAILS n
  if n ≥ 3 then s.fallback
  else
    let s := { s with pwr := { s.pwr with avs := some { mv := w.mv, issued := s.now, readAt := s.now } } }
    (s.bump PWR_CNT_AVS_REQ.COUNT).wr PWR_AVS_STAT.STATE avIssued

/-- AVS_FAILURE (R588): the write is issued again; after three consecutive failures, FALLBACK. -/
def execAvsFailure (t kind status : Nat) (s : State) : Answer := happen t s (fun s =>
  match s.pwr.avs with
  | none => s
  | some w =>
    let due := match w.acked with
      | none => kind == 1 || kind == 2 || (kind == 0 && decide (s.now ≥ w.issued + usT (orOne (s.rd PWR_AVS_CFG.ACK_US))))
      | some a => kind == 3 && decide (s.now ≥ a + usT (10 * orOne (s.rd PWR_AVS_CFG.CONFIRM)))
    if !due then s
    else s.avsFailed w kind status)

/-- One read of the supply in the fall-back. -/
def State.fallbackTaken (s : State) (vout vmon : Nat) (good : Bool) : State :=
  let s := (s.vmonReg vmon).wr PWR_VCORE.MV vout
  let s := if vmon < s.rd PWR_FREQ.VMIN_FULL + 15 then s.setHalf true else s
  let n := if good then s.pwr.goodReads + 1 else 0
  let s := { s with pwr := { s.pwr with goodReads := n, fallRead := s.now } }
  if n < 10 then s
  else
    let s := (s.wr PWR_STAT.FALLBACK 0).wr PWR_AVS_STAT.FAILS 0
    let s := (s.irq PWR_IRQ_STAT.FALLBACK).pwrEvent 7 2
    let s := s.archiveEvent 0x12 0 (7 * 2 ^ 28 + 2 * 2 ^ 24) (leBytes 4 0)
    s.avsCommand s.avsTarget

/-- FALLBACK_READ (R588): every 100 ms; ten consecutive good reads leave FALLBACK. -/
def execFallbackRead (t vout vmon : Nat) (good : Bool) (s : State) : Answer := happen t s (fun s =>
  if !s.on PWR_STAT.FALLBACK ∨ s.now < s.pwr.fallRead + msT 100 then s
  else s.fallbackTaken vout vmon good)

/-- VMON_STABLE (R588). -/
def execVmonStable (t vmon : Nat) (s : State) : Answer := happen t s (fun s =>
  if s.on PWR_STAT.FALLBACK ∧ vmon ≥ s.rd PWR_FREQ.VMIN_FULL + 15 then
    let s := s.vmonReg vmon
    if s.on PWR_FREQ.FORCE_HALF then s else s.setHalf false
  else s)

/-! ## Wake pins (R589) -/

/-- A wake pin became active. -/
def State.wakePin (s : State) (p : Nat) : State :=
  let held := s.on PWR_WAKE_CFG.LEVEL p
  let s := s.wr PWR_WAKE_CFG.LEVEL 1 p
  if !s.on PWR_WAKE_CFG.EN p ∨ (held ∧ !s.on PWR_WAKE_CFG.MODE p) then s
  else
    let s := ((s.wr PWR_WAKE_CFG.FIRED 1 p).bump PWR_WAKE_CFG.COUNT p).irq PWR_IRQ_STAT.WAKE_PIN
    s.wakeBy 1 p

/-- WAKE_PIN_FIRE. -/
def execWakePinFire (t p : Nat) (active : Bool) (s : State) : Answer := happen t s (fun s =>
  if 8 ≤ p then s
  else if !active then s.wr PWR_WAKE_CFG.LEVEL 0 p
  else s.wakePin p)

end Sys2Proof.Machine
end

