-- ==== Sys2Proof/Machine/Sys.lean ====
section
/-! DEFINITION. SYS: device reset (R17, R539, R540), die-to-die links (R22), unit-state records (R30–R38) and requests
between units (R35). -/

namespace Sys2Proof.Machine

/-! ## What device reset finds in the Plate store (R45, R57, R61, R690) -/

/-- Words of the store with a MARK, from an address on: the number of each and its value. -/
def State.marked (s : State) (a step n mark : Nat) : List (Nat × Nat) :=
  (List.range n).filterMap (fun k =>
    let w := s.pltWord (a + step * k)
    if bits w 63 56 = mark ∧ !s.pltPoisoned (a + step * k) then some (k, w) else none)

/-- Of entries with a SEQ, the one with the highest in serial order. -/
def seqMax (w : Nat) (seq : Nat → Nat) : List (Nat × Nat) → Option (Nat × Nat)
  | [] => none
  | x :: r =>
    match seqMax w seq r with
    | none => some x
    | some y => if serialBefore w (seq x.2) (seq y.2) then some y else some x

/-- The era last persisted and its SEQ; a missing one counts as 0 (log entry 31). -/
def State.eraFound (s : State) : Nat × Nat :=
  match seqMax 32 (fun w => bits w 39 8) (s.marked 0xA40000 8 2 0xE1) with
  | some (_, w) => (bits w 7 0, bits w 39 8)
  | none => (0, 0)

/-- The last civil checkpoint: civil_ns, LEAP and SEQ. Its second word carries MARK and SEQ. -/
def State.ckptFound (s : State) : Nat × Nat × Nat :=
  let es := (s.marked 0xA40108 16 16 0xC7).filter (fun e => !s.pltPoisoned (0xA40100 + 16 * e.1))
  match seqMax 32 (fun w => bits w 31 0) es with
  | some (k, w) => (s.pltWord (0xA40100 + 16 * k), bits w 39 32, bits w 31 0)
  | none => (0, 0, 0)

/-- The accepted trims that the store holds, by entry. -/
def State.trimsFound (s : State) : List (Nat × Trim) :=
  (s.marked 0xA40200 8 16 0x7A).map (fun e =>
    (e.1, ({ sec := bits e.2 31 0, us := if bit e.2 53 then -(bits e.2 52 32 : Int) else (bits e.2 52 32 : Int) } : Trim)))

/-- The entry that the next accepted trim takes in the rotation: the first that holds none, or the oldest. -/
def trimSlot (l : List (Nat × Trim)) : Nat :=
  match (List.range 16).find? (fun k => !l.any (fun e => e.1 == k)) with
  | some k => k
  | none => (l.foldl (fun (m : Nat × Nat) e => if e.2.sec < m.2 then (e.1, e.2.sec) else m) (0, 2 ^ 33)).1

/-! ## Device reset -/

/-- Units that leave RESET before the image is distributed (R540). -/
def earlyUnits : List Nat :=
  [0x00, 0x01, 0x0B, 0x0C, 0x0D, 0x0F, 0x10, 0x11, 0x12, 0x13, 0x15, 0x16, 0x17]

/-- The straps, as the registers show them (R665); QUALITY follows MASTER, and until a map is held a device is its own
master (R1). -/
def State.strapLoad (s : State) (x : Straps) : State :=
  let s := (s.load MER_STAT.MASTER x.master.toNat).load MER_STAT.DEVICE x.dev
  let s := s.load MER_STAT.QUALITY (if x.master then qRef else qAcquiring)
  let s := (s.load BLN_STAT.MASTER_STRAP x.master.toNat).load BLN_STAT.DEVICE x.dev
  let s := (s.load BLN_STAT.MASTER x.dev).load ALM_STACK_STAT.MASTER x.dev
  let s := s.load BOOT_STAT.POLICY x.pol
  let s := (s.load PIN_STRAP.MASTER x.master.toNat).load PIN_STRAP.DEV x.dev
  (s.load PIN_STRAP.BOOT_POL x.pol).load PIN_STRAP.TEST_EN x.testEn.toNat

/-- Meridian after device reset: the count from 0, the era after the persisted one, civil time at the last checkpoint. -/
def State.merStart (s : State) : MerS :=
  let (era, eraSeq) := s.eraFound
  let (civil, leap, seq) := s.ckptFound
  let trims := s.trimsFound
  { era := (era + 1) % 256, eraSeq := eraSeq, offset := toSigned 64 civil, leap := leap, lastCkpt := civil,
    ckptSeq := seq, trims := trims.map (fun e => e.2), trimNext := trimSlot trims }

/-- What device reset leaves: the Plate store's words, the fuses, what the Dome holds in AUTHORITY; and, of the model's
own fields, the free-value counter, the bytes last sent and the waiting commands. -/
def State.survives (s : State) : State :=
  { entropy := s.entropy, out := s.out, pending := s.pending, persist := s.persist
    plt := { words := s.plt.words, poison := s.plt.poison, nextId := s.plt.nextId }
    fuse := { words := s.fuse.words }
    dom := { bankA := s.dom.bankA, bankB := s.dom.bankB, pend := s.dom.pend, migrate := s.dom.migrate,
             exportDone := s.dom.exportDone, boots := s.dom.boots, haltBy := s.dom.haltBy, owed := s.dom.owed }
    mer := s.merStart }

/-- R17, R539 steps 1 and 2: every register at its reset value, the straps sampled, the units of R540 in INIT, and the
new era and its checkpoint on their way to the store. -/
def State.deviceReset (s : State) (pin : Bool) (rail : Nat) (x : Straps) : State :=
  let r := s.survives.strapLoad x
  let r := { r with boot := { r.boot with cause := pin.toNat } }
  let r := (r.wr PIN_RESET.CAUSE pin.toNat).wr PIN_RESET.RAIL (if pin then 0 else rail)
  let n := r.kept PIN_CNT_RESET_PIN.COUNT
  let r := if pin then { r with persist := putField r.persist PIN_CNT_RESET_PIN.COUNT 0 0 (min (2 ^ 32 - 1) (n + 1)) } else r
  let r := earlyUnits.foldl (fun (a : State) u => a.enterInit u) r
  r.persistEra.ckptNow

/-- DEVICE_RESET (R17): power-on, or the reset input. It ends S4, too (R577). -/
def execDeviceReset (pin : Bool) (x : Straps) (s : State) : Answer := s.answer (s.deviceReset pin 0xFF x)

/-! ## Die-to-die links (R22) -/

def State.dieLink (s : State) (rf : Bool) : DieLink := if rf then s.rfLink else s.msLink

def State.setDieLink (s : State) (rf : Bool) (x : DieLink) : State :=
  if rf then { s with rfLink := x } else { s with msLink := x }

/-- Units on the far die: the transceivers, or the LF channels. -/
def farUnits (rf : Bool) : List Nat := if rf then [0x04] else [0x02, 0x03]

/-- A far unit reports FAULT, and its requests complete with TARGET_RESET. -/
def State.farFault (s : State) (u : Nat) : State :=
  if s.rep u = stOff ∨ s.rep u = stReset then s
  else
    let s := s.resetEffect u
    (s.setUnitS u { s.unitS u with target := none }).setRep u stFault

/-- DIE_LINK_PACKET_CRC_FAIL: after three consecutive failed retries of one packet the link is down. -/
def execDieLinkPacketCrcFail (t : Nat) (rf retry : Bool) (s : State) : Answer := happen t s (fun s =>
  let l := s.dieLink rf
  if l.down then s
  else if !retry then s.setDieLink rf { l with fails := 0 }
  else if l.fails + 1 < 3 then s.setDieLink rf { l with fails := l.fails + 1 }
  else (farUnits rf).foldl (fun (a : State) u => a.farFault u) (s.setDieLink rf { fails := 0, down := true }))

/-- DIE_LINK_RETRAIN_DONE: the far units pass through unit reset. -/
def execDieLinkRetrainDone (t : Nat) (rf : Bool) (s : State) : Answer := happen t s (fun s =>
  if !(s.dieLink rf).down then s
  else (farUnits rf).foldl (fun (a : State) u => a.unitReset u) (s.setDieLink rf {}))

/-! ## Unit-state records (R31–R38) -/

/-- The offset of a unit's record. -/
def unitOff (u : Nat) : Nat := 0x000100 + 4 * u

/-- A write of a unit's record: CMD, then RST. The Dome's change only through its UNIT envelope; a write of them is a
view violation (R33). -/
def State.recordWrite (s : State) (port : Nat) (priv : Bool) (u cmd : Nat) (rst : Bool) : State :=
  if 24 ≤ u then s
  else
    let f := fun (s : State) =>
      if u = 0x0B then s.violation port true priv 3 (unitOff u)
      else
        let s := s.unitCommand u cmd
        if rst then s.unitReset u else s
    if priv then s.privWrite port true 0x00 (unitOff u) f else f s

/-- UNIT_RESET (R32, R33). -/
def execUnitReset (t port : Nat) (priv : Bool) (u cmd : Nat) (s : State) : Answer := happen t s (fun s =>
  s.recordWrite (min port 4) priv u cmd true)

/-- UNIT_COMMAND (R31). -/
def execUnitCommand (t port : Nat) (priv : Bool) (u cmd : Nat) (s : State) : Answer := happen t s (fun s =>
  s.recordWrite (min port 4) priv u cmd false)

/-- A unit has reached its next stable state, or ends its INIT. -/
def State.unitReached (s : State) (u : Nat) : State :=
  if s.rep u = stInit then (if s.initReady u then (s.initEnds u).leaveInit u else s)
  else s.unitStep u

/-- UNIT_STATE_REACHED: a domain that waits for its units goes down when the last has halted (R571); start-up ends when
SES runs (R539, step 12). -/
def execUnitStateReached (t u : Nat) (s : State) : Answer := happen t s (fun s =>
  if 24 ≤ u then s else ((s.unitReached u).haltedDown).bootRun)

/-- MISMATCH_TIMEOUT (R36): the states have differed without a break for 10 ms. -/
def execMismatchTimeout (t u : Nat) (s : State) : Answer := happen t s (fun s =>
  match (s.unitS u).diffSince with
  | some a => if s.now ≥ a + msT 10 ∧ u < 24 then s.setMismatch u true else s
  | none => s)

/-! ## Requests between units (R35) -/

/-- A reply on the request fabric: the code, the target's epoch, and the requester's epoch carried back. -/
def replyBytes (code dstEpoch srcEpoch : Nat) : List Byte := leBytes 1 code ++ leBytes 2 dstEpoch ++ leBytes 2 srcEpoch

/-- How a target completes a request at once: TARGET_RESET for an epoch other than its own (R35), BUSY while it is in
RESET or OFF, quiescing or halted (R30, R540, R571), TARGET_RESET in FAULT (R22). -/
def State.atOnce (s : State) (dst dstEpoch : Nat) : Option Nat :=
  let st := s.rep dst
  if dstEpoch ≠ s.rd SYS_UNIT_STATE.EPOCH dst ∨ st = stFault then some ccTargetReset
  else if st = stRun then none else some ccBusy

/-- INTER_UNIT_REQUEST: a request that a domain in DOZE receives returns it to RUN (R570). What an accepted request does
is its own row's. -/
def execInterUnitRequest (t src dst srcEpoch dstEpoch : Nat) (s : State) : Answer := happen t s (fun s =>
  if 24 ≤ src ∨ 24 ≤ dst then s
  else
    let d := unitDom dst
    let s := if s.domSt d = dsDoze then (s.setDom d dsRun).pwrS01 else s
    match s.atOnce dst dstEpoch with
    | some c => s.send (replyBytes c (s.rd SYS_UNIT_STATE.EPOCH dst) srcEpoch)
    | none => s)

/-- UNIT_REPLY: a reply with another epoch is dropped and counted. -/
def execUnitReply (t u epoch : Nat) (s : State) : Answer := happen t s (fun s =>
  if 24 ≤ u ∨ epoch = s.rd SYS_UNIT_STATE.EPOCH u then s else s.bump SYS_UNIT_STATE.STALE_CNT u)

end Sys2Proof.Machine
end

