-- ==== Sys2Proof/Machine/Pin.lean ====
section
/-! DEFINITION. PIN: rails, the reset input, VHOLD and crystals (R662–R681). -/

namespace Sys2Proof.Machine

/-- PIN's event registers. -/
def State.pinEvent (s : State) (kind index : Nat) : State :=
  s.unitEvent 0x17 0 PIN_EVT_CODE.REG PIN_EVT_STAMP_LO.STAMP PIN_EVT_STAMP_HI.STAMP (kind * 2 ^ 28 + index % 2 ^ 11)

/-- Rails whose fall causes device reset (R668): VDD_AON below 0.72 V, VDD_IO33 below 2.9 V. -/
def railResets (rail mv : Nat) : Bool := (rail == 5 && decide (mv < 720)) || (rail == 6 && decide (mv < 2900))

/-- A rail's value, with the lowest since reset. -/
def State.railMv (s : State) (rail mv : Nat) : State :=
  let s := s.wr PIN_VMON.MV mv rail
  s.wr PIN_VMON.MIN_MV (min mv (s.rd PIN_VMON.MIN_MV rail)) rail

/-- Rails of domains that are all switched off (R568, PIN_STAT). -/
def railDoms (rail : Nat) : List Nat :=
  match rail with
  | 0 => [1, 2, 3, 7, 8]
  | 1 => [1, 2]
  | 2 => [7, 8]
  | 3 => [4, 5]
  | 4 => [3, 6]
  | _ => [0]

def State.railOn (s : State) (rail : Nat) : Bool := (railDoms rail).any (fun d => s.domSt d != dsOff)

/-- A RAIL_GOOD bit of a powered domain falls. The count is the Plate store's. -/
def State.railFall (s : State) (rail mv : Nat) : State :=
  let s := s.railMv rail mv
  let s := s.wr PIN_STAT.RAIL_GOOD (setBit (s.rd PIN_STAT.RAIL_GOOD) rail false)
  let s := s.wr PIN_RAIL.FAULTS (setBit (s.rd PIN_RAIL.FAULTS) rail true)
  let s := s.wr PIN_CNT_RAIL_FAULT.COUNT (min (2 ^ 32 - 1) (s.kept PIN_CNT_RAIL_FAULT.COUNT + 1))
  (s.irq PIN_IRQ_STAT.RAIL_FAULT).pinEvent 1 rail

/-- RAIL_FAULT: a rail leaves its limits; VDD_AON and VDD_IO33 cause device reset with CAUSE POWER_ON. -/
def execRailFault (t rail mv : Nat) (x : Straps) (s : State) : Answer :=
  if railResets rail mv then
    s.answer ((if s.pwr.off then s else (s.adv t).railFall rail mv).deviceReset false rail x)
  else happen t s (fun s => if 7 ≤ rail ∨ !s.railOn rail then s else s.railFall rail mv)

/-- RESET_PIN (R669): a low level of 10 µs or more. -/
def execResetPin (_t : Nat) (x : Straps) (s : State) : Answer := s.answer (s.deviceReset true 0 x)

/-- VHOLD_CAP_ESTIMATE (R674): 20 mA over the time of the rise from 1.0 V, or from the voltage found, to 3.0 V; only
when it spans 0.5 V. -/
def execVholdCapEstimate (t fromMv us : Nat) (s : State) : Answer := happen t s (fun s =>
  let lo := max 1000 fromMv
  if lo + 500 > 3000 ∨ s.rd PIN_VHOLD.CAP_UF ≠ 0 then s
  else
    let uf := 20 * us / (3000 - lo)
    let s := s.wr PIN_VHOLD.CAP_UF (min 0xFFFF uf)
    if uf < 120 then
      let s := ((s.wr PIN_VHOLD.CAP_LOW 1).irq PIN_IRQ_STAT.CAP_LOW).pinEvent 5 0
      s.archiveEvent 0x17 0 (5 * 2 ^ 28)
    else s)

/-- XTAL: a crystal's error against the Dome oscillator, and whether it stands within its tolerance (R678). -/
def execXtal (t crystal : Nat) (ppm : Int) (ok : Bool) (s : State) : Answer := happen t s (fun s =>
  let note := fun (p o : Fld) => (s.wr p (satSigned 16 ppm)).flag o ok
  let s := if crystal = 0 then note PIN_XTAL_REF.PPM PIN_XTAL_REF.OK else note PIN_XTAL_AON.PPM PIN_XTAL_AON.OK
  if ok then s
  else ((s.bump PIN_CNT_XTAL.COUNT).irq PIN_IRQ_STAT.XTAL).pinEvent 2 (min crystal 1))

end Sys2Proof.Machine
end

