-- ==== Sys2Proof/Machine/Windows.lean ====
section
/-! DEFINITION. The ADDR and DATA register pairs that open a table word by word (R84, R232, R240, R247, R265, R323, R463,
R492, R500, R560, R599, R655, R662): the word selected, and how a read advances. -/

namespace Sys2Proof.Machine

/-! ## Contexts and range areas (R265, R266) -/

def bools (l : List Bool) : Nat := bitMap ((List.range l.length).filter (fun i => l.getD i false))

/-- The bytes of a context. -/
def Ctx.bytes (c : Ctx) (rangeN : Nat) : List Byte :=
  leBytes 1 c.state ++ leBytes 1 c.prog ++ leBytes 1 c.kind ++ leBytes 1 c.zone ++ leBytes 2 c.gen ++
  leBytes 2 (bools [c.cancelPend, c.void, c.waitCredit, c.committed, c.prio, c.rangeOvf, c.remoteWait]) ++
  leBytes 1 c.code ++ leBytes 1 c.core ++ leBytes 1 c.boundTrx ++ leBytes 1 c.dbCap ++ leBytes 4 c.token ++
  leBytes 4 c.tdata ++ leBytes 2 c.pend ++ leBytes 1 rangeN ++ leBytes 1 c.waitPool ++ leBytes 8 c.tOpen ++
  leBytes 8 c.tState ++ leBytes 8 c.deadline ++ leBytes 16 c.nonce ++ leBytes 16 c.anchors ++ leBytes 4 c.ephIndex ++
  leBytes 8 c.tokenState ++ padTo c.boundRes 16 ++ padTo c.locRes 28 ++ leBytes 1 c.dec ++ leBytes 1 c.relKind ++
  leBytes 2 c.relTarget ++ leBytes 4 c.arcSeq ++ leBytes 1 c.lfCarrier ++ leBytes 1 c.lfCh ++ leBytes 2 0 ++
  leBytes 8 c.sofStamp ++ leBytes 4 0 ++ padTo c.script 96

/-- A word of the context of a queue; one that is FREE keeps its GEN alone. -/
def State.ctxWord (s : State) (n w : Nat) : Nat :=
  match s.ctx? n with
  | some c => leAt (c.bytes (s.aux n).ranges.length) (4 * w) 4
  | none => if w = 1 then SMap.get s.ses.gens n 0 else 0

/-- Words of a context that the unprivileged view hides. -/
def ctxHidden (w : Nat) : Bool := (decide (12 ≤ w) && decide (w ≤ 15)) || decide (40 ≤ w)

/-- Word k of a session's range area: 4 × entry + word; 0 beyond RANGE_N. -/
def State.rangeWord (s : State) (n k : Nat) : Nat :=
  match (s.aux n).ranges[k / 4]? with
  | some e => leAt e.bytes (4 * (k % 4)) 4
  | none => 0

/-! ## The tables -/

/-- A release-table entry (SHU_REL_DATA). -/
def Rel.bytes (r : Rel) : List Byte :=
  leBytes 1 r.state ++ leBytes 1 r.kind ++ leBytes 2 r.target ++ leBytes 2 r.session ++ leBytes 2 r.gen ++
  leBytes 4 r.arcSeq ++ leBytes 2 r.toDs ++ leBytes 1 r.tries ++ leBytes 1 r.code ++ leBytes 8 r.tStart ++
  leBytes 4 r.vuId ++ leBytes 2 r.validDs ++ leBytes 1 r.reason ++ leBytes 1 0

def State.relWord (s : State) (e w : Nat) : Nat :=
  match SMap.find s.shu.rel e with
  | some r => leAt r.bytes (4 * w) 4
  | none => 0

/-- A term of the matrix in mΩ, its parts saturating (R84). -/
def State.cmWord (s : State) (k i j : Nat) : Nat :=
  let z := s.zAt k i j
  let mOhm := fun (v : Int) => satSigned 16 (ratRound ((v : Rat) / 1000))
  mOhm z.1 + mOhm z.2 * 2 ^ 16

def State.ancWord (s : State) (a w : Nat) : Nat :=
  match SMap.find s.alm.anchors a with
  | some x => [ofSigned 32 x.x, ofSigned 32 x.y, ofSigned 32 x.z, x.surv + x.valid.toNat * 2 ^ 16].getD w 0
  | none => 0

def State.regionWord (s : State) (z w : Nat) : Nat :=
  match SMap.find s.alm.regions z with
  | some r => ofSigned 32 (([r.zLo, r.zHi] ++ r.verts.flatMap (fun v => [v.1, v.2])).getD w 0)
  | none => 0

def State.resWord (s : State) (a : Nat) : Nat :=
  match SMap.find s.alm.resid a with
  | some r => r.used.toNat * 2 ^ 31 + r.dropped.toNat * 2 ^ 30 + r.nlos.toNat * 2 ^ 29 + satSigned 16 r.nres
  | none => 0

def State.scriptWord (s : State) (i w : Nat) : Nat := leAt s.ast.bundle.scripts (16 * i + 4 * w) 4

def State.remapWord (s : State) (a e : Nat) : Nat :=
  match (if a < 63 then SMap.find s.mem.remap (8 * a + e) else none) with
  | some r => 2 ^ 31 + r.factory.toNat * 2 ^ 30 + r.poison.toNat * 2 ^ 29 + r.word % 2 ^ 20
  | none => 0

def State.memLogWord (s : State) (e w : Nat) : Nat :=
  match s.mem.log[e]? with
  | some l => [l.stamp % 2 ^ 32, l.stamp / 2 ^ 32, l.arr * 2 ^ 24 + l.kind * 2 ^ 20 + l.bit * 2 ^ 8,
      l.word % 2 ^ 20].getD w 0
  | none => 0

/-- Fuse words that no view shows (BOOT_FUSE_DATA): groups 1 and 10. -/
def fuseHidden (w : Nat) : Bool :=
  (decide (0x001 ≤ w) && decide (w ≤ 0x008)) || (decide (0x520 ≤ w) && decide (w ≤ 0x527))

def State.fuseShown (s : State) (w : Nat) : Nat :=
  if !s.fuse.done ∨ fuseHidden w then 0 else SMap.get s.fuse.words w 0

def State.flagWord (s : State) (w : Nat) : Nat :=
  (List.range 16).foldl (fun a i => a + s.slotFlag (16 * w + i) * 4 ^ i) 0

def State.fndWord (s : State) (h w : Nat) : Nat :=
  match SMap.find s.mgt.nodes h with
  | some x => [x.nodeId % 2 ^ 32, x.nodeId / 2 ^ 32 % 2 ^ 32,
      x.state + x.kind % 2 * 2 ^ 8 + x.bus % 2 * 2 ^ 9 + x.ver % 256 * 2 ^ 16,
      min (2 ^ 32 - 1) ((s.now - x.heard) / msT 1)].getD w 0
  | none => 0

/-! ## Balls (R662–R664) -/

/-- KIND and DOMAIN of a ball by row and column: 0 SIGNAL, 1 POWER, 2 GROUND, 3 NC; 0xF for no domain. The supply inputs
VREL, SENSE_GND and VHOLD count as signals (R663), the first two in the domain of the outputs, VHOLD in AON. -/
def ballKind (r c : Nat) : Nat × Nat :=
  let within := fun (a x b : Nat) => decide (a ≤ x) && decide (x ≤ b)
  let even := (r + c) % 2 == 0
  let sig := fun (d : Nat) => ((0, d) : Nat × Nat)
  let power := ((1, 0xF) : Nat × Nat)
  let pair := within 8 r 30 && r % 2 == 0 && (within 43 c 44 || within 40 c 41)
  if r = 10 ∧ c = 8 then (3, 0xF)
  else if r == 2 && within 3 c 33 && c % 2 == 1 then sig 4
  else if r == 2 && (c == 37 || c == 39 || c == 41 || c == 43) then sig 5
  else if r == 5 && within 3 c 42 then power
  else if pair then sig (if r ≤ 14 then 8 else 7)
  else if r == 32 && within 43 c 44 then sig 8
  else if within 7 r 30 && within 37 c 38 then power
  else if within 39 r 44 && within 3 c 42 then sig 6
  else if within 11 r 34 && within 1 c 6 then sig 6
  else if (within 33 r 37 && within 37 c 44) || (r == 38 && within 37 c 40) then sig 2
  else if r == 7 && within 1 c 8 then sig 2
  else if r == 8 && within 1 c 8 then sig (if c ≤ 4 then 2 else 0)
  else if r == 9 && within 1 c 8 then sig (if c ≤ 6 then 0 else 8)
  else if r == 10 && within 1 c 7 then sig 0
  else if r == 35 && within 1 c 8 then sig 0
  else if r == 36 && within 1 c 7 then sig (if c ≤ 6 then 2 else 1)
  else if r == 37 && within 1 c 8 then sig 1
  else if r == 38 && (within 1 c 2 || within 4 c 5 || within 7 c 8) then sig 0
  else if (within 13 r 32 && within 11 c 26 && even) || (within 11 r 34 && within 27 c 28 && even) ||
      (within 35 r 38 && within 9 c 32 && even) then power
  else (2, 0xF)

/-- KIND and DOMAIN in their places of PIN_PAD_DATA; the ball's index runs row by row (R662). -/
def padWord (b : Nat) : Nat :=
  if b < 1936 then
    let k := ballKind (b / 44 + 1) (b % 44 + 1)
    k.1 * 2 ^ 28 + k.2 * 2 ^ 24
  else 0

/-! ## What a read of a DATA register gives, and how it advances -/

/-- Two fields of an ADDR register as one number that a read advances: the high one by carry. -/
def State.advance (s : State) (hi lo : Fld) (last : Nat) : State :=
  let w := s.rd lo
  if w < last then s.wr lo (w + 1) else (s.wr lo 0).wr hi ((s.rd hi + 1) % 2 ^ hi.width)

/-- A read of SES_CTX_DATA. -/
def State.readCtx (s : State) (priv : Bool) : Nat × State :=
  let n := s.rd SES_CTX_ADDR.SESSION
  let w := s.rd SES_CTX_ADDR.WORD
  let v := if !priv && ctxHidden w then 0 else s.ctxWord n w
  (v, (s.memReadBytes 0x30 (256 * n + 4 * w) 4).2.advance SES_CTX_ADDR.SESSION SES_CTX_ADDR.WORD 63)

def State.readRel (s : State) : Nat × State :=
  (s.relWord (s.rd SHU_REL_ADDR.ENTRY) (s.rd SHU_REL_ADDR.WORD), s.advance SHU_REL_ADDR.ENTRY SHU_REL_ADDR.WORD 7)

def State.readCm (s : State) : Nat × State :=
  (s.cmWord (min 2 (s.rd HEL_CM_ADDR.CARRIER)) (s.rd HEL_CM_ADDR.ROW) (s.rd HEL_CM_ADDR.COL),
    s.advance HEL_CM_ADDR.ROW HEL_CM_ADDR.COL 63)

def State.readAnc (s : State) : Nat × State :=
  (s.ancWord (s.rd ALM_ANC_ADDR.INDEX) (s.rd ALM_ANC_ADDR.WORD), s.advance ALM_ANC_ADDR.INDEX ALM_ANC_ADDR.WORD 3)

def State.readRegion (s : State) : Nat × State :=
  (s.regionWord (s.rd ALM_REG_ADDR.ZONE) (s.rd ALM_REG_ADDR.WORD), s.advance ALM_REG_ADDR.ZONE ALM_REG_ADDR.WORD 17)

def State.readRes (s : State) : Nat × State :=
  let a := s.rd ALM_RES_ADDR.INDEX
  (s.resWord a, s.wr ALM_RES_ADDR.INDEX (a + 1))

def State.readScript (s : State) : Nat × State :=
  (s.scriptWord (s.rd AST_SCRIPT_ADDR.INDEX) (s.rd AST_SCRIPT_ADDR.WORD),
    s.advance AST_SCRIPT_ADDR.INDEX AST_SCRIPT_ADDR.WORD 3)

def State.readRemap (s : State) : Nat × State :=
  (s.remapWord (s.rd MEM_REMAP_ADDR.ARRAY) (s.rd MEM_REMAP_ADDR.ENTRY),
    s.advance MEM_REMAP_ADDR.ARRAY MEM_REMAP_ADDR.ENTRY 7)

def State.readMemLog (s : State) : Nat × State :=
  (s.memLogWord (s.rd MEM_LOG_ADDR.ENTRY) (s.rd MEM_LOG_ADDR.WORD), s.advance MEM_LOG_ADDR.ENTRY MEM_LOG_ADDR.WORD 3)

def State.readFuse (s : State) : Nat × State :=
  let w := s.rd BOOT_FUSE_ADDR.WORD
  (s.fuseShown w, s.wr BOOT_FUSE_ADDR.WORD (w + 1))

def State.readFlags (s : State) : Nat × State :=
  let w := s.rd HIF_FLAG_ADDR.WORD
  (s.flagWord w, s.wr HIF_FLAG_ADDR.WORD (w + 1))

def State.readFnd (s : State) : Nat × State :=
  (s.fndWord (s.rd MGT_FND_ADDR.HANDLE) (s.rd MGT_FND_ADDR.WORD), s.advance MGT_FND_ADDR.HANDLE MGT_FND_ADDR.WORD 3)

/-- A read of PIN_PAD_DATA; OE and LEVEL are what the ball shows. -/
def State.readPad (s : State) (oe level : Bool) : Nat × State :=
  let b := s.rd PIN_PAD_ADDR.BALL
  let live := if b < 1936 then oe.toNat * 2 + level.toNat else 0
  (padWord b + live, s.wr PIN_PAD_ADDR.BALL (b + 1))

end Sys2Proof.Machine
end

