-- ==== Sys2Proof/Machine/RegStore.lean ====
section
/-! DEFINITION. The register file as a store (R7–R12, R18, R27): the register at an offset, what a write does to each
field by its access code, and what a write to a register sets off in its unit. -/

namespace Sys2Proof.Machine

/-! ## The register at an offset (R8) -/

/-- The instance of a register that lies at an offset. -/
def Reg.at (r : Reg) (off : Nat) : Option (Nat × Nat) :=
  if off < r.off then none
  else
    let d := off - r.off
    let q := fun (a b : Nat) => if b = 0 then 0 else a / b
    let ij := if r.s2 ≤ r.s1 then (q d r.s1, q (d - r.s1 * q d r.s1) r.s2)
      else (q (d - r.s2 * q d r.s2) r.s1, q d r.s2)
    if ij.1 < r.n1 ∧ ij.2 < r.n2 ∧ r.s1 * ij.1 + r.s2 * ij.2 = d then some ij else none

/-- The register at an offset, with its instance. -/
def findReg (off : Nat) : Option (Reg × Nat × Nat) :=
  (regsOf (off / 65536)).findSome? (fun r => (r.at off).map (fun ij => (r, ij.1, ij.2)))

/-- A register is the one named, whatever the instance. -/
def Reg.isReg (r x : Reg) : Bool := r.off == x.off

/-! ## Locks (R11) -/

/-- The lock bit of a block. -/
def lockFld : Nat → Option Fld
  | 0x02 => some HEL_CTL.LOCK
  | 0x03 => some LFP_CTL.LOCK
  | 0x04 => some RAD_CTL.LOCK
  | 0x05 => some TRN_CTL.LOCK
  | 0x07 => some ALM_CTL.LOCK
  | 0x08 => some SES_CTL.LOCK
  | 0x09 => some SHU_CTL.LOCK
  | 0x0A => some EPH_CTL.LOCK
  | 0x0E => some AST_CTL.LOCK
  | 0x0F => some MEM_CTL.LOCK
  | 0x10 => some PLT_CTL.LOCK
  | 0x12 => some PWR_CTL.LOCK
  | 0x13 => some HIF_CTL.LOCK
  | 0x14 => some BLN_CTL.LOCK
  | 0x15 => some MGT_CTL.LOCK
  | 0x17 => some PIN_CTL.LOCK
  | _ => none

/-- The block's RWL fields are frozen. -/
def State.locked (s : State) (u : Nat) : Bool :=
  match lockFld u with
  | some f => s.on f
  | none => false

/-- A lock bit is set; nothing but device reset clears it. -/
def State.lockUnit (s : State) (u : Nat) : State :=
  match lockFld u with
  | some f => s.wr f 1
  | none => s

/-! ## A field under its access code (R9, R18) -/

/-- Bits of a that are not in b. -/
def bitsWithout (a b : Nat) : Nat := a - Nat.land a b

/-- A write to a field. -/
def State.storeField (s : State) (u : Nat) (f : Fld) (i j w : Nat) (priv : Bool) : State :=
  let v := bits w f.hi f.lo
  let expert := !f.ex || s.profileOf u == profExpert
  match f.acc with
  | .RW => if expert then s.wr f v i j else s
  | .RWL => if expert && !s.locked u then s.wr f v i j else s
  | .W1C => s.wr f (bitsWithout (s.rd f i j) v) i j
  | .W1S => s.wr f (Nat.lor (s.rd f i j) v) i j
  | .AUT => if priv then s.wr f v i j else s
  | .RO | .WO | .FUS => s

/-- A write to every field of a register. -/
def State.storeWord (s : State) (u : Nat) (r : Reg) (i j w : Nat) (priv : Bool) : State :=
  let old := s.word r i j
  let s := r.flds.foldl (fun (a : State) f => a.storeField u f i j w priv) s
  if priv && r.flds.any (fun f => f.acc == .AUT) then
    s.autRecord u (r.off + r.s1 * i + r.s2 * j) old (s.word r i j)
  else s

/-! ## Interrupt enables (R616) -/

/-- IRQ_STAT registers of a unit. -/
def irqRegs : Nat → List Reg
  | 0x02 => [HEL_IRQ_STAT.REG]
  | 0x03 => [LFP_IRQ_STAT.REG]
  | 0x04 => [RAD_IRQ_STAT.REG]
  | 0x05 => [TRN_IRQ_STAT.REG]
  | 0x06 => [DBX_IRQ_STAT.REG]
  | 0x07 => [ALM_IRQ_STAT.REG]
  | 0x08 => [SES_IRQ_STAT.REG]
  | 0x09 => [SHU_IRQ_STAT.REG, SHU_CAN_IRQ_STAT.REG]
  | 0x0A => [EPH_IRQ_STAT.REG]
  | 0x0B => [DOM_IRQ_STAT.REG]
  | 0x0C => [KCE_IRQ_STAT.REG]
  | 0x0D => [RNG_IRQ_STAT.REG]
  | 0x0E => [AST_IRQ_STAT.REG]
  | 0x0F => [MEM_IRQ_STAT.REG]
  | 0x10 => [PLT_IRQ_STAT.REG]
  | 0x11 => [BOOT_IRQ_STAT.REG]
  | 0x12 => [PWR_IRQ_STAT.REG]
  | 0x13 => [HIF_IRQ_STAT.REG]
  | 0x14 => [BLN_IRQ_STAT.REG]
  | 0x15 => [MGT_IRQ_STAT.REG]
  | 0x16 => [EYE_IRQ_STAT.REG]
  | 0x17 => [PIN_IRQ_STAT.REG]
  | _ => []

/-- A field's status and enable bits. -/
def State.irqMet (s : State) (f : Fld) (i : Nat) : Bool := s.on f i && s.on f.enable i

/-- Some bit of (IRQ_STAT & IRQ_EN) is set. -/
def State.irqOpen (s : State) (u : Nat) : Bool :=
  (irqRegs u).any (fun r => (List.range r.n1).any (fun i => r.flds.any (fun f => s.irqMet f i)))

/-- Some bit of (IRQ_STAT & IRQ_EN) is set that was not set before. -/
def irqRise (was now' : State) (u : Nat) : Bool :=
  (irqRegs u).any (fun r => (List.range r.n1).any (fun i => r.flds.any (fun f => now'.irqMet f i && !was.irqMet f i)))

/-! ## Counters (R688) -/

/-- A field takes 0 at every instance. -/
def State.zeroFld (s : State) (f : Fld) : State :=
  (List.range f.n1).foldl (fun (a : State) i => (List.range f.n2).foldl (fun (b : State) j => b.wr f 0 i j) a) s

/-- CLR_CNT of a unit: its counters, MEM's log and PWR's residencies with them. -/
def State.clrCounters (s : State) (u : Nat) : State :=
  let s := if u = 0x12 then s.pwrAccount else s
  let s := (cntFlds u).foldl State.zeroFld s
  if u = 0x0F then
    let s := { s with mem := { s.mem with log := [] } }
    s.wr MEM_LOG_STAT.ENTRIES 0
  else if u = 0x12 then { s with pwr := { s.pwr with res := [], domRes := [] } }.pwrAccount
  else s

/-- The bit of CTL that clears a block's counters. -/
def clrBit (u : Nat) : Nat := if u = 0x0C ∨ u = 0x0D then 0 else 1

/-- CTL of a block lies at 0x0004 (R688). -/
def isCtl (u off : Nat) : Bool := off == 65536 * u + 4 && !(cntFlds u).isEmpty

/-! ## Cores and the envelope buffer -/

/-- A write of RELEASE (R474, R476): a held FAULT, or an OFFLINE core, reloads. -/
def State.coreRelease (s : State) (c : Nat) : State :=
  let st := s.coreSt c
  if c < 16 ∧ (st = csFault ∨ st = csOffline) then
    (s.coreTo c csReload).updCore c (fun k => { k with reloadFrom := s.now })
  else s

/-- A write of AST_MBOX_IN: the word stands at port MBOX_IN, and line 1 is asserted. -/
def State.mboxPut (s : State) (c v : Nat) : State :=
  if c < 16 then
    let s := s.wr AST_MBOX_IN.IN v c
    (s.bump AST_CNT_MBOX.COUNT).updCore c (fun k => { k with mboxIn := v % 2 ^ 32, mboxNew := true })
  else s

/-- A write of MGT_ENV_BUF through the management port (R650): the next 4 bytes; a word past 4,096 bytes completes with
PRECONDITION. -/
def State.envBuf (s : State) (port w : Nat) : State :=
  if port ≠ 1 then s
  else if s.mgt.buf.length + 4 > 4096 then s.envResult 1 0 ccPrecondition 0
  else
    let s := { s with mgt := { s.mgt with buf := s.mgt.buf ++ leBytes 4 w } }
    s.wr MGT_ENV_CTL.FILL s.mgt.buf.length

/-- A write of GO in MGT_ENV_CTL: the first LEN bytes are queued on port 1, and the buffer is empty again. -/
def State.envBufGo (s : State) (port : Nat) : State :=
  if port ≠ 1 then s
  else
    let n := s.rd MGT_ENV_CTL.LEN
    if n > s.mgt.buf.length then s.envResult 1 0 ccPrecondition 0
    else
      let bytes := s.mgt.buf.take n
      let s := { s with mgt := { s.mgt with buf := [] } }
      (s.wr MGT_ENV_CTL.FILL 0).envQueue 1 bytes

/-! ## Registers whose writes are their own (each in the row of its chapter) -/

/-- A write that its unit takes whole in place of a store; none where the register is stored. -/
def State.storeOwn (s : State) (port : Nat) (priv : Bool) (r : Reg) (i w : Nat) : Option State :=
  if r.isReg SYS_UNIT_STATE.REG then some (s.recordWrite (min port 4) priv i (w % 8) (bit w 3))
  else if r.isReg MER_CIVIL_OFFSET_LO.REG then
    some (if priv then { s with mer := { s.mer with offsetLo := w } } else s)
  else if r.isReg MER_CIVIL_OFFSET_HI.REG then some (if priv then s.civilOffsetSet s.mer.offsetLo w else s)
  else if r.isReg MER_CIVIL_LEAP.REG then some (if priv then s.civilLeapSet (w % 256) else s)
  else if r.isReg MER_TRIM_REQ.REG then some (s.trimReq (toSigned 32 w))
  else if r.isReg HEL_CH_CTL.REG then some (s.channelMode i (w % 4))
  else if r.isReg HEL_QUAR_LO.REG then some (s.quarClear false w)
  else if r.isReg HEL_QUAR_HI.REG then some (s.quarClear true w)
  else if r.isReg LFP_HOP.REG then some (s.hopWrite i (w % 2 ^ 21))
  else if r.isReg TRN_TRX_ADLY_TX.REG then some (s.adlyWrite i false (toSigned 16 w))
  else if r.isReg TRN_TRX_ADLY_RX.REG then some (s.adlyWrite i true (toSigned 16 w))
  else if r.isReg SES_CREDIT_CFG.REG then some (s.poolSizeWrite i (w % 65536))
  else if r.isReg SHU_OUT_CTL.REG then
    let s := s.wr SHU_OUT_CTL.PULSE_MS (w / 65536) i
    let s := if bit w 8 then s.clrFault i else s
    some (if priv && bit w 0 then s.outTest i else s)
  else if r.isReg RNG_TEST.REG then
    let s := (s.wr RNG_TEST.SLOT w).wr RNG_TEST.COUNT (w / 2 ^ 14)
    some ((s.testPattern (bit w 31)).rawCapture (bit w 30))
  else if r.isReg MEM_FLIP_CTL.REG then some (s.flipArm (min port 4) priv w)
  else if r.isReg BOOT_CAL_USER.REG then some s
  else if r.isReg PWR_DOM_CTL.REG then
    let s := if i = 8 then s.flag PWR_DOM_CTL.KEEP (bit w 1) 8 else s
    some (if bit w 0 then s.domainOff i else s.domainOn i)
  else if r.isReg PWR_AVS_TGT.REG then some (s.tgtWrite (w % 1024))
  else if r.isReg MGT_ENV_BUF.REG then some (s.envBuf port w)
  else none

/-! ## What a write sets off -/

/-- HEL. -/
def State.actHel (s : State) (r : Reg) (i w : Nat) : State :=
  if r.isReg HEL_CTL.REG then
    let s := if bit w 10 then s.calAll else s
    let s := if bit w 9 then s.measAll else s
    if bit w 8 then s.solveAll else s
  else if r.isReg HEL_MEAS_CTL.REG then
    let s := if bit w 7 then s.measAll else s
    if bit w 6 then s.measOne (w % 64) else s
  else if r.isReg HEL_CAL_CTL.REG then
    let s := if bit w 7 then s.calAll else s
    if bit w 6 then s.calOne (w % 64) else s
  else if r.isReg HEL_SOLVE_CTL.REG then (if bit w 5 then s.resolveZone (w % 32) else s)
  else if r.isReg HEL_CH_AMP.REG ∨ r.isReg HEL_CH_PHASE.REG then
    (if (SMap.find s.hel.testAt i).isSome then s.testDrive i else s)
  else s

/-- SES, SHU, EPH, DOM, KCE, RNG: the control plane. -/
def State.actControl (s : State) (r : Reg) (i w : Nat) : State :=
  if r.isReg SES_CANCEL.REG then s.sesCancel (w % 2 ^ 15) (w / 65536)
  else if r.isReg SHU_CAN_CTL.REG then (if bit w 8 then s.canRestart i else s)
  else if r.isReg EPH_CTL.REG then (if bit w 2 then s.compact else s)
  else if r.isReg EPH_CODE_DIGITS_HI.REG then (if bit w 31 then s.codeSubmit else s)
  else if r.isReg EPH_FIND.REG then s.findGo (w % 2 ^ 24)
  else if r.isReg DOM_CTL.REG then (if bit w 4 then s.exportDone else s)
  else if r.isReg DOM_ENV_SUBMIT.REG then (if bit w 31 then s.envSubmit (w % 2 ^ 14) else s)
  else if r.isReg DOM_ATT_REQ.REG then
    (if !bit w 31 then s else if s.on DOM_ATT_REQ.BUSY then s.wr DOM_ATT_REQ.CODE ccBusy else s.attest)
  else if r.isReg KCE_CTL.REG then
    let s := if bit w 1 then s.katRun else s
    if bit w 2 then s.alarmTest else s
  else if r.isReg RNG_CTL.REG then (if bit w 1 then s.reseedAll else s)
  else if r.isReg RNG_HOST_BULK.REG then (if bit w 31 && !s.on RNG_HOST_BULK.BUSY then s.hostBulk else s)
  else s

/-- RAD, TRN, DBX and AST. -/
def State.actRadio (s : State) (r : Reg) (i w : Nat) : State :=
  if r.isReg RAD_CAL_CTL.REG then s.calCtl (bit w 7) (bit w 6) (w % 32)
  else if r.isReg RAD_TRX_CTL.REG then s.park i (bit w 1)
  else if r.isReg TRN_CAL_CTL.REG then (if bit w 7 then s.trnCalStart else s)
  else if r.isReg DBX_CTL.REG then (if bit w 0 then s.burnFree else s)
  else if r.isReg AST_CORE_CTL.REG then (if bit w 8 then s.coreRelease i else s)
  else if r.isReg AST_MBOX_IN.REG then s.mboxPut i w
  else s

/-- PLT, PWR, HIF, BLN and MGT. -/
def State.actDevice (s : State) (port : Nat) (priv : Bool) (r : Reg) (i w : Nat) : State :=
  if r.isReg PLT_CTL.REG then (if bit w 2 then s.marginNow else s)
  else if r.isReg PLT_ACC_CTL.REG then
    (if !bit w 31 then s else if bit w 30 then s.accWrite (min port 4) priv else s.accRead 0)
  else if r.isReg PLT_ARC_EXP_CTL.REG then (if bit w 31 then s.arcExport (w % 2 ^ 14) else s)
  else if r.isReg PWR_CTL.REG then (if bit w 2 then s.pwrOff else s)
  else if r.isReg PWR_AVS_BAND.REG ∨ r.isReg PWR_PERF.REG then s.avsRefresh
  else if r.isReg PWR_FREQ.REG then (if bit w 1 then s.setHalf true else s)
  else if r.isReg HIF_CTL.REG then (if bit w 2 then s.flushEvents else s)
  else if r.isReg HIF_FLAG_CMD.REG then s.flagCommand (bits w 31 30) (w % 2 ^ 14) (bits w 29 16 + 1)
  else if r.isReg HIF_STATS_CFG.REG then (if bit w 31 then s.snapshot else s)
  else if r.isReg HIF_EVT_RING.REG ∨ r.isReg HIF_STATS_RING.REG ∨ r.isReg TRN_CIR_RING.REG then s.ringsChanged
  else if r.isReg BLN_RACC_CTL.REG then (if bit w 31 then s.raccGo else s)
  else if r.isReg BLN_PORT_CTL.REG then (if bit w 1 then s.portRetrain i else s)
  else if r.isReg MGT_CTL.REG then (if bit w 2 then s.fndProbe else s)
  else if r.isReg MGT_ENV_CTL.REG then (if bit w 31 then s.envBufGo port else s)
  else if r.isReg MGT_RECON_CFG.REG then
    s.wr MGT_RECON_CFG.UNITS (bitsWithout (s.rd MGT_RECON_CFG.UNITS) (bitMap [0x00, 0x01, 0x0B, 0x12, 0x17]))
  else if r.isReg MGT_RECON_STAT.REG then
    { s with mgt := { s.mgt with made := s.mgt.made.filter (fun p => !bit w p.1) } }
  else s

/-- EN of a Baseline port has changed: a port put in use trains, one taken out goes DOWN. -/
def State.portEn (was s : State) (r : Reg) (i : Nat) : State :=
  if r.isReg BLN_PORT_CTL.REG && was.on BLN_PORT_CTL.EN i != s.on BLN_PORT_CTL.EN i then
    (if s.on BLN_PORT_CTL.EN i then s.portTrain i else s.portDown i)
  else s

/-- Everything a stored write sets off, whatever the unit. -/
def State.storeActs (was s : State) (port : Nat) (priv : Bool) (u : Nat) (r : Reg) (i j w : Nat) : State :=
  let s := if irqRise was s u then s.unitRaise u else s
  let s := match profFld u with
    | some f => if r.off == f.off then s.applyProfile u else s
    | none => s
  let s := if isCtl u (r.off + r.s1 * i + r.s2 * j) && bit w (clrBit u) then s.clrCounters u else s
  let s := s.actHel r i w
  let s := s.actRadio r i w
  let s := s.actControl r i w
  let s := s.actDevice port priv r i w
  let s := State.portEn was s r i
  if u = 0x17 then s.regsAgain 0x02 else if u = 0x0B ∨ u = 0x0D ∨ u = 0x0F then s else s.regsAgain u

/-- A write of a whole word to the register at an offset, BOOT's own acts left out; an offset without a register is
ignored (R12). -/
def State.regStore (s : State) (port : Nat) (priv : Bool) (off w : Nat) : State :=
  match findReg off with
  | none => s
  | some (r, i, j) =>
    let u := off / 65536
    match s.storeOwn port priv r i w with
    | some s' => if u = 0x17 ∨ u = 0x02 then s'.regsAgain 0x02 else s'
    | none => State.storeActs s (s.storeWord u r i j w priv) port priv u r i j w

end Sys2Proof.Machine
end

