-- ==== Sys2Proof/Machine/Boot.lean ====
section
/-! DEFINITION. BOOT: fuses, discovery, the slots, the image's records, switching, and the flash port (R539–R566). -/

namespace Sys2Proof.Machine

/-! ## Fuses (R559–R561) -/

/-- The group of a fuse word (R559). -/
def fuseGroup (w : Nat) : Nat :=
  if w = 0 then 0 else if w ≤ 0x008 then 1 else if w ≤ 0x00A then 2 else if w = 0x00B then 3
  else if w ≤ 0x01F then 4 else if w ≤ 0x0FF then 5 else if w ≤ 0x2FF then 6 else if w ≤ 0x4FF then 7
  else if w ≤ 0x50F then 8 else if w ≤ 0x51F then 9 else if w ≤ 0x527 then 10 else 11

/-- Security-bearing groups. -/
def groupSecure (g : Nat) : Bool := decide (g ≤ 3) || g == 10

/-- The words as read: values join what is blown already, and each word keeps its quality. -/
def State.fuseIn (s : State) (l : List (Nat × Nat × Nat)) : State :=
  let l := l.filter (fun x => decide (x.1 < 2048))
  let words := l.foldl (fun (m : SMap Nat) x =>
    let v := Nat.lor (SMap.get m x.1 0) (x.2.1 % 2 ^ 32)
    if v = 0 then m else SMap.put m x.1 v) s.fuse.words
  let qual := l.foldl (fun (m : SMap Nat) x => if x.2.2 = 0 then m else SMap.put m x.1 (min 3 x.2.2)) []
  { s with fuse := { words := words, qual := qual, done := true } }

/-- What the qualities show in BOOT's registers, and the words marginal in some copy: signalled, and archived when
marginal in both. -/
def State.fuseRegs (s : State) : State :=
  let q := s.fuse.qual
  let count := fun (p : Nat → Nat → Bool) => (q.filter (fun x => p x.1 x.2)).length
  let bad := decide (0 < count (fun w v => v == 3 && groupSecure (fuseGroup w)))
  let s := s.load BOOT_FUSE_STAT.CORRECTED (count (fun _ v => v == 1))
  let s := s.load BOOT_FUSE_STAT.MARGINAL (count (fun _ v => decide (2 ≤ v)))
  let s := s.load BOOT_FUSE_STAT.CODE (if bad then ccFuseMarginal else ccOk)
  let s := (List.range 12).foldl (fun (a : State) g =>
    (a.load BOOT_FUSE_GRP.ONE (count (fun w v => v == 2 && fuseGroup w == g)) g).load BOOT_FUSE_GRP.BOTH
      (count (fun w v => v == 3 && fuseGroup w == g)) g) s
  (q.filter (fun x => decide (2 ≤ x.2))).foldl (fun (a : State) x =>
    let a := (a.irq BOOT_IRQ_STAT.FUSE).bootEvent beFuse 0 (if x.2 = 3 then ccFuseMarginal else ccOk) 0 x.1
    if x.2 = 3 then a.archiveEvent 0x11 0 (a.word BOOT_EVT_CODE.REG) [] ccFuseMarginal else a) s

/-- The life-cycle value that the fuses give: the number of the thermometer code; while a pending transition is found
and the word is marginal, that of the bank of the state being left (R375). -/
def State.lcRead (s : State) : Nat :=
  let lc := min 5 (lcOfWord (s.fuseWord 0))
  match s.dom.pend with
  | some (target, _) =>
    if s.fuseQual 0 < 2 ∨ lc ≠ target then lc
    else
      match s.dom.bankA, s.dom.bankB with
      | some a, _ => if a.lc ≠ target then a.lc else match s.dom.bankB with
        | some b => if b.lc ≠ target then b.lc else lcBlank
        | none => lcBlank
      | none, some b => if b.lc ≠ target then b.lc else lcBlank
      | none, none => lcBlank
  | none => lc

/-- F values of the Dome: state, DEVID, floor, decommission keys, and FUSE_BAD (R371, R394). -/
def State.fuseDome (s : State) : State :=
  let s := (s.load DOM_LC.STATE s.lcRead).load DOM_LC.MARGINAL (decide (2 ≤ s.fuseQual 0)).toNat
  let s := (s.load DOM_DEVID_LO.DEVID (s.fuseWord 9)).load DOM_DEVID_HI.DEVID (s.fuseWord 0xA)
  let s := s.load DOM_VER.FLOOR (min 63 (s.fuseWord 0xB))
  let s := s.load DOM_KEYS.KDC_V (!(s.fuseBytes 0x520 4).all (· == 0)).toNat
  let s := s.load DOM_KEYS.KDC_A (!(s.fuseBytes 0x524 4).all (· == 0)).toNat
  let bad := s.fuse.qual.any (fun x => x.2 == 3 && groupSecure (fuseGroup x.1))
  let s := if bad then (s.load DOM_STAT.FUSE_BAD 1).irq DOM_IRQ_STAT.MARGINAL else s
  s.domKeysReg

/-- F values of RNG, RAD and TRN; HIF's identity is the board vendor's (free values). -/
def State.fuseUnits (s : State) : State :=
  let s := ((s.load RNG_HEALTH_CFG.H_R 128).load RNG_HEALTH_CFG.RCT_CUT 41).load RNG_HEALTH_CFG.APT_CUT 793
  let s := (List.range 64).foldl (fun (a : State) i => a.load RAD_UWB_STEP.CODE (a.fuseWord (0x440 + i)) i) s
  let s := (List.range 32).foldl (fun (a : State) i => a.load RAD_UHF_STEP.CODE (a.fuseWord (0x480 + i)) i) s
  let gain := fun (a : State) (t : Nat) =>
    let v := satSigned 8 ((a.calFact (0x1000 + 32 * t)).getD 0)
    (a.load RAD_TRX_GAIN.GAIN_F v t).load RAD_TRX_GAIN.GAIN_EFF v t
  let s := (List.range 20).foldl gain s
  let dly := fun (a : State) (t : Nat) =>
    let w := if a.fuseQual (0x500 + t) = 3 then 0 else a.fuseWord (0x500 + t)
    ((a.load TRN_TRX_ADLY_F.TX_F (w / 65536) t).load TRN_TRX_ADLY_F.RX_F (w % 65536) t).adlyEff t
  let s := (List.range 16).foldl dly s
  let (i, s) := s.draw
  let (j, s) := s.draw
  let s := (s.load HIF_ID.DEVICE (i / 65536)).load HIF_ID.VENDOR (i % 65536)
  (s.load HIF_SUBID.SUBSYS (j / 65536)).load HIF_SUBID.SUBVEN (j % 65536)

/-- The repair map (R492–R494): the factory entries of the arrays, and the spare rows of the DRAM banks, four a bank. -/
def State.fuseRepair (s : State) (remaps spares : List (Nat × Nat)) : State :=
  let s := { s with mem := { s.mem with factory := remaps } }.remapFactory
  let s := spares.foldl (fun (a : State) p =>
    let b := p.1 % 16
    let n := a.rd MEM_DRAM_SPARE.FUSE_ENTRIES b
    let a := a.load MEM_DRAM_SPARE.FUSE_ENTRIES (min 255 (n + 1)) b
    if n < 4 then a.load MEM_DRAM_SPARE.IN_USE (2 ^ (n + 1) - 1) b else a.load MEM_STAT.SPARE_OVER 1) s
  let s := s.wr MEM_SPARE_STAT.SPARES_USED
    ((List.range 16).foldl (fun (n : Nat) b => n + popCount (s.rd MEM_DRAM_SPARE.IN_USE b) 4) 0)
  if s.fuse.qual.any (fun x => x.2 == 3 && fuseGroup x.1 == 5) then s.load MEM_STAT.MAP_MARGINAL 1 else s

/-- The fuses are read. -/
def State.fusesRead (s : State) (words : List (Nat × Nat × Nat)) (remaps spares : List (Nat × Nat)) : State :=
  let s := (((s.fuseIn words).fuseDome.fuseUnits).fuseRepair remaps spares).fuseRegs
  let s := if s.fuse.qual.any (fun x => x.2 == 3 && fuseGroup x.1 == 4) then s.domMismatch else s
  let s := s.eyeRefresh
  let s := if s.on PIN_STRAP.TEST_EN ∧ s.lc ≠ lcBlank then
      ((s.load PIN_STAT.TEST_IGNORED 1).pinEvent 4 0).archiveEvent 0x17 0 (4 * 2 ^ 28)
    else s
  (if s.bootPhase = bpFuses then s.wr BOOT_STAT.PHASE bpFlash else s).bootGo

/-- FUSE_READ_DONE: step 2 of R539. -/
def execFuseReadDone (t : Nat) (words : List (Nat × Nat × Nat)) (remaps spares : List (Nat × Nat)) (s : State) : Answer :=
  happen t s (fun s =>
    if s.fuse.done then s
    else s.fusesRead words remaps spares)

/-! ## Discovery (R542) -/

/-- The flash is discovered, and the slot headers read. -/
def State.flashSeen (s : State) (id mib : Nat) (ok fast : Bool) (headA headB : List Byte) : State :=
  let s := { s with boot := { s.boot with found := true } }
  let s := if ok then
      let s := ((s.wr BOOT_STAT.FLASH_OK 1).flag BOOT_STAT.LOW_RATE (!fast)).flag BOOT_STAT.FLASH_SMALL (decide (mib < 256))
      let s := (s.wr BOOT_FL_ID.ID id).wr BOOT_FL_SIZE.MIB mib
      (s.slotRegs 0 headA).slotRegs 1 headB
    else s
  s.bootGo

/-- FLASH_DISCOVERY: step 4 of R539. -/
def execFlashDiscovery (t id mib : Nat) (ok fast : Bool) (headA headB : List Byte) (s : State) : Answer :=
  happen t s (fun s =>
    if s.boot.found ∨ s.bootPhase > bpFlash then s
    else s.flashSeen id mib ok fast headA headB)

/-! ## REG_INIT (R548) -/

/-- The entries of the first 16 REG_INIT records: record number, OFFSET, VALUE. -/
def regInitList (m : List Byte) : List (Nat × Nat × Nat) :=
  (((imgRecs m).filter (fun r => r.typ == rtRegInit)).take 16).flatMap (fun r =>
    let body := r.body m
    (List.range (body.length / 8)).map (fun k => (r.num, leAt body (8 * k) 4, leAt body (8 * k + 4) 4)))

/-- An entry names a register with an RW or RWL field, in the unprivileged view and outside DOM. -/
def regInitOk (off : Nat) : Bool :=
  decide (off < 0x800000) && off / 65536 != 0x0B &&
  (match findReg off with
   | some (r, _, _) => r.flds.any (fun f => f.acc == .RW || f.acc == .RWL)
   | none => false)

/-- A field marked I, by its place in the register table. -/
def imageKey (k : Nat) : Bool :=
  match findReg (k / 32) with
  | some (r, _, _) => r.flds.any (fun f => f.lo == k % 32 && f.src == .image)
  | none => false

/-- One entry: applied with the lock bit held back, or logged as FIELD. -/
def State.regInitOne (s : State) (e : Nat × Nat × Nat) : State :=
  if !regInitOk e.2.1 then s.recErr reField e.1 rtRegInit
  else
    let u := e.2.1 / 65536
    let w := if isCtl u e.2.1 && (lockFld u).isSome then setBit e.2.2 0 false else e.2.2
    (s.regStore 0 false e.2.1 w).add BOOT_IMG_STAT.REG_APPLIED 1

/-- The lock bits that entries set, together at the end. -/
def State.regInitLocks (s : State) (l : List (Nat × Nat × Nat)) : State :=
  l.foldl (fun (a : State) e =>
    let u := e.2.1 / 65536
    if regInitOk e.2.1 && isCtl u e.2.1 && bit e.2.2 0 then a.lockUnit u else a) s

/-- The zones that the programs of an image enable (R99, FLAGS bit 0). -/
def imgZones (m : List Byte) : Nat := bitMap (((imgZoneProgs m).filter (fun p => bit p.2.flags 0)).map (fun p => p.1))

/-- I values of an image: what stood in the fields marked I goes, the entries are applied, and the fields' values are
those of later unit resets. -/
def State.regInit (s : State) (m : List Byte) : State :=
  let s := { s with regs := s.regs.filter (fun p => !imageKey p.1) }
  let s := s.wr HEL_ZONE_CTL.ENABLE (imgZones m)
  let l := regInitList m
  let s := (l.foldl State.regInitOne s).regInitLocks l
  let s := (List.range 24).foldl (fun (a : State) u => a.applyProfile u) s
  { s with loaded := SMap.over' (s.loaded.filter (fun p => !imageKey p.1)) (s.regs.filter (fun p => imageKey p.1)) }

/-! ## The running image -/

/-- The registers that describe the running image. -/
def State.imgRegs (s : State) (m : List Byte) : State :=
  let s := ((s.load BOOT_IMG_SEQ.VALUE (imgSeq m)).load BOOT_IMG_LEN.VALUE (imgLen m)).load BOOT_IMG_STAT.NREC (imgNrec m)
  let s := s.load BOOT_IMG_STAT.REG_APPLIED (s.rd BOOT_IMG_STAT.REG_APPLIED)
  let s := (List.range 4).foldl (fun (a : State) i => (a.load DOM_DM.MEAS (leAt (imgDm m) (4 * i) 4) i).load DOM_AM.MEAS
    (leAt (imgAm m) (4 * i) 4) i) s
  s.load DOM_VER.VER (imgVer m)

/-- Findings of an image beside those of REG_INIT. -/
def State.imgLog (s : State) (m : List Byte) : State :=
  (imgFindings m).foldl (fun (a : State) x => a.recErr x.1 x.2.num x.2.typ) s.recErrClear

/-- SES programs, with the registers that show them. -/
def State.sesPrograms (s : State) (m : List Byte) : State :=
  let ps := imgSesProgs m
  let s := { s with ses := { s.ses with progs := ps } }
  (List.range 32).foldl (fun (a : State) p =>
    match SMap.find ps p with
    | some g => (((a.load SES_PROG_CFG.VALID 1 p).load SES_PROG_CFG.FLAGS (g.flags / 2) p).load SES_PROG_CFG.ZONE g.zone p).load
        SES_PROG_CFG.CORE_MASK g.coreMask p
    | none => SES_PROG_CFG.REG.flds.foldl (fun (b : State) f => b.load f 0 p) a) s

/-- Zone programs: a zone whose program changes is solved again (R90). -/
def State.zonePrograms (s : State) (m : List Byte) : State :=
  let old := s.hel.progs
  let new := imgZoneProgs m
  let changed := (List.range 32).filter (fun z => SMap.find old z != SMap.find new z)
  let s := { s with hel := { s.hel with progs := new } }
  changed.foldl (fun (a : State) z =>
    let a := (List.range 3).foldl (fun (b : State) k => b.unsolve z k) a
    (a.resolveZone z).zoneRegs z) s

/-- Anchors and regions, taken between solves (R255). -/
def State.almTables (s : State) (m : List Byte) : State :=
  let (seq, anchors) := imgAnchors m
  let s := { s with alm := { s.alm with next := some (anchors, imgRegions m, seq, imgTableCrc m) } }
  if s.alm.queue.isEmpty && s.alm.cp2.isEmpty then s.almTake else s

/-- No bank opens (R379). -/
def State.noBank (s : State) : State :=
  if s.lc = lcBlank then s.wr DOM_STAT.NO_BANK 0 else (s.wr DOM_STAT.NO_BANK 1).irq DOM_IRQ_STAT.NO_BANK

/-- R379, R401: the bank that the measurement opens; a MIGRATE bank opened for the first time is completed. -/
def State.bankOpen (s : State) (dm : List Byte) : State :=
  match s.bankFor dm with
  | some (k, b) =>
    let s := { s with dom := { s.dom with keys := b.keys } }
    let s := (s.wr DOM_STAT.BANK k).wr DOM_STAT.NO_BANK 0
    match s.dom.migrate with
    | some (d, v) =>
      if d = dm then
        let s := s.setBank (1 - k) none
        let s := { s with dom := { s.dom with migrate := none }, fuse := { s.fuse with words := SMap.put s.fuse.words 0xB v } }
        ((s.load DOM_VER.FLOOR (min 63 v)).wr DOM_STAT.MIGRATE_PEND 0).wr DOM_VER.PEND_VER 0
      else s
    | none => s
  | none => s.noBank

/-- Units that wait in RESET for the image, in powered domains, go to INIT (step 9 of R539, R540). -/
def State.unitsOut (s : State) : State :=
  ((List.range 24).filter (fun u => s.rep u == stReset)).foldl (fun (a : State) u => (a.regsAgain u).enterInit u) s

/-- Steps 8 to 10 of R539: a valid slot runs. -/
def State.imageRuns (s : State) (slot : Nat) (m : List Byte) : State :=
  let s := s.wr BOOT_LOAD_TIME.LOAD_MS (s.tenthsSince s.boot.loadFrom)
  let s := { s with boot := { s.boot with copy := m, tries := [] } }
  let s := ((s.wr BOOT_SLOT_STAT.STATE 3 slot).wr BOOT_STAT.SLOT_RUN slot).wr BOOT_STAT.IMAGE_OK 1
  let s := s.wr BOOT_STAT.PHASE bpDistribute
  let s := s.bankOpen (imgDm m)
  let s := (s.imgLog m).regInit m
  let s := ((s.imgRegs m).bundleIn (imgBundle m)).sesPrograms m
  let s := { s with hel := { s.hel with progs := imgZoneProgs m } }
  let s := ((s.almTables m).domRegsAgain.eyeRefresh).unitsOut
  (s.avsRefresh).ringsChanged

/-! ## The slots (R550–R553) -/

/-- What a slot's registers show after a check. -/
def State.slotJudged (s : State) (slot reason code : Nat) (answered : Bool) (m : List Byte) : State :=
  let s := s.bump BOOT_CNT_LOAD.COUNT
  let s := if answered then s.slotRegs slot m else s
  let s := if reason = 0 ∨ 7 ≤ reason then s.slotDm slot m else s
  let s := (s.wr BOOT_SLOT_STAT.REASON reason slot).wr BOOT_SLOT_STAT.CODE code slot
  let running := s.on BOOT_STAT.IMAGE_OK && s.rd BOOT_STAT.SLOT_RUN == slot
  let s := if running then s else s.wr BOOT_SLOT_STAT.STATE (if reason = 0 then 1 else 2) slot
  if reason = 0 then s
  else
    let s := (s.bump BOOT_CNT_FALLBACK.COUNT).irq BOOT_IRQ_STAT.FALLBACK
    let s := s.bootEvent beSlot reason code slot 0
    s.archiveEvent 0x11 0 (s.word BOOT_EVT_CODE.REG) [] code

/-- No slot is valid (R553). -/
def State.bootFails (s : State) (slot code : Nat) : State :=
  let s := ((s.wr BOOT_STAT.PHASE bpFail).wr BOOT_STAT.FAIL_CODE code).irq BOOT_IRQ_STAT.FAIL
  (s.bootEvent beFail 0 code slot 0).noBank

/-- A slot tried in the order of R552. -/
def State.slotTried (s : State) (slot : Nat) (answered : Bool) (m : List Byte) (poison : Bool) : State :=
  let (reason, code) := s.imgCheck answered m poison
  let s := s.slotJudged slot reason code answered m
  if reason = 0 then s.imageRuns slot m
  else
    let s := { s with boot := { s.boot with tries := s.boot.tries.tail } }
    if s.boot.tries.isEmpty then s.bootFails slot code else s

/-! ## Switching (R555, R556) -/

/-- A switch is refused: the running image stays. -/
def State.switchRefused (s : State) (slot code : Nat) : State :=
  let s := (s.wr BOOT_STAT.PHASE bpRun).irq BOOT_IRQ_STAT.SWITCH_FAIL
  s.bootEvent beSwitch 0 code slot 0

/-- Sessions that are open keep the programs and the bundle of their open (R556). -/
def State.keepOld (s : State) : State :=
  s.ses.ctx.foldl (fun (a : State) p =>
    let old := a.progOf p.1
    let x := a.aux p.1
    { a with ses := { a.ses with aux := SMap.put a.ses.aux p.1 { x with oldProg := old, oldBundle := true } } }) s

/-- A switch's load has passed: the units take the new records, and the EVENT carries the new AM and the slot. -/
def State.switched (s : State) (slot : Nat) (m : List Byte) : State :=
  let was := s.rd BOOT_STAT.SLOT_RUN
  let s := s.keepOld
  let s := { s with boot := { s.boot with copyOld := s.boot.copy, copy := m, unfinished := true }
                    ast := { s.ast with old := some s.ast.bundle } }
  let s := (s.wr BOOT_SLOT_STAT.STATE 1 was).wr BOOT_SLOT_STAT.STATE 3 slot
  let s := (s.wr BOOT_STAT.SLOT_RUN slot).wr BOOT_STAT.PHASE bpRun
  let s := (s.wr BOOT_LOAD_TIME.LOAD_MS (s.tenthsSince s.boot.loadFrom)).imgLog m
  let next := s.regInit m
  let s := { s with loaded := next.loaded }
  let s := (s.wr BOOT_IMG_STAT.REG_APPLIED (next.rd BOOT_IMG_STAT.REG_APPLIED)).imgRegs m
  let s := s.bootEvent beSwitch 0 ccOk slot 0
  let s := s.archiveEvent 0x11 0 (s.word BOOT_EVT_CODE.REG) (imgAm m ++ leBytes 1 slot)
  (((s.bundleIn (imgBundle m)).sesPrograms m).zonePrograms m).almTables m |>.coreTakeAll

/-- The slot of a switch has been copied. -/
def State.switchTried (s : State) (slot : Nat) (answered : Bool) (m : List Byte) (poison : Bool) : State :=
  let (reason, code) := s.imgCheck answered m poison
  let s := s.slotJudged slot reason code answered m
  let s := { s with boot := { s.boot with switching := none } }
  if reason ≠ 0 then s.switchRefused slot code
  else if imgDm m ≠ s.dm ∨ imgVer m ≠ s.rd DOM_VER.VER then s.switchRefused slot ccPrecondition
  else s.switched slot m

/-- A flash-port operation that waited for a load starts (R558). -/
def State.flashNext (s : State) : State :=
  { s with boot := { s.boot with op := s.boot.op.map (fun o => { o with on := true }) } }

/-- SLOT_COPY_DONE: the copy of the slot that is being tried, or switched to, is complete. -/
def execSlotCopyDone (t slot : Nat) (answered : Bool) (image : List Byte) (poison : Bool) (s : State) : Answer :=
  happen t s (fun s =>
    if s.bootPhase = bpCopy ∧ s.boot.tries.head? = some slot then
      let s := s.slotTried slot answered image poison
      if s.bootPhase = bpCopy then s else s.flashNext
    else if s.bootPhase = bpSwitch ∧ s.boot.switching = some slot then
      (s.switchTried slot answered image poison).flashNext
    else s)

/-- BOOT_RECORD: step 11 of R539. -/
def execBootRecord (t : Nat) (s : State) : Answer := happen t s (fun s =>
  (s.bootRecord s.boot.cause (s.rd BOOT_STAT.SLOT_RUN)).bootRun)

/-- A write of RETRY (R553): ignored unless PHASE is FAIL. -/
def State.retryBoot (s : State) : State :=
  if s.bootPhase ≠ bpFail then s
  else
    let s := { s with boot := { s.boot with tries := s.slotOrder, loadFrom := s.now } }
    s.wr BOOT_STAT.PHASE bpCopy

/-- A write of a BOOT register through a view of a port. -/
def State.bootView (s : State) (port : Nat) (priv : Bool) (off : Nat) (f : State → State) : State :=
  if priv then s.privWrite (min port 4) true 0x11 off f else f s

def execRetryBoot (t port : Nat) (priv : Bool) (s : State) : Answer := happen t s (fun s =>
  s.bootView port priv 0x110004 State.retryBoot)

/-- A write of SWITCH (R555): counted without further effect during a switch, ignored before RUN. -/
def State.switchGo (s : State) (slot : Nat) : State :=
  if s.bootPhase = bpSwitch then s.bump BOOT_CNT_LOAD.COUNT
  else if s.bootPhase ≠ bpRun then s
  else if s.boot.unfinished then s.switchRefused slot ccBusy
  else
    let s := { s with boot := { s.boot with switching := some slot, loadFrom := s.now } }
    s.wr BOOT_STAT.PHASE bpSwitch

def execSwitch (t port : Nat) (priv : Bool) (slot : Nat) (s : State) : Answer := happen t s (fun s =>
  s.bootView port priv 0x110004 (fun s => (s.wr BOOT_CTL.SWITCH_SLOT slot).switchGo (slot % 2)))

/-- SWITCH_FINISH (R556): no session opened before the switch is left. -/
def execSwitchFinish (t : Nat) (s : State) : Answer := happen t s (fun s =>
  if !s.boot.unfinished ∨ s.ses.ctx.any (fun p => (s.aux p.1).oldBundle) then s
  else
    let s := { s with boot := { s.boot with unfinished := false, copyOld := [] }, ast := { s.ast with old := none } }
    (s.bump BOOT_CNT_SWITCH.COUNT).irq BOOT_IRQ_STAT.SWITCH_DONE)

/-! ## Recopy (R554) -/

/-- A record that stays poisoned is absent for the unit that reads it. -/
def State.recAbsent (s : State) (r : ImgRec) : State :=
  let body := r.body s.boot.copy
  let z := leAt body 0 1
  if r.typ = rtZoneProg then
    ({ s with hel := { s.hel with progs := SMap.del s.hel.progs z } }).zoneRegs z
  else if r.typ = rtRegion then { s with alm := { s.alm with regions := SMap.del s.alm.regions z } }.almTableRegs
  else if r.typ = rtAnchors then
    ({ s with alm := { s.alm with anchors := [] } }.load ALM_TABLE_STAT.SEQ 0).almTableRegs
  else if r.typ = rtSesProg then
    let s := { s with ses := { s.ses with progs := SMap.del s.ses.progs z } }
    SES_PROG_CFG.REG.flds.foldl (fun (b : State) f => b.load f 0 z) s
  else if r.typ = rtImem ∨ r.typ = rtXmem ∨ r.typ = rtYmem ∨ r.typ = rtScripts then s.wr AST_STAT.IMAGE_VALID 0
  else s

/-- The running slot is copied again for one record. -/
def State.recopied (s : State) (record : Nat) (answered : Bool) (image : List Byte) (poison : Bool) : State :=
  let r := imgRec s.boot.copy record
  let (reason, code) := s.imgCheck answered image poison
  let good := reason == 0 && imgDm image == s.dm && imgAm image == s.am
  let s := s.bump BOOT_CNT_RECOPY.COUNT
  let s := if good then { s with boot := { s.boot with copy := image } } else s.recAbsent r
  let s := s.recErr reRecopy record r.typ
  s.bootEvent beRecopy reason (if good then ccOk else if code = ccOk then ccPrecondition else code)
    (s.rd BOOT_STAT.SLOT_RUN) record

/-- RECOPY: the running slot is copied and checked again; it replaces the copy when DM and AM are those in force. -/
def execRecopy (t record : Nat) (answered : Bool) (image : List Byte) (poison : Bool) (s : State) : Answer :=
  happen t s (fun s =>
    if !s.on BOOT_STAT.IMAGE_OK ∨ imgNrec s.boot.copy ≤ record then s
    else s.recopied record answered image poison)

/-! ## The flash port (R557, R558) -/

/-- Bytes that an operation covers. -/
def flashBytes (op kib : Nat) : Nat := if op = 2 then 4096 else if op = 3 then 65536 else 1024 * (kib + 1)

/-- What ADDR must be a multiple of. -/
def flashAlign (op : Nat) : Nat := if op = 0 then 1 else if op = 1 then 256 else flashBytes op 0

/-- The operation set up in the flash port has no start: its slot is not the device's or lies in a ring, its address is
not aligned, or it ends past the flash (R557). -/
def State.flashBad (s : State) : Bool :=
  let op := s.rd BOOT_FL_CTL.OP
  let addr := s.rd BOOT_FL_ADDR.ADDR
  let slot := s.rd BOOT_FL_CTL.SLOT
  (decide (op ≤ 1) && (s.slotFlag slot != slotDevice || s.inRing slot)) || addr % flashAlign op != 0 ||
    decide (s.rd BOOT_FL_SIZE.MIB * 2 ^ 20 < addr + flashBytes op (s.rd BOOT_FL_CTL.KIB))

/-- A write of GO in BOOT_FL_CTL, its fields written: ignored while BUSY. -/
def State.flashGo (s : State) : State :=
  if s.on BOOT_FL_CTL.BUSY then s
  else
    let o : FlashOp := { op := s.rd BOOT_FL_CTL.OP, addr := s.rd BOOT_FL_ADDR.ADDR, kib := s.rd BOOT_FL_CTL.KIB,
                         slot := s.rd BOOT_FL_CTL.SLOT, on := s.bootPhase != bpCopy && s.bootPhase != bpSwitch }
    if s.flashBad then
      (s.wr BOOT_FL_CTL.CODE ccPrecondition).irq BOOT_IRQ_STAT.FL_DONE
    else { s with boot := { s.boot with op := some o } }.wr BOOT_FL_CTL.BUSY 1

/-- The flash port with an operation set up. -/
def State.flashSet (s : State) (op addr kib slot : Nat) : State :=
  (((s.wr BOOT_FL_ADDR.ADDR addr).wr BOOT_FL_CTL.OP op).wr BOOT_FL_CTL.KIB kib).wr BOOT_FL_CTL.SLOT slot

/-- The rows of R557: ADDR and CTL are written, with GO. -/
def State.flashRow (s : State) (port : Nat) (priv : Bool) (op addr kib slot : Nat) : State :=
  s.bootView port priv 0x110024 (fun s =>
    if s.on BOOT_FL_CTL.BUSY then s
    else (s.flashSet op addr kib slot).flashGo)

def execRead (t port : Nat) (priv : Bool) (addr kib slot : Nat) (s : State) : Answer := happen t s (fun s =>
  s.flashRow port priv 0 addr kib slot)

def execProgram (t port : Nat) (priv : Bool) (addr kib slot : Nat) (s : State) : Answer := happen t s (fun s =>
  s.flashRow port priv 1 addr kib slot)

def execErase4 (t port : Nat) (priv : Bool) (addr : Nat) (s : State) : Answer := happen t s (fun s =>
  s.flashRow port priv 2 addr 0 0)

def execErase64 (t port : Nat) (priv : Bool) (addr : Nat) (s : State) : Answer := happen t s (fun s =>
  s.flashRow port priv 3 addr 0 0)

/-- A flash operation ends. -/
def State.flashDone (s : State) (o : FlashOp) (answered : Bool) (data : List Byte) : State :=
  let s := { s with boot := { s.boot with op := none } }
  let n := flashBytes o.op o.kib
  let s := if o.op = 0 ∧ answered then s.fillSlot o.slot (padTo data n ++ (s.slotData o.slot).drop n) else s
  let s := if o.op = 0 then s.bump BOOT_CNT_FL_READ.COUNT else if o.op = 1 then s.bump BOOT_CNT_FL_PROG.COUNT
    else s.bump BOOT_CNT_FL_ERASE.COUNT
  let s := (s.wr BOOT_FL_CTL.BUSY 0).wr BOOT_FL_CTL.CODE (if answered then ccOk else ccTimeout)
  let s := if o.op ≤ 1 then s.handSlot o.slot else s
  s.irq BOOT_IRQ_STAT.FL_DONE

/-- FLASH_OP_DONE: the operation in progress ends, counted by its kind; a READ fills its slot, and a slot goes back to
the host whatever the outcome (R606). -/
def execFlashOpDone (t : Nat) (answered : Bool) (data : List Byte) (s : State) : Answer := happen t s (fun s =>
  match s.boot.op with
  | none => s
  | some o =>
    if !o.on then s
    else s.flashDone o answered data)

/-! ## Calibration values (R563, R564) -/

/-- A privileged write of BOOT_CAL_USER: the word goes through the register port; an item that R563 does not list is
DENIED. -/
def State.calUserWrite (s : State) (w : Nat) : State :=
  let item := s.rd BOOT_CAL_ADDR.ITEM
  let a := 0xA10000 + 8 * item
  match calRange item with
  | none => s.accDenied a
  | some _ => if s.on PLT_ACC_CTL.BUSY then s else s.portWrite true a (calWord item (toSigned 32 w))

end Sys2Proof.Machine
end

