-- ==== Sys2Proof/Machine/RegAccess.lean ====
section
/-! DEFINITION. Accesses to the register file (R7–R15, R27, R596, R612–R615, R649): who may, what a read shows, and the
rows of chapter 00 that are register accesses. Ports are those of R612, a core c counting as port 4 + c. -/

namespace Sys2Proof.Machine

/-! ## Who may (R13, R14, R571, R576, R596) -/

/-- A violation of R13 or R14 on a port; one of a core counts for the core, too. -/
def State.violated (s : State) (port : Nat) (write priv : Bool) (reason off : Nat) : State :=
  let s := s.violation (min port 4) write priv reason off
  if port < 4 then s else (s.bump AST_CNT_REGVIOL.COUNT).bump AST_CORE_REGVIOL.COUNT (port - 4)

/-- No domain of the unit has power, and no wake under way gives it. -/
def State.unitDark (s : State) (u : Nat) : Bool :=
  let dark := fun (d : Nat) => s.domSt d == dsOff && (s.on PWR_DOM_CTL.OFF d || decide (s.pwrState ≤ psS1))
  if u = 0x04 then dark 4 && dark 5 else dark (unitDom u)

/-- An access to a register outside the AON domain wakes the device from S2 and S3. -/
def State.accessWake (s : State) (u : Nat) : State :=
  if psS1 < s.pwrState ∧ unitDom u ≠ 0 then s.wakeBy 5 else s

/-- A write of a word through a port: none of it happens where the access violates R13 or R14 or the unit is dark. -/
def State.regWrite (s : State) (port : Nat) (priv : Bool) (off bytes w : Nat) : State :=
  let u := off / 65536
  if bytes ≠ 4 ∨ off % 4 ≠ 0 then s.violated port true priv 0 off
  else
    match (if priv then s.viewReason (min port 4) u else none) with
    | some r => s.violated port true true r off
    | none =>
      if 24 ≤ u then s
      else
        let s := s.accessWake u
        if s.unitDark u then s
        else if off = 0x110024 then (if s.on BOOT_FL_CTL.BUSY then s else
          let s := s.regStore port priv off w
          if bit w 31 then s.flashGo else s)
        else
          let s := s.regStore port priv off w
          if off = 0x110004 then
            let s := if bit w 2 then s.retryBoot else s
            if bit w 7 then s.switchGo (s.rd BOOT_CTL.SWITCH_SLOT % 2) else s
          else if off = 0x11004C ∧ priv then s.calUserWrite w
          else s

/-! ## What a read shows -/

/-- Values that move of themselves, brought up to the present, of the units in AON and the Dome. -/
def State.freshAon (s : State) (u : Nat) : State :=
  if u = 0x01 then
    let s := s.trimStat
    let hold := if s.rd MER_STAT.QUALITY = qHoldover then min (2 ^ 32 - 1) ((s.now - s.mer.qualSince) / msT 1)
      else s.rd MER_HOLD_TIME.HOLD_MS
    let s := s.wr MER_HOLD_TIME.HOLD_MS hold
    if s.mer.recalled then
      let s := s.wr64 MER_CIVIL_LO.CIVIL MER_CIVIL_HI.CIVIL s.civilNs
      let s := s.wr64 MER_CIVIL_OFFSET_LO.OFFSET MER_CIVIL_OFFSET_HI.OFFSET (ofSigned 64 s.mer.offset)
      s.wr MER_CIVIL_LEAP.LEAP s.mer.leap
    else s
  else if u = 0x0B then (List.range 16).foldl (fun (a : State) i => a.wr DOM_EXPORT.DATA (s.exportWord i) i) s
  else if u = 0x12 then s.pwrAccount
  else if u = 0x15 then (s.wrWord MGT_HEALTH.REG s.mgtHealth).wr MGT_ENV_CTL.FILL s.mgt.buf.length
  else if u = 0x16 then
    s.wr EYE_GRANT.LEFT_S ((s.eye.grantEnd.map (fun e => (e - s.now + secT 1 - 1) / secT 1)).getD 0)
  else if u = 0x17 then
    let s := s.flag PIN_STAT.CHARGING (decide (s.rd PLT_VHOLD.MV < 3250))
    s.wr PIN_STAT.RAIL_GOOD (bitMap ((List.range 7).filter (fun k => bit (s.rd PIN_STAT.RAIL_GOOD) k && s.railOn k)))
  else s

/-- The same, of CORE's units and the rest. -/
def State.freshCore (s : State) (u : Nat) : State :=
  if u = 0x06 then
    (List.range 16).foldl (fun (a : State) t =>
      match SMap.find s.dbx.ex t with
      | some e => if e.phase = 3 && s.trxState t == rsRapid && (match (s.trx t).txFrom with
          | some f => decide (f + usT 14 ≤ s.now)
          | none => false) then a.wr DBX_TRX_STAT.PHASE 4 t else a
      | none => a) s
  else if u = 0x08 then
    let s := (List.range 16).foldl (fun (a : State) k =>
      a.wr SES_STATE_CNT.COUNT (if k = 0 then 32768 - s.ses.ctx.length
        else (s.ses.ctx.filter (fun p => p.2.state == k)).length) k) s
    s.wr SES_CORE_STAT.BUSY (bitMap ((List.range 16).filter (fun c => s.coreSt c == csStep || s.coreSt c == csDebug)))
  else if u = 0x09 then (if s.mer.recalled then s.wr SHU_LOCK_FLOOR.LOCK_EFF s.lockEff else s)
  else if u = 0x11 then
    let s := s.wr BOOT_FUSE_ADDR.QUAL (s.fuseQual (s.rd BOOT_FUSE_ADDR.WORD))
    let item := s.rd BOOT_CAL_ADDR.ITEM
    let fact := s.calFact item
    let user := if s.mer.recalled && (calRange item).isSome then s.calUser item else none
    let s := (s.flag BOOT_CAL_ADDR.FACT_VALID fact.isSome).flag BOOT_CAL_ADDR.USER_VALID user.isSome
    let s := s.flag BOOT_CAL_ADDR.CLAMPED (((s.calWith item (user.getD 0)).map (·.2)).getD false)
    let s := s.wr BOOT_CAL_FACT.FACT (ofSigned 32 (fact.getD 0))
    let s := s.wr BOOT_CAL_EFF.EFF (ofSigned 32 ((s.calEff item).getD 0))
    { s with regs := putField s.regs BOOT_CAL_USER.USER 0 0 (ofSigned 32 (user.getD 0)) }
  else if u = 0x13 then
    let count := fun (v : Nat) => (s.hif.flags.filter (fun p => p.2 == v)).length
    let s := (s.wr HIF_FLAG_COUNT.HOST (count slotHost)).wr HIF_FLAG_COUNT.DEVICE (count slotDevice)
    let s := (List.range 5).foldl (fun (a : State) p => a.wr HIF_VIEW_LEFT.LEFT_S (min 4095 (s.viewLeft p)) p) s
    s.wr HIF_UNIT_IRQ.UNIT (bitMap ((List.range 24).filter s.irqOpen))
  else if u = 0x14 then
    (List.range 8).foldl (fun (a : State) d =>
      a.wr BLN_MEM_LAST.AGE_US (match SMap.find s.bln.heard d with
        | some h => min 0xFFFF ((s.now - h) / usT 1)
        | none => 0xFFFF) d) s
  else s

/-- Fields that show what the device measures on its pins and lines, and that no command carries: they read as a free
value (log entry 20). -/
def measured : List Fld :=
  [LFP_CH_SNR.NOISE, SHU_OUT_SENSE.LOAD_MA, PIN_TAMPER_PAD.LID_CLOSED, PIN_TAMPER_PAD.MESH_OK, PIN_LF_STAT.CLIP_CNT,
   PIN_LF_STAT.VCM, PIN_REL_STAT.VOUT, PIN_REL_STAT.TEMP, PIN_REL_STAT.HOT, PIN_REL_STAT.VREL_OK, PIN_HS.POL_INV,
   PIN_HS.CAP_DET, PIN_HS.TERM_OK]

/-- What a read shows of a field. -/
def State.shownFld (s : State) (f : Fld) (i j : Nat) : Nat :=
  if measured.contains f then (Config.pinReading s.now (f.key i j)).toNat % 2 ^ f.width
  else s.rd f i j % 2 ^ f.width

/-- The word of a register as a read shows it; WO fields read 0. -/
def State.shown (s : State) (u : Nat) (r : Reg) (i j : Nat) : Nat :=
  let s := (s.freshAon u).freshCore u
  (r.flds.filter (fun f => f.acc != .WO)).foldl (fun a f => a + s.shownFld f i j * 2 ^ f.lo) 0

/-- Lower words of values that span two registers (R15); the upper word is the next register. -/
def loRegs : List Reg :=
  [MER_CIVIL_LO.REG, MER_CIVIL_OFFSET_LO.REG, HEL_MEAS_PEND_LO.REG, HEL_QUAR_LO.REG, LFP_EVT_STAMP_LO.REG,
   RAD_TRX_STAMP_LO.REG, TRN_EVT_STAMP_LO.REG, TRN_TRX_RX_TS_LO.REG, TRN_TRX_TX_TS_LO.REG, ALM_EVT_STAMP_LO.REG,
   ALM_LAST_STAMP_LO.REG, SES_LAST_STAMP_LO.REG, SHU_EVT_STAMP_LO.REG, SHU_OUT_STAMP_LO.REG, EPH_CODE_DIGITS_LO.REG,
   EPH_EVT_STAMP_LO.REG, DOM_DEVID_LO.REG, DOM_ATT_NONCE_LO.REG, DOM_EVT_STAMP_LO.REG, KCE_EVT_STAMP_LO.REG,
   RNG_EVT_STAMP_LO.REG, AST_EVT_STAMP_LO.REG, AST_SH_STAMP_LO.REG, MEM_UE_STAMP_LO.REG, PLT_ACC_DATA_LO.REG,
   PLT_EVT_STAMP_LO.REG, BOOT_EVT_STAMP_LO.REG, PWR_EVT_STAMP_LO.REG, PWR_RES_S0_LO.REG, PWR_RES_S1_LO.REG,
   PWR_RES_S2_LO.REG, PWR_RES_S3_LO.REG, HIF_EVT_STAMP_LO.REG, BLN_EVT_STAMP_LO.REG, BLN_PORT_PEER_LO.REG,
   BLN_MEM_DEVID_LO.REG, MGT_EVT_STAMP_LO.REG, EYE_EVT_STAMP_LO.REG, PIN_EVT_STAMP_LO.REG]

/-- The word at an offset. -/
def State.wordAt (s : State) (off : Nat) : Nat :=
  match findReg off with
  | some (r, i, j) => s.shown (off / 65536) r i j
  | none => 0

/-- A read of a register; a shadow that R15 left for it is what it returns. MER_NOW_LO latches the rest of Meridian
(its map, which extends R15), and nothing but it and the recall gives MER_NOW_HI and MER_NOW_ERA. OE and LEVEL are what a ball shows (PIN_PAD_DATA). -/
def State.readReg (s : State) (priv : Bool) (off : Nat) (oe level : Bool := false) : Nat × State :=
  match findReg off with
  | none => (0, s)
  | some (r, i, j) =>
    let u := off / 65536
    if r.isReg MER_NOW_LO.REG then
      (s.now % 2 ^ 32, { s with latch := SMap.put (SMap.put s.latch (off + 4) (s.now / 2 ^ 32)) (off + 8) s.mer.era })
    else if r.isReg MER_NOW_HI.REG || r.isReg MER_NOW_ERA.REG then (SMap.get s.latch off 0, s)
    else if r.isReg MER_TIME_NONCE.REG then s.timeNonce
    else if r.isReg DOM_NONCE.REG then s.domNonce
    else if r.isReg RNG_HOST_DATA.REG then s.hostData
    else if r.isReg SES_CTX_DATA.REG then s.readCtx priv
    else if r.isReg SHU_REL_DATA.REG then s.readRel
    else if r.isReg HEL_CM_DATA.REG then s.readCm
    else if r.isReg ALM_ANC_DATA.REG then s.readAnc
    else if r.isReg ALM_REG_DATA.REG then s.readRegion
    else if r.isReg ALM_RES_DATA.REG then s.readRes
    else if r.isReg AST_SCRIPT_DATA.REG then s.readScript
    else if r.isReg MEM_REMAP_DATA.REG then s.readRemap
    else if r.isReg MEM_LOG_DATA.REG then s.readMemLog
    else if r.isReg BOOT_FUSE_DATA.REG then s.readFuse
    else if r.isReg HIF_FLAG_DATA.REG then s.readFlags
    else if r.isReg MGT_FND_DATA.REG then s.readFnd
    else if r.isReg PIN_PAD_DATA.REG then s.readPad oe level
    else if r.isReg EPH_REC_DATA.REG then s.recData
    else
      match SMap.find s.latch off with
      | some v => (v, { s with latch := SMap.del s.latch off })
      | none =>
        let s' := if loRegs.any r.isReg then { s with latch := SMap.put s.latch (off + 4) (s.wordAt (off + 4)) } else s
        (s.shown u r i j, s')

/-- A read through a port, with what stands between it and its register: where the access fails, the unit is dark or
there is no register, it returns 0. -/
def State.regRead (s : State) (port : Nat) (priv : Bool) (off : Nat) (oe level : Bool := false) : Nat × State :=
  let u := off / 65536
  match (if priv then s.viewReason (min port 4) u else none) with
  | some r => (0, s.violated port false true r off)
  | none =>
    if 24 ≤ u then (0, s)
    else
      let s := s.accessWake u
      if s.unitDark u then (0, s) else s.readReg priv (off - off % 4) oe level

/-! ## The rows -/

/-- REGISTER_WRITE. -/
def execRegisterWrite (t port : Nat) (priv : Bool) (off bytes w : Nat) (s : State) : Answer := happen t s (fun s =>
  s.regWrite (min port 19) priv (off % 2 ^ 23) bytes (w % 2 ^ 32))

/-- A read whose word the port gets. -/
def State.portRead (s : State) (port : Nat) (priv : Bool) (off : Nat) (oe level : Bool := false) : State :=
  let (v, s) := s.regRead (min port 19) priv off oe level
  s.answerWord (min port 19) v

/-- REGISTER_LO_READ: a read through a port, of whatever register; one of a lower word latches the upper one. -/
def execRegisterLoRead (t port : Nat) (priv : Bool) (off : Nat) (s : State) : Answer := happen t s (fun s =>
  s.portRead port priv (off % 2 ^ 23))

/-- CLR_CNT of a unit. -/
def execClrCnt (t port : Nat) (priv : Bool) (u : Nat) (s : State) : Answer := happen t s (fun s =>
  let off := 65536 * (u % 24) + 4
  if (cntFlds (u % 24)).isEmpty then s
  else s.regWrite (min port 19) priv off 4 (Nat.lor (s.wordAt off) (2 ^ clrBit (u % 24))))

/-- LOCK of a unit. -/
def execLock (t port : Nat) (priv : Bool) (u : Nat) (s : State) : Answer := happen t s (fun s =>
  match lockFld (u % 24) with
  | some f => s.regWrite (min port 19) priv f.off 4 (Nat.lor (s.wordAt f.off) (2 ^ f.lo))
  | none => s)

end Sys2Proof.Machine
end

