-- ==== Sys2Proof/Machine/Mgt.lean ====
section
/-! DEFINITION. The management port and automatic reconciliation (R646–R652, R680). -/

namespace Sys2Proof.Machine

/-! ## Transfers (R646, R647, R649) -/

/-- The port is SMBus from its first legacy transfer on; an open interrupt then asserts ALERT_N. -/
def State.legacy (s : State) : State :=
  if s.on MGT_STAT.SMBUS then s
  else
    let s := { s.wr MGT_STAT.SMBUS 1 with mgt := { s.mgt with ibiReq := false, hjReq := false } }
    if s.irqOpen 0x15 then s.mgtRaise else s

/-- The transfer addresses the target: a legacy one always, an I3C one while the port is I3C and has a dynamic
address. -/
def State.addressed (s : State) (smbus : Bool) : Bool := smbus || (!s.on MGT_STAT.SMBUS && s.on MGT_STAT.DA)

/-- WRITE_TRANSFER. -/
def execWriteTransfer (t : Nat) (bytes : List (BitVec 8)) (smbus pecOn pecBad : Bool) (s : State) : Answer :=
  happen t s (fun s =>
    if !s.addressed smbus then s
    else
      let s := if smbus then s.legacy else s
      let pecErr := smbus && (if pecOn then pecBad else s.on MGT_SMB_CFG.PEC_REQ)
      if bytes.length ≠ 7 ∨ pecErr then s.bump MGT_CNT_PEC_ERR.COUNT
      else
        let off := leAt bytes 0 3
        (s.bump MGT_CNT_WR.COUNT).regWrite 1 (bit off 23) (off % 2 ^ 23) 4 (leAt bytes 3 4))

/-- Read n registers from an offset. -/
def State.readRun (s : State) (port off n : Nat) : List Byte × State :=
  (List.range n).foldl (fun (a : List Byte × State) k =>
    let o := (off + 4 * k) % 2 ^ 24
    let (v, s) := a.2.regRead port (bit o 23) (o % 2 ^ 23)
    (a.1 ++ leBytes 4 v, s.answerWord port v)) ([], s)

/-- The read wakes the device, and I3C is answered with a NACK until the wake completes. -/
def State.nacks (s : State) (off n : Nat) : Bool :=
  decide (psS1 < s.pwrState) && (List.range n).any (fun k => unitDom ((off + 4 * k) % 2 ^ 23 / 65536) != 0)

/-- READ_TRANSFER. -/
def execReadTransfer (t off n : Nat) (smbus : Bool) (s : State) : Answer := happen t s (fun s =>
  if !s.addressed smbus then s
  else
    let s := if smbus then s.legacy else s
    let n := min n 16
    if !smbus && s.nacks off n then s.wakeBy 5
    else
      let (l, s) := s.readRun 1 off n
      (s.add MGT_CNT_RD.COUNT n).send l)

/-! ## Common command codes (R646) -/

/-- The port hears common command codes. -/
def State.ccc (s : State) (f : State → State) : State := if s.on MGT_STAT.SMBUS then s else f s

def execEnec (t events : Nat) (s : State) : Answer := happen t s (fun s => s.ccc (fun s =>
  { s with mgt := { s.mgt with ibi := s.mgt.ibi || bit events 0, hj := s.mgt.hj || bit events 3 } }.ibiSend))

def execDisec (t events : Nat) (s : State) : Answer := happen t s (fun s => s.ccc (fun s =>
  { s with mgt := { s.mgt with ibi := s.mgt.ibi && !bit events 0, hj := s.mgt.hj && !bit events 3 } }))

def execRstdaa (t : Nat) (s : State) : Answer := happen t s (fun s => s.ccc (fun s => s.wr MGT_STAT.DA 0))

/-- The target takes a dynamic address. -/
def State.takeDa (s : State) (da : Nat) : State :=
  if s.on MGT_STAT.DA then s
  else { s.wr MGT_STAT.DA da with mgt := { s.mgt with hjReq := false } }.ibiSend

def execEntdaa (t da : Nat) (s : State) : Answer := happen t s (fun s => s.ccc (fun s => s.takeDa da))

/-- The static address: 0x50 plus the device index. -/
def State.staticAddr (s : State) : Nat := 0x50 + s.device

def execSetdasa (t static da : Nat) (s : State) : Answer := happen t s (fun s => s.ccc (fun s =>
  if static = s.staticAddr then s.takeDa da else s))

/-- A GET code sends its bytes, once the target has its dynamic address. -/
def State.getCcc (s : State) (l : List Byte) : State := s.ccc (fun s => if s.on MGT_STAT.DA then s.send l else s)

/-- A number most significant byte first. -/
def beBytes (n v : Nat) : List Byte := (leBytes n v).reverse

/-- Provisional ID: manufacturer and part, then DEVID [15:0]. -/
def execGetpid (t : Nat) (s : State) : Answer := happen t s (fun s =>
  s.getCcc (beBytes 4 (Config.i3cId 0).toNat ++ beBytes 2 (s.devid % 65536)))

def execGetbcr (t : Nat) (s : State) : Answer := happen t s (fun s => s.getCcc (beBytes 1 ((Config.i3cId 1).toNat % 256)))

def execGetdcr (t : Nat) (s : State) : Answer := happen t s (fun s => s.getCcc (beBytes 1 ((Config.i3cId 2).toNat % 256)))

def execGetstatus (t : Nat) (s : State) : Answer := happen t s (fun s =>
  s.getCcc (beBytes 2 ((Config.i3cId 3).toNat % 65536)))

def execGetmwl (t : Nat) (s : State) : Answer := happen t s (fun s => s.getCcc (beBytes 2 7))

def execGetmrl (t : Nat) (s : State) : Answer := happen t s (fun s => s.getCcc (beBytes 2 64))

/-- HOT_JOIN: the request on the bus, at the hot-join address. -/
def execHotJoin (t : Nat) (s : State) : Answer := happen t s (fun s => s.ccc (fun s =>
  if s.on MGT_I3C_CFG.HJ_EN ∧ s.mgt.hj ∧ !s.on MGT_STAT.DA then
    { s.send (bytesOf [0x04]) with mgt := { s.mgt with hjReq := true } }
  else s))

/-- ALERT_RESPONSE: a read of the Alert Response Address returns the static address and releases ALERT_N. -/
def execAlertResponse (t : Nat) (s : State) : Answer := happen t s (fun s =>
  let s := s.legacy
  if s.mgt.alert then { s.send (leBytes 1 (2 * s.staticAddr)) with mgt := { s.mgt with alert := false } } else s)

/-! ## Envelopes (R650) -/

def execEnvBufWrite (t port w : Nat) (s : State) : Answer := happen t s (fun s =>
  s.regWrite (min port 19) false 0x15003C 4 (w % 2 ^ 32))

def execMgtEnvSubmit (t port len : Nat) (s : State) : Answer := happen t s (fun s =>
  s.regWrite (min port 19) false 0x150040 4 (2 ^ 31 + len % 2 ^ 13 * 2 ^ 16))

/-! ## Reconciliation (R652) -/

/-- Units that MGT never resets. -/
def reconNever (u : Nat) : Bool := u == 0x00 || u == 0x01 || u == 0x12 || u == 0x17 || u == 0x0B

/-- An hour in ticks. -/
def hourT : Nat := secT 3600

/-- A reset enters MGT_RECON_LOG as its newest entry. -/
def State.reconLog (s : State) (w : Nat) : State :=
  let s := ((List.range 15).reverse).foldl (fun (a : State) i =>
    a.wrWord MGT_RECON_LOG.REG (a.word MGT_RECON_LOG.REG i) (i + 1)) s
  s.wrWord MGT_RECON_LOG.REG w 0

/-- The reconciler resets unit u: counted among the resets of the last hour, logged, archived. -/
def State.reconReset (s : State) (u : Nat) (recent : List Nat) (lastOne : Bool) : State :=
  let rep := s.rep u
  let s := { s with mgt := { s.mgt with made := SMap.put s.mgt.made u (s.now :: recent) } }
  let s := s.reconLog (u * 2 ^ 24 + rep * 2 ^ 21 + lastOne.toNat * 2 ^ 20 + s.civilMin % 2 ^ 20)
  let s := (s.irq MGT_IRQ_STAT.RECON).mgtEvent meRecon 0 u 0
  let s := s.archiveEvent 0x15 0 (s.word MGT_EVT_CODE.REG) [] ccOk
  let s := s.unitReset u
  s.setUnitS u { s.unitS u with missFrom := s.now }

/-- RECON of a unit whose MISMATCH has held for RECON_MS. -/
def execRecon (t u : Nat) (s : State) : Answer := happen t s (fun s =>
  let held := s.on SYS_UNIT_STATE.MISMATCH u && decide ((s.unitS u).missFrom + msT (orOne (s.rd MGT_RECON_TIME.RECON_MS)) ≤ s.now)
  let moving := s.rep u == stReset || s.rep u == stInit || s.rep u == stOff
  if 24 ≤ u || reconNever u || !bit (s.rd MGT_RECON_CFG.UNITS) u || bit (s.rd MGT_RECON_STAT.GAVE_UP) u || !held || moving then s
  else
    let recent := (SMap.get s.mgt.made u []).filter (fun x => decide (s.now < x + hourT))
    let most := orOne (s.rd MGT_RECON_TIME.RECON_MAX)
    if most ≤ recent.length then
      let s := s.wr MGT_RECON_STAT.GAVE_UP (setBit (s.rd MGT_RECON_STAT.GAVE_UP) u true)
      (s.irq MGT_IRQ_STAT.GAVE_UP).mgtEvent meGaveUp 0 u 0
    else s.reconReset u recent (decide (most ≤ recent.length + 1)))

/-! ## Temperature -/

/-- One temperature reading of a die. -/
def State.tempRead (s : State) (die temp : Nat) : State :=
  let lim : Int := 10 * (s.rd MGT_TEMP_LIM.WARN_C : Int)
  let was := toSigned 16 (s.rd MGT_TEMP.TEMP die)
  let now := toSigned 16 (temp % 65536)
  let s := s.wr MGT_TEMP.TEMP (temp % 65536) die
  let s := if toSigned 16 (s.rd MGT_TEMP.MAX die) < now then s.wr MGT_TEMP.MAX (temp % 65536) die else s
  if lim < now && !decide (lim < was) then (s.irq MGT_IRQ_STAT.TEMP).mgtEvent meTemp 0 0 0 else s

/-- TEMP: a die's junction temperature; passing WARN_C raises TEMP. -/
def execTemp (t die temp : Nat) (s : State) : Answer := happen t s (fun s =>
  if 3 ≤ die then s
  else s.tempRead die temp)

end Sys2Proof.Machine
end

