-- ==== Sys2Proof/Machine/AstPort.lean ====
section
/-! DEFINITION. Ports of a core, IN and OUT (R429, R440, R454, R466–R471), and the rows that are one port's effect. -/

namespace Sys2Proof.Machine

/-! ## Interrupt lines (R471) -/

/-- IPEND. -/
def Core.ipend (k : Core) : Nat :=
  bitMap ((List.range 5).filter (fun i =>
    ([k.timerDone, k.mboxNew, k.cp0.unread || k.cp1.unread || k.cp2.unread || k.cp3.unread, k.scNew,
      k.sliceWarn] : List Bool).getD i false))

/-- CP_OUT. -/
def Core.cpOut (k : Core) : Nat := bitMap ((List.range 4).filter (fun n => (k.cp n).out.isSome))

/-- Core cycles since device reset. -/
def State.cycles (s : State) : Nat := coreCycles (s.now - s.boot.resetAt)

/-! ## Reads -/

/-- An architectural port. -/
def State.archRead (s : State) (c p : Nat) : Nat × State :=
  let k := s.core c
  match p with
  | 0x000 => (0x0100, s)
  | 0x001 => (0x000F0000 + s.device % 8 * 256 + c, s)
  | 0x002 => (k.psw, s)
  | 0x003 => (k.vbase, s)
  | 0x004 => (k.stklo, s)
  | 0x005 => (k.stkhi, s)
  | 0x006 => (k.imask, s)
  | 0x007 => (k.ipend, s)
  | 0x008 => (s.cycles % 2 ^ 32, s.updCore c (fun k => { k with cycHi := s.cycles / 2 ^ 32 % 2 ^ 32 }))
  | 0x009 => (k.cycHi, s)
  | 0x00A => (k.cpOut, s)
  | _ => (0, s)

/-- A port of the bound session: whether it delivers poison, its value, and the state after. -/
def State.sesRead (s : State) (c n p : Nat) : Bool × Nat × State :=
  let k := s.core c
  let x := s.ctx n
  if p = 0x040 then (false, s.device % 8 * 2 ^ 16 + n % 2 ^ 15, s)
  else if p = 0x041 then (false, x.gen, s)
  else if p = 0x042 then
    (false, x.state % 16 + x.kind % 16 * 2 ^ 4 + x.zone % 32 * 2 ^ 8 + x.prog % 32 * 2 ^ 16 +
      (s.aux n).again.toNat * 2 ^ 24, s)
  else if 0x044 ≤ p ∧ p ≤ 0x047 then (false, k.scArg.getD (p - 0x044) 0, s)
  else if p = 0x048 then
    (false, (if k.scBusy then ccBusy else k.scCode) * 2 ^ 24, s.updCore c (fun k => { k with scNew := false }))
  else if p = 0x054 then
    let (bad, s) := s.memReadBytes arrDram (0x10000000 + 2048 * n + 4 * (k.rangeIdx % 512)) 4
    (bad, s.rangeWord n k.rangeIdx,
      if bad then s else s.updCore c (fun k => { k with rangeIdx := (k.rangeIdx + 1) % 2 ^ 11 }))
  else if 0x080 ≤ p ∧ p ≤ 0x0BF then
    let (bad, s) := s.memReadBytes 0x30 (256 * n + 4 * (p - 0x080)) 4
    (bad, s.ctxWord n (p - 0x080), s)
  else if 0x0C0 ≤ p ∧ p ≤ 0x0DF then (false, leAt (s.aux n).record (4 * (p - 0x0C0)) 4, s)
  else (false, 0, s)

/-- Ports that read 0 and ignore writes while the core is unbound (R468). -/
def boundPort (p : Nat) : Bool :=
  (decide (0x040 ≤ p) && decide (p ≤ 0x048)) || p == 0x054 || (decide (0x080 ≤ p) && decide (p ≤ 0x0DF))

/-- A device port of the core itself. -/
def State.ownRead (s : State) (c p : Nat) : Nat × State :=
  let k := s.core c
  match p with
  | 0x049 => ((k.timerAt.map (fun e => (e - s.now + usT 1 - 1) / usT 1)).getD 0, s)
  | 0x04A => (k.mboxIn, s.updCore c (fun k => { k with mboxNew := false }))
  | 0x04B => (k.mboxOut, s)
  | 0x04D => (k.keyResult, s)
  | 0x050 => (k.envResult, s)
  | 0x051 => (k.regAddr, s)
  | 0x052 => s.regRead (4 + c) (bit k.regAddr 23) (k.regAddr % 2 ^ 23)
  | 0x053 => (k.rangeIdx, s)
  | _ => (0, s)

/-- A read of a port: whether it delivers poison, its value, and the state after. -/
def State.portIn (s : State) (c p : Nat) : Bool × Nat × State :=
  if p < 0x040 then (false, s.archRead c p)
  else if boundPort p then
    match s.bound c with
    | some (n, _) => s.sesRead c n p
    | none => (false, 0, s)
  else (false, s.ownRead c p)

/-! ## Session calls and requests (R466, R467, R470) -/

/-- A write of SC_VERB; one made while SC_RESULT reads BUSY is ignored. -/
def State.scVerb (s : State) (c w : Nat) : State :=
  let k := s.core c
  let code := bits w 15 8
  let arg := k.scArg.getD 3 0
  if k.scBusy then s
  else
    match w % 16 with
    | 1 => s.scGrant c
    | 2 => s.scRefuse c code
    | 3 => s.scCancel c code
    | 4 =>
      let (bad, s) := if oneBank arg 128 then s.dataRead c arg 128 else (false, s)
      if bad then s.poisonUse.scStart c (fun _ _ s => s.scDone c ccPoisoned)
      else s.scEnrol c (oneBank arg 128) (k.bytesAt arg 128)
    | 5 => s.scRevoke c (arg % 2 ^ 24)
    | _ => s.scStart c (fun _ _ s => s.scDone c ccDenied)

/-- A write of ENV_ADDR: the Dome copies the envelope; its length is 48 bytes and LEN of its header. -/
def State.envAddr (s : State) (c a : Nat) : State :=
  let k := s.core c
  let n := 48 + k.load (a + 6) 1 + k.load (a + 7) 1 * 256
  let s := s.bump AST_CNT_ENV.COUNT
  if !oneBank a 48 || !oneBank a n then
    s.envRefuse { port := 4 + c, bytes := if oneBank a 48 then k.bytesAt a 48 else [] } ccEnvelopeBad 1
  else
    let (bad, s) := s.dataRead c a n
    if bad then s.poisonUse.envResult (4 + c) 0 ccPoisoned 0 else s.envQueue (4 + c) (k.bytesAt a n)

/-- A write of TIMER. -/
def State.timerSet (s : State) (c v : Nat) : State :=
  let us := v % 65536
  s.updCore c (fun k => { k with timerAt := if us = 0 then none else some (s.now + usT us), timerDone := false })

/-! ## Writes -/

def State.archWrite (s : State) (c p v : Nat) : State :=
  s.updCore c (fun k =>
    match p with
    | 0x002 => { k with psw := k.psw - k.psw % 2 ^ 10 + (v % 2 ^ 10 - bits v 7 7 * 2 ^ 7) }
    | 0x003 => { k with vbase := v % 2 ^ 16 / 128 * 128 }
    | 0x004 => { k with stklo := v % 2 ^ 16 / 4 * 4 }
    | 0x005 => { k with stkhi := min 0x10000 (v % 2 ^ 17 / 4 * 4) }
    | 0x006 => { k with imask := v % 2 ^ 8 }
    | _ => k)

/-- A port of the bound session. -/
def State.sesWrite (s : State) (c n p v : Nat) : State :=
  if p = 0x043 then s.scVerb c v
  else if 0x044 ≤ p ∧ p ≤ 0x047 then s.updCore c (fun k => { k with scArg := k.scArg.set (p - 0x044) v })
  else if 0x0A8 ≤ p ∧ p ≤ 0x0BF then
    let i := 4 * (p - 0x0A8)
    (s.memWriteBytes 0x30 (256 * n + 160 + i) 4).updCtx n (fun x =>
      { x with script := (padTo x.script 96).take i ++ leBytes 4 v ++ (padTo x.script 96).drop (i + 4) })
  else s

def State.ownWrite (s : State) (c p v : Nat) : State :=
  match p with
  | 0x049 => s.timerSet c v
  | 0x04B => (s.updCore c (fun k => { k with mboxOut := v })).wr AST_MBOX_OUT.OUT v c
  | 0x04C => s.keygenPort c (bit v 31) (bit v 30) (v % 2 ^ 16)
  | 0x04E => s.keydelPort c (v % 8)
  | 0x04F => s.envAddr c v
  | 0x051 => s.updCore c (fun k => { k with regAddr := v % 2 ^ 24 / 4 * 4 })
  | 0x052 => s.regWrite (4 + c) (bit (s.core c).regAddr 23) ((s.core c).regAddr % 2 ^ 23) 4 v
  | 0x053 => s.updCore c (fun k => { k with rangeIdx := v % 2 ^ 11 })
  | _ => s

/-- A write of a port. -/
def State.portOut (s : State) (c p v : Nat) : State :=
  if p < 0x040 then s.archWrite c p v
  else if boundPort p then
    match s.bound c with
    | some (n, _) => s.sesWrite c n p v
    | none => s
  else s.ownWrite c p v

/-! ## IN and OUT (R440) -/

/-- The port number; ILLEGAL with ABS and an ra field that is not 0 is the instruction's. -/
def State.portNo (s : State) (c ra : Nat) (abs : Bool) (imm : Nat) : Nat :=
  if abs then imm % 2 ^ 12 else (s.gr c ra + imm % 2 ^ 12) % 2 ^ 32

def opIn (c rd ra : Nat) (abs : Bool) (imm : Nat) (s : State) : CoreRes :=
  let p := s.portNo c ra abs imm
  if abs && ra % 16 != 0 then s.illegal
  else if 0xFFF < p then .exc s exIoaddr 0 p
  else
    let (bad, v, s') := s.portIn c p
    if bad then .exc s' exPoison 2 p else .done (s'.setGr c rd v)

def opOut (c rd ra : Nat) (abs : Bool) (imm : Nat) (s : State) : CoreRes :=
  let p := s.portNo c ra abs imm
  if abs && ra % 16 != 0 then s.illegal
  else if 0xFFF < p then .exc s exIoaddr 0 p
  else .done (s.portOut c p (s.gr c rd))

def execInPort (t core rd ra : Nat) (abs : Bool) (imm : Nat) (s : State) : Answer :=
  coreRow t core (encP 0x1C rd ra abs imm) true (opIn core rd ra abs imm) s

def execOutPort (t core rd ra : Nat) (abs : Bool) (imm : Nat) (s : State) : Answer :=
  coreRow t core (encP 0x1D rd ra abs imm) true (opOut core rd ra abs imm) s

/-! ## Rows that are one port's effect -/

/-- A read of a port whose value the core gets. -/
def State.portSeen (s : State) (c p : Nat) : State :=
  let (bad, v, s') := s.portIn c p
  if bad then s' else s'.answerWord (4 + c) v

def execTimerWrite (t core v : Nat) (s : State) : Answer := happen t s (fun s =>
  if core < 16 then s.timerSet core v else s)

/-- TIMER_EXPIRED: line 0 is asserted. -/
def execTimerExpired (t core : Nat) (s : State) : Answer := happen t s (fun s =>
  match (s.core core).timerAt with
  | some e => if core < 16 ∧ e ≤ s.now then s.updCore core (fun k => { k with timerAt := none, timerDone := true }) else s
  | none => s)

def execMboxInRead (t core : Nat) (s : State) : Answer := happen t s (fun s =>
  if core < 16 then s.portSeen core 0x04A else s)

def execEnvAddr (t core a : Nat) (s : State) : Answer := happen t s (fun s =>
  if core < 16 then s.envAddr core (a % 2 ^ 32) else s)

def execRegData (t core : Nat) (write : Bool) (v : Nat) (s : State) : Answer := happen t s (fun s =>
  if 16 ≤ core then s else if write then s.portOut core 0x052 (v % 2 ^ 32) else s.portSeen core 0x052)

def execRangeData (t core : Nat) (s : State) : Answer := happen t s (fun s =>
  if core < 16 then s.portSeen core 0x054 else s)

end Sys2Proof.Machine
end

