-- ==== Sys2Proof/Machine/AstCtl.lean ====
section
/-! DEFINITION. Control instructions, SYS, REP and interrupts (R442–R445, R457, R459, R465, R477). -/

namespace Sys2Proof.Machine

/-! ## Jumps (R442) -/

/-- A target, relative to PC by words. -/
def State.relTarget (s : State) (c w imm : Nat) : Nat := ofSigned 32 (((s.core c).pc : Int) + 4 * toSigned w imm)

/-- A jump with what it writes; a target that is not an instruction's address raises IADDR. -/
def State.jumpTo (s : State) (target : Nat) (f : State → State) : CoreRes :=
  if target % 4 ≠ 0 ∨ 0xFFFC < target then .exc s exIaddr 1 target else .goto (f s) target

/-- g15 takes the return address. -/
def State.link (s : State) (c : Nat) : State := s.setGr c 15 ((s.core c).pc + 4)

def opBcond (c cond imm : Nat) (s : State) : CoreRes :=
  if (s.core c).cond cond then s.jumpTo (s.relTarget c 22 imm) id else .done s

def opJmp (c imm : Nat) (s : State) : CoreRes := s.jumpTo (s.relTarget c 26 imm) id

def opCall (c imm : Nat) (s : State) : CoreRes := s.jumpTo (s.relTarget c 26 imm) (fun s => s.link c)

def opJr (c ra : Nat) (s : State) : CoreRes := s.jumpTo (s.gr c ra) id

def opCallr (c ra : Nat) (s : State) : CoreRes := s.jumpTo (s.gr c ra) (fun s => s.link c)

def execBCond (t core cond imm : Nat) (s : State) : Answer :=
  coreRow t core (encM 0x20 cond imm) false (opBcond core cond imm) s
def execJmp (t core imm : Nat) (s : State) : Answer := coreRow t core (encJ 0x21 imm) false (opJmp core imm) s
def execCall (t core imm : Nat) (s : State) : Answer := coreRow t core (encJ 0x22 imm) false (opCall core imm) s
def execJr (t core ra : Nat) (s : State) : Answer := coreRow t core (encR 0x23 0x00 0 ra 0 0) false (opJr core ra) s
def execCallr (t core ra : Nat) (s : State) : Answer := coreRow t core (encR 0x23 0x01 0 ra 0 0) false (opCallr core ra) s

/-! ## YIELD (R465) -/

/-- The step ends: its requests are cancelled and the core is unbound and IDLE. -/
def State.yieldStep (s : State) (c : Nat) : State :=
  let s := s.wr AST_CORE_LAST.VERB (min 255 (s.gr c 0)) c
  ((s.stepEnds c).coreUnbind c).coreIdle c

/-- DONE: without a GRANT or REFUSE the session ends ABORTED with DENIED. -/
def State.yieldDone (s : State) (c : Nat) : State :=
  let n := s.rd AST_CORE_STAT.SESSION c
  let gen := s.rd AST_CORE_SCRIPT.GEN c
  let s := (s.bump AST_CNT_DONE.COUNT).yieldStep c
  if s.live n gen ∧ (s.ctx n).state = ssDecide ∧ (s.ctx n).dec = 0 then s.abort n ccDenied else s

/-- AGAIN: the step is queued again (R279). -/
def State.yieldAgain (s : State) (c : Nat) : State :=
  let n := s.rd AST_CORE_STAT.SESSION c
  let gen := s.rd AST_CORE_SCRIPT.GEN c
  let s := (s.bump AST_CNT_AGAIN.COUNT).yieldStep c
  if s.live n gen ∧ (s.ctx n).state = ssDecide then
    let s := s.updAux n (fun x => { x with again := true })
    let s := { s with ses := { s.ses with ready := s.ses.ready ++ [n] } }
    s.wr SES_CORE_STAT.READY (min 0xFFFF s.ses.ready.length)
  else s

def opYield (c : Nat) (s : State) : CoreRes := .hold (if s.gr c 0 = 1 then s.yieldAgain c else s.yieldDone c)

/-- DONE and AGAIN share an encoding: g0 tells them apart. -/
def execDoneStep (t core : Nat) (s : State) : Answer :=
  if s.gr core 0 = 1 then happen t s id else coreRow t core (encR 0x24 0x01 0 0 0 0) false (opYield core) s

def execAgain (t core : Nat) (s : State) : Answer :=
  if s.gr core 0 = 1 then coreRow t core (encR 0x24 0x01 0 0 0 0) false (opYield core) s else happen t s id

/-! ## The rest of SYS (R444, R459, R477) -/

/-- Lines asserted and enabled. -/
def Core.lines (k : Core) : Nat := Nat.land k.ipend k.imask

/-- WFI: it completes once a line is asserted and enabled, and waits until then. -/
def opWfi (c : Nat) (s : State) : CoreRes :=
  if (s.core c).lines ≠ 0 then .done s else .hold (s.updCore c (fun k => { k with waiting := true }))

/-- The PSW without its reserved bits, which are 0. -/
def pswKept (v : Nat) : Nat := setBit (setBit (v % 2 ^ 24) 7 false) 11 false

/-- RETE (R459). -/
def opRete (c : Nat) (s : State) : CoreRes :=
  let k := s.core c
  let g := k.reg 14
  if !k.window g (g + 16) then .exc s exDaddr 1 g
  else
    let (bad, s) := s.dataRead c g 16
    if bad then .exc s exPoison 5 g
    else .hold (s.updCore c (fun k => { (k.setReg 14 (g + 16)) with psw := pswKept (k.dataWord (g + 4)), pc := k.dataWord g }))

/-- BRK: debug halt while DEBUG_EN is 1. -/
def opBrk (c : Nat) (s : State) : CoreRes :=
  if s.on AST_CORE_CTL.DEBUG_EN c then
    let n := s.rd AST_CORE_STAT.SESSION c
    let s := s.updCore c (fun k => { k with pc := k.pc + 4, haltFrom := some s.now })
    .hold (((s.coreTo c csDebug).irq AST_IRQ_STAT.DEBUG).astEvent 4 c 0 n)
  else .exc s exBrk 0 0

/-- A row of SYS. -/
def sysRow (t c fn imm8 : Nat) (op : State → CoreRes) (s : State) : Answer := coreRow t c (encR 0x24 fn 0 0 0 imm8) false op s

def execNop (t core : Nat) (s : State) : Answer := sysRow t core 0x00 0 .done s
def execWfi (t core : Nat) (s : State) : Answer := sysRow t core 0x02 0 (opWfi core) s
def execRete (t core : Nat) (s : State) : Answer := sysRow t core 0x03 0 (opRete core) s
def execTrap (t core imm8 : Nat) (s : State) : Answer := sysRow t core 0x04 imm8 (fun s => .exc s exTrap (imm8 % 256) 0) s
def execBrk (t core : Nat) (s : State) : Answer := sysRow t core 0x05 0 (opBrk core) s

/-- FENCE: accesses take effect in program order in this model (R441). -/
def execFence (t core : Nat) (s : State) : Answer := sysRow t core 0x06 0 .done s

/-! ## REP (R445) -/

/-- REP's imm18. -/
def repImm (form : Bool) (count : Nat) : Nat := form.toNat * 2 ^ 17 + count % 2 ^ 12

def opRep (c ra imm : Nat) (s : State) : CoreRes :=
  let form := bit imm 17
  let count := if form then s.gr c ra else imm % 2 ^ 12
  if bits imm 16 12 ≠ 0 ∨ (!form && ra % 16 != 0) then s.illegal
  else if form && decide (4095 < count) then .exc s exIllegal 1 0
  else if count = 0 then .goto s ((s.core c).pc + 8)
  else .goto (s.updCore c (fun k => k.setRep true count)) ((s.core c).pc + 4)

/-- REP; with FORM 1 the COUNT field is not used. -/
def execRep (t core : Nat) (form : Bool) (ra count : Nat) (s : State) : Answer :=
  coreRow t core (encI 0x25 0 ra (repImm form count)) false (opRep core ra (repImm form count)) s

/-! ## Interrupts (R457) -/

/-- INTERRUPT: the lowest line asserted and enabled is taken between instructions. In WFI the EPC is the instruction
after it. -/
def execInterrupt (t core : Nat) (s : State) : Answer := happen t s (fun s =>
  let k := s.core core
  if !s.coreSteps core || !k.flag pbIE then s
  else
    match (List.range 8).find? (fun i => bit k.lines i) with
    | none => s
    | some i => s.coreEnter core (exIrq + i) 0 (if k.waiting then k.pc + 4 else k.pc) 0)

end Sys2Proof.Machine
end

