-- ==== Sys2Proof/Machine/AstCp.lean ====
section
/-! DEFINITION. Coprocessors (R450–R453, R472, R473): WAIT, POLL, CANCEL, the issues, and completions. -/

namespace Sys2Proof.Machine

/-! ## Words (R451) -/

/-- An issue or completion word. -/
def cpWord (code detail tag : Nat) : Nat := code % 256 * 2 ^ 24 + detail % 256 * 2 ^ 16 + tag % 2 ^ 16

/-- rd takes a word, and Z says whether its CODE is OK. -/
def State.putCp (s : State) (c rd w : Nat) : CoreRes :=
  .done (s.updCore c (fun k => (k.setReg rd w).setFlags [(pbZ, w / 2 ^ 24 == ccOk)]))

/-- A coprocessor of a core changes. -/
def State.updCp (s : State) (c n : Nat) (f : CpS → CpS) : State :=
  s.updCore c (fun k => k.setCp n (f (k.cp n)))

/-- A tag names the outstanding request. -/
def CpS.isOut (x : CpS) (tag : Nat) : Bool := (x.out.map (fun q => q.tag == tag)).getD false

/-- A tag names the last request completed. -/
def CpS.isLast (x : CpS) (tag : Nat) : Bool := (x.last.map (fun w => w % 2 ^ 16 == tag)).getD false

/-- A completion word is read by WAIT or POLL, and line 2 falls for it (R471). -/
def State.cpSeen (s : State) (c n rd : Nat) : CoreRes :=
  let w := ((s.core c).cp n).last.getD 0
  (s.updCp c n (fun x => { x with unread := false })).putCp c rd w

/-- A tag that is neither outstanding nor the last one completed. -/
def State.cpUnknown (s : State) (c rd tag : Nat) : CoreRes := s.putCp c rd (cpWord ccDenied 0xFF tag)

/-! ## WAIT, POLL, CANCEL (R450, R452) -/

def opWait (c n rd ra : Nat) (s : State) : CoreRes :=
  let x := (s.core c).cp n
  let tag := s.gr c ra % 2 ^ 16
  if x.isOut tag then .hold s else if x.isLast tag then s.cpSeen c n rd else s.cpUnknown c rd tag

def opPoll (c n rd ra : Nat) (s : State) : CoreRes :=
  let x := (s.core c).cp n
  let tag := s.gr c ra % 2 ^ 16
  if x.isOut tag then s.putCp c rd (cpWord ccBusy 0 tag) else if x.isLast tag then s.cpSeen c n rd else s.cpUnknown c rd tag

/-- An outstanding request leaves the unit that holds it. -/
def State.cpWithdraw (s : State) (c n : Nat) : State :=
  let mineK := fun (r : KceReq) => match r.dest with
    | .core k _ => k == c
    | _ => false
  let mineA := fun (q : SolveReq) => match q.dest with
    | .core k _ => k == c
    | _ => false
  let s := if n = 0 then s.cp0Free c
    else if n = 1 then
      { s with kce := { s.kce with offered := s.kce.offered.filter (fun r => !mineK r)
                                   queue := s.kce.queue.filter (fun r => !mineK r)
                                   ctxs := s.kce.ctxs.filter (fun r => !mineK r) } }.kceStat
    else if n = 2 then { s with alm := { s.alm with cp2 := s.alm.cp2.filter (fun q => !mineA q) } }.almStat
    else s
  s.updCp c n (fun x => { x with out := none, done := none })

def opCpCancel (c n rd ra : Nat) (s : State) : CoreRes :=
  let x := (s.core c).cp n
  let tag := s.gr c ra % 2 ^ 16
  if x.isOut tag then
    let w := cpWord ccCancelled 0 tag
    let s := (s.cpWithdraw c n).bump AST_CNT_CP_CANCEL.COUNT
    (s.updCp c n (fun x => { x with last := some w, unread := false })).putCp c rd w
  else if x.isLast tag then s.cpSeen c n rd
  else s.cpUnknown c rd tag

/-- A coprocessor that is not present raises COPROC (R453). -/
def cpOr (n : Nat) (op : State → CoreRes) (s : State) : CoreRes :=
  if 4 ≤ n % 8 then .exc s exCoproc (n % 8) 0 else op s

def execWait (t core cp rd ra : Nat) (s : State) : Answer :=
  coreRow t core (encC cp rd ra 0 0x0000) false (cpOr cp (opWait core (cp % 8) rd ra)) s
def execPoll (t core cp rd ra : Nat) (s : State) : Answer :=
  coreRow t core (encC cp rd ra 0 0x0001) false (cpOr cp (opPoll core (cp % 8) rd ra)) s
def execCpCancel (t core cp rd ra : Nat) (s : State) : Answer :=
  coreRow t core (encC cp rd ra 0 0x0002) false (cpOr cp (opCpCancel core (cp % 8) rd ra)) s

/-! ## Issue (R450, R451, R472) -/

/-- The tag of the next issue. -/
def CpS.nextTag (x : CpS) (n : Nat) : Nat := n * 2 ^ 13 + x.seq % 2 ^ 13

/-- Counters of accepted issues. -/
def cpCnt (n : Nat) : Fld :=
  if n = 0 then AST_CNT_CP0.COUNT else if n = 1 then AST_CNT_CP1.COUNT else if n = 2 then AST_CNT_CP2.COUNT
  else AST_CNT_CP3.COUNT

/-- An issue is accepted: the request is outstanding, and the last completion word is no longer readable. -/
def State.cpAccept (s : State) (c n func : Nat) (block : List Byte) (result : Nat) : State :=
  let s := (s.bump (cpCnt n)).bump AST_CORE_CNT_CP.COUNT c
  s.updCp c n (fun x =>
    let q : CpReq := { tag := x.nextTag n, func := func, block := block, result := result, since := s.now }
    { x with out := some q, last := none, unread := false, seq := (x.seq + 1) % 2 ^ 13, done := none })

/-- A request completes at once. -/
def State.cpAtOnce (s : State) (c n code : Nat) : State :=
  let tag := ((((s.core c).cp n).out).map (·.tag)).getD 0
  s.updCp c n (fun x => { x with out := none, last := some (cpWord code 0 tag), unread := true })

/-- An issue: none while one is outstanding, or while the unit's own queue is full; the blocks are checked, the request
block is copied, and `start` hands it to its unit. A block of length 0 is none. -/
def State.cpIssue (s : State) (c n rd func ra rb blen rlen : Nat) (full : Bool) (bad : List Byte → Bool)
    (start : List Byte → Nat → State → State) : CoreRes :=
  let a := s.gr c ra
  let r := s.gr c rb
  let x := (s.core c).cp n
  let blockBad := fun (p len : Nat) => len != 0 && (p % 4 != 0 || !dataRange p len)
  if x.out.isSome ∨ full then (s.bump AST_CNT_CP_BUSY.COUNT).putCp c rd (cpWord ccBusy 0 0)
  else if blockBad a blen then .exc s exDaddr 3 a
  else if r ≠ 0 ∧ blockBad r rlen then .exc s exDaddr 3 r
  else
    let tag := x.nextTag n
    let block := (s.core c).bytesAt a blen
    let (poison, s) := s.dataRead c a blen
    let s := s.cpAccept c n func block r
    let s := if poison then s.poisonUse.cpAtOnce c n ccPoisoned
      else if bad block then s.cpAtOnce c n ccDenied
      else start block tag s
    s.putCp c rd (cpWord ccOk 0 tag)

/-- A function that the coprocessor does not define completes at once with DENIED. -/
def opCpOther (c n rd ra rb func : Nat) (s : State) : CoreRes :=
  s.cpIssue c n rd func ra rb 0 0 false (fun _ => true) (fun _ _ s => s)

/-! ## CP0: Transit (R473) -/

/-- Transit takes a transceiver for a core's frame, when it can be granted, and brings it to SYNTH. -/
def State.cp0Take (s : State) (t : Nat) : State :=
  let s := if s.owner t = owTrn then s else s.grantTrx t owTrn
  if s.owner t = owTrn ∧ (s.exch t).isNone ∧ s.trxState t ≠ rsSynth then s.toSynth t else s

/-- A transceiver of this device, and a bound session. -/
def State.cp0Bad (s : State) (c : Nat) (b : List Byte) : Bool :=
  (s.bound c).isNone || decide (16 ≤ leAt b 0 1)

def opDataTx (c rd ra rb : Nat) (s : State) : CoreRes :=
  s.cpIssue c 0 rd 0x0100 ra rb 132 0 false
    (fun b => s.cp0Bad c b || leAt b 1 1 == 0 || decide (127 < leAt b 1 1) || leAt b 2 2 != 0 || s.gr c rb != 0)
    (fun b _ s => s.cp0Take (leAt b 0 1))

def opDataRx (c rd ra rb : Nat) (s : State) : CoreRes :=
  s.cpIssue c 0 rd 0x0101 ra rb 4 144 false
    (fun b => s.cp0Bad c b || leAt b 1 1 != 0 || leAt b 2 2 == 0)
    (fun b _ s => s.cp0Take (leAt b 0 1))

/-! ## CP1: the check engine (R473) -/

/-- COMPUTE or VERIFY: the key of a generated-key slot made by the script now bound. -/
def State.cp1Start (s : State) (c : Nat) (verify : Bool) (b : List Byte) (tag : Nat) : State :=
  let slot := leAt b 0 1
  let tlen := leAt b 2 1
  let a := leAt b 4 4
  let n := leAt b 8 2
  match SMap.find s.dom.gkeys slot with
  | none => s.cpAtOnce c 1 ccDenied
  | some g =>
    if g.script ≠ s.rd AST_CORE_SCRIPT.SCRIPT c ∨ (s.bound c).isNone ∨ !oneBank a n then s.cpAtOnce c 1 ccDenied
    else
      let msg := (s.core c).bytesAt a n
      let (poison, s) := s.dataRead c a n
      if poison then s.poisonUse.cpAtOnce c 1 ccPoisoned
      else
        let r : KceReq := { lane := 7, level := min 2 (leAt b 1 1), arrival := s.now, aged := s.now, verify := verify
                            cls := kGEN, key := g.key, msg := msg, expect := (b.drop 16).take (if verify then tlen else 16)
                            dest := .core c tag, gslot := slot, left := kceBlocks msg }
        { s with kce := { s.kce with offered := s.kce.offered ++ [r] } }

/-- Fields of the block out of their ranges. -/
def cp1Bad (verify : Bool) (b : List Byte) : Bool :=
  let tlen := leAt b 2 1
  decide (8 ≤ leAt b 0 1) || decide (3 < leAt b 1 1) || decide (8192 < leAt b 8 2) || leAt b 3 1 != 0 ||
    leAt b 10 6 != 0 || (verify && (decide (tlen < 4) || decide (16 < tlen)))

def opCompute (c rd ra rb : Nat) (s : State) : CoreRes :=
  s.cpIssue c 1 rd 0x0100 ra rb 32 16 false (cp1Bad false) (fun b tag s => s.cp1Start c false b tag)

def opVerify (c rd ra rb : Nat) (s : State) : CoreRes :=
  s.cpIssue c 1 rd 0x0101 ra rb 32 0 false (cp1Bad true) (fun b tag s => s.cp1Start c true b tag)

/-! ## CP2: Almucantar (R252, R473) -/

/-- A solve is queued behind every session's. -/
def State.cp2Start (s : State) (c : Nat) (b : List Byte) (tag : Nat) : State :=
  let q : SolveReq := { dest := .core c tag, zone := leAt b 1 1, inputs := rangeEnts (leAt b 0 1) (b.drop 8), ignored := 0
                        poisoned := false, since := s.now, tableSeq := s.rd ALM_TABLE_STAT.SEQ }
  { s with alm := { s.alm with cp2 := s.alm.cp2 ++ [q] } }.almStat

def cp2Bad (b : List Byte) : Bool :=
  decide (leAt b 0 1 < 4) || decide (128 < leAt b 0 1) || (decide (32 ≤ leAt b 1 1) && leAt b 1 1 != 0xFF) || leAt b 2 6 != 0

/-- SOLVE: its block's length follows from N, its first byte. -/
def opSolve (c rd ra rb : Nat) (s : State) : CoreRes :=
  let a := s.gr c ra
  let n := if dataRange a 1 then (s.core c).load a 1 else 0
  s.cpIssue c 2 rd 0x0100 ra rb (8 + 16 * min n 128) 64 (decide (8 ≤ s.alm.cp2.length)) cp2Bad
    (fun b tag s => s.cp2Start c b tag)

/-! ## CP3: the RNG (R473) -/

/-- Instance 8 generates, when it can. -/
def State.cp3Try (s : State) (c : Nat) : State :=
  match ((s.core c).cp 3).out with
  | none => s
  | some q =>
    let n := leAt q.block 0 2
    if s.rngBad then s.cpDone c 3 q.tag ccRngHealth 0 []
    else
      match s.rngTake 8 (n / 4) with
      | some (w, s) => s.cpDone c 3 q.tag ccOk 0 (leBytes n w)
      | none => s

def cp3Bad (b : List Byte) : Bool :=
  let n := leAt b 0 2
  decide (n < 4) || decide (256 < n) || n % 4 != 0 || leAt b 2 2 != 0

/-- GET: its result area's length is LEN. -/
def opGet (c rd ra rb : Nat) (s : State) : CoreRes :=
  let a := s.gr c ra
  let n := if dataRange a 2 then (s.core c).load a 1 + (s.core c).load (a + 1) 1 * 256 else 0
  s.cpIssue c 3 rd 0x0100 ra rb 4 (min n 256) false cp3Bad (fun _ _ s => s.cp3Try c)

/-! ## The rows -/

/-- A row of an issue; `other` is a function that the coprocessor does not define. -/
def issueRow (t c n rd ra rb func : Nat) (op : State → CoreRes) (s : State) : Answer :=
  coreRow t c (encC n rd ra rb func) false op s

/-- The functions of R472. -/
def cpDefines (n func : Nat) : Bool := func == 0x0100 || (func == 0x0101 && decide (n ≤ 1))

/-- An undefined function of the issue range acts as one, and any other operand as the row's own function. -/
def issueFunc (n func : Nat) : Nat :=
  if 0x0100 ≤ func ∧ func ≤ 0x3FFF ∧ !cpDefines n func then func else 0x0100

def execDataTx (t core rd ra rb func : Nat) (s : State) : Answer :=
  let f := issueFunc 0 func
  issueRow t core 0 rd ra rb f (if f = 0x0100 then opDataTx core rd ra rb else opCpOther core 0 rd ra rb f) s
def execDataRx (t core rd ra rb : Nat) (s : State) : Answer :=
  issueRow t core 0 rd ra rb 0x0101 (opDataRx core rd ra rb) s
def execCompute (t core rd ra rb func : Nat) (s : State) : Answer :=
  let f := issueFunc 1 func
  issueRow t core 1 rd ra rb f (if f = 0x0100 then opCompute core rd ra rb else opCpOther core 1 rd ra rb f) s
def execVerify (t core rd ra rb : Nat) (s : State) : Answer :=
  issueRow t core 1 rd ra rb 0x0101 (opVerify core rd ra rb) s
def execSolve (t core rd ra rb func : Nat) (s : State) : Answer :=
  let f := issueFunc 2 func
  issueRow t core 2 rd ra rb f (if f = 0x0100 then opSolve core rd ra rb else opCpOther core 2 rd ra rb f) s
def execGet (t core rd ra rb func : Nat) (s : State) : Answer :=
  let f := issueFunc 3 func
  issueRow t core 3 rd ra rb f (if f = 0x0100 then opGet core rd ra rb else opCpOther core 3 rd ra rb f) s

/-! ## Completion (R450) -/

/-- A completion becomes visible: the result area is written first. -/
def State.cpShow (s : State) (c n : Nat) (q : CpReq) (code detail : Nat) (data : List Byte) : State :=
  let s := if q.result ≠ 0 ∧ code = ccOk then s.storeBytes c q.result data else s
  s.updCp c n (fun x => { x with out := none, done := none, last := some (cpWord code detail q.tag), unread := true })

/-- A core's DATA frame: admitted under R159 and counted; a refusal completes with its code. -/
def State.cp0Send (s : State) (t : Nat) (q : CpReq) : Nat × State :=
  let r : RadReq := { owner := owTrn, target := rsTransmit, ch9 := s.rd TRN_PHY_CFG.CH9
                      step := s.rd TRN_PHY_CFG.TX_STEP, air := s.trnAir (leAt q.block 1 1) }
  let code := s.radCode t r
  let b := (s.bandOf t r).getD 0
  if code ≠ ccOk then (code, s.radRefuse t b (s.radLocks t r).1 code)
  else (ccOk, ((s.ledAdd t b r.air).bump RAD_TRX_CNT_TX.COUNT t).send ((q.block.drop 4).take (leAt q.block 1 1)))

/-- The end of a CP0 request, once its transceiver is in SYNTH under Transit; none before. -/
def State.cp0End (s : State) (c : Nat) (q : CpReq) (code detail : Nat) (data : List Byte) : Option State :=
  let t := leAt q.block 0 1
  let s := (s.cp0Take t).settle t 4
  if s.owner t ≠ owTrn ∨ (s.exch t).isSome ∨ s.trxState t ≠ rsSynth then none
  else
    let (sent, s) := if q.func = 0x0100 then s.cp0Send t q else (ccOk, s)
    let code := if sent ≠ ccOk then sent else code
    some ((s.cp0Free c).cpShow c 0 q code (if sent ≠ ccOk then 0 else detail) (padTo data 144))

/-- CP_COMPLETION: the outstanding request of a core's coprocessor completes. Of CP0, the command says how the frame
went. -/
def execCpCompletion (t core cp code detail : Nat) (data : List (BitVec 8)) (s : State) : Answer := happen t s (fun s =>
  if 16 ≤ core ∨ 4 ≤ cp then s
  else
    let s := if cp = 3 ∧ ((s.core core).cp 3).done.isNone then s.cp3Try core else s
    match ((s.core core).cp cp).out, ((s.core core).cp cp).done with
    | none, _ => s
    | some q, some (code, detail, data) => s.cpShow core cp q code detail data
    | some q, none => if cp = 0 then (s.cp0End core q (code % 256) (detail % 256) data).getD s else s)

end Sys2Proof.Machine
end

