-- ==== Sys2Proof/Machine/AstRun.lean ====
section
/-! DEFINITION. An instruction from its word (R430–R434, R438–R450, R461): the monitor's STEP runs one, and the rows
ILLEGAL and COPROC are the words that raise those exceptions. -/

namespace Sys2Proof.Machine

/-! ## Fields (R430) -/

def wMajor (w : Nat) : Nat := bits w 31 26
def wRd (w : Nat) : Nat := bits w 25 22
def wRa (w : Nat) : Nat := bits w 21 18
def wRb (w : Nat) : Nat := bits w 17 14
def wFn (w : Nat) : Nat := bits w 5 0

/-- An instruction whose unused fields must be 0. -/
def withZero (unused : Nat) (op : State → CoreRes) (s : State) : CoreRes := if unused ≠ 0 then s.illegal else op s

/-- The ALU group. -/
def aluWord (c w : Nat) : State → CoreRes :=
  let rd := wRd w
  let ra := wRa w
  let rb := wRb w
  let three := fun (f : Nat → Nat → AluOut) => opRrr f c rd ra rb
  let two := fun (f : Nat → AluOut) => withZero rb (opRr f c rd ra)
  withZero (bits w 13 6) (match wFn w with
    | 0x00 => three addF
    | 0x01 => opCarry addOut c rd ra rb
    | 0x02 => three subF
    | 0x03 => opCarry subOut c rd ra rb
    | 0x04 => two negF
    | 0x05 => withZero rd (opCmp subF c ra rb)
    | 0x06 => three andF
    | 0x07 => three orF
    | 0x08 => three xorF
    | 0x09 => three andnF
    | 0x0A => two notF
    | 0x0B => two movF
    | 0x0C => three shlOut
    | 0x0D => three shrOut
    | 0x0E => three sarOut
    | 0x0F => three rorOut
    | 0x10 => three mulOut
    | 0x11 => three mulhOut
    | 0x12 => three mulhuOut
    | 0x13 => opDiv divsOut c rd ra rb
    | 0x14 => opDiv divuOut c rd ra rb
    | 0x15 => opDiv remsOut c rd ra rb
    | 0x16 => opDiv remuOut c rd ra rb
    | 0x17 => three minF
    | 0x18 => three maxF
    | 0x19 => three minuF
    | 0x1A => three maxuF
    | 0x1B => two absOut
    | 0x1C => two clzF
    | 0x1D => two sextbF
    | 0x1E => two sexthF
    | 0x1F => two zextbF
    | 0x20 => two zexthF
    | 0x21 => two bswapF
    | 0x22 => withZero rd (opCmp andF c ra rb)
    | _ => State.illegal)

/-- SYS. -/
def sysWord (c w : Nat) : State → CoreRes :=
  let imm8 := bits w 13 6
  withZero (bits w 25 14) (match wFn w with
    | 0x00 => withZero imm8 .done
    | 0x01 => withZero imm8 (opYield c)
    | 0x02 => withZero imm8 (opWfi c)
    | 0x03 => withZero imm8 (opRete c)
    | 0x04 => fun s => .exc s exTrap imm8 0
    | 0x05 => withZero imm8 (opBrk c)
    | 0x06 => withZero imm8 .done
    | _ => State.illegal)

/-- The accumulator group. -/
def accWord (c w : Nat) : State → CoreRes :=
  let rd := wRd w
  let ra := wRa w
  let rb := wRb w
  let acc := bit w 13
  let opt := bit w 12
  let imm6 := bits w 11 6
  let rest := opt.toNat + imm6
  match wFn w with
  | 0x00 => withZero (rd + rest) (opMacr 0 c acc ra rb)
  | 0x01 => withZero (rd + rest) (opMacr 1 c acc ra rb)
  | 0x02 => withZero (rd + rest) (opMacr 2 c acc ra rb)
  | 0x03 => withZero (rd + rest) (opMacr 3 c acc ra rb)
  | 0x04 => withZero (rd + ra + rb + rest) (opAclr c acc)
  | 0x05 => withZero (rd + ra + rb + rest) (opAmov c acc)
  | 0x06 => withZero (rd + ra + rb + imm6) (opAadd c acc opt)
  | 0x07 => withZero (rd + ra + rb) (opAsh c acc opt imm6)
  | 0x08 => withZero (ra + rb) (opAext c rd acc opt imm6)
  | 0x09 => withZero (ra + rb + opt.toNat) (opArd c rd acc imm6)
  | 0x0A => withZero (rd + rb + opt.toNat) (opAwr c acc ra imm6)
  | _ => State.illegal

/-- CPn. -/
def cpWordOp (c n w : Nat) : State → CoreRes :=
  let rd := wRd w
  let ra := wRa w
  let rb := wRb w
  let func := bits w 13 0
  let raise := fun (s : State) => CoreRes.exc s exCoproc n 0
  if 4 ≤ n then raise
  else if func = 0 then withZero rb (opWait c n rd ra)
  else if func = 1 then withZero rb (opPoll c n rd ra)
  else if func = 2 then withZero rb (opCpCancel c n rd ra)
  else if func < 0x0100 then raise
  else if !cpDefines n func then opCpOther c n rd ra rb func
  else
    match n, func with
    | 0, 0x0100 => opDataTx c rd ra rb
    | 0, _ => opDataRx c rd ra rb
    | 1, 0x0100 => opCompute c rd ra rb
    | 1, _ => opVerify c rd ra rb
    | 2, _ => opSolve c rd ra rb
    | _, _ => opGet c rd ra rb

/-- What an instruction word does. -/
def coreOp (c w : Nat) : State → CoreRes :=
  let rd := wRd w
  let ra := wRa w
  let imm := bits w 17 0
  match wMajor w with
  | 0x00 => aluWord c w
  | 0x01 => opRi addF c rd ra (sx 18 imm)
  | 0x02 => opRi andF c rd ra imm
  | 0x03 => opRi orF c rd ra imm
  | 0x04 => opRi xorF c rd ra imm
  | 0x05 => withZero rd (opCmpi c ra imm)
  | 0x06 =>
    let f := match bits w 17 16 with
      | 0 => shlOut
      | 1 => shrOut
      | 2 => sarOut
      | _ => rorOut
    opShi f c rd ra imm
  | 0x07 => fun s => s.putReg c rd (sx 22 (bits w 21 0))
  | 0x08 => opLui c rd (bits w 21 0)
  | 0x10 => opLoad 4 id c rd ra imm
  | 0x11 => opLoad 2 (sx 16) c rd ra imm
  | 0x12 => opLoad 2 id c rd ra imm
  | 0x13 => opLoad 1 (sx 8) c rd ra imm
  | 0x14 => opLoad 1 id c rd ra imm
  | 0x15 => opStore 4 c rd ra imm
  | 0x16 => opStore 2 c rd ra imm
  | 0x17 => opStore 1 c rd ra imm
  | 0x18 => opLdwp c rd ra imm
  | 0x19 => opStwp c rd ra imm
  | 0x1A => withZero (bits w 25 16) (opPushm c (bits w 15 0))
  | 0x1B => withZero (bits w 25 16) (opPopm c (bits w 15 0))
  | 0x1C => withZero (bits w 16 12) (opIn c rd ra (bit w 17) (bits w 11 0))
  | 0x1D => withZero (bits w 16 12) (opOut c rd ra (bit w 17) (bits w 11 0))
  | 0x20 => opBcond c rd (bits w 21 0)
  | 0x21 => opJmp c (bits w 25 0)
  | 0x22 => opCall c (bits w 25 0)
  | 0x23 => withZero (rd + bits w 17 6) (match wFn w with
      | 0x00 => opJr c ra
      | 0x01 => opCallr c ra
      | _ => State.illegal)
  | 0x24 => sysWord c w
  | 0x25 => withZero rd (opRep c ra imm)
  | 0x28 => withZero (bits w 4 0)
      (opMacxy (bits w 24 23) c (bit w 25) (bits w 22 19) (bits w 18 15) (bits w 14 10) (bits w 9 5))
  | 0x29 => accWord c w
  | 0x38 => cpWordOp c 0 w
  | 0x39 => cpWordOp c 1 w
  | 0x3A => cpWordOp c 2 w
  | 0x3B => cpWordOp c 3 w
  | 0x3C => cpWordOp c 4 w
  | 0x3D => cpWordOp c 5 w
  | 0x3E => cpWordOp c 6 w
  | 0x3F => cpWordOp c 7 w
  | _ => State.illegal

/-- The instruction may be repeated (R445). -/
def wordRepeats (w : Nat) : Bool :=
  let m := wMajor w
  !(decide (0x20 ≤ m) && decide (m ≤ 0x25)) && decide (m < 0x38)

/-- A core runs the instruction at its PC. -/
def State.coreStepOne (s : State) (c : Nat) : State :=
  let w := (s.core c).word
  s.coreRun c (wordRepeats w) (coreOp c w)

/-- The instruction of a word raises a given exception. -/
def CoreRes.raises (r : CoreRes) (code : Nat) : Bool :=
  match r with
  | .exc _ k _ _ => k == code
  | _ => false

/-- A row of words that raise an exception: it happens when the word at PC is one. -/
def raiseRow (t c code : Nat) (s : State) : Answer := happen t s (fun s =>
  if !s.coreSteps c then s
  else
    match s.coreFetch c with
    | .inl s => s
    | .inr s' =>
      let w := (s.core c).word
      let repeated := (s.core c).flag pbREPA && !wordRepeats w && code == exIllegal
      if repeated || (coreOp c w s').raises code then s.coreStepOne c else s)

/-- ILLEGAL (R431, R445, R461). -/
def execIllegal (t core : Nat) (s : State) : Answer := raiseRow t core exIllegal s

/-- COPROC (R450, R453). -/
def execCoproc (t core : Nat) (s : State) : Answer := raiseRow t core exCoproc s

end Sys2Proof.Machine
end

