-- ==== Sys2Proof/Machine/Ast.lean ====
section
/-! DEFINITION. Steps of the cores: dispatch, the slice, reload and release (R279, R464, R471, R474–R476). -/

namespace Sys2Proof.Machine

/-! ## Dispatch (R277, R279, R464) -/

/-- A ready session goes before another (R277; all are in DECIDE). -/
def State.stepBefore (s : State) (a b : Nat) : Bool :=
  let x := s.ctx a
  let y := s.ctx b
  if x.prio ≠ y.prio then x.prio
  else if x.tState ≠ y.tState then decide (x.tState < y.tState)
  else decide (a < b)

/-- A core may be given a step of a session: IDLE, EN and in the program's CORE_MASK (R279, R476). -/
def State.coreFits (s : State) (c n : Nat) : Bool :=
  decide (c < 16) && s.coreSt c == csIdle && s.on AST_CORE_CTL.EN c &&
    bit ((s.progOf n).map (·.coreMask) |>.getD 0) c

/-- The session next in order for a core. -/
def State.nextStep (s : State) (c : Nat) : Option Nat :=
  (s.ses.ready.filter (fun n => s.coreFits c n)).foldl (fun (b : Option Nat) n =>
    match b with
    | none => some n
    | some m => if s.stepBefore n m then some n else some m) none

/-- The bundle a session runs under: the one of its open (R556). -/
def State.bundleOf (s : State) (n : Nat) : Bundle :=
  if (s.aux n).oldBundle then s.ast.old.getD s.ast.bundle else s.ast.bundle

/-- A core takes up the bundle a session runs under. -/
def State.coreBundle (s : State) (c n : Nat) : State :=
  let b := s.bundleOf n
  if s.coreHas c b then s else s.coreLoad c b

/-- A session leaves the queue of ready steps. -/
def State.unready (s : State) (n : Nat) : State :=
  let s := { s with ses := { s.ses with ready := s.ses.ready.filter (· ≠ n) } }
  s.wr SES_CORE_STAT.READY (min 0xFFFF s.ses.ready.length)

/-- A session call of a session waits still: its GRANT, or a change that it asked for through this core (R467). -/
def State.callOpen (s : State) (c n gen : Nat) : Bool :=
  (s.ctx n).dec == 1 || s.eph.journal.any (fun e => decide (e.stage < 2) && e.dest == .core c n gen)

/-- The registers of a core at dispatch (R464, R468): a script's entry, the session and its GEN. -/
def Core.bind (k : Core) (e : List Byte) (n gen now : Nat) (busy : Bool) : Core :=
  let hi := min 0x10000 (leAt e 8 4)
  { k with
    g := [n, gen] ++ List.replicate 12 0 ++ [hi, 0]
    a0 := 0
    a1 := 0
    psw := 0
    pc := leAt e 2 2
    vbase := leAt e 4 2
    stklo := leAt e 6 2
    stkhi := hi
    scArg := [0, 0, 0, 0]
    scBusy := busy
    scCode := 0
    scNew := false
    sliceWarn := false
    waiting := false
    stepFrom := now
    halted := 0
    haltFrom := none }

/-- STEP_DISPATCH: the session first in order is dispatched; one whose script is not valid ends instead (R463). -/
def State.stepBegin (s : State) (c n : Nat) : State :=
  let gen := (s.ctx n).gen
  let script := ((s.progOf n).map (·.script)).getD 0
  let busy := s.callOpen c n gen
  let s := s.unready n
  match scriptEntry (s.bundleOf n).scripts script with
  | none => s.abort n ccPrecondition
  | some e =>
    let s := (s.coreBundle c n).updCore c (fun k => k.bind e n gen s.now busy)
    let s := s.updCtx n (fun x => { x.setPend pendCore true with core := c })
    let s := ((s.wr AST_CORE_STAT.SESSION n c).wr AST_CORE_SCRIPT.GEN gen c).wr AST_CORE_SCRIPT.SCRIPT script c
    ((s.bump AST_CNT_STEP.COUNT).bump AST_CORE_CNT_STEP.COUNT c).coreTo c csStep

def execStepDispatch (t core n : Nat) (s : State) : Answer := happen t s (fun s =>
  if s.running 0x0E ∧ s.nextStep core = some n ∧ (s.ctx n).state = ssDecide then s.stepBegin core n else s)

/-! ## The slice (R279, R471) -/

/-- SLICE_MAX. -/
def State.sliceMax (s : State) : Nat := usT (100 * orOne (s.rd SES_SCHED_CFG.SLICE_MAX))

/-- A core runs a step or is halted in one. -/
def State.inStep (s : State) (c : Nat) : Bool := decide (c < 16) && (s.coreSt c == csStep || s.coreSt c == csDebug)

/-- SLICE_WARNING: three quarters of SLICE_MAX have run; line 4 is asserted. -/
def execSliceWarning (t core : Nat) (s : State) : Answer := happen t s (fun s =>
  if s.inStep core ∧ 3 * s.sliceMax ≤ 4 * s.stepTicks core then s.updCore core (fun k => { k with sliceWarn := true }) else s)

/-- SLICE_MAX_EXPIRED: the core is stopped, and the session is cancelled with TIMEOUT. -/
def execSliceMaxExpired (t core : Nat) (s : State) : Answer := happen t s (fun s =>
  if s.inStep core ∧ s.sliceMax < s.stepTicks core then
    let n := s.rd AST_CORE_STAT.SESSION core
    let gen := s.rd AST_CORE_SCRIPT.GEN core
    let s := s.irq SES_IRQ_STAT.SLICE
    let s := if s.live n gen then s.cancel n ccTimeout else s
    s.coreStop core
  else s)

/-! ## Reload, RELEASE and the mailbox (R471, R474, R476) -/

/-- The time a reload takes. -/
def reloadT : Nat := usT 1024 / 100

/-- FAULT_RELOAD_DONE: the core is loaded from the bundle in force and is IDLE. -/
def execFaultReloadDone (t core : Nat) (s : State) : Answer := happen t s (fun s =>
  if core < 16 ∧ s.coreSt core = csReload ∧ (s.core core).reloadFrom + reloadT ≤ s.now then
    (s.coreLoad core s.ast.bundle).coreIdle core
  else s)

/-- RELEASE: a register write of AST_CORE_CTL with RELEASE 1. -/
def execRelease (t port : Nat) (priv : Bool) (core : Nat) (s : State) : Answer := happen t s (fun s =>
  if core < 16 then
    let off := 0x0E0100 + core * 0x1000
    s.regWrite (min port 3) priv off 4 (2 ^ 8 + (s.rd AST_CORE_CTL.EN core) * 2 ^ 31)
  else s)

/-- MBOX_IN_WRITE: a register write of AST_MBOX_IN. -/
def execMboxInWrite (t port : Nat) (priv : Bool) (core v : Nat) (s : State) : Answer := happen t s (fun s =>
  if core < 16 then s.regWrite (min port 3) priv (0x0E0128 + core * 0x1000) 4 (v % 2 ^ 32) else s)

end Sys2Proof.Machine
end

