-- ==== Sys2Proof/Machine/DataRead.lean ====
section
/-! DEFINITION. Reads of the registers that look into a table, and register accesses that come over Baseline
(R14, R628, R643). -/

namespace Sys2Proof.Machine

/-! ## DATA registers -/

/-- A row that is a read of one register through a port. -/
def dataRow (t port : Nat) (priv : Bool) (off : Nat) (s : State) (oe level : Bool := false) : Answer :=
  happen t s (fun s => s.portRead port priv off oe level)

def execSesCtxDataRead (t port : Nat) (priv : Bool) (s : State) : Answer := dataRow t port priv SES_CTX_DATA.DATA.off s
def execEphRecDataRead (t port : Nat) (priv : Bool) (s : State) : Answer := dataRow t port priv EPH_REC_DATA.DATA.off s
def execShuRelDataRead (t port : Nat) (priv : Bool) (s : State) : Answer := dataRow t port priv SHU_REL_DATA.DATA.off s
def execHelCmDataRead (t port : Nat) (priv : Bool) (s : State) : Answer := dataRow t port priv HEL_CM_DATA.RE.off s
def execAlmAncDataRead (t port : Nat) (priv : Bool) (s : State) : Answer := dataRow t port priv ALM_ANC_DATA.DATA.off s
def execAlmRegDataRead (t port : Nat) (priv : Bool) (s : State) : Answer := dataRow t port priv ALM_REG_DATA.DATA.off s
def execAlmResDataRead (t port : Nat) (priv : Bool) (s : State) : Answer := dataRow t port priv ALM_RES_DATA.USED.off s
def execAstScriptDataRead (t port : Nat) (priv : Bool) (s : State) : Answer :=
  dataRow t port priv AST_SCRIPT_DATA.DATA.off s
def execMemRemapDataRead (t port : Nat) (priv : Bool) (s : State) : Answer := dataRow t port priv MEM_REMAP_DATA.VALID.off s
def execMemLogDataRead (t port : Nat) (priv : Bool) (s : State) : Answer := dataRow t port priv MEM_LOG_DATA.DATA.off s
def execBootFuseDataRead (t port : Nat) (priv : Bool) (s : State) : Answer := dataRow t port priv BOOT_FUSE_DATA.DATA.off s
def execHifFlagDataRead (t port : Nat) (priv : Bool) (s : State) : Answer := dataRow t port priv HIF_FLAG_DATA.FLAGS.off s
def execMgtFndDataRead (t port : Nat) (priv : Bool) (s : State) : Answer := dataRow t port priv MGT_FND_DATA.DATA.off s
def execPinPadDataRead (t port : Nat) (priv oe level : Bool) (s : State) : Answer :=
  dataRow t port priv PIN_PAD_DATA.OE.off s oe level

/-! ## RACC (R643) -/

/-- What a RACC frame carries: write or read, the offset and the data of a write. -/
def raccPayload (write : Bool) (off data : Nat) : List Byte := leBytes 1 write.toNat ++ leBytes 3 off ++ leBytes 4 data

/-- A remote access is judged and made as port 3, and its reply carries the code and what a read returned. -/
def State.raccServe (s : State) (src tag : Nat) (write : Bool) (off data : Nat) : State :=
  let priv := bit off 23
  let o := off % 2 ^ 23
  let code := if priv ∧ (s.viewReason 3 (o / 65536)).isSome then ccDenied else ccOk
  let s := s.bump BLN_CNT_RACC.COUNT
  if write then (s.regWrite 3 priv o 4 (data % 2 ^ 32)).blnReply src 0x14 tag (bareCode code)
  else
    let (v, s) := s.regRead 3 priv o
    (s.answerWord 3 v).blnReply src 0x14 tag (leBytes 1 code ++ leBytes 4 v)

/-- RACC. -/
def execRacc (t p src dst srcEpoch dstEpoch tag : Nat) (write : Bool) (off data : Nat) (s : State) : Answer :=
  happen t s (fun s =>
    if 2 ≤ p ∨ !s.portAuth p then s
    else
      let s := s.blnHeard p src false
      if dst ≠ s.device then
        match s.blnForward p dst false
            (frameOf fcRacc false src dst 0x14 0x14 srcEpoch dstEpoch tag (raccPayload write off data)) with
        | some s => s
        | none =>
          ((s.noteReq p src 0x14 srcEpoch tag).bump BLN_CNT_UNREACH.COUNT).blnReply src 0x14 tag (bareCode ccTargetReset)
      else
        let s := s.noteReq p src 0x14 srcEpoch tag
        if s.rd BLN_STAT.STATE = 1 ∨ dstEpoch ≠ s.rd SYS_UNIT_STATE.EPOCH 0x14 then
          s.blnReply src 0x14 tag (bareCode ccTargetReset)
        else s.raccServe src tag write (off % 2 ^ 24) data)

end Sys2Proof.Machine
end

