-- ==== Sys2Proof/Machine/Eye.lean ====
section
/-! DEFINITION. The Kolryn monitor's command lines (R477, R658–R660). -/

namespace Sys2Proof.Machine

/-! ## Replies -/

/-- Row of R660 of a command, from 1 in table order (EYE_LAST). -/
def EyeCmd.row : EyeCmd → Nat
  | .id => 1
  | .status => 2
  | .nonce => 3
  | .env _ => 4
  | .rd _ _ => 5
  | .wr _ _ => 6
  | .dbg _ _ => 7
  | .halt _ => 8
  | .regs _ => 9
  | .mrd _ _ _ _ => 9
  | .mwr _ _ _ _ => 10
  | .step _ => 10
  | .go _ => 10

/-- The command is permitted in a state of the monitor (R660); OPEN acts at FULL. -/
def EyeCmd.allowed (c : EyeCmd) (st : Nat) : Bool :=
  let r := c.row
  if st = esShut then r == 1
  else if st = esClosed then decide (r ≤ 4)
  else if st = esReadonly then decide (r ≤ 4) || r == 5 || (decide (7 ≤ r) && decide (r ≤ 9))
  else true

/-- The last command, its code and its stamp. -/
def State.eyeLast (s : State) (row code : Nat) : State :=
  ((s.wr EYE_LAST.CMD row).wr EYE_LAST.CODE code).wr64 EYE_EVT_STAMP_LO.STAMP EYE_EVT_STAMP_HI.STAMP s.now

/-- A reply: its code, and the words of its lines. -/
def State.eyeReply (s : State) (code : Nat) (ws : List Nat) : State :=
  let s := (s.wr EYE_LAST.CODE code).answerCode 2 code
  let s := match ws.getLast? with
    | some w => s.answerWord 2 w
    | none => s
  if ws.isEmpty then s else s.send (ws.flatMap (leBytes 4))

/-! ## Debug (R477) -/

/-- The core is in debug halt. -/
def State.halted (s : State) (c : Nat) : Bool := decide (c < 16) && s.coreSt c == csDebug

/-- The time of a halt is taken out of the step's time. -/
def State.haltCount (s : State) (c : Nat) (again : Bool) : State :=
  s.updCore c (fun k =>
    { k with halted := k.halted + (k.haltFrom.map (fun h => s.now - h)).getD 0, haltFrom := if again then some s.now else none })

/-- A core that runs a step enters debug halt. -/
def State.coreHalt (s : State) (c : Nat) : State :=
  let n := s.rd AST_CORE_STAT.SESSION c
  let s := s.updCore c (fun k => { k with haltFrom := some s.now })
  ((s.coreTo c csDebug).irq AST_IRQ_STAT.DEBUG).astEvent 4 c 0 n

/-- g0–g15, the accumulators low word first, PC and PSW. -/
def Core.regWords (k : Core) : List Nat :=
  let acc := fun (a : Nat) => [a % 2 ^ 32, a / 2 ^ 32 % 2 ^ 32, a / 2 ^ 64]
  (List.range 16).map k.reg ++ acc k.a0 ++ acc k.a1 ++ [k.pc, k.psw]

/-- n words of a space of a core's memory lie in it: I, X and Y by their own addresses. -/
def spaceOk (space addr n : Nat) : Bool :=
  addr % 4 == 0 && match space with
    | 0 => decide (addr + 4 * n ≤ 0x10000)
    | 1 => decide (addr + 4 * n ≤ 0x8000)
    | 2 => decide (0x8000 ≤ addr) && decide (addr + 4 * n ≤ 0x10000)
    | _ => false

/-- Words of a space: whether some read delivers poison. -/
def State.spaceRead (s : State) (c space addr n : Nat) : Bool × List Nat × State :=
  let k := s.core c
  let (bad, s) := if space = 0 then s.memReadBytes c addr (4 * n) else s.dataRead c addr (4 * n)
  (bad, (List.range n).map (fun i => if space = 0 then SMap.get k.imem (addr / 4 + i) 0 else k.dataWord (addr + 4 * i)), s)

/-- A word of a space is written. -/
def State.spaceWrite (s : State) (c space addr v : Nat) : State :=
  if space = 0 then
    (s.memWriteBytes c addr 4).updCore c (fun k =>
      { k with imem := if v % 2 ^ 32 = 0 then SMap.del k.imem (addr / 4) else SMap.put k.imem (addr / 4) (v % 2 ^ 32) })
  else s.storeWord32 c addr v

/-! ## Commands -/

/-- DBG. -/
def State.eyeDbg (s : State) (c : Nat) (on : Bool) : State :=
  let s := s.flag AST_CORE_CTL.DEBUG_EN on c
  let s := if !on && s.halted c then s.coreStop c else s
  s.eyeReply ccOk []

/-- STATUS: MGT_HEALTH, the monitor's state and the grant's time left. -/
def State.eyeStatus (s : State) : State :=
  let left := (s.eye.grantEnd.map (fun e => (e - s.now + secT 1 - 1) / secT 1)).getD 0
  s.eyeReply ccOk [s.mgtHealth, s.eyeStateOf, left]

/-- ID: DEVID, LC, DOME_VER and ISA_VER. -/
def State.eyeId (s : State) : State :=
  s.eyeReply ccOk [s.rd DOM_DEVID_LO.DEVID, s.rd DOM_DEVID_HI.DEVID, s.lc, s.rd DOM_VER.VER, 0x0100]

/-- ENV: the monitor is busy until the envelope's result is there. -/
def State.eyeEnv (s : State) (l : List Byte) : State :=
  let s := { s with eye := { s.eye with busy := true } }
  ((s.wr EYE_STAT.BUSY 1).bump EYE_CNT_ENV.COUNT).envQueue 2 l

/-- What a permitted command does; one whose operands are out of range is malformed and replies DENIED. -/
def State.eyeDo (s : State) (c : EyeCmd) : State :=
  let bad := fun (s : State) => s.eyeReply ccDenied []
  match c with
  | .id => s.eyeId
  | .status => s.eyeStatus
  | .nonce =>
    let (v, s) := s.regRead 2 false DOM_NONCE.NONCE.off
    s.eyeReply ccOk [v]
  | .env l => s.eyeEnv l
  | .rd off n =>
    if n = 0 ∨ 64 < n ∨ 2 ^ 24 ≤ off then bad s
    else
      let (l, s) := s.readRun 2 off n
      (s.eyeReply ccOk []).send l
  | .wr off v =>
    if 2 ^ 24 ≤ off ∨ 2 ^ 32 ≤ v then bad s
    else ((s.bump EYE_CNT_WRITE.COUNT).regWrite 2 (bit off 23) (off % 2 ^ 23) 4 v).eyeReply ccOk []
  | .dbg c on => if c < 16 then s.eyeDbg c on else bad s
  | .halt c =>
    if c < 16 ∧ s.on AST_CORE_CTL.DEBUG_EN c ∧ s.coreSt c = csStep then
      ((s.bump EYE_CNT_DEBUG.COUNT).coreHalt c).eyeReply ccOk []
    else bad s
  | .regs c => if s.halted c then s.eyeReply ccOk (s.core c).regWords else bad s
  | .mrd c space addr n =>
    if n = 0 ∨ 64 < n ∨ !s.halted c ∨ !spaceOk space addr n then bad s
    else
      let (poison, l, s) := s.spaceRead c space addr n
      if poison then s.poisonUse.eyeReply ccPoisoned [] else s.eyeReply ccOk l
  | .mwr c space addr v =>
    if !s.halted c ∨ !spaceOk space addr 1 ∨ 2 ^ 32 ≤ v then bad s
    else ((s.bump EYE_CNT_WRITE.COUNT).spaceWrite c space addr v).eyeReply ccOk []
  | .step c =>
    if s.halted c then (((s.bump EYE_CNT_DEBUG.COUNT).haltCount c true).coreStepOne c).eyeReply ccOk [] else bad s
  | .go c =>
    if s.halted c then (((s.bump EYE_CNT_DEBUG.COUNT).haltCount c false).coreTo c csStep).eyeReply ccOk [] else bad s

/-- A command is served: judged by the monitor's present state (R659, R660). -/
def State.eyeServe (s : State) (c : EyeCmd) : State :=
  let s := s.eyeLast c.row ccOk
  if c.allowed s.eyeStateOf then s.eyeDo c
  else ((s.bump EYE_CNT_REFUSE.COUNT).irq EYE_IRQ_STAT.REFUSE).eyeReply ccLifecycle []

/-- The line that waits is served once no command runs. -/
def State.eyeNext (s : State) : State :=
  match s.eye.held with
  | some c => if s.eye.busy then s else { s with eye := { s.eye with held := none } }.eyeServe c
  | none => s

/-- A line arrives (R658): one waits while a command runs, and a further one is discarded and counted. -/
def State.eyeLine (s : State) (c : EyeCmd) : State :=
  let s := s.eyeNext.bump EYE_CNT_LINE.COUNT
  if !s.eye.busy then s.eyeServe c
  else if s.eye.held.isNone then { s with eye := { s.eye with held := some c } }
  else s.bump EYE_CNT_ERR.COUNT

/-! ## The rows -/

/-- The monitor hears a line while its unit is out of reset. -/
def eyeRow (t : Nat) (c : EyeCmd) (s : State) : Answer := happen t s (fun s =>
  if s.rep 0x16 = stReset then s else s.eyeLine c)

def execIdCmd (t : Nat) (s : State) : Answer := eyeRow t .id s
def execStatus (t : Nat) (s : State) : Answer := eyeRow t .status s
def execNonce (t : Nat) (s : State) : Answer := eyeRow t .nonce s
def execEnvCmd (t : Nat) (envelope : List (BitVec 8)) (s : State) : Answer := eyeRow t (.env envelope) s
def execRd (t off n : Nat) (s : State) : Answer := eyeRow t (.rd off n) s
def execWr (t off val : Nat) (s : State) : Answer := eyeRow t (.wr off val) s
def execDbg (t core : Nat) (on : Bool) (s : State) : Answer := eyeRow t (.dbg core on) s
def execHalt (t core : Nat) (s : State) : Answer := eyeRow t (.halt core) s
def execRegs (t core : Nat) (s : State) : Answer := eyeRow t (.regs core) s
def execMrd (t core space addr n : Nat) (s : State) : Answer := eyeRow t (.mrd core space addr n) s
def execMwr (t core space addr val : Nat) (s : State) : Answer := eyeRow t (.mwr core space addr val) s
def execStep (t core : Nat) (s : State) : Answer := eyeRow t (.step core) s
def execGoCmd (t core : Nat) (s : State) : Answer := eyeRow t (.go core) s

/-- LINE_TIMEOUT: a partial line without a character for 1 s is discarded, and counted. -/
def execLineTimeout (t last : Nat) (s : State) : Answer := happen t s (fun s =>
  if last + secT 1 ≤ s.now then s.eyeNext.bump EYE_CNT_ERR.COUNT else s.eyeNext)

/-- MONITOR_GRANT_END: the grant's time has passed. -/
def execMonitorGrantEnd (t : Nat) (s : State) : Answer := happen t s (fun s =>
  match s.eye.grantEnd with
  | some e => if e ≤ s.now then s.eyeNext.endMonitor else s
  | none => s)

end Sys2Proof.Machine
end

