-- ==== Sys2Proof/Machine/Dispatch.lean ====
section
/-! DEFINITION. The one match from a command to its meaning: one arm per constructor. -/

namespace Sys2Proof.Machine

def exec (i : Instr) (s : State) : Host.Outcome State Fault Refusal :=
  match i with
  | .deviceReset pin straps => Sys2Proof.Machine.execDeviceReset pin straps s
  | .registerWrite t port priv off bytes w => Sys2Proof.Machine.execRegisterWrite t port priv off bytes w s
  | .registerLoRead t port priv off => Sys2Proof.Machine.execRegisterLoRead t port priv off s
  | .clrCnt t port priv u => Sys2Proof.Machine.execClrCnt t port priv u s
  | .lock t port priv u => Sys2Proof.Machine.execLock t port priv u s
  | .dieLinkPacketCrcFail t rf retry => Sys2Proof.Machine.execDieLinkPacketCrcFail t rf retry s
  | .dieLinkRetrainDone t rf => Sys2Proof.Machine.execDieLinkRetrainDone t rf s
  | .unitReset t port priv u cmd => Sys2Proof.Machine.execUnitReset t port priv u cmd s
  | .unitCommand t port priv u cmd => Sys2Proof.Machine.execUnitCommand t port priv u cmd s
  | .unitStateReached t u => Sys2Proof.Machine.execUnitStateReached t u s
  | .mismatchTimeout t u => Sys2Proof.Machine.execMismatchTimeout t u s
  | .interUnitRequest t src dst srcEpoch dstEpoch => Sys2Proof.Machine.execInterUnitRequest t src dst srcEpoch dstEpoch s
  | .unitReply t u epoch => Sys2Proof.Machine.execUnitReply t u epoch s
  | .meridianWrap => Sys2Proof.Machine.execMeridianWrap s
  | .aonRatioWindow t ratio => Sys2Proof.Machine.execAonRatioWindow t ratio s
  | .civilCheckpoint t => Sys2Proof.Machine.execCivilCheckpoint t s
  | .trimReq t us => Sys2Proof.Machine.execTrimReq t us s
  | .trimSpent t => Sys2Proof.Machine.execTrimSpent t s
  | .timeNonceRead t port => Sys2Proof.Machine.execTimeNonceRead t port s
  | .civilOffsetSet t port priv lo hi => Sys2Proof.Machine.execCivilOffsetSet t port priv lo hi s
  | .civilLeapSet t port priv leap => Sys2Proof.Machine.execCivilLeapSet t port priv leap s
  | .acquireAloneTimeout t => Sys2Proof.Machine.execAcquireAloneTimeout t s
  | .lockAchieved t rms => Sys2Proof.Machine.execLockAchieved t rms s
  | .holdoverEntry t => Sys2Proof.Machine.execHoldoverEntry t s
  | .holdLimitExpired t => Sys2Proof.Machine.execHoldLimitExpired t s
  | .loopUpdate t z obs => Sys2Proof.Machine.execLoopUpdate t z obs s
  | .trip t n => Sys2Proof.Machine.execTrip t n s
  | .testTimeout t n => Sys2Proof.Machine.execTestTimeout t n s
  | .channelModeWrite t n mode => Sys2Proof.Machine.execChannelModeWrite t n mode s
  | .helCalAll t => Sys2Proof.Machine.execHelCalAll t s
  | .helCalOne t n => Sys2Proof.Machine.execHelCalOne t n s
  | .tuningCalDone t n amb ofs fRes q ph => Sys2Proof.Machine.execTuningCalDone t n amb ofs fRes q ph s
  | .measAll t => Sys2Proof.Machine.execMeasAll t s
  | .measOne t n => Sys2Proof.Machine.execMeasOne t n s
  | .solveAll t => Sys2Proof.Machine.execSolveAll t s
  | .solveOne t z => Sys2Proof.Machine.execSolveOne t z s
  | .helQuarClear t high w => Sys2Proof.Machine.execHelQuarClear t high w s
  | .measSlotGrant t amb => Sys2Proof.Machine.execMeasSlotGrant t amb s
  | .columnDone t v amps => Sys2Proof.Machine.execColumnDone t v amps s
  | .remeasPeriod t => Sys2Proof.Machine.execRemeasPeriod t s
  | .zoneSolveDone t => Sys2Proof.Machine.execZoneSolveDone t s
  | .lockGuard t n => Sys2Proof.Machine.execLockGuard t n s
  | .pollOwnerRequest t e => Sys2Proof.Machine.execPollOwnerRequest t e s
  | .pollDue t e => Sys2Proof.Machine.execPollDue t e s
  | .exchangeCommit t => Sys2Proof.Machine.execExchangeCommit t s
  | .directedWake t n wid rate md fmt => Sys2Proof.Machine.execDirectedWake t n wid rate md fmt s
  | .wakeWindowExpired t n => Sys2Proof.Machine.execWakeWindowExpired t n s
  | .sofDetected t z => Sys2Proof.Machine.execSofDetected t z s
  | .turnaroundExpired t z pow => Sys2Proof.Machine.execTurnaroundExpired t z pow s
  | .replyReceived t z body er viol ch snr => Sys2Proof.Machine.execReplyReceived t z body er viol ch snr s
  | .drown t z er snr pow => Sys2Proof.Machine.execDrown t z er snr pow s
  | .hopResend t n => Sys2Proof.Machine.execHopResend t n s
  | .burstEnd t z => Sys2Proof.Machine.execBurstEnd t z s
  | .pollSkip t e => Sys2Proof.Machine.execPollSkip t e s
  | .lfpHopWrite t k carrier => Sys2Proof.Machine.execLfpHopWrite t k carrier s
  | .monitorRun t noise spurs => Sys2Proof.Machine.execMonitorRun t noise spurs s
  | .coilFault t n kind => Sys2Proof.Machine.execCoilFault t n kind s
  | .stateRequest t trx owner target ch9 freq step air follow hold mod dev rate => Sys2Proof.Machine.execStateRequest t trx owner target ch9 freq step air follow hold mod dev rate s
  | .stepComplete t trx lock => Sys2Proof.Machine.execStepComplete t trx lock s
  | .synthLockTimeout t trx => Sys2Proof.Machine.execSynthLockTimeout t trx s
  | .synthHoldExpired t trx => Sys2Proof.Machine.execSynthHoldExpired t trx s
  | .stbyHoldExpired t trx => Sys2Proof.Machine.execStbyHoldExpired t trx s
  | .park t trx on => Sys2Proof.Machine.execPark t trx on s
  | .rapidBitTimeout t trx => Sys2Proof.Machine.execRapidBitTimeout t trx s
  | .transmissionEnd t trx => Sys2Proof.Machine.execTransmissionEnd t trx s
  | .transmissionCut t trx => Sys2Proof.Machine.execTransmissionCut t trx s
  | .uhfFrameReceived t trx syncErr payload check => Sys2Proof.Machine.execUhfFrameReceived t trx syncErr payload check s
  | .ledgerMinute t => Sys2Proof.Machine.execLedgerMinute t s
  | .ownershipGrant t trx owner => Sys2Proof.Machine.execOwnershipGrant t trx owner s
  | .handover t trx owner => Sys2Proof.Machine.execHandover t trx owner s
  | .radCalAll t => Sys2Proof.Machine.execRadCalAll t s
  | .radCalOne t trx => Sys2Proof.Machine.execRadCalOne t trx s
  | .tempCalTrigger t trx temp => Sys2Proof.Machine.execTempCalTrigger t trx temp s
  | .calItemDone t trx pre vals rl temp => Sys2Proof.Machine.execCalItemDone t trx pre vals rl temp s
  | .watchCycle t => Sys2Proof.Machine.execWatchCycle t s
  | .exchangeRequest t n cap => Sys2Proof.Machine.execExchangeRequest t n cap s
  | .pollCommit t trx => Sys2Proof.Machine.execPollCommit t trx s
  | .respReceived t trx rx => Sys2Proof.Machine.execRespReceived t trx rx s
  | .finalSend t trx => Sys2Proof.Machine.execFinalSend t trx s
  | .reportReceived t trx rx => Sys2Proof.Machine.execReportReceived t trx rx s
  | .noFrame t trx => Sys2Proof.Machine.execNoFrame t trx s
  | .retry t trx => Sys2Proof.Machine.execRetry t trx s
  | .prearmHoldExpired t n => Sys2Proof.Machine.execPrearmHoldExpired t n s
  | .remoteRangeTimeout t n => Sys2Proof.Machine.execRemoteRangeTimeout t n s
  | .trnCalStart t => Sys2Proof.Machine.execTrnCalStart t s
  | .trnCalDone t shots => Sys2Proof.Machine.execTrnCalDone t shots s
  | .antennaDelayWrite t trx rx v => Sys2Proof.Machine.execAntennaDelayWrite t trx rx v s
  | .boundRequest t n => Sys2Proof.Machine.execBoundRequest t n s
  | .vectorsLoaded t n => Sys2Proof.Machine.execVectorsLoaded t n s
  | .precompHoldExpired t n => Sys2Proof.Machine.execPrecompHoldExpired t n s
  | .burnFree t => Sys2Proof.Machine.execBurnFree t s
  | .rapidBitCommit t trx poison => Sys2Proof.Machine.execRapidBitCommit t trx poison s
  | .searchWindowClose t trx obs => Sys2Proof.Machine.execSearchWindowClose t trx obs s
  | .boundDecision t n poison => Sys2Proof.Machine.execBoundDecision t n poison s
  | .dbxRetry t trx => Sys2Proof.Machine.execDbxRetry t trx s
  | .locateRequest t n poisoned => Sys2Proof.Machine.execLocateRequest t n poisoned s
  | .solveDone t us => Sys2Proof.Machine.execSolveDone t us s
  | .remoteSolveRequest t dev tag payload => Sys2Proof.Machine.execRemoteSolveRequest t dev tag payload s
  | .solveTimeout t n => Sys2Proof.Machine.execSolveTimeout t n s
  | .sessionOpen t kind sel core frame => Sys2Proof.Machine.execSessionOpen t kind sel core frame s
  | .lookupResult t n => Sys2Proof.Machine.execLookupResult t n s
  | .checkValueResult t n => Sys2Proof.Machine.execCheckValueResult t n s
  | .rangeResult t n => Sys2Proof.Machine.execRangeResult t n s
  | .deadlineExpired t n => Sys2Proof.Machine.execDeadlineExpired t n s
  | .sessionMaxExpired t n => Sys2Proof.Machine.execSessionMaxExpired t n s
  | .sesCancel t n gen => Sys2Proof.Machine.execSesCancel t n gen s
  | .creditWaitExpired t n => Sys2Proof.Machine.execCreditWaitExpired t n s
  | .sliceMaxExpired t core => Sys2Proof.Machine.execSliceMaxExpired t core s
  | .creditGrant t => Sys2Proof.Machine.execCreditGrant t s
  | .completionConsume t => Sys2Proof.Machine.execCompletionConsume t s
  | .stepDispatch t core n => Sys2Proof.Machine.execStepDispatch t core n s
  | .poolSizeWrite t k size => Sys2Proof.Machine.execPoolSizeWrite t k size s
  | .buttonFrame t trx payload => Sys2Proof.Machine.execButtonFrame t trx payload s
  | .perTokenUpdateCommit t n => Sys2Proof.Machine.execPerTokenUpdateCommit t n s
  | .perTokenUpdateTimeout t n => Sys2Proof.Machine.execPerTokenUpdateTimeout t n s
  | .grant t core => Sys2Proof.Machine.execGrant t core s
  | .refuse t core code => Sys2Proof.Machine.execRefuse t core code s
  | .cancel t core code => Sys2Proof.Machine.execCancel t core code s
  | .decisionCommitted t n => Sys2Proof.Machine.execDecisionCommitted t n s
  | .releaseAction t e => Sys2Proof.Machine.execReleaseAction t e s
  | .senseChange t o ohm closed => Sys2Proof.Machine.execSenseChange t o ohm closed s
  | .outputFault t o short => Sys2Proof.Machine.execOutputFault t o short s
  | .pulseEnd t o => Sys2Proof.Machine.execPulseEnd t o s
  | .openLoadTest t o load => Sys2Proof.Machine.execOpenLoadTest t o load s
  | .releaseTimeout t e => Sys2Proof.Machine.execReleaseTimeout t e s
  | .closingRecordCommit t e => Sys2Proof.Machine.execClosingRecordCommit t e s
  | .queuedReleaseStart t o => Sys2Proof.Machine.execQueuedReleaseStart t o s
  | .clrFault t o => Sys2Proof.Machine.execClrFault t o s
  | .test t port priv o => Sys2Proof.Machine.execTest t port priv o s
  | .openReleaseResolve t entry => Sys2Proof.Machine.execOpenReleaseResolve t entry s
  | .nodeAckTimeout t e => Sys2Proof.Machine.execNodeAckTimeout t e s
  | .ack t bus id data => Sys2Proof.Machine.execAck t bus id data s
  | .passageReport t bus id data => Sys2Proof.Machine.execPassageReport t bus id data s
  | .nodeRefuse t bus id data => Sys2Proof.Machine.execNodeRefuse t bus id data s
  | .busOff t bus errs => Sys2Proof.Machine.execBusOff t bus errs s
  | .restart t bus => Sys2Proof.Machine.execRestart t bus s
  | .permitResend t e => Sys2Proof.Machine.execPermitResend t e s
  | .statusQuery t e => Sys2Proof.Machine.execStatusQuery t e s
  | .vehicleReply t e frame => Sys2Proof.Machine.execVehicleReply t e frame s
  | .lookup t n dram => Sys2Proof.Machine.execLookup t n dram s
  | .pageFetchDone t page data line => Sys2Proof.Machine.execPageFetchDone t page data line s
  | .enrolToken t core inside record => Sys2Proof.Machine.execEnrolToken t core inside record s
  | .enrolCode t token kv template expDay num digits => Sys2Proof.Machine.execEnrolCode t token kv template expDay num digits s
  | .revoke t core token => Sys2Proof.Machine.execRevoke t core token s
  | .suspend t => Sys2Proof.Machine.execSuspend t s
  | .resume t => Sys2Proof.Machine.execResume t s
  | .attr t => Sys2Proof.Machine.execAttr t s
  | .remove t => Sys2Proof.Machine.execRemove t s
  | .adopt t => Sys2Proof.Machine.execAdopt t s
  | .format t => Sys2Proof.Machine.execFormat t s
  | .journalCommit t jseq => Sys2Proof.Machine.execJournalCommit t jseq s
  | .followOnDone t jseq => Sys2Proof.Machine.execFollowOnDone t jseq s
  | .changeWaitExpired t => Sys2Proof.Machine.execChangeWaitExpired t s
  | .rootCheck t staged l1 => Sys2Proof.Machine.execRootCheck t staged l1 s
  | .sweepPage t data line => Sys2Proof.Machine.execSweepPage t data line s
  | .compactionStart t => Sys2Proof.Machine.execCompactionStart t s
  | .compactNow t => Sys2Proof.Machine.execCompactNow t s
  | .compactionStepDone t code => Sys2Proof.Machine.execCompactionStepDone t code s
  | .find t token => Sys2Proof.Machine.execFind t token s
  | .envelopeSubmit t slot => Sys2Proof.Machine.execEnvelopeSubmit t slot s
  | .vendor t => Sys2Proof.Machine.execVendor t s
  | .commission t => Sys2Proof.Machine.execCommission t s
  | .field t => Sys2Proof.Machine.execField t s
  | .decommission t => Sys2Proof.Machine.execDecommission t s
  | .migrate t => Sys2Proof.Machine.execMigrate t s
  | .rekey t => Sys2Proof.Machine.execRekey t s
  | .policy t => Sys2Proof.Machine.execPolicy t s
  | .lockSet t => Sys2Proof.Machine.execLockSet t s
  | .ephTemplate t => Sys2Proof.Machine.execEphTemplate t s
  | .timeEnv t => Sys2Proof.Machine.execTimeEnv t s
  | .view t => Sys2Proof.Machine.execView t s
  | .monitor t => Sys2Proof.Machine.execMonitor t s
  | .unitEnv t => Sys2Proof.Machine.execUnitEnv t s
  | .pendingTransitionResolve t => Sys2Proof.Machine.execPendingTransitionResolve t s
  | .domNonceRead t port => Sys2Proof.Machine.execDomNonceRead t port s
  | .attestationRequest t key gslot wslot => Sys2Proof.Machine.execAttestationRequest t key gslot wslot s
  | .exportDone t => Sys2Proof.Machine.execExportDone t s
  | .tamperDetect t live => Sys2Proof.Machine.execTamperDetect t live s
  | .remask t => Sys2Proof.Machine.execRemask t s
  | .keyDerivation t cls unit n => Sys2Proof.Machine.execKeyDerivation t cls unit n s
  | .workingKeyLoad t cls unit n uses => Sys2Proof.Machine.execWorkingKeyLoad t cls unit n uses s
  | .keygen t core k256 nextReset uses => Sys2Proof.Machine.execKeygen t core k256 nextReset uses s
  | .keydel t core slot => Sys2Proof.Machine.execKeydel t core slot s
  | .viewGrantEnd t port => Sys2Proof.Machine.execViewGrantEnd t port s
  | .kceRequest t lane n level blocks k256 verify good => Sys2Proof.Machine.execKceRequest t lane n level blocks k256 verify good s
  | .kceMessageDone t block fault poison => Sys2Proof.Machine.execKceMessageDone t block fault poison s
  | .kceAging t q => Sys2Proof.Machine.execKceAging t q s
  | .maskWaitTimeout t => Sys2Proof.Machine.execMaskWaitTimeout t s
  | .katRun t => Sys2Proof.Machine.execKatRun t s
  | .alarmTest t => Sys2Proof.Machine.execAlarmTest t s
  | .healthFail t kind inst => Sys2Proof.Machine.execHealthFail t kind inst s
  | .sourceRestart t => Sys2Proof.Machine.execSourceRestart t s
  | .startupTestDone t => Sys2Proof.Machine.execStartupTestDone t s
  | .blockConditioned t => Sys2Proof.Machine.execBlockConditioned t s
  | .statsWindow t bias corr kbps hist => Sys2Proof.Machine.execStatsWindow t bias corr kbps hist s
  | .generateRequest t inst n bytes => Sys2Proof.Machine.execGenerateRequest t inst n bytes s
  | .reseed t inst => Sys2Proof.Machine.execReseed t inst s
  | .reseedAll t => Sys2Proof.Machine.execReseedAll t s
  | .rngHostDataRead t port => Sys2Proof.Machine.execRngHostDataRead t port s
  | .rngHostBulk t slot kib => Sys2Proof.Machine.execRngHostBulk t slot kib s
  | .testPattern t on => Sys2Proof.Machine.execTestPattern t on s
  | .rawCapture t on slot count => Sys2Proof.Machine.execRawCapture t on slot count s
  | .add t core rd ra rb => Sys2Proof.Machine.execAdd t core rd ra rb s
  | .addc t core rd ra rb => Sys2Proof.Machine.execAddc t core rd ra rb s
  | .sub t core rd ra rb => Sys2Proof.Machine.execSub t core rd ra rb s
  | .subb t core rd ra rb => Sys2Proof.Machine.execSubb t core rd ra rb s
  | .neg t core rd ra => Sys2Proof.Machine.execNeg t core rd ra s
  | .cmp t core ra rb => Sys2Proof.Machine.execCmp t core ra rb s
  | .andR t core rd ra rb => Sys2Proof.Machine.execAndR t core rd ra rb s
  | .orR t core rd ra rb => Sys2Proof.Machine.execOrR t core rd ra rb s
  | .xorR t core rd ra rb => Sys2Proof.Machine.execXorR t core rd ra rb s
  | .andn t core rd ra rb => Sys2Proof.Machine.execAndn t core rd ra rb s
  | .notR t core rd ra => Sys2Proof.Machine.execNotR t core rd ra s
  | .mov t core rd ra => Sys2Proof.Machine.execMov t core rd ra s
  | .shl t core rd ra rb => Sys2Proof.Machine.execShl t core rd ra rb s
  | .shr t core rd ra rb => Sys2Proof.Machine.execShr t core rd ra rb s
  | .sar t core rd ra rb => Sys2Proof.Machine.execSar t core rd ra rb s
  | .ror t core rd ra rb => Sys2Proof.Machine.execRor t core rd ra rb s
  | .mul t core rd ra rb => Sys2Proof.Machine.execMul t core rd ra rb s
  | .mulh t core rd ra rb => Sys2Proof.Machine.execMulh t core rd ra rb s
  | .mulhu t core rd ra rb => Sys2Proof.Machine.execMulhu t core rd ra rb s
  | .divs t core rd ra rb => Sys2Proof.Machine.execDivs t core rd ra rb s
  | .divu t core rd ra rb => Sys2Proof.Machine.execDivu t core rd ra rb s
  | .rems t core rd ra rb => Sys2Proof.Machine.execRems t core rd ra rb s
  | .remu t core rd ra rb => Sys2Proof.Machine.execRemu t core rd ra rb s
  | .min t core rd ra rb => Sys2Proof.Machine.execMin t core rd ra rb s
  | .max t core rd ra rb => Sys2Proof.Machine.execMax t core rd ra rb s
  | .minu t core rd ra rb => Sys2Proof.Machine.execMinu t core rd ra rb s
  | .maxu t core rd ra rb => Sys2Proof.Machine.execMaxu t core rd ra rb s
  | .abs t core rd ra => Sys2Proof.Machine.execAbs t core rd ra s
  | .clz t core rd ra => Sys2Proof.Machine.execClz t core rd ra s
  | .sextb t core rd ra => Sys2Proof.Machine.execSextb t core rd ra s
  | .sexth t core rd ra => Sys2Proof.Machine.execSexth t core rd ra s
  | .zextb t core rd ra => Sys2Proof.Machine.execZextb t core rd ra s
  | .zexth t core rd ra => Sys2Proof.Machine.execZexth t core rd ra s
  | .bswap t core rd ra => Sys2Proof.Machine.execBswap t core rd ra s
  | .tst t core ra rb => Sys2Proof.Machine.execTst t core ra rb s
  | .addi t core rd ra imm => Sys2Proof.Machine.execAddi t core rd ra imm s
  | .andi t core rd ra imm => Sys2Proof.Machine.execAndi t core rd ra imm s
  | .ori t core rd ra imm => Sys2Proof.Machine.execOri t core rd ra imm s
  | .xori t core rd ra imm => Sys2Proof.Machine.execXori t core rd ra imm s
  | .cmpi t core ra imm => Sys2Proof.Machine.execCmpi t core ra imm s
  | .shiShl t core rd ra n => Sys2Proof.Machine.execShiShl t core rd ra n s
  | .shiShr t core rd ra n => Sys2Proof.Machine.execShiShr t core rd ra n s
  | .shiSar t core rd ra n => Sys2Proof.Machine.execShiSar t core rd ra n s
  | .shiRor t core rd ra n => Sys2Proof.Machine.execShiRor t core rd ra n s
  | .movi t core rd imm => Sys2Proof.Machine.execMovi t core rd imm s
  | .lui t core rd imm => Sys2Proof.Machine.execLui t core rd imm s
  | .ldw t core rd ra imm => Sys2Proof.Machine.execLdw t core rd ra imm s
  | .ldh t core rd ra imm => Sys2Proof.Machine.execLdh t core rd ra imm s
  | .ldhu t core rd ra imm => Sys2Proof.Machine.execLdhu t core rd ra imm s
  | .ldb t core rd ra imm => Sys2Proof.Machine.execLdb t core rd ra imm s
  | .ldbu t core rd ra imm => Sys2Proof.Machine.execLdbu t core rd ra imm s
  | .stw t core rd ra imm => Sys2Proof.Machine.execStw t core rd ra imm s
  | .sth t core rd ra imm => Sys2Proof.Machine.execSth t core rd ra imm s
  | .stb t core rd ra imm => Sys2Proof.Machine.execStb t core rd ra imm s
  | .ldwp t core rd ra imm => Sys2Proof.Machine.execLdwp t core rd ra imm s
  | .stwp t core rd ra imm => Sys2Proof.Machine.execStwp t core rd ra imm s
  | .pushm t core mask => Sys2Proof.Machine.execPushm t core mask s
  | .popm t core mask => Sys2Proof.Machine.execPopm t core mask s
  | .inPort t core rd ra abs imm => Sys2Proof.Machine.execInPort t core rd ra abs imm s
  | .outPort t core rd ra abs imm => Sys2Proof.Machine.execOutPort t core rd ra abs imm s
  | .bCond t core cond imm => Sys2Proof.Machine.execBCond t core cond imm s
  | .jmp t core imm => Sys2Proof.Machine.execJmp t core imm s
  | .call t core imm => Sys2Proof.Machine.execCall t core imm s
  | .jr t core ra => Sys2Proof.Machine.execJr t core ra s
  | .callr t core ra => Sys2Proof.Machine.execCallr t core ra s
  | .nop t core => Sys2Proof.Machine.execNop t core s
  | .doneStep t core => Sys2Proof.Machine.execDoneStep t core s
  | .again t core => Sys2Proof.Machine.execAgain t core s
  | .wfi t core => Sys2Proof.Machine.execWfi t core s
  | .rete t core => Sys2Proof.Machine.execRete t core s
  | .trap t core imm8 => Sys2Proof.Machine.execTrap t core imm8 s
  | .brk t core => Sys2Proof.Machine.execBrk t core s
  | .fence t core => Sys2Proof.Machine.execFence t core s
  | .rep t core form ra count => Sys2Proof.Machine.execRep t core form ra count s
  | .mac t core acc px py mx my => Sys2Proof.Machine.execMac t core acc px py mx my s
  | .msu t core acc px py mx my => Sys2Proof.Machine.execMsu t core acc px py mx my s
  | .mpy t core acc px py mx my => Sys2Proof.Machine.execMpy t core acc px py mx my s
  | .macu t core acc px py mx my => Sys2Proof.Machine.execMacu t core acc px py mx my s
  | .macr t core acc ra rb => Sys2Proof.Machine.execMacr t core acc ra rb s
  | .msur t core acc ra rb => Sys2Proof.Machine.execMsur t core acc ra rb s
  | .mpyr t core acc ra rb => Sys2Proof.Machine.execMpyr t core acc ra rb s
  | .macur t core acc ra rb => Sys2Proof.Machine.execMacur t core acc ra rb s
  | .aclr t core acc => Sys2Proof.Machine.execAclr t core acc s
  | .amov t core acc => Sys2Proof.Machine.execAmov t core acc s
  | .aadd t core acc opt => Sys2Proof.Machine.execAadd t core acc opt s
  | .ash t core acc opt imm6 => Sys2Proof.Machine.execAsh t core acc opt imm6 s
  | .aext t core rd acc opt imm6 => Sys2Proof.Machine.execAext t core rd acc opt imm6 s
  | .ard t core rd acc imm6 => Sys2Proof.Machine.execArd t core rd acc imm6 s
  | .awr t core acc ra imm6 => Sys2Proof.Machine.execAwr t core acc ra imm6 s
  | .wait t core cp rd ra => Sys2Proof.Machine.execWait t core cp rd ra s
  | .poll t core cp rd ra => Sys2Proof.Machine.execPoll t core cp rd ra s
  | .cpCancel t core cp rd ra => Sys2Proof.Machine.execCpCancel t core cp rd ra s
  | .dataTx t core rd ra rb func => Sys2Proof.Machine.execDataTx t core rd ra rb func s
  | .dataRx t core rd ra rb => Sys2Proof.Machine.execDataRx t core rd ra rb s
  | .compute t core rd ra rb func => Sys2Proof.Machine.execCompute t core rd ra rb func s
  | .verify t core rd ra rb => Sys2Proof.Machine.execVerify t core rd ra rb s
  | .solve t core rd ra rb func => Sys2Proof.Machine.execSolve t core rd ra rb func s
  | .get t core rd ra rb func => Sys2Proof.Machine.execGet t core rd ra rb func s
  | .cpCompletion t core cp code detail data => Sys2Proof.Machine.execCpCompletion t core cp code detail data s
  | .interrupt t core => Sys2Proof.Machine.execInterrupt t core s
  | .timerWrite t core v => Sys2Proof.Machine.execTimerWrite t core v s
  | .timerExpired t core => Sys2Proof.Machine.execTimerExpired t core s
  | .sliceWarning t core => Sys2Proof.Machine.execSliceWarning t core s
  | .mboxInWrite t port priv core v => Sys2Proof.Machine.execMboxInWrite t port priv core v s
  | .mboxInRead t core => Sys2Proof.Machine.execMboxInRead t core s
  | .envAddr t core a => Sys2Proof.Machine.execEnvAddr t core a s
  | .regData t core write v => Sys2Proof.Machine.execRegData t core write v s
  | .rangeData t core => Sys2Proof.Machine.execRangeData t core s
  | .faultReloadDone t core => Sys2Proof.Machine.execFaultReloadDone t core s
  | .release t port priv core => Sys2Proof.Machine.execRelease t port priv core s
  | .scrub t find bitNo bank row hard copyBad => Sys2Proof.Machine.execScrub t find bitNo bank row hard copyBad s
  | .mergeDrain t arr => Sys2Proof.Machine.execMergeDrain t arr s
  | .flipArm t port priv w => Sys2Proof.Machine.execFlipArm t port priv w s
  | .bucketLeak t => Sys2Proof.Machine.execBucketLeak t s
  | .pageOperationStart t bank mv => Sys2Proof.Machine.execPageOperationStart t bank mv s
  | .pageOperationEnd t bank => Sys2Proof.Machine.execPageOperationEnd t bank s
  | .recallDone t => Sys2Proof.Machine.execRecallDone t s
  | .marginRead t find => Sys2Proof.Machine.execMarginRead t find s
  | .marginNow t => Sys2Proof.Machine.execMarginNow t s
  | .pltAccRead t port find => Sys2Proof.Machine.execPltAccRead t port find s
  | .pltAccWrite t port priv => Sys2Proof.Machine.execPltAccWrite t port priv s
  | .vholdWaitTimeout t => Sys2Proof.Machine.execVholdWaitTimeout t s
  | .archiveAppend t => Sys2Proof.Machine.execArchiveAppend t s
  | .sealRetry t => Sys2Proof.Machine.execSealRetry t s
  | .archiveExport t slot => Sys2Proof.Machine.execArchiveExport t slot s
  | .fuseReadDone t words remaps spares => Sys2Proof.Machine.execFuseReadDone t words remaps spares s
  | .flashDiscovery t id mib ok fast headA headB => Sys2Proof.Machine.execFlashDiscovery t id mib ok fast headA headB s
  | .slotCopyDone t slot answered image poison => Sys2Proof.Machine.execSlotCopyDone t slot answered image poison s
  | .bootRecord t => Sys2Proof.Machine.execBootRecord t s
  | .retryBoot t port priv => Sys2Proof.Machine.execRetryBoot t port priv s
  | .switch t port priv slot => Sys2Proof.Machine.execSwitch t port priv slot s
  | .switchFinish t => Sys2Proof.Machine.execSwitchFinish t s
  | .recopy t record answered image poison => Sys2Proof.Machine.execRecopy t record answered image poison s
  | .read t port priv addr kib slot => Sys2Proof.Machine.execRead t port priv addr kib slot s
  | .program t port priv addr kib slot => Sys2Proof.Machine.execProgram t port priv addr kib slot s
  | .erase4 t port priv addr => Sys2Proof.Machine.execErase4 t port priv addr s
  | .erase64 t port priv addr => Sys2Proof.Machine.execErase64 t port priv addr s
  | .flashOpDone t answered data => Sys2Proof.Machine.execFlashOpDone t answered data s
  | .domainOff t d => Sys2Proof.Machine.execDomainOff t d s
  | .domainOn t d => Sys2Proof.Machine.execDomainOn t d s
  | .domainSequenceDone t d => Sys2Proof.Machine.execDomainSequenceDone t d s
  | .doze t d idle => Sys2Proof.Machine.execDoze t d idle s
  | .s2Entry t => Sys2Proof.Machine.execS2Entry t s
  | .s3Entry t => Sys2Proof.Machine.execS3Entry t s
  | .pollLeadTimer t => Sys2Proof.Machine.execPollLeadTimer t s
  | .wake t src pin => Sys2Proof.Machine.execWake t src pin s
  | .wakeDone t aon => Sys2Proof.Machine.execWakeDone t aon s
  | .offCmd t => Sys2Proof.Machine.execOffCmd t s
  | .reversal t d => Sys2Proof.Machine.execReversal t d s
  | .voltageCommand t mv => Sys2Proof.Machine.execVoltageCommand t mv s
  | .temperatureBand t band => Sys2Proof.Machine.execTemperatureBand t band s
  | .avsAck t status => Sys2Proof.Machine.execAvsAck t status s
  | .voutRead t vout vmon => Sys2Proof.Machine.execVoutRead t vout vmon s
  | .avsFailure t kind status => Sys2Proof.Machine.execAvsFailure t kind status s
  | .fallbackRead t vout vmon good => Sys2Proof.Machine.execFallbackRead t vout vmon good s
  | .wakePinFire t p active => Sys2Proof.Machine.execWakePinFire t p active s
  | .claim t slot n => Sys2Proof.Machine.execClaim t slot n s
  | .give t slot n => Sys2Proof.Machine.execGive t slot n s
  | .return t slot n => Sys2Proof.Machine.execReturn t slot n s
  | .bar2Write t off data poison => Sys2Proof.Machine.execBar2Write t off data poison s
  | .flushTimeout t => Sys2Proof.Machine.execFlushTimeout t s
  | .evtFlush t => Sys2Proof.Machine.execEvtFlush t s
  | .statsSnapshot t => Sys2Proof.Machine.execStatsSnapshot t s
  | .statsGo t => Sys2Proof.Machine.execStatsGo t s
  | .vectorSend t v granted masked d3hot => Sys2Proof.Machine.execVectorSend t v granted masked d3hot s
  | .msiUnmask t v => Sys2Proof.Machine.execMsiUnmask t v s
  | .hostReset t hot => Sys2Proof.Machine.execHostReset t hot s
  | .linkDownTimeout t => Sys2Proof.Machine.execLinkDownTimeout t s
  | .portTrainingDone t p kept skew reversed snr => Sys2Proof.Machine.execPortTrainingDone t p kept skew reversed snr s
  | .hello t p devid dev nonce down master => Sys2Proof.Machine.execHello t p devid dev nonce down master s
  | .pairing t p held check => Sys2Proof.Machine.execPairing t p held check s
  | .ident t p devid dev hops salt npart part master => Sys2Proof.Machine.execIdent t p devid dev hops salt npart part master s
  | .map t p gen anchorSeq members => Sys2Proof.Machine.execMap t p gen anchorSeq members s
  | .blnLinkDown t p cause far => Sys2Proof.Machine.execBlnLinkDown t p cause far s
  | .refusalRetry t p => Sys2Proof.Machine.execRefusalRetry t p s
  | .retrain t p => Sys2Proof.Machine.execRetrain t p s
  | .syncPeriod t p ce ue => Sys2Proof.Machine.execSyncPeriod t p ce ue s
  | .timeExchange t p t1 t2 t3 t4 corrFwd corrBack era count offset leap stale => Sys2Proof.Machine.execTimeExchange t p t1 t2 t3 t4 corrFwd corrBack era count offset leap stale s
  | .req t p src dst srcUnit dstUnit srcEpoch dstEpoch tag poison payload => Sys2Proof.Machine.execReq t p src dst srcUnit dstUnit srcEpoch dstEpoch tag poison payload s
  | .rply t p src dst srcUnit dstUnit reqEpoch tgtEpoch tag poison payload => Sys2Proof.Machine.execRply t p src dst srcUnit dstUnit reqEpoch tgtEpoch tag poison payload s
  | .envFrame t p src dst payload => Sys2Proof.Machine.execEnvFrame t p src dst payload s
  | .raccGo t => Sys2Proof.Machine.execRaccGo t s
  | .racc t p src dst srcEpoch dstEpoch tag write off data => Sys2Proof.Machine.execRacc t p src dst srcEpoch dstEpoch tag write off data s
  | .raccTimeout t => Sys2Proof.Machine.execRaccTimeout t s
  | .writeTransfer t bytes smbus pecOn pecBad => Sys2Proof.Machine.execWriteTransfer t bytes smbus pecOn pecBad s
  | .readTransfer t off n smbus => Sys2Proof.Machine.execReadTransfer t off n smbus s
  | .enec t events => Sys2Proof.Machine.execEnec t events s
  | .disec t events => Sys2Proof.Machine.execDisec t events s
  | .rstdaa t => Sys2Proof.Machine.execRstdaa t s
  | .entdaa t da => Sys2Proof.Machine.execEntdaa t da s
  | .setdasa t static da => Sys2Proof.Machine.execSetdasa t static da s
  | .getpid t => Sys2Proof.Machine.execGetpid t s
  | .getbcr t => Sys2Proof.Machine.execGetbcr t s
  | .getdcr t => Sys2Proof.Machine.execGetdcr t s
  | .getstatus t => Sys2Proof.Machine.execGetstatus t s
  | .getmwl t => Sys2Proof.Machine.execGetmwl t s
  | .getmrl t => Sys2Proof.Machine.execGetmrl t s
  | .alertResponse t => Sys2Proof.Machine.execAlertResponse t s
  | .envBufWrite t port w => Sys2Proof.Machine.execEnvBufWrite t port w s
  | .mgtEnvSubmit t port len => Sys2Proof.Machine.execMgtEnvSubmit t port len s
  | .recon t u => Sys2Proof.Machine.execRecon t u s
  | .probe t => Sys2Proof.Machine.execProbe t s
  | .announce t bus nodeId kind ver nonce => Sys2Proof.Machine.execAnnounce t bus nodeId kind ver nonce s
  | .confirm t bus handle frame => Sys2Proof.Machine.execConfirm t bus handle frame s
  | .assignTimeout t handle => Sys2Proof.Machine.execAssignTimeout t handle s
  | .beat t bus handle => Sys2Proof.Machine.execBeat t bus handle s
  | .leave t bus handle frame => Sys2Proof.Machine.execLeave t bus handle frame s
  | .departure t handle => Sys2Proof.Machine.execDeparture t handle s
  | .temp t die temp => Sys2Proof.Machine.execTemp t die temp s
  | .idCmd t => Sys2Proof.Machine.execIdCmd t s
  | .status t => Sys2Proof.Machine.execStatus t s
  | .nonce t => Sys2Proof.Machine.execNonce t s
  | .envCmd t envelope => Sys2Proof.Machine.execEnvCmd t envelope s
  | .rd t off n => Sys2Proof.Machine.execRd t off n s
  | .wr t off val => Sys2Proof.Machine.execWr t off val s
  | .dbg t core on => Sys2Proof.Machine.execDbg t core on s
  | .halt t core => Sys2Proof.Machine.execHalt t core s
  | .regs t core => Sys2Proof.Machine.execRegs t core s
  | .mrd t core space addr n => Sys2Proof.Machine.execMrd t core space addr n s
  | .mwr t core space addr val => Sys2Proof.Machine.execMwr t core space addr val s
  | .step t core => Sys2Proof.Machine.execStep t core s
  | .goCmd t core => Sys2Proof.Machine.execGoCmd t core s
  | .lineTimeout t last => Sys2Proof.Machine.execLineTimeout t last s
  | .monitorGrantEnd t => Sys2Proof.Machine.execMonitorGrantEnd t s
  | .railFault t rail mv straps => Sys2Proof.Machine.execRailFault t rail mv straps s
  | .resetPin t straps => Sys2Proof.Machine.execResetPin t straps s
  | .vholdCapEstimate t fromMv us => Sys2Proof.Machine.execVholdCapEstimate t fromMv us s
  | .xtal t crystal ppm ok => Sys2Proof.Machine.execXtal t crystal ppm ok s
  | .sesCtxDataRead t port priv => Sys2Proof.Machine.execSesCtxDataRead t port priv s
  | .ephRecDataRead t port priv => Sys2Proof.Machine.execEphRecDataRead t port priv s
  | .shuRelDataRead t port priv => Sys2Proof.Machine.execShuRelDataRead t port priv s
  | .helCmDataRead t port priv => Sys2Proof.Machine.execHelCmDataRead t port priv s
  | .almAncDataRead t port priv => Sys2Proof.Machine.execAlmAncDataRead t port priv s
  | .almRegDataRead t port priv => Sys2Proof.Machine.execAlmRegDataRead t port priv s
  | .almResDataRead t port priv => Sys2Proof.Machine.execAlmResDataRead t port priv s
  | .astScriptDataRead t port priv => Sys2Proof.Machine.execAstScriptDataRead t port priv s
  | .memRemapDataRead t port priv => Sys2Proof.Machine.execMemRemapDataRead t port priv s
  | .memLogDataRead t port priv => Sys2Proof.Machine.execMemLogDataRead t port priv s
  | .bootFuseDataRead t port priv => Sys2Proof.Machine.execBootFuseDataRead t port priv s
  | .hifFlagDataRead t port priv => Sys2Proof.Machine.execHifFlagDataRead t port priv s
  | .mgtFndDataRead t port priv => Sys2Proof.Machine.execMgtFndDataRead t port priv s
  | .pinPadDataRead t port priv oe level => Sys2Proof.Machine.execPinPadDataRead t port priv oe level s
  | .lateLock t trx => Sys2Proof.Machine.execLateLock t trx s
  | .currentBinWrite t trx b => Sys2Proof.Machine.execCurrentBinWrite t trx b s
  | .busOffRecovered t bus => Sys2Proof.Machine.execBusOffRecovered t bus s
  | .illegal t core => Sys2Proof.Machine.execIllegal t core s
  | .coproc t core => Sys2Proof.Machine.execCoproc t core s
  | .vholdLow t mv => Sys2Proof.Machine.execVholdLow t mv s
  | .vholdGood t mv => Sys2Proof.Machine.execVholdGood t mv s
  | .vmonStable t vmon => Sys2Proof.Machine.execVmonStable t vmon s
  | .pcieLinkDown t => Sys2Proof.Machine.execPcieLinkDown t s
  | .pcieLinkUp t rate width flit => Sys2Proof.Machine.execPcieLinkUp t rate width flit s
  | .hotJoin t => Sys2Proof.Machine.execHotJoin t s

end Sys2Proof.Machine
end

