-- ==== Sys2Proof/WellFormed.lean ====
section
/-! DEFINITION. Which commands are well formed: every index, register number, address and immediate lies in the range the
hardware gives it, so that its encoding, or the register it names, exists. The meanings are total: a command that is not
well formed has one too (log entry 1). -/

namespace Sys2Proof

/-- An operand lies below a bound. -/
def below (v bound : Nat) : Bool := decide (v < bound)

/-- An operand fits in a number of bits. -/
def fits (v width : Nat) : Bool := decide (v < 2 ^ width)

/-- The operands of a command lie in the ranges of the hardware. -/
def wf (i : Instr) : Bool :=
  match i with
  | .deviceReset _ straps => below straps.dev 8 && below straps.pol 4
  | .registerWrite t port _ off _ w => fits t 64 && below port 20 && fits off 23 && fits w 32
  | .registerLoRead t port _ off => fits t 64 && below port 20 && fits off 23
  | .clrCnt t port _ u => fits t 64 && below port 20 && below u 24
  | .lock t port _ u => fits t 64 && below port 20 && below u 24
  | .dieLinkPacketCrcFail t _ _ => fits t 64
  | .dieLinkRetrainDone t _ => fits t 64
  | .unitReset t port _ u cmd => fits t 64 && below port 20 && below u 24 && below cmd 8
  | .unitCommand t port _ u cmd => fits t 64 && below port 20 && below u 24 && below cmd 8
  | .unitStateReached t u => fits t 64 && below u 24
  | .mismatchTimeout t u => fits t 64 && below u 24
  | .interUnitRequest t src dst srcEpoch dstEpoch => fits t 64 && below src 24 && below dst 24 && fits srcEpoch 16 && fits dstEpoch 16
  | .unitReply t u epoch => fits t 64 && below u 24 && fits epoch 16
  | .meridianWrap => true
  | .aonRatioWindow t ratio => fits t 64 && fits ratio 32
  | .civilCheckpoint t => fits t 64
  | .trimReq t _ => fits t 64
  | .trimSpent t => fits t 64
  | .timeNonceRead t port => fits t 64 && below port 20
  | .civilOffsetSet t port _ lo hi => fits t 64 && below port 20 && fits lo 32 && fits hi 32
  | .civilLeapSet t port _ leap => fits t 64 && below port 20 && below leap 256
  | .acquireAloneTimeout t => fits t 64
  | .lockAchieved t _ => fits t 64
  | .holdoverEntry t => fits t 64
  | .holdLimitExpired t => fits t 64
  | .loopUpdate t z _ => fits t 64 && below z 32
  | .trip t n => fits t 64 && below n 64
  | .testTimeout t n => fits t 64 && below n 64
  | .channelModeWrite t n mode => fits t 64 && below n 64 && below mode 4
  | .helCalAll t => fits t 64
  | .helCalOne t n => fits t 64 && below n 64
  | .tuningCalDone t n _ _ _ _ _ => fits t 64 && below n 64
  | .measAll t => fits t 64
  | .measOne t n => fits t 64 && below n 64
  | .solveAll t => fits t 64
  | .solveOne t z => fits t 64 && below z 32
  | .helQuarClear t _ w => fits t 64 && fits w 32
  | .measSlotGrant t _ => fits t 64
  | .columnDone t _ _ => fits t 64
  | .remeasPeriod t => fits t 64
  | .zoneSolveDone t => fits t 64
  | .lockGuard t n => fits t 64 && below n 64
  | .pollOwnerRequest t e => fits t 64 && below e 64
  | .pollDue t e => fits t 64 && below e 64
  | .exchangeCommit t => fits t 64
  | .directedWake t n _ _ _ _ => fits t 64 && fits n 15
  | .wakeWindowExpired t n => fits t 64 && fits n 15
  | .sofDetected t z => fits t 64 && below z 32
  | .turnaroundExpired t z _ => fits t 64 && below z 32
  | .replyReceived t z _ _ _ _ _ => fits t 64 && below z 32
  | .drown t z _ _ _ => fits t 64 && below z 32
  | .hopResend t n => fits t 64 && fits n 15
  | .burstEnd t z => fits t 64 && below z 32
  | .pollSkip t e => fits t 64 && below e 64
  | .lfpHopWrite t k carrier => fits t 64 && below k 3 && fits carrier 21
  | .monitorRun t _ _ => fits t 64
  | .coilFault t n kind => fits t 64 && below n 64 && below kind 4
  | .stateRequest t trx owner target ch9 _ step _ follow _ _ _ _ => fits t 64 && below trx 20 && below owner 8 && below target 8 && below ch9 2 && below step 64 && below follow 8
  | .stepComplete t trx _ => fits t 64 && below trx 20
  | .synthLockTimeout t trx => fits t 64 && below trx 20
  | .synthHoldExpired t trx => fits t 64 && below trx 20
  | .stbyHoldExpired t trx => fits t 64 && below trx 20
  | .park t trx _ => fits t 64 && below trx 20
  | .rapidBitTimeout t trx => fits t 64 && below trx 16
  | .transmissionEnd t trx => fits t 64 && below trx 20
  | .transmissionCut t trx => fits t 64 && below trx 20
  | .uhfFrameReceived t trx _ payload _ => fits t 64 && below trx 20 && below payload.length 256
  | .ledgerMinute t => fits t 64
  | .ownershipGrant t trx owner => fits t 64 && below trx 20 && below owner 8
  | .handover t trx owner => fits t 64 && below trx 20 && below owner 8
  | .radCalAll t => fits t 64
  | .radCalOne t trx => fits t 64 && below trx 20
  | .tempCalTrigger t trx _ => fits t 64 && below trx 20
  | .calItemDone t trx _ _ _ _ => fits t 64 && below trx 20
  | .watchCycle t => fits t 64
  | .exchangeRequest t n _ => fits t 64 && fits n 15
  | .pollCommit t trx => fits t 64 && below trx 16
  | .respReceived t trx _ => fits t 64 && below trx 16
  | .finalSend t trx => fits t 64 && below trx 16
  | .reportReceived t trx _ => fits t 64 && below trx 16
  | .noFrame t trx => fits t 64 && below trx 16
  | .retry t trx => fits t 64 && below trx 16
  | .prearmHoldExpired t n => fits t 64 && fits n 15
  | .remoteRangeTimeout t n => fits t 64 && fits n 15
  | .trnCalStart t => fits t 64
  | .trnCalDone t _ => fits t 64
  | .antennaDelayWrite t trx _ _ => fits t 64 && below trx 16
  | .boundRequest t n => fits t 64 && fits n 15
  | .vectorsLoaded t n => fits t 64 && fits n 15
  | .precompHoldExpired t n => fits t 64 && fits n 15
  | .burnFree t => fits t 64
  | .rapidBitCommit t trx _ => fits t 64 && below trx 16
  | .searchWindowClose t trx _ => fits t 64 && below trx 16
  | .boundDecision t n _ => fits t 64 && fits n 15
  | .dbxRetry t trx => fits t 64 && below trx 16
  | .locateRequest t n _ => fits t 64 && fits n 15
  | .solveDone t _ => fits t 64
  | .remoteSolveRequest t dev tag _ => fits t 64 && below dev 8 && fits tag 32
  | .solveTimeout t n => fits t 64 && fits n 15
  | .sessionOpen t kind _ core _ => fits t 64 && below kind 4 && below core 17
  | .lookupResult t n => fits t 64 && fits n 15
  | .checkValueResult t n => fits t 64 && fits n 15
  | .rangeResult t n => fits t 64 && fits n 15
  | .deadlineExpired t n => fits t 64 && fits n 15
  | .sessionMaxExpired t n => fits t 64 && fits n 15
  | .sesCancel t n _ => fits t 64 && fits n 15
  | .creditWaitExpired t n => fits t 64 && fits n 15
  | .sliceMaxExpired t core => fits t 64 && below core 16
  | .creditGrant t => fits t 64
  | .completionConsume t => fits t 64
  | .stepDispatch t core n => fits t 64 && below core 16 && fits n 15
  | .poolSizeWrite t k size => fits t 64 && below k 11 && fits size 16
  | .buttonFrame t trx payload => fits t 64 && below trx 20 && below payload.length 256
  | .perTokenUpdateCommit t n => fits t 64 && fits n 15
  | .perTokenUpdateTimeout t n => fits t 64 && fits n 15
  | .grant t core => fits t 64 && below core 16
  | .refuse t core code => fits t 64 && below core 16 && fits code 32
  | .cancel t core code => fits t 64 && below core 16 && fits code 32
  | .decisionCommitted t n => fits t 64 && fits n 15
  | .releaseAction t e => fits t 64 && fits e 15
  | .senseChange t o _ _ => fits t 64 && below o 16
  | .outputFault t o _ => fits t 64 && below o 16
  | .pulseEnd t o => fits t 64 && below o 16
  | .openLoadTest t o _ => fits t 64 && below o 16
  | .releaseTimeout t e => fits t 64 && fits e 15
  | .closingRecordCommit t e => fits t 64 && fits e 15
  | .queuedReleaseStart t o => fits t 64 && below o 16
  | .clrFault t o => fits t 64 && below o 16
  | .test t port _ o => fits t 64 && below port 20 && below o 16
  | .openReleaseResolve t entry => fits t 64 && below entry 256
  | .nodeAckTimeout t e => fits t 64 && fits e 15
  | .ack t bus id _ => fits t 64 && below bus 2 && fits id 29
  | .passageReport t bus id _ => fits t 64 && below bus 2 && fits id 29
  | .nodeRefuse t bus id _ => fits t 64 && below bus 2 && fits id 29
  | .busOff t bus _ => fits t 64 && below bus 2
  | .restart t bus => fits t 64 && below bus 2
  | .permitResend t e => fits t 64 && fits e 15
  | .statusQuery t e => fits t 64 && fits e 15
  | .vehicleReply t e _ => fits t 64 && fits e 15
  | .lookup t n _ => fits t 64 && fits n 15
  | .pageFetchDone t page _ _ => fits t 64 && fits page 17
  | .enrolToken t core _ _ => fits t 64 && below core 17
  | .enrolCode t token kv template expDay num digits => fits t 64 && fits token 24 && below kv 16 && below template 16 && fits expDay 16 && below num 16 && fits digits 64
  | .revoke t core token => fits t 64 && below core 17 && fits token 24
  | .suspend t => fits t 64
  | .resume t => fits t 64
  | .attr t => fits t 64
  | .remove t => fits t 64
  | .adopt t => fits t 64
  | .format t => fits t 64
  | .journalCommit t jseq => fits t 64 && fits jseq 32
  | .followOnDone t jseq => fits t 64 && fits jseq 32
  | .changeWaitExpired t => fits t 64
  | .rootCheck t _ _ => fits t 64
  | .sweepPage t _ _ => fits t 64
  | .compactionStart t => fits t 64
  | .compactNow t => fits t 64
  | .compactionStepDone t code => fits t 64 && below code 256
  | .find t token => fits t 64 && fits token 24
  | .envelopeSubmit t slot => fits t 64 && fits slot 14
  | .vendor t => fits t 64
  | .commission t => fits t 64
  | .field t => fits t 64
  | .decommission t => fits t 64
  | .migrate t => fits t 64
  | .rekey t => fits t 64
  | .policy t => fits t 64
  | .lockSet t => fits t 64
  | .ephTemplate t => fits t 64
  | .timeEnv t => fits t 64
  | .view t => fits t 64
  | .monitor t => fits t 64
  | .unitEnv t => fits t 64
  | .pendingTransitionResolve t => fits t 64
  | .domNonceRead t port => fits t 64 && below port 20
  | .attestationRequest t _ gslot wslot => fits t 64 && below gslot 8 && fits wslot 14
  | .exportDone t => fits t 64
  | .tamperDetect t live => fits t 64 && below live 32
  | .remask t => fits t 64
  | .keyDerivation t cls unit n => fits t 64 && below cls 16 && below unit 24 && fits n 16
  | .workingKeyLoad t cls unit n _ => fits t 64 && below cls 16 && below unit 24 && fits n 16
  | .keygen t core _ _ _ => fits t 64 && below core 16
  | .keydel t core slot => fits t 64 && below core 16 && below slot 8
  | .viewGrantEnd t port => fits t 64 && below port 20
  | .kceRequest t lane n level _ _ _ _ => fits t 64 && below lane 8 && fits n 15 && below level 4
  | .kceMessageDone t _ _ _ => fits t 64
  | .kceAging t _ => fits t 64
  | .maskWaitTimeout t => fits t 64
  | .katRun t => fits t 64
  | .alarmTest t => fits t 64
  | .healthFail t _ inst => fits t 64 && below inst 12
  | .sourceRestart t => fits t 64
  | .startupTestDone t => fits t 64
  | .blockConditioned t => fits t 64
  | .statsWindow t _ _ _ _ => fits t 64
  | .generateRequest t inst n _ => fits t 64 && below inst 12 && fits n 15
  | .reseed t inst => fits t 64 && below inst 12
  | .reseedAll t => fits t 64
  | .rngHostDataRead t port => fits t 64 && below port 20
  | .rngHostBulk t slot _ => fits t 64 && fits slot 14
  | .testPattern t _ => fits t 64
  | .rawCapture t _ slot _ => fits t 64 && fits slot 14
  | .add t core rd ra rb => fits t 64 && below core 16 && below rd 16 && below ra 16 && below rb 16
  | .addc t core rd ra rb => fits t 64 && below core 16 && below rd 16 && below ra 16 && below rb 16
  | .sub t core rd ra rb => fits t 64 && below core 16 && below rd 16 && below ra 16 && below rb 16
  | .subb t core rd ra rb => fits t 64 && below core 16 && below rd 16 && below ra 16 && below rb 16
  | .neg t core rd ra => fits t 64 && below core 16 && below rd 16 && below ra 16
  | .cmp t core ra rb => fits t 64 && below core 16 && below ra 16 && below rb 16
  | .andR t core rd ra rb => fits t 64 && below core 16 && below rd 16 && below ra 16 && below rb 16
  | .orR t core rd ra rb => fits t 64 && below core 16 && below rd 16 && below ra 16 && below rb 16
  | .xorR t core rd ra rb => fits t 64 && below core 16 && below rd 16 && below ra 16 && below rb 16
  | .andn t core rd ra rb => fits t 64 && below core 16 && below rd 16 && below ra 16 && below rb 16
  | .notR t core rd ra => fits t 64 && below core 16 && below rd 16 && below ra 16
  | .mov t core rd ra => fits t 64 && below core 16 && below rd 16 && below ra 16
  | .shl t core rd ra rb => fits t 64 && below core 16 && below rd 16 && below ra 16 && below rb 16
  | .shr t core rd ra rb => fits t 64 && below core 16 && below rd 16 && below ra 16 && below rb 16
  | .sar t core rd ra rb => fits t 64 && below core 16 && below rd 16 && below ra 16 && below rb 16
  | .ror t core rd ra rb => fits t 64 && below core 16 && below rd 16 && below ra 16 && below rb 16
  | .mul t core rd ra rb => fits t 64 && below core 16 && below rd 16 && below ra 16 && below rb 16
  | .mulh t core rd ra rb => fits t 64 && below core 16 && below rd 16 && below ra 16 && below rb 16
  | .mulhu t core rd ra rb => fits t 64 && below core 16 && below rd 16 && below ra 16 && below rb 16
  | .divs t core rd ra rb => fits t 64 && below core 16 && below rd 16 && below ra 16 && below rb 16
  | .divu t core rd ra rb => fits t 64 && below core 16 && below rd 16 && below ra 16 && below rb 16
  | .rems t core rd ra rb => fits t 64 && below core 16 && below rd 16 && below ra 16 && below rb 16
  | .remu t core rd ra rb => fits t 64 && below core 16 && below rd 16 && below ra 16 && below rb 16
  | .min t core rd ra rb => fits t 64 && below core 16 && below rd 16 && below ra 16 && below rb 16
  | .max t core rd ra rb => fits t 64 && below core 16 && below rd 16 && below ra 16 && below rb 16
  | .minu t core rd ra rb => fits t 64 && below core 16 && below rd 16 && below ra 16 && below rb 16
  | .maxu t core rd ra rb => fits t 64 && below core 16 && below rd 16 && below ra 16 && below rb 16
  | .abs t core rd ra => fits t 64 && below core 16 && below rd 16 && below ra 16
  | .clz t core rd ra => fits t 64 && below core 16 && below rd 16 && below ra 16
  | .sextb t core rd ra => fits t 64 && below core 16 && below rd 16 && below ra 16
  | .sexth t core rd ra => fits t 64 && below core 16 && below rd 16 && below ra 16
  | .zextb t core rd ra => fits t 64 && below core 16 && below rd 16 && below ra 16
  | .zexth t core rd ra => fits t 64 && below core 16 && below rd 16 && below ra 16
  | .bswap t core rd ra => fits t 64 && below core 16 && below rd 16 && below ra 16
  | .tst t core ra rb => fits t 64 && below core 16 && below ra 16 && below rb 16
  | .addi t core rd ra imm => fits t 64 && below core 16 && below rd 16 && below ra 16 && fits imm 18
  | .andi t core rd ra imm => fits t 64 && below core 16 && below rd 16 && below ra 16 && fits imm 18
  | .ori t core rd ra imm => fits t 64 && below core 16 && below rd 16 && below ra 16 && fits imm 18
  | .xori t core rd ra imm => fits t 64 && below core 16 && below rd 16 && below ra 16 && fits imm 18
  | .cmpi t core ra imm => fits t 64 && below core 16 && below ra 16 && fits imm 18
  | .shiShl t core rd ra n => fits t 64 && below core 16 && below rd 16 && below ra 16 && below n 64
  | .shiShr t core rd ra n => fits t 64 && below core 16 && below rd 16 && below ra 16 && below n 64
  | .shiSar t core rd ra n => fits t 64 && below core 16 && below rd 16 && below ra 16 && below n 64
  | .shiRor t core rd ra n => fits t 64 && below core 16 && below rd 16 && below ra 16 && below n 64
  | .movi t core rd imm => fits t 64 && below core 16 && below rd 16 && fits imm 22
  | .lui t core rd imm => fits t 64 && below core 16 && below rd 16 && fits imm 16
  | .ldw t core rd ra imm => fits t 64 && below core 16 && below rd 16 && below ra 16 && fits imm 18
  | .ldh t core rd ra imm => fits t 64 && below core 16 && below rd 16 && below ra 16 && fits imm 18
  | .ldhu t core rd ra imm => fits t 64 && below core 16 && below rd 16 && below ra 16 && fits imm 18
  | .ldb t core rd ra imm => fits t 64 && below core 16 && below rd 16 && below ra 16 && fits imm 18
  | .ldbu t core rd ra imm => fits t 64 && below core 16 && below rd 16 && below ra 16 && fits imm 18
  | .stw t core rd ra imm => fits t 64 && below core 16 && below rd 16 && below ra 16 && fits imm 18
  | .sth t core rd ra imm => fits t 64 && below core 16 && below rd 16 && below ra 16 && fits imm 18
  | .stb t core rd ra imm => fits t 64 && below core 16 && below rd 16 && below ra 16 && fits imm 18
  | .ldwp t core rd ra imm => fits t 64 && below core 16 && below rd 16 && below ra 16 && fits imm 18
  | .stwp t core rd ra imm => fits t 64 && below core 16 && below rd 16 && below ra 16 && fits imm 18
  | .pushm t core mask => fits t 64 && below core 16 && fits mask 16
  | .popm t core mask => fits t 64 && below core 16 && fits mask 16
  | .inPort t core rd ra _ imm => fits t 64 && below core 16 && below rd 16 && below ra 16 && fits imm 12
  | .outPort t core rd ra _ imm => fits t 64 && below core 16 && below rd 16 && below ra 16 && fits imm 12
  | .bCond t core cond imm => fits t 64 && below core 16 && below cond 16 && fits imm 22
  | .jmp t core imm => fits t 64 && below core 16 && fits imm 26
  | .call t core imm => fits t 64 && below core 16 && fits imm 26
  | .jr t core ra => fits t 64 && below core 16 && below ra 16
  | .callr t core ra => fits t 64 && below core 16 && below ra 16
  | .nop t core => fits t 64 && below core 16
  | .doneStep t core => fits t 64 && below core 16
  | .again t core => fits t 64 && below core 16
  | .wfi t core => fits t 64 && below core 16
  | .rete t core => fits t 64 && below core 16
  | .trap t core imm8 => fits t 64 && below core 16 && below imm8 256
  | .brk t core => fits t 64 && below core 16
  | .fence t core => fits t 64 && below core 16
  | .rep t core _ ra count => fits t 64 && below core 16 && below ra 16 && fits count 12
  | .mac t core _ px py mx my => fits t 64 && below core 16 && below px 16 && below py 16 && below mx 32 && below my 32
  | .msu t core _ px py mx my => fits t 64 && below core 16 && below px 16 && below py 16 && below mx 32 && below my 32
  | .mpy t core _ px py mx my => fits t 64 && below core 16 && below px 16 && below py 16 && below mx 32 && below my 32
  | .macu t core _ px py mx my => fits t 64 && below core 16 && below px 16 && below py 16 && below mx 32 && below my 32
  | .macr t core _ ra rb => fits t 64 && below core 16 && below ra 16 && below rb 16
  | .msur t core _ ra rb => fits t 64 && below core 16 && below ra 16 && below rb 16
  | .mpyr t core _ ra rb => fits t 64 && below core 16 && below ra 16 && below rb 16
  | .macur t core _ ra rb => fits t 64 && below core 16 && below ra 16 && below rb 16
  | .aclr t core _ => fits t 64 && below core 16
  | .amov t core _ => fits t 64 && below core 16
  | .aadd t core _ _ => fits t 64 && below core 16
  | .ash t core _ _ imm6 => fits t 64 && below core 16 && below imm6 64
  | .aext t core rd _ _ imm6 => fits t 64 && below core 16 && below rd 16 && below imm6 64
  | .ard t core rd _ imm6 => fits t 64 && below core 16 && below rd 16 && below imm6 3
  | .awr t core _ ra imm6 => fits t 64 && below core 16 && below ra 16 && below imm6 3
  | .wait t core cp rd ra => fits t 64 && below core 16 && below cp 8 && below rd 16 && below ra 16
  | .poll t core cp rd ra => fits t 64 && below core 16 && below cp 8 && below rd 16 && below ra 16
  | .cpCancel t core cp rd ra => fits t 64 && below core 16 && below cp 8 && below rd 16 && below ra 16
  | .dataTx t core rd ra rb func => fits t 64 && below core 16 && below rd 16 && below ra 16 && below rb 16 && fits func 14
  | .dataRx t core rd ra rb => fits t 64 && below core 16 && below rd 16 && below ra 16 && below rb 16
  | .compute t core rd ra rb func => fits t 64 && below core 16 && below rd 16 && below ra 16 && below rb 16 && fits func 14
  | .verify t core rd ra rb => fits t 64 && below core 16 && below rd 16 && below ra 16 && below rb 16
  | .solve t core rd ra rb func => fits t 64 && below core 16 && below rd 16 && below ra 16 && below rb 16 && fits func 14
  | .get t core rd ra rb func => fits t 64 && below core 16 && below rd 16 && below ra 16 && below rb 16 && fits func 14
  | .cpCompletion t core cp code _ _ => fits t 64 && below core 16 && below cp 4 && below code 256
  | .interrupt t core => fits t 64 && below core 16
  | .timerWrite t core v => fits t 64 && below core 16 && fits v 16
  | .timerExpired t core => fits t 64 && below core 16
  | .sliceWarning t core => fits t 64 && below core 16
  | .mboxInWrite t port _ core v => fits t 64 && below port 20 && below core 16 && fits v 32
  | .mboxInRead t core => fits t 64 && below core 16
  | .envAddr t core a => fits t 64 && below core 16 && fits a 32
  | .regData t core _ v => fits t 64 && below core 16 && fits v 32
  | .rangeData t core => fits t 64 && below core 16
  | .faultReloadDone t core => fits t 64 && below core 16
  | .release t port _ core => fits t 64 && below port 20 && below core 16
  | .scrub t _ _ _ _ _ _ => fits t 64
  | .mergeDrain t _ => fits t 64
  | .flipArm t port _ w => fits t 64 && below port 20 && fits w 32
  | .bucketLeak t => fits t 64
  | .pageOperationStart t bank _ => fits t 64 && below bank 4
  | .pageOperationEnd t bank => fits t 64 && below bank 4
  | .recallDone t => fits t 64
  | .marginRead t _ => fits t 64
  | .marginNow t => fits t 64
  | .pltAccRead t port _ => fits t 64 && below port 20
  | .pltAccWrite t port _ => fits t 64 && below port 20
  | .vholdWaitTimeout t => fits t 64
  | .archiveAppend t => fits t 64
  | .sealRetry t => fits t 64
  | .archiveExport t slot => fits t 64 && fits slot 14
  | .fuseReadDone t _ _ _ => fits t 64
  | .flashDiscovery t _ _ _ _ _ _ => fits t 64
  | .slotCopyDone t slot _ _ _ => fits t 64 && below slot 2
  | .bootRecord t => fits t 64
  | .retryBoot t port _ => fits t 64 && below port 20
  | .switch t port _ slot => fits t 64 && below port 20 && below slot 2
  | .switchFinish t => fits t 64
  | .recopy t record _ _ _ => fits t 64 && below record 256
  | .read t port _ addr kib slot => fits t 64 && below port 20 && fits addr 32 && below kib 4 && fits slot 14
  | .program t port _ addr kib slot => fits t 64 && below port 20 && fits addr 32 && below kib 4 && fits slot 14
  | .erase4 t port _ addr => fits t 64 && below port 20 && fits addr 32
  | .erase64 t port _ addr => fits t 64 && below port 20 && fits addr 32
  | .flashOpDone t _ _ => fits t 64
  | .domainOff t d => fits t 64 && below d 9
  | .domainOn t d => fits t 64 && below d 9
  | .domainSequenceDone t d => fits t 64 && below d 9
  | .doze t d _ => fits t 64 && below d 9
  | .s2Entry t => fits t 64
  | .s3Entry t => fits t 64
  | .pollLeadTimer t => fits t 64
  | .wake t src pin => fits t 64 && below src 8 && below pin 8
  | .wakeDone t _ => fits t 64
  | .offCmd t => fits t 64
  | .reversal t d => fits t 64 && below d 10
  | .voltageCommand t _ => fits t 64
  | .temperatureBand t _ => fits t 64
  | .avsAck t _ => fits t 64
  | .voutRead t _ _ => fits t 64
  | .avsFailure t _ _ => fits t 64
  | .fallbackRead t _ _ _ => fits t 64
  | .wakePinFire t p _ => fits t 64 && below p 8
  | .claim t slot _ => fits t 64 && fits slot 14
  | .give t slot _ => fits t 64 && fits slot 14
  | .return t slot _ => fits t 64 && fits slot 14
  | .bar2Write t off _ _ => fits t 64 && fits off 26
  | .flushTimeout t => fits t 64
  | .evtFlush t => fits t 64
  | .statsSnapshot t => fits t 64
  | .statsGo t => fits t 64
  | .vectorSend t v _ _ _ => fits t 64 && below v 16
  | .msiUnmask t v => fits t 64 && below v 16
  | .hostReset t _ => fits t 64
  | .linkDownTimeout t => fits t 64
  | .portTrainingDone t p _ _ _ _ => fits t 64 && below p 2
  | .hello t p devid dev nonce _ _ => fits t 64 && below p 2 && fits devid 64 && below dev 8 && fits nonce 32
  | .pairing t p _ _ => fits t 64 && below p 2
  | .ident t p devid dev hops salt npart part _ => fits t 64 && below p 2 && fits devid 64 && below dev 8 && below hops 8 && fits salt 32 && below npart 9 && below part 8
  | .map t p _ _ _ => fits t 64 && below p 2
  | .blnLinkDown t _ _ _ => fits t 64
  | .refusalRetry t p => fits t 64 && below p 2
  | .retrain t p => fits t 64 && below p 2
  | .syncPeriod t p _ _ => fits t 64 && below p 2
  | .timeExchange t p t1 t2 t3 t4 _ _ era count _ leap _ => fits t 64 && below p 2 && fits t1 64 && fits t2 64 && fits t3 64 && fits t4 64 && below era 256 && fits count 64 && below leap 256
  | .req t p src dst srcUnit dstUnit srcEpoch dstEpoch tag _ _ => fits t 64 && below p 2 && below src 8 && below dst 8 && below srcUnit 24 && below dstUnit 24 && fits srcEpoch 16 && fits dstEpoch 16 && fits tag 32
  | .rply t p src dst srcUnit dstUnit reqEpoch tgtEpoch tag _ _ => fits t 64 && below p 2 && below src 8 && below dst 8 && below srcUnit 24 && below dstUnit 24 && fits reqEpoch 16 && fits tgtEpoch 16 && fits tag 32
  | .envFrame t p src dst _ => fits t 64 && below p 2 && below src 8 && below dst 256
  | .raccGo t => fits t 64
  | .racc t p src dst srcEpoch dstEpoch tag _ off data => fits t 64 && below p 2 && below src 8 && below dst 8 && fits srcEpoch 16 && fits dstEpoch 16 && fits tag 32 && fits off 24 && fits data 32
  | .raccTimeout t => fits t 64
  | .writeTransfer t _ _ _ _ => fits t 64
  | .readTransfer t off _ _ => fits t 64 && fits off 24
  | .enec t events => fits t 64 && below events 256
  | .disec t events => fits t 64 && below events 256
  | .rstdaa t => fits t 64
  | .entdaa t da => fits t 64 && below da 128
  | .setdasa t static da => fits t 64 && below static 128 && below da 128
  | .getpid t => fits t 64
  | .getbcr t => fits t 64
  | .getdcr t => fits t 64
  | .getstatus t => fits t 64
  | .getmwl t => fits t 64
  | .getmrl t => fits t 64
  | .alertResponse t => fits t 64
  | .envBufWrite t port w => fits t 64 && below port 20 && fits w 32
  | .mgtEnvSubmit t port len => fits t 64 && below port 20 && fits len 13
  | .recon t u => fits t 64 && below u 24
  | .probe t => fits t 64
  | .announce t bus nodeId kind ver nonce => fits t 64 && below bus 2 && fits nodeId 64 && below kind 2 && below ver 256 && fits nonce 32
  | .confirm t bus handle _ => fits t 64 && below bus 2 && below handle 256
  | .assignTimeout t handle => fits t 64 && below handle 256
  | .beat t bus handle => fits t 64 && below bus 2 && below handle 256
  | .leave t bus handle _ => fits t 64 && below bus 2 && below handle 256
  | .departure t handle => fits t 64 && below handle 256
  | .temp t die _ => fits t 64 && below die 3
  | .idCmd t => fits t 64
  | .status t => fits t 64
  | .nonce t => fits t 64
  | .envCmd t _ => fits t 64
  | .rd t off n => fits t 64 && fits off 24 && below n 65
  | .wr t off val => fits t 64 && fits off 24 && fits val 32
  | .dbg t core _ => fits t 64 && below core 16
  | .halt t core => fits t 64 && below core 16
  | .regs t core => fits t 64 && below core 16
  | .mrd t core space addr n => fits t 64 && below core 16 && below space 3 && fits addr 16 && below n 65
  | .mwr t core space addr val => fits t 64 && below core 16 && below space 3 && fits addr 16 && fits val 32
  | .step t core => fits t 64 && below core 16
  | .goCmd t core => fits t 64 && below core 16
  | .lineTimeout t _ => fits t 64
  | .monitorGrantEnd t => fits t 64
  | .railFault t rail _ straps => fits t 64 && below rail 7 && below straps.dev 8 && below straps.pol 4
  | .resetPin t straps => fits t 64 && below straps.dev 8 && below straps.pol 4
  | .vholdCapEstimate t _ _ => fits t 64
  | .xtal t crystal _ _ => fits t 64 && below crystal 2
  | .sesCtxDataRead t port _ => fits t 64 && below port 20
  | .ephRecDataRead t port _ => fits t 64 && below port 20
  | .shuRelDataRead t port _ => fits t 64 && below port 20
  | .helCmDataRead t port _ => fits t 64 && below port 20
  | .almAncDataRead t port _ => fits t 64 && below port 20
  | .almRegDataRead t port _ => fits t 64 && below port 20
  | .almResDataRead t port _ => fits t 64 && below port 20
  | .astScriptDataRead t port _ => fits t 64 && below port 20
  | .memRemapDataRead t port _ => fits t 64 && below port 20
  | .memLogDataRead t port _ => fits t 64 && below port 20
  | .bootFuseDataRead t port _ => fits t 64 && below port 20
  | .hifFlagDataRead t port _ => fits t 64 && below port 20
  | .mgtFndDataRead t port _ => fits t 64 && below port 20
  | .pinPadDataRead t port _ _ _ => fits t 64 && below port 20
  | .lateLock t trx => fits t 64 && below trx 20
  | .currentBinWrite t trx b => fits t 64 && below trx 20 && below b 8
  | .busOffRecovered t bus => fits t 64 && below bus 2
  | .illegal t core => fits t 64 && below core 16
  | .coproc t core => fits t 64 && below core 16
  | .vholdLow t _ => fits t 64
  | .vholdGood t _ => fits t 64
  | .vmonStable t _ => fits t 64
  | .pcieLinkDown t => fits t 64
  | .pcieLinkUp t _ _ _ => fits t 64
  | .hotJoin t => fits t 64

end Sys2Proof
end

