-- ==== Sys2Proof/Safety.lean ====
section
/-! DEFINITION. What counts as a safe answer of the block, in the terms the statements use. -/

namespace Sys2Proof.Safety

open Machine

/-- The block has its supply. -/
abbrev Powered (s : State) : Prop := s.pwr.off = false

/-- A command completes, and this is the whole state after it, the waiting commands as they were. -/
def Does (c : Instr) (s s' : State) : Prop := exec c s = .next (s'.withQueue s.pending)

/-- The answer is a next state with a property. -/
def Gives (o : Host.Outcome State Fault Refusal) (p : State → Prop) : Prop := ∃ s, o = .next s ∧ p s

/-- All commands that wait are well formed. -/
abbrev QueueOk (s : State) : Prop := s.pending.all wf = true

/-- A line of the monitor that the monitor's state admits is counted, recorded and done (u is the state in which the line
arrives). -/
def TakesLine (c : Instr) (l : EyeCmd) (s u : State) : Prop :=
  l.allowed ((u.bump EYE_CNT_LINE.COUNT).eyeLast l.row ccOk).eyeStateOf = true →
    Does c s (((u.bump EYE_CNT_LINE.COUNT).eyeLast l.row ccOk).eyeDo l)

/-! ## Instructions of a core -/

/-- The core runs a step, its next instruction is a word, the fetch raises nothing, and no REP is active. -/
abbrev Runs (s : State) (c w : Nat) : Prop :=
  s.coreSteps c = true ∧ (s.core c).word = w ∧ (s.core c).pc ≤ 0xFFFC ∧ (s.core c).pc % 4 = 0 ∧
    (s.memReadBytes c (s.core c).pc 4).1 = false ∧ (s.core c).flag pbREPA = false

/-- A register and the flags take a result. -/
def result (rd : Nat) (o : AluOut) (k : Core) : Core := (k.setReg rd o.1).setFlags o.2

/-- An accumulator takes a sum modulo 2^72, and AV says that the sum did not fit (R446). -/
def putSum (a : Bool) (v : Int) (k : Core) : Core :=
  if -(2 ^ 71) ≤ v ∧ v < 2 ^ 71 then k.setAcc a (ofSigned 72 v) else (k.setAcc a (ofSigned 72 v)).setFlags [(pbAV, true)]

/-- A 32-bit result of an accumulator's value: rounded when asked, shifted down, and saturated (R449). -/
def extracted (rd : Nat) (v : Int) (round : Bool) (n : Nat) (k : Core) : Core :=
  let x := (v + (if round ∧ n ≠ 0 then 2 ^ (n - 1) else 0)) / 2 ^ n
  let r := if x < -(2 ^ 31) then 0x80000000 else if 2 ^ 31 ≤ x then 0x7FFFFFFF else ofSigned 32 x
  let sat := decide (x < -(2 ^ 31) ∨ 2 ^ 31 ≤ x)
  (k.setReg rd r).setFlags ([(pbN, bit r 31), (pbZ, r == 0), (pbV, sat)] ++ (if sat then [(pbSAT, true)] else []))

/-- Part n of an accumulator: bits 31–0, 63–32, or the sign-extended top eight. -/
def accPart (a n : Nat) : Nat := if n = 0 then a % 2 ^ 32 else if n = 1 then a / 2 ^ 32 % 2 ^ 32 else sx 8 (a / 2 ^ 64)

/-- An accumulator with part n replaced. -/
def accWith (a n v : Nat) : Nat :=
  if n = 0 then a / 2 ^ 32 * 2 ^ 32 + v
  else if n = 1 then a / 2 ^ 64 * 2 ^ 64 + v * 2 ^ 32 + a % 2 ^ 32
  else v % 2 ^ 8 * 2 ^ 64 + a % 2 ^ 64

end Sys2Proof.Safety

namespace Sys2Proof.Machine

/-- A core's registers change, and the next instruction follows. -/
def State.ran (s : State) (c : Nat) (f : Core → Core) : State :=
  s.updCore c (fun k => { f k with pc := k.pc + 4, waiting := false })

/-- Registers are stored at ascending addresses below g14, which takes the lowest. -/
def State.pushed (s : State) (c : Nat) (rs : List Nat) : State :=
  let b := s.gr c 14 - 4 * rs.length
  ((List.range rs.length).foldl (fun (a : State) i => a.storeWord32 c (b + 4 * i) (s.gr c (rs.getD i 0))) s).setGr c 14 b

/-- Registers are loaded from ascending addresses at g14, which passes them. -/
def State.popped (s : State) (c : Nat) (rs : List Nat) : State :=
  let b := s.gr c 14
  let k := s.core c
  ((List.range rs.length).foldl (fun (a : State) i => a.setGr c (rs.getD i 0) (k.dataWord (b + 4 * i))) s).setGr c 14
    (b + 4 * rs.length)

/-- A core's register takes an issue or completion word, Z says whether it is OK, and the next instruction follows. -/
def State.answered (s : State) (c rd w : Nat) : State :=
  (s.updCore c (fun k => (k.setReg rd w).setFlags [(pbZ, w / 2 ^ 24 == ccOk)])).coreAdvance c

end Sys2Proof.Machine
end

