-- ==== Sys2Proof/Certificates/Slice0/Obligations.lean ====
section
/-! DEFINITION. The statements for the provers. -/

open Sys2Proof Sys2Proof.Machine Sys2Proof.Safety

/-- Device reset, register accesses, die-link happenings, unit resets and commands, and the request fabric complete with exactly the next state that the rules give: a device reset from any state; a register write and read through the register file; the retry, the loss and the return of a die link; the write of a unit's record; the next stable state; MISMATCH after 10 ms; an early completion of a request, and a stale reply, which is counted. Each clause gives the whole next state, the queue apart. -/
def Obligations.SystemCommandsTakeEffect : Prop :=
    (∀ (pin : Bool) (x : Straps) (s : State),
      Does (.deviceReset pin x) s (s.deviceReset pin 0xFF x)) ∧
    (∀ (t : Nat) (port : Nat) (off : Nat) (w : Nat) (priv : Bool) (s : State),
      Powered s →
      port < 20 →
      off < 2 ^ 23 →
      w < 2 ^ 32 →
      Does (.registerWrite t port priv off 4 w) s ((s.adv t).regWrite port priv off 4 w)) ∧
    (∀ (t : Nat) (port : Nat) (off : Nat) (priv : Bool) (s : State),
      Powered s →
      port < 20 →
      off < 2 ^ 23 →
      Does (.registerLoRead t port priv off) s (((s.adv t).regRead port priv off).2.answerWord port ((s.adv t).regRead port priv off).1)) ∧
    (∀ (t : Nat) (port : Nat) (u : Nat) (priv : Bool) (s : State),
      Powered s →
      port < 20 →
      u < 24 →
      (cntFlds u).isEmpty = false →
      Does (.clrCnt t port priv u) s ((s.adv t).regWrite port priv (65536 * u + 4) 4 (Nat.lor ((s.adv t).wordAt (65536 * u + 4)) (2 ^ clrBit u)))) ∧
    (∀ (t : Nat) (port : Nat) (u : Nat) (f : Fld) (priv : Bool) (s : State),
      Powered s →
      port < 20 →
      u < 24 →
      lockFld u = some f →
      Does (.lock t port priv u) s ((s.adv t).regWrite port priv f.off 4 (Nat.lor ((s.adv t).wordAt f.off) (2 ^ f.lo)))) ∧
    (∀ (t : Nat) (rf : Bool) (s : State),
      Powered s →
      ((s.adv t).dieLink rf).down = false →
      ((s.adv t).dieLink rf).fails < 2 →
      Does (.dieLinkPacketCrcFail t rf true) s ((s.adv t).setDieLink rf { (s.adv t).dieLink rf with fails := ((s.adv t).dieLink rf).fails + 1 })) ∧
    (∀ (t : Nat) (rf : Bool) (s : State),
      Powered s →
      ((s.adv t).dieLink rf).down = false →
      ((s.adv t).dieLink rf).fails = 2 →
      Does (.dieLinkPacketCrcFail t rf true) s ((farUnits rf).foldl (fun (a : State) u => a.farFault u) ((s.adv t).setDieLink rf { fails := 0, down := true }))) ∧
    (∀ (t : Nat) (rf : Bool) (s : State),
      Powered s →
      ((s.adv t).dieLink rf).down = true →
      Does (.dieLinkRetrainDone t rf) s ((farUnits rf).foldl (fun (a : State) u => a.unitReset u) ((s.adv t).setDieLink rf {}))) ∧
    (∀ (t : Nat) (port : Nat) (u : Nat) (cmd : Nat) (s : State),
      Powered s →
      u < 24 →
      u ≠ 0x0B →
      port ≤ 3 →
      Does (.unitReset t port false u cmd) s (((s.adv t).unitCommand u cmd).unitReset u)) ∧
    (∀ (t : Nat) (port : Nat) (u : Nat) (cmd : Nat) (s : State),
      Powered s →
      u < 24 →
      u ≠ 0x0B →
      port ≤ 3 →
      Does (.unitCommand t port false u cmd) s ((s.adv t).unitCommand u cmd)) ∧
    (∀ (t : Nat) (u : Nat) (s : State),
      Powered s →
      u < 24 →
      Does (.unitStateReached t u) s ((((s.adv t).unitReached u).haltedDown).bootRun)) ∧
    (∀ (t : Nat) (u : Nat) (a : Nat) (s : State),
      Powered s →
      u < 24 →
      ((s.adv t).unitS u).diffSince = some a →
      a + msT 10 ≤ (s.adv t).now →
      Does (.mismatchTimeout t u) s ((s.adv t).setMismatch u true)) ∧
    (∀ (t : Nat) (src : Nat) (dst : Nat) (srcEpoch : Nat) (dstEpoch : Nat) (s : State),
      Powered s →
      src < 24 →
      dst < 24 →
      (s.adv t).domSt (unitDom dst) ≠ dsDoze →
      dstEpoch ≠ (s.adv t).rd SYS_UNIT_STATE.EPOCH dst →
      Does (.interUnitRequest t src dst srcEpoch dstEpoch) s ((s.adv t).send (replyBytes ccTargetReset ((s.adv t).rd SYS_UNIT_STATE.EPOCH dst) srcEpoch))) ∧
    (∀ (t : Nat) (u : Nat) (epoch : Nat) (s : State),
      Powered s →
      u < 24 →
      epoch ≠ (s.adv t).rd SYS_UNIT_STATE.EPOCH u →
      Does (.unitReply t u epoch) s ((s.adv t).bump SYS_UNIT_STATE.STALE_CNT u))

/-- The wrap of the count, the always-on ratio, the civil checkpoint, an accepted trim, a nonce read, the two authority sets, and the changes of QUALITY complete with the next state that the rules give, from every state that meets their conditions. -/
def Obligations.MeridianCommandsTakeEffect : Prop :=
    (∀ (s : State),
      Does (.meridianWrap) s (s.wrapCount)) ∧
    (∀ (t : Nat) (ratio : Nat) (s : State),
      Powered s →
      ratio < 2 ^ 32 →
      (s.adv t).rd PWR_STAT.STATE = 0 →
      Does (.aonRatioWindow t ratio) s ((s.adv t).wr MER_AON_RATIO.RATIO ratio)) ∧
    (∀ (t : Nat) (s : State),
      Powered s →
      (s.adv t).mer.lastCkpt + (s.adv t).ckptPeriodNs ≤ (s.adv t).civilNs →
      Does (.civilCheckpoint t) s ((s.adv t).ckptNow)) ∧
    (∀ (t : Nat) (us : Int) (s : State),
      Powered s →
      us ≠ 0 →
      (s.adv t).trimCode us ≠ ccOk →
      Does (.trimReq t us) s ((s.adv t).wr MER_TIME_STAT.RESULT ((s.adv t).trimCode us))) ∧
    (∀ (t : Nat) (us : Int) (s : State),
      Powered s →
      us ≠ 0 →
      (s.adv t).trimCode us = ccOk →
      Gives (exec (.trimReq t us) s) (fun s' => s'.mer.pending = (s.adv t).mer.pending + us ∧ s'.mer.trims = ((⟨(s.adv t).civilNs / 1000000000, us⟩ : Trim) :: (s.adv t).mer.trims).take 16)) ∧
    (∀ (t : Nat) (s : State),
      Powered s →
      (s.adv t).mer.pending = 0 →
      Does (.trimSpent t) s ((s.adv t).trimStat)) ∧
    (∀ (t : Nat) (port : Nat) (s : State),
      Powered s →
      (s.adv t).rngCan 4 = true →
      ∃ v s1, (s.adv t).rngNonce 4 = some (v, s1) ∧ Does (.timeNonceRead t port) s (State.answerWord { s1 with mer := { s1.mer with nonce := some (v, s1.now), armed := none } } port v)) ∧
    (∀ (t : Nat) (port : Nat) (lo : Nat) (hi : Nat) (leap : Nat) (priv : Bool) (setLeap : Bool) (off : Int) (s : State),
      Powered s →
      priv = true →
      lo < 2 ^ 32 →
      hi < 2 ^ 32 →
      (s.adv t).viewReason port 0x01 = none →
      (s.adv t).rd MER_STAT.QUALITY = qRef →
      (s.adv t).armedSet = some (true, setLeap, off, leap) →
      toSigned 64 (lo + hi * 2 ^ 32) = off →
      Does (.civilOffsetSet t port priv lo hi) s ((s.adv t).carryOut off (if setLeap then leap else (s.adv t).mer.leap))) ∧
    (∀ (t : Nat) (port : Nat) (leap : Nat) (priv : Bool) (off : Int) (s : State),
      Powered s →
      priv = true →
      leap < 256 →
      (s.adv t).viewReason port 0x01 = none →
      (s.adv t).rd MER_STAT.QUALITY = qRef →
      (s.adv t).armedSet = some (false, true, off, leap) →
      Does (.civilLeapSet t port priv leap) s ((s.adv t).carryOut (s.adv t).mer.offset leap)) ∧
    (∀ (t : Nat) (s : State),
      Powered s →
      (s.adv t).rd MER_STAT.QUALITY = qAcquiring →
      (s.adv t).on MER_STAT.MASTER = false →
      (s.adv t).rd BLN_STAT.STATE = 0 →
      (s.adv t).mer.aloneSince + msT 100 ≤ (s.adv t).now →
      (s.adv t).mer.formed = false →
      (s.adv t).rep 0x14 = stRun →
      Does (.acquireAloneTimeout t) s ((s.adv t).setQuality qRef)) ∧
    (∀ (t : Nat) (rms : Nat) (g : Nat) (s : State),
      Powered s →
      rms ≤ 20 →
      (s.adv t).rd MER_STAT.QUALITY = qAcquiring →
      (s.adv t).mer.measured = true →
      (s.adv t).mer.goodSince = some g →
      g + secT 1 ≤ (s.adv t).now →
      Does (.lockAchieved t rms) s ((((s.adv t).wr MER_SYNC_RMS.RMS rms).setQuality qLocked).wr MER_STAT.HOLD_EXPIRED 0)) ∧
    (∀ (t : Nat) (s : State),
      Powered s →
      (s.adv t).rd MER_STAT.QUALITY = qLocked →
      (s.adv t).mer.lastValid + msT 1 ≤ (s.adv t).now →
      Does (.holdoverEntry t) s (((s.adv t).setQuality qHoldover).wr MER_HOLD_TIME.HOLD_MS 0)) ∧
    (∀ (t : Nat) (s : State),
      Powered s →
      (s.adv t).rd MER_STAT.QUALITY = qHoldover →
      (s.adv t).mer.qualSince + (s.adv t).holdLimit < (s.adv t).now →
      Does (.holdLimitExpired t) s (((s.adv t).wr MER_HOLD_TIME.HOLD_MS (min (2 ^ 32 - 1) (((s.adv t).now - (s.adv t).mer.qualSince) / msT 1))).wr MER_STAT.HOLD_EXPIRED 1))

/-- A loop update, a trip, the lock guard, a channel mode write, the end of a test drive, the calibration, measurement and solve commands and their completions, and the release from quarantine each complete in every state that meets the stated conditions, and the clause gives the whole next state, the queue apart. -/
def Obligations.HeliostatCommandsTakeEffect : Prop :=
    (∀ (t : Nat) (z : Nat) (e : LfpEx) (obs : List LoopObs) (s : State),
      Powered s →
      (s.adv t).exOf z = some e →
      Does (.loopUpdate t z obs) s ((s.adv t).loopTaken z e obs)) ∧
    (∀ (t : Nat) (n : Nat) (s : State),
      Powered s →
      n < 64 →
      ((s.adv t).chState n = chDrive ∨ (s.adv t).chState n = chMeas ∨ (s.adv t).chState n = chCal ∨ (s.adv t).chState n = chTest) →
      Does (.trip t n) s ((s.adv t).tripped n)) ∧
    (∀ (t : Nat) (n : Nat) (s : State),
      Powered s →
      (s.adv t).driving n = true →
      Does (.lockGuard t n) s ((((s.adv t).irq HEL_IRQ_STAT.LOCK_GUARD).archiveEvent 0x02 0 0 (leBytes 4 n) ccRegLimit).stopChan n ccRegLimit)) ∧
    (∀ (t : Nat) (n : Nat) (mode : Nat) (s : State),
      Powered s →
      n < 64 →
      (mode % 4 < 2 ∨ ((s.adv t).zonesOf n).any (s.adv t).zoneEnabled = false) →
      Does (.channelModeWrite t n mode) s ((s.adv t).channelMode n mode)) ∧
    (∀ (t : Nat) (n : Nat) (a : Nat) (s : State),
      Powered s →
      SMap.find (s.adv t).hel.testAt n = some a →
      a + secT 10 ≤ (s.adv t).now →
      Does (.testTimeout t n) s ((({ (s.adv t) with hel := { (s.adv t).hel with testAt := SMap.del (s.adv t).hel.testAt n } } : State).wr HEL_CH_CTL.MODE 1 n).chReg n)) ∧
    (∀ (t : Nat) (s : State),
      Powered s →
      Does (.helCalAll t) s ((List.range 64).foldl (fun (a : State) n => a.queueCal n) (s.adv t))) ∧
    (∀ (t : Nat) (n : Nat) (s : State),
      Powered s →
      n < 64 →
      Does (.helCalOne t n) s ((s.adv t).queueCal n)) ∧
    (∀ (t : Nat) (n : Nat) (amb : Nat) (fRes : Nat) (q : Nat) (ofs : Int) (ph : Int) (s : State),
      Powered s →
      (s.adv t).hel.calQ.contains n = true →
      (s.adv t).driving n = false →
      (s.adv t).inSlot n = false →
      Does (.tuningCalDone t n amb ofs fRes q ph) s ((s.adv t).calTaken n amb ofs fRes q ph)) ∧
    (∀ (t : Nat) (w : Nat) (high : Bool) (s : State),
      Powered s →
      Does (.helQuarClear t high w) s ((s.adv t).quarClear high w)) ∧
    (∀ (t : Nat) (s : State),
      Powered s →
      Does (.measAll t) s ((s.adv t).queueCols 3 (s.adv t).usableHops)) ∧
    (∀ (t : Nat) (n : Nat) (s : State),
      Powered s →
      n < 64 →
      Does (.measOne t n) s (((s.adv t).usableHops.foldl (fun (a : State) k => a.queueCol 3 k n) (s.adv t)).helStat)) ∧
    (∀ (t : Nat) (s : State),
      Powered s →
      (s.adv t).running 0x02 = true →
      (s.adv t).hel.periodAt + secT (orOne ((s.adv t).rd HEL_DRIFT_CFG.REMEAS_S)) ≤ (s.adv t).now →
      (s.adv t).pwrState ≤ psS1 →
      Does (.remeasPeriod t) s (({ (s.adv t) with hel := { (s.adv t).hel with periodAt := (s.adv t).now } } : State).queueCols 4 (s.adv t).usableHops)) ∧
    (∀ (t : Nat) (amb : List Nat) (s : State),
      Powered s →
      (s.adv t).hel.cols.isEmpty = false →
      (s.adv t).hel.slot = none →
      (s.adv t).lfp.ex.any (fun e => e.chans.any (s.adv t).slotChans.contains || ((s.adv t).listenSet e.zone e.car).any (s.adv t).slotChans.contains) = false →
      (s.adv t).lfpItems.any (fun i => decide (i.rank < (s.adv t).slotRank) && ((s.adv t).zoneChans i.zone).any (s.adv t).slotChans.contains) = false →
      (s.adv t).pwrState < psS2 →
      (s.adv t).running 0x02 = true →
      Does (.measSlotGrant t amb) s ((s.adv t).measSlot (s.adv t).slotChans amb)) ∧
    (∀ (t : Nat) (k : Nat) (j : Nat) (x : HelSlot) (rest : List (Nat × Nat)) (v : Int × Int) (amps : List (Int × Int)) (s : State),
      Powered s →
      (s.adv t).hel.slot = some x →
      x.cols = (k, j) :: rest →
      x.start + (s.adv t).colTicks k ≤ (s.adv t).now →
      Does (.columnDone t v amps) s ((s.adv t).columnTaken k j rest v amps)) ∧
    (∀ (t : Nat) (s : State),
      Powered s →
      Does (.solveAll t) s (((List.range 32).filter (s.adv t).zoneEnabled).foldl (fun (a : State) z => a.resolveZone z) (s.adv t))) ∧
    (∀ (t : Nat) (z : Nat) (s : State),
      Powered s →
      Does (.solveOne t z) s ((s.adv t).resolveZone z)) ∧
    (∀ (t : Nat) (z : Nat) (k : Nat) (p : ZoneProg) (rest : List (Nat × Nat)) (s : State),
      Powered s →
      (s.adv t).hel.solves = (z, k) :: rest →
      (s.adv t).zoneProg z = some p →
      Does (.zoneSolveDone t) s (({ (s.adv t) with hel := { (s.adv t).hel with solves := rest } } : State).solveTaken z k p))

/-- A poll asked for, due and skipped, the commit of an exchange, a directed wake, the events of an open exchange (the start of a reply, a turnaround that ends, a whole reply, a drowned one, the end of the burst, a resend on another carrier), a hop write, a run of the noise monitor and a coil fault each complete in every state that meets the stated conditions, with the whole next state given. -/
def Obligations.PollingCommandsTakeEffect : Prop :=
    (∀ (t : Nat) (e : Nat) (s : State),
      Powered s →
      (s.adv t).pollOn e = true →
      (s.adv t).nextDue e ((s.adv t).now / msT 1) * msT 1 ≤ (s.adv t).now + msT 2 →
      (s.adv t).pwrState ≤ psS1 →
      (s.adv t).lfp.polls.any (fun p => p.entry == e && p.due == (s.adv t).nextDue e ((s.adv t).now / msT 1) * msT 1) = false →
      Does (.pollOwnerRequest t e) s ({ (s.adv t) with lfp := { (s.adv t).lfp with polls := (s.adv t).lfp.polls ++ [⟨e, (s.adv t).nextDue e ((s.adv t).now / msT 1) * msT 1, true, none, false, false, []⟩] } })) ∧
    (∀ (t : Nat) (e : Nat) (s : State),
      Powered s →
      (s.adv t).pollOn e = true →
      (s.adv t).dueMs e ((s.adv t).now / msT 1) = true →
      (s.adv t).pwrState ≤ psS1 →
      (s.adv t).lfp.polls.any (fun p => p.entry == e && p.due == (s.adv t).now / msT 1 * msT 1) = false →
      Does (.pollDue t e) s ({ (s.adv t) with lfp := { (s.adv t).lfp with polls := (s.adv t).lfp.polls ++ [⟨e, (s.adv t).now / msT 1 * msT 1, false, none, true, false, []⟩] } })) ∧
    (∀ (t : Nat) (e : Nat) (s : State),
      Powered s →
      (s.adv t).pollOn e = true →
      (s.adv t).dueMs e ((s.adv t).now / msT 1) = true →
      (s.adv t).pwrState ≤ psS1 →
      (s.adv t).lfp.polls.any (fun p => p.entry == e && p.due == (s.adv t).now / msT 1 * msT 1) = true →
      Does (.pollDue t e) s ({ (s.adv t) with lfp := { (s.adv t).lfp with polls := (s.adv t).lfp.polls.map (fun p => if p.entry = e ∧ p.due = (s.adv t).now / msT 1 * msT 1 then { p with isDue := true } else p) } })) ∧
    (∀ (t : Nat) (e : Nat) (q : LfpPoll) (s : State),
      Powered s →
      (s.adv t).lfp.polls.find? (fun p => p.entry == e && p.isDue && decide ((s.adv t).now ≥ p.due + msT ((s.adv t).pollPeriod e))) = some q →
      Does (.pollSkip t e) s ((s.adv t).skipPoll q)) ∧
    (∀ (t : Nat) (n : Nat) (k : Nat) (i : LfpItem) (w : LfpWin) (s : State),
      Powered s →
      (s.adv t).running 0x03 = true →
      (s.adv t).pickItem (s.adv t).slotRank (s.adv t).lfpItems [] false = some i →
      i.win = some n →
      (s.adv t).winOf n = some w →
      w.keep = none →
      (s.adv t).pickCar w.zone w.tried = some k →
      Does (.exchangeCommit t) s ((((s.adv t).putEx w.zone k w.entry (some (w.session, w.gen)) w.rate w.fmt w.arb).updWin w.session (fun w => { w with tries := w.tries + 1, keep := none, hop := false, deferred := false })).ownerWakes w.session)) ∧
    (∀ (t : Nat) (n : Nat) (g : Nat) (k : Nat) (i : LfpItem) (p : LfpPoll) (s : State),
      Powered s →
      (s.adv t).running 0x03 = true →
      (s.adv t).pickItem (s.adv t).slotRank (s.adv t).lfpItems [] false = some i →
      i.win = none →
      (s.adv t).lfp.polls.find? (fun p => p.isDue && p.entry == i.entry) = some p →
      p.owner = some (n, g) →
      (s.adv t).live n g = true →
      (s.adv t).pickCar ((s.adv t).rd LFP_SCHED_CTL.ZONE p.entry) p.tried = some k →
      Does (.exchangeCommit t) s ((s.adv t).commitPoll p)) ∧
    (∀ (t : Nat) (n : Nat) (c : Ctx) (wid : Option Nat) (rate : Option Nat) (md : Option Nat) (fmt : Option Nat) (s : State),
      Powered s →
      (s.adv t).ctx? n = some c →
      c.kind = 1 →
      c.state = ssIdle →
      (s.adv t).winOf n = none →
      c.openEarly = true →
      (s.adv t).running 0x03 = true →
      (s.adv t).rd HEL_ZONE_STAT.STATE c.zone ≠ 4 →
      Does (.directedWake t n wid rate md fmt) s ((s.adv t).wakeOpened n c wid rate md fmt)) ∧
    (∀ (t : Nat) (n : Nat) (w : LfpWin) (s : State),
      Powered s →
      (s.adv t).winOf n = some w →
      (s.adv t).winOver w = true →
      (s.adv t).exRuns n w.gen = false →
      Does (.wakeWindowExpired t n) s (((s.adv t).dropWin n).abort n ccTimeout)) ∧
    (∀ (t : Nat) (z : Nat) (e : LfpEx) (s : State),
      Powered s →
      (s.adv t).exOf z = some e →
      e.sof = none →
      e.ended = false →
      e.closed = false →
      (s.adv t).turnLo e ≤ (s.adv t).now →
      (s.adv t).now ≤ (s.adv t).turnHi e →
      Does (.sofDetected t z) s ((s.adv t).updEx z (fun e => { e with sof := some (s.adv t).now }))) ∧
    (∀ (t : Nat) (z : Nat) (e : LfpEx) (s : State),
      Powered s →
      (s.adv t).exOf z = some e →
      e.sof = none →
      e.ended = false →
      e.closed = true →
      (s.adv t).turnLo e ≤ (s.adv t).now →
      (s.adv t).turnHi e < (s.adv t).now →
      (s.adv t).now ≤ (s.adv t).turnHi e + cellT e.rate →
      Does (.sofDetected t z) s ((((s.adv t).bump LFP_CNT_LATE.COUNT).irq LFP_IRQ_STAT.LATE).lfpEvent lkLate e.car 0 z e.entry e.session 0)) ∧
    (∀ (t : Nat) (z : Nat) (pow : Nat) (e : LfpEx) (s : State),
      Powered s →
      (s.adv t).exOf z = some e →
      e.sof = none →
      e.closed = false →
      (s.adv t).turnHi e ≤ (s.adv t).now →
      pow < (s.adv t).rd LFP_DROWN_CFG.INT_DB →
      (e.owned && !e.void && e.entry.isSome) = false →
      Does (.turnaroundExpired t z pow) s ((s.adv t).updEx z (fun e => { e with closed := true }))) ∧
    (∀ (t : Nat) (z : Nat) (body : Nat) (er : Nat) (viol : Nat) (ch : Nat) (a : Nat) (snr : List Int) (e : LfpEx) (s : State),
      Powered s →
      (s.adv t).exOf z = some e →
      e.sof = some a →
      e.ended = false →
      a + cellT e.rate * (bodyBits e.fmt + 1) ≤ (s.adv t).now →
      er < (s.adv t).eraseMax →
      Does (.replyReceived t z body er viol ch snr) s ((s.adv t).replyTaken z e a body er viol ch snr)) ∧
    (∀ (t : Nat) (z : Nat) (er : Nat) (pow : Nat) (a : Nat) (snr : Int) (e : LfpEx) (s : State),
      Powered s →
      (s.adv t).exOf z = some e →
      e.sof = some a →
      e.ended = false →
      (s.adv t).eraseMax ≤ er →
      Does (.drown t z er snr pow) s ((s.adv t).drowned e)) ∧
    (∀ (t : Nat) (n : Nat) (w : LfpWin) (s : State),
      Powered s →
      (s.adv t).winOf n = some w →
      w.hop = true →
      w.next ≤ (s.adv t).now →
      (s.adv t).winOver w = false →
      (s.adv t).exRuns n w.gen = false →
      (s.adv t).zoneUp w.zone = true →
      (s.adv t).zoneFree w.zone = true →
      w.pauseFrom = none →
      Does (.hopResend t n) s ((s.adv t).commitWin w)) ∧
    (∀ (t : Nat) (z : Nat) (e : LfpEx) (s : State),
      Powered s →
      (s.adv t).exOf z = some e →
      (s.adv t).plannedEnd e ≤ (s.adv t).now →
      (e.sof.isSome && !e.ended) = false →
      (e.sof.isNone && !e.closed) = false →
      Does (.burstEnd t z) s ((s.adv t).burstOver z e)) ∧
    (∀ (t : Nat) (k : Nat) (carrier : Nat) (s : State),
      Powered s →
      (s.adv t).on LFP_CTL.LOCK = false →
      k < 3 →
      Does (.lfpHopWrite t k carrier) s (({ (s.adv t).wr LFP_HOP.CARRIER carrier k with lfp := { (s.adv t).lfp with hopOld := SMap.put (s.adv t).lfp.hopOld k ((s.adv t).hopCar k) } } : State).hopApply)) ∧
    (∀ (t : Nat) (noise : List Int) (spurs : List (Nat × Nat)) (s : State),
      Powered s →
      (s.adv t).running 0x03 = true →
      (s.adv t).pwrState < psS2 →
      Does (.monitorRun t noise spurs) s ((s.adv t).monitorTaken noise spurs)) ∧
    (∀ (t : Nat) (n : Nat) (kind : Nat) (s : State),
      Powered s →
      kind = 1 ∨ kind = 2 ∨ kind = 3 →
      (s.adv t).driving n = true →
      Does (.coilFault t n kind) s ((s.adv t).coilFaulted n kind))

/-- Calibration commands and their items, a state request, a step that completes, a late lock, a lock that never comes, the two idle holds, PARK, the rapid-bit timeout, the end and the cut of a transmission, the grant and the handing on of a transceiver, a UHF frame, the watch of S3, and the ledger each complete in every state that meets the stated conditions, with the whole next state given. -/
def Obligations.RadioCommandsTakeEffect : Prop :=
    (∀ (t : Nat) (s : State),
      Powered s →
      Does (.radCalAll t) s (((List.range 20).foldl State.calQueue (s.adv t)).calPump)) ∧
    (∀ (t : Nat) (trx : Nat) (s : State),
      Powered s →
      trx < 20 →
      Does (.radCalOne t trx) s (((s.adv t).calQueue trx).calPump)) ∧
    (∀ (t : Nat) (trx : Nat) (temp : Int) (s : State),
      Powered s →
      trx < 20 →
      (s.adv t).rd RAD_TRX_CAL.VALID trx = 15 →
      (temp - 10 * toSigned 8 ((s.adv t).rd RAD_TRX_CAL.TEMP trx)).natAbs ≥ 10 * clampTo 1 40 ((s.adv t).rd RAD_CAL_CFG.CAL_DT) →
      Does (.tempCalTrigger t trx temp) s ((((s.adv t).wr RAD_TEMP.TEMP (ofSigned 16 temp)).calQueue trx).calPump)) ∧
    (∀ (t : Nat) (trx : Nat) (i : Nat) (rl : Nat) (pre : Bool) (vals : List Int) (temp : Int) (s : State),
      Powered s →
      ((s.adv t).trx trx).calItem = some i →
      Does (.calItemDone t trx pre vals rl temp) s ((s.adv t).calItemTaken trx i pre vals rl temp)) ∧
    (∀ (t : Nat) (trx : Nat) (owner : Nat) (target : Nat) (ch9 : Nat) (freq : Nat) (step : Nat) (air : Nat) (follow : Nat) (mod : Nat) (dev : Nat) (rate : Nat) (hold : Bool) (s : State),
      Powered s →
      trx < 20 →
      (s.adv t).radCode trx ⟨owner, target, ch9 % 2, freq, step, air, follow, hold, mod, dev, rate⟩ = ccOk →
      Does (.stateRequest t trx owner target ch9 freq step air follow hold mod dev rate) s (((s.adv t).radRequest trx ⟨owner, target, ch9 % 2, freq, step, air, follow, hold, mod, dev, rate⟩).2)) ∧
    (∀ (t : Nat) (trx : Nat) (d : Nat) (lock : Bool) (s : State),
      Powered s →
      trx < 20 →
      ((s.adv t).trx trx).dest = some d →
      ((s.adv t).trx trx).start + ((s.adv t).trx trx).dur ≤ (s.adv t).now →
      ((s.adv t).trx trx).ext = false →
      ((s.adv t).needsLock trx = false ∨ lock = true) →
      Does (.stepComplete t trx lock) s (((s.adv t).reached trx d (((s.adv t).trx trx).start + ((s.adv t).trx trx).dur)).calPump)) ∧
    (∀ (t : Nat) (trx : Nat) (d : Nat) (s : State),
      Powered s →
      trx < 20 →
      ((s.adv t).trx trx).dest = some d →
      ((s.adv t).trx trx).ext = true →
      (s.adv t).now ≤ ((s.adv t).trx trx).start + 2 * ((s.adv t).trx trx).dur →
      Does (.lateLock t trx) s ((s.adv t).reached trx d (s.adv t).now)) ∧
    (∀ (t : Nat) (trx : Nat) (s : State),
      Powered s →
      trx < 20 →
      ((s.adv t).trx trx).dest.isSome = true →
      ((s.adv t).trx trx).ext = true →
      ((s.adv t).trx trx).start + 2 * ((s.adv t).trx trx).dur ≤ (s.adv t).now →
      Does (.synthLockTimeout t trx) s ((s.adv t).lockLost trx)) ∧
    (∀ (t : Nat) (trx : Nat) (s : State),
      Powered s →
      (s.adv t).idleOver trx rsSynth (usT (10 * orOne ((s.adv t).rd RAD_IDLE_CFG.SYNTH_HOLD))) = true →
      Does (.synthHoldExpired t trx) s (((s.adv t).beginStep trx rsStandby (s.adv t).now).wr RAD_TRX_STAT.TARGET rsStandby trx)) ∧
    (∀ (t : Nat) (trx : Nat) (s : State),
      Powered s →
      (s.adv t).idleOver trx rsStandby (msT (orOne ((s.adv t).rd RAD_IDLE_CFG.STBY_HOLD))) = true →
      Does (.stbyHoldExpired t trx) s (((s.adv t).beginStep trx rsSleep (s.adv t).now).wr RAD_TRX_STAT.TARGET rsSleep trx)) ∧
    (∀ (t : Nat) (trx : Nat) (on : Bool) (s : State),
      Powered s →
      trx < 20 →
      Does (.park t trx on) s ((s.adv t).park trx on)) ∧
    (∀ (t : Nat) (trx : Nat) (s : State),
      Powered s →
      trx < 16 →
      (s.adv t).trxState trx = rsRapid →
      ((s.adv t).trx trx).dest = none →
      ((s.adv t).trx trx).idleFrom + usT 200 ≤ (s.adv t).now →
      Does (.rapidBitTimeout t trx) s (((((s.adv t).updTrx trx (fun x => { x with follow := rsSynth })).frameOver trx false).wr RAD_TRX_STAT.LAST_CODE ccTimeout trx).radTell trx ccTimeout dbRbTimeout)) ∧
    (∀ (t : Nat) (trx : Nat) (s : State),
      Powered s →
      trx < 20 →
      (s.adv t).trxState trx = rsTransmit →
      Does (.transmissionEnd t trx) s (((s.adv t).frameOver trx false).pollOver trx)) ∧
    (∀ (t : Nat) (trx : Nat) (s : State),
      Powered s →
      trx < 20 →
      (s.adv t).overLimit trx = true →
      Does (.transmissionCut t trx) s (((s.adv t).cutTx trx).radTell trx ccRegLimit dbRefused)) ∧
    (∀ (t : Nat) (trx : Nat) (owner : Nat) (s : State),
      Powered s →
      trx < 20 →
      owTrn ≤ owner →
      owner ≤ owShu →
      (s.adv t).grantable trx = true →
      Does (.ownershipGrant t trx owner) s (((s.adv t).calYield trx).wr RAD_TRX_STAT.OWNER owner trx)) ∧
    (∀ (t : Nat) (trx : Nat) (owner : Nat) (s : State),
      Powered s →
      trx < 20 →
      owTrn ≤ (s.adv t).owner trx →
      (s.adv t).owner trx ≤ owShu →
      owner ≤ owShu →
      owner ≠ owNone →
      Does (.handover t trx owner) s ((s.adv t).wr RAD_TRX_STAT.OWNER owner trx)) ∧
    (∀ (t : Nat) (trx : Nat) (s : State),
      Powered s →
      trx < 20 →
      owTrn ≤ (s.adv t).owner trx →
      (s.adv t).owner trx ≤ owShu →
      Does (.handover t trx owNone) s ((((s.adv t).handBack trx).calPump).btnHold trx)) ∧
    (∀ (t : Nat) (trx : Nat) (syncErr : Nat) (check : Nat) (payload : List Byte) (s : State),
      Powered s →
      16 ≤ trx →
      trx < 20 →
      syncErr = 0 →
      0 < payload.length →
      payload.length ≤ 255 →
      (s.adv t).pwrState ≠ psS3 →
      (s.adv t).trxState trx = rsReceive →
      (s.adv t).owner trx = owSes →
      (s.adv t).uhfCheck trx payload check = true →
      Does (.uhfFrameReceived t trx syncErr payload check) s ((s.adv t).buttonFrame payload (s.adv t).now)) ∧
    (∀ (t : Nat) (s : State),
      Powered s →
      (s.adv t).pwrState = psS3 →
      (s.adv t).rad.watchAt + msT (max 10 ((s.adv t).rd RAD_S3_CFG.S3_PERIOD)) ≤ (s.adv t).now →
      Does (.watchCycle t) s ((({ (s.adv t) with rad := { (s.adv t).rad with watchAt := (s.adv t).now } } : State).wr RAD_TRX_STAT.OWNER owWatch (s.adv t).s3Trx).wr64 RAD_TRX_STAMP_LO.STAMP RAD_TRX_STAMP_HI.STAMP ((s.adv t).now + usT 1610 + usT (100 * orOne ((s.adv t).rd RAD_S3_CFG.S3_ON)) + usT 22) (s.adv t).s3Trx)) ∧
    (∀ (t : Nat) (s : State),
      Powered s →
      (s.adv t).now / minuteTicks ≠ (s.adv t).rad.minute →
      Gives (exec (.ledgerMinute t) s) (fun s' => s'.rad.minute = (s.adv t).now / minuteTicks)) ∧
    (∀ (t : Nat) (trx : Nat) (b : Nat) (l : Ledger) (s : State),
      Powered s →
      trx < 20 →
      b < 8 →
      ((s.adv t).countRunning).ledger trx b = l →
      0 < l.bins.getD ((s.adv t).countRunning.rad.minute % 60) 0 - l.written →
      (s.adv t).countRunning.allowance trx b / 64 ≤ l.bins.getD ((s.adv t).countRunning.rad.minute % 60) 0 - l.written →
      Does (.currentBinWrite t trx b) s ((s.adv t).countRunning.ledWrite trx b))

/-- A ranging request, the frames of an exchange (poll, final, response, report, none), its retry, a range from another member that does not come, the end of a pre-arm hold, an antenna delay write, and the antenna-delay calibration each complete in every state that meets the stated conditions, with the whole next state given. -/
def Obligations.RangingCommandsTakeEffect : Prop :=
    (∀ (t : Nat) (n : Nat) (cap : Bool) (c : Ctx) (s : State),
      Powered s →
      (s.adv t).ctx? n = some c →
      c.state = ssRange →
      bit c.pend pendTrn = true →
      Does (.exchangeRequest t n cap) s ((s.adv t).rangeNext n cap)) ∧
    (∀ (t : Nat) (n : Nat) (k : Nat) (cap : Bool) (c : Ctx) (x : DbxEx) (s : State),
      Powered s →
      (s.adv t).ctx? n = some c →
      (decide (c.state = ssRange) && bit c.pend pendTrn) = false →
      SMap.first (s.adv t).dbx.ex (fun _ x => x.session == n && x.gen == c.gen && x.fallback && decide (0 < x.left)) = some (k, x) →
      Does (.exchangeRequest t n cap) s ((s.adv t).twrNext k x cap)) ∧
    (∀ (t : Nat) (n : Nat) (w : TrnAway) (s : State),
      Powered s →
      (s.adv t).trn.away.find? (fun w => w.session == n) = some w →
      w.until' + msT 5 ≤ (s.adv t).now →
      Does (.remoteRangeTimeout t n) s ((s.adv t).rangeLost w ccTimeout)) ∧
    (∀ (t : Nat) (trx : Nat) (e : Exch) (s : State),
      Powered s →
      (s.adv t).exch trx = some e →
      trx < 16 →
      e.phase = 0 →
      onGrid e.slot + 128 * e.r ≤ (s.adv t).now + usT 6 →
      (s.adv t).guarded = false →
      Does (.pollCommit t trx) s ((s.adv t).pollGo trx e (onGrid e.slot + 128 * e.r))) ∧
    (∀ (t : Nat) (trx : Nat) (e : Exch) (s : State),
      Powered s →
      (s.adv t).exch trx = some e →
      trx < 16 →
      e.phase = 4 →
      e.finalTx = 0 →
      e.void = false →
      Does (.finalSend t trx) s ((s.adv t).finalGo trx e)) ∧
    (∀ (t : Nat) (trx : Nat) (e : Exch) (rx : Reception) (s : State),
      Powered s →
      (s.adv t).exch trx = some e →
      trx < 16 →
      (e.phase = 2 ∨ e.phase = 3) →
      Does (.respReceived t trx rx) s ((s.adv t).respTaken trx e rx)) ∧
    (∀ (t : Nat) (trx : Nat) (e : Exch) (rx : Reception) (s : State),
      Powered s →
      (s.adv t).exch trx = some e →
      trx < 16 →
      e.ds = true →
      e.finalTx ≠ 0 →
      (e.phase = 4 ∨ e.phase = 5) →
      Does (.reportReceived t trx rx) s ((s.adv t).reportTaken trx e rx)) ∧
    (∀ (t : Nat) (trx : Nat) (e : Exch) (s : State),
      Powered s →
      (s.adv t).exch trx = some e →
      trx < 16 →
      (e.phase = 2 ∨ e.phase = 3) →
      e.finalTx = 0 →
      e.pollTx + usT (s.adv t).replyUs + (s.adv t).rd TRN_DS_CFG.REPLY_TOL * ticksPerUs10 / 100 + 16 * symChips (s.adv t).trnCode * 128 - (s.adv t).markerT - (s.adv t).dlyTx trx ≤ (s.adv t).now →
      Does (.noFrame t trx) s ((s.adv t).frameMissed trx e)) ∧
    (∀ (t : Nat) (trx : Nat) (e : Exch) (s : State),
      Powered s →
      (s.adv t).exch trx = some e →
      trx < 16 →
      e.phase = 9 →
      e.fail ≠ trSat →
      Does (.retry t trx) s (((s.adv t).toSynth trx).startExch trx { e with retries := e.retries + 1, pollTx := 0, respRx := 0, finalTx := 0, nlos := false, fail := 0 })) ∧
    (∀ (t : Nat) (n : Nat) (k : Nat) (p : PreArm) (s : State),
      Powered s →
      SMap.first ((s.adv t).trn.pre ++ (s.adv t).trn.displaced) (fun _ p => p.session == n) = some (k, p) →
      (decide (ssRange ≤ ((s.adv t).ctx n).state) && (s.adv t).live n p.gen) = false →
      p.since + msT (orOne ((s.adv t).rd TRN_PREARM_CFG.PREARM_HOLD)) ≤ (s.adv t).now →
      Does (.prearmHoldExpired t n) s (((s.adv t).unPrearm n p.gen).bump TRN_CNT_PREARM.COUNT)) ∧
    (∀ (t : Nat) (trx : Nat) (rx : Bool) (v : Int) (s : State),
      Powered s →
      trx < 16 →
      Does (.antennaDelayWrite t trx rx v) s ((s.adv t).adlyWrite trx rx v)) ∧
    (∀ (t : Nat) (s : State),
      Powered s →
      (s.adv t).trn.cal = none →
      (s.adv t).running 0x05 = true →
      (s.adv t).exch ((s.adv t).rd TRN_CAL_CTL.TRX) = none →
      (s.adv t).grantable ((s.adv t).rd TRN_CAL_CTL.TRX) = true →
      Does (.trnCalStart t) s (((({ (s.adv t).grantTrx ((s.adv t).rd TRN_CAL_CTL.TRX) owTrn with trn := { ((s.adv t).grantTrx ((s.adv t).rd TRN_CAL_CTL.TRX) owTrn).trn with cal := some ((s.adv t).rd TRN_CAL_CTL.TRX) } } : State).wr TRN_STAT.CAL_BUSY 1).wr TRN_TRX_STAT.PHASE 7 ((s.adv t).rd TRN_CAL_CTL.TRX)).toSynth ((s.adv t).rd TRN_CAL_CTL.TRX))) ∧
    (∀ (t : Nat) (k : Nat) (shots : List CalShot) (s : State),
      Powered s →
      (s.adv t).trn.cal = some k →
      Does (.trnCalDone t shots) s ((s.adv t).trnCalTaken k shots))

/-- A bounding request by rapid bits and by two-way ranging, the response vectors, the end of a precompute hold, the burning of free blocks, the rapid bits and their search window, the decision and the retry of a bound; and a locate request, its solve, a solve for another member and one that the master does not answer, each complete in every state that meets the stated conditions, with the whole next state given. -/
def Obligations.BoundingAndLocateCommandsTakeEffect : Prop :=
    (∀ (t : Nat) (n : Nat) (c : Ctx) (s : State),
      Powered s →
      (s.adv t).wantsDbx n = true →
      (s.adv t).ctx n = c →
      (s.adv t).rd DBX_TWR_CFG.MODE ≠ 1 →
      bit c.dbCap 0 = true →
      (s.adv t).running 0x06 = true →
      (s.adv t).boundHere c = true →
      (s.adv t).trnDead ((s.adv t).boundAnc c % 16) = false →
      (s.adv t).dbxEx ((s.adv t).boundAnc c % 16) = none →
      (s.adv t).exch ((s.adv t).boundAnc c % 16) = none →
      (s.adv t).grantable ((s.adv t).boundAnc c % 16) = true →
      Does (.boundRequest t n) s ((s.adv t).rapidStart n ((s.adv t).boundAnc c % 16) ((s.adv t).boundEx n c))) ∧
    (∀ (t : Nat) (n : Nat) (c : Ctx) (s : State),
      Powered s →
      (s.adv t).wantsDbx n = true →
      (s.adv t).ctx n = c →
      (s.adv t).rd DBX_TWR_CFG.MODE = 1 →
      (s.adv t).running 0x06 = true →
      (s.adv t).boundHere c = true →
      (s.adv t).dbxEx ((s.adv t).boundAnc c % 16) = none →
      Does (.boundRequest t n) s ((s.adv t).setDbx ((s.adv t).boundAnc c % 16) ((s.adv t).boundEx n c))) ∧
    (∀ (t : Nat) (n : Nat) (k : Nat) (x : DbxEx) (s : State),
      Powered s →
      SMap.first (s.adv t).dbx.ex (fun _ x => x.session == n && !x.fallback && x.phase == 1) = some (k, x) →
      Does (.vectorsLoaded t n) s ((s.adv t).vecLoad n (some (k, x)))) ∧
    (∀ (t : Nat) (n : Nat) (b : DbxBlock) (s : State),
      Powered s →
      SMap.find (s.adv t).dbx.blocks n = some b →
      ((s.adv t).live n b.gen && decide (ssBound ≤ ((s.adv t).ctx n).state)) = false →
      b.since + msT (orOne ((s.adv t).rd DBX_PRECOMP_CFG.PRECOMP_HOLD)) ≤ (s.adv t).now →
      Does (.precompHoldExpired t n) s (((s.adv t).burn n).irq DBX_IRQ_STAT.HOLD_BURN)) ∧
    (∀ (t : Nat) (s : State),
      Powered s →
      Does (.burnFree t) s (((s.adv t).dbx.blocks.map (·.1)).foldl (fun (a : State) n => if (a.ctx n).state = ssBound then a else a.burn n) (s.adv t))) ∧
    (∀ (t : Nat) (trx : Nat) (x : DbxEx) (b : DbxBlock) (s : State),
      Powered s →
      trx < 16 →
      (s.adv t).dbxEx trx = some x →
      x.phase = 2 →
      x.fallback = false →
      SMap.find ((s.adv t).settle trx 4).dbx.blocks x.session = some b →
      (((s.adv t).settle trx 4).on DBX_STAT.GUARD_CH9 || ((s.adv t).settle trx 4).on DBX_STAT.GUARD_CH5) = false →
      ((s.adv t).settle trx 4).trn.ex = [] →
      ((s.adv t).settle trx 4).trxState trx = rsSynth →
      (((s.adv t).settle trx 4).trx trx).dest = none →
      Does (.rapidBitCommit t trx false) s (((s.adv t).settle trx 4).bitsGo trx x b.bits)) ∧
    (∀ (t : Nat) (trx : Nat) (x : DbxEx) (obs : List (Option (Int × Bool))) (s : State),
      Powered s →
      trx < 16 →
      (s.adv t).dbxEx trx = some x →
      (x.phase = 3 ∨ x.phase = 4) →
      ((s.adv t).settle trx 4).trxState trx = rsRapid →
      Does (.searchWindowClose t trx obs) s (((((s.adv t).settle trx 4).frameOver trx false).burn x.session).setDbx trx { x with phase := 5, obs := obs.take x.n, leftAt := (((s.adv t).settle trx 4).frameOver trx false).now })) ∧
    (∀ (t : Nat) (n : Nat) (k : Nat) (x : DbxEx) (v : DbxVec) (s : State),
      Powered s →
      SMap.first (s.adv t).dbx.ex (fun _ x => x.session == n && (x.phase == 5 || (x.fallback && x.left == 0))) = some (k, x) →
      x.fallback = false →
      SMap.find (s.adv t).dbx.vecs n = some v →
      Does (.boundDecision t n false) s ((s.adv t).rbDecide k x v)) ∧
    (∀ (t : Nat) (n : Nat) (k : Nat) (x : DbxEx) (poison : Bool) (s : State),
      Powered s →
      SMap.first (s.adv t).dbx.ex (fun _ x => x.session == n && (x.phase == 5 || (x.fallback && x.left == 0))) = some (k, x) →
      x.fallback = true →
      (s.adv t).trn.ex = [] →
      (s.adv t).trn.away = [] →
      Does (.boundDecision t n poison) s ((s.adv t).twrDecide k x)) ∧
    (∀ (t : Nat) (trx : Nat) (x : DbxEx) (s : State),
      Powered s →
      (s.adv t).dbxEx trx = some x →
      x.phase = 7 →
      x.leftAt + usT 100 ≤ (s.adv t).now →
      Does (.dbxRetry t trx) s (((((s.adv t).add DBX_CNT_MISC.RETRY 1).drawBlock x.session x.gen).dbxSynth trx).setDbx trx { x with phase := 1, seq := x.seq + 1, retries := x.retries + 1 })) ∧
    (∀ (t : Nat) (n : Nat) (poisoned : Bool) (s : State),
      Powered s →
      (s.adv t).wantsAlm n = true →
      ((s.adv t).ctx n).state = ssLocate →
      (s.adv t).running 0x07 = true →
      Does (.locateRequest t n poisoned) s ((s.adv t).locate n poisoned)) ∧
    (∀ (t : Nat) (us : Nat) (s : State),
      Powered s →
      (s.adv t).running 0x07 = true →
      Does (.solveDone t us) s ((s.adv t).serveSolve us)) ∧
    (∀ (t : Nat) (dev : Nat) (tag : Nat) (payload : List Byte) (s : State),
      Powered s →
      (s.adv t).on MER_STAT.MASTER = true →
      ((s.adv t).serveLocate dev tag payload).isSome = true →
      Does (.remoteSolveRequest t dev tag payload) s (((s.adv t).serveLocate dev tag payload).getD (s.adv t))) ∧
    (∀ (t : Nat) (n : Nat) (q : SolveReq) (s : State),
      Powered s →
      (s.adv t).alm.away.find? (fun q => match q.dest with | .session m _ => m == n | _ => false) = some q →
      q.since + usT (100 * orOne ((s.adv t).rd ALM_SOLVE_CFG.SOLVE_TO)) ≤ (s.adv t).now →
      Does (.solveTimeout t n) s ((s.adv t).solveLost n q))

/-- The opening of a session for a poll, a directed wake, a button frame and the S3 watch, the consuming of completions (the first waiting one, or the one of a lookup, a check value or a range), the two deadlines, the cancel of a session, the wait for credit, the service of waiting claims and a write of a pool size each complete in every state that meets the stated conditions, with the whole next state given. -/
def Obligations.SessionCommandsTakeEffect : Prop :=
    (∀ (t : Nat) (e : Nat) (core : Nat) (frame : List Byte) (p : LfpPoll) (s : State),
      Powered s →
      (s.adv t).lfp.polls.find? (fun p => p.entry == e && p.asked && p.owner.isNone) = some p →
      Does (.sessionOpen t 0 e core frame) s ((s.adv t).openPoll e)) ∧
    (∀ (t : Nat) (p : Nat) (core : Nat) (n : Nat) (frame : List Byte) (g : Prog) (s : State),
      Powered s →
      (s.adv t).prog p = some g →
      (s.adv t).progOk p 2 = true →
      (s.adv t).openCode (some p) = ccOk →
      (s.adv t).freeHead = some n →
      16 ≤ core →
      Does (.sessionOpen t 1 p core frame) s ((s.adv t).openOn n 1 p g.zone)) ∧
    (∀ (t : Nat) (p : Nat) (core : Nat) (n : Nat) (frame : List Byte) (g : Prog) (s : State),
      Powered s →
      (s.adv t).prog p = some g →
      (s.adv t).progOk p 2 = true →
      (s.adv t).openCode (some p) = ccOk →
      (s.adv t).freeHead = some n →
      core < 16 →
      (((s.adv t).openOn n 1 p g.zone).bound core).isSome = true →
      Does (.sessionOpen t 1 p core frame) s (((s.adv t).openOn n 1 p g.zone).scDone core ccOk)) ∧
    (∀ (t : Nat) (p : Nat) (core : Nat) (frame : List Byte) (s : State),
      Powered s →
      (s.adv t).progOk p 3 = true →
      (s.adv t).openCode (some p) = ccOk →
      (s.adv t).freeHead.isSome = true →
      Does (.sessionOpen t 2 p core frame) s (((s.adv t).openButton p false frame (s.adv t).now).2)) ∧
    (∀ (t : Nat) (sel : Nat) (core : Nat) (frame : List Byte) (h : Nat × Nat × Nat × Nat × Nat × Nat) (s : State),
      Powered s →
      (s.adv t).lfp.held = some h →
      Does (.sessionOpen t 3 sel core frame) s ((s.adv t).openWatch)) ∧
    (∀ (t : Nat) (q : Cpl) (rest : List Cpl) (s : State),
      Powered s →
      (s.adv t).ses.cpl = q :: rest →
      Does (.completionConsume t) s ((s.adv t).consume q)) ∧
    (∀ (t : Nat) (n : Nat) (q : Cpl) (s : State),
      Powered s →
      (s.adv t).ses.cpl.find? (fun c => c.session == n && c.pool == poolEph) = some q →
      Does (.lookupResult t n) s ((s.adv t).consume q)) ∧
    (∀ (t : Nat) (n : Nat) (q : Cpl) (s : State),
      Powered s →
      (s.adv t).ses.cpl.find? (fun c => c.session == n && c.pool == poolKce) = some q →
      Does (.checkValueResult t n) s ((s.adv t).consume q)) ∧
    (∀ (t : Nat) (n : Nat) (q : Cpl) (s : State),
      Powered s →
      (s.adv t).ses.cpl.find? (fun c => c.session == n && c.pool == poolTrn) = some q →
      Does (.rangeResult t n) s ((s.adv t).consume q)) ∧
    (∀ (t : Nat) (n : Nat) (c : Ctx) (s : State),
      Powered s →
      (s.adv t).ctx? n = some c →
      c.openEarly = true →
      c.deadline ≠ 0 →
      c.dec ≠ 1 →
      c.deadline + (if c.state = ssDecide then (s.adv t).pausedOf n else 0) ≤ (s.adv t).now →
      (decide (c.state = ssIdent) && (s.adv t).eph.waiting.contains (n, c.gen)) = false →
      Does (.deadlineExpired t n) s (((s.adv t).irq SES_IRQ_STAT.TIMEOUT).cancel n ccTimeout)) ∧
    (∀ (t : Nat) (n : Nat) (c : Ctx) (s : State),
      Powered s →
      (s.adv t).ctx? n = some c →
      c.openEarly = true →
      c.deadline ≠ 0 →
      c.dec ≠ 1 →
      c.deadline ≤ (s.adv t).now →
      c.state = ssIdent →
      (s.adv t).eph.waiting.contains (n, c.gen) = true →
      Does (.deadlineExpired t n) s (((s.adv t).irq SES_IRQ_STAT.TIMEOUT).cancel n ccNotVerified)) ∧
    (∀ (t : Nat) (n : Nat) (c : Ctx) (s : State),
      Powered s →
      (s.adv t).ctx? n = some c →
      c.openEarly = true →
      ssWake ≤ c.state →
      c.dec ≠ 1 →
      ((s.adv t).aux n).tWake + msT (10 * orOne ((s.adv t).rd SES_TO_CFG_C.SESSION_MAX)) + (s.adv t).pausedOf n ≤ (s.adv t).now →
      Does (.sessionMaxExpired t n) s (((s.adv t).irq SES_IRQ_STAT.TIMEOUT).cancel n ccTimeout)) ∧
    (∀ (t : Nat) (n : Nat) (gen : Nat) (s : State),
      Powered s →
      (s.adv t).live n gen = true →
      Does (.sesCancel t n gen) s ((s.adv t).cancel n ccCancelled)) ∧
    (∀ (t : Nat) (n : Nat) (s : State),
      Powered s →
      (s.adv t).ses.claims.any (fun c => c.session == n && poolClass (c.pools.headD 0) == 2) = true →
      ((s.adv t).aux n).waitFrom + msT (orOne ((s.adv t).rd SES_TO_CFG_C.CREDIT_WAIT)) ≤ (s.adv t).now →
      Does (.creditWaitExpired t n) s (((s.adv t).irq SES_IRQ_STAT.CREDIT).cancel n ccCapacity)) ∧
    (∀ (t : Nat) (s : State),
      Powered s →
      Does (.creditGrant t) s ((s.adv t).drainClaims)) ∧
    (∀ (t : Nat) (k : Nat) (size : Nat) (s : State),
      Powered s →
      (s.adv t).on SES_CTL.LOCK = false →
      Does (.poolSizeWrite t k size) s (((s.adv t).wr SES_CREDIT_CFG.SIZE size k).drainClaims))

/-- A button frame, the per-token update and its limit, the calls of a script for a decision, its committed record, the release actions and the outputs' own events, and the node and vehicle replies each complete in every state that meets the stated conditions, with the whole next state given. -/
def Obligations.ShutterCommandsTakeEffect : Prop :=
    (∀ (t : Nat) (trx : Nat) (payload : List Byte) (s : State),
      Powered s →
      16 ≤ trx →
      trx < 20 →
      (s.adv t).owner trx = owSes →
      (s.adv t).trxState trx = rsReceive →
      Does (.buttonFrame t trx payload) s ((s.adv t).buttonFrame payload (s.adv t).now)) ∧
    (∀ (t : Nat) (n : Nat) (r : State) (s : State),
      Powered s →
      (s.adv t).takeCommitted (.perToken n ((s.adv t).ctx n).gen) = some r →
      Does (.perTokenUpdateCommit t n) s (((r.updAux n (fun x => { x with ptWord := none, ptSince := none })).releaseClaim n ((r.updAux n (fun x => { x with ptWord := none, ptSince := none })).ctx n).gen).recordReady n)) ∧
    (∀ (t : Nat) (n : Nat) (a : Nat) (s : State),
      Powered s →
      ((s.adv t).aux n).ptSince = some a →
      a + msT 5 ≤ (s.adv t).now →
      ((s.adv t).ctx n).committed = false →
      Does (.perTokenUpdateTimeout t n) s ((s.adv t).perTokenLate n)) ∧
    (∀ (t : Nat) (core : Nat) (n : Nat) (gen : Nat) (s : State),
      Powered s →
      core < 16 →
      ((s.adv t).core core).scBusy = false →
      ((s.adv t).bump AST_CNT_SESCALL.COUNT).bound core = some (n, gen) →
      (s.adv t).live n gen = true →
      ((s.adv t).ctx n).state = ssDecide →
      ((s.adv t).ctx n).committed = false →
      ((s.adv t).ctx n).dec = 0 →
      Does (.grant t core) s ((s.adv t).scGrant core)) ∧
    (∀ (t : Nat) (core : Nat) (n : Nat) (gen : Nat) (code : Nat) (s : State),
      Powered s →
      core < 16 →
      ((s.adv t).core core).scBusy = false →
      ((s.adv t).bump AST_CNT_SESCALL.COUNT).bound core = some (n, gen) →
      (s.adv t).live n gen = true →
      ((s.adv t).ctx n).state = ssDecide →
      ((s.adv t).ctx n).committed = false →
      ((s.adv t).ctx n).dec = 0 →
      Does (.refuse t core code) s ((((((s.adv t).bump AST_CNT_SESCALL.COUNT).updCore core (fun k => { k with scBusy := true, scNew := false })).updCtx n (fun c => { c with dec := 2 })).abort n (if code = ccDenied ∨ (0x80 ≤ code ∧ code ≤ 0xFF) then code else ccDenied)))) ∧
    (∀ (t : Nat) (core : Nat) (n : Nat) (gen : Nat) (code : Nat) (s : State),
      Powered s →
      core < 16 →
      ((s.adv t).core core).scBusy = false →
      ((s.adv t).bump AST_CNT_SESCALL.COUNT).bound core = some (n, gen) →
      (s.adv t).live n gen = true →
      ((s.adv t).ctx n).state = ssDecide →
      ((s.adv t).ctx n).committed = false →
      Does (.cancel t core code) s (((((s.adv t).bump AST_CNT_SESCALL.COUNT).updCore core (fun k => { k with scBusy := true, scNew := false })).cancel n (if code = ccDenied ∨ (0x80 ≤ code ∧ code ≤ 0xFF) then code else ccCancelled)))) ∧
    (∀ (t : Nat) (n : Nat) (c : Ctx) (s : State),
      Powered s →
      (s.adv t).ctx? n = some c →
      c.state = ssDecide →
      c.dec = 1 →
      c.committed = false →
      ((s.adv t).takeCommitted (.record c.arcSeq)).isSome = true →
      Does (.decisionCommitted t n) s ((s.adv t).decisionDone n)) ∧
    (∀ (t : Nat) (e : Nat) (r : Rel) (s : State),
      Powered s →
      (s.adv t).rel e = some r →
      r.state = 1 →
      r.begun = false →
      ((s.adv t).takeConfirmed (.record r.arcSeq)).isSome = true →
      Does (.releaseAction t e) s ((s.adv t).releaseAction e)) ∧
    (∀ (t : Nat) (o : Nat) (e : Nat) (r : Rel) (rest : List (Nat × Rel)) (s : State),
      Powered s →
      (s.adv t).outQueue o = (e, r) :: rest →
      r.begun = true →
      (s.adv t).on SHU_OUT_STAT.RUNNING o = false →
      (s.adv t).gapOver o = true →
      Does (.queuedReleaseStart t o) s ((s.adv t).startRel e)) ∧
    (∀ (t : Nat) (o : Nat) (ohm : Nat) (closed : Bool) (s : State),
      Powered s →
      o < 16 →
      (s.adv t).pwrState ≤ psS1 →
      (s.adv t).running 0x09 = true →
      Does (.senseChange t o ohm closed) s ((s.adv t).senseChange o ohm closed)) ∧
    (∀ (t : Nat) (o : Nat) (s : State),
      Powered s →
      o < 16 →
      (s.adv t).on SHU_OUT_STAT.ASSERTED o = true →
      (s.adv t).on SHU_OUT_CFG.SUPERVISE o = true →
      Does (.outputFault t o true) s (((s.adv t).outFault o 2 rrShort).updOut o (fun x => { x with absent := some ((s.adv t).outFault o 2 rrShort).now }))) ∧
    (∀ (t : Nat) (o : Nat) (s : State),
      Powered s →
      o < 16 →
      (s.adv t).on SHU_OUT_STAT.ASSERTED o = true →
      (s.adv t).on SHU_OUT_CFG.SUPERVISE o = true →
      Does (.outputFault t o false) s ((s.adv t).outFault o 1 rrOpen)) ∧
    (∀ (t : Nat) (o : Nat) (s : State),
      Powered s →
      o < 16 →
      (s.adv t).on SHU_OUT_STAT.ASSERTED o = true →
      (s.adv t).rd SHU_OUT_CFG.MODE o = 1 →
      ((s.adv t).outS o).test ≠ 2 →
      ((s.adv t).outS o).onAt + msT (max 10 ((s.adv t).rd SHU_OUT_CTL.PULSE_MS o)) ≤ (s.adv t).now →
      Does (.pulseEnd t o) s ((s.adv t).outEdge o false)) ∧
    (∀ (t : Nat) (o : Nat) (s : State),
      Powered s →
      o < 16 →
      (s.adv t).on SHU_OUT_CFG.EN o = true →
      (s.adv t).on SHU_OUT_CFG.SUPERVISE o = true →
      (s.adv t).on SHU_OUT_STAT.ASSERTED o = false →
      SMap.find (s.adv t).shu.loadTest o = none →
      (s.adv t).running 0x09 = true →
      (s.adv t).pwrState ≤ psS1 →
      Does (.openLoadTest t o false) s ((({ (s.adv t) with shu := { (s.adv t).shu with loadTest := SMap.put (s.adv t).shu.loadTest o (s.adv t).now } } : State).outFault o 1 rrOpen).updOut o (fun x => { x with absent := none }))) ∧
    (∀ (t : Nat) (o : Nat) (a : Nat) (s : State),
      Powered s →
      o < 16 →
      (s.adv t).rd SHU_OUT_STAT.FAULT o ≠ 0 →
      ((s.adv t).outS o).absent = some a →
      a + secT 1 ≤ (s.adv t).now →
      Does (.clrFault t o) s ((((s.adv t).wr SHU_OUT_STAT.FAULT 0 o).updOut o (fun x => { x with absent := none })).archiveEvent 0x09 o 0)) ∧
    (∀ (t : Nat) (port : Nat) (o : Nat) (s : State),
      Powered s →
      (s.adv t).viewReason port 0x09 = none →
      o < 16 →
      (s.adv t).on SHU_OUT_STAT.RUNNING o = false →
      (s.adv t).outQueue o = [] →
      (s.adv t).rd SHU_OUT_STAT.FAULT o = 0 →
      ((s.adv t).outS o).test = 0 →
      (s.adv t).running 0x09 = true →
      Does (.test t port true o) s ((s.adv t).outTest o)) ∧
    (∀ (t : Nat) (e : Nat) (r : Rel) (s : State),
      Powered s →
      (s.adv t).rel e = some r →
      r.state = 2 →
      r.tStart + msT (100 * r.toDs) ≤ (s.adv t).now →
      r.kind ≠ rkOutput →
      Does (.releaseTimeout t e) s ((s.adv t).endRel e ccTimeout rrTimeout)) ∧
    (∀ (t : Nat) (e : Nat) (r : Rel) (s : State),
      Powered s →
      (s.adv t).rel e = some r →
      r.state = 2 →
      r.tStart + msT (100 * r.toDs) ≤ (s.adv t).now →
      r.kind = rkOutput →
      (s.adv t).rd SHU_OUT_STAT.SENSE r.target = 4 →
      Does (.releaseTimeout t e) s ((s.adv t).endRel e ccTimeout rrNoSense)) ∧
    (∀ (t : Nat) (e : Nat) (q : Nat) (r : Rel) (s : State),
      Powered s →
      (s.adv t).rel e = some r →
      r.closeSeq = some q →
      ((s.adv t).takeCommitted (.record q)).isSome = true →
      Does (.closingRecordCommit t e) s ((s.adv t).closingDone e))

/-- An acknowledgement, a passage report and a refusal of a node, its acknowledgement that does not come, BUS_OFF, its restart and its recovery, the resend and the status query of a permit, a vehicle's reply, and the commands of Finder (announce, confirm, the assign limit, beat, leave, departure, probe) each complete in every state that meets the stated conditions, with the whole next state given. A frame that needs a check value is taken with the right one. -/
def Obligations.NodeAndFinderCommandsTakeEffect : Prop :=
    (∀ (t : Nat) (bus : Nat) (id : Nat) (e : Nat) (data : List Byte) (r : Rel) (tag : List Byte) (s1 : State) (s : State),
      Powered s →
      bus < 2 →
      (s.adv t).on SHU_CAN_CTL.EN bus = true →
      (s.adv t).rd SHU_CAN_STAT.STATE bus < 2 →
      bits id 28 24 = 0x11 →
      data.length = 16 →
      leAt data 0 1 = 0x11 →
      leAt data 1 1 = bits id 23 16 →
      SMap.get (((s.adv t).rxLog bus id true true).fndHeard bus (bits id 23 16)).shu.nodeBus (bits id 23 16) 0 = bus →
      SMap.first (((s.adv t).rxLog bus id true true).fndHeard bus (bits id 23 16)).shu.rel (fun _ r => r.kind == rkNode && r.target == bits id 23 16 && r.state == 2 && r.arcSeq == leAt data 4 4) = some (e, r) →
      ((((s.adv t).rxLog bus id true true).fndHeard bus (bits id 23 16)).kceNow 0x09 kKNODE (SMap.get (((s.adv t).rxLog bus id true true).fndHeard bus (bits id 23 16)).shu.nodeId (bits id 23 16) []) (slice data 0 8)) = (ccOk, tag, s1) →
      tag.take 8 = slice data 8 8 →
      Does (.ack t bus id data) s (s1.updRel e (fun r => { r with acked := true }))) ∧
    (∀ (t : Nat) (bus : Nat) (id : Nat) (e : Nat) (data : List Byte) (r : Rel) (tag : List Byte) (s1 : State) (s : State),
      Powered s →
      bus < 2 →
      (s.adv t).on SHU_CAN_CTL.EN bus = true →
      (s.adv t).rd SHU_CAN_STAT.STATE bus < 2 →
      bits id 28 24 = 0x12 →
      data.length = 16 →
      leAt data 0 1 = 0x12 →
      leAt data 1 1 = bits id 23 16 →
      SMap.get (((s.adv t).rxLog bus id true true).fndHeard bus (bits id 23 16)).shu.nodeBus (bits id 23 16) 0 = bus →
      SMap.first (((s.adv t).rxLog bus id true true).fndHeard bus (bits id 23 16)).shu.rel (fun _ r => r.kind == rkNode && r.target == bits id 23 16 && r.state == 2 && r.arcSeq == leAt data 4 4) = some (e, r) →
      ((((s.adv t).rxLog bus id true true).fndHeard bus (bits id 23 16)).kceNow 0x09 kKNODE (SMap.get (((s.adv t).rxLog bus id true true).fndHeard bus (bits id 23 16)).shu.nodeId (bits id 23 16) []) (slice data 0 8)) = (ccOk, tag, s1) →
      tag.take 8 = slice data 8 8 →
      Does (.passageReport t bus id data) s (s1.endRel e ccOk rrPassage)) ∧
    (∀ (t : Nat) (bus : Nat) (id : Nat) (e : Nat) (data : List Byte) (r : Rel) (tag : List Byte) (s1 : State) (s : State),
      Powered s →
      bus < 2 →
      (s.adv t).on SHU_CAN_CTL.EN bus = true →
      (s.adv t).rd SHU_CAN_STAT.STATE bus < 2 →
      bits id 28 24 = 0x13 →
      data.length = 16 →
      leAt data 0 1 = 0x13 →
      leAt data 1 1 = bits id 23 16 →
      SMap.get (((s.adv t).rxLog bus id true true).fndHeard bus (bits id 23 16)).shu.nodeBus (bits id 23 16) 0 = bus →
      SMap.first (((s.adv t).rxLog bus id true true).fndHeard bus (bits id 23 16)).shu.rel (fun _ r => r.kind == rkNode && r.target == bits id 23 16 && r.state == 2 && r.arcSeq == leAt data 4 4) = some (e, r) →
      ((((s.adv t).rxLog bus id true true).fndHeard bus (bits id 23 16)).kceNow 0x09 kKNODE (SMap.get (((s.adv t).rxLog bus id true true).fndHeard bus (bits id 23 16)).shu.nodeId (bits id 23 16) []) (slice data 0 8)) = (ccOk, tag, s1) →
      tag.take 8 = slice data 8 8 →
      Does (.nodeRefuse t bus id data) s (s1.endRel e ccDenied rrRefused)) ∧
    (∀ (t : Nat) (e : Nat) (r : Rel) (s : State),
      Powered s →
      (s.adv t).rel e = some r →
      r.state = 2 →
      r.kind = rkNode →
      r.acked = false →
      r.sent + msT (max 10 ((s.adv t).rd SHU_NODE_CFG.NODE_ACK)) ≤ (s.adv t).now →
      r.tries < orOne ((s.adv t).rd SHU_NODE_CFG.NODE_TRIES) →
      Does (.nodeAckTimeout t e) s ((s.adv t).sendNode e r)) ∧
    (∀ (t : Nat) (e : Nat) (r : Rel) (s : State),
      Powered s →
      (s.adv t).rel e = some r →
      r.state = 2 →
      r.kind = rkNode →
      r.acked = false →
      r.sent + msT (max 10 ((s.adv t).rd SHU_NODE_CFG.NODE_ACK)) ≤ (s.adv t).now →
      orOne ((s.adv t).rd SHU_NODE_CFG.NODE_TRIES) ≤ r.tries →
      Does (.nodeAckTimeout t e) s (((s.adv t).nodeFault r.target).endRel e ccWireBreak rrNoAck)) ∧
    (∀ (t : Nat) (bus : Nat) (errs : List Nat) (s : State),
      Powered s →
      bus < 2 →
      (s.adv t).rd SHU_CAN_STAT.STATE bus ≠ 2 →
      (s.adv t).on SHU_CAN_CTL.EN bus = true →
      Does (.busOff t bus errs) s ((s.adv t).busOffNow bus errs)) ∧
    (∀ (t : Nat) (bus : Nat) (s : State),
      Powered s →
      bus < 2 →
      (s.adv t).rd SHU_CAN_STAT.STATE bus = 2 →
      (s.adv t).shu.restart.contains bus = false →
      Does (.restart t bus) s ({ (s.adv t) with shu := { (s.adv t).shu with restart := bus :: (s.adv t).shu.restart } })) ∧
    (∀ (t : Nat) (bus : Nat) (s : State),
      Powered s →
      bus < 2 →
      (s.adv t).rd SHU_CAN_STAT.STATE bus = 2 →
      (s.adv t).on SHU_CAN_CTL.RESTART_MAN bus = false →
      Does (.busOffRecovered t bus) s ((((({ (s.adv t) with shu := { (s.adv t).shu with restart := (s.adv t).shu.restart.erase bus } } : State).wr SHU_CAN_STAT.STATE 0 bus).wr SHU_CAN_ERR.TEC 0 bus).wr SHU_CAN_ERR.REC 0 bus).irq SHU_CAN_IRQ_STAT.RECOVERED bus)) ∧
    (∀ (t : Nat) (e : Nat) (r : Rel) (s : State),
      Powered s →
      (s.adv t).rel e = some r →
      r.state = 2 →
      r.kind = rkPermit →
      r.acked = false →
      r.sent + msT (max 10 ((s.adv t).rd SHU_PERMIT_CFG.PERMIT_ACK)) ≤ (s.adv t).now →
      Does (.permitResend t e) s ((s.adv t).permitAgain e r (r.sent + msT (max 10 ((s.adv t).rd SHU_PERMIT_CFG.PERMIT_ACK))))) ∧
    (∀ (t : Nat) (e : Nat) (r : Rel) (s : State),
      Powered s →
      (s.adv t).rel e = some r →
      r.state = 2 →
      r.kind = rkPermit →
      r.acked = true →
      SMap.get (s.adv t).shu.polled e r.sent + msT (100 * orOne ((s.adv t).rd SHU_PERMIT_CFG.PERMIT_POLL)) ≤ (s.adv t).now →
      Does (.statusQuery t e) s ((s.adv t).permitPoll e r)) ∧
    (∀ (t : Nat) (e : Nat) (frame : List Byte) (r : Rel) (tag : List Byte) (s1 : State) (s : State),
      Powered s →
      (s.adv t).rel e = some r →
      (s.adv t).owner r.target = owShu →
      r.state = 2 →
      r.kind = rkPermit →
      frame.length = 24 →
      leAt frame 0 1 = 0x56 →
      leAt frame 1 1 = 1 →
      leAt frame 4 4 = r.vuId →
      leAt frame 8 4 = r.arcSeq →
      (s.adv t).kceNow 0x09 kKVU (leBytes 4 r.vuId) (slice frame 0 16) = (ccOk, tag, s1) →
      tag.take 8 = slice frame 16 8 →
      Does (.vehicleReply t e frame) s ((s1.shuGive r.target).updRel e (fun r => { r with acked := true }))) ∧
    (∀ (t : Nat) (bus : Nat) (nodeId : Nat) (kind : Nat) (ver : Nat) (nonce : Nat) (s : State),
      Powered s →
      (s.adv t).fndOn bus = true →
      kind = 0 →
      nodeId < 2 ^ 64 →
      ver < 256 →
      nonce < 2 ^ 32 →
      SMap.find (s.adv t).mgt.ann (1 - bus) = none →
      SMap.first (s.adv t).mgt.nodes (fun _ x => x.nodeId == nodeId && x.state == 2) = none →
      SMap.first (s.adv t).mgt.nodes (fun _ x => x.nodeId == nodeId && x.state == 1) = none →
      Does (.announce t bus nodeId kind ver nonce) s (({ (s.adv t) with mgt := { (s.adv t).mgt with ann := SMap.put (s.adv t).mgt.ann bus (nodeId, (s.adv t).now) } } : State).fndAssign bus nodeId 0 ver nonce)) ∧
    (∀ (t : Nat) (bus : Nat) (h : Nat) (frame : List Byte) (x : FndNode) (tag : List Byte) (s1 : State) (s : State),
      Powered s →
      (s.adv t).fnd h = some x →
      x.state = 1 →
      x.bus = bus →
      (s.adv t).fndOn bus = true →
      (s.adv t).now ≤ x.since + msT (orOne ((s.adv t).rd MGT_FND_CFG.ASSIGN_TO)) →
      frame.length = 16 →
      leAt frame 0 1 = h →
      leAt frame 1 3 = 0 →
      leAt frame 4 4 = x.dnonce →
      (s.adv t).fndCheck x (slice frame 0 8) = (ccOk, tag, s1) →
      tag = slice frame 8 8 →
      Does (.confirm t bus h frame) s (s1.fndAdopt bus h x)) ∧
    (∀ (t : Nat) (h : Nat) (x : FndNode) (s : State),
      Powered s →
      (s.adv t).fnd h = some x →
      x.state = 1 →
      x.since + msT (orOne ((s.adv t).rd MGT_FND_CFG.ASSIGN_TO)) < (s.adv t).now →
      Does (.assignTimeout t h) s (((s.adv t).delFnd h).fndRefuse h)) ∧
    (∀ (t : Nat) (bus : Nat) (h : Nat) (x : FndNode) (s : State),
      Powered s →
      (s.adv t).fnd h = some x →
      x.state = 2 →
      x.bus = bus →
      (s.adv t).fndOn bus = true →
      Does (.beat t bus h) s (((s.adv t).fndHeard bus h).setNode SHU_NODE_FAULT.MAP h false)) ∧
    (∀ (t : Nat) (bus : Nat) (h : Nat) (frame : List Byte) (x : FndNode) (tag : List Byte) (s1 : State) (s : State),
      Powered s →
      (s.adv t).fnd h = some x →
      x.state = 2 →
      x.bus = bus →
      (s.adv t).fndOn bus = true →
      x.ctr = none →
      frame.length = 16 →
      leAt frame 0 1 = h →
      leAt frame 1 3 = 0 →
      ((s.adv t).fndHeard bus h).fndCheck x (slice frame 0 8) = (ccOk, tag, s1) →
      tag = slice frame 8 8 →
      Does (.leave t bus h frame) s ((s1.putFnd h { x with ctr := some (leAt frame 4 4) }).fndDepart h dcLeave)) ∧
    (∀ (t : Nat) (h : Nat) (x : FndNode) (s : State),
      Powered s →
      (s.adv t).fnd h = some x →
      x.state = 2 →
      x.heard + msT (max 2 ((s.adv t).rd MGT_FND_CFG.DEPART_N) * max 10 ((s.adv t).rd MGT_FND_CFG.HB_MS)) ≤ (s.adv t).now →
      Does (.departure t h) s ((s.adv t).fndDepart h dcSilent)) ∧
    (∀ (t : Nat) (s : State),
      Powered s →
      Does (.probe t) s ((s.adv t).fndProbe))

/-- A lookup, the fetch and the sweep of a page, the root check, the change commands of a script and of the host (enrol, revoke, suspend, resume, attributes, remove, enrolment code), an adopted and an empty image, the commits of a journal entry and of its follow-on writes, a change that waited too long, a search, and the commands and steps of a compaction each complete in every state that meets the stated conditions, with the whole next state given. -/
def Obligations.EphemerisCommandsTakeEffect : Prop :=
    (∀ (t : Nat) (n : Nat) (dram : Nat) (s : State),
      Powered s →
      (s.adv t).wantsEph n = true →
      (s.adv t).running 0x0A = true →
      (s.adv t).lookupAway n = false →
      Does (.lookup t n dram) s ((s.adv t).lookup n dram)) ∧
    (∀ (t : Nat) (n : Nat) (dram : Nat) (s : State),
      Powered s →
      (s.adv t).wantsEph n = true →
      (s.adv t).running 0x0A = true →
      (s.adv t).lookupAway n = true →
      Does (.lookup t n dram) s ((s.adv t).lookupSend n)) ∧
    (∀ (t : Nat) (page : Nat) (data : List Byte) (line : List Byte) (s : State),
      Powered s →
      page < ephPages →
      (s.adv t).ephTakes = true →
      (s.adv t).ephOk page = false →
      (s.adv t).eph.bad.contains page = false →
      Does (.pageFetchDone t page data line) s (((s.adv t).bump EPH_CNT_REFETCH.COUNT).ephFetch page data line)) ∧
    (∀ (t : Nat) (data : List Byte) (line : List Byte) (s : State),
      Powered s →
      (s.adv t).ephTakes = true →
      (s.adv t).eph.sweep < ephPages →
      (s.adv t).eph.fetched.contains (s.adv t).eph.sweep = false →
      Does (.sweepPage t data line) s ((State.sweepOn (((s.adv t).ephFetch (s.adv t).eph.sweep data line).eph.fetched.length + 2) ((s.adv t).ephFetch (s.adv t).eph.sweep data line)).ephStat)) ∧
    (∀ (t : Nat) (staged : Bool) (l1 : List Byte) (c : EphCommit) (s : State),
      Powered s →
      (s.adv t).rd EPH_STAT.STATE = ephLoading →
      (s.adv t).eph.accepted = false →
      (s.adv t).eph.commit = some c →
      (s.adv t).keyCode kKT false = ccOk →
      Does (.rootCheck t staged l1) s ((s.adv t).rootCheck staged l1)) ∧
    (∀ (t : Nat) (core : Nat) (n : Nat) (gen : Nat) (record : List Byte) (s : State),
      Powered s →
      core < 16 →
      ((s.adv t).core core).scBusy = false →
      ((s.adv t).bump AST_CNT_SESCALL.COUNT).bound core = some (n, gen) →
      (s.adv t).live n gen = true →
      ((s.adv t).ctx n).state = ssDecide →
      ((s.adv t).ctx n).committed = false →
      Does (.enrolToken t core true record) s ((((s.adv t).bump AST_CNT_SESCALL.COUNT).updCore core (fun k => { k with scBusy := true, scNew := false })).submitChange { op := 1, route := 0, token := leAt record 1 3, kv := leAt record 4 1 % 16, record := padTo record 128, dest := .core core n gen, since := (s.adv t).now })) ∧
    (∀ (t : Nat) (core : Nat) (n : Nat) (gen : Nat) (token : Nat) (s : State),
      Powered s →
      core < 16 →
      ((s.adv t).core core).scBusy = false →
      ((s.adv t).bump AST_CNT_SESCALL.COUNT).bound core = some (n, gen) →
      (s.adv t).live n gen = true →
      ((s.adv t).ctx n).state = ssDecide →
      ((s.adv t).ctx n).committed = false →
      Does (.revoke t core token) s ((((s.adv t).bump AST_CNT_SESCALL.COUNT).updCore core (fun k => { k with scBusy := true, scNew := false })).submitChange { op := 3, route := 0, token := token % 2 ^ 24, dest := .core core n gen, since := (s.adv t).now })) ∧
    (∀ (t : Nat) (op : Nat) (k : Nat) (c : Instr) (x : EphChange) (s : State),
      Powered s →
      (c, op) ∈ [(Instr.enrolToken t 16 true [], 1), (Instr.revoke t 16 0, 3), (Instr.suspend t, 4), (Instr.resume t, 5), (Instr.attr t, 6), (Instr.remove t, 7)] →
      (s.adv t).eph.changes.find? (fun x => x.op == op) = some x →
      ((s.adv t).dropChange x).changeBar x = none →
      ((s.adv t).dropChange x).ephFind x.token = .at k →
      Does (c) s ((((s.adv t).dropChange x).applyChange x (((s.adv t).dropChange x).changeOut x (some k))).ephStat)) ∧
    (∀ (t : Nat) (token : Nat) (kv : Nat) (template : Nat) (expDay : Nat) (num : Nat) (digits : Nat) (s : State),
      Powered s →
      (s.adv t).on EPH_CODE_RESULT.BUSY = false →
      ((((((((s.adv t).wr EPH_CODE_ID.TOKEN_ID token).wr EPH_CODE_ID.KV kv).wr EPH_CODE_ARG.TEMPLATE template).wr EPH_CODE_ARG.EXP_DAY expDay).wr EPH_CODE_NUM.NUM num).wr EPH_CODE_DIGITS_LO.DIGITS digits).wr EPH_CODE_DIGITS_HI.DIGITS (digits / 2 ^ 32)).on EPH_CODE_RESULT.BUSY = false →
      Does (.enrolCode t token kv template expDay num digits) s (((((((((s.adv t).wr EPH_CODE_ID.TOKEN_ID token).wr EPH_CODE_ID.KV kv).wr EPH_CODE_ARG.TEMPLATE template).wr EPH_CODE_ARG.EXP_DAY expDay).wr EPH_CODE_NUM.NUM num).wr EPH_CODE_DIGITS_LO.DIGITS digits).wr EPH_CODE_DIGITS_HI.DIGITS (digits / 2 ^ 32)).codeSubmit)) ∧
    (∀ (t : Nat) (mode : Nat) (c : Instr) (x : EphChange) (s : State),
      Powered s →
      (c, mode) ∈ [(Instr.adopt t, 0), (Instr.format t, 1)] →
      (s.adv t).adoptWaiting mode = some x →
      (s.adv t).eph.newCommit = none →
      (s.adv t).jrnlRoom 8 = true →
      Does (c) s ((s.adv t).adopt mode)) ∧
    (∀ (t : Nat) (j : Nat) (r : State) (e : JEntry) (s : State),
      Powered s →
      (s.adv t).takeCommitted (.journalCommit j) = some r →
      (s.adv t).eph.journal.find? (fun e => e.jseq == j) = some e →
      e.stage = 1 →
      Does (.journalCommit t j) s (r.jrnlCommitted e)) ∧
    (∀ (t : Nat) (j : Nat) (r : State) (e : JEntry) (s : State),
      Powered s →
      (s.adv t).takeCommitted (.followOn j) = some r →
      (s.adv t).eph.journal.find? (fun e => e.jseq == j) = some e →
      e.stage = 3 →
      Does (.followOnDone t j) s (r.writeDone j)) ∧
    (∀ (t : Nat) (token : Nat) (s : State),
      Powered s →
      (s.adv t).eph.find = none →
      Does (.find t token) s ((s.adv t).findStart token)) ∧
    (∀ (t : Nat) (c : EphChange) (s : State),
      Powered s →
      (s.adv t).findTry.eph.changes.find? (fun c => c.op != 8 && decide (c.since + (s.adv t).findTry.changeWait ≤ (s.adv t).findTry.now)) = some c →
      Does (.changeWaitExpired t) s ((((s.adv t).findTry.dropChange c).ephRefuse c rUnverified ccNotVerified 0).ephStat)) ∧
    (∀ (t : Nat) (s : State),
      Powered s →
      clampTo 10 90 ((s.adv t).rd EPH_COMPACT_CFG.COMPACT_AT) * 8192 ≤ (s.adv t).jrnlUsed * 100 →
      (s.adv t).compactFree = true →
      Does (.compactionStart t) s ((s.adv t).compact)) ∧
    (∀ (t : Nat) (s : State),
      Powered s →
      (s.adv t).compactFree = true →
      Does (.compactNow t) s ((s.adv t).compact)) ∧
    (∀ (t : Nat) (s : State),
      Powered s →
      (s.adv t).rd EPH_COMPACT_STAT.STEP = 1 →
      (s.adv t).on EPH_STAT.STAGED = false →
      Does (.compactionStepDone t ccOk) s ((s.adv t).wr EPH_COMPACT_STAT.STEP 2)) ∧
    (∀ (t : Nat) (st : Nat) (s : State),
      Powered s →
      st = 5 ∨ st = 6 →
      (s.adv t).rd EPH_COMPACT_STAT.STEP = st →
      Does (.compactionStepDone t ccOk) s ((s.adv t).wr EPH_COMPACT_STAT.STEP (st + 1))) ∧
    (∀ (t : Nat) (s : State),
      Powered s →
      (s.adv t).rd EPH_COMPACT_STAT.STEP = 7 →
      Does (.compactionStepDone t ccOk) s ((((s.adv t).wr EPH_COMPACT_STAT.STEP 0).wr EPH_STAT.COMPACTING 0).wr EPH_STAT.STAGED 0)) ∧
    (∀ (t : Nat) (code : Nat) (s : State),
      Powered s →
      code ≠ ccOk →
      0 < (s.adv t).rd EPH_COMPACT_STAT.STEP →
      (s.adv t).rd EPH_COMPACT_STAT.STEP < 4 →
      Does (.compactionStepDone t code) s ((s.adv t).compactFail code))

/-- Each of the thirteen envelope commands takes the next envelope of its type and, accepted, starts its commit (TIME ends at once); a refused one ends with its reason. The submit of an envelope, a nonce, an attestation, the end of the key export, a key derivation and a working key, the masking, the generated keys and the end of a view grant complete too; each in every state that meets the stated conditions, with the whole next state given. -/
def Obligations.DomeCommandsTakeEffect : Prop :=
    (∀ (t : Nat) (k : Nat) (c : Instr) (e : DomEnv) (r : State) (s : State),
      Powered s →
      (c, k) ∈ [(Instr.vendor t, envVendor), (Instr.commission t, envCommission), (Instr.field t, envField), (Instr.decommission t, envDecommission), (Instr.migrate t, envMigrate), (Instr.rekey t, envRekey), (Instr.policy t, envPolicy), (Instr.lockSet t, envLockSet), (Instr.ephTemplate t, envEphTemplate), (Instr.view t, envView), (Instr.monitor t, envMonitor), (Instr.unitEnv t, envUnit)] →
      (s.adv t).dom.job = none →
      (s.adv t).dom.pend = none →
      (s.adv t).rep 0x0B = stRun →
      (s.adv t).envNext = some e →
      e.typ = k →
      ((s.adv t).envPop e).rep 0x0B = stRun →
      ((s.adv t).envPop e).envCheck e = (0, ccOk, r) →
      Does (c) s (r.envAccept e)) ∧
    (∀ (t : Nat) (e : DomEnv) (r : State) (s : State),
      Powered s →
      (s.adv t).dom.job = none →
      (s.adv t).dom.pend = none →
      (s.adv t).rep 0x0B = stRun →
      (s.adv t).envNext = some e →
      e.typ = envTime →
      ((s.adv t).envPop e).rep 0x0B = stRun →
      ((s.adv t).envPop e).envCheck e = (0, ccOk, r) →
      Does (.timeEnv t) s ((armTime e r).envTimed e)) ∧
    (∀ (t : Nat) (k : Nat) (code : Nat) (reason : Nat) (c : Instr) (e : DomEnv) (r : State) (s : State),
      Powered s →
      (c, k) ∈ [(Instr.vendor t, envVendor), (Instr.commission t, envCommission), (Instr.field t, envField), (Instr.decommission t, envDecommission), (Instr.migrate t, envMigrate), (Instr.rekey t, envRekey), (Instr.policy t, envPolicy), (Instr.lockSet t, envLockSet), (Instr.ephTemplate t, envEphTemplate), (Instr.view t, envView), (Instr.monitor t, envMonitor), (Instr.unitEnv t, envUnit), (Instr.timeEnv t, envTime)] →
      (s.adv t).dom.job = none →
      (s.adv t).dom.pend = none →
      (s.adv t).rep 0x0B = stRun →
      (s.adv t).envNext = some e →
      e.typ = k →
      ((s.adv t).envPop e).rep 0x0B = stRun →
      reason ≠ 0 →
      ((s.adv t).envPop e).envCheck e = (reason, code, r) →
      Does (c) s (r.envRefuse e code reason)) ∧
    (∀ (t : Nat) (slot : Nat) (s : State),
      Powered s →
      (s.adv t).slotFlag slot = slotDevice →
      (s.adv t).inRing slot = false →
      Does (.envelopeSubmit t slot) s (((s.adv t).envQueue 0 ((s.adv t).slotData slot)).handSlot slot)) ∧
    (∀ (t : Nat) (port : Nat) (s : State),
      Powered s →
      (s.adv t).rngCan 3 = true →
      ∃ v s1, (s.adv t).rngNonce 3 = some (v, s1) ∧ Does (.domNonceRead t port) s (State.answerWord { s1 with dom := { s1.dom with nonces := (if 8 ≤ s1.liveNonces.length then s1.liveNonces.drop (s1.liveNonces.length - 7) else s1.liveNonces) ++ [(v, s1.now)] } } port v)) ∧
    (∀ (t : Nat) (gslot : Nat) (wslot : Nat) (key : Bool) (s : State),
      Powered s →
      (s.adv t).on DOM_ATT_REQ.BUSY = false →
      ((((s.adv t).flag DOM_ATT_REQ.KIND key).wr DOM_ATT_REQ.GSLOT gslot).wr DOM_ATT_REQ.WSLOT wslot).slotFlag wslot = slotDevice →
      Does (.attestationRequest t key gslot wslot) s (((((s.adv t).flag DOM_ATT_REQ.KIND key).wr DOM_ATT_REQ.GSLOT gslot).wr DOM_ATT_REQ.WSLOT wslot).attest)) ∧
    (∀ (t : Nat) (s : State),
      Powered s →
      (s.adv t).lc = lcVendor →
      Does (.exportDone t) s (({ (s.adv t) with dom := { (s.adv t).dom with exportDone := true } } : State).wr DOM_STAT.EXPORT_OPEN 0)) ∧
    (∀ (t : Nat) (cls : Nat) (unit : Nat) (n : Nat) (s : State),
      Powered s →
      keyPair cls unit = true →
      cls ≠ kKTOK →
      (s.adv t).keyCode cls false = ccOk →
      Does (.keyDerivation t cls unit n) s ((s.adv t).answerCode (16 + unit) ccOk)) ∧
    (∀ (t : Nat) (n : Nat) (s : State),
      Powered s →
      ((s.adv t).answerCode 0x18 ccOk).wantsDom n = true →
      (s.adv t).keyCode kKTOK false = ccOk →
      Does (.keyDerivation t kKTOK 0x08 n) s ((({ (s.adv t).answerCode 0x18 ccOk with dom := { (s.adv t).dom with sesKeys := SMap.put (s.adv t).dom.sesKeys n (((s.adv t).answerCode 0x18 ccOk).ktok ((s.adv t).ctx n).token) } } : State).complete n ((s.adv t).ctx n).gen poolDom ccOk 0 []))) ∧
    (∀ (t : Nat) (cls : Nat) (unit : Nat) (n : Nat) (uses : Nat) (s : State),
      Powered s →
      keyPair cls unit = true →
      (s.adv t).keyCode cls false = ccOk →
      Does (.workingKeyLoad t cls unit n uses) s (((s.adv t).answerCode (16 + unit) ccOk).wkGiven cls unit n uses)) ∧
    (∀ (t : Nat) (k : WKey) (s : State),
      Powered s →
      (s.adv t).dom.wk = some k →
      (s.adv t).dom.maskAt + msT 1 ≤ (s.adv t).now →
      (s.adv t).rngCan 1 = true →
      Does (.remask t) s (({ (s.adv t) with dom := { (s.adv t).dom with maskAt := (s.adv t).now } } : State).rngUse 1)) ∧
    (∀ (t : Nat) (k : WKey) (s : State),
      Powered s →
      (s.adv t).dom.wk = some k →
      (s.adv t).dom.maskAt + msT 1 ≤ (s.adv t).now →
      (s.adv t).rngCan 1 = false →
      Does (.remask t) s (({ (s.adv t) with dom := { (s.adv t).dom with maskAt := (s.adv t).now } } : State).clearWk)) ∧
    (∀ (t : Nat) (core : Nat) (slot : Nat) (uses : Nat) (k256 : Bool) (nextReset : Bool) (s : State),
      Powered s →
      core < 16 →
      (s.adv t).rep 0x0B = stRun →
      (s.adv t).on DOM_STAT.HALT = false →
      (s.adv t).dom.keys.katb.isEmpty = false →
      (nextReset = true ∨ uses ≠ 0) →
      (List.range 8).find? (fun k => (SMap.find (s.adv t).dom.gkeys k).isNone) = some slot →
      (s.adv t).rngCan 2 = true →
      Does (.keygen t core k256 nextReset uses) s (((s.adv t).keygen core k256 nextReset uses).2.2.keyAnswer core ccOk slot)) ∧
    (∀ (t : Nat) (core : Nat) (slot : Nat) (g : GKey) (s : State),
      Powered s →
      core < 16 →
      slot < 8 →
      SMap.find (s.adv t).dom.gkeys slot = some g →
      g.script = (s.adv t).rd AST_CORE_SCRIPT.SCRIPT core →
      Does (.keydel t core slot) s (((((({ (s.adv t) with dom := { (s.adv t).dom with gkeys := SMap.del (s.adv t).dom.gkeys slot } } : State).wrWord DOM_GKEY.REG 0 slot).domKeysReg).irq DOM_IRQ_STAT.KEY_SPENT).domEvent 5 slot ccOk).keyAnswer core ccOk slot)) ∧
    (∀ (t : Nat) (port : Nat) (e : Nat) (s : State),
      Powered s →
      SMap.find (s.adv t).hif.grantEnd port = some e →
      e ≤ (s.adv t).now →
      Does (.viewGrantEnd t port) s (({ (s.adv t) with hif := { (s.adv t).hif with grantEnd := SMap.del (s.adv t).hif.grantEnd port } } : State).wrWord HIF_VIEW_GRANT.REG 0 port)) ∧
    (∀ (t : Nat) (live : Nat) (s : State),
      Powered s →
      (bitList (live % 32 &&& (s.adv t).tamperWatched) 5).any (fun b => !bit ((s.adv t).rd DOM_TAMPER_STAT.LIVE) b) = true →
      Does (.tamperDetect t live) s ((s.adv t).tamper live)) ∧
    (∀ (t : Nat) (target : Nat) (b : DomKeys) (s : State),
      Powered s →
      (s.adv t).dom.pend = some (target, b) →
      (s.adv t).dom.job = none →
      (s.adv t).fuse.done = true →
      (s.adv t).fuseWord 0 = lcWord target →
      (s.adv t).fuseQual 0 = 0 →
      Does (.pendingTransitionResolve t) s ((s.adv t).domWrite domOldBank)) ∧
    (∀ (t : Nat) (target : Nat) (b : DomKeys) (s : State),
      Powered s →
      (s.adv t).dom.pend = some (target, b) →
      (s.adv t).dom.job = none →
      (s.adv t).fuse.done = true →
      ¬((s.adv t).fuseWord 0 = lcWord target ∧ (s.adv t).fuseQual 0 = 0) →
      (s.adv t).on BOOT_STAT.IMAGE_OK = true →
      Does (.pendingTransitionResolve t) s ((s.adv t).domWrite domBank))

/-- A request on a lane of the check engine (a session's, a core's, a unit's), its completion, its aging and its wait for masks, the self-test and the alarm test; and of the random generator a health failure, the restart, the end of the start-up test, a conditioned block, the statistics, a generate request, the reseeds, the host's reads and the test commands each complete in every state that meets the stated conditions, with the whole next state given. -/
def Obligations.CheckEngineAndRandomCommandsTakeEffect : Prop :=
    (∀ (t : Nat) (lane : Nat) (n : Nat) (level : Nat) (blocks : Nat) (k256 : Bool) (verify : Bool) (good : Bool) (s : State),
      Powered s →
      0 < lane →
      lane < 7 →
      ((s.adv t).kce.queue.filter (fun r => r.lane == lane)).length < 16 →
      (s.adv t).kceCode = ccOk →
      Does (.kceRequest t lane n level blocks k256 verify good) s ((s.adv t).kceArrive { lane := lane, level := min 3 level, arrival := (s.adv t).now, aged := (s.adv t).now, verify := verify, cls := 0, key := List.replicate (if k256 then 32 else 16) 0, msg := List.replicate (16 * clampTo 1 512 blocks) 0, expect := [], dest := .unit, left := clampTo 1 512 blocks })) ∧
    (∀ (t : Nat) (n : Nat) (level : Nat) (blocks : Nat) (k256 : Bool) (verify : Bool) (good : Bool) (s : State),
      Powered s →
      ((s.adv t).kce.queue.filter (fun r => r.lane == 0)).length < 16 →
      (s.adv t).wantsKce n = true →
      Does (.kceRequest t 0 n level blocks k256 verify good) s ((s.adv t).kceArrive ((s.adv t).sesCheck n (kceLevel ((s.adv t).ctx n).state) good))) ∧
    (∀ (t : Nat) (n : Nat) (level : Nat) (blocks : Nat) (k256 : Bool) (verify : Bool) (good : Bool) (r : KceReq) (s : State),
      Powered s →
      ((s.adv t).kce.queue.filter (fun r => r.lane == 7)).length < 16 →
      (s.adv t).kce.offered.find? (fun r => match r.dest with | .core c _ => c == n | _ => false) = some r →
      Does (.kceRequest t 7 n level blocks k256 verify good) s (({ (s.adv t) with kce := { (s.adv t).kce with offered := (s.adv t).kce.offered.erase r } } : State).kceArrive { r with arrival := (s.adv t).now, aged := (s.adv t).now })) ∧
    (∀ (t : Nat) (block : Nat) (r : KceReq) (s : State),
      Powered s →
      (s.adv t).kce.running = some r →
      (s.adv t).kce.maskWait = none →
      (s.adv t).kce.alarmTest = false →
      Does (.kceMessageDone t block false false) s ((s.adv t).kceServed r)) ∧
    (∀ (t : Nat) (block : Nat) (r : KceReq) (poison : Bool) (s : State),
      Powered s →
      (s.adv t).kce.running = some r →
      (s.adv t).kce.maskWait = none →
      Does (.kceMessageDone t block true poison) s ((({ (s.adv t) with kce := { (s.adv t).kce with alarmTest := false } } : State).kceAlarm r.lane (min 0x3FF block)).kceEnd r ccKceAlarm [])) ∧
    (∀ (t : Nat) (block : Nat) (r : KceReq) (s : State),
      Powered s →
      (s.adv t).kce.running = some r →
      (s.adv t).kce.maskWait = none →
      (s.adv t).kce.alarmTest = false →
      Does (.kceMessageDone t block false true) s ((s.adv t).kceEnd r ccPoisoned [])) ∧
    (∀ (t : Nat) (q : Nat) (r : KceReq) (s : State),
      Powered s →
      (s.adv t).kce.queue[q]? = some r →
      r.level < 2 →
      r.aged + msT (orOne ((s.adv t).rd KCE_CFG.AGE_MS)) ≤ (s.adv t).now →
      Does (.kceAging t q) s (((({ (s.adv t) with kce := { (s.adv t).kce with queue := (s.adv t).kce.queue.set q { r with level := r.level + 1, aged := (s.adv t).now } } } : State).bump KCE_LVL_STAT.AGED (r.level + 1)).kceStat))) ∧
    (∀ (t : Nat) (since : Nat) (r : KceReq) (s : State),
      Powered s →
      (s.adv t).kce.running = some r →
      (s.adv t).kce.maskWait = some since →
      (s.adv t).rngCan 0 = true →
      Does (.maskWaitTimeout t) s ({ (s.adv t).rngUse 0 with kce := { (s.adv t).kce with maskWait := none } })) ∧
    (∀ (t : Nat) (since : Nat) (r : KceReq) (s : State),
      Powered s →
      (s.adv t).kce.running = some r →
      (s.adv t).kce.maskWait = some since →
      (s.adv t).rngCan 0 = false →
      since + usT 100 ≤ (s.adv t).now →
      Does (.maskWaitTimeout t) s ((s.adv t).kceEnd r ccRngHealth [])) ∧
    (∀ (t : Nat) (s : State),
      Powered s →
      katGood = true →
      Does (.katRun t) s (({ (s.adv t) with kce := { (s.adv t).kce with katBad := false } } : State).wr KCE_STAT.KAT_OK 1)) ∧
    (∀ (t : Nat) (s : State),
      Powered s →
      (s.adv t).lc = lcBlank ∨ (s.adv t).lc = lcVendor →
      Does (.alarmTest t) s ({ (s.adv t) with kce := { (s.adv t).kce with alarmTest := true } })) ∧
    (∀ (t : Nat) (kind : Nat) (inst : Nat) (s : State),
      Powered s →
      (s.adv t).rd RNG_STAT.SOURCE ≠ rngOff →
      (s.adv t).rngBad = false →
      Does (.healthFail t kind inst) s ((s.adv t).healthFail kind inst)) ∧
    (∀ (t : Nat) (f : Nat) (rest : List Nat) (s : State),
      Powered s →
      (s.adv t).rng.fails = f :: rest →
      (s.adv t).rngBad = true →
      (s.adv t).on RNG_STAT.LATCHED = false →
      f + msT 10 ≤ (s.adv t).now →
      Does (.sourceRestart t) s ((((s.adv t).wr RNG_STAT.SOURCE rngStartup).rngStates).rngEvent 6 0)) ∧
    (∀ (t : Nat) (s : State),
      Powered s →
      (s.adv t).rd RNG_STAT.SOURCE = rngStartup →
      (s.adv t).rep 0x0D = stRun →
      Does (.startupTestDone t) s ((s.adv t).wr RNG_STAT.SOURCE rngOk)) ∧
    (∀ (t : Nat) (s : State),
      Powered s →
      (s.adv t).rd RNG_STAT.SOURCE = rngOk →
      Does (.blockConditioned t) s (serveRng (s.adv t).blockIn.rngOrder (s.adv t).blockIn)) ∧
    (∀ (t : Nat) (kbps : Nat) (bias : Int) (corr : Int) (hist : List Nat) (s : State),
      Powered s →
      (decide (bias.natAbs > ((s.adv t).statsIn bias corr kbps hist).rd RNG_WARN_CFG.BIAS_WARN) || decide (corr.natAbs > ((s.adv t).statsIn bias corr kbps hist).rd RNG_WARN_CFG.CORR_WARN)) = false →
      Does (.statsWindow t bias corr kbps hist) s (((s.adv t).statsIn bias corr kbps hist).flag RNG_STAT.WARN false)) ∧
    (∀ (t : Nat) (kbps : Nat) (bias : Int) (corr : Int) (hist : List Nat) (s : State),
      Powered s →
      (decide (bias.natAbs > ((s.adv t).statsIn bias corr kbps hist).rd RNG_WARN_CFG.BIAS_WARN) || decide (corr.natAbs > ((s.adv t).statsIn bias corr kbps hist).rd RNG_WARN_CFG.CORR_WARN)) = true →
      Does (.statsWindow t bias corr kbps hist) s (((((s.adv t).statsIn bias corr kbps hist).flag RNG_STAT.WARN true).irq RNG_IRQ_STAT.WARN).rngEvent 5 0)) ∧
    (∀ (t : Nat) (inst : Nat) (n : Nat) (bytes : Nat) (s : State),
      Powered s →
      inst < 12 →
      inst ≠ 5 →
      inst ≠ 11 →
      bytes ≤ 4096 →
      (s.adv t).rngCan inst = true →
      Does (.generateRequest t inst n bytes) s ((s.adv t).rngUse inst)) ∧
    (∀ (t : Nat) (n : Nat) (bytes : Nat) (s : State),
      Powered s →
      bytes ≤ 4096 →
      (s.adv t).wantsNonce n = true →
      (s.adv t).rngCan 5 = true →
      ∃ w s1, (s.adv t).rngTake 5 4 = some (w, s1) ∧ Does (.generateRequest t 5 n bytes) s (s1.complete n (s1.ctx n).gen poolRng ccOk 0 (leBytes 16 w))) ∧
    (∀ (t : Nat) (inst : Nat) (n : Nat) (bytes : Nat) (s : State),
      Powered s →
      inst < 11 →
      inst ≠ 5 →
      bytes ≤ 4096 →
      (s.adv t).rngBad = false →
      (s.adv t).rngCan inst = false →
      Does (.generateRequest t inst n bytes) s ({ (s.adv t) with rng := { (s.adv t).rng with waiting := (s.adv t).rng.waiting ++ [⟨inst, n, bytes, (s.adv t).now⟩] } })) ∧
    (∀ (t : Nat) (inst : Nat) (s : State),
      Powered s →
      inst < 12 →
      (s.adv t).rd RNG_STAT.SOURCE = rngOk →
      3 ≤ (s.adv t).rd RNG_STAT.POOL →
      (s.adv t).rankAbove inst = false →
      (s.adv t).rd RNG_INST_STAT.STATE inst = instDue →
      Does (.reseed t inst) s (serveRng ((s.adv t).rngReseed inst).rngOrder ((s.adv t).rngReseed inst))) ∧
    (∀ (t : Nat) (s : State),
      Powered s →
      Does (.reseedAll t) s ((List.range 12).foldl (fun (a : State) i => if a.rd RNG_INST_STAT.STATE i = instReady then a.wr RNG_INST_STAT.STATE instDue i else a) (s.adv t))) ∧
    (∀ (t : Nat) (port : Nat) (w : Nat) (rest : List Nat) (s : State),
      Powered s →
      (s.adv t).rng.fifo = w :: rest →
      Does (.rngHostDataRead t port) s ((({ (s.adv t) with rng := { (s.adv t).rng with fifo := rest } } : State).wr RNG_HOST_STAT.LEVEL rest.length).answerWord port w)) ∧
    (∀ (t : Nat) (port : Nat) (s : State),
      Powered s →
      (s.adv t).rng.fifo = [] →
      Does (.rngHostDataRead t port) s (((s.adv t).bump RNG_CNT_UNDERRUN.COUNT).answerWord port 0)) ∧
    (∀ (t : Nat) (slot : Nat) (kib : Nat) (s : State),
      Powered s →
      (s.adv t).on RNG_HOST_BULK.BUSY = false →
      (((s.adv t).wr RNG_HOST_BULK.SLOT slot).wr RNG_HOST_BULK.KIB kib).slotFlag slot = slotDevice →
      (s.adv t).rngCan 11 = true →
      Does (.rngHostBulk t slot kib) s ((((s.adv t).wr RNG_HOST_BULK.SLOT slot).wr RNG_HOST_BULK.KIB kib).hostBulk)) ∧
    (∀ (t : Nat) (on : Bool) (s : State),
      Powered s →
      (s.adv t).lc = lcBlank →
      (s.adv t).on RNG_STAT.PATTERN ≠ on →
      Does (.testPattern t on) s (({ ((((s.adv t).flag RNG_TEST.TEST_PATTERN on).flag RNG_STAT.PATTERN on).wr RNG_STAT.SOURCE rngStartup).wr RNG_STAT.POOL 0 with rng := { (s.adv t).rng with seeded := [] } } : State).rngStates)) ∧
    (∀ (t : Nat) (slot : Nat) (count : Nat) (s : State),
      Powered s →
      (s.adv t).lc = lcBlank ∨ (s.adv t).lc = lcVendor →
      Does (.rawCapture t false slot count) s ((((s.adv t).wr RNG_TEST.SLOT slot).wr RNG_TEST.COUNT count).flag RNG_TEST.RAW_CAPTURE false))

/-- For every core that runs a step with REPA 0, whose next instruction is the encoding of an instruction of the ALU group in format R, and whose fetch raises nothing: the instruction completes. The destination register takes the result, the PSW exactly the flags of the row, PC advances by 4, and nothing else changes beside what the fetch does to the account of the memory. CMP and TST write flags alone; ADDC and SUBB take the carry of the PSW. Division and remainder do so unless the divisor is 0 with TRAPDZ 1; then they raise DIVZERO and write neither register nor flag. -/
def Obligations.AluInstructionsTakeEffect : Prop :=
    (∀ (t : Nat) (c : Nat) (rd : Nat) (ra : Nat) (rb : Nat) (s : State),
      Powered s →
      Runs (s.adv t) c (encR 0x00 0x00 rd ra rb 0) →
      Does (.add t c rd ra rb) s (((s.adv t).fetched c).ran c (result rd (addF ((s.adv t).gr c ra) ((s.adv t).gr c rb))))) ∧
    (∀ (t : Nat) (c : Nat) (rd : Nat) (ra : Nat) (rb : Nat) (s : State),
      Powered s →
      Runs (s.adv t) c (encR 0x00 0x02 rd ra rb 0) →
      Does (.sub t c rd ra rb) s (((s.adv t).fetched c).ran c (result rd (subF ((s.adv t).gr c ra) ((s.adv t).gr c rb))))) ∧
    (∀ (t : Nat) (c : Nat) (rd : Nat) (ra : Nat) (rb : Nat) (s : State),
      Powered s →
      Runs (s.adv t) c (encR 0x00 0x06 rd ra rb 0) →
      Does (.andR t c rd ra rb) s (((s.adv t).fetched c).ran c (result rd (andF ((s.adv t).gr c ra) ((s.adv t).gr c rb))))) ∧
    (∀ (t : Nat) (c : Nat) (rd : Nat) (ra : Nat) (rb : Nat) (s : State),
      Powered s →
      Runs (s.adv t) c (encR 0x00 0x07 rd ra rb 0) →
      Does (.orR t c rd ra rb) s (((s.adv t).fetched c).ran c (result rd (orF ((s.adv t).gr c ra) ((s.adv t).gr c rb))))) ∧
    (∀ (t : Nat) (c : Nat) (rd : Nat) (ra : Nat) (rb : Nat) (s : State),
      Powered s →
      Runs (s.adv t) c (encR 0x00 0x08 rd ra rb 0) →
      Does (.xorR t c rd ra rb) s (((s.adv t).fetched c).ran c (result rd (xorF ((s.adv t).gr c ra) ((s.adv t).gr c rb))))) ∧
    (∀ (t : Nat) (c : Nat) (rd : Nat) (ra : Nat) (rb : Nat) (s : State),
      Powered s →
      Runs (s.adv t) c (encR 0x00 0x09 rd ra rb 0) →
      Does (.andn t c rd ra rb) s (((s.adv t).fetched c).ran c (result rd (andnF ((s.adv t).gr c ra) ((s.adv t).gr c rb))))) ∧
    (∀ (t : Nat) (c : Nat) (rd : Nat) (ra : Nat) (rb : Nat) (s : State),
      Powered s →
      Runs (s.adv t) c (encR 0x00 0x0C rd ra rb 0) →
      Does (.shl t c rd ra rb) s (((s.adv t).fetched c).ran c (result rd (shlOut ((s.adv t).gr c ra) ((s.adv t).gr c rb))))) ∧
    (∀ (t : Nat) (c : Nat) (rd : Nat) (ra : Nat) (rb : Nat) (s : State),
      Powered s →
      Runs (s.adv t) c (encR 0x00 0x0D rd ra rb 0) →
      Does (.shr t c rd ra rb) s (((s.adv t).fetched c).ran c (result rd (shrOut ((s.adv t).gr c ra) ((s.adv t).gr c rb))))) ∧
    (∀ (t : Nat) (c : Nat) (rd : Nat) (ra : Nat) (rb : Nat) (s : State),
      Powered s →
      Runs (s.adv t) c (encR 0x00 0x0E rd ra rb 0) →
      Does (.sar t c rd ra rb) s (((s.adv t).fetched c).ran c (result rd (sarOut ((s.adv t).gr c ra) ((s.adv t).gr c rb))))) ∧
    (∀ (t : Nat) (c : Nat) (rd : Nat) (ra : Nat) (rb : Nat) (s : State),
      Powered s →
      Runs (s.adv t) c (encR 0x00 0x0F rd ra rb 0) →
      Does (.ror t c rd ra rb) s (((s.adv t).fetched c).ran c (result rd (rorOut ((s.adv t).gr c ra) ((s.adv t).gr c rb))))) ∧
    (∀ (t : Nat) (c : Nat) (rd : Nat) (ra : Nat) (rb : Nat) (s : State),
      Powered s →
      Runs (s.adv t) c (encR 0x00 0x10 rd ra rb 0) →
      Does (.mul t c rd ra rb) s (((s.adv t).fetched c).ran c (result rd (mulOut ((s.adv t).gr c ra) ((s.adv t).gr c rb))))) ∧
    (∀ (t : Nat) (c : Nat) (rd : Nat) (ra : Nat) (rb : Nat) (s : State),
      Powered s →
      Runs (s.adv t) c (encR 0x00 0x11 rd ra rb 0) →
      Does (.mulh t c rd ra rb) s (((s.adv t).fetched c).ran c (result rd (mulhOut ((s.adv t).gr c ra) ((s.adv t).gr c rb))))) ∧
    (∀ (t : Nat) (c : Nat) (rd : Nat) (ra : Nat) (rb : Nat) (s : State),
      Powered s →
      Runs (s.adv t) c (encR 0x00 0x12 rd ra rb 0) →
      Does (.mulhu t c rd ra rb) s (((s.adv t).fetched c).ran c (result rd (mulhuOut ((s.adv t).gr c ra) ((s.adv t).gr c rb))))) ∧
    (∀ (t : Nat) (c : Nat) (rd : Nat) (ra : Nat) (rb : Nat) (s : State),
      Powered s →
      Runs (s.adv t) c (encR 0x00 0x17 rd ra rb 0) →
      Does (.min t c rd ra rb) s (((s.adv t).fetched c).ran c (result rd (minF ((s.adv t).gr c ra) ((s.adv t).gr c rb))))) ∧
    (∀ (t : Nat) (c : Nat) (rd : Nat) (ra : Nat) (rb : Nat) (s : State),
      Powered s →
      Runs (s.adv t) c (encR 0x00 0x18 rd ra rb 0) →
      Does (.max t c rd ra rb) s (((s.adv t).fetched c).ran c (result rd (maxF ((s.adv t).gr c ra) ((s.adv t).gr c rb))))) ∧
    (∀ (t : Nat) (c : Nat) (rd : Nat) (ra : Nat) (rb : Nat) (s : State),
      Powered s →
      Runs (s.adv t) c (encR 0x00 0x19 rd ra rb 0) →
      Does (.minu t c rd ra rb) s (((s.adv t).fetched c).ran c (result rd (minuF ((s.adv t).gr c ra) ((s.adv t).gr c rb))))) ∧
    (∀ (t : Nat) (c : Nat) (rd : Nat) (ra : Nat) (rb : Nat) (s : State),
      Powered s →
      Runs (s.adv t) c (encR 0x00 0x1A rd ra rb 0) →
      Does (.maxu t c rd ra rb) s (((s.adv t).fetched c).ran c (result rd (maxuF ((s.adv t).gr c ra) ((s.adv t).gr c rb))))) ∧
    (∀ (t : Nat) (c : Nat) (rd : Nat) (ra : Nat) (rb : Nat) (s : State),
      Powered s →
      Runs (s.adv t) c (encR 0x00 0x01 rd ra rb 0) →
      Does (.addc t c rd ra rb) s (((s.adv t).fetched c).ran c (result rd (addOut ((s.adv t).gr c ra) ((s.adv t).gr c rb) (((s.adv t).core c).flag pbC).toNat)))) ∧
    (∀ (t : Nat) (c : Nat) (rd : Nat) (ra : Nat) (rb : Nat) (s : State),
      Powered s →
      Runs (s.adv t) c (encR 0x00 0x03 rd ra rb 0) →
      Does (.subb t c rd ra rb) s (((s.adv t).fetched c).ran c (result rd (subOut ((s.adv t).gr c ra) ((s.adv t).gr c rb) (((s.adv t).core c).flag pbC).toNat)))) ∧
    (∀ (t : Nat) (c : Nat) (rd : Nat) (ra : Nat) (s : State),
      Powered s →
      Runs (s.adv t) c (encR 0x00 0x04 rd ra 0 0) →
      Does (.neg t c rd ra) s (((s.adv t).fetched c).ran c (result rd (negF ((s.adv t).gr c ra))))) ∧
    (∀ (t : Nat) (c : Nat) (rd : Nat) (ra : Nat) (s : State),
      Powered s →
      Runs (s.adv t) c (encR 0x00 0x0A rd ra 0 0) →
      Does (.notR t c rd ra) s (((s.adv t).fetched c).ran c (result rd (notF ((s.adv t).gr c ra))))) ∧
    (∀ (t : Nat) (c : Nat) (rd : Nat) (ra : Nat) (s : State),
      Powered s →
      Runs (s.adv t) c (encR 0x00 0x0B rd ra 0 0) →
      Does (.mov t c rd ra) s (((s.adv t).fetched c).ran c (result rd (movF ((s.adv t).gr c ra))))) ∧
    (∀ (t : Nat) (c : Nat) (rd : Nat) (ra : Nat) (s : State),
      Powered s →
      Runs (s.adv t) c (encR 0x00 0x1B rd ra 0 0) →
      Does (.abs t c rd ra) s (((s.adv t).fetched c).ran c (result rd (absOut ((s.adv t).gr c ra))))) ∧
    (∀ (t : Nat) (c : Nat) (rd : Nat) (ra : Nat) (s : State),
      Powered s →
      Runs (s.adv t) c (encR 0x00 0x1C rd ra 0 0) →
      Does (.clz t c rd ra) s (((s.adv t).fetched c).ran c (result rd (clzF ((s.adv t).gr c ra))))) ∧
    (∀ (t : Nat) (c : Nat) (rd : Nat) (ra : Nat) (s : State),
      Powered s →
      Runs (s.adv t) c (encR 0x00 0x1D rd ra 0 0) →
      Does (.sextb t c rd ra) s (((s.adv t).fetched c).ran c (result rd (sextbF ((s.adv t).gr c ra))))) ∧
    (∀ (t : Nat) (c : Nat) (rd : Nat) (ra : Nat) (s : State),
      Powered s →
      Runs (s.adv t) c (encR 0x00 0x1E rd ra 0 0) →
      Does (.sexth t c rd ra) s (((s.adv t).fetched c).ran c (result rd (sexthF ((s.adv t).gr c ra))))) ∧
    (∀ (t : Nat) (c : Nat) (rd : Nat) (ra : Nat) (s : State),
      Powered s →
      Runs (s.adv t) c (encR 0x00 0x1F rd ra 0 0) →
      Does (.zextb t c rd ra) s (((s.adv t).fetched c).ran c (result rd (zextbF ((s.adv t).gr c ra))))) ∧
    (∀ (t : Nat) (c : Nat) (rd : Nat) (ra : Nat) (s : State),
      Powered s →
      Runs (s.adv t) c (encR 0x00 0x20 rd ra 0 0) →
      Does (.zexth t c rd ra) s (((s.adv t).fetched c).ran c (result rd (zexthF ((s.adv t).gr c ra))))) ∧
    (∀ (t : Nat) (c : Nat) (rd : Nat) (ra : Nat) (s : State),
      Powered s →
      Runs (s.adv t) c (encR 0x00 0x21 rd ra 0 0) →
      Does (.bswap t c rd ra) s (((s.adv t).fetched c).ran c (result rd (bswapF ((s.adv t).gr c ra))))) ∧
    (∀ (t : Nat) (c : Nat) (ra : Nat) (rb : Nat) (s : State),
      Powered s →
      Runs (s.adv t) c (encR 0x00 0x05 0 ra rb 0) →
      Does (.cmp t c ra rb) s (((s.adv t).fetched c).ran c (fun k => k.setFlags (subF ((s.adv t).gr c ra) ((s.adv t).gr c rb)).2))) ∧
    (∀ (t : Nat) (c : Nat) (ra : Nat) (rb : Nat) (s : State),
      Powered s →
      Runs (s.adv t) c (encR 0x00 0x22 0 ra rb 0) →
      Does (.tst t c ra rb) s (((s.adv t).fetched c).ran c (fun k => k.setFlags (andF ((s.adv t).gr c ra) ((s.adv t).gr c rb)).2))) ∧
    (∀ (t : Nat) (c : Nat) (rd : Nat) (ra : Nat) (rb : Nat) (s : State),
      Powered s →
      Runs (s.adv t) c (encR 0x00 0x13 rd ra rb 0) →
      ¬((s.adv t).gr c rb = 0 ∧ ((s.adv t).core c).flag pbTRAPDZ = true) →
      Does (.divs t c rd ra rb) s (((s.adv t).fetched c).ran c (result rd (divsOut ((s.adv t).gr c ra) ((s.adv t).gr c rb))))) ∧
    (∀ (t : Nat) (c : Nat) (rd : Nat) (ra : Nat) (rb : Nat) (s : State),
      Powered s →
      Runs (s.adv t) c (encR 0x00 0x13 rd ra rb 0) →
      (s.adv t).gr c rb = 0 →
      ((s.adv t).core c).flag pbTRAPDZ = true →
      Does (.divs t c rd ra rb) s (((s.adv t).fetched c).coreExcept c exDivzero 0 0)) ∧
    (∀ (t : Nat) (c : Nat) (rd : Nat) (ra : Nat) (rb : Nat) (s : State),
      Powered s →
      Runs (s.adv t) c (encR 0x00 0x14 rd ra rb 0) →
      ¬((s.adv t).gr c rb = 0 ∧ ((s.adv t).core c).flag pbTRAPDZ = true) →
      Does (.divu t c rd ra rb) s (((s.adv t).fetched c).ran c (result rd (divuOut ((s.adv t).gr c ra) ((s.adv t).gr c rb))))) ∧
    (∀ (t : Nat) (c : Nat) (rd : Nat) (ra : Nat) (rb : Nat) (s : State),
      Powered s →
      Runs (s.adv t) c (encR 0x00 0x14 rd ra rb 0) →
      (s.adv t).gr c rb = 0 →
      ((s.adv t).core c).flag pbTRAPDZ = true →
      Does (.divu t c rd ra rb) s (((s.adv t).fetched c).coreExcept c exDivzero 0 0)) ∧
    (∀ (t : Nat) (c : Nat) (rd : Nat) (ra : Nat) (rb : Nat) (s : State),
      Powered s →
      Runs (s.adv t) c (encR 0x00 0x15 rd ra rb 0) →
      ¬((s.adv t).gr c rb = 0 ∧ ((s.adv t).core c).flag pbTRAPDZ = true) →
      Does (.rems t c rd ra rb) s (((s.adv t).fetched c).ran c (result rd (remsOut ((s.adv t).gr c ra) ((s.adv t).gr c rb))))) ∧
    (∀ (t : Nat) (c : Nat) (rd : Nat) (ra : Nat) (rb : Nat) (s : State),
      Powered s →
      Runs (s.adv t) c (encR 0x00 0x15 rd ra rb 0) →
      (s.adv t).gr c rb = 0 →
      ((s.adv t).core c).flag pbTRAPDZ = true →
      Does (.rems t c rd ra rb) s (((s.adv t).fetched c).coreExcept c exDivzero 0 0)) ∧
    (∀ (t : Nat) (c : Nat) (rd : Nat) (ra : Nat) (rb : Nat) (s : State),
      Powered s →
      Runs (s.adv t) c (encR 0x00 0x16 rd ra rb 0) →
      ¬((s.adv t).gr c rb = 0 ∧ ((s.adv t).core c).flag pbTRAPDZ = true) →
      Does (.remu t c rd ra rb) s (((s.adv t).fetched c).ran c (result rd (remuOut ((s.adv t).gr c ra) ((s.adv t).gr c rb))))) ∧
    (∀ (t : Nat) (c : Nat) (rd : Nat) (ra : Nat) (rb : Nat) (s : State),
      Powered s →
      Runs (s.adv t) c (encR 0x00 0x16 rd ra rb 0) →
      (s.adv t).gr c rb = 0 →
      ((s.adv t).core c).flag pbTRAPDZ = true →
      Does (.remu t c rd ra rb) s (((s.adv t).fetched c).coreExcept c exDivzero 0 0))

/-- For every core that runs a step with REPA 0, whose next instruction is the encoding of an immediate instruction, and whose fetch raises nothing: the destination takes the result of the source register with the immediate, sign-extended for ADDI and CMPI and zero-extended for ANDI, ORI and XORI; the four kinds of SHI shift by n below 64; CMPI writes flags alone; MOVI and LUI write no flag; PC advances by 4. LUI with a bit of imm22 [21:16] set raises ILLEGAL. -/
def Obligations.ImmediateInstructionsTakeEffect : Prop :=
    (∀ (t : Nat) (c : Nat) (rd : Nat) (ra : Nat) (imm : Nat) (s : State),
      Powered s →
      Runs (s.adv t) c (encI 0x01 rd ra imm) →
      Does (.addi t c rd ra imm) s (((s.adv t).fetched c).ran c (result rd (addF ((s.adv t).gr c ra) (sx 18 imm))))) ∧
    (∀ (t : Nat) (c : Nat) (rd : Nat) (ra : Nat) (imm : Nat) (s : State),
      Powered s →
      Runs (s.adv t) c (encI 0x02 rd ra imm) →
      Does (.andi t c rd ra imm) s (((s.adv t).fetched c).ran c (result rd (andF ((s.adv t).gr c ra) (imm % 2 ^ 18))))) ∧
    (∀ (t : Nat) (c : Nat) (rd : Nat) (ra : Nat) (imm : Nat) (s : State),
      Powered s →
      Runs (s.adv t) c (encI 0x03 rd ra imm) →
      Does (.ori t c rd ra imm) s (((s.adv t).fetched c).ran c (result rd (orF ((s.adv t).gr c ra) (imm % 2 ^ 18))))) ∧
    (∀ (t : Nat) (c : Nat) (rd : Nat) (ra : Nat) (imm : Nat) (s : State),
      Powered s →
      Runs (s.adv t) c (encI 0x04 rd ra imm) →
      Does (.xori t c rd ra imm) s (((s.adv t).fetched c).ran c (result rd (xorF ((s.adv t).gr c ra) (imm % 2 ^ 18))))) ∧
    (∀ (t : Nat) (c : Nat) (ra : Nat) (imm : Nat) (s : State),
      Powered s →
      Runs (s.adv t) c (encI 0x05 0 ra imm) →
      Does (.cmpi t c ra imm) s (((s.adv t).fetched c).ran c (fun k => k.setFlags (subF ((s.adv t).gr c ra) (sx 18 imm)).2))) ∧
    (∀ (t : Nat) (c : Nat) (rd : Nat) (ra : Nat) (n : Nat) (s : State),
      Powered s →
      n < 64 →
      Runs (s.adv t) c (encI 0x06 rd ra (0 * 2 ^ 16 + n)) →
      Does (.shiShl t c rd ra n) s (((s.adv t).fetched c).ran c (result rd (shlOut ((s.adv t).gr c ra) n)))) ∧
    (∀ (t : Nat) (c : Nat) (rd : Nat) (ra : Nat) (n : Nat) (s : State),
      Powered s →
      n < 64 →
      Runs (s.adv t) c (encI 0x06 rd ra (1 * 2 ^ 16 + n)) →
      Does (.shiShr t c rd ra n) s (((s.adv t).fetched c).ran c (result rd (shrOut ((s.adv t).gr c ra) n)))) ∧
    (∀ (t : Nat) (c : Nat) (rd : Nat) (ra : Nat) (n : Nat) (s : State),
      Powered s →
      n < 64 →
      Runs (s.adv t) c (encI 0x06 rd ra (2 * 2 ^ 16 + n)) →
      Does (.shiSar t c rd ra n) s (((s.adv t).fetched c).ran c (result rd (sarOut ((s.adv t).gr c ra) n)))) ∧
    (∀ (t : Nat) (c : Nat) (rd : Nat) (ra : Nat) (n : Nat) (s : State),
      Powered s →
      n < 64 →
      Runs (s.adv t) c (encI 0x06 rd ra (3 * 2 ^ 16 + n)) →
      Does (.shiRor t c rd ra n) s (((s.adv t).fetched c).ran c (result rd (rorOut ((s.adv t).gr c ra) n)))) ∧
    (∀ (t : Nat) (c : Nat) (rd : Nat) (imm : Nat) (s : State),
      Powered s →
      Runs (s.adv t) c (encM 0x07 rd imm) →
      Does (.movi t c rd imm) s (((s.adv t).fetched c).ran c (fun k => k.setReg rd (sx 22 imm)))) ∧
    (∀ (t : Nat) (c : Nat) (rd : Nat) (imm : Nat) (s : State),
      Powered s →
      imm < 2 ^ 16 →
      Runs (s.adv t) c (encM 0x08 rd imm) →
      Does (.lui t c rd imm) s (((s.adv t).fetched c).ran c (fun k => k.setReg rd (imm * 2 ^ 16)))) ∧
    (∀ (t : Nat) (c : Nat) (rd : Nat) (imm : Nat) (s : State),
      Powered s →
      2 ^ 16 ≤ imm →
      imm < 2 ^ 22 →
      Runs (s.adv t) c (encM 0x08 rd imm) →
      Does (.lui t c rd imm) s (((s.adv t).fetched c).coreExcept c exIllegal 0 0))

/-- For every core that runs a step with REPA 0 and whose next instruction is the encoding of a load or store: at an address ea = ra + sx(imm18) that exists and is aligned for its size, a load writes the destination with the value, extended by its sign or with zeros, unless the memory delivers poison, and a store replaces exactly its bytes; at any other address it raises DADDR with DETAIL 0 and the address. LDWP and STWP act at ra and update it; LDWP with rd equal to ra raises ILLEGAL. PUSHM and POPM move the registers of their mask between ascending addresses inside the stack window and g14, and raise DADDR with DETAIL 1 outside it; a mask with bit 14 or none raises ILLEGAL. No flag changes. -/
def Obligations.LoadStoreInstructionsTakeEffect : Prop :=
    (∀ (t : Nat) (c : Nat) (rd : Nat) (ra : Nat) (imm : Nat) (s : State),
      Powered s →
      Runs (s.adv t) c (encI 0x10 rd ra imm) →
      dataOk ((s.adv t).ea c ra imm) 4 = true →
      (((s.adv t).fetched c).dataRead c ((s.adv t).ea c ra imm) 4).1 = false →
      Does (.ldw t c rd ra imm) s ((((s.adv t).fetched c).dataRead c ((s.adv t).ea c ra imm) 4).2.ran c (fun k => k.setReg rd (k.load ((s.adv t).ea c ra imm) 4)))) ∧
    (∀ (t : Nat) (c : Nat) (rd : Nat) (ra : Nat) (imm : Nat) (s : State),
      Powered s →
      Runs (s.adv t) c (encI 0x10 rd ra imm) →
      dataOk ((s.adv t).ea c ra imm) 4 = false →
      Does (.ldw t c rd ra imm) s (((s.adv t).fetched c).coreExcept c exDaddr 0 ((s.adv t).ea c ra imm))) ∧
    (∀ (t : Nat) (c : Nat) (rd : Nat) (ra : Nat) (imm : Nat) (s : State),
      Powered s →
      Runs (s.adv t) c (encI 0x11 rd ra imm) →
      dataOk ((s.adv t).ea c ra imm) 2 = true →
      (((s.adv t).fetched c).dataRead c ((s.adv t).ea c ra imm) 2).1 = false →
      Does (.ldh t c rd ra imm) s ((((s.adv t).fetched c).dataRead c ((s.adv t).ea c ra imm) 2).2.ran c (fun k => k.setReg rd (sx 16 (k.load ((s.adv t).ea c ra imm) 2))))) ∧
    (∀ (t : Nat) (c : Nat) (rd : Nat) (ra : Nat) (imm : Nat) (s : State),
      Powered s →
      Runs (s.adv t) c (encI 0x11 rd ra imm) →
      dataOk ((s.adv t).ea c ra imm) 2 = false →
      Does (.ldh t c rd ra imm) s (((s.adv t).fetched c).coreExcept c exDaddr 0 ((s.adv t).ea c ra imm))) ∧
    (∀ (t : Nat) (c : Nat) (rd : Nat) (ra : Nat) (imm : Nat) (s : State),
      Powered s →
      Runs (s.adv t) c (encI 0x12 rd ra imm) →
      dataOk ((s.adv t).ea c ra imm) 2 = true →
      (((s.adv t).fetched c).dataRead c ((s.adv t).ea c ra imm) 2).1 = false →
      Does (.ldhu t c rd ra imm) s ((((s.adv t).fetched c).dataRead c ((s.adv t).ea c ra imm) 2).2.ran c (fun k => k.setReg rd (k.load ((s.adv t).ea c ra imm) 2)))) ∧
    (∀ (t : Nat) (c : Nat) (rd : Nat) (ra : Nat) (imm : Nat) (s : State),
      Powered s →
      Runs (s.adv t) c (encI 0x12 rd ra imm) →
      dataOk ((s.adv t).ea c ra imm) 2 = false →
      Does (.ldhu t c rd ra imm) s (((s.adv t).fetched c).coreExcept c exDaddr 0 ((s.adv t).ea c ra imm))) ∧
    (∀ (t : Nat) (c : Nat) (rd : Nat) (ra : Nat) (imm : Nat) (s : State),
      Powered s →
      Runs (s.adv t) c (encI 0x13 rd ra imm) →
      dataOk ((s.adv t).ea c ra imm) 1 = true →
      (((s.adv t).fetched c).dataRead c ((s.adv t).ea c ra imm) 1).1 = false →
      Does (.ldb t c rd ra imm) s ((((s.adv t).fetched c).dataRead c ((s.adv t).ea c ra imm) 1).2.ran c (fun k => k.setReg rd (sx 8 (k.load ((s.adv t).ea c ra imm) 1))))) ∧
    (∀ (t : Nat) (c : Nat) (rd : Nat) (ra : Nat) (imm : Nat) (s : State),
      Powered s →
      Runs (s.adv t) c (encI 0x13 rd ra imm) →
      dataOk ((s.adv t).ea c ra imm) 1 = false →
      Does (.ldb t c rd ra imm) s (((s.adv t).fetched c).coreExcept c exDaddr 0 ((s.adv t).ea c ra imm))) ∧
    (∀ (t : Nat) (c : Nat) (rd : Nat) (ra : Nat) (imm : Nat) (s : State),
      Powered s →
      Runs (s.adv t) c (encI 0x14 rd ra imm) →
      dataOk ((s.adv t).ea c ra imm) 1 = true →
      (((s.adv t).fetched c).dataRead c ((s.adv t).ea c ra imm) 1).1 = false →
      Does (.ldbu t c rd ra imm) s ((((s.adv t).fetched c).dataRead c ((s.adv t).ea c ra imm) 1).2.ran c (fun k => k.setReg rd (k.load ((s.adv t).ea c ra imm) 1)))) ∧
    (∀ (t : Nat) (c : Nat) (rd : Nat) (ra : Nat) (imm : Nat) (s : State),
      Powered s →
      Runs (s.adv t) c (encI 0x14 rd ra imm) →
      dataOk ((s.adv t).ea c ra imm) 1 = false →
      Does (.ldbu t c rd ra imm) s (((s.adv t).fetched c).coreExcept c exDaddr 0 ((s.adv t).ea c ra imm))) ∧
    (∀ (t : Nat) (c : Nat) (rd : Nat) (ra : Nat) (imm : Nat) (s : State),
      Powered s →
      Runs (s.adv t) c (encI 0x15 rd ra imm) →
      dataOk ((s.adv t).ea c ra imm) 4 = true →
      Does (.stw t c rd ra imm) s ((((s.adv t).fetched c).dataWrite c ((s.adv t).ea c ra imm) 4).ran c (fun k => k.store ((s.adv t).ea c ra imm) 4 ((s.adv t).gr c rd)))) ∧
    (∀ (t : Nat) (c : Nat) (rd : Nat) (ra : Nat) (imm : Nat) (s : State),
      Powered s →
      Runs (s.adv t) c (encI 0x15 rd ra imm) →
      dataOk ((s.adv t).ea c ra imm) 4 = false →
      Does (.stw t c rd ra imm) s (((s.adv t).fetched c).coreExcept c exDaddr 0 ((s.adv t).ea c ra imm))) ∧
    (∀ (t : Nat) (c : Nat) (rd : Nat) (ra : Nat) (imm : Nat) (s : State),
      Powered s →
      Runs (s.adv t) c (encI 0x16 rd ra imm) →
      dataOk ((s.adv t).ea c ra imm) 2 = true →
      Does (.sth t c rd ra imm) s ((((s.adv t).fetched c).dataWrite c ((s.adv t).ea c ra imm) 2).ran c (fun k => k.store ((s.adv t).ea c ra imm) 2 ((s.adv t).gr c rd)))) ∧
    (∀ (t : Nat) (c : Nat) (rd : Nat) (ra : Nat) (imm : Nat) (s : State),
      Powered s →
      Runs (s.adv t) c (encI 0x16 rd ra imm) →
      dataOk ((s.adv t).ea c ra imm) 2 = false →
      Does (.sth t c rd ra imm) s (((s.adv t).fetched c).coreExcept c exDaddr 0 ((s.adv t).ea c ra imm))) ∧
    (∀ (t : Nat) (c : Nat) (rd : Nat) (ra : Nat) (imm : Nat) (s : State),
      Powered s →
      Runs (s.adv t) c (encI 0x17 rd ra imm) →
      dataOk ((s.adv t).ea c ra imm) 1 = true →
      Does (.stb t c rd ra imm) s ((((s.adv t).fetched c).dataWrite c ((s.adv t).ea c ra imm) 1).ran c (fun k => k.store ((s.adv t).ea c ra imm) 1 ((s.adv t).gr c rd)))) ∧
    (∀ (t : Nat) (c : Nat) (rd : Nat) (ra : Nat) (imm : Nat) (s : State),
      Powered s →
      Runs (s.adv t) c (encI 0x17 rd ra imm) →
      dataOk ((s.adv t).ea c ra imm) 1 = false →
      Does (.stb t c rd ra imm) s (((s.adv t).fetched c).coreExcept c exDaddr 0 ((s.adv t).ea c ra imm))) ∧
    (∀ (t : Nat) (c : Nat) (rd : Nat) (ra : Nat) (imm : Nat) (s : State),
      Powered s →
      Runs (s.adv t) c (encI 0x18 rd ra imm) →
      rd % 16 ≠ ra % 16 →
      dataOk ((s.adv t).gr c ra) 4 = true →
      (((s.adv t).fetched c).dataRead c ((s.adv t).gr c ra) 4).1 = false →
      Does (.ldwp t c rd ra imm) s ((((s.adv t).fetched c).dataRead c ((s.adv t).gr c ra) 4).2.ran c (fun k => (k.setReg ra ((s.adv t).ea c ra imm)).setReg rd (k.load ((s.adv t).gr c ra) 4)))) ∧
    (∀ (t : Nat) (c : Nat) (rd : Nat) (ra : Nat) (imm : Nat) (s : State),
      Powered s →
      Runs (s.adv t) c (encI 0x18 rd ra imm) →
      rd % 16 = ra % 16 →
      Does (.ldwp t c rd ra imm) s (((s.adv t).fetched c).coreExcept c exIllegal 0 0)) ∧
    (∀ (t : Nat) (c : Nat) (rd : Nat) (ra : Nat) (imm : Nat) (s : State),
      Powered s →
      Runs (s.adv t) c (encI 0x19 rd ra imm) →
      dataOk ((s.adv t).gr c ra) 4 = true →
      Does (.stwp t c rd ra imm) s ((((s.adv t).fetched c).dataWrite c ((s.adv t).gr c ra) 4).ran c (fun k => (k.store ((s.adv t).gr c ra) 4 ((s.adv t).gr c rd)).setReg ra ((s.adv t).ea c ra imm)))) ∧
    (∀ (t : Nat) (c : Nat) (mask : Nat) (s : State),
      Powered s →
      Runs (s.adv t) c (encS 0x1A mask) →
      maskOk mask = true →
      ((s.adv t).core c).window (((s.adv t).gr c 14 : Int) - (4 * (maskRegs mask).length : Nat)) ((s.adv t).gr c 14) = true →
      Does (.pushm t c mask) s ((((s.adv t).fetched c).pushed c (maskRegs mask)).coreAdvance c)) ∧
    (∀ (t : Nat) (c : Nat) (mask : Nat) (s : State),
      Powered s →
      Runs (s.adv t) c (encS 0x1A mask) →
      maskOk mask = true →
      ((s.adv t).core c).window (((s.adv t).gr c 14 : Int) - (4 * (maskRegs mask).length : Nat)) ((s.adv t).gr c 14) = false →
      Does (.pushm t c mask) s (((s.adv t).fetched c).coreExcept c exDaddr 1 (ofSigned 32 (((s.adv t).gr c 14 : Int) - (4 * (maskRegs mask).length : Nat))))) ∧
    (∀ (t : Nat) (c : Nat) (mask : Nat) (s : State),
      Powered s →
      Runs (s.adv t) c (encS 0x1A mask) →
      maskOk mask = false →
      Does (.pushm t c mask) s (((s.adv t).fetched c).coreExcept c exIllegal 0 0)) ∧
    (∀ (t : Nat) (c : Nat) (mask : Nat) (s : State),
      Powered s →
      Runs (s.adv t) c (encS 0x1B mask) →
      maskOk mask = true →
      ((s.adv t).core c).window ((s.adv t).gr c 14) (((s.adv t).gr c 14 : Int) + (4 * (maskRegs mask).length : Nat)) = true →
      (((s.adv t).fetched c).dataRead c ((s.adv t).gr c 14) (4 * (maskRegs mask).length)).1 = false →
      Does (.popm t c mask) s (((((s.adv t).fetched c).dataRead c ((s.adv t).gr c 14) (4 * (maskRegs mask).length)).2.popped c (maskRegs mask)).coreAdvance c)) ∧
    (∀ (t : Nat) (c : Nat) (mask : Nat) (s : State),
      Powered s →
      Runs (s.adv t) c (encS 0x1B mask) →
      maskOk mask = true →
      ((s.adv t).core c).window ((s.adv t).gr c 14) (((s.adv t).gr c 14 : Int) + (4 * (maskRegs mask).length : Nat)) = false →
      Does (.popm t c mask) s (((s.adv t).fetched c).coreExcept c exDaddr 1 ((s.adv t).gr c 14)))

/-- For every core that runs a step with REPA 0 and whose next instruction is the encoding of an accumulator instruction: MAC, MSU and MACU (dual fetch from X and Y) and MACR, MSUR and MACUR add or subtract the exact product, signed or unsigned, and keep the sum modulo 2^72, with AV set exactly when the signed sum lies outside 72 bits; MPY and MPYR replace it; the dual fetch steps both pointers by their signed counts of words, and raises ILLEGAL for equal pointers. ACLR, AMOV, AADD, ASH, AEXT, ARD and AWR do what R448 and R449 say, with N, Z, V and SAT only in AEXT. ARD and AWR of a part above 2 raise ILLEGAL. -/
def Obligations.AccumulatorInstructionsTakeEffect : Prop :=
    (∀ (t : Nat) (c : Nat) (px : Nat) (py : Nat) (mx : Nat) (my : Nat) (acc : Bool) (s : State),
      Powered s →
      Runs (s.adv t) c (encX acc 0 px py mx my) →
      px % 16 ≠ py % 16 →
      (s.adv t).gr c px % 4 = 0 →
      (s.adv t).gr c px < 0x8000 →
      (s.adv t).gr c py % 4 = 0 →
      0x8000 ≤ (s.adv t).gr c py →
      (s.adv t).gr c py ≤ 0xFFFF →
      (((s.adv t).fetched c).dataRead c ((s.adv t).gr c px) 4).1 = false →
      ((((s.adv t).fetched c).dataRead c ((s.adv t).gr c px) 4).2.dataRead c ((s.adv t).gr c py) 4).1 = false →
      Does (.mac t c acc px py mx my) s (((((s.adv t).fetched c).dataRead c ((s.adv t).gr c px) 4).2.dataRead c ((s.adv t).gr c py) 4).2.ran c (fun k => (putSum acc ((s.adv t).accVal c acc + (product true (((s.adv t).core c).dataWord ((s.adv t).gr c px)) (((s.adv t).core c).dataWord ((s.adv t).gr c py))))) ((k.setReg px (stepPtr ((s.adv t).gr c px) mx)).setReg py (stepPtr ((s.adv t).gr c py) my))))) ∧
    (∀ (t : Nat) (c : Nat) (px : Nat) (py : Nat) (mx : Nat) (my : Nat) (acc : Bool) (s : State),
      Powered s →
      Runs (s.adv t) c (encX acc 1 px py mx my) →
      px % 16 ≠ py % 16 →
      (s.adv t).gr c px % 4 = 0 →
      (s.adv t).gr c px < 0x8000 →
      (s.adv t).gr c py % 4 = 0 →
      0x8000 ≤ (s.adv t).gr c py →
      (s.adv t).gr c py ≤ 0xFFFF →
      (((s.adv t).fetched c).dataRead c ((s.adv t).gr c px) 4).1 = false →
      ((((s.adv t).fetched c).dataRead c ((s.adv t).gr c px) 4).2.dataRead c ((s.adv t).gr c py) 4).1 = false →
      Does (.msu t c acc px py mx my) s (((((s.adv t).fetched c).dataRead c ((s.adv t).gr c px) 4).2.dataRead c ((s.adv t).gr c py) 4).2.ran c (fun k => (putSum acc ((s.adv t).accVal c acc - (product true (((s.adv t).core c).dataWord ((s.adv t).gr c px)) (((s.adv t).core c).dataWord ((s.adv t).gr c py))))) ((k.setReg px (stepPtr ((s.adv t).gr c px) mx)).setReg py (stepPtr ((s.adv t).gr c py) my))))) ∧
    (∀ (t : Nat) (c : Nat) (px : Nat) (py : Nat) (mx : Nat) (my : Nat) (acc : Bool) (s : State),
      Powered s →
      Runs (s.adv t) c (encX acc 2 px py mx my) →
      px % 16 ≠ py % 16 →
      (s.adv t).gr c px % 4 = 0 →
      (s.adv t).gr c px < 0x8000 →
      (s.adv t).gr c py % 4 = 0 →
      0x8000 ≤ (s.adv t).gr c py →
      (s.adv t).gr c py ≤ 0xFFFF →
      (((s.adv t).fetched c).dataRead c ((s.adv t).gr c px) 4).1 = false →
      ((((s.adv t).fetched c).dataRead c ((s.adv t).gr c px) 4).2.dataRead c ((s.adv t).gr c py) 4).1 = false →
      Does (.mpy t c acc px py mx my) s (((((s.adv t).fetched c).dataRead c ((s.adv t).gr c px) 4).2.dataRead c ((s.adv t).gr c py) 4).2.ran c (fun k => (fun k => k.setAcc acc (ofSigned 72 (product true (((s.adv t).core c).dataWord ((s.adv t).gr c px)) (((s.adv t).core c).dataWord ((s.adv t).gr c py))))) ((k.setReg px (stepPtr ((s.adv t).gr c px) mx)).setReg py (stepPtr ((s.adv t).gr c py) my))))) ∧
    (∀ (t : Nat) (c : Nat) (px : Nat) (py : Nat) (mx : Nat) (my : Nat) (acc : Bool) (s : State),
      Powered s →
      Runs (s.adv t) c (encX acc 3 px py mx my) →
      px % 16 ≠ py % 16 →
      (s.adv t).gr c px % 4 = 0 →
      (s.adv t).gr c px < 0x8000 →
      (s.adv t).gr c py % 4 = 0 →
      0x8000 ≤ (s.adv t).gr c py →
      (s.adv t).gr c py ≤ 0xFFFF →
      (((s.adv t).fetched c).dataRead c ((s.adv t).gr c px) 4).1 = false →
      ((((s.adv t).fetched c).dataRead c ((s.adv t).gr c px) 4).2.dataRead c ((s.adv t).gr c py) 4).1 = false →
      Does (.macu t c acc px py mx my) s (((((s.adv t).fetched c).dataRead c ((s.adv t).gr c px) 4).2.dataRead c ((s.adv t).gr c py) 4).2.ran c (fun k => (putSum acc ((s.adv t).accVal c acc + (product false (((s.adv t).core c).dataWord ((s.adv t).gr c px)) (((s.adv t).core c).dataWord ((s.adv t).gr c py))))) ((k.setReg px (stepPtr ((s.adv t).gr c px) mx)).setReg py (stepPtr ((s.adv t).gr c py) my))))) ∧
    (∀ (t : Nat) (c : Nat) (px : Nat) (py : Nat) (mx : Nat) (my : Nat) (acc : Bool) (s : State),
      Powered s →
      Runs (s.adv t) c (encX acc 0 px py mx my) →
      px % 16 = py % 16 →
      Does (.mac t c acc px py mx my) s (((s.adv t).fetched c).coreExcept c exIllegal 0 0)) ∧
    (∀ (t : Nat) (c : Nat) (ra : Nat) (rb : Nat) (acc : Bool) (s : State),
      Powered s →
      Runs (s.adv t) c (encA 0x00 0 ra rb acc false 0) →
      Does (.macr t c acc ra rb) s (((s.adv t).fetched c).ran c (putSum acc ((s.adv t).accVal c acc + (product true ((s.adv t).gr c ra) ((s.adv t).gr c rb)))))) ∧
    (∀ (t : Nat) (c : Nat) (ra : Nat) (rb : Nat) (acc : Bool) (s : State),
      Powered s →
      Runs (s.adv t) c (encA 0x01 0 ra rb acc false 0) →
      Does (.msur t c acc ra rb) s (((s.adv t).fetched c).ran c (putSum acc ((s.adv t).accVal c acc - (product true ((s.adv t).gr c ra) ((s.adv t).gr c rb)))))) ∧
    (∀ (t : Nat) (c : Nat) (ra : Nat) (rb : Nat) (acc : Bool) (s : State),
      Powered s →
      Runs (s.adv t) c (encA 0x02 0 ra rb acc false 0) →
      Does (.mpyr t c acc ra rb) s (((s.adv t).fetched c).ran c (fun k => k.setAcc acc (ofSigned 72 (product true ((s.adv t).gr c ra) ((s.adv t).gr c rb)))))) ∧
    (∀ (t : Nat) (c : Nat) (ra : Nat) (rb : Nat) (acc : Bool) (s : State),
      Powered s →
      Runs (s.adv t) c (encA 0x03 0 ra rb acc false 0) →
      Does (.macur t c acc ra rb) s (((s.adv t).fetched c).ran c (putSum acc ((s.adv t).accVal c acc + (product false ((s.adv t).gr c ra) ((s.adv t).gr c rb)))))) ∧
    (∀ (t : Nat) (c : Nat) (acc : Bool) (s : State),
      Powered s →
      Runs (s.adv t) c (encA 0x04 0 0 0 acc false 0) →
      Does (.aclr t c acc) s (((s.adv t).fetched c).ran c (fun k => k.setAcc acc 0))) ∧
    (∀ (t : Nat) (c : Nat) (acc : Bool) (s : State),
      Powered s →
      Runs (s.adv t) c (encA 0x05 0 0 0 acc false 0) →
      Does (.amov t c acc) s (((s.adv t).fetched c).ran c (fun k => k.setAcc acc (k.acc (!acc))))) ∧
    (∀ (t : Nat) (c : Nat) (acc : Bool) (opt : Bool) (s : State),
      Powered s →
      Runs (s.adv t) c (encA 0x06 0 0 0 acc opt 0) →
      Does (.aadd t c acc opt) s (((s.adv t).fetched c).ran c (putSum acc (if opt then (s.adv t).accVal c acc - (s.adv t).accVal c (!acc) else (s.adv t).accVal c acc + (s.adv t).accVal c (!acc))))) ∧
    (∀ (t : Nat) (c : Nat) (n : Nat) (acc : Bool) (s : State),
      Powered s →
      n < 64 →
      Runs (s.adv t) c (encA 0x07 0 0 0 acc false n) →
      Does (.ash t c acc false n) s (((s.adv t).fetched c).ran c (fun k => k.setAcc acc (ofSigned 72 ((s.adv t).accVal c acc / (2 ^ n : Nat)))))) ∧
    (∀ (t : Nat) (c : Nat) (n : Nat) (acc : Bool) (s : State),
      Powered s →
      n < 64 →
      Runs (s.adv t) c (encA 0x07 0 0 0 acc true n) →
      Does (.ash t c acc true n) s (((s.adv t).fetched c).ran c (putSum acc ((s.adv t).accVal c acc * (2 ^ n : Nat))))) ∧
    (∀ (t : Nat) (c : Nat) (rd : Nat) (n : Nat) (acc : Bool) (opt : Bool) (s : State),
      Powered s →
      n < 64 →
      Runs (s.adv t) c (encA 0x08 rd 0 0 acc opt n) →
      Does (.aext t c rd acc opt n) s (((s.adv t).fetched c).ran c (extracted rd ((s.adv t).accVal c acc) opt n))) ∧
    (∀ (t : Nat) (c : Nat) (rd : Nat) (n : Nat) (acc : Bool) (s : State),
      Powered s →
      n < 3 →
      Runs (s.adv t) c (encA 0x09 rd 0 0 acc false n) →
      Does (.ard t c rd acc n) s (((s.adv t).fetched c).ran c (fun k => k.setReg rd (accPart (k.acc acc) n)))) ∧
    (∀ (t : Nat) (c : Nat) (ra : Nat) (n : Nat) (acc : Bool) (s : State),
      Powered s →
      n < 3 →
      Runs (s.adv t) c (encA 0x0A 0 ra 0 acc false n) →
      Does (.awr t c acc ra n) s (((s.adv t).fetched c).ran c (fun k => k.setAcc acc (accWith (k.acc acc) n ((s.adv t).gr c ra))))) ∧
    (∀ (t : Nat) (c : Nat) (rd : Nat) (n : Nat) (acc : Bool) (s : State),
      Powered s →
      2 < n →
      n < 64 →
      Runs (s.adv t) c (encA 0x09 rd 0 0 acc false n) →
      Does (.ard t c rd acc n) s (((s.adv t).fetched c).coreExcept c exIllegal 0 0)) ∧
    (∀ (t : Nat) (c : Nat) (ra : Nat) (n : Nat) (acc : Bool) (s : State),
      Powered s →
      2 < n →
      n < 64 →
      Runs (s.adv t) c (encA 0x0A 0 ra 0 acc false n) →
      Does (.awr t c acc ra n) s (((s.adv t).fetched c).coreExcept c exIllegal 0 0))

/-- For every core that runs a step with REPA 0 and whose next instruction is the encoding of a control instruction, of SYS or of REP: a jump whose target is a multiple of 4 up to 0xFFFC goes there, and CALL and CALLR write PC + 4 to g15; another target raises IADDR with DETAIL 1; B.cond goes there exactly when its condition holds. NOP and FENCE only advance PC. WFI completes with a line asserted and enabled, and waits with none. RETE restores PSW (reserved bits 0) and PC from the frame and adds 16 to g14, and raises DADDR outside the stack window. TRAP and BRK (with DEBUG_EN 0) raise their exceptions; BRK with DEBUG_EN 1 halts the core. REP loads RC and sets REPA, skips its instruction at count 0, and raises ILLEGAL with DETAIL 1 above 4,095. DONE (g0 not 1) and AGAIN (g0 1) end the step. -/
def Obligations.ControlAndSystemInstructionsTakeEffect : Prop :=
    (∀ (t : Nat) (c : Nat) (cond : Nat) (imm : Nat) (s : State),
      Powered s →
      Runs (s.adv t) c (encM 0x20 cond imm) →
      ((s.adv t).core c).cond cond = true →
      ((s.adv t).relTarget c 22 imm) % 4 = 0 ∧ ((s.adv t).relTarget c 22 imm) ≤ 0xFFFC →
      Does (.bCond t c cond imm) s (((s.adv t).fetched c).updCore c (fun k => { k with pc := ((s.adv t).relTarget c 22 imm) }))) ∧
    (∀ (t : Nat) (c : Nat) (cond : Nat) (imm : Nat) (s : State),
      Powered s →
      Runs (s.adv t) c (encM 0x20 cond imm) →
      ((s.adv t).core c).cond cond = true →
      ¬(((s.adv t).relTarget c 22 imm) % 4 = 0 ∧ ((s.adv t).relTarget c 22 imm) ≤ 0xFFFC) →
      Does (.bCond t c cond imm) s (((s.adv t).fetched c).coreExcept c exIaddr 1 ((s.adv t).relTarget c 22 imm))) ∧
    (∀ (t : Nat) (c : Nat) (cond : Nat) (imm : Nat) (s : State),
      Powered s →
      Runs (s.adv t) c (encM 0x20 cond imm) →
      ((s.adv t).core c).cond cond = false →
      Does (.bCond t c cond imm) s (((s.adv t).fetched c).ran c id)) ∧
    (∀ (t : Nat) (c : Nat) (imm : Nat) (s : State),
      Powered s →
      Runs (s.adv t) c (encJ 0x21 imm) →
      ((s.adv t).relTarget c 26 imm) % 4 = 0 ∧ ((s.adv t).relTarget c 26 imm) ≤ 0xFFFC →
      Does (.jmp t c imm) s (((s.adv t).fetched c).updCore c (fun k => { k with pc := ((s.adv t).relTarget c 26 imm) }))) ∧
    (∀ (t : Nat) (c : Nat) (imm : Nat) (s : State),
      Powered s →
      Runs (s.adv t) c (encJ 0x21 imm) →
      ¬(((s.adv t).relTarget c 26 imm) % 4 = 0 ∧ ((s.adv t).relTarget c 26 imm) ≤ 0xFFFC) →
      Does (.jmp t c imm) s (((s.adv t).fetched c).coreExcept c exIaddr 1 ((s.adv t).relTarget c 26 imm))) ∧
    (∀ (t : Nat) (c : Nat) (imm : Nat) (s : State),
      Powered s →
      Runs (s.adv t) c (encJ 0x22 imm) →
      ((s.adv t).relTarget c 26 imm) % 4 = 0 ∧ ((s.adv t).relTarget c 26 imm) ≤ 0xFFFC →
      Does (.call t c imm) s (((s.adv t).fetched c).updCore c (fun k => { k.setReg 15 (k.pc + 4) with pc := ((s.adv t).relTarget c 26 imm) }))) ∧
    (∀ (t : Nat) (c : Nat) (imm : Nat) (s : State),
      Powered s →
      Runs (s.adv t) c (encJ 0x22 imm) →
      ¬(((s.adv t).relTarget c 26 imm) % 4 = 0 ∧ ((s.adv t).relTarget c 26 imm) ≤ 0xFFFC) →
      Does (.call t c imm) s (((s.adv t).fetched c).coreExcept c exIaddr 1 ((s.adv t).relTarget c 26 imm))) ∧
    (∀ (t : Nat) (c : Nat) (ra : Nat) (s : State),
      Powered s →
      Runs (s.adv t) c (encR 0x23 0x00 0 ra 0 0) →
      ((s.adv t).gr c ra) % 4 = 0 ∧ ((s.adv t).gr c ra) ≤ 0xFFFC →
      Does (.jr t c ra) s (((s.adv t).fetched c).updCore c (fun k => { k with pc := ((s.adv t).gr c ra) }))) ∧
    (∀ (t : Nat) (c : Nat) (ra : Nat) (s : State),
      Powered s →
      Runs (s.adv t) c (encR 0x23 0x00 0 ra 0 0) →
      ¬(((s.adv t).gr c ra) % 4 = 0 ∧ ((s.adv t).gr c ra) ≤ 0xFFFC) →
      Does (.jr t c ra) s (((s.adv t).fetched c).coreExcept c exIaddr 1 ((s.adv t).gr c ra))) ∧
    (∀ (t : Nat) (c : Nat) (ra : Nat) (s : State),
      Powered s →
      Runs (s.adv t) c (encR 0x23 0x01 0 ra 0 0) →
      ((s.adv t).gr c ra) % 4 = 0 ∧ ((s.adv t).gr c ra) ≤ 0xFFFC →
      Does (.callr t c ra) s (((s.adv t).fetched c).updCore c (fun k => { k.setReg 15 (k.pc + 4) with pc := ((s.adv t).gr c ra) }))) ∧
    (∀ (t : Nat) (c : Nat) (ra : Nat) (s : State),
      Powered s →
      Runs (s.adv t) c (encR 0x23 0x01 0 ra 0 0) →
      ¬(((s.adv t).gr c ra) % 4 = 0 ∧ ((s.adv t).gr c ra) ≤ 0xFFFC) →
      Does (.callr t c ra) s (((s.adv t).fetched c).coreExcept c exIaddr 1 ((s.adv t).gr c ra))) ∧
    (∀ (t : Nat) (c : Nat) (s : State),
      Powered s →
      Runs (s.adv t) c (encR 0x24 0x00 0 0 0 0) →
      Does (.nop t c) s (((s.adv t).fetched c).ran c id)) ∧
    (∀ (t : Nat) (c : Nat) (s : State),
      Powered s →
      Runs (s.adv t) c (encR 0x24 0x06 0 0 0 0) →
      Does (.fence t c) s (((s.adv t).fetched c).ran c id)) ∧
    (∀ (t : Nat) (c : Nat) (s : State),
      Powered s →
      Runs (s.adv t) c (encR 0x24 0x02 0 0 0 0) →
      ((s.adv t).core c).lines ≠ 0 →
      Does (.wfi t c) s (((s.adv t).fetched c).ran c id)) ∧
    (∀ (t : Nat) (c : Nat) (s : State),
      Powered s →
      Runs (s.adv t) c (encR 0x24 0x02 0 0 0 0) →
      ((s.adv t).core c).lines = 0 →
      Does (.wfi t c) s (((s.adv t).fetched c).updCore c (fun k => { k with waiting := true }))) ∧
    (∀ (t : Nat) (c : Nat) (s : State),
      Powered s →
      Runs (s.adv t) c (encR 0x24 0x03 0 0 0 0) →
      ((s.adv t).core c).window ((s.adv t).gr c 14) (((s.adv t).gr c 14) + 16) = true →
      (((s.adv t).fetched c).dataRead c ((s.adv t).gr c 14) 16).1 = false →
      Does (.rete t c) s ((((s.adv t).fetched c).dataRead c ((s.adv t).gr c 14) 16).2.updCore c (fun k => { k.setReg 14 (((s.adv t).gr c 14) + 16) with psw := pswKept (k.dataWord (((s.adv t).gr c 14) + 4)), pc := k.dataWord ((s.adv t).gr c 14) }))) ∧
    (∀ (t : Nat) (c : Nat) (s : State),
      Powered s →
      Runs (s.adv t) c (encR 0x24 0x03 0 0 0 0) →
      ((s.adv t).core c).window ((s.adv t).gr c 14) (((s.adv t).gr c 14) + 16) = false →
      Does (.rete t c) s (((s.adv t).fetched c).coreExcept c exDaddr 1 ((s.adv t).gr c 14))) ∧
    (∀ (t : Nat) (c : Nat) (n : Nat) (s : State),
      Powered s →
      n < 256 →
      Runs (s.adv t) c (encR 0x24 0x04 0 0 0 n) →
      Does (.trap t c n) s (((s.adv t).fetched c).coreExcept c exTrap n 0)) ∧
    (∀ (t : Nat) (c : Nat) (s : State),
      Powered s →
      Runs (s.adv t) c (encR 0x24 0x05 0 0 0 0) →
      ((s.adv t).fetched c).on AST_CORE_CTL.DEBUG_EN c = false →
      Does (.brk t c) s (((s.adv t).fetched c).coreExcept c exBrk 0 0)) ∧
    (∀ (t : Nat) (c : Nat) (s : State),
      Powered s →
      Runs (s.adv t) c (encR 0x24 0x05 0 0 0 0) →
      ((s.adv t).fetched c).on AST_CORE_CTL.DEBUG_EN c = true →
      Does (.brk t c) s (((((((s.adv t).fetched c).updCore c (fun k => { k with pc := k.pc + 4, haltFrom := some ((s.adv t).fetched c).now })).coreTo c csDebug).irq AST_IRQ_STAT.DEBUG).astEvent 4 c 0 (((s.adv t).fetched c).rd AST_CORE_STAT.SESSION c)))) ∧
    (∀ (t : Nat) (c : Nat) (count : Nat) (s : State),
      Powered s →
      0 < count →
      count ≤ 4095 →
      Runs (s.adv t) c (encI 0x25 0 0 count) →
      Does (.rep t c false 0 count) s (((s.adv t).fetched c).updCore c (fun k => { k.setRep true count with pc := k.pc + 4 }))) ∧
    (∀ (t : Nat) (c : Nat) (ra : Nat) (s : State),
      Powered s →
      0 < (s.adv t).gr c ra →
      (s.adv t).gr c ra ≤ 4095 →
      Runs (s.adv t) c (encI 0x25 0 ra (2 ^ 17)) →
      Does (.rep t c true ra 0) s (((s.adv t).fetched c).updCore c (fun k => { k.setRep true ((s.adv t).gr c ra) with pc := k.pc + 4 }))) ∧
    (∀ (t : Nat) (c : Nat) (s : State),
      Powered s →
      Runs (s.adv t) c (encI 0x25 0 0 0) →
      Does (.rep t c false 0 0) s (((s.adv t).fetched c).updCore c (fun k => { k with pc := k.pc + 8 }))) ∧
    (∀ (t : Nat) (c : Nat) (ra : Nat) (s : State),
      Powered s →
      4095 < (s.adv t).gr c ra →
      Runs (s.adv t) c (encI 0x25 0 ra (2 ^ 17)) →
      Does (.rep t c true ra 0) s (((s.adv t).fetched c).coreExcept c exIllegal 1 0)) ∧
    (∀ (t : Nat) (c : Nat) (s : State),
      Powered s →
      (s.adv t).gr c 0 ≠ 1 →
      Runs (s.adv t) c (encR 0x24 0x01 0 0 0 0) →
      Does (.doneStep t c) s (((s.adv t).fetched c).yieldDone c)) ∧
    (∀ (t : Nat) (c : Nat) (s : State),
      Powered s →
      (s.adv t).gr c 0 = 1 →
      Runs (s.adv t) c (encR 0x24 0x01 0 0 0 0) →
      Does (.again t c) s (((s.adv t).fetched c).yieldAgain c))

/-- For every core that runs a step with REPA 0 and whose next instruction is the encoding: IN writes the value of the port to rd unless the port delivers poison, and OUT writes rd to the port; a port number above 0xFFF raises IOADDR. An issue to CP0 to CP3 with a good block is accepted: rd takes OK with the next tag, Z is set, the request is outstanding and its unit starts it; while one is outstanding the issue gives BUSY with tag 0 and starts nothing. WAIT of an outstanding tag stalls the core; WAIT and POLL of the last completed tag give its word; POLL of an outstanding tag gives BUSY; CANCEL of an outstanding tag withdraws it and gives CANCELLED; another tag gives DENIED with DETAIL 0xFF. On CP4 to CP7 they raise COPROC. A completion makes its word readable. -/
def Obligations.PortAndCoprocessorInstructionsTakeEffect : Prop :=
    (∀ (t : Nat) (c : Nat) (rd : Nat) (imm : Nat) (s : State),
      Powered s →
      imm < 2 ^ 12 →
      Runs (s.adv t) c (encP 0x1C rd 0 true imm) →
      (((s.adv t).fetched c).portIn c imm).1 = false →
      Does (.inPort t c rd 0 true imm) s (((((s.adv t).fetched c).portIn c imm).2.2.setGr c rd (((s.adv t).fetched c).portIn c imm).2.1).coreAdvance c)) ∧
    (∀ (t : Nat) (c : Nat) (rd : Nat) (imm : Nat) (s : State),
      Powered s →
      imm < 2 ^ 12 →
      Runs (s.adv t) c (encP 0x1D rd 0 true imm) →
      Does (.outPort t c rd 0 true imm) s ((((s.adv t).fetched c).portOut c imm ((s.adv t).gr c rd)).coreAdvance c)) ∧
    (∀ (t : Nat) (c : Nat) (rd : Nat) (ra : Nat) (imm : Nat) (s : State),
      Powered s →
      (s.adv t).gr c ra + imm ≤ 0xFFF →
      Runs (s.adv t) c (encP 0x1C rd ra false imm) →
      (((s.adv t).fetched c).portIn c ((s.adv t).gr c ra + imm)).1 = false →
      Does (.inPort t c rd ra false imm) s (((((s.adv t).fetched c).portIn c ((s.adv t).gr c ra + imm)).2.2.setGr c rd (((s.adv t).fetched c).portIn c ((s.adv t).gr c ra + imm)).2.1).coreAdvance c)) ∧
    (∀ (t : Nat) (c : Nat) (rd : Nat) (ra : Nat) (imm : Nat) (s : State),
      Powered s →
      (s.adv t).gr c ra + imm ≤ 0xFFF →
      Runs (s.adv t) c (encP 0x1D rd ra false imm) →
      Does (.outPort t c rd ra false imm) s ((((s.adv t).fetched c).portOut c ((s.adv t).gr c ra + imm) ((s.adv t).gr c rd)).coreAdvance c)) ∧
    (∀ (t : Nat) (c : Nat) (rd : Nat) (ra : Nat) (imm : Nat) (s : State),
      Powered s →
      imm < 2 ^ 12 →
      0xFFF < (((s.adv t).gr c ra + imm) % 2 ^ 32) →
      Runs (s.adv t) c (encP 0x1C rd ra false imm) →
      Does (.inPort t c rd ra false imm) s (((s.adv t).fetched c).coreExcept c exIoaddr 0 (((s.adv t).gr c ra + imm) % 2 ^ 32))) ∧
    (∀ (t : Nat) (c : Nat) (rd : Nat) (ra : Nat) (imm : Nat) (s : State),
      Powered s →
      imm < 2 ^ 12 →
      0xFFF < (((s.adv t).gr c ra + imm) % 2 ^ 32) →
      Runs (s.adv t) c (encP 0x1D rd ra false imm) →
      Does (.outPort t c rd ra false imm) s (((s.adv t).fetched c).coreExcept c exIoaddr 0 (((s.adv t).gr c ra + imm) % 2 ^ 32))) ∧
    (∀ (t : Nat) (c : Nat) (cp : Nat) (rd : Nat) (ra : Nat) (s : State),
      Powered s →
      cp < 4 →
      Runs (s.adv t) c (encC cp rd ra 0 0) →
      (((s.adv t).core c).cp cp).isOut ((s.adv t).gr c ra % 2 ^ 16) = true →
      Does (.wait t c cp rd ra) s (((s.adv t).fetched c))) ∧
    (∀ (t : Nat) (c : Nat) (cp : Nat) (rd : Nat) (ra : Nat) (s : State),
      Powered s →
      cp < 4 →
      Runs (s.adv t) c (encC cp rd ra 0 0) →
      (((s.adv t).core c).cp cp).isOut ((s.adv t).gr c ra % 2 ^ 16) = false →
      (((s.adv t).core c).cp cp).isLast ((s.adv t).gr c ra % 2 ^ 16) = true →
      Does (.wait t c cp rd ra) s (((((s.adv t).fetched c).updCp c cp (fun x => { x with unread := false })).answered c rd ((((s.adv t).core c).cp cp).last.getD 0)))) ∧
    (∀ (t : Nat) (c : Nat) (cp : Nat) (rd : Nat) (ra : Nat) (s : State),
      Powered s →
      cp < 4 →
      Runs (s.adv t) c (encC cp rd ra 0 0) →
      (((s.adv t).core c).cp cp).isOut ((s.adv t).gr c ra % 2 ^ 16) = false →
      (((s.adv t).core c).cp cp).isLast ((s.adv t).gr c ra % 2 ^ 16) = false →
      Does (.wait t c cp rd ra) s (((s.adv t).fetched c).answered c rd (cpWord ccDenied 0xFF ((s.adv t).gr c ra % 2 ^ 16)))) ∧
    (∀ (t : Nat) (c : Nat) (cp : Nat) (rd : Nat) (ra : Nat) (s : State),
      Powered s →
      4 ≤ cp →
      cp < 8 →
      Runs (s.adv t) c (encC cp rd ra 0 0) →
      Does (.wait t c cp rd ra) s (((s.adv t).fetched c).coreExcept c exCoproc cp 0)) ∧
    (∀ (t : Nat) (c : Nat) (cp : Nat) (rd : Nat) (ra : Nat) (s : State),
      Powered s →
      cp < 4 →
      Runs (s.adv t) c (encC cp rd ra 0 1) →
      (((s.adv t).core c).cp cp).isOut ((s.adv t).gr c ra % 2 ^ 16) = true →
      Does (.poll t c cp rd ra) s (((s.adv t).fetched c).answered c rd (cpWord ccBusy 0 ((s.adv t).gr c ra % 2 ^ 16)))) ∧
    (∀ (t : Nat) (c : Nat) (cp : Nat) (rd : Nat) (ra : Nat) (s : State),
      Powered s →
      cp < 4 →
      Runs (s.adv t) c (encC cp rd ra 0 1) →
      (((s.adv t).core c).cp cp).isOut ((s.adv t).gr c ra % 2 ^ 16) = false →
      (((s.adv t).core c).cp cp).isLast ((s.adv t).gr c ra % 2 ^ 16) = true →
      Does (.poll t c cp rd ra) s (((((s.adv t).fetched c).updCp c cp (fun x => { x with unread := false })).answered c rd ((((s.adv t).core c).cp cp).last.getD 0)))) ∧
    (∀ (t : Nat) (c : Nat) (cp : Nat) (rd : Nat) (ra : Nat) (s : State),
      Powered s →
      cp < 4 →
      Runs (s.adv t) c (encC cp rd ra 0 1) →
      (((s.adv t).core c).cp cp).isOut ((s.adv t).gr c ra % 2 ^ 16) = false →
      (((s.adv t).core c).cp cp).isLast ((s.adv t).gr c ra % 2 ^ 16) = false →
      Does (.poll t c cp rd ra) s (((s.adv t).fetched c).answered c rd (cpWord ccDenied 0xFF ((s.adv t).gr c ra % 2 ^ 16)))) ∧
    (∀ (t : Nat) (c : Nat) (cp : Nat) (rd : Nat) (ra : Nat) (s : State),
      Powered s →
      4 ≤ cp →
      cp < 8 →
      Runs (s.adv t) c (encC cp rd ra 0 1) →
      Does (.poll t c cp rd ra) s (((s.adv t).fetched c).coreExcept c exCoproc cp 0)) ∧
    (∀ (t : Nat) (c : Nat) (cp : Nat) (rd : Nat) (ra : Nat) (s : State),
      Powered s →
      cp < 4 →
      Runs (s.adv t) c (encC cp rd ra 0 2) →
      (((s.adv t).core c).cp cp).isOut ((s.adv t).gr c ra % 2 ^ 16) = true →
      Does (.cpCancel t c cp rd ra) s (((((((s.adv t).fetched c).cpWithdraw c cp).bump AST_CNT_CP_CANCEL.COUNT).updCp c cp (fun x => { x with last := some (cpWord ccCancelled 0 ((s.adv t).gr c ra % 2 ^ 16)), unread := false })).answered c rd (cpWord ccCancelled 0 ((s.adv t).gr c ra % 2 ^ 16))))) ∧
    (∀ (t : Nat) (c : Nat) (cp : Nat) (rd : Nat) (ra : Nat) (s : State),
      Powered s →
      cp < 4 →
      Runs (s.adv t) c (encC cp rd ra 0 2) →
      (((s.adv t).core c).cp cp).isOut ((s.adv t).gr c ra % 2 ^ 16) = false →
      (((s.adv t).core c).cp cp).isLast ((s.adv t).gr c ra % 2 ^ 16) = true →
      Does (.cpCancel t c cp rd ra) s (((((s.adv t).fetched c).updCp c cp (fun x => { x with unread := false })).answered c rd ((((s.adv t).core c).cp cp).last.getD 0)))) ∧
    (∀ (t : Nat) (c : Nat) (cp : Nat) (rd : Nat) (ra : Nat) (s : State),
      Powered s →
      cp < 4 →
      Runs (s.adv t) c (encC cp rd ra 0 2) →
      (((s.adv t).core c).cp cp).isOut ((s.adv t).gr c ra % 2 ^ 16) = false →
      (((s.adv t).core c).cp cp).isLast ((s.adv t).gr c ra % 2 ^ 16) = false →
      Does (.cpCancel t c cp rd ra) s (((s.adv t).fetched c).answered c rd (cpWord ccDenied 0xFF ((s.adv t).gr c ra % 2 ^ 16)))) ∧
    (∀ (t : Nat) (c : Nat) (cp : Nat) (rd : Nat) (ra : Nat) (s : State),
      Powered s →
      4 ≤ cp →
      cp < 8 →
      Runs (s.adv t) c (encC cp rd ra 0 2) →
      Does (.cpCancel t c cp rd ra) s (((s.adv t).fetched c).coreExcept c exCoproc cp 0)) ∧
    (∀ (t : Nat) (c : Nat) (rd : Nat) (ra : Nat) (rb : Nat) (s : State),
      Powered s →
      Runs (s.adv t) c (encC 0 rd ra rb 0x0100) →
      (((s.adv t).core c).cp 0).out = none →
      (s.adv t).gr c ra % 4 = 0 →
      dataRange ((s.adv t).gr c ra) (132) = true →
      (((s.adv t).fetched c).dataRead c ((s.adv t).gr c ra) (132)).1 = false →
      (((s.adv t).fetched c).cp0Bad c (((s.adv t).core c).bytesAt ((s.adv t).gr c ra) (132)) || leAt (((s.adv t).core c).bytesAt ((s.adv t).gr c ra) (132)) 1 1 == 0 || decide (127 < leAt (((s.adv t).core c).bytesAt ((s.adv t).gr c ra) (132)) 1 1) || leAt (((s.adv t).core c).bytesAt ((s.adv t).gr c ra) (132)) 2 2 != 0 || (s.adv t).gr c rb != 0) = false →
      Does (.dataTx t c rd ra rb 0x0100) s ((((((s.adv t).fetched c).dataRead c ((s.adv t).gr c ra) (132)).2.cpAccept c 0 0x0100 (((s.adv t).core c).bytesAt ((s.adv t).gr c ra) (132)) ((s.adv t).gr c rb)).cp0Take (leAt (((s.adv t).core c).bytesAt ((s.adv t).gr c ra) (132)) 0 1)).answered c rd (cpWord ccOk 0 ((((s.adv t).core c).cp 0).nextTag 0)))) ∧
    (∀ (t : Nat) (c : Nat) (rd : Nat) (ra : Nat) (rb : Nat) (s : State),
      Powered s →
      Runs (s.adv t) c (encC 0 rd ra rb 0x0100) →
      (((s.adv t).core c).cp 0).out.isSome = true →
      Does (.dataTx t c rd ra rb 0x0100) s ((((s.adv t).fetched c).bump AST_CNT_CP_BUSY.COUNT).answered c rd (cpWord ccBusy 0 0))) ∧
    (∀ (t : Nat) (c : Nat) (rd : Nat) (ra : Nat) (rb : Nat) (s : State),
      Powered s →
      Runs (s.adv t) c (encC 0 rd ra rb 0x0101) →
      (((s.adv t).core c).cp 0).out = none →
      (s.adv t).gr c ra % 4 = 0 →
      dataRange ((s.adv t).gr c ra) (4) = true →
      ((s.adv t).gr c rb = 0 ∨ ((s.adv t).gr c rb % 4 = 0 ∧ dataRange ((s.adv t).gr c rb) (144) = true)) →
      (((s.adv t).fetched c).dataRead c ((s.adv t).gr c ra) (4)).1 = false →
      (((s.adv t).fetched c).cp0Bad c (((s.adv t).core c).bytesAt ((s.adv t).gr c ra) (4)) || leAt (((s.adv t).core c).bytesAt ((s.adv t).gr c ra) (4)) 1 1 != 0 || leAt (((s.adv t).core c).bytesAt ((s.adv t).gr c ra) (4)) 2 2 == 0) = false →
      Does (.dataRx t c rd ra rb) s ((((((s.adv t).fetched c).dataRead c ((s.adv t).gr c ra) (4)).2.cpAccept c 0 0x0101 (((s.adv t).core c).bytesAt ((s.adv t).gr c ra) (4)) ((s.adv t).gr c rb)).cp0Take (leAt (((s.adv t).core c).bytesAt ((s.adv t).gr c ra) (4)) 0 1)).answered c rd (cpWord ccOk 0 ((((s.adv t).core c).cp 0).nextTag 0)))) ∧
    (∀ (t : Nat) (c : Nat) (rd : Nat) (ra : Nat) (rb : Nat) (s : State),
      Powered s →
      Runs (s.adv t) c (encC 0 rd ra rb 0x0101) →
      (((s.adv t).core c).cp 0).out.isSome = true →
      Does (.dataRx t c rd ra rb) s ((((s.adv t).fetched c).bump AST_CNT_CP_BUSY.COUNT).answered c rd (cpWord ccBusy 0 0))) ∧
    (∀ (t : Nat) (c : Nat) (rd : Nat) (ra : Nat) (rb : Nat) (s : State),
      Powered s →
      Runs (s.adv t) c (encC 1 rd ra rb 0x0100) →
      (((s.adv t).core c).cp 1).out = none →
      (s.adv t).gr c ra % 4 = 0 →
      dataRange ((s.adv t).gr c ra) (32) = true →
      ((s.adv t).gr c rb = 0 ∨ ((s.adv t).gr c rb % 4 = 0 ∧ dataRange ((s.adv t).gr c rb) (16) = true)) →
      (((s.adv t).fetched c).dataRead c ((s.adv t).gr c ra) (32)).1 = false →
      (cp1Bad false (((s.adv t).core c).bytesAt ((s.adv t).gr c ra) (32))) = false →
      Does (.compute t c rd ra rb 0x0100) s ((((((s.adv t).fetched c).dataRead c ((s.adv t).gr c ra) (32)).2.cpAccept c 1 0x0100 (((s.adv t).core c).bytesAt ((s.adv t).gr c ra) (32)) ((s.adv t).gr c rb)).cp1Start c false (((s.adv t).core c).bytesAt ((s.adv t).gr c ra) (32)) ((((s.adv t).core c).cp 1).nextTag 1)).answered c rd (cpWord ccOk 0 ((((s.adv t).core c).cp 1).nextTag 1)))) ∧
    (∀ (t : Nat) (c : Nat) (rd : Nat) (ra : Nat) (rb : Nat) (s : State),
      Powered s →
      Runs (s.adv t) c (encC 1 rd ra rb 0x0100) →
      (((s.adv t).core c).cp 1).out.isSome = true →
      Does (.compute t c rd ra rb 0x0100) s ((((s.adv t).fetched c).bump AST_CNT_CP_BUSY.COUNT).answered c rd (cpWord ccBusy 0 0))) ∧
    (∀ (t : Nat) (c : Nat) (rd : Nat) (ra : Nat) (rb : Nat) (s : State),
      Powered s →
      Runs (s.adv t) c (encC 1 rd ra rb 0x0101) →
      (((s.adv t).core c).cp 1).out = none →
      (s.adv t).gr c ra % 4 = 0 →
      dataRange ((s.adv t).gr c ra) (32) = true →
      (((s.adv t).fetched c).dataRead c ((s.adv t).gr c ra) (32)).1 = false →
      (cp1Bad true (((s.adv t).core c).bytesAt ((s.adv t).gr c ra) (32))) = false →
      Does (.verify t c rd ra rb) s ((((((s.adv t).fetched c).dataRead c ((s.adv t).gr c ra) (32)).2.cpAccept c 1 0x0101 (((s.adv t).core c).bytesAt ((s.adv t).gr c ra) (32)) ((s.adv t).gr c rb)).cp1Start c true (((s.adv t).core c).bytesAt ((s.adv t).gr c ra) (32)) ((((s.adv t).core c).cp 1).nextTag 1)).answered c rd (cpWord ccOk 0 ((((s.adv t).core c).cp 1).nextTag 1)))) ∧
    (∀ (t : Nat) (c : Nat) (rd : Nat) (ra : Nat) (rb : Nat) (s : State),
      Powered s →
      Runs (s.adv t) c (encC 1 rd ra rb 0x0101) →
      (((s.adv t).core c).cp 1).out.isSome = true →
      Does (.verify t c rd ra rb) s ((((s.adv t).fetched c).bump AST_CNT_CP_BUSY.COUNT).answered c rd (cpWord ccBusy 0 0))) ∧
    (∀ (t : Nat) (c : Nat) (rd : Nat) (ra : Nat) (rb : Nat) (s : State),
      Powered s →
      Runs (s.adv t) c (encC 2 rd ra rb 0x0100) →
      (((s.adv t).core c).cp 2).out = none →
      (s.adv t).alm.cp2.length < 8 →
      (s.adv t).gr c ra % 4 = 0 →
      dataRange ((s.adv t).gr c ra) (8 + 16 * min (((s.adv t).core c).load ((s.adv t).gr c ra) 1) 128) = true →
      ((s.adv t).gr c rb = 0 ∨ ((s.adv t).gr c rb % 4 = 0 ∧ dataRange ((s.adv t).gr c rb) (64) = true)) →
      (((s.adv t).fetched c).dataRead c ((s.adv t).gr c ra) (8 + 16 * min (((s.adv t).core c).load ((s.adv t).gr c ra) 1) 128)).1 = false →
      (cp2Bad (((s.adv t).core c).bytesAt ((s.adv t).gr c ra) (8 + 16 * min (((s.adv t).core c).load ((s.adv t).gr c ra) 1) 128))) = false →
      Does (.solve t c rd ra rb 0x0100) s ((((((s.adv t).fetched c).dataRead c ((s.adv t).gr c ra) (8 + 16 * min (((s.adv t).core c).load ((s.adv t).gr c ra) 1) 128)).2.cpAccept c 2 0x0100 (((s.adv t).core c).bytesAt ((s.adv t).gr c ra) (8 + 16 * min (((s.adv t).core c).load ((s.adv t).gr c ra) 1) 128)) ((s.adv t).gr c rb)).cp2Start c (((s.adv t).core c).bytesAt ((s.adv t).gr c ra) (8 + 16 * min (((s.adv t).core c).load ((s.adv t).gr c ra) 1) 128)) ((((s.adv t).core c).cp 2).nextTag 2)).answered c rd (cpWord ccOk 0 ((((s.adv t).core c).cp 2).nextTag 2)))) ∧
    (∀ (t : Nat) (c : Nat) (rd : Nat) (ra : Nat) (rb : Nat) (s : State),
      Powered s →
      Runs (s.adv t) c (encC 2 rd ra rb 0x0100) →
      (((s.adv t).core c).cp 2).out.isSome = true →
      Does (.solve t c rd ra rb 0x0100) s ((((s.adv t).fetched c).bump AST_CNT_CP_BUSY.COUNT).answered c rd (cpWord ccBusy 0 0))) ∧
    (∀ (t : Nat) (c : Nat) (rd : Nat) (ra : Nat) (rb : Nat) (s : State),
      Powered s →
      Runs (s.adv t) c (encC 3 rd ra rb 0x0100) →
      (((s.adv t).core c).cp 3).out = none →
      (s.adv t).gr c ra % 4 = 0 →
      dataRange ((s.adv t).gr c ra) (4) = true →
      ((s.adv t).gr c rb = 0 ∨ ((s.adv t).gr c rb % 4 = 0 ∧ dataRange ((s.adv t).gr c rb) (min (((s.adv t).core c).load ((s.adv t).gr c ra) 1 + ((s.adv t).core c).load ((s.adv t).gr c ra + 1) 1 * 256) 256) = true)) →
      (((s.adv t).fetched c).dataRead c ((s.adv t).gr c ra) (4)).1 = false →
      (cp3Bad (((s.adv t).core c).bytesAt ((s.adv t).gr c ra) (4))) = false →
      Does (.get t c rd ra rb 0x0100) s ((((((s.adv t).fetched c).dataRead c ((s.adv t).gr c ra) (4)).2.cpAccept c 3 0x0100 (((s.adv t).core c).bytesAt ((s.adv t).gr c ra) (4)) ((s.adv t).gr c rb)).cp3Try c).answered c rd (cpWord ccOk 0 ((((s.adv t).core c).cp 3).nextTag 3)))) ∧
    (∀ (t : Nat) (c : Nat) (rd : Nat) (ra : Nat) (rb : Nat) (s : State),
      Powered s →
      Runs (s.adv t) c (encC 3 rd ra rb 0x0100) →
      (((s.adv t).core c).cp 3).out.isSome = true →
      Does (.get t c rd ra rb 0x0100) s ((((s.adv t).fetched c).bump AST_CNT_CP_BUSY.COUNT).answered c rd (cpWord ccBusy 0 0))) ∧
    (∀ (t : Nat) (c : Nat) (cp : Nat) (code : Nat) (detail : Nat) (q : CpReq) (data : List (BitVec 8)) (d : Nat × Nat × List Byte) (s : State),
      Powered s →
      c < 16 →
      cp < 4 →
      (((s.adv t).core c).cp cp).out = some q →
      (((s.adv t).core c).cp cp).done = some d →
      Does (.cpCompletion t c cp code detail data) s ((s.adv t).cpShow c cp q d.1 d.2.1 d.2.2))

/-- STEP_DISPATCH takes the first ready session and starts its step; the slice warning asserts line 4 at three quarters, and the end of the slice cancels the session with TIMEOUT and stops the core; a reload ends in IDLE with the bundle in force; RELEASE and the mailbox write are register writes; a mailbox read answers the word and lets line 1 fall; the timer is set, and expires; ENV_ADDR, REG_DATA and RANGE_DATA act as their ports. An interrupt enters the handler of the lowest line asserted and enabled while IE is 1. A word with a reserved major raises ILLEGAL, and a word of CP4 to CP7 raises COPROC with its number. Each clause gives the whole next state, the queue apart. -/
def Obligations.CoreStepCommandsTakeEffect : Prop :=
    (∀ (t : Nat) (c : Nat) (n : Nat) (e : List Byte) (s : State),
      Powered s →
      (s.adv t).running 0x0E = true →
      (s.adv t).nextStep c = some n →
      ((s.adv t).ctx n).state = ssDecide →
      scriptEntry (((s.adv t).unready n).bundleOf n).scripts ((((s.adv t).progOf n).map (·.script)).getD 0) = some e →
      Does (.stepDispatch t c n) s ((s.adv t).stepBegin c n)) ∧
    (∀ (t : Nat) (c : Nat) (s : State),
      Powered s →
      (s.adv t).inStep c = true →
      3 * (s.adv t).sliceMax ≤ 4 * (s.adv t).stepTicks c →
      Does (.sliceWarning t c) s ((s.adv t).updCore c (fun k => { k with sliceWarn := true }))) ∧
    (∀ (t : Nat) (c : Nat) (s : State),
      Powered s →
      (s.adv t).inStep c = true →
      (s.adv t).sliceMax < (s.adv t).stepTicks c →
      (s.adv t).live ((s.adv t).rd AST_CORE_STAT.SESSION c) ((s.adv t).rd AST_CORE_SCRIPT.GEN c) = true →
      Does (.sliceMaxExpired t c) s ((((s.adv t).irq SES_IRQ_STAT.SLICE).cancel ((s.adv t).rd AST_CORE_STAT.SESSION c) ccTimeout).coreStop c)) ∧
    (∀ (t : Nat) (c : Nat) (s : State),
      Powered s →
      c < 16 →
      (s.adv t).coreSt c = csReload →
      ((s.adv t).core c).reloadFrom + reloadT ≤ (s.adv t).now →
      Does (.faultReloadDone t c) s (((s.adv t).coreLoad c (s.adv t).ast.bundle).coreIdle c)) ∧
    (∀ (t : Nat) (c : Nat) (port : Nat) (priv : Bool) (s : State),
      Powered s →
      c < 16 →
      port ≤ 3 →
      Does (.release t port priv c) s ((s.adv t).regWrite port priv (0x0E0100 + c * 0x1000) 4 (2 ^ 8 + (s.adv t).rd AST_CORE_CTL.EN c * 2 ^ 31))) ∧
    (∀ (t : Nat) (c : Nat) (port : Nat) (v : Nat) (priv : Bool) (s : State),
      Powered s →
      c < 16 →
      port ≤ 3 →
      v < 2 ^ 32 →
      Does (.mboxInWrite t port priv c v) s ((s.adv t).regWrite port priv (0x0E0128 + c * 0x1000) 4 v)) ∧
    (∀ (t : Nat) (c : Nat) (s : State),
      Powered s →
      c < 16 →
      Does (.mboxInRead t c) s (((s.adv t).updCore c (fun k => { k with mboxNew := false })).answerWord (4 + c) ((s.adv t).core c).mboxIn)) ∧
    (∀ (t : Nat) (c : Nat) (v : Nat) (s : State),
      Powered s →
      c < 16 →
      v < 65536 →
      Does (.timerWrite t c v) s ((s.adv t).updCore c (fun k => { k with timerAt := if v = 0 then none else some ((s.adv t).now + usT v), timerDone := false }))) ∧
    (∀ (t : Nat) (c : Nat) (e : Nat) (s : State),
      Powered s →
      c < 16 →
      ((s.adv t).core c).timerAt = some e →
      e ≤ (s.adv t).now →
      Does (.timerExpired t c) s ((s.adv t).updCore c (fun k => { k with timerAt := none, timerDone := true }))) ∧
    (∀ (t : Nat) (c : Nat) (a : Nat) (s : State),
      Powered s →
      c < 16 →
      a < 2 ^ 32 →
      Does (.envAddr t c a) s ((s.adv t).envAddr c a)) ∧
    (∀ (t : Nat) (c : Nat) (v : Nat) (s : State),
      Powered s →
      c < 16 →
      v < 2 ^ 32 →
      Does (.regData t c true v) s ((s.adv t).regWrite (4 + c) (bit ((s.adv t).core c).regAddr 23) (((s.adv t).core c).regAddr % 2 ^ 23) 4 v)) ∧
    (∀ (t : Nat) (c : Nat) (v : Nat) (s : State),
      Powered s →
      c < 16 →
      Does (.regData t c false v) s (((s.adv t).regRead (4 + c) (bit ((s.adv t).core c).regAddr 23) (((s.adv t).core c).regAddr % 2 ^ 23)).2.answerWord (4 + c) ((s.adv t).regRead (4 + c) (bit ((s.adv t).core c).regAddr 23) (((s.adv t).core c).regAddr % 2 ^ 23)).1)) ∧
    (∀ (t : Nat) (c : Nat) (n : Nat) (g : Nat) (s : State),
      Powered s →
      c < 16 →
      (s.adv t).bound c = some (n, g) →
      ((s.adv t).memReadBytes arrDram (0x10000000 + 2048 * n + 4 * (((s.adv t).core c).rangeIdx % 512)) 4).1 = false →
      Does (.rangeData t c) s (((((s.adv t).memReadBytes arrDram (0x10000000 + 2048 * n + 4 * (((s.adv t).core c).rangeIdx % 512)) 4).2.updCore c (fun k => { k with rangeIdx := (k.rangeIdx + 1) % 2 ^ 11 })).answerWord (4 + c) (((s.adv t).memReadBytes arrDram (0x10000000 + 2048 * n + 4 * (((s.adv t).core c).rangeIdx % 512)) 4).2.rangeWord n ((s.adv t).core c).rangeIdx)))) ∧
    (∀ (t : Nat) (c : Nat) (i : Nat) (s : State),
      Powered s →
      (s.adv t).coreSteps c = true →
      ((s.adv t).core c).flag pbIE = true →
      (List.range 8).find? (fun j => bit ((s.adv t).core c).lines j) = some i →
      Does (.interrupt t c) s ((s.adv t).coreEnter c (exIrq + i) 0 (if ((s.adv t).core c).waiting then ((s.adv t).core c).pc + 4 else ((s.adv t).core c).pc) 0)) ∧
    (∀ (t : Nat) (c : Nat) (w : Nat) (s : State),
      Powered s →
      Runs (s.adv t) c w →
      wMajor w ∈ [0x09, 0x0A, 0x0B, 0x0C, 0x0D, 0x0E, 0x0F, 0x1E, 0x1F, 0x26, 0x27, 0x2A, 0x2B, 0x2C, 0x2D, 0x2E, 0x2F, 0x30, 0x31, 0x32, 0x33, 0x34, 0x35, 0x36, 0x37] →
      Does (.illegal t c) s (((s.adv t).fetched c).coreExcept c exIllegal 0 0)) ∧
    (∀ (t : Nat) (c : Nat) (w : Nat) (s : State),
      Powered s →
      Runs (s.adv t) c w →
      60 ≤ wMajor w →
      w < 2 ^ 32 →
      Does (.coproc t c) s (((s.adv t).fetched c).coreExcept c exCoproc (wMajor w - 56) 0))

/-- A step of the scrubber, the drain of a merge buffer, the arming of a flip and the leak of the buckets; the start and the end of a page operation, the archive append, the retry of a seal, the supply's two changes and the wait for it, the end of recall, an open release resolved, the margin pass, the two accesses of the register port and the export of records each complete in every state that meets the stated conditions, with the whole next state given. -/
def Obligations.StoreCommandsTakeEffect : Prop :=
    (∀ (t : Nat) (find : Nat) (bitNo : Nat) (bank : Nat) (row : Nat) (hard : Bool) (copyBad : Bool) (s : State),
      Powered s →
      (s.adv t).running 0x0F = true →
      (s.adv t).on MEM_STAT.SCRUBBING = true →
      Does (.scrub t find bitNo bank row hard copyBad) s ((s.adv t).scrubStep find bitNo bank row hard copyBad)) ∧
    (∀ (t : Nat) (arr : Nat) (e : MergeEnt) (s : State),
      Powered s →
      (s.adv t).mem.merge.find? (fun e => e.arr == arr) = some e →
      e.since + clampTo 8 255 ((s.adv t).rd MEM_MERGE_CFG.MERGE_IDLE) * 79872 / 1000 ≤ (s.adv t).now →
      Does (.mergeDrain t arr) s ((s.adv t).mergeDrain e)) ∧
    (∀ (t : Nat) (port : Nat) (w : Nat) (s : State),
      Powered s →
      bit w 0 = true →
      arrPriv (bits w 15 8) = false →
      ((((s.adv t).wr MEM_FLIP_CTL.TARGET (bits w 15 8)).flag MEM_FLIP_CTL.ADDR_EN (bit w 1)).flipEffect (bits w 15 8)).isSome = true →
      bit w 2 = false →
      bit w 3 = false →
      Does (.flipArm t port false w) s ((((s.adv t).wr MEM_FLIP_CTL.TARGET (bits w 15 8)).flag MEM_FLIP_CTL.ADDR_EN (bit w 1)).wr MEM_FLIP_CTL.ARM 1)) ∧
    (∀ (t : Nat) (port : Nat) (w : Nat) (s : State),
      Powered s →
      (s.adv t).viewReason port 0x0F = none →
      ((bits w 15 8 == 0x34 || bits w 15 8 == 0x35) && !((s.adv t).lc == lcBlank || (s.adv t).lc == lcVendor)) = false →
      Does (.flipArm t port true w) s ((s.adv t).flipArm port true w)) ∧
    (∀ (t : Nat) (s : State),
      Powered s →
      (s.adv t).mem.leakAt + msT (orOne ((s.adv t).rd MEM_BUCKET_CFG.LEAK_MS)) ≤ (s.adv t).now →
      Does (.bucketLeak t) s ((List.range 24).foldl (fun (a : State) u => a.drop MEM_BUCKET.FILL u) { (s.adv t) with mem := { (s.adv t).mem with leakAt := (s.adv t).now } })) ∧
    (∀ (t : Nat) (bank : Nat) (mv : Nat) (w : PltWrite) (op : List (Nat × Nat)) (rest : List (List (Nat × Nat))) (s : State),
      Powered s →
      bank < 4 →
      (s.adv t).pltReady = true →
      (s.adv t).on PLT_STAT.VHOLD_LOW = false →
      3000 ≤ mv →
      SMap.find (s.adv t).plt.banks bank = none →
      (s.adv t).pwrState < psS2 →
      (s.adv t).plt.resetPend = false →
      (s.adv t).bankNext bank = some w →
      w.ops = op :: rest →
      Does (.pageOperationStart t bank mv) s ((s.adv t).pageStart bank mv)) ∧
    (∀ (t : Nat) (bank : Nat) (id : Nat) (op : List (Nat × Nat)) (last : Bool) (tag : PltTag) (s : State),
      Powered s →
      SMap.find (s.adv t).plt.banks bank = some (id, op, last, tag) →
      Does (.pageOperationEnd t bank) s ((s.adv t).pageEnd bank)) ∧
    (∀ (t : Nat) (r : ArcReq) (s : State),
      Powered s →
      (s.adv t).pltReady = true →
      (s.adv t).plt.sealing = none →
      (s.adv t).plt.writing = none →
      (s.adv t).arcNext = some r →
      Does (.archiveAppend t) s ((s.adv t).arcAppend)) ∧
    (∀ (t : Nat) (r : ArcRec) (s : State),
      Powered s →
      (s.adv t).plt.sealing = some r →
      (s.adv t).plt.sealTried + msT 1 ≤ (s.adv t).now →
      Does (.sealRetry t) s ((s.adv t).arcSeal r)) ∧
    (∀ (t : Nat) (mv : Nat) (s : State),
      Powered s →
      (s.adv t).on PLT_STAT.VHOLD_LOW = false →
      mv < 3000 →
      Does (.vholdLow t mv) s (((((s.adv t).wr PLT_VHOLD.MV mv).wr PLT_STAT.VHOLD_LOW 1).irq PLT_IRQ_STAT.VHOLD_LOW).pltEvent peVhold 0)) ∧
    (∀ (t : Nat) (mv : Nat) (s : State),
      Powered s →
      (s.adv t).on PLT_STAT.VHOLD_LOW = true →
      3000 ≤ mv →
      Does (.vholdGood t mv) s ((((s.adv t).wr PLT_VHOLD.MV mv).wr PLT_STAT.VHOLD_LOW 0).add PLT_CNT_VHOLD_WAIT.COUNT ((s.adv t).plt.queue.filter (fun w => !w.ops.isEmpty && !w.active)).length)) ∧
    (∀ (t : Nat) (a : Nat) (s : State),
      Powered s →
      (s.adv t).plt.portSince = some a →
      (s.adv t).on PLT_STAT.VHOLD_LOW = true →
      a + msT 100 ≤ (s.adv t).now →
      (s.adv t).plt.queue.any (fun w => w.tag == .port && !w.active) = true →
      Does (.vholdWaitTimeout t) s ((s.adv t).vholdLate (fun w => w.tag == .port && !w.active))) ∧
    (∀ (t : Nat) (s : State),
      Powered s →
      (s.adv t).pltReady = false →
      Does (.recallDone t) s ((s.adv t).recallDone)) ∧
    (∀ (t : Nat) (e : Nat) (r : OpenRel) (s : State),
      Powered s →
      SMap.find (s.adv t).shu.openRel e = some r →
      (s.adv t).shu.toResolve.contains e = true →
      (s.adv t).plt.bootDone = true →
      ({ (s.adv t) with shu := { (s.adv t).shu with toResolve := (s.adv t).shu.toResolve.erase e } } : State).decisionFound r = none →
      Does (.openReleaseResolve t e) s (({ (s.adv t) with shu := { (s.adv t).shu with toResolve := (s.adv t).shu.toResolve.erase e } } : State).openRelClear r.session r.gen)) ∧
    (∀ (t : Nat) (s : State),
      Powered s →
      Does (.marginNow t) s ((({ (s.adv t) with plt := { (s.adv t).plt with marginAt := 0, marginSince := (s.adv t).now } } : State).wr PLT_STAT.MARGIN_RUN 1).wr PLT_MARGIN_STAT.PAGE 0)) ∧
    (∀ (t : Nat) (find : Nat) (s : State),
      Powered s →
      (s.adv t).pltReady = true →
      (s.adv t).pwrState < psS2 →
      (s.adv t).on PLT_STAT.MARGIN_RUN = true →
      Does (.marginRead t find) s ((s.adv t).marginRead find)) ∧
    (∀ (t : Nat) (port : Nat) (find : Nat) (s : State),
      Powered s →
      (s.adv t).on PLT_ACC_CTL.BUSY = false →
      (s.adv t).pltReady = true →
      Does (.pltAccRead t port find) s (((s.adv t).accRead find).answerCode port ccOk)) ∧
    (∀ (t : Nat) (port : Nat) (s : State),
      Powered s →
      (s.adv t).on PLT_ACC_CTL.BUSY = false →
      Does (.pltAccWrite t port false) s (((s.adv t).wr PLT_ACC_CTL.WRITE 1).portWrite false ((s.adv t).wr PLT_ACC_CTL.WRITE 1).accAddr (((s.adv t).wr PLT_ACC_CTL.WRITE 1).rd64 PLT_ACC_DATA_LO.DATA PLT_ACC_DATA_HI.DATA))) ∧
    (∀ (t : Nat) (port : Nat) (s : State),
      Powered s →
      (s.adv t).on PLT_ACC_CTL.BUSY = false →
      (s.adv t).viewReason port 0x10 = none →
      Does (.pltAccWrite t port true) s (((s.adv t).wr PLT_ACC_CTL.WRITE 1).portWrite true ((s.adv t).wr PLT_ACC_CTL.WRITE 1).accAddr (((s.adv t).wr PLT_ACC_CTL.WRITE 1).rd64 PLT_ACC_DATA_LO.DATA PLT_ACC_DATA_HI.DATA))) ∧
    (∀ (t : Nat) (slot : Nat) (s : State),
      Powered s →
      ((s.adv t).wr PLT_ARC_EXP_CTL.SLOT slot).pltReady = true →
      ((s.adv t).wr PLT_ARC_EXP_CTL.SLOT slot).slotFlag slot = slotDevice →
      ((s.adv t).wr PLT_ARC_EXP_CTL.SLOT slot).inRing slot = false →
      Does (.archiveExport t slot) s ((s.adv t).arcExport slot))

/-- The fuse read, the discovery of the flash, a slot copied at start-up and for a switch, the BOOT record, the retry, the switch and its finish, a recopied record, the four operations of the flash port and their end each complete in every state that meets the stated conditions, with the whole next state given. -/
def Obligations.BootCommandsTakeEffect : Prop :=
    (∀ (t : Nat) (words : List (Nat × Nat × Nat)) (remaps : List (Nat × Nat)) (spares : List (Nat × Nat)) (s : State),
      Powered s →
      (s.adv t).fuse.done = false →
      Does (.fuseReadDone t words remaps spares) s ((s.adv t).fusesRead words remaps spares)) ∧
    (∀ (t : Nat) (id : Nat) (mib : Nat) (ok : Bool) (fast : Bool) (headA : List Byte) (headB : List Byte) (s : State),
      Powered s →
      (s.adv t).boot.found = false →
      (s.adv t).bootPhase ≤ bpFlash →
      Does (.flashDiscovery t id mib ok fast headA headB) s ((s.adv t).flashSeen id mib ok fast headA headB)) ∧
    (∀ (t : Nat) (slot : Nat) (answered : Bool) (poison : Bool) (image : List Byte) (s : State),
      Powered s →
      (s.adv t).bootPhase = bpCopy →
      (s.adv t).boot.tries.head? = some slot →
      ((s.adv t).slotTried slot answered image poison).bootPhase ≠ bpCopy →
      Does (.slotCopyDone t slot answered image poison) s (((s.adv t).slotTried slot answered image poison).flashNext)) ∧
    (∀ (t : Nat) (slot : Nat) (answered : Bool) (poison : Bool) (image : List Byte) (s : State),
      Powered s →
      (s.adv t).bootPhase = bpSwitch →
      (s.adv t).boot.switching = some slot →
      Does (.slotCopyDone t slot answered image poison) s (((s.adv t).switchTried slot answered image poison).flashNext)) ∧
    (∀ (t : Nat) (s : State),
      Powered s →
      (s.adv t).plt.bootDone = false →
      (s.adv t).pltReady = true →
      (s.adv t).on PLT_STAT.VHOLD_LOW = false →
      (s.adv t).on BOOT_STAT.IMAGE_OK = true →
      Does (.bootRecord t) s (((s.adv t).bootRecord (s.adv t).boot.cause ((s.adv t).rd BOOT_STAT.SLOT_RUN)).bootRun)) ∧
    (∀ (t : Nat) (port : Nat) (s : State),
      Powered s →
      (s.adv t).bootPhase = bpFail →
      Does (.retryBoot t port false) s (({ (s.adv t) with boot := { (s.adv t).boot with tries := (s.adv t).slotOrder, loadFrom := (s.adv t).now } } : State).wr BOOT_STAT.PHASE bpCopy)) ∧
    (∀ (t : Nat) (port : Nat) (slot : Nat) (s : State),
      Powered s →
      slot < 2 →
      ((s.adv t).wr BOOT_CTL.SWITCH_SLOT slot).bootPhase = bpRun →
      (s.adv t).boot.unfinished = false →
      Does (.switch t port false slot) s (({ (s.adv t).wr BOOT_CTL.SWITCH_SLOT slot with boot := { (s.adv t).boot with switching := some slot, loadFrom := (s.adv t).now } } : State).wr BOOT_STAT.PHASE bpSwitch)) ∧
    (∀ (t : Nat) (s : State),
      Powered s →
      (s.adv t).boot.unfinished = true →
      (s.adv t).ses.ctx.any (fun p => ((s.adv t).aux p.1).oldBundle) = false →
      Does (.switchFinish t) s ((({ (s.adv t) with boot := { (s.adv t).boot with unfinished := false, copyOld := [] }, ast := { (s.adv t).ast with old := none } } : State).bump BOOT_CNT_SWITCH.COUNT).irq BOOT_IRQ_STAT.SWITCH_DONE)) ∧
    (∀ (t : Nat) (record : Nat) (answered : Bool) (poison : Bool) (image : List Byte) (s : State),
      Powered s →
      (s.adv t).on BOOT_STAT.IMAGE_OK = true →
      record < imgNrec (s.adv t).boot.copy →
      Does (.recopy t record answered image poison) s ((s.adv t).recopied record answered image poison)) ∧
    (∀ (t : Nat) (port : Nat) (addr : Nat) (kib : Nat) (slot : Nat) (op : Nat) (c : Instr) (s : State),
      Powered s →
      (c, op) ∈ [(Instr.read t port false addr kib slot, 0), (Instr.program t port false addr kib slot, 1)] →
      (s.adv t).on BOOT_FL_CTL.BUSY = false →
      ((s.adv t).flashSet op addr kib slot).flashBad = false →
      Does (c) s (((s.adv t).flashSet op addr kib slot).flashGo)) ∧
    (∀ (t : Nat) (port : Nat) (addr : Nat) (op : Nat) (c : Instr) (s : State),
      Powered s →
      (c, op) ∈ [(Instr.erase4 t port false addr, 2), (Instr.erase64 t port false addr, 3)] →
      (s.adv t).on BOOT_FL_CTL.BUSY = false →
      ((s.adv t).flashSet op addr 0 0).flashBad = false →
      Does (c) s (((s.adv t).flashSet op addr 0 0).flashGo)) ∧
    (∀ (t : Nat) (answered : Bool) (data : List Byte) (o : FlashOp) (s : State),
      Powered s →
      (s.adv t).boot.op = some o →
      o.on = true →
      Does (.flashOpDone t answered data) s ((s.adv t).flashDone o answered data))

/-- A domain off and on, the end of its sequence, DOZE and its return, the entries to S2 and S3, the poll lead timer, a wake and its end, a reversal, OFF, the voltage commands with their acknowledgement, confirmation, failure and fall-back, and a wake pin each complete in every state that meets the stated conditions, with the whole next state given. -/
def Obligations.PowerCommandsTakeEffect : Prop :=
    (∀ (t : Nat) (d : Nat) (s : State),
      Powered s →
      domOffable d = true →
      (s.adv t).on PWR_DOM_CTL.OFF d = false →
      Does (.domainOff t d) s ((s.adv t).domainOff d)) ∧
    (∀ (t : Nat) (d : Nat) (s : State),
      Powered s →
      domOffable d = true →
      (s.adv t).on PWR_DOM_CTL.OFF d = true →
      Does (.domainOn t d) s ((s.adv t).domainOn d)) ∧
    (∀ (t : Nat) (d : Nat) (q : DomSeq) (s : State),
      Powered s →
      SMap.find (s.adv t).pwr.doms d = some q →
      q.rev = false →
      q.start + usT (if q.up then 24 else 4) ≤ (s.adv t).now →
      Does (.domainSequenceDone t d) s ((if q.up then ((({ (s.adv t) with pwr := { (s.adv t).pwr with doms := SMap.del (s.adv t).pwr.doms d } } : State).wr PWR_DOM_STAT.STEP 0 d).wr PWR_DOM_STAT.DOWN 0 d).domCome d else ((({ (s.adv t) with pwr := { (s.adv t).pwr with doms := SMap.del (s.adv t).pwr.doms d } } : State).wr PWR_DOM_STAT.STEP 0 d).wr PWR_DOM_STAT.DOWN 0 d).domGone d).pwrS01)) ∧
    (∀ (t : Nat) (d : Nat) (s : State),
      Powered s →
      0 < d →
      d < 9 →
      (s.adv t).domMoving d = false →
      (s.adv t).pwrState ≤ psS1 →
      (s.adv t).domSt d = dsRun →
      (s.adv t).rd PWR_DOM_IDLE.DOZE_US d ≠ 0 →
      Does (.doze t d true) s (((s.adv t).setDom d dsDoze).pwrS01)) ∧
    (∀ (t : Nat) (d : Nat) (s : State),
      Powered s →
      0 < d →
      d < 9 →
      (s.adv t).domMoving d = false →
      (s.adv t).pwrState ≤ psS1 →
      (s.adv t).domSt d = dsDoze →
      Does (.doze t d false) s (((s.adv t).setDom d dsRun).pwrS01)) ∧
    (∀ (t : Nat) (s : State),
      Powered s →
      (s.adv t).pwr.seq = none →
      (s.adv t).pwrBlock = 0 →
      ((s.adv t).wr PWR_STAT.BLOCK 0).pwrState ≤ psS1 →
      (s.adv t).pwr.doms = [] →
      (s.adv t).pwr.halting = [] →
      Does (.s2Entry t) s (({ ((s.adv t).wr PWR_STAT.BLOCK 0).beforeSleep with pwr := { ((s.adv t).wr PWR_STAT.BLOCK 0).beforeSleep.pwr with seq := some { kind := 1, start := ((s.adv t).wr PWR_STAT.BLOCK 0).beforeSleep.now } } } : State).wr PWR_STAT.MOVING 1)) ∧
    (∀ (t : Nat) (q : PwrSeq) (s : State),
      Powered s →
      (s.adv t).pwr.seq = some q →
      q.kind = 1 →
      q.rev = false →
      (s.adv t).plt.queue = [] →
      (s.adv t).plt.banks = [] →
      q.start + usT 4 ≤ (s.adv t).now →
      Does (.s2Entry t) s ((s.adv t).enterS2)) ∧
    (∀ (t : Nat) (s : State),
      Powered s →
      (s.adv t).pwr.seq = none →
      (s.adv t).pwrState = psS2 →
      (s.adv t).on PWR_IDLE_CFG.S3_EN = true →
      setBit (s.adv t).pwrBlock 4 false = 0 →
      (s.adv t).pwr.s2At + secT (orOne ((s.adv t).rd PWR_IDLE_CFG.S3_IDLE)) ≤ (s.adv t).now →
      Does (.s3Entry t) s (({ (s.adv t) with pwr := { (s.adv t).pwr with seq := some { kind := 2, start := (s.adv t).now } } } : State).wr PWR_STAT.MOVING 1)) ∧
    (∀ (t : Nat) (q : PwrSeq) (s : State),
      Powered s →
      (s.adv t).pwr.seq = some q →
      q.kind = 2 →
      q.rev = false →
      q.start + usT 20 ≤ (s.adv t).now →
      Does (.s3Entry t) s ((s.adv t).enterS3)) ∧
    (∀ (t : Nat) (a : Nat) (s : State),
      Powered s →
      (s.adv t).pwr.leadAt = some a →
      a ≤ (s.adv t).now →
      (s.adv t).pwrState = psS2 →
      Does (.pollLeadTimer t) s (({ (s.adv t) with pwr := { (s.adv t).pwr with leadAt := none } } : State).wakeBy 4)) ∧
    (∀ (t : Nat) (src : Nat) (pin : Nat) (s : State),
      Powered s →
      1 ≤ src →
      src ≤ 6 →
      ((s.adv t).pwrState = psS2 ∨ (s.adv t).pwrState = psS3) →
      (s.adv t).pwr.seq = none →
      Does (.wake t src pin) s ((s.adv t).wakeBy src (pin % 8))) ∧
    (∀ (t : Nat) (aon : Nat) (q : PwrSeq) (s : State),
      Powered s →
      (s.adv t).pwr.seq = some q →
      q.kind = 3 →
      q.start + usT 50 ≤ (s.adv t).now →
      Does (.wakeDone t aon) s ((s.adv t).wakeDone false aon)) ∧
    (∀ (t : Nat) (aon : Nat) (q : PwrSeq) (s : State),
      Powered s →
      (s.adv t).pwr.seq = some q →
      q.kind = 4 →
      q.start + msT 2 ≤ (s.adv t).now →
      Does (.wakeDone t aon) s ((s.adv t).wakeDone true aon)) ∧
    (∀ (t : Nat) (q : PwrSeq) (s : State),
      Powered s →
      (s.adv t).pwr.seq = some q →
      q.rev = true →
      Does (.reversal t 9) s ((s.adv t).devReverse)) ∧
    (∀ (t : Nat) (d : Nat) (q : DomSeq) (s : State),
      Powered s →
      d ≠ 9 →
      SMap.find (s.adv t).pwr.doms d = some q →
      q.rev = true →
      Does (.reversal t d) s (((s.adv t).domBegin d (!q.up) (revAgo q.up ((s.adv t).usSince q.start))).revCount d)) ∧
    (∀ (t : Nat) (s : State),
      Powered s →
      (s.adv t).pwr.goingOff = false →
      Does (.offCmd t) s ((s.adv t).pwrOff)) ∧
    (∀ (t : Nat) (mv : Nat) (s : State),
      Powered s →
      ((s.adv t).wr PWR_AVS_TGT.TGT_MV mv).on PWR_PERF.MODE = true →
      Does (.voltageCommand t mv) s (((s.adv t).wr PWR_AVS_TGT.TGT_MV mv).avsCommand (mv % 1024))) ∧
    (∀ (t : Nat) (mv : Nat) (s : State),
      Powered s →
      ((s.adv t).wr PWR_AVS_TGT.TGT_MV mv).on PWR_PERF.MODE = false →
      Does (.voltageCommand t mv) s ((s.adv t).wr PWR_AVS_TGT.TGT_MV mv)) ∧
    (∀ (t : Nat) (band : Nat) (s : State),
      Powered s →
      Does (.temperatureBand t band) s (((s.adv t).wr PWR_PERF.BAND_NOW band).avsRefresh)) ∧
    (∀ (t : Nat) (status : Nat) (w : AvsWrite) (s : State),
      Powered s →
      (s.adv t).pwr.avs = some w →
      w.acked = none →
      Does (.avsAck t status) s ((s.adv t).avsAcked w status)) ∧
    (∀ (t : Nat) (vout : Nat) (vmon : Nat) (w : AvsWrite) (s : State),
      Powered s →
      (s.adv t).pwr.avs = some w →
      w.acked.isSome = true →
      w.readAt + usT 20 ≤ (s.adv t).now →
      Does (.voutRead t vout vmon) s ((s.adv t).avsRead w vout vmon)) ∧
    (∀ (t : Nat) (kind : Nat) (status : Nat) (w : AvsWrite) (s : State),
      Powered s →
      (s.adv t).pwr.avs = some w →
      w.acked = none →
      (kind = 1 ∨ kind = 2) →
      Does (.avsFailure t kind status) s ((s.adv t).avsFailed w kind status)) ∧
    (∀ (t : Nat) (vout : Nat) (vmon : Nat) (good : Bool) (s : State),
      Powered s →
      (s.adv t).on PWR_STAT.FALLBACK = true →
      (s.adv t).pwr.fallRead + msT 100 ≤ (s.adv t).now →
      Does (.fallbackRead t vout vmon good) s ((s.adv t).fallbackTaken vout vmon good)) ∧
    (∀ (t : Nat) (vmon : Nat) (s : State),
      Powered s →
      (s.adv t).on PWR_STAT.FALLBACK = true →
      (s.adv t).rd PWR_FREQ.VMIN_FULL + 15 ≤ vmon →
      ((s.adv t).vmonReg vmon).on PWR_FREQ.FORCE_HALF = false →
      Does (.vmonStable t vmon) s (((s.adv t).vmonReg vmon).setHalf false)) ∧
    (∀ (t : Nat) (p : Nat) (s : State),
      Powered s →
      p < 8 →
      (s.adv t).on PWR_WAKE_CFG.LEVEL p = false →
      ((s.adv t).wr PWR_WAKE_CFG.LEVEL 1 p).on PWR_WAKE_CFG.EN p = true →
      Does (.wakePinFire t p true) s (State.wakeBy (((((s.adv t).wr PWR_WAKE_CFG.LEVEL 1 p).wr PWR_WAKE_CFG.FIRED 1 p).bump PWR_WAKE_CFG.COUNT p).irq PWR_IRQ_STAT.WAKE_PIN) 1 p)) ∧
    (∀ (t : Nat) (p : Nat) (s : State),
      Powered s →
      p < 8 →
      Does (.wakePinFire t p false) s ((s.adv t).wr PWR_WAKE_CFG.LEVEL 0 p))

/-- The three flag commands, a write to the window, the events and the snapshots handed over, a vector sent, held and unmasked, a host reset, and the link's loss, its 100 ms and its return each complete in every state that meets the stated conditions, with the whole next state given. -/
def Obligations.HostInterfaceCommandsTakeEffect : Prop :=
    (∀ (t : Nat) (slot : Nat) (n : Nat) (s : State),
      Powered s →
      0 < n →
      Does (.claim t slot n) s (flagWalk opClaim (min n 16384) (slot % 16384) (s.adv t))) ∧
    (∀ (t : Nat) (slot : Nat) (n : Nat) (s : State),
      Powered s →
      0 < n →
      Does (.give t slot n) s (flagWalk opGive (min n 16384) (slot % 16384) (s.adv t))) ∧
    (∀ (t : Nat) (slot : Nat) (n : Nat) (s : State),
      Powered s →
      0 < n →
      Does (.return t slot n) s (State.holdSlot 9 (flagWalk opReturn (min n 16384) (slot % 16384) (s.adv t)))) ∧
    (∀ (t : Nat) (off : Nat) (data : List (BitVec 8)) (poison : Bool) (s : State),
      Powered s →
      off < 0x4000000 →
      Does (.bar2Write t off data poison) s (windowWrite poison (data.length / 4096 + 2) off data { (s.adv t) with hif := { (s.adv t).hif with barOn := true } })) ∧
    (∀ (t : Nat) (s : State),
      Powered s →
      (s.adv t).hif.evFirst + usT (10 * orOne ((s.adv t).rd HIF_EVT_CFG.FLUSH_US)) ≤ (s.adv t).now →
      (s.adv t).hif.evBuf ≠ [] →
      Does (.flushTimeout t) s (State.holdSlot 9 (s.adv t).handEvents)) ∧
    (∀ (t : Nat) (s : State),
      Powered s →
      (s.adv t).hif.evBuf ≠ [] →
      Does (.evtFlush t) s (State.holdSlot 9 (s.adv t).handEvents)) ∧
    (∀ (t : Nat) (s : State),
      Powered s →
      (s.adv t).rd HIF_STATS_CFG.PERIOD_S ≠ 0 →
      (s.adv t).hif.snapLast + secT ((s.adv t).rd HIF_STATS_CFG.PERIOD_S) ≤ (s.adv t).now →
      Does (.statsSnapshot t) s ((s.adv t).snapshot)) ∧
    (∀ (t : Nat) (s : State),
      Powered s →
      Does (.statsGo t) s ((s.adv t).snapshot)) ∧
    (∀ (t : Nat) (v : Nat) (granted : Nat) (s : State),
      Powered s →
      v < 16 →
      ((s.adv t).vecHost v granted false false).vecDue v = true →
      ((s.adv t).vecHost v granted false false).hif.held.contains v = false →
      Does (.vectorSend t v granted false false) s (((s.adv t).vecHost v granted false false).vecSend v)) ∧
    (∀ (t : Nat) (v : Nat) (granted : Nat) (s : State),
      Powered s →
      v < 16 →
      ((s.adv t).vecHost v granted true false).vecDue v = true →
      ((s.adv t).vecHost v granted true false).hif.held.contains v = false →
      Does (.vectorSend t v granted true false) s (({ (s.adv t).vecHost v granted true false with hif := { ((s.adv t).vecHost v granted true false).hif with held := v :: ((s.adv t).vecHost v granted true false).hif.held } } : State).bump HIF_VEC_CNT.PBA v)) ∧
    (∀ (t : Nat) (v : Nat) (s : State),
      Powered s →
      v < 16 →
      (s.adv t).hif.held.contains v = true →
      (({ (s.adv t) with hif := { (s.adv t).hif with masked := (s.adv t).hif.masked.erase v, held := (s.adv t).hif.held.erase v } } : State).vecPend v).isEmpty = false →
      (s.adv t).rd HIF_STAT.DSTATE = 0 →
      Does (.msiUnmask t v) s (({ (s.adv t) with hif := { (s.adv t).hif with masked := (s.adv t).hif.masked.erase v, held := (s.adv t).hif.held.erase v } } : State).vecSend v)) ∧
    (∀ (t : Nat) (hot : Bool) (s : State),
      Powered s →
      Does (.hostReset t hot) s ((((s.adv t).hostSide.bump HIF_CNT_FLR.COUNT).hifEvent (if hot then 4 else 3) 0).archiveEvent 0x13 0 ((if hot then 4 else 3) * 2 ^ 28))) ∧
    (∀ (t : Nat) (d : Nat) (s : State),
      Powered s →
      (s.adv t).hif.downSince = some d →
      (s.adv t).hif.downDone = false →
      d + msT 100 ≤ (s.adv t).now →
      Does (.linkDownTimeout t) s ((({ (s.adv t) with hif := { (s.adv t).hif with downDone := true } } : State).hostSide.hifEvent 1 0).archiveEvent 0x13 0 (2 ^ 28))) ∧
    (∀ (t : Nat) (s : State),
      Powered s →
      (s.adv t).on HIF_STAT.LINK_UP = true →
      Does (.pcieLinkDown t) s ((s.adv t).linkDown)) ∧
    (∀ (t : Nat) (rate : Nat) (width : Nat) (flit : Bool) (s : State),
      Powered s →
      (s.adv t).on HIF_STAT.LINK_UP = false →
      (s.adv t).rep 0x13 ≠ stOff →
      Does (.pcieLinkUp t rate width flit) s ((s.adv t).linkCome rate width flit))

/-- The training of a port, its hello, pairing and identity, a map, the loss of a link, the retry after a refusal and a retrain, a period of time frames and a time exchange, a request, a reply and an envelope frame, and the remote register access with its frame and its limit each complete in every state that meets the stated conditions, with the whole next state given. -/
def Obligations.BaselineCommandsTakeEffect : Prop :=
    (∀ (t : Nat) (p : Nat) (kept : Nat) (skew : Nat) (reversed : Bool) (snr : List Nat) (s : State),
      Powered s →
      p < 2 →
      (s.adv t).portState p = psTraining →
      (s.adv t).on BLN_PORT_CTL.EN p = true →
      ((s.adv t).rep 0x14 = stInit ∨ (s.adv t).rep 0x14 = stRun) →
      Does (.portTrainingDone t p kept skew reversed snr) s ((s.adv t).portTrained p kept skew reversed snr)) ∧
    (∀ (t : Nat) (p : Nat) (devid : Nat) (dev : Nat) (nonce : Nat) (down : Bool) (master : Bool) (s : State),
      Powered s →
      p < 2 →
      (s.adv t).portState p = psTraining →
      Does (.hello t p devid dev nonce down master) s ((s.adv t).helloTaken p devid dev nonce down master)) ∧
    (∀ (t : Nat) (p : Nat) (held : Bool) (check : List (BitVec 8)) (s : State),
      Powered s →
      p < 2 →
      (s.adv t).portState p = psPairing →
      ((s.adv t).blnPort p).paired = false →
      Does (.pairing t p held check) s ((s.adv t).pairingTaken p held check)) ∧
    (∀ (t : Nat) (p : Nat) (devid : Nat) (dev : Nat) (hops : Nat) (salt : Nat) (npart : Nat) (part : Nat) (master : Bool) (s : State),
      Powered s →
      p < 2 →
      dev < 8 →
      (s.adv t).portState p = psUp →
      (decide ((s.adv t).portState p = psPairing) && ((s.adv t).blnPort p).paired && decide (dev = (s.adv t).rd BLN_PORT_STAT.PEER_DEV p)) = false →
      Does (.ident t p devid dev hops salt npart part master) s (((s.adv t).blnHeard p dev false).identTaken p devid dev hops salt npart part master)) ∧
    (∀ (t : Nat) (p : Nat) (gen : Nat) (anchorSeq : Nat) (members : List MapMember) (s : State),
      Powered s →
      p < 2 →
      (s.adv t).portAuth p = true →
      (s.adv t).on BLN_STAT.MASTER_STRAP = false →
      Does (.map t p gen anchorSeq members) s ((s.adv t).mapTaken p gen anchorSeq members)) ∧
    (∀ (t : Nat) (p : Nat) (far : List Nat) (s : State),
      Powered s →
      p < 2 →
      (s.adv t).portState p = psUp →
      Does (.blnLinkDown t p 0 far) s ((((s.adv t).bump BLN_PORT_CNT_LOS.COUNT p).portDown p).portTrain p)) ∧
    (∀ (t : Nat) (p : Nat) (far : List Nat) (s : State),
      Powered s →
      p < 2 →
      (s.adv t).portState p = psUp →
      Does (.blnLinkDown t p 1 far) s ((((s.adv t).bump BLN_PORT_CNT_FEC_DOWN.COUNT p).portDown p).portTrain p)) ∧
    (∀ (t : Nat) (p : Nat) (far : List Nat) (s : State),
      Powered s →
      p < 2 →
      (s.adv t).portState p = psUp →
      ((s.adv t).blnPort p).lastFrame + 3 * usT (clampTo 10 1000 ((s.adv t).rd BLN_TIME_CFG.SYNC_PERIOD)) ≤ (s.adv t).now →
      Does (.blnLinkDown t p 2 far) s ((((s.adv t).bump BLN_PORT_CNT_IDLE_DOWN.COUNT p).portDown p).portTrain p)) ∧
    (∀ (t : Nat) (p : Nat) (s : State),
      Powered s →
      p < 2 →
      (s.adv t).portState p = psRefused →
      ((s.adv t).blnPort p).since + msT (orOne ((s.adv t).rd BLN_LINK_CFG.RETRY_MS)) ≤ (s.adv t).now →
      Does (.refusalRetry t p) s ((s.adv t).portTrain p)) ∧
    (∀ (t : Nat) (p : Nat) (s : State),
      Powered s →
      p < 2 →
      Does (.retrain t p) s (((s.adv t).portDown p).portTrain p)) ∧
    (∀ (t : Nat) (p : Nat) (ce : Nat) (ue : Nat) (s : State),
      Powered s →
      p < 2 →
      (s.adv t).portAuth p = true →
      Does (.syncPeriod t p ce ue) s ((s.adv t).syncTaken p ce ue)) ∧
    (∀ (t : Nat) (p : Nat) (t1 : Nat) (t2 : Nat) (t3 : Nat) (t4 : Nat) (corrFwd : Nat) (corrBack : Nat) (era : Nat) (count : Nat) (leap : Nat) (offset : Int) (stale : Bool) (s : State),
      Powered s →
      p < 2 →
      (s.adv t).portAuth p = true →
      Does (.timeExchange t p t1 t2 t3 t4 corrFwd corrBack era count offset leap stale) s ((s.adv t).timeTaken p t1 t2 t3 t4 corrFwd corrBack era count offset leap stale)) ∧
    (∀ (t : Nat) (p : Nat) (src : Nat) (dst : Nat) (srcUnit : Nat) (dstUnit : Nat) (srcEpoch : Nat) (dstEpoch : Nat) (tag : Nat) (poison : Bool) (payload : List (BitVec 8)) (s : State),
      Powered s →
      p < 2 →
      (s.adv t).portAuth p = true →
      Does (.req t p src dst srcUnit dstUnit srcEpoch dstEpoch tag poison payload) s ((s.adv t).reqTaken p src dst srcUnit dstUnit srcEpoch dstEpoch tag poison payload)) ∧
    (∀ (t : Nat) (p : Nat) (src : Nat) (dst : Nat) (srcUnit : Nat) (dstUnit : Nat) (reqEpoch : Nat) (tgtEpoch : Nat) (tag : Nat) (poison : Bool) (payload : List (BitVec 8)) (s : State),
      Powered s →
      p < 2 →
      (s.adv t).portAuth p = true →
      Does (.rply t p src dst srcUnit dstUnit reqEpoch tgtEpoch tag poison payload) s ((s.adv t).rplyTaken p src dst srcUnit dstUnit reqEpoch tgtEpoch tag poison payload)) ∧
    (∀ (t : Nat) (p : Nat) (src : Nat) (dst : Nat) (payload : List (BitVec 8)) (s : State),
      Powered s →
      p < 2 →
      (s.adv t).portState p = psUp →
      Does (.envFrame t p src dst payload) s ((s.adv t).envTaken p src dst payload)) ∧
    (∀ (t : Nat) (s : State),
      Powered s →
      (s.adv t).on BLN_RACC_CTL.BUSY = false →
      (s.adv t).rd BLN_RACC_CTL.DEV ≠ (s.adv t).device →
      ((s.adv t).bump BLN_CNT_RACC.COUNT).blnReach ((s.adv t).rd BLN_RACC_CTL.DEV) = true →
      Does (.raccGo t) s ((s.adv t).raccGo)) ∧
    (∀ (t : Nat) (p : Nat) (src : Nat) (dst : Nat) (srcEpoch : Nat) (dstEpoch : Nat) (tag : Nat) (off : Nat) (data : Nat) (write : Bool) (s : State),
      Powered s →
      p < 2 →
      (s.adv t).portAuth p = true →
      dst = ((s.adv t).blnHeard p src false).device →
      (((s.adv t).blnHeard p src false).noteReq p src 0x14 srcEpoch tag).rd BLN_STAT.STATE ≠ 1 →
      dstEpoch = (((s.adv t).blnHeard p src false).noteReq p src 0x14 srcEpoch tag).rd SYS_UNIT_STATE.EPOCH 0x14 →
      Does (.racc t p src dst srcEpoch dstEpoch tag write off data) s ((((s.adv t).blnHeard p src false).noteReq p src 0x14 srcEpoch tag).raccServe src tag write (off % 2 ^ 24) data)) ∧
    (∀ (t : Nat) (since : Nat) (tag : Nat) (s : State),
      Powered s →
      (s.adv t).bln.racc = some (tag, since) →
      since + usT 10 ≤ (s.adv t).now →
      Does (.raccTimeout t) s (((({ (s.adv t) with bln := { (s.adv t).bln with racc := none, flight := (s.adv t).bln.flight.filter (fun f => f.tag != tag) } } : State).wr BLN_RACC_CTL.CODE ccTimeout).wr BLN_RACC_CTL.BUSY 0).irq BLN_IRQ_STAT.RACC_DONE))

/-- The transfers and common command codes of the management bus, the envelope port, the reconciler and a temperature; each line of the Kolryn monitor that the monitor's state admits, the line limit and the end of its grant; and a rail fault, the reset pin, the capacitor estimate and a crystal each complete in every state that meets the stated conditions, with the whole next state given. -/
def Obligations.ManagementAndMonitorCommandsTakeEffect : Prop :=
    (∀ (t : Nat) (bytes : List (BitVec 8)) (pecOn : Bool) (pecBad : Bool) (s : State),
      Powered s →
      (s.adv t).on MGT_STAT.SMBUS = false →
      (s.adv t).on MGT_STAT.DA = true →
      bytes.length = 7 →
      Does (.writeTransfer t bytes false pecOn pecBad) s (((s.adv t).bump MGT_CNT_WR.COUNT).regWrite 1 (bit (leAt bytes 0 3) 23) (leAt bytes 0 3 % 2 ^ 23) 4 (leAt bytes 3 4))) ∧
    (∀ (t : Nat) (bytes : List (BitVec 8)) (s : State),
      Powered s →
      bytes.length = 7 →
      Does (.writeTransfer t bytes true true false) s (((s.adv t).legacy.bump MGT_CNT_WR.COUNT).regWrite 1 (bit (leAt bytes 0 3) 23) (leAt bytes 0 3 % 2 ^ 23) 4 (leAt bytes 3 4))) ∧
    (∀ (t : Nat) (off : Nat) (n : Nat) (s : State),
      Powered s →
      n ≤ 16 →
      Does (.readTransfer t off n true) s ((((s.adv t).legacy.readRun 1 off n).2.add MGT_CNT_RD.COUNT n).send ((s.adv t).legacy.readRun 1 off n).1)) ∧
    (∀ (t : Nat) (off : Nat) (n : Nat) (s : State),
      Powered s →
      (s.adv t).on MGT_STAT.SMBUS = false →
      (s.adv t).on MGT_STAT.DA = true →
      n ≤ 16 →
      (s.adv t).nacks off n = false →
      Does (.readTransfer t off n false) s ((((s.adv t).readRun 1 off n).2.add MGT_CNT_RD.COUNT n).send ((s.adv t).readRun 1 off n).1)) ∧
    (∀ (t : Nat) (ev : Nat) (s : State),
      Powered s →
      (s.adv t).on MGT_STAT.SMBUS = false →
      Does (.enec t ev) s (State.ibiSend { (s.adv t) with mgt := { (s.adv t).mgt with ibi := (s.adv t).mgt.ibi || bit ev 0, hj := (s.adv t).mgt.hj || bit ev 3 } })) ∧
    (∀ (t : Nat) (ev : Nat) (s : State),
      Powered s →
      (s.adv t).on MGT_STAT.SMBUS = false →
      Does (.disec t ev) s ({ (s.adv t) with mgt := { (s.adv t).mgt with ibi := (s.adv t).mgt.ibi && !bit ev 0, hj := (s.adv t).mgt.hj && !bit ev 3 } })) ∧
    (∀ (t : Nat) (s : State),
      Powered s →
      (s.adv t).on MGT_STAT.SMBUS = false →
      Does (.rstdaa t) s ((s.adv t).wr MGT_STAT.DA 0)) ∧
    (∀ (t : Nat) (da : Nat) (s : State),
      Powered s →
      (s.adv t).on MGT_STAT.SMBUS = false →
      (s.adv t).on MGT_STAT.DA = false →
      Does (.entdaa t da) s (State.ibiSend { (s.adv t).wr MGT_STAT.DA da with mgt := { (s.adv t).mgt with hjReq := false } })) ∧
    (∀ (t : Nat) (da : Nat) (s : State),
      Powered s →
      (s.adv t).on MGT_STAT.SMBUS = false →
      (s.adv t).on MGT_STAT.DA = false →
      Does (.setdasa t (s.adv t).staticAddr da) s (State.ibiSend { (s.adv t).wr MGT_STAT.DA da with mgt := { (s.adv t).mgt with hjReq := false } })) ∧
    (∀ (t : Nat) (s : State),
      Powered s →
      (s.adv t).on MGT_STAT.SMBUS = false →
      (s.adv t).on MGT_STAT.DA = true →
      (Does (.getpid t) s ((s.adv t).send (beBytes 4 (Config.i3cId 0).toNat ++ beBytes 2 ((s.adv t).devid % 65536))) ∧ Does (.getbcr t) s ((s.adv t).send (beBytes 1 ((Config.i3cId 1).toNat % 256))) ∧ Does (.getdcr t) s ((s.adv t).send (beBytes 1 ((Config.i3cId 2).toNat % 256))) ∧ Does (.getstatus t) s ((s.adv t).send (beBytes 2 ((Config.i3cId 3).toNat % 65536))) ∧ Does (.getmwl t) s ((s.adv t).send (beBytes 2 7)) ∧ Does (.getmrl t) s ((s.adv t).send (beBytes 2 64)))) ∧
    (∀ (t : Nat) (s : State),
      Powered s →
      (s.adv t).on MGT_STAT.SMBUS = false →
      (s.adv t).on MGT_I3C_CFG.HJ_EN = true →
      (s.adv t).mgt.hj = true →
      (s.adv t).on MGT_STAT.DA = false →
      Does (.hotJoin t) s ({ (s.adv t).send (bytesOf [0x04]) with mgt := { (s.adv t).mgt with hjReq := true } })) ∧
    (∀ (t : Nat) (s : State),
      Powered s →
      (s.adv t).legacy.mgt.alert = true →
      Does (.alertResponse t) s ({ (s.adv t).legacy.send (leBytes 1 (2 * (s.adv t).legacy.staticAddr)) with mgt := { (s.adv t).legacy.mgt with alert := false } })) ∧
    (∀ (t : Nat) (w : Nat) (s : State),
      Powered s →
      w < 2 ^ 32 →
      Does (.envBufWrite t 1 w) s ((s.adv t).regWrite 1 false 0x15003C 4 w)) ∧
    (∀ (t : Nat) (len : Nat) (s : State),
      Powered s →
      len < 2 ^ 13 →
      Does (.mgtEnvSubmit t 1 len) s ((s.adv t).regWrite 1 false 0x150040 4 (2 ^ 31 + len * 2 ^ 16))) ∧
    (∀ (t : Nat) (u : Nat) (s : State),
      Powered s →
      u < 24 →
      reconNever u = false →
      bit ((s.adv t).rd MGT_RECON_CFG.UNITS) u = true →
      bit ((s.adv t).rd MGT_RECON_STAT.GAVE_UP) u = false →
      (s.adv t).on SYS_UNIT_STATE.MISMATCH u = true →
      ((s.adv t).unitS u).missFrom + msT (orOne ((s.adv t).rd MGT_RECON_TIME.RECON_MS)) ≤ (s.adv t).now →
      (s.adv t).rep u = stRun →
      SMap.get (s.adv t).mgt.made u [] = [] →
      1 ≤ (s.adv t).rd MGT_RECON_TIME.RECON_MAX →
      Does (.recon t u) s ((s.adv t).reconReset u [] (decide ((s.adv t).rd MGT_RECON_TIME.RECON_MAX ≤ 1)))) ∧
    (∀ (t : Nat) (die : Nat) (temp : Nat) (s : State),
      Powered s →
      die < 3 →
      Does (.temp t die temp) s ((s.adv t).tempRead die temp)) ∧
    (∀ (t : Nat) (s : State),
      Powered s →
      (s.adv t).rep 0x16 ≠ stReset →
      (s.adv t).eye.held = none →
      (s.adv t).eye.busy = false →
      ((TakesLine (.idCmd t) .id s (s.adv t)) ∧
        (TakesLine (.status t) .status s (s.adv t)) ∧
        (TakesLine (.nonce t) .nonce s (s.adv t)) ∧
        (∀ b : List Byte, TakesLine (.envCmd t b) (.env b) s (s.adv t)) ∧
        (∀ o n : Nat, TakesLine (.rd t o n) (.rd o n) s (s.adv t)) ∧
        (∀ o v : Nat, TakesLine (.wr t o v) (.wr o v) s (s.adv t)) ∧
        (∀ (k : Nat) (on : Bool), TakesLine (.dbg t k on) (.dbg k on) s (s.adv t)) ∧
        (∀ k : Nat, TakesLine (.halt t k) (.halt k) s (s.adv t)) ∧
        (∀ k : Nat, TakesLine (.regs t k) (.regs k) s (s.adv t)) ∧
        (∀ k sp a n : Nat, TakesLine (.mrd t k sp a n) (.mrd k sp a n) s (s.adv t)) ∧
        (∀ k sp a v : Nat, TakesLine (.mwr t k sp a v) (.mwr k sp a v) s (s.adv t)) ∧
        (∀ k : Nat, TakesLine (.step t k) (.step k) s (s.adv t)) ∧
        (∀ k : Nat, TakesLine (.goCmd t k) (.go k) s (s.adv t)))) ∧
    (∀ (t : Nat) (last : Nat) (s : State),
      Powered s →
      last + secT 1 ≤ (s.adv t).now →
      (s.adv t).eye.held = none →
      Does (.lineTimeout t last) s ((s.adv t).bump EYE_CNT_ERR.COUNT)) ∧
    (∀ (t : Nat) (e : Nat) (s : State),
      Powered s →
      (s.adv t).eye.grantEnd = some e →
      e ≤ (s.adv t).now →
      (s.adv t).eye.held = none →
      Does (.monitorGrantEnd t) s ((s.adv t).endMonitor)) ∧
    (∀ (t : Nat) (rail : Nat) (mv : Nat) (x : Straps) (s : State),
      railResets rail mv = true →
      Does (.railFault t rail mv x) s ((if s.pwr.off then s else (s.adv t).railFall rail mv).deviceReset false rail x)) ∧
    (∀ (t : Nat) (rail : Nat) (mv : Nat) (x : Straps) (s : State),
      Powered s →
      railResets rail mv = false →
      rail < 7 →
      (s.adv t).railOn rail = true →
      Does (.railFault t rail mv x) s ((s.adv t).railFall rail mv)) ∧
    (∀ (t : Nat) (x : Straps) (s : State),
      Does (.resetPin t x) s (s.deviceReset true 0 x)) ∧
    (∀ (t : Nat) (fromMv : Nat) (us : Nat) (s : State),
      Powered s →
      fromMv ≤ 2500 →
      (s.adv t).rd PIN_VHOLD.CAP_UF = 0 →
      120 ≤ 20 * us / (3000 - max 1000 fromMv) →
      Does (.vholdCapEstimate t fromMv us) s ((s.adv t).wr PIN_VHOLD.CAP_UF (min 0xFFFF (20 * us / (3000 - max 1000 fromMv))))) ∧
    (∀ (t : Nat) (fromMv : Nat) (us : Nat) (s : State),
      Powered s →
      fromMv ≤ 2500 →
      (s.adv t).rd PIN_VHOLD.CAP_UF = 0 →
      20 * us / (3000 - max 1000 fromMv) < 120 →
      Does (.vholdCapEstimate t fromMv us) s ((((((s.adv t).wr PIN_VHOLD.CAP_UF (min 0xFFFF (20 * us / (3000 - max 1000 fromMv)))).wr PIN_VHOLD.CAP_LOW 1).irq PIN_IRQ_STAT.CAP_LOW).pinEvent 5 0).archiveEvent 0x17 0 (5 * 2 ^ 28))) ∧
    (∀ (t : Nat) (ppm : Int) (s : State),
      Powered s →
      Does (.xtal t 0 ppm false) s ((((((s.adv t).wr PIN_XTAL_REF.PPM (satSigned 16 ppm)).flag PIN_XTAL_REF.OK false).bump PIN_CNT_XTAL.COUNT).irq PIN_IRQ_STAT.XTAL).pinEvent 2 0)) ∧
    (∀ (t : Nat) (crystal : Nat) (ppm : Int) (s : State),
      Powered s →
      crystal ≠ 0 →
      Does (.xtal t crystal ppm true) s (((s.adv t).wr PIN_XTAL_AON.PPM (satSigned 16 ppm)).flag PIN_XTAL_AON.OK true))

/-- Each of the thirteen reads of a window's data register, on any port, answers the word that the register file reads at that register's place, in the state that the register file leaves, its window moved on; the pad read besides takes what the pins show. -/
def Obligations.DataReadsTakeEffect : Prop :=
    (∀ (t : Nat) (port : Nat) (c : Instr) (priv : Bool) (off : Nat) (s : State),
      Powered s →
      port < 20 →
      (c, off) ∈ [(Instr.sesCtxDataRead t port priv, SES_CTX_DATA.DATA.off), (Instr.ephRecDataRead t port priv, EPH_REC_DATA.DATA.off), (Instr.shuRelDataRead t port priv, SHU_REL_DATA.DATA.off), (Instr.helCmDataRead t port priv, HEL_CM_DATA.RE.off), (Instr.almAncDataRead t port priv, ALM_ANC_DATA.DATA.off), (Instr.almRegDataRead t port priv, ALM_REG_DATA.DATA.off), (Instr.almResDataRead t port priv, ALM_RES_DATA.USED.off), (Instr.astScriptDataRead t port priv, AST_SCRIPT_DATA.DATA.off), (Instr.memRemapDataRead t port priv, MEM_REMAP_DATA.VALID.off), (Instr.memLogDataRead t port priv, MEM_LOG_DATA.DATA.off), (Instr.bootFuseDataRead t port priv, BOOT_FUSE_DATA.DATA.off), (Instr.hifFlagDataRead t port priv, HIF_FLAG_DATA.FLAGS.off), (Instr.mgtFndDataRead t port priv, MGT_FND_DATA.DATA.off)] →
      Does (c) s (((s.adv t).regRead port priv off).2.answerWord port ((s.adv t).regRead port priv off).1)) ∧
    (∀ (t : Nat) (port : Nat) (priv : Bool) (oe : Bool) (level : Bool) (s : State),
      Powered s →
      port < 20 →
      Does (.pinPadDataRead t port priv oe level) s (((s.adv t).regRead port priv PIN_PAD_DATA.OE.off oe level).2.answerWord port ((s.adv t).regRead port priv PIN_PAD_DATA.OE.off oe level).1))

/-- For every command c, every rest of the queue and every state: a step of the state with c at the front of its queue is exec of c on the state with the queue's rest. With no command waiting the step changes nothing; that idling is the model's choice (log entry 2). -/
def Obligations.StepRunsTheFrontCommand : Prop :=
    (∀ (c : Instr) (rest : List Instr) (s : State), step (s.withQueue (c :: rest)) = exec c (s.withQueue rest)) ∧
    (∀ s : State, s.pending = [] → step s = .next s)

/-- For every command with any operands, every rest of the queue and every state, reachable or not: the step answers a next state, never a fault and never a refusal, and the commands that wait after it are exactly the rest of the queue. No operand, no mode and no register value stops the block; what a rule turns away is turned away inside the next state. -/
def Obligations.EveryCommandCompletes : Prop :=
    ∀ (c : Instr) (rest : List Instr) (s : State),
      ∃ s' : State, step (s.withQueue (c :: rest)) = .next s' ∧ s'.pending = rest

/-- While the block has no supply (S4), every command other than DEVICE_RESET, RESET_PIN and MERIDIAN_WRAP answers a next state that is the state before, the queue with it; MERIDIAN_WRAP is a happening of the always-on count itself. -/
def Obligations.NoSupplyNoEffect : Prop :=
    ∀ (c : Instr) (s : State), s.pwr.off = true →
      (∀ pin x, c ≠ .deviceReset pin x) → (∀ t x, c ≠ .resetPin t x) → c ≠ .meridianWrap → exec c s = .next s

/-- For every state whose waiting commands are all well formed (each operand in the range its register, frame or encoding gives it): a step answers a next state, all commands that wait in it are well formed, and it holds one command fewer unless none waited. -/
def Obligations.WaitingCommandsStayWellFormed : Prop :=
    ∀ s s' : State, QueueOk s → step s = .next s' → QueueOk s' ∧ s'.pending.length = s.pending.length - 1

/-- The state right after reset meets the invariants that the other statements assume: its queue is empty and so well formed, its register table, memories and flags are in canonical form, the count of Meridian and the entropy position are 0, and no codeword is in error. The starting position of the free values is the model's choice (log entry 3). -/
def Obligations.ResetMeetsTheInvariants : Prop :=
    QueueOk State.reset ∧ State.reset.pending = [] ∧ SMap.wf State.reset.regs = true ∧ SMap.wf State.reset.mem.cells = true ∧
      SMap.wf State.reset.hif.flags = true ∧ State.reset.mem.cells = [] ∧ State.reset.mer.count = 0

/-- The field EPOCH of every unit has 16 bits. Right after device reset it reads 0x0001 for each of the 24 units. One step of it adds one, except from 0xFFFF, where it becomes 0x0001; in no case does it become 0x0000. The register table is taken in its canonical form. -/
def Obligations.EpochsFollowR34 : Prop :=
    SYS_UNIT_STATE.EPOCH.width = 16 ∧
    (∀ u, u < 24 → State.reset.rd SYS_UNIT_STATE.EPOCH u = 1) ∧
    (∀ (s : State) (u : Nat), u < 24 → SMap.wf s.regs = true → s.rd SYS_UNIT_STATE.EPOCH u < 2 ^ 16 →
      (s.nextEpoch u).rd SYS_UNIT_STATE.EPOCH u =
          (if s.rd SYS_UNIT_STATE.EPOCH u = 0xFFFF then 1 else s.rd SYS_UNIT_STATE.EPOCH u + 1) ∧
        (s.nextEpoch u).rd SYS_UNIT_STATE.EPOCH u ≠ 0)

/-- From every state whose carried remainder is 0, n wraps of the count in a row leave civil_offset increased by exactly floor(n × 2^64 × 625 / 39,936) ns, the era increased by n modulo 256, the count at 0, and a remainder below 39,936 that makes the account exact. Civil time at count c is floor(c × 625 / 39,936) plus the offset, modulo 2^64. -/
def Obligations.CivilTimeAcrossWraps : Prop :=
    (∀ (n : Nat) (s : State), s.mer.rem = 0 → s.mer.era < 256 →
      let s' := Nat.repeat State.wrapCount n s
      s'.mer.offset = s.mer.offset + ((n * 2 ^ 64 * 625 / 39936 : Nat) : Int) ∧
        s'.mer.rem = n * 2 ^ 64 * 625 % 39936 ∧ s'.mer.era = (s.mer.era + n) % 256 ∧ (0 < n → s'.mer.count = 0)) ∧
    (∀ s : State, 0 ≤ ((s.now * 625 / 39936 : Nat) : Int) + s.mer.offset →
      (s.civilNs : Int) = (((s.now * 625 / 39936 : Nat) : Int) + s.mer.offset) % 2 ^ 64)

/-- For every state and every stamp t: advancing to t leaves a count at least the one before, equal to t when t is ahead and fits 64 bits, and below 2^64 when the one before is. The registers, the memories, the cores and the queue are as before. -/
def Obligations.MeridianNeverRunsBackward : Prop :=
    ∀ (s : State) (t : Nat),
      s.now ≤ (s.adv t).now ∧ (s.now ≤ t → t < 2 ^ 64 → (s.adv t).now = t) ∧ (s.now < 2 ^ 64 → (s.adv t).now < 2 ^ 64) ∧
        (s.adv t).regs = s.regs ∧ (s.adv t).ast = s.ast ∧ (s.adv t).mem = s.mem ∧ (s.adv t).pending = s.pending

/-- For every state, every register of every unit and every instance: each bit that a read of the register shows lies in one of its fields that is not write-only, so reserved bits and WO fields read 0; the word is below 2^32. A read of an offset that holds no register returns 0 and changes nothing, and a store there changes nothing. -/
def Obligations.RegisterReadsShowOnlyTheirFields : Prop :=
    (∀ (s : State) (u : Nat) (r : Reg) (i j k : Nat), u < 24 → r ∈ regsOf u →
      bit (s.shown u r i j) k = true → ∃ f ∈ r.flds, f.acc ≠ .WO ∧ f.lo ≤ k ∧ k ≤ f.hi) ∧
    (∀ (s : State) (u : Nat) (r : Reg) (i j : Nat), u < 24 → r ∈ regsOf u → s.shown u r i j < 2 ^ 32) ∧
    (∀ (s : State) (priv : Bool) (off : Nat), findReg off = none → s.readReg priv off = (0, s)) ∧
    (∀ (s : State) (port : Nat) (priv : Bool) (off w : Nat), findReg off = none → s.regStore port priv off w = s)

/-- For every field at an instance that exists, with the register table in canonical form and the stored value within its width, and every word written: RW stores the bits written (an expert field only at EXPERT), RWL stores them while the lock bit of its block is 0 and keeps the old value once it is 1, AUT stores them only through the privileged view, W1C clears the bits written 1 and W1S sets them, and RO, WO and FUS keep the old value. -/
def Obligations.FieldsFollowTheirAccessCodes : Prop :=
    ∀ (s : State) (u : Nat) (f : Fld) (i j w : Nat) (priv : Bool), f.has i j = true → f.lo ≤ f.hi → SMap.wf s.regs = true →
      s.rd f i j < 2 ^ f.width → (∀ k, f.rstAt k < 2 ^ f.width) →
      let v := w / 2 ^ f.lo % 2 ^ f.width
      let old := s.rd f i j
      (s.storeField u f i j w priv).rd f i j =
        match f.acc with
        | .RW => if f.ex = true ∧ s.profileOf u ≠ profExpert then old else v
        | .RWL => if (f.ex = true ∧ s.profileOf u ≠ profExpert) ∨ s.locked u = true then old else v
        | .AUT => if priv then v else old
        | .W1C => Nat.land old (2 ^ f.width - 1 - v)
        | .W1S => Nat.lor old v
        | .RO => old
        | .WO => old
        | .FUS => old

/-- For every state, port and offset whose unit the grant of the port does not open: a read through the privileged view returns 0, and a write of a full word does nothing, beside counting the violation. So does a write that covers fewer than four bytes or is not aligned, in either view. The count of the port goes up by one, saturating, and sessions, keys, memories, fuses, the store and the boot state are untouched. -/
def Obligations.PrivilegedAccessesWithoutAGrant : Prop :=
    (∀ (s : State) (port off w r : Nat), s.viewReason (min port 4) (off / 65536) = some r → off % 4 = 0 →
      s.regWrite port true off 4 w = s.violated port true true r off) ∧
    (∀ (s : State) (port off r : Nat) (oe l : Bool), s.viewReason (min port 4) (off / 65536) = some r →
      s.regRead port true off oe l = (0, s.violated port false true r off)) ∧
    (∀ (s : State) (port off bytes w : Nat) (priv : Bool), bytes ≠ 4 ∨ off % 4 ≠ 0 →
      s.regWrite port priv off bytes w = s.violated port true priv 0 off) ∧
    (∀ (s : State) (port r off : Nat) (write priv : Bool), SMap.wf s.regs = true → s.rd HIF_VIEW_VIOL.COUNT (min port 4) < 2 ^ 32 →
      let s' := s.violated port write priv r off
      s'.rd HIF_VIEW_VIOL.COUNT (min port 4) = min (2 ^ 32 - 1) (s.rd HIF_VIEW_VIOL.COUNT (min port 4) + 1) ∧
        s'.ses = s.ses ∧ s'.dom = s.dom ∧ s'.mem = s.mem ∧ s'.fuse = s.fuse ∧ s'.plt = s.plt ∧ s'.boot = s.boot ∧
        s'.ast = s.ast ∧ s'.shu = s.shu)

/-- For all 32-bit operands a and b: the results of ADD, SUB, NEG, AND, OR, XOR, ANDN, NOT, MUL, the four extensions, MINU, MAXU, MIN and MAX are those of the operation on bit vectors; MULH and MULHU are the upper words of the exact signed and unsigned products; SHL, SHR and SAR shift by the low six bits of b, and ROR rotates by them modulo 32. N and Z are bit 31 and zeroness of the result in each. C of ADD is the carry out, C of SUB is a not below b, and V of both says that the signed result does not fit. -/
def Obligations.AluResultsAreBitVectorArithmetic : Prop :=
    ∀ a b : BitVec 32,
      (addF a.toNat b.toNat).1 = (a + b).toNat ∧ (subF a.toNat b.toNat).1 = (a - b).toNat ∧ (negF a.toNat).1 = (-a).toNat ∧
      (andF a.toNat b.toNat).1 = (a &&& b).toNat ∧ (orF a.toNat b.toNat).1 = (a ||| b).toNat ∧
      (xorF a.toNat b.toNat).1 = (a ^^^ b).toNat ∧ (andnF a.toNat b.toNat).1 = (a &&& ~~~b).toNat ∧
      (notF a.toNat).1 = (~~~a).toNat ∧ (mulOut a.toNat b.toNat).1 = (a * b).toNat ∧
      (mulhOut a.toNat b.toNat).1 = ((a.signExtend 64 * b.signExtend 64).extractLsb' 32 32).toNat ∧
      (mulhuOut a.toNat b.toNat).1 = ((a.zeroExtend 64 * b.zeroExtend 64).extractLsb' 32 32).toNat ∧
      (minF a.toNat b.toNat).1 = (if a.sle b then a else b).toNat ∧ (maxF a.toNat b.toNat).1 = (if a.sle b then b else a).toNat ∧
      (minuF a.toNat b.toNat).1 = (if a ≤ b then a else b).toNat ∧ (maxuF a.toNat b.toNat).1 = (if a ≤ b then b else a).toNat ∧
      (sextbF a.toNat).1 = ((a.setWidth 8).signExtend 32).toNat ∧ (sexthF a.toNat).1 = ((a.setWidth 16).signExtend 32).toNat ∧
      (zextbF a.toNat).1 = ((a.setWidth 8).setWidth 32).toNat ∧ (zexthF a.toNat).1 = ((a.setWidth 16).setWidth 32).toNat ∧
      (shlOut a.toNat b.toNat).1 = (a <<< (b.toNat % 64)).toNat ∧ (shrOut a.toNat b.toNat).1 = (a >>> (b.toNat % 64)).toNat ∧
      (sarOut a.toNat b.toNat).1 = (a.sshiftRight (b.toNat % 64)).toNat ∧
      (rorOut a.toNat b.toNat).1 = (a.rotateRight (b.toNat % 64)).toNat ∧
      (∀ o ∈ [addF a.toNat b.toNat, subF a.toNat b.toNat, negF a.toNat, andF a.toNat b.toNat, mulOut a.toNat b.toNat,
          shlOut a.toNat b.toNat, shrOut a.toNat b.toNat, sarOut a.toNat b.toNat, rorOut a.toNat b.toNat],
        (pbN, bit o.1 31) ∈ o.2 ∧ (pbZ, o.1 == 0) ∈ o.2) ∧
      (pbC, decide (2 ^ 32 ≤ a.toNat + b.toNat)) ∈ (addF a.toNat b.toNat).2 ∧ (pbC, decide (b ≤ a)) ∈ (subF a.toNat b.toNat).2 ∧
      (pbV, decide ((a + b).toInt ≠ a.toInt + b.toInt)) ∈ (addF a.toNat b.toNat).2 ∧
      (pbV, decide ((a - b).toInt ≠ a.toInt - b.toInt)) ∈ (subF a.toNat b.toNat).2

/-- For all 32-bit operands a and b: with b not 0, DIVS and REMS give the quotient truncated toward zero and the remainder of the signed values, except that MIN by −1 gives MIN with V, and 0; DIVU and REMU give the unsigned ones. With b = 0 they give 0x7FFFFFFF or 0x80000000 by the sign of a, 0xFFFFFFFF, a and a, and DZ is set. NZ are those of the result and V is 0 otherwise. When TRAPDZ is 1, a division or remainder by zero raises DIVZERO instead, and the state, flags and registers with it, is the one before. -/
def Obligations.DivisionsFollowR436 : Prop :=
    (∀ a b : BitVec 32, b ≠ 0 →
      (divsOut a.toNat b.toNat).1 = (a.sdiv b).toNat ∧ (divuOut a.toNat b.toNat).1 = (a / b).toNat ∧
      (remsOut a.toNat b.toNat).1 = (a.srem b).toNat ∧ (remuOut a.toNat b.toNat).1 = (a % b).toNat ∧
      (divsOut a.toNat b.toNat).2 = nzF (a.sdiv b).toNat ++ [(pbV, decide (a = 0x80000000 ∧ b = 0xFFFFFFFF))] ∧
      (divuOut a.toNat b.toNat).2 = nzF (a / b).toNat ++ [(pbV, false)] ∧
      (remsOut a.toNat b.toNat).2 = nzF (a.srem b).toNat ++ [(pbV, false)] ∧
      (remuOut a.toNat b.toNat).2 = nzF (a % b).toNat ++ [(pbV, false)]) ∧
    (∀ b : BitVec 32, (BitVec.sdiv 0x80000000 0xFFFFFFFF : BitVec 32) = 0x80000000 ∧
      (remsOut 0x80000000 0xFFFFFFFF).1 = 0 ∧ (divsOut 0x80000000 0xFFFFFFFF).1 = 0x80000000 ∧
      (divuOut b.toNat 0) = (0xFFFFFFFF, nzF 0xFFFFFFFF ++ [(pbV, false), (pbDZ, true)]) ∧
      (divsOut b.toNat 0) = (if b.toInt < 0 then 0x80000000 else 0x7FFFFFFF,
        nzF (if b.toInt < 0 then 0x80000000 else 0x7FFFFFFF) ++ [(pbV, false), (pbDZ, true)]) ∧
      (remsOut b.toNat 0) = (b.toNat, nzF b.toNat ++ [(pbV, false), (pbDZ, true)]) ∧
      (remuOut b.toNat 0) = (b.toNat, nzF b.toNat ++ [(pbV, false), (pbDZ, true)])) ∧
    (∀ (f : Nat → Nat → AluOut) (c rd ra rb : Nat) (s : State), s.gr c rb = 0 → (s.core c).flag pbTRAPDZ = true →
      opDiv f c rd ra rb s = .exc s exDivzero 0 0) ∧
    (∀ (f : Nat → Nat → AluOut) (c rd ra rb : Nat) (s : State), s.gr c rb ≠ 0 ∨ (s.core c).flag pbTRAPDZ = false →
      opDiv f c rd ra rb s = s.putAlu c rd (f (s.gr c ra) (s.gr c rb)))

/-- For every 32-bit a and every amount whose low six bits are n: with n = 0 the result is a and C is not written; for n 1 to 31 SHL gives a << n with C = a[32 − n], SHR and SAR give the zero-filled and sign-filled shift with C = a[n − 1], ROR gives the rotation with C = result[31]; for n = 32 they give 0 with C = a[0], 0 with C = a[31], the sign fill with C = a[31], and a with C = a[31]; for n 33 to 63 they give 0 with C = 0, 0 with C = 0, the sign fill with C = a[31], and the rotation by n − 32 with C = result[31]. -/
def Obligations.ShiftsFollowR437 : Prop :=
    ∀ (a : BitVec 32) (m : Nat),
      let n := m % 64
      let sl := shlOut a.toNat m
      let sr := shrOut a.toNat m
      let sa := sarOut a.toNat m
      let ro := rorOut a.toNat m
      let sign := if a.toInt < 0 then 0xFFFFFFFF else 0
      (n = 0 → sl = (a.toNat, nzF a.toNat) ∧ sr = (a.toNat, nzF a.toNat) ∧ sa = (a.toNat, nzF a.toNat) ∧
        ro = (a.toNat, nzF a.toNat)) ∧
      (1 ≤ n → n ≤ 31 →
        sl = ((a <<< n).toNat, nzF (a <<< n).toNat ++ [(pbC, a.getLsbD (32 - n))]) ∧
        sr = ((a >>> n).toNat, nzF (a >>> n).toNat ++ [(pbC, a.getLsbD (n - 1))]) ∧
        sa = ((a.sshiftRight n).toNat, nzF (a.sshiftRight n).toNat ++ [(pbC, a.getLsbD (n - 1))]) ∧
        ro = ((a.rotateRight n).toNat, nzF (a.rotateRight n).toNat ++ [(pbC, (a.rotateRight n).getLsbD 31)])) ∧
      (n = 32 →
        sl = (0, nzF 0 ++ [(pbC, a.getLsbD 0)]) ∧ sr = (0, nzF 0 ++ [(pbC, a.getLsbD 31)]) ∧
        sa = (sign, nzF sign ++ [(pbC, a.getLsbD 31)]) ∧ ro = (a.toNat, nzF a.toNat ++ [(pbC, a.getLsbD 31)])) ∧
      (33 ≤ n →
        sl = (0, nzF 0 ++ [(pbC, false)]) ∧ sr = (0, nzF 0 ++ [(pbC, false)]) ∧
        sa = (sign, nzF sign ++ [(pbC, a.getLsbD 31)]) ∧
        ro = ((a.rotateRight (n - 32)).toNat, nzF (a.rotateRight (n - 32)).toNat ++ [(pbC, (a.rotateRight (n - 32)).getLsbD 31)]))

/-- NEG and ABS of 0x8000_0000 give 0x8000_0000 with V set; for that operand NEG writes N = 1, Z = 0 and C = 0. -/
def Obligations.NegAndAbsOfTheMostNegative : Prop :=
    (negF 0x80000000).1 = 0x80000000 ∧ (absOut 0x80000000).1 = 0x80000000 ∧ (pbV, true) ∈ (negF 0x80000000).2 ∧
      (pbV, true) ∈ (absOut 0x80000000).2 ∧ (pbN, true) ∈ (negF 0x80000000).2 ∧ (pbZ, false) ∈ (negF 0x80000000).2 ∧
      (pbC, false) ∈ (negF 0x80000000).2

/-- For each instruction that writes one register (the ALU group with a destination, the immediates but CMPI, AEXT and ARD), run by a core with REPA 0 and not dividing by zero under TRAPDZ: every other general register, every flag and PSW bit the row does not name, both accumulators, all data and instruction memory, the port state and the coprocessors of the core are as before, PC advances by 4, every other core is as before, and every part of the machine outside the cores is as the fetch leaves it. -/
def Obligations.RegisterInstructionsKeepTheRest : Prop :=
    ∀ (t c rd ra rb imm w : Nat) (b b2 : Bool) (i : Instr) (fs : List Nat) (s s' : State), Powered s → Runs (s.adv t) c w →
      ¬(s.gr c rb = 0 ∧ (s.core c).flag pbTRAPDZ = true) →
      (i, w, fs) ∈ [
        (Instr.add t c rd ra rb, encR 0 0x00 rd ra rb 0, [pbN, pbZ, pbC, pbV]),
        (Instr.addc t c rd ra rb, encR 0 0x01 rd ra rb 0, [pbN, pbZ, pbC, pbV]),
        (Instr.sub t c rd ra rb, encR 0 0x02 rd ra rb 0, [pbN, pbZ, pbC, pbV]),
        (Instr.subb t c rd ra rb, encR 0 0x03 rd ra rb 0, [pbN, pbZ, pbC, pbV]),
        (Instr.andR t c rd ra rb, encR 0 0x06 rd ra rb 0, [pbN, pbZ]),
        (Instr.orR t c rd ra rb, encR 0 0x07 rd ra rb 0, [pbN, pbZ]),
        (Instr.xorR t c rd ra rb, encR 0 0x08 rd ra rb 0, [pbN, pbZ]),
        (Instr.andn t c rd ra rb, encR 0 0x09 rd ra rb 0, [pbN, pbZ]),
        (Instr.shl t c rd ra rb, encR 0 0x0C rd ra rb 0, [pbN, pbZ, pbC]),
        (Instr.shr t c rd ra rb, encR 0 0x0D rd ra rb 0, [pbN, pbZ, pbC]),
        (Instr.sar t c rd ra rb, encR 0 0x0E rd ra rb 0, [pbN, pbZ, pbC]),
        (Instr.ror t c rd ra rb, encR 0 0x0F rd ra rb 0, [pbN, pbZ, pbC]),
        (Instr.mul t c rd ra rb, encR 0 0x10 rd ra rb 0, [pbN, pbZ, pbV]),
        (Instr.mulh t c rd ra rb, encR 0 0x11 rd ra rb 0, [pbN, pbZ]),
        (Instr.mulhu t c rd ra rb, encR 0 0x12 rd ra rb 0, [pbN, pbZ]),
        (Instr.divs t c rd ra rb, encR 0 0x13 rd ra rb 0, [pbN, pbZ, pbV, pbDZ]),
        (Instr.divu t c rd ra rb, encR 0 0x14 rd ra rb 0, [pbN, pbZ, pbV, pbDZ]),
        (Instr.rems t c rd ra rb, encR 0 0x15 rd ra rb 0, [pbN, pbZ, pbV, pbDZ]),
        (Instr.remu t c rd ra rb, encR 0 0x16 rd ra rb 0, [pbN, pbZ, pbV, pbDZ]),
        (Instr.min t c rd ra rb, encR 0 0x17 rd ra rb 0, [pbN, pbZ]),
        (Instr.max t c rd ra rb, encR 0 0x18 rd ra rb 0, [pbN, pbZ]),
        (Instr.minu t c rd ra rb, encR 0 0x19 rd ra rb 0, [pbN, pbZ]),
        (Instr.maxu t c rd ra rb, encR 0 0x1A rd ra rb 0, [pbN, pbZ]),
        (Instr.neg t c rd ra, encR 0 0x04 rd ra 0 0, [pbN, pbZ, pbC, pbV]),
        (Instr.notR t c rd ra, encR 0 0x0A rd ra 0 0, [pbN, pbZ]),
        (Instr.mov t c rd ra, encR 0 0x0B rd ra 0 0, [pbN, pbZ]),
        (Instr.abs t c rd ra, encR 0 0x1B rd ra 0 0, [pbN, pbZ, pbV]),
        (Instr.clz t c rd ra, encR 0 0x1C rd ra 0 0, [pbN, pbZ]),
        (Instr.sextb t c rd ra, encR 0 0x1D rd ra 0 0, [pbN, pbZ]),
        (Instr.sexth t c rd ra, encR 0 0x1E rd ra 0 0, [pbN, pbZ]),
        (Instr.zextb t c rd ra, encR 0 0x1F rd ra 0 0, [pbN, pbZ]),
        (Instr.zexth t c rd ra, encR 0 0x20 rd ra 0 0, [pbN, pbZ]),
        (Instr.bswap t c rd ra, encR 0 0x21 rd ra 0 0, [pbN, pbZ]),
        (Instr.addi t c rd ra imm, encI 0x01 rd ra imm, [pbN, pbZ, pbC, pbV]),
        (Instr.andi t c rd ra imm, encI 0x02 rd ra imm, [pbN, pbZ]),
        (Instr.ori t c rd ra imm, encI 0x03 rd ra imm, [pbN, pbZ]),
        (Instr.xori t c rd ra imm, encI 0x04 rd ra imm, [pbN, pbZ]),
        (Instr.shiShl t c rd ra (imm % 64), encI 0x06 rd ra (0 * 2 ^ 16 + imm % 64), [pbN, pbZ, pbC]),
        (Instr.shiShr t c rd ra (imm % 64), encI 0x06 rd ra (1 * 2 ^ 16 + imm % 64), [pbN, pbZ, pbC]),
        (Instr.shiSar t c rd ra (imm % 64), encI 0x06 rd ra (2 * 2 ^ 16 + imm % 64), [pbN, pbZ, pbC]),
        (Instr.shiRor t c rd ra (imm % 64), encI 0x06 rd ra (3 * 2 ^ 16 + imm % 64), [pbN, pbZ, pbC]),
        (Instr.movi t c rd imm, encM 0x07 rd imm, []),
        (Instr.lui t c rd (imm % 2 ^ 16), encM 0x08 rd (imm % 2 ^ 16), []),
        (Instr.aext t c rd b b2 (imm % 64), encA 0x08 rd 0 0 b b2 (imm % 64), [pbN, pbZ, pbV, pbSAT]),
        (Instr.ard t c rd b (imm % 3), encA 0x09 rd 0 0 b false (imm % 3), [])] →
      exec i s = .next s' →
      (∀ r, r < 16 → r ≠ rd % 16 → s'.gr c r = s.gr c r) ∧
      (∀ x, x ∉ fs → (s'.core c).flag x = (s.core c).flag x) ∧
      (s'.core c) = { s.core c with
        g := (s'.core c).g, psw := (s'.core c).psw, pc := (s.core c).pc + 4, waiting := false } ∧
      (∀ d, d ≠ c → s'.core d = s.core d) ∧
      s' = { ((s.adv t).fetched c) with ast := s'.ast, pending := s.pending }

/-- For STW, STH, STB and STWP run by a core with REPA 0, at the address a that the instruction computes (ea for STW, STH and STB, the pointer for STWP), when it exists and is aligned: the bytes from a read as the low bytes of rd, every byte of data memory outside them reads as before, every general register but the pointer of STWP is as before, no flag changes, every other core is as before, and the data memory stays in canonical form, in which it is taken. -/
def Obligations.StoresKeepEveryOtherByte : Prop :=
    ∀ (t c rd ra imm w a size p : Nat) (i : Instr) (s s' : State), Powered s → Runs (s.adv t) c w →
      SMap.wf (s.core c).data = true → dataOk a size = true →
      (i, w, a, size, p) ∈ [
        (Instr.stw t c rd ra imm, encI 0x15 rd ra imm, s.ea c ra imm, 4, 16),
        (Instr.sth t c rd ra imm, encI 0x16 rd ra imm, s.ea c ra imm, 2, 16),
        (Instr.stb t c rd ra imm, encI 0x17 rd ra imm, s.ea c ra imm, 1, 16),
        (Instr.stwp t c rd ra imm, encI 0x19 rd ra imm, s.gr c ra, 4, ra % 16)] →
      exec i s = .next s' →
      (s'.core c).load a size = s.gr c rd % 2 ^ (8 * size) ∧
      (∀ b, b < a ∨ a + size ≤ b → (s'.core c).load b 1 = (s.core c).load b 1) ∧
      (∀ r, r < 16 → r ≠ p → s'.gr c r = s.gr c r) ∧ (s'.core c).psw = (s.core c).psw ∧
      (s'.core c).a0 = (s.core c).a0 ∧ (s'.core c).a1 = (s.core c).a1 ∧ (∀ d, d ≠ c → s'.core d = s.core d) ∧
      SMap.wf (s'.core c).data = true

/-- For loads, CMP, TST, CMPI, the accumulating instructions, jumps, NOP and FENCE, run by a core with REPA 0: either every byte of data memory and every word of instruction memory is as before, every register but the destinations of the row is as before, and so is every other core; or the whole next state is the one that an exception, taken from the core as it was before the instruction, leaves (misaligned or absent addresses, targets that are no instruction, equal pointers, poison). -/
def Obligations.LoadsAndComparesStoreNothing : Prop :=
    ∀ (t c rd ra imm w p q : Nat) (b : Bool) (i : Instr) (s s' : State), Powered s → Runs (s.adv t) c w →
      (i, w, p, q) ∈ [
        (Instr.ldw t c rd ra imm, encI 0x10 rd ra imm, rd % 16, rd % 16),
        (Instr.ldh t c rd ra imm, encI 0x11 rd ra imm, rd % 16, rd % 16),
        (Instr.ldhu t c rd ra imm, encI 0x12 rd ra imm, rd % 16, rd % 16),
        (Instr.ldb t c rd ra imm, encI 0x13 rd ra imm, rd % 16, rd % 16),
        (Instr.ldbu t c rd ra imm, encI 0x14 rd ra imm, rd % 16, rd % 16),
        (Instr.ldwp t c rd ra imm, encI 0x18 rd ra imm, rd % 16, ra % 16),
        (Instr.cmp t c ra rd, encR 0 0x05 0 ra rd 0, 16, 16),
        (Instr.tst t c ra rd, encR 0 0x22 0 ra rd 0, 16, 16),
        (Instr.cmpi t c ra imm, encI 0x05 0 ra imm, 16, 16),
        (Instr.macr t c b ra rd, encA 0 0 ra rd b false 0, 16, 16),
        (Instr.msur t c b ra rd, encA 1 0 ra rd b false 0, 16, 16),
        (Instr.mpyr t c b ra rd, encA 2 0 ra rd b false 0, 16, 16),
        (Instr.macur t c b ra rd, encA 3 0 ra rd b false 0, 16, 16),
        (Instr.mac t c b ra rd imm (imm / 32), encX b 0 ra rd imm (imm / 32), ra % 16, rd % 16),
        (Instr.nop t c, encR 0x24 0 0 0 0 0, 16, 16),
        (Instr.fence t c, encR 0x24 6 0 0 0 0, 16, 16),
        (Instr.jmp t c imm, encJ 0x21 imm, 16, 16),
        (Instr.jr t c ra, encR 0x23 0 0 ra 0 0, 16, 16),
        (Instr.bCond t c rd imm, encM 0x20 rd imm, 16, 16)] →
      exec i s = .next s' →
      ((s'.core c).data = (s.core c).data ∧ (s'.core c).imem = (s.core c).imem ∧
        (∀ r, r < 16 → r ≠ p → r ≠ q → s'.gr c r = s.gr c r) ∧ (∀ d, d ≠ c → s'.core d = s.core d)) ∨
      (∃ (u : State) (code detail eaddr : Nat), s' = (u.coreExcept c code detail eaddr).withQueue s.pending ∧ u.core c = s.core c)

/-- For every core and exception, with g14 valid (a multiple of 4 with STKLO + 16 ≤ g14 ≤ STKHI): the frame at g14 − 16 holds EPC, PSW, the cause word (code, and DETAIL in [15:8]) and EADDR, g14 is 16 lower, IE, REPA and RC are 0 and every other bit of the PSW below 24 is as before, PC is VBASE + 4 × code, every other register and every byte outside the frame is as before, and so is every other core. With g14 not valid, the core enters Fault with the cause word and EADDR, and its memory takes no frame. -/
def Obligations.ExceptionEntryFollowsR458 : Prop :=
    (∀ (s : State) (c code detail epc eaddr : Nat), (s.core c).stackOk = true → (s.core c).g.length = 16 →
      s.gr c 14 ≤ 0x10000 → code < 256 → epc < 2 ^ 32 → eaddr < 2 ^ 32 → (s.core c).psw < 2 ^ 24 →
      SMap.wf (s.core c).data = true →
      let k := s.core c
      let k' := (s.coreEnter c code detail epc eaddr).core c
      let b := k.reg 14 - 16
      k'.dataWord b = epc ∧ k'.dataWord (b + 4) = k.psw ∧ k'.dataWord (b + 8) = code + detail % 256 * 256 ∧
        k'.dataWord (b + 12) = eaddr ∧ k'.reg 14 = b ∧ k'.pc = k.vbase + 4 * code ∧ k'.flag pbIE = false ∧
        k'.flag pbREPA = false ∧ k'.rc = 0 ∧ (∀ x, x < 12 → x ≠ pbIE → x ≠ pbREPA → k'.flag x = k.flag x) ∧
        (∀ r, r < 16 → r ≠ 14 → k'.reg r = k.reg r) ∧ (∀ a, a < b ∨ b + 16 ≤ a → k'.load a 1 = k.load a 1) ∧
        k'.a0 = k.a0 ∧ k'.a1 = k.a1 ∧ (∀ d, d ≠ c → (s.coreEnter c code detail epc eaddr).core d = s.core d)) ∧
    (∀ (s : State) (c code detail epc eaddr : Nat), (s.core c).stackOk = false →
      s.coreEnter c code detail epc eaddr =
        (s.wr AST_CORE_LAST.CAUSE code c).coreFault c (code + detail % 256 * 256) eaddr)

/-- For every core whose g14 is valid, whose registers and PSW are within their widths with the reserved PSW bits 0, and every exception taken: RETE run on the state right after entry, when the memory delivers no poison, answers a state whose PC is the EPC, whose PSW is the one before the exception, REPA and RC included, and whose sixteen registers and accumulators are those before. -/
def Obligations.ReturnUndoesExceptionEntry : Prop :=
    ∀ (s : State) (c code detail epc eaddr : Nat), (s.core c).stackOk = true → (s.core c).g.length = 16 →
      s.gr c 14 ≤ 0x10000 → (s.core c).stkhi ≤ 0x10000 → code < 256 → epc < 2 ^ 32 → eaddr < 2 ^ 32 →
      (s.core c).psw < 2 ^ 24 → bit (s.core c).psw 7 = false → bit (s.core c).psw 11 = false →
      SMap.wf (s.core c).data = true →
      ((s.coreEnter c code detail epc eaddr).dataRead c (s.gr c 14 - 16) 16).1 = false →
      ∃ s', opRete c (s.coreEnter c code detail epc eaddr) = .hold s' ∧ (s'.core c).pc = epc ∧
        (s'.core c).psw = (s.core c).psw ∧ (∀ r, r < 16 → s'.gr c r = s.gr c r) ∧ (s'.core c).a0 = (s.core c).a0 ∧
        (s'.core c).a1 = (s.core c).a1

/-- For every core with its data memory in canonical form, every address that exists and is aligned for a size of 1, 2 or 4, and every value: after the store, a load of that size gives the low bytes of the value, every byte outside the stored ones reads as before, and the memory is in canonical form. Storing the value that stands there already changes nothing that a load sees. Two stores to disjoint ranges commute for every load. -/
def Obligations.BytesStoredReadBack : Prop :=
    (∀ (k : Core) (a size v : Nat), size ∈ [1, 2, 4] → dataOk a size = true → SMap.wf k.data = true →
      (k.store a size v).load a size = v % 2 ^ (8 * size) ∧
      (∀ b, b < a ∨ a + size ≤ b → (k.store a size v).load b 1 = k.load b 1) ∧ SMap.wf (k.store a size v).data = true) ∧
    (∀ (k : Core) (a b m n v w x : Nat), m ∈ [1, 2, 4] → n ∈ [1, 2, 4] → dataOk a m = true → dataOk b n = true →
      (a + m ≤ b ∨ b + n ≤ a) → SMap.wf k.data = true →
      ((k.store a m v).store b n w).load x 1 = ((k.store b n w).store a m v).load x 1)

/-- For every memory, codeword and finder: a read of a clean codeword delivers no poison and changes nothing; a read that finds a correctable error delivers no poison and leaves the codeword clean; a read that finds an uncorrectable error delivers poison and leaves a poison codeword; a read of a poison codeword delivers poison and leaves it and the error counters as they are, so a second read of the same codeword counts no new error. The cores, the keys and the sessions see no change of their state. -/
def Obligations.CodewordErrorsAreMetOnce : Prop :=
    (∀ (s : State) (a cw f : Nat), s.cell a cw = none → s.memRead a cw f = (false, s)) ∧
    (∀ (s : State) (a cw f b : Nat), s.cell a cw = some (.ce b) → SMap.wf s.mem.cells = true →
      (s.memRead a cw f).1 = false ∧ (s.memRead a cw f).2.cell a cw = none ∧
        (s.memRead a cw f).2.memRead a cw f = (false, (s.memRead a cw f).2)) ∧
    (∀ (s : State) (a cw f : Nat), s.cell a cw = some .ue →
      (s.memRead a cw f).1 = true ∧ (s.memRead a cw f).2.cell a cw = some .poison ∧ (s.memRead a cw f).2.ast = s.ast ∧
        (s.memRead a cw f).2.ses = s.ses) ∧
    (∀ (s : State) (a cw f : Nat), s.cell a cw = some .poison →
      (s.memRead a cw f).1 = true ∧ (s.memRead a cw f).2.cell a cw = some .poison ∧
        (s.memRead a cw f).2.rd MEM_CNT_UE_SRAM.COUNT = s.rd MEM_CNT_UE_SRAM.COUNT ∧
        (s.memRead a cw f).2.rd MEM_CNT_UE_DRAM.COUNT = s.rd MEM_CNT_UE_DRAM.COUNT)

/-- For every state whose table of codewords that are not clean is in canonical form (keys strictly rising): after a read of any bytes, a write of any bytes, a read or write of one codeword, and the drain of any merge-buffer entry, it is in canonical form. -/
def Obligations.MemoryAccessesKeepTheCellsCanonical : Prop :=
    ∀ s : State, SMap.wf s.mem.cells = true →
      (∀ a addr n, SMap.wf (s.memReadBytes a addr n).2.mem.cells = true) ∧
      (∀ a addr n, SMap.wf (s.memWriteBytes a addr n).mem.cells = true) ∧
      (∀ a cw f, SMap.wf (s.memRead a cw f).2.mem.cells = true) ∧ (∀ a cw, SMap.wf (s.cwWrite a cw).mem.cells = true) ∧
      (∀ a cw m, SMap.wf (s.memNarrow a cw m).mem.cells = true) ∧ (∀ e, SMap.wf (s.mergeDrain e).mem.cells = true)

/-- For every core and all operands in the range their fields admit (registers below 16, imm18, imm22, imm26, masks of 16 bits, flags, pointers and steps): the word that the formats of R430 and the opcode tables give an instruction is read by the core as exactly that instruction on exactly those operands, for every row of the instruction set, the four kinds of SHI, the four dual-fetch operations and the functions of CP0 to CP3; every word of CP4 to CP7 raises COPROC with its number. No bit of an encoding is dropped and no two rows are confused. -/
def Obligations.EncodingsReachTheirOperations : Prop :=
    ∀ (c rd ra rb imm off far mask : Nat) (b b2 : Bool), rd < 16 → ra < 16 → rb < 16 → imm < 2 ^ 18 → off < 2 ^ 22 →
      far < 2 ^ 26 → mask < 2 ^ 16 →
      coreOp c (encR 0 0x00 rd ra rb 0) = opRrr addF c rd ra rb ∧
      coreOp c (encR 0 0x01 rd ra rb 0) = opCarry addOut c rd ra rb ∧
      coreOp c (encR 0 0x02 rd ra rb 0) = opRrr subF c rd ra rb ∧
      coreOp c (encR 0 0x03 rd ra rb 0) = opCarry subOut c rd ra rb ∧
      coreOp c (encR 0 0x06 rd ra rb 0) = opRrr andF c rd ra rb ∧
      coreOp c (encR 0 0x07 rd ra rb 0) = opRrr orF c rd ra rb ∧
      coreOp c (encR 0 0x08 rd ra rb 0) = opRrr xorF c rd ra rb ∧
      coreOp c (encR 0 0x09 rd ra rb 0) = opRrr andnF c rd ra rb ∧
      coreOp c (encR 0 0x0C rd ra rb 0) = opRrr shlOut c rd ra rb ∧
      coreOp c (encR 0 0x0D rd ra rb 0) = opRrr shrOut c rd ra rb ∧
      coreOp c (encR 0 0x0E rd ra rb 0) = opRrr sarOut c rd ra rb ∧
      coreOp c (encR 0 0x0F rd ra rb 0) = opRrr rorOut c rd ra rb ∧
      coreOp c (encR 0 0x10 rd ra rb 0) = opRrr mulOut c rd ra rb ∧
      coreOp c (encR 0 0x11 rd ra rb 0) = opRrr mulhOut c rd ra rb ∧
      coreOp c (encR 0 0x12 rd ra rb 0) = opRrr mulhuOut c rd ra rb ∧
      coreOp c (encR 0 0x13 rd ra rb 0) = opDiv divsOut c rd ra rb ∧
      coreOp c (encR 0 0x14 rd ra rb 0) = opDiv divuOut c rd ra rb ∧
      coreOp c (encR 0 0x15 rd ra rb 0) = opDiv remsOut c rd ra rb ∧
      coreOp c (encR 0 0x16 rd ra rb 0) = opDiv remuOut c rd ra rb ∧
      coreOp c (encR 0 0x17 rd ra rb 0) = opRrr minF c rd ra rb ∧
      coreOp c (encR 0 0x18 rd ra rb 0) = opRrr maxF c rd ra rb ∧
      coreOp c (encR 0 0x19 rd ra rb 0) = opRrr minuF c rd ra rb ∧
      coreOp c (encR 0 0x1A rd ra rb 0) = opRrr maxuF c rd ra rb ∧
      coreOp c (encR 0 0x04 rd ra 0 0) = opRr negF c rd ra ∧
      coreOp c (encR 0 0x0A rd ra 0 0) = opRr notF c rd ra ∧
      coreOp c (encR 0 0x0B rd ra 0 0) = opRr movF c rd ra ∧
      coreOp c (encR 0 0x1B rd ra 0 0) = opRr absOut c rd ra ∧
      coreOp c (encR 0 0x1C rd ra 0 0) = opRr clzF c rd ra ∧
      coreOp c (encR 0 0x1D rd ra 0 0) = opRr sextbF c rd ra ∧
      coreOp c (encR 0 0x1E rd ra 0 0) = opRr sexthF c rd ra ∧
      coreOp c (encR 0 0x1F rd ra 0 0) = opRr zextbF c rd ra ∧
      coreOp c (encR 0 0x20 rd ra 0 0) = opRr zexthF c rd ra ∧
      coreOp c (encR 0 0x21 rd ra 0 0) = opRr bswapF c rd ra ∧
      coreOp c (encR 0 0x05 0 ra rb 0) = opCmp subF c ra rb ∧
      coreOp c (encR 0 0x22 0 ra rb 0) = opCmp andF c ra rb ∧
      coreOp c (encI 0x01 rd ra imm) = opRi addF c rd ra (sx 18 imm) ∧
      coreOp c (encI 0x02 rd ra imm) = opRi andF c rd ra imm ∧
      coreOp c (encI 0x03 rd ra imm) = opRi orF c rd ra imm ∧
      coreOp c (encI 0x04 rd ra imm) = opRi xorF c rd ra imm ∧
      coreOp c (encI 0x05 0 ra imm) = opCmpi c ra imm ∧
      coreOp c (encI 0x06 rd ra (0 * 2 ^ 16 + imm % 64)) = opRi shlOut c rd ra (imm % 64) ∧
      coreOp c (encI 0x06 rd ra (1 * 2 ^ 16 + imm % 64)) = opRi shrOut c rd ra (imm % 64) ∧
      coreOp c (encI 0x06 rd ra (2 * 2 ^ 16 + imm % 64)) = opRi sarOut c rd ra (imm % 64) ∧
      coreOp c (encI 0x06 rd ra (3 * 2 ^ 16 + imm % 64)) = opRi rorOut c rd ra (imm % 64) ∧
      (∀ s, coreOp c (encM 0x07 rd off) s = s.putReg c rd (sx 22 off)) ∧
      coreOp c (encM 0x08 rd off) = opLui c rd off ∧
      coreOp c (encI 0x10 rd ra imm) = opLoad 4 id c rd ra imm ∧
      coreOp c (encI 0x11 rd ra imm) = opLoad 2 (sx 16) c rd ra imm ∧
      coreOp c (encI 0x12 rd ra imm) = opLoad 2 id c rd ra imm ∧
      coreOp c (encI 0x13 rd ra imm) = opLoad 1 (sx 8) c rd ra imm ∧
      coreOp c (encI 0x14 rd ra imm) = opLoad 1 id c rd ra imm ∧
      coreOp c (encI 0x15 rd ra imm) = opStore 4 c rd ra imm ∧
      coreOp c (encI 0x16 rd ra imm) = opStore 2 c rd ra imm ∧
      coreOp c (encI 0x17 rd ra imm) = opStore 1 c rd ra imm ∧
      coreOp c (encI 0x18 rd ra imm) = opLdwp c rd ra imm ∧
      coreOp c (encI 0x19 rd ra imm) = opStwp c rd ra imm ∧
      coreOp c (encS 0x1A mask) = opPushm c mask ∧
      coreOp c (encS 0x1B mask) = opPopm c mask ∧
      coreOp c (encP 0x1C rd ra b (imm % 2 ^ 12)) = opIn c rd ra b (imm % 2 ^ 12) ∧
      coreOp c (encP 0x1D rd ra b (imm % 2 ^ 12)) = opOut c rd ra b (imm % 2 ^ 12) ∧
      coreOp c (encM 0x20 rd off) = opBcond c rd off ∧
      coreOp c (encJ 0x21 far) = opJmp c far ∧
      coreOp c (encJ 0x22 far) = opCall c far ∧
      coreOp c (encR 0x23 0x00 0 ra 0 0) = opJr c ra ∧
      coreOp c (encR 0x23 0x01 0 ra 0 0) = opCallr c ra ∧
      (∀ s, coreOp c (encR 0x24 0x00 0 0 0 0) s = .done s) ∧
      coreOp c (encR 0x24 0x01 0 0 0 0) = opYield c ∧
      coreOp c (encR 0x24 0x02 0 0 0 0) = opWfi c ∧
      coreOp c (encR 0x24 0x03 0 0 0 0) = opRete c ∧
      (∀ s, coreOp c (encR 0x24 0x04 0 0 0 (imm % 256)) s = .exc s exTrap (imm % 256) 0) ∧
      coreOp c (encR 0x24 0x05 0 0 0 0) = opBrk c ∧
      (∀ s, coreOp c (encR 0x24 0x06 0 0 0 0) s = .done s) ∧
      coreOp c (encI 0x25 0 ra imm) = opRep c ra imm ∧
      coreOp c (encX b 0 ra rb (rd + 16 * b2.toNat) (rb + 16 * b.toNat)) = opMacxy 0 c b ra rb (rd + 16 * b2.toNat) (rb + 16 * b.toNat) ∧
      coreOp c (encX b 1 ra rb (rd + 16 * b2.toNat) (rb + 16 * b.toNat)) = opMacxy 1 c b ra rb (rd + 16 * b2.toNat) (rb + 16 * b.toNat) ∧
      coreOp c (encX b 2 ra rb (rd + 16 * b2.toNat) (rb + 16 * b.toNat)) = opMacxy 2 c b ra rb (rd + 16 * b2.toNat) (rb + 16 * b.toNat) ∧
      coreOp c (encX b 3 ra rb (rd + 16 * b2.toNat) (rb + 16 * b.toNat)) = opMacxy 3 c b ra rb (rd + 16 * b2.toNat) (rb + 16 * b.toNat) ∧
      coreOp c (encA 0x00 0 ra rb b false 0) = opMacr 0 c b ra rb ∧
      coreOp c (encA 0x01 0 ra rb b false 0) = opMacr 1 c b ra rb ∧
      coreOp c (encA 0x02 0 ra rb b false 0) = opMacr 2 c b ra rb ∧
      coreOp c (encA 0x03 0 ra rb b false 0) = opMacr 3 c b ra rb ∧
      coreOp c (encA 0x04 0 0 0 b false 0) = opAclr c b ∧
      coreOp c (encA 0x05 0 0 0 b false 0) = opAmov c b ∧
      coreOp c (encA 0x06 0 0 0 b b2 0) = opAadd c b b2 ∧
      coreOp c (encA 0x07 0 0 0 b b2 (imm % 64)) = opAsh c b b2 (imm % 64) ∧
      coreOp c (encA 0x08 rd 0 0 b b2 (imm % 64)) = opAext c rd b b2 (imm % 64) ∧
      coreOp c (encA 0x09 rd 0 0 b false (imm % 64)) = opArd c rd b (imm % 64) ∧
      coreOp c (encA 0x0A 0 ra 0 b false (imm % 64)) = opAwr c b ra (imm % 64) ∧
      (∀ n, n < 4 → coreOp c (encC n rd ra 0 0) = opWait c n rd ra ∧ coreOp c (encC n rd ra 0 1) = opPoll c n rd ra ∧ coreOp c (encC n rd ra 0 2) = opCpCancel c n rd ra) ∧
      coreOp c (encC 0 rd ra rb 0x0100) = opDataTx c rd ra rb ∧
      coreOp c (encC 0 rd ra rb 0x0101) = opDataRx c rd ra rb ∧
      coreOp c (encC 1 rd ra rb 0x0100) = opCompute c rd ra rb ∧
      coreOp c (encC 1 rd ra rb 0x0101) = opVerify c rd ra rb ∧
      coreOp c (encC 2 rd ra rb 0x0100) = opSolve c rd ra rb ∧
      coreOp c (encC 3 rd ra rb 0x0100) = opGet c rd ra rb ∧
      (∀ n s, 4 ≤ n → n < 8 → coreOp c (encC n rd ra rb off) s = .exc s exCoproc n 0)

/-- Seven words, written out bit by bit from the formats of R430 and the opcode tables, are read as ADD g1, g2, g3; ADDI g1, g2, −1; LDW g4, [g14 + 8]; JMP −1; TRAP 0x5A; MAC a1, [g0] + 1, [g1] − 1; and a read of the port CORE_ID: and each is the encoding of its row. -/
def Obligations.WordsWrittenOutAreTheirInstructions : Prop :=
    coreOp 0 0x0048C000 = opRrr addF 0 1 2 3 ∧ coreOp 0 0x044BFFFF = opRi addF 0 1 2 0xFFFFFFFF ∧
      coreOp 0 0x41380008 = opLoad 4 id 0 4 14 8 ∧ coreOp 0 0x87FFFFFF = opJmp 0 0x3FFFFFF ∧
      (∀ s, coreOp 0 0x90001684 s = .exc s exTrap 0x5A 0) ∧ coreOp 0 0xA20087E0 = opMacxy 0 0 true 0 1 1 31 ∧
      coreOp 0 0x70420001 = opIn 0 1 0 true 1 ∧
      encR 0 0 1 2 3 0 = 0x0048C000 ∧ encI 1 1 2 0x3FFFF = 0x044BFFFF ∧ encI 0x10 4 14 8 = 0x41380008 ∧
      encJ 0x21 0x3FFFFFF = 0x87FFFFFF ∧ encR 0x24 4 0 0 0 0x5A = 0x90001684 ∧ encX true 0 0 1 1 31 = 0xA20087E0 ∧
      encP 0x1C 1 0 true 1 = 0x70420001

/-- For every core with REPA 1 that runs a step: after an iteration that completes, RC is one lower and PC stands while RC was above 1; after the last, REPA and RC are 0 and PC advances by 4; with REPA 0 the PC advances by 4. An instruction that may not be repeated raises ILLEGAL with DETAIL 2 under REPA 1, from the state as the fetch leaves it. -/
def Obligations.RepeatedInstructionsCountDown : Prop :=
    (∀ (s : State) (c : Nat), (s.core c).flag pbREPA = true → 1 < (s.core c).rc → (s.core c).psw < 2 ^ 24 →
      ((s.coreAdvance c).core c).rc = (s.core c).rc - 1 ∧ ((s.coreAdvance c).core c).flag pbREPA = true ∧
        ((s.coreAdvance c).core c).pc = (s.core c).pc) ∧
    (∀ (s : State) (c : Nat), (s.core c).flag pbREPA = true → (s.core c).rc ≤ 1 → (s.core c).psw < 2 ^ 24 →
      ((s.coreAdvance c).core c).rc = 0 ∧ ((s.coreAdvance c).core c).flag pbREPA = false ∧
        ((s.coreAdvance c).core c).pc = (s.core c).pc + 4) ∧
    (∀ (s : State) (c : Nat), (s.core c).flag pbREPA = false → ((s.coreAdvance c).core c).pc = (s.core c).pc + 4) ∧
    (∀ (s s' : State) (c : Nat) (op : State → CoreRes), s.coreFetch c = .inr s' → (s'.core c).flag pbREPA = true →
      s.coreRun c false op = s'.coreExcept c exIllegal 2 0)

/-- For every core and value v: an accumulating instruction that forms v leaves the accumulator as the 72-bit pattern of v, whose signed value differs from v by a multiple of 2^72 and is v itself exactly when v lies within −2^71 to 2^71 − 1; AV becomes 1 in the other case and is unchanged in this one; the other accumulator, the registers and the remaining flags are as before. A chain of two sums thus equals the exact sum modulo 2^72. -/
def Obligations.AccumulationIsExactModulo72Bits : Prop :=
    (∀ (s : State) (c : Nat) (a : Bool) (v : Int), ∃ s', s.putAcc c a v = .done s' ∧ (s'.accVal c a - v) % 2 ^ 72 = 0 ∧
      -(2 ^ 71) ≤ s'.accVal c a ∧ s'.accVal c a < 2 ^ 71 ∧
      (s'.core c).flag pbAV = ((s.core c).flag pbAV || decide (¬(-(2 ^ 71) ≤ v ∧ v < 2 ^ 71))) ∧
      (s'.core c).acc (!a) = (s.core c).acc (!a) ∧ (s'.core c).g = (s.core c).g ∧
      (∀ b, b ≠ pbAV → (s'.core c).flag b = (s.core c).flag b)) ∧
    (∀ (s s1 s2 : State) (c x y z w : Nat) (a : Bool), s.macOut c a 0 x y = .done s1 → s1.macOut c a 0 z w = .done s2 →
      (s2.accVal c a - (s.accVal c a + toSigned 32 x * toSigned 32 y + toSigned 32 z * toSigned 32 w)) % 2 ^ 72 = 0)

/-- For every state, token, counter c, frame counter ctr and check outcome ok, with d = (ctr − c) mod 2^32: d = 0 or d ≥ 0x8000_0000 gives REPLAY whatever ok is; else a wrong check value gives BADCHECK; else d above 65,536 gives OUT_OF_REACH; else d up to WIN (1–4,096) gives ACCEPT; else an entry of the token that holds ctr − 1 and is younger than RESYNC_HOLD gives ACCEPT_RESYNC; else the entry (token, ctr) is stored, in place of any other of the token, and the outcome is RESYNC_PEND. How ok comes about (the first four bytes of the CMAC) is not part of this statement. -/
def Obligations.RollingCounterCheckFollowsR301 : Prop :=
    ∀ (s : State) (tok c ctr : Nat) (ok : Bool), ctr < 2 ^ 32 → c < 2 ^ 32 →
      let d := (ctr + 2 ^ 32 - c) % 2 ^ 32
      let o := s.rollJudge tok c ctr ok
      let hold := secT (orOne (s.rd SHU_ROLL_CFG.RESYNC_HOLD))
      let held := ∃ e ∈ s.shu.resync, e.token = tok ∧ e.ctr = (ctr + 2 ^ 32 - 1) % 2 ^ 32 ∧ s.now < e.stamp + hold
      (1 ≤ s.rollWin ∧ s.rollWin ≤ 4096) ∧
      (d = 0 ∨ 0x80000000 ≤ d → o = (rcReplay, s.shu.resync)) ∧
      (0 < d → d < 0x80000000 → ok = false → o = (rcBadCheck, s.shu.resync)) ∧
      (65536 < d → d < 0x80000000 → ok = true → o = (rcOutOfReach, s.shu.resync)) ∧
      (0 < d → d ≤ s.rollWin → ok = true → o = (rcAccept, s.shu.resync)) ∧
      (s.rollWin < d → d ≤ 65536 → ok = true → held → o.1 = rcAcceptResync ∧ ∀ e ∈ o.2, e.token ≠ tok ∧ e ∈ s.shu.resync) ∧
      (s.rollWin < d → d ≤ 65536 → ok = true → ¬held →
        o.1 = rcResyncPend ∧ ({ token := tok, ctr := ctr, stamp := s.now } : Resync) ∈ o.2 ∧
          ∀ e ∈ o.2, e = { token := tok, ctr := ctr, stamp := s.now } ∨ (e.token ≠ tok ∧ e ∈ s.shu.resync))

/-- For every state and token: when the check accepts counter ctr over c (ACCEPT or ACCEPT_RESYNC), the check value was right and ctr lies 1 to 65,536 ahead of c. In every later state, against the counter ctr that the session leaves, the same ctr, the old c and every counter at most 65,536 behind ctr are REPLAY, whatever their check value, and no table of resync entries changes that. -/
def Obligations.AcceptedCountersAreNeverAcceptedAgain : Prop :=
    ∀ (s : State) (tok c ctr : Nat) (ok : Bool), ctr < 2 ^ 32 → c < 2 ^ 32 → (s.rollJudge tok c ctr ok).1 ≤ rcAcceptResync →
      ok = true ∧ 0 < (ctr + 2 ^ 32 - c) % 2 ^ 32 ∧ (ctr + 2 ^ 32 - c) % 2 ^ 32 ≤ 65536 ∧
      ∀ (s2 : State) (ok2 : Bool) (back : Nat), back ≤ 65536 →
        (s2.rollJudge tok ctr ((ctr + 2 ^ 32 - back) % 2 ^ 32) ok2).1 = rcReplay ∧ (s2.rollJudge tok ctr c ok2).1 = rcReplay

/-- For every state and per-token word: LOCK_EFF lies in 1 to 60; a counted failure that brings FAIL to FAIL_MAX leaves a word that is locked in the present minute and in every civil minute up to LOCK_EFF minutes later, and not locked from LOCK_EFF + 1 minutes on (for half the serial range); a failure that stays below FAIL_MAX leaves a word that is not locked; FAIL never exceeds 255. -/
def Obligations.FailuresLockAToken : Prop :=
    ∀ (s : State) (w : Nat), w < 2 ^ 64 →
      let r := s.afterFailure w
      (1 ≤ s.lockEff ∧ s.lockEff ≤ 60) ∧ r.1 ≤ 255 ∧ 1 ≤ r.1 ∧
      (r.1 < s.failMax → ∀ s2 : State, s2.failMax = s.failMax → s2.tokLocked (tokWord (tokCtr w) r.1 r.2) = false) ∧
      (s.failMax ≤ r.1 → ∀ (s2 : State) (k : Nat), s2.failMax = s.failMax →
        s2.civilMin % 2 ^ 24 = (s.civilMin + k) % 2 ^ 24 →
        (k ≤ s.lockEff → s2.tokLocked (tokWord (tokCtr w) r.1 r.2) = true) ∧
        (s.lockEff < k → k < 2 ^ 23 → s2.tokLocked (tokWord (tokCtr w) r.1 r.2) = false))

/-- For every state whose table of flags is in canonical form, and every slot n and flag value: after the flag of n is set, it reads as set, every other slot keeps its flag, the table is in canonical form with NOBODY never listed, and the contents of the slots, the registers, the memories and the sessions are as before. -/
def Obligations.WindowSlotsChangeHandsByRule : Prop :=
    ∀ (s : State) (n v : Nat), SMap.wf s.hif.flags = true → (∀ p ∈ s.hif.flags, p.2 ≠ slotNobody) →
      (s.setFlag n v).slotFlag n = v ∧ (∀ m, m ≠ n → (s.setFlag n v).slotFlag m = s.slotFlag m) ∧
        SMap.wf (s.setFlag n v).hif.flags = true ∧ (∀ p ∈ (s.setFlag n v).hif.flags, p.2 ≠ slotNobody) ∧
        (s.setFlag n v).hif.slots = s.hif.slots ∧ (s.setFlag n v).regs = s.regs ∧ (s.setFlag n v).mem = s.mem ∧
        (s.setFlag n v).ses = s.ses

/-- For w-bit numbers (w at least 1): of two numbers at most one precedes the other, none precedes itself, and two that differ by exactly half the range have no order; eras use w = 8 and civil minutes w = 24, where a precedes b exactly when b − a modulo 2^w lies in 1 to 2^(w−1) − 1. -/
def Obligations.SerialOrderIsAsymmetric : Prop :=
    ∀ (w a b : Nat), 1 ≤ w → a < 2 ^ w → b < 2 ^ w →
      ¬(serialBefore w a b = true ∧ serialBefore w b a = true) ∧ serialBefore w a a = false ∧
        (b = (a + 2 ^ (w - 1)) % 2 ^ w → serialBefore w a b = false ∧ serialBefore w b a = false) ∧
        (serialBefore w a b = true ↔ ∃ d, 1 ≤ d ∧ d ≤ 2 ^ (w - 1) - 1 ∧ b = (a + d) % 2 ^ w)
end

