-- ==== Sys2Proof/Laws/State.lean ====
section
/-! SUPPORT. One lemma per field of State and per update: what each update leaves alone. -/

namespace Sys2Proof.Machine

/-! ## withQueue -/

@[simp] theorem State.withQueue_pending (s : State) (q : List Instr) : (s.withQueue q).pending = q := rfl
@[simp] theorem State.withQueue_regs (s : State) (q : List Instr) : (s.withQueue q).regs = s.regs := rfl
@[simp] theorem State.withQueue_loaded (s : State) (q : List Instr) : (s.withQueue q).loaded = s.loaded := rfl
@[simp] theorem State.withQueue_persist (s : State) (q : List Instr) : (s.withQueue q).persist = s.persist := rfl
@[simp] theorem State.withQueue_latch (s : State) (q : List Instr) : (s.withQueue q).latch = s.latch := rfl
@[simp] theorem State.withQueue_lastRead (s : State) (q : List Instr) : (s.withQueue q).lastRead = s.lastRead := rfl
@[simp] theorem State.withQueue_out (s : State) (q : List Instr) : (s.withQueue q).out = s.out := rfl
@[simp] theorem State.withQueue_entropy (s : State) (q : List Instr) : (s.withQueue q).entropy = s.entropy := rfl
@[simp] theorem State.withQueue_units (s : State) (q : List Instr) : (s.withQueue q).units = s.units := rfl
@[simp] theorem State.withQueue_rfLink (s : State) (q : List Instr) : (s.withQueue q).rfLink = s.rfLink := rfl
@[simp] theorem State.withQueue_msLink (s : State) (q : List Instr) : (s.withQueue q).msLink = s.msLink := rfl
@[simp] theorem State.withQueue_mer (s : State) (q : List Instr) : (s.withQueue q).mer = s.mer := rfl
@[simp] theorem State.withQueue_plt (s : State) (q : List Instr) : (s.withQueue q).plt = s.plt := rfl
@[simp] theorem State.withQueue_ses (s : State) (q : List Instr) : (s.withQueue q).ses = s.ses := rfl
@[simp] theorem State.withQueue_hif (s : State) (q : List Instr) : (s.withQueue q).hif = s.hif := rfl
@[simp] theorem State.withQueue_hel (s : State) (q : List Instr) : (s.withQueue q).hel = s.hel := rfl
@[simp] theorem State.withQueue_lfp (s : State) (q : List Instr) : (s.withQueue q).lfp = s.lfp := rfl
@[simp] theorem State.withQueue_rad (s : State) (q : List Instr) : (s.withQueue q).rad = s.rad := rfl
@[simp] theorem State.withQueue_trn (s : State) (q : List Instr) : (s.withQueue q).trn = s.trn := rfl
@[simp] theorem State.withQueue_alm (s : State) (q : List Instr) : (s.withQueue q).alm = s.alm := rfl
@[simp] theorem State.withQueue_dbx (s : State) (q : List Instr) : (s.withQueue q).dbx = s.dbx := rfl
@[simp] theorem State.withQueue_shu (s : State) (q : List Instr) : (s.withQueue q).shu = s.shu := rfl
@[simp] theorem State.withQueue_eph (s : State) (q : List Instr) : (s.withQueue q).eph = s.eph := rfl
@[simp] theorem State.withQueue_dom (s : State) (q : List Instr) : (s.withQueue q).dom = s.dom := rfl
@[simp] theorem State.withQueue_rng (s : State) (q : List Instr) : (s.withQueue q).rng = s.rng := rfl
@[simp] theorem State.withQueue_kce (s : State) (q : List Instr) : (s.withQueue q).kce = s.kce := rfl
@[simp] theorem State.withQueue_ast (s : State) (q : List Instr) : (s.withQueue q).ast = s.ast := rfl
@[simp] theorem State.withQueue_mem (s : State) (q : List Instr) : (s.withQueue q).mem = s.mem := rfl
@[simp] theorem State.withQueue_fuse (s : State) (q : List Instr) : (s.withQueue q).fuse = s.fuse := rfl
@[simp] theorem State.withQueue_boot (s : State) (q : List Instr) : (s.withQueue q).boot = s.boot := rfl
@[simp] theorem State.withQueue_pwr (s : State) (q : List Instr) : (s.withQueue q).pwr = s.pwr := rfl
@[simp] theorem State.withQueue_bln (s : State) (q : List Instr) : (s.withQueue q).bln = s.bln := rfl
@[simp] theorem State.withQueue_mgt (s : State) (q : List Instr) : (s.withQueue q).mgt = s.mgt := rfl
@[simp] theorem State.withQueue_eye (s : State) (q : List Instr) : (s.withQueue q).eye = s.eye := rfl

/-! ## adv -/

@[simp] theorem State.adv_regs (s : State) (t : Nat) : (s.adv t).regs = s.regs := rfl
@[simp] theorem State.adv_loaded (s : State) (t : Nat) : (s.adv t).loaded = s.loaded := rfl
@[simp] theorem State.adv_persist (s : State) (t : Nat) : (s.adv t).persist = s.persist := rfl
@[simp] theorem State.adv_latch (s : State) (t : Nat) : (s.adv t).latch = s.latch := rfl
@[simp] theorem State.adv_lastRead (s : State) (t : Nat) : (s.adv t).lastRead = s.lastRead := rfl
@[simp] theorem State.adv_out (s : State) (t : Nat) : (s.adv t).out = s.out := rfl
@[simp] theorem State.adv_entropy (s : State) (t : Nat) : (s.adv t).entropy = s.entropy := rfl
@[simp] theorem State.adv_units (s : State) (t : Nat) : (s.adv t).units = s.units := rfl
@[simp] theorem State.adv_rfLink (s : State) (t : Nat) : (s.adv t).rfLink = s.rfLink := rfl
@[simp] theorem State.adv_msLink (s : State) (t : Nat) : (s.adv t).msLink = s.msLink := rfl
@[simp] theorem State.adv_plt (s : State) (t : Nat) : (s.adv t).plt = s.plt := rfl
@[simp] theorem State.adv_ses (s : State) (t : Nat) : (s.adv t).ses = s.ses := rfl
@[simp] theorem State.adv_hif (s : State) (t : Nat) : (s.adv t).hif = s.hif := rfl
@[simp] theorem State.adv_hel (s : State) (t : Nat) : (s.adv t).hel = s.hel := rfl
@[simp] theorem State.adv_lfp (s : State) (t : Nat) : (s.adv t).lfp = s.lfp := rfl
@[simp] theorem State.adv_rad (s : State) (t : Nat) : (s.adv t).rad = s.rad := rfl
@[simp] theorem State.adv_trn (s : State) (t : Nat) : (s.adv t).trn = s.trn := rfl
@[simp] theorem State.adv_alm (s : State) (t : Nat) : (s.adv t).alm = s.alm := rfl
@[simp] theorem State.adv_dbx (s : State) (t : Nat) : (s.adv t).dbx = s.dbx := rfl
@[simp] theorem State.adv_shu (s : State) (t : Nat) : (s.adv t).shu = s.shu := rfl
@[simp] theorem State.adv_eph (s : State) (t : Nat) : (s.adv t).eph = s.eph := rfl
@[simp] theorem State.adv_dom (s : State) (t : Nat) : (s.adv t).dom = s.dom := rfl
@[simp] theorem State.adv_rng (s : State) (t : Nat) : (s.adv t).rng = s.rng := rfl
@[simp] theorem State.adv_kce (s : State) (t : Nat) : (s.adv t).kce = s.kce := rfl
@[simp] theorem State.adv_ast (s : State) (t : Nat) : (s.adv t).ast = s.ast := rfl
@[simp] theorem State.adv_mem (s : State) (t : Nat) : (s.adv t).mem = s.mem := rfl
@[simp] theorem State.adv_fuse (s : State) (t : Nat) : (s.adv t).fuse = s.fuse := rfl
@[simp] theorem State.adv_boot (s : State) (t : Nat) : (s.adv t).boot = s.boot := rfl
@[simp] theorem State.adv_pwr (s : State) (t : Nat) : (s.adv t).pwr = s.pwr := rfl
@[simp] theorem State.adv_bln (s : State) (t : Nat) : (s.adv t).bln = s.bln := rfl
@[simp] theorem State.adv_mgt (s : State) (t : Nat) : (s.adv t).mgt = s.mgt := rfl
@[simp] theorem State.adv_eye (s : State) (t : Nat) : (s.adv t).eye = s.eye := rfl
@[simp] theorem State.adv_pending (s : State) (t : Nat) : (s.adv t).pending = s.pending := rfl

/-! ## setUnitS -/

@[simp] theorem State.setUnitS_regs (s : State) (u : Nat) (x : UnitS) : (s.setUnitS u x).regs = s.regs := rfl
@[simp] theorem State.setUnitS_loaded (s : State) (u : Nat) (x : UnitS) : (s.setUnitS u x).loaded = s.loaded := rfl
@[simp] theorem State.setUnitS_persist (s : State) (u : Nat) (x : UnitS) : (s.setUnitS u x).persist = s.persist := rfl
@[simp] theorem State.setUnitS_latch (s : State) (u : Nat) (x : UnitS) : (s.setUnitS u x).latch = s.latch := rfl
@[simp] theorem State.setUnitS_lastRead (s : State) (u : Nat) (x : UnitS) : (s.setUnitS u x).lastRead = s.lastRead := rfl
@[simp] theorem State.setUnitS_out (s : State) (u : Nat) (x : UnitS) : (s.setUnitS u x).out = s.out := rfl
@[simp] theorem State.setUnitS_entropy (s : State) (u : Nat) (x : UnitS) : (s.setUnitS u x).entropy = s.entropy := rfl
@[simp] theorem State.setUnitS_rfLink (s : State) (u : Nat) (x : UnitS) : (s.setUnitS u x).rfLink = s.rfLink := rfl
@[simp] theorem State.setUnitS_msLink (s : State) (u : Nat) (x : UnitS) : (s.setUnitS u x).msLink = s.msLink := rfl
@[simp] theorem State.setUnitS_mer (s : State) (u : Nat) (x : UnitS) : (s.setUnitS u x).mer = s.mer := rfl
@[simp] theorem State.setUnitS_plt (s : State) (u : Nat) (x : UnitS) : (s.setUnitS u x).plt = s.plt := rfl
@[simp] theorem State.setUnitS_ses (s : State) (u : Nat) (x : UnitS) : (s.setUnitS u x).ses = s.ses := rfl
@[simp] theorem State.setUnitS_hif (s : State) (u : Nat) (x : UnitS) : (s.setUnitS u x).hif = s.hif := rfl
@[simp] theorem State.setUnitS_hel (s : State) (u : Nat) (x : UnitS) : (s.setUnitS u x).hel = s.hel := rfl
@[simp] theorem State.setUnitS_lfp (s : State) (u : Nat) (x : UnitS) : (s.setUnitS u x).lfp = s.lfp := rfl
@[simp] theorem State.setUnitS_rad (s : State) (u : Nat) (x : UnitS) : (s.setUnitS u x).rad = s.rad := rfl
@[simp] theorem State.setUnitS_trn (s : State) (u : Nat) (x : UnitS) : (s.setUnitS u x).trn = s.trn := rfl
@[simp] theorem State.setUnitS_alm (s : State) (u : Nat) (x : UnitS) : (s.setUnitS u x).alm = s.alm := rfl
@[simp] theorem State.setUnitS_dbx (s : State) (u : Nat) (x : UnitS) : (s.setUnitS u x).dbx = s.dbx := rfl
@[simp] theorem State.setUnitS_shu (s : State) (u : Nat) (x : UnitS) : (s.setUnitS u x).shu = s.shu := rfl
@[simp] theorem State.setUnitS_eph (s : State) (u : Nat) (x : UnitS) : (s.setUnitS u x).eph = s.eph := rfl
@[simp] theorem State.setUnitS_dom (s : State) (u : Nat) (x : UnitS) : (s.setUnitS u x).dom = s.dom := rfl
@[simp] theorem State.setUnitS_rng (s : State) (u : Nat) (x : UnitS) : (s.setUnitS u x).rng = s.rng := rfl
@[simp] theorem State.setUnitS_kce (s : State) (u : Nat) (x : UnitS) : (s.setUnitS u x).kce = s.kce := rfl
@[simp] theorem State.setUnitS_ast (s : State) (u : Nat) (x : UnitS) : (s.setUnitS u x).ast = s.ast := rfl
@[simp] theorem State.setUnitS_mem (s : State) (u : Nat) (x : UnitS) : (s.setUnitS u x).mem = s.mem := rfl
@[simp] theorem State.setUnitS_fuse (s : State) (u : Nat) (x : UnitS) : (s.setUnitS u x).fuse = s.fuse := rfl
@[simp] theorem State.setUnitS_boot (s : State) (u : Nat) (x : UnitS) : (s.setUnitS u x).boot = s.boot := rfl
@[simp] theorem State.setUnitS_pwr (s : State) (u : Nat) (x : UnitS) : (s.setUnitS u x).pwr = s.pwr := rfl
@[simp] theorem State.setUnitS_bln (s : State) (u : Nat) (x : UnitS) : (s.setUnitS u x).bln = s.bln := rfl
@[simp] theorem State.setUnitS_mgt (s : State) (u : Nat) (x : UnitS) : (s.setUnitS u x).mgt = s.mgt := rfl
@[simp] theorem State.setUnitS_eye (s : State) (u : Nat) (x : UnitS) : (s.setUnitS u x).eye = s.eye := rfl
@[simp] theorem State.setUnitS_pending (s : State) (u : Nat) (x : UnitS) : (s.setUnitS u x).pending = s.pending := rfl

/-! ## updCore -/

@[simp] theorem State.updCore_regs (s : State) (c : Nat) (f : Core → Core) : (s.updCore c f).regs = s.regs := rfl
@[simp] theorem State.updCore_loaded (s : State) (c : Nat) (f : Core → Core) : (s.updCore c f).loaded = s.loaded := rfl
@[simp] theorem State.updCore_persist (s : State) (c : Nat) (f : Core → Core) : (s.updCore c f).persist = s.persist := rfl
@[simp] theorem State.updCore_latch (s : State) (c : Nat) (f : Core → Core) : (s.updCore c f).latch = s.latch := rfl
@[simp] theorem State.updCore_lastRead (s : State) (c : Nat) (f : Core → Core) : (s.updCore c f).lastRead = s.lastRead := rfl
@[simp] theorem State.updCore_out (s : State) (c : Nat) (f : Core → Core) : (s.updCore c f).out = s.out := rfl
@[simp] theorem State.updCore_entropy (s : State) (c : Nat) (f : Core → Core) : (s.updCore c f).entropy = s.entropy := rfl
@[simp] theorem State.updCore_units (s : State) (c : Nat) (f : Core → Core) : (s.updCore c f).units = s.units := rfl
@[simp] theorem State.updCore_rfLink (s : State) (c : Nat) (f : Core → Core) : (s.updCore c f).rfLink = s.rfLink := rfl
@[simp] theorem State.updCore_msLink (s : State) (c : Nat) (f : Core → Core) : (s.updCore c f).msLink = s.msLink := rfl
@[simp] theorem State.updCore_mer (s : State) (c : Nat) (f : Core → Core) : (s.updCore c f).mer = s.mer := rfl
@[simp] theorem State.updCore_plt (s : State) (c : Nat) (f : Core → Core) : (s.updCore c f).plt = s.plt := rfl
@[simp] theorem State.updCore_ses (s : State) (c : Nat) (f : Core → Core) : (s.updCore c f).ses = s.ses := rfl
@[simp] theorem State.updCore_hif (s : State) (c : Nat) (f : Core → Core) : (s.updCore c f).hif = s.hif := rfl
@[simp] theorem State.updCore_hel (s : State) (c : Nat) (f : Core → Core) : (s.updCore c f).hel = s.hel := rfl
@[simp] theorem State.updCore_lfp (s : State) (c : Nat) (f : Core → Core) : (s.updCore c f).lfp = s.lfp := rfl
@[simp] theorem State.updCore_rad (s : State) (c : Nat) (f : Core → Core) : (s.updCore c f).rad = s.rad := rfl
@[simp] theorem State.updCore_trn (s : State) (c : Nat) (f : Core → Core) : (s.updCore c f).trn = s.trn := rfl
@[simp] theorem State.updCore_alm (s : State) (c : Nat) (f : Core → Core) : (s.updCore c f).alm = s.alm := rfl
@[simp] theorem State.updCore_dbx (s : State) (c : Nat) (f : Core → Core) : (s.updCore c f).dbx = s.dbx := rfl
@[simp] theorem State.updCore_shu (s : State) (c : Nat) (f : Core → Core) : (s.updCore c f).shu = s.shu := rfl
@[simp] theorem State.updCore_eph (s : State) (c : Nat) (f : Core → Core) : (s.updCore c f).eph = s.eph := rfl
@[simp] theorem State.updCore_dom (s : State) (c : Nat) (f : Core → Core) : (s.updCore c f).dom = s.dom := rfl
@[simp] theorem State.updCore_rng (s : State) (c : Nat) (f : Core → Core) : (s.updCore c f).rng = s.rng := rfl
@[simp] theorem State.updCore_kce (s : State) (c : Nat) (f : Core → Core) : (s.updCore c f).kce = s.kce := rfl
@[simp] theorem State.updCore_mem (s : State) (c : Nat) (f : Core → Core) : (s.updCore c f).mem = s.mem := rfl
@[simp] theorem State.updCore_fuse (s : State) (c : Nat) (f : Core → Core) : (s.updCore c f).fuse = s.fuse := rfl
@[simp] theorem State.updCore_boot (s : State) (c : Nat) (f : Core → Core) : (s.updCore c f).boot = s.boot := rfl
@[simp] theorem State.updCore_pwr (s : State) (c : Nat) (f : Core → Core) : (s.updCore c f).pwr = s.pwr := rfl
@[simp] theorem State.updCore_bln (s : State) (c : Nat) (f : Core → Core) : (s.updCore c f).bln = s.bln := rfl
@[simp] theorem State.updCore_mgt (s : State) (c : Nat) (f : Core → Core) : (s.updCore c f).mgt = s.mgt := rfl
@[simp] theorem State.updCore_eye (s : State) (c : Nat) (f : Core → Core) : (s.updCore c f).eye = s.eye := rfl
@[simp] theorem State.updCore_pending (s : State) (c : Nat) (f : Core → Core) : (s.updCore c f).pending = s.pending := rfl

/-! ## setFlag -/

@[simp] theorem State.setFlag_regs (s : State) (n v : Nat) : (s.setFlag n v).regs = s.regs := rfl
@[simp] theorem State.setFlag_loaded (s : State) (n v : Nat) : (s.setFlag n v).loaded = s.loaded := rfl
@[simp] theorem State.setFlag_persist (s : State) (n v : Nat) : (s.setFlag n v).persist = s.persist := rfl
@[simp] theorem State.setFlag_latch (s : State) (n v : Nat) : (s.setFlag n v).latch = s.latch := rfl
@[simp] theorem State.setFlag_lastRead (s : State) (n v : Nat) : (s.setFlag n v).lastRead = s.lastRead := rfl
@[simp] theorem State.setFlag_out (s : State) (n v : Nat) : (s.setFlag n v).out = s.out := rfl
@[simp] theorem State.setFlag_entropy (s : State) (n v : Nat) : (s.setFlag n v).entropy = s.entropy := rfl
@[simp] theorem State.setFlag_units (s : State) (n v : Nat) : (s.setFlag n v).units = s.units := rfl
@[simp] theorem State.setFlag_rfLink (s : State) (n v : Nat) : (s.setFlag n v).rfLink = s.rfLink := rfl
@[simp] theorem State.setFlag_msLink (s : State) (n v : Nat) : (s.setFlag n v).msLink = s.msLink := rfl
@[simp] theorem State.setFlag_mer (s : State) (n v : Nat) : (s.setFlag n v).mer = s.mer := rfl
@[simp] theorem State.setFlag_plt (s : State) (n v : Nat) : (s.setFlag n v).plt = s.plt := rfl
@[simp] theorem State.setFlag_ses (s : State) (n v : Nat) : (s.setFlag n v).ses = s.ses := rfl
@[simp] theorem State.setFlag_hel (s : State) (n v : Nat) : (s.setFlag n v).hel = s.hel := rfl
@[simp] theorem State.setFlag_lfp (s : State) (n v : Nat) : (s.setFlag n v).lfp = s.lfp := rfl
@[simp] theorem State.setFlag_rad (s : State) (n v : Nat) : (s.setFlag n v).rad = s.rad := rfl
@[simp] theorem State.setFlag_trn (s : State) (n v : Nat) : (s.setFlag n v).trn = s.trn := rfl
@[simp] theorem State.setFlag_alm (s : State) (n v : Nat) : (s.setFlag n v).alm = s.alm := rfl
@[simp] theorem State.setFlag_dbx (s : State) (n v : Nat) : (s.setFlag n v).dbx = s.dbx := rfl
@[simp] theorem State.setFlag_shu (s : State) (n v : Nat) : (s.setFlag n v).shu = s.shu := rfl
@[simp] theorem State.setFlag_eph (s : State) (n v : Nat) : (s.setFlag n v).eph = s.eph := rfl
@[simp] theorem State.setFlag_dom (s : State) (n v : Nat) : (s.setFlag n v).dom = s.dom := rfl
@[simp] theorem State.setFlag_rng (s : State) (n v : Nat) : (s.setFlag n v).rng = s.rng := rfl
@[simp] theorem State.setFlag_kce (s : State) (n v : Nat) : (s.setFlag n v).kce = s.kce := rfl
@[simp] theorem State.setFlag_ast (s : State) (n v : Nat) : (s.setFlag n v).ast = s.ast := rfl
@[simp] theorem State.setFlag_mem (s : State) (n v : Nat) : (s.setFlag n v).mem = s.mem := rfl
@[simp] theorem State.setFlag_fuse (s : State) (n v : Nat) : (s.setFlag n v).fuse = s.fuse := rfl
@[simp] theorem State.setFlag_boot (s : State) (n v : Nat) : (s.setFlag n v).boot = s.boot := rfl
@[simp] theorem State.setFlag_pwr (s : State) (n v : Nat) : (s.setFlag n v).pwr = s.pwr := rfl
@[simp] theorem State.setFlag_bln (s : State) (n v : Nat) : (s.setFlag n v).bln = s.bln := rfl
@[simp] theorem State.setFlag_mgt (s : State) (n v : Nat) : (s.setFlag n v).mgt = s.mgt := rfl
@[simp] theorem State.setFlag_eye (s : State) (n v : Nat) : (s.setFlag n v).eye = s.eye := rfl
@[simp] theorem State.setFlag_pending (s : State) (n v : Nat) : (s.setFlag n v).pending = s.pending := rfl

/-! ## fillSlot -/

@[simp] theorem State.fillSlot_regs (s : State) (n : Nat) (d : List Byte) : (s.fillSlot n d).regs = s.regs := rfl
@[simp] theorem State.fillSlot_loaded (s : State) (n : Nat) (d : List Byte) : (s.fillSlot n d).loaded = s.loaded := rfl
@[simp] theorem State.fillSlot_persist (s : State) (n : Nat) (d : List Byte) : (s.fillSlot n d).persist = s.persist := rfl
@[simp] theorem State.fillSlot_latch (s : State) (n : Nat) (d : List Byte) : (s.fillSlot n d).latch = s.latch := rfl
@[simp] theorem State.fillSlot_lastRead (s : State) (n : Nat) (d : List Byte) : (s.fillSlot n d).lastRead = s.lastRead := rfl
@[simp] theorem State.fillSlot_out (s : State) (n : Nat) (d : List Byte) : (s.fillSlot n d).out = s.out := rfl
@[simp] theorem State.fillSlot_entropy (s : State) (n : Nat) (d : List Byte) : (s.fillSlot n d).entropy = s.entropy := rfl
@[simp] theorem State.fillSlot_units (s : State) (n : Nat) (d : List Byte) : (s.fillSlot n d).units = s.units := rfl
@[simp] theorem State.fillSlot_rfLink (s : State) (n : Nat) (d : List Byte) : (s.fillSlot n d).rfLink = s.rfLink := rfl
@[simp] theorem State.fillSlot_msLink (s : State) (n : Nat) (d : List Byte) : (s.fillSlot n d).msLink = s.msLink := rfl
@[simp] theorem State.fillSlot_mer (s : State) (n : Nat) (d : List Byte) : (s.fillSlot n d).mer = s.mer := rfl
@[simp] theorem State.fillSlot_plt (s : State) (n : Nat) (d : List Byte) : (s.fillSlot n d).plt = s.plt := rfl
@[simp] theorem State.fillSlot_ses (s : State) (n : Nat) (d : List Byte) : (s.fillSlot n d).ses = s.ses := rfl
@[simp] theorem State.fillSlot_hel (s : State) (n : Nat) (d : List Byte) : (s.fillSlot n d).hel = s.hel := rfl
@[simp] theorem State.fillSlot_lfp (s : State) (n : Nat) (d : List Byte) : (s.fillSlot n d).lfp = s.lfp := rfl
@[simp] theorem State.fillSlot_rad (s : State) (n : Nat) (d : List Byte) : (s.fillSlot n d).rad = s.rad := rfl
@[simp] theorem State.fillSlot_trn (s : State) (n : Nat) (d : List Byte) : (s.fillSlot n d).trn = s.trn := rfl
@[simp] theorem State.fillSlot_alm (s : State) (n : Nat) (d : List Byte) : (s.fillSlot n d).alm = s.alm := rfl
@[simp] theorem State.fillSlot_dbx (s : State) (n : Nat) (d : List Byte) : (s.fillSlot n d).dbx = s.dbx := rfl
@[simp] theorem State.fillSlot_shu (s : State) (n : Nat) (d : List Byte) : (s.fillSlot n d).shu = s.shu := rfl
@[simp] theorem State.fillSlot_eph (s : State) (n : Nat) (d : List Byte) : (s.fillSlot n d).eph = s.eph := rfl
@[simp] theorem State.fillSlot_dom (s : State) (n : Nat) (d : List Byte) : (s.fillSlot n d).dom = s.dom := rfl
@[simp] theorem State.fillSlot_rng (s : State) (n : Nat) (d : List Byte) : (s.fillSlot n d).rng = s.rng := rfl
@[simp] theorem State.fillSlot_kce (s : State) (n : Nat) (d : List Byte) : (s.fillSlot n d).kce = s.kce := rfl
@[simp] theorem State.fillSlot_ast (s : State) (n : Nat) (d : List Byte) : (s.fillSlot n d).ast = s.ast := rfl
@[simp] theorem State.fillSlot_mem (s : State) (n : Nat) (d : List Byte) : (s.fillSlot n d).mem = s.mem := rfl
@[simp] theorem State.fillSlot_fuse (s : State) (n : Nat) (d : List Byte) : (s.fillSlot n d).fuse = s.fuse := rfl
@[simp] theorem State.fillSlot_boot (s : State) (n : Nat) (d : List Byte) : (s.fillSlot n d).boot = s.boot := rfl
@[simp] theorem State.fillSlot_pwr (s : State) (n : Nat) (d : List Byte) : (s.fillSlot n d).pwr = s.pwr := rfl
@[simp] theorem State.fillSlot_bln (s : State) (n : Nat) (d : List Byte) : (s.fillSlot n d).bln = s.bln := rfl
@[simp] theorem State.fillSlot_mgt (s : State) (n : Nat) (d : List Byte) : (s.fillSlot n d).mgt = s.mgt := rfl
@[simp] theorem State.fillSlot_eye (s : State) (n : Nat) (d : List Byte) : (s.fillSlot n d).eye = s.eye := rfl
@[simp] theorem State.fillSlot_pending (s : State) (n : Nat) (d : List Byte) : (s.fillSlot n d).pending = s.pending := rfl

/-! ## send -/

@[simp] theorem State.send_regs (s : State) (l : List Byte) : (s.send l).regs = s.regs := rfl
@[simp] theorem State.send_loaded (s : State) (l : List Byte) : (s.send l).loaded = s.loaded := rfl
@[simp] theorem State.send_persist (s : State) (l : List Byte) : (s.send l).persist = s.persist := rfl
@[simp] theorem State.send_latch (s : State) (l : List Byte) : (s.send l).latch = s.latch := rfl
@[simp] theorem State.send_lastRead (s : State) (l : List Byte) : (s.send l).lastRead = s.lastRead := rfl
@[simp] theorem State.send_entropy (s : State) (l : List Byte) : (s.send l).entropy = s.entropy := rfl
@[simp] theorem State.send_units (s : State) (l : List Byte) : (s.send l).units = s.units := rfl
@[simp] theorem State.send_rfLink (s : State) (l : List Byte) : (s.send l).rfLink = s.rfLink := rfl
@[simp] theorem State.send_msLink (s : State) (l : List Byte) : (s.send l).msLink = s.msLink := rfl
@[simp] theorem State.send_mer (s : State) (l : List Byte) : (s.send l).mer = s.mer := rfl
@[simp] theorem State.send_plt (s : State) (l : List Byte) : (s.send l).plt = s.plt := rfl
@[simp] theorem State.send_ses (s : State) (l : List Byte) : (s.send l).ses = s.ses := rfl
@[simp] theorem State.send_hif (s : State) (l : List Byte) : (s.send l).hif = s.hif := rfl
@[simp] theorem State.send_hel (s : State) (l : List Byte) : (s.send l).hel = s.hel := rfl
@[simp] theorem State.send_lfp (s : State) (l : List Byte) : (s.send l).lfp = s.lfp := rfl
@[simp] theorem State.send_rad (s : State) (l : List Byte) : (s.send l).rad = s.rad := rfl
@[simp] theorem State.send_trn (s : State) (l : List Byte) : (s.send l).trn = s.trn := rfl
@[simp] theorem State.send_alm (s : State) (l : List Byte) : (s.send l).alm = s.alm := rfl
@[simp] theorem State.send_dbx (s : State) (l : List Byte) : (s.send l).dbx = s.dbx := rfl
@[simp] theorem State.send_shu (s : State) (l : List Byte) : (s.send l).shu = s.shu := rfl
@[simp] theorem State.send_eph (s : State) (l : List Byte) : (s.send l).eph = s.eph := rfl
@[simp] theorem State.send_dom (s : State) (l : List Byte) : (s.send l).dom = s.dom := rfl
@[simp] theorem State.send_rng (s : State) (l : List Byte) : (s.send l).rng = s.rng := rfl
@[simp] theorem State.send_kce (s : State) (l : List Byte) : (s.send l).kce = s.kce := rfl
@[simp] theorem State.send_ast (s : State) (l : List Byte) : (s.send l).ast = s.ast := rfl
@[simp] theorem State.send_mem (s : State) (l : List Byte) : (s.send l).mem = s.mem := rfl
@[simp] theorem State.send_fuse (s : State) (l : List Byte) : (s.send l).fuse = s.fuse := rfl
@[simp] theorem State.send_boot (s : State) (l : List Byte) : (s.send l).boot = s.boot := rfl
@[simp] theorem State.send_pwr (s : State) (l : List Byte) : (s.send l).pwr = s.pwr := rfl
@[simp] theorem State.send_bln (s : State) (l : List Byte) : (s.send l).bln = s.bln := rfl
@[simp] theorem State.send_mgt (s : State) (l : List Byte) : (s.send l).mgt = s.mgt := rfl
@[simp] theorem State.send_eye (s : State) (l : List Byte) : (s.send l).eye = s.eye := rfl
@[simp] theorem State.send_pending (s : State) (l : List Byte) : (s.send l).pending = s.pending := rfl

/-! ## answerCode -/

@[simp] theorem State.answerCode_regs (s : State) (p v : Nat) : (s.answerCode p v).regs = s.regs := rfl
@[simp] theorem State.answerCode_loaded (s : State) (p v : Nat) : (s.answerCode p v).loaded = s.loaded := rfl
@[simp] theorem State.answerCode_persist (s : State) (p v : Nat) : (s.answerCode p v).persist = s.persist := rfl
@[simp] theorem State.answerCode_latch (s : State) (p v : Nat) : (s.answerCode p v).latch = s.latch := rfl
@[simp] theorem State.answerCode_out (s : State) (p v : Nat) : (s.answerCode p v).out = s.out := rfl
@[simp] theorem State.answerCode_entropy (s : State) (p v : Nat) : (s.answerCode p v).entropy = s.entropy := rfl
@[simp] theorem State.answerCode_units (s : State) (p v : Nat) : (s.answerCode p v).units = s.units := rfl
@[simp] theorem State.answerCode_rfLink (s : State) (p v : Nat) : (s.answerCode p v).rfLink = s.rfLink := rfl
@[simp] theorem State.answerCode_msLink (s : State) (p v : Nat) : (s.answerCode p v).msLink = s.msLink := rfl
@[simp] theorem State.answerCode_mer (s : State) (p v : Nat) : (s.answerCode p v).mer = s.mer := rfl
@[simp] theorem State.answerCode_plt (s : State) (p v : Nat) : (s.answerCode p v).plt = s.plt := rfl
@[simp] theorem State.answerCode_ses (s : State) (p v : Nat) : (s.answerCode p v).ses = s.ses := rfl
@[simp] theorem State.answerCode_hif (s : State) (p v : Nat) : (s.answerCode p v).hif = s.hif := rfl
@[simp] theorem State.answerCode_hel (s : State) (p v : Nat) : (s.answerCode p v).hel = s.hel := rfl
@[simp] theorem State.answerCode_lfp (s : State) (p v : Nat) : (s.answerCode p v).lfp = s.lfp := rfl
@[simp] theorem State.answerCode_rad (s : State) (p v : Nat) : (s.answerCode p v).rad = s.rad := rfl
@[simp] theorem State.answerCode_trn (s : State) (p v : Nat) : (s.answerCode p v).trn = s.trn := rfl
@[simp] theorem State.answerCode_alm (s : State) (p v : Nat) : (s.answerCode p v).alm = s.alm := rfl
@[simp] theorem State.answerCode_dbx (s : State) (p v : Nat) : (s.answerCode p v).dbx = s.dbx := rfl
@[simp] theorem State.answerCode_shu (s : State) (p v : Nat) : (s.answerCode p v).shu = s.shu := rfl
@[simp] theorem State.answerCode_eph (s : State) (p v : Nat) : (s.answerCode p v).eph = s.eph := rfl
@[simp] theorem State.answerCode_dom (s : State) (p v : Nat) : (s.answerCode p v).dom = s.dom := rfl
@[simp] theorem State.answerCode_rng (s : State) (p v : Nat) : (s.answerCode p v).rng = s.rng := rfl
@[simp] theorem State.answerCode_kce (s : State) (p v : Nat) : (s.answerCode p v).kce = s.kce := rfl
@[simp] theorem State.answerCode_ast (s : State) (p v : Nat) : (s.answerCode p v).ast = s.ast := rfl
@[simp] theorem State.answerCode_mem (s : State) (p v : Nat) : (s.answerCode p v).mem = s.mem := rfl
@[simp] theorem State.answerCode_fuse (s : State) (p v : Nat) : (s.answerCode p v).fuse = s.fuse := rfl
@[simp] theorem State.answerCode_boot (s : State) (p v : Nat) : (s.answerCode p v).boot = s.boot := rfl
@[simp] theorem State.answerCode_pwr (s : State) (p v : Nat) : (s.answerCode p v).pwr = s.pwr := rfl
@[simp] theorem State.answerCode_bln (s : State) (p v : Nat) : (s.answerCode p v).bln = s.bln := rfl
@[simp] theorem State.answerCode_mgt (s : State) (p v : Nat) : (s.answerCode p v).mgt = s.mgt := rfl
@[simp] theorem State.answerCode_eye (s : State) (p v : Nat) : (s.answerCode p v).eye = s.eye := rfl
@[simp] theorem State.answerCode_pending (s : State) (p v : Nat) : (s.answerCode p v).pending = s.pending := rfl

/-! ## answerWord -/

@[simp] theorem State.answerWord_regs (s : State) (p v : Nat) : (s.answerWord p v).regs = s.regs := rfl
@[simp] theorem State.answerWord_loaded (s : State) (p v : Nat) : (s.answerWord p v).loaded = s.loaded := rfl
@[simp] theorem State.answerWord_persist (s : State) (p v : Nat) : (s.answerWord p v).persist = s.persist := rfl
@[simp] theorem State.answerWord_latch (s : State) (p v : Nat) : (s.answerWord p v).latch = s.latch := rfl
@[simp] theorem State.answerWord_out (s : State) (p v : Nat) : (s.answerWord p v).out = s.out := rfl
@[simp] theorem State.answerWord_entropy (s : State) (p v : Nat) : (s.answerWord p v).entropy = s.entropy := rfl
@[simp] theorem State.answerWord_units (s : State) (p v : Nat) : (s.answerWord p v).units = s.units := rfl
@[simp] theorem State.answerWord_rfLink (s : State) (p v : Nat) : (s.answerWord p v).rfLink = s.rfLink := rfl
@[simp] theorem State.answerWord_msLink (s : State) (p v : Nat) : (s.answerWord p v).msLink = s.msLink := rfl
@[simp] theorem State.answerWord_mer (s : State) (p v : Nat) : (s.answerWord p v).mer = s.mer := rfl
@[simp] theorem State.answerWord_plt (s : State) (p v : Nat) : (s.answerWord p v).plt = s.plt := rfl
@[simp] theorem State.answerWord_ses (s : State) (p v : Nat) : (s.answerWord p v).ses = s.ses := rfl
@[simp] theorem State.answerWord_hif (s : State) (p v : Nat) : (s.answerWord p v).hif = s.hif := rfl
@[simp] theorem State.answerWord_hel (s : State) (p v : Nat) : (s.answerWord p v).hel = s.hel := rfl
@[simp] theorem State.answerWord_lfp (s : State) (p v : Nat) : (s.answerWord p v).lfp = s.lfp := rfl
@[simp] theorem State.answerWord_rad (s : State) (p v : Nat) : (s.answerWord p v).rad = s.rad := rfl
@[simp] theorem State.answerWord_trn (s : State) (p v : Nat) : (s.answerWord p v).trn = s.trn := rfl
@[simp] theorem State.answerWord_alm (s : State) (p v : Nat) : (s.answerWord p v).alm = s.alm := rfl
@[simp] theorem State.answerWord_dbx (s : State) (p v : Nat) : (s.answerWord p v).dbx = s.dbx := rfl
@[simp] theorem State.answerWord_shu (s : State) (p v : Nat) : (s.answerWord p v).shu = s.shu := rfl
@[simp] theorem State.answerWord_eph (s : State) (p v : Nat) : (s.answerWord p v).eph = s.eph := rfl
@[simp] theorem State.answerWord_dom (s : State) (p v : Nat) : (s.answerWord p v).dom = s.dom := rfl
@[simp] theorem State.answerWord_rng (s : State) (p v : Nat) : (s.answerWord p v).rng = s.rng := rfl
@[simp] theorem State.answerWord_kce (s : State) (p v : Nat) : (s.answerWord p v).kce = s.kce := rfl
@[simp] theorem State.answerWord_ast (s : State) (p v : Nat) : (s.answerWord p v).ast = s.ast := rfl
@[simp] theorem State.answerWord_mem (s : State) (p v : Nat) : (s.answerWord p v).mem = s.mem := rfl
@[simp] theorem State.answerWord_fuse (s : State) (p v : Nat) : (s.answerWord p v).fuse = s.fuse := rfl
@[simp] theorem State.answerWord_boot (s : State) (p v : Nat) : (s.answerWord p v).boot = s.boot := rfl
@[simp] theorem State.answerWord_pwr (s : State) (p v : Nat) : (s.answerWord p v).pwr = s.pwr := rfl
@[simp] theorem State.answerWord_bln (s : State) (p v : Nat) : (s.answerWord p v).bln = s.bln := rfl
@[simp] theorem State.answerWord_mgt (s : State) (p v : Nat) : (s.answerWord p v).mgt = s.mgt := rfl
@[simp] theorem State.answerWord_eye (s : State) (p v : Nat) : (s.answerWord p v).eye = s.eye := rfl
@[simp] theorem State.answerWord_pending (s : State) (p v : Nat) : (s.answerWord p v).pending = s.pending := rfl

/-! ## setCell -/

@[simp] theorem State.setCell_regs (s : State) (a cw : Nat) (x : Option CellSt) : (s.setCell a cw x).regs = s.regs := rfl
@[simp] theorem State.setCell_loaded (s : State) (a cw : Nat) (x : Option CellSt) : (s.setCell a cw x).loaded = s.loaded := rfl
@[simp] theorem State.setCell_persist (s : State) (a cw : Nat) (x : Option CellSt) : (s.setCell a cw x).persist = s.persist := rfl
@[simp] theorem State.setCell_latch (s : State) (a cw : Nat) (x : Option CellSt) : (s.setCell a cw x).latch = s.latch := rfl
@[simp] theorem State.setCell_lastRead (s : State) (a cw : Nat) (x : Option CellSt) : (s.setCell a cw x).lastRead = s.lastRead := rfl
@[simp] theorem State.setCell_out (s : State) (a cw : Nat) (x : Option CellSt) : (s.setCell a cw x).out = s.out := rfl
@[simp] theorem State.setCell_entropy (s : State) (a cw : Nat) (x : Option CellSt) : (s.setCell a cw x).entropy = s.entropy := rfl
@[simp] theorem State.setCell_units (s : State) (a cw : Nat) (x : Option CellSt) : (s.setCell a cw x).units = s.units := rfl
@[simp] theorem State.setCell_rfLink (s : State) (a cw : Nat) (x : Option CellSt) : (s.setCell a cw x).rfLink = s.rfLink := rfl
@[simp] theorem State.setCell_msLink (s : State) (a cw : Nat) (x : Option CellSt) : (s.setCell a cw x).msLink = s.msLink := rfl
@[simp] theorem State.setCell_mer (s : State) (a cw : Nat) (x : Option CellSt) : (s.setCell a cw x).mer = s.mer := rfl
@[simp] theorem State.setCell_plt (s : State) (a cw : Nat) (x : Option CellSt) : (s.setCell a cw x).plt = s.plt := rfl
@[simp] theorem State.setCell_ses (s : State) (a cw : Nat) (x : Option CellSt) : (s.setCell a cw x).ses = s.ses := rfl
@[simp] theorem State.setCell_hif (s : State) (a cw : Nat) (x : Option CellSt) : (s.setCell a cw x).hif = s.hif := rfl
@[simp] theorem State.setCell_hel (s : State) (a cw : Nat) (x : Option CellSt) : (s.setCell a cw x).hel = s.hel := rfl
@[simp] theorem State.setCell_lfp (s : State) (a cw : Nat) (x : Option CellSt) : (s.setCell a cw x).lfp = s.lfp := rfl
@[simp] theorem State.setCell_rad (s : State) (a cw : Nat) (x : Option CellSt) : (s.setCell a cw x).rad = s.rad := rfl
@[simp] theorem State.setCell_trn (s : State) (a cw : Nat) (x : Option CellSt) : (s.setCell a cw x).trn = s.trn := rfl
@[simp] theorem State.setCell_alm (s : State) (a cw : Nat) (x : Option CellSt) : (s.setCell a cw x).alm = s.alm := rfl
@[simp] theorem State.setCell_dbx (s : State) (a cw : Nat) (x : Option CellSt) : (s.setCell a cw x).dbx = s.dbx := rfl
@[simp] theorem State.setCell_shu (s : State) (a cw : Nat) (x : Option CellSt) : (s.setCell a cw x).shu = s.shu := rfl
@[simp] theorem State.setCell_eph (s : State) (a cw : Nat) (x : Option CellSt) : (s.setCell a cw x).eph = s.eph := rfl
@[simp] theorem State.setCell_dom (s : State) (a cw : Nat) (x : Option CellSt) : (s.setCell a cw x).dom = s.dom := rfl
@[simp] theorem State.setCell_rng (s : State) (a cw : Nat) (x : Option CellSt) : (s.setCell a cw x).rng = s.rng := rfl
@[simp] theorem State.setCell_kce (s : State) (a cw : Nat) (x : Option CellSt) : (s.setCell a cw x).kce = s.kce := rfl
@[simp] theorem State.setCell_ast (s : State) (a cw : Nat) (x : Option CellSt) : (s.setCell a cw x).ast = s.ast := rfl
@[simp] theorem State.setCell_fuse (s : State) (a cw : Nat) (x : Option CellSt) : (s.setCell a cw x).fuse = s.fuse := rfl
@[simp] theorem State.setCell_boot (s : State) (a cw : Nat) (x : Option CellSt) : (s.setCell a cw x).boot = s.boot := rfl
@[simp] theorem State.setCell_pwr (s : State) (a cw : Nat) (x : Option CellSt) : (s.setCell a cw x).pwr = s.pwr := rfl
@[simp] theorem State.setCell_bln (s : State) (a cw : Nat) (x : Option CellSt) : (s.setCell a cw x).bln = s.bln := rfl
@[simp] theorem State.setCell_mgt (s : State) (a cw : Nat) (x : Option CellSt) : (s.setCell a cw x).mgt = s.mgt := rfl
@[simp] theorem State.setCell_eye (s : State) (a cw : Nat) (x : Option CellSt) : (s.setCell a cw x).eye = s.eye := rfl
@[simp] theorem State.setCell_pending (s : State) (a cw : Nat) (x : Option CellSt) : (s.setCell a cw x).pending = s.pending := rfl

/-! ## archive -/

@[simp] theorem State.archive_regs (s : State) (k c src n : Nat) (b : List Byte) (r : RecFor) (l : Bool) : (s.archive k c src n b r l).regs = s.regs := rfl
@[simp] theorem State.archive_loaded (s : State) (k c src n : Nat) (b : List Byte) (r : RecFor) (l : Bool) : (s.archive k c src n b r l).loaded = s.loaded := rfl
@[simp] theorem State.archive_persist (s : State) (k c src n : Nat) (b : List Byte) (r : RecFor) (l : Bool) : (s.archive k c src n b r l).persist = s.persist := rfl
@[simp] theorem State.archive_latch (s : State) (k c src n : Nat) (b : List Byte) (r : RecFor) (l : Bool) : (s.archive k c src n b r l).latch = s.latch := rfl
@[simp] theorem State.archive_lastRead (s : State) (k c src n : Nat) (b : List Byte) (r : RecFor) (l : Bool) : (s.archive k c src n b r l).lastRead = s.lastRead := rfl
@[simp] theorem State.archive_out (s : State) (k c src n : Nat) (b : List Byte) (r : RecFor) (l : Bool) : (s.archive k c src n b r l).out = s.out := rfl
@[simp] theorem State.archive_entropy (s : State) (k c src n : Nat) (b : List Byte) (r : RecFor) (l : Bool) : (s.archive k c src n b r l).entropy = s.entropy := rfl
@[simp] theorem State.archive_units (s : State) (k c src n : Nat) (b : List Byte) (r : RecFor) (l : Bool) : (s.archive k c src n b r l).units = s.units := rfl
@[simp] theorem State.archive_rfLink (s : State) (k c src n : Nat) (b : List Byte) (r : RecFor) (l : Bool) : (s.archive k c src n b r l).rfLink = s.rfLink := rfl
@[simp] theorem State.archive_msLink (s : State) (k c src n : Nat) (b : List Byte) (r : RecFor) (l : Bool) : (s.archive k c src n b r l).msLink = s.msLink := rfl
@[simp] theorem State.archive_mer (s : State) (k c src n : Nat) (b : List Byte) (r : RecFor) (l : Bool) : (s.archive k c src n b r l).mer = s.mer := rfl
@[simp] theorem State.archive_ses (s : State) (k c src n : Nat) (b : List Byte) (r : RecFor) (l : Bool) : (s.archive k c src n b r l).ses = s.ses := rfl
@[simp] theorem State.archive_hif (s : State) (k c src n : Nat) (b : List Byte) (r : RecFor) (l : Bool) : (s.archive k c src n b r l).hif = s.hif := rfl
@[simp] theorem State.archive_hel (s : State) (k c src n : Nat) (b : List Byte) (r : RecFor) (l : Bool) : (s.archive k c src n b r l).hel = s.hel := rfl
@[simp] theorem State.archive_lfp (s : State) (k c src n : Nat) (b : List Byte) (r : RecFor) (l : Bool) : (s.archive k c src n b r l).lfp = s.lfp := rfl
@[simp] theorem State.archive_rad (s : State) (k c src n : Nat) (b : List Byte) (r : RecFor) (l : Bool) : (s.archive k c src n b r l).rad = s.rad := rfl
@[simp] theorem State.archive_trn (s : State) (k c src n : Nat) (b : List Byte) (r : RecFor) (l : Bool) : (s.archive k c src n b r l).trn = s.trn := rfl
@[simp] theorem State.archive_alm (s : State) (k c src n : Nat) (b : List Byte) (r : RecFor) (l : Bool) : (s.archive k c src n b r l).alm = s.alm := rfl
@[simp] theorem State.archive_dbx (s : State) (k c src n : Nat) (b : List Byte) (r : RecFor) (l : Bool) : (s.archive k c src n b r l).dbx = s.dbx := rfl
@[simp] theorem State.archive_shu (s : State) (k c src n : Nat) (b : List Byte) (r : RecFor) (l : Bool) : (s.archive k c src n b r l).shu = s.shu := rfl
@[simp] theorem State.archive_eph (s : State) (k c src n : Nat) (b : List Byte) (r : RecFor) (l : Bool) : (s.archive k c src n b r l).eph = s.eph := rfl
@[simp] theorem State.archive_dom (s : State) (k c src n : Nat) (b : List Byte) (r : RecFor) (l : Bool) : (s.archive k c src n b r l).dom = s.dom := rfl
@[simp] theorem State.archive_rng (s : State) (k c src n : Nat) (b : List Byte) (r : RecFor) (l : Bool) : (s.archive k c src n b r l).rng = s.rng := rfl
@[simp] theorem State.archive_kce (s : State) (k c src n : Nat) (b : List Byte) (r : RecFor) (l : Bool) : (s.archive k c src n b r l).kce = s.kce := rfl
@[simp] theorem State.archive_ast (s : State) (k c src n : Nat) (b : List Byte) (r : RecFor) (l : Bool) : (s.archive k c src n b r l).ast = s.ast := rfl
@[simp] theorem State.archive_mem (s : State) (k c src n : Nat) (b : List Byte) (r : RecFor) (l : Bool) : (s.archive k c src n b r l).mem = s.mem := rfl
@[simp] theorem State.archive_fuse (s : State) (k c src n : Nat) (b : List Byte) (r : RecFor) (l : Bool) : (s.archive k c src n b r l).fuse = s.fuse := rfl
@[simp] theorem State.archive_boot (s : State) (k c src n : Nat) (b : List Byte) (r : RecFor) (l : Bool) : (s.archive k c src n b r l).boot = s.boot := rfl
@[simp] theorem State.archive_pwr (s : State) (k c src n : Nat) (b : List Byte) (r : RecFor) (l : Bool) : (s.archive k c src n b r l).pwr = s.pwr := rfl
@[simp] theorem State.archive_bln (s : State) (k c src n : Nat) (b : List Byte) (r : RecFor) (l : Bool) : (s.archive k c src n b r l).bln = s.bln := rfl
@[simp] theorem State.archive_mgt (s : State) (k c src n : Nat) (b : List Byte) (r : RecFor) (l : Bool) : (s.archive k c src n b r l).mgt = s.mgt := rfl
@[simp] theorem State.archive_eye (s : State) (k c src n : Nat) (b : List Byte) (r : RecFor) (l : Bool) : (s.archive k c src n b r l).eye = s.eye := rfl
@[simp] theorem State.archive_pending (s : State) (k c src n : Nat) (b : List Byte) (r : RecFor) (l : Bool) : (s.archive k c src n b r l).pending = s.pending := rfl

/-! ## wr -/

@[simp] theorem State.wr_loaded (s : State) (f : Fld) (v i j : Nat) : (s.wr f v i j).loaded = s.loaded := by
  unfold State.wr; split <;> rfl
@[simp] theorem State.wr_latch (s : State) (f : Fld) (v i j : Nat) : (s.wr f v i j).latch = s.latch := by
  unfold State.wr; split <;> rfl
@[simp] theorem State.wr_lastRead (s : State) (f : Fld) (v i j : Nat) : (s.wr f v i j).lastRead = s.lastRead := by
  unfold State.wr; split <;> rfl
@[simp] theorem State.wr_out (s : State) (f : Fld) (v i j : Nat) : (s.wr f v i j).out = s.out := by
  unfold State.wr; split <;> rfl
@[simp] theorem State.wr_entropy (s : State) (f : Fld) (v i j : Nat) : (s.wr f v i j).entropy = s.entropy := by
  unfold State.wr; split <;> rfl
@[simp] theorem State.wr_units (s : State) (f : Fld) (v i j : Nat) : (s.wr f v i j).units = s.units := by
  unfold State.wr; split <;> rfl
@[simp] theorem State.wr_rfLink (s : State) (f : Fld) (v i j : Nat) : (s.wr f v i j).rfLink = s.rfLink := by
  unfold State.wr; split <;> rfl
@[simp] theorem State.wr_msLink (s : State) (f : Fld) (v i j : Nat) : (s.wr f v i j).msLink = s.msLink := by
  unfold State.wr; split <;> rfl
@[simp] theorem State.wr_mer (s : State) (f : Fld) (v i j : Nat) : (s.wr f v i j).mer = s.mer := by
  unfold State.wr; split <;> rfl
@[simp] theorem State.wr_plt (s : State) (f : Fld) (v i j : Nat) : (s.wr f v i j).plt = s.plt := by
  unfold State.wr; split <;> rfl
@[simp] theorem State.wr_ses (s : State) (f : Fld) (v i j : Nat) : (s.wr f v i j).ses = s.ses := by
  unfold State.wr; split <;> rfl
@[simp] theorem State.wr_hif (s : State) (f : Fld) (v i j : Nat) : (s.wr f v i j).hif = s.hif := by
  unfold State.wr; split <;> rfl
@[simp] theorem State.wr_hel (s : State) (f : Fld) (v i j : Nat) : (s.wr f v i j).hel = s.hel := by
  unfold State.wr; split <;> rfl
@[simp] theorem State.wr_lfp (s : State) (f : Fld) (v i j : Nat) : (s.wr f v i j).lfp = s.lfp := by
  unfold State.wr; split <;> rfl
@[simp] theorem State.wr_rad (s : State) (f : Fld) (v i j : Nat) : (s.wr f v i j).rad = s.rad := by
  unfold State.wr; split <;> rfl
@[simp] theorem State.wr_trn (s : State) (f : Fld) (v i j : Nat) : (s.wr f v i j).trn = s.trn := by
  unfold State.wr; split <;> rfl
@[simp] theorem State.wr_alm (s : State) (f : Fld) (v i j : Nat) : (s.wr f v i j).alm = s.alm := by
  unfold State.wr; split <;> rfl
@[simp] theorem State.wr_dbx (s : State) (f : Fld) (v i j : Nat) : (s.wr f v i j).dbx = s.dbx := by
  unfold State.wr; split <;> rfl
@[simp] theorem State.wr_shu (s : State) (f : Fld) (v i j : Nat) : (s.wr f v i j).shu = s.shu := by
  unfold State.wr; split <;> rfl
@[simp] theorem State.wr_eph (s : State) (f : Fld) (v i j : Nat) : (s.wr f v i j).eph = s.eph := by
  unfold State.wr; split <;> rfl
@[simp] theorem State.wr_dom (s : State) (f : Fld) (v i j : Nat) : (s.wr f v i j).dom = s.dom := by
  unfold State.wr; split <;> rfl
@[simp] theorem State.wr_rng (s : State) (f : Fld) (v i j : Nat) : (s.wr f v i j).rng = s.rng := by
  unfold State.wr; split <;> rfl
@[simp] theorem State.wr_kce (s : State) (f : Fld) (v i j : Nat) : (s.wr f v i j).kce = s.kce := by
  unfold State.wr; split <;> rfl
@[simp] theorem State.wr_ast (s : State) (f : Fld) (v i j : Nat) : (s.wr f v i j).ast = s.ast := by
  unfold State.wr; split <;> rfl
@[simp] theorem State.wr_mem (s : State) (f : Fld) (v i j : Nat) : (s.wr f v i j).mem = s.mem := by
  unfold State.wr; split <;> rfl
@[simp] theorem State.wr_fuse (s : State) (f : Fld) (v i j : Nat) : (s.wr f v i j).fuse = s.fuse := by
  unfold State.wr; split <;> rfl
@[simp] theorem State.wr_boot (s : State) (f : Fld) (v i j : Nat) : (s.wr f v i j).boot = s.boot := by
  unfold State.wr; split <;> rfl
@[simp] theorem State.wr_pwr (s : State) (f : Fld) (v i j : Nat) : (s.wr f v i j).pwr = s.pwr := by
  unfold State.wr; split <;> rfl
@[simp] theorem State.wr_bln (s : State) (f : Fld) (v i j : Nat) : (s.wr f v i j).bln = s.bln := by
  unfold State.wr; split <;> rfl
@[simp] theorem State.wr_mgt (s : State) (f : Fld) (v i j : Nat) : (s.wr f v i j).mgt = s.mgt := by
  unfold State.wr; split <;> rfl
@[simp] theorem State.wr_eye (s : State) (f : Fld) (v i j : Nat) : (s.wr f v i j).eye = s.eye := by
  unfold State.wr; split <;> rfl
@[simp] theorem State.wr_pending (s : State) (f : Fld) (v i j : Nat) : (s.wr f v i j).pending = s.pending := by
  unfold State.wr; split <;> rfl

/-! ## add -/

@[simp] theorem State.add_loaded (s : State) (f : Fld) (n i j : Nat) : (s.add f n i j).loaded = s.loaded := by simp [State.add]
@[simp] theorem State.add_latch (s : State) (f : Fld) (n i j : Nat) : (s.add f n i j).latch = s.latch := by simp [State.add]
@[simp] theorem State.add_lastRead (s : State) (f : Fld) (n i j : Nat) : (s.add f n i j).lastRead = s.lastRead := by simp [State.add]
@[simp] theorem State.add_out (s : State) (f : Fld) (n i j : Nat) : (s.add f n i j).out = s.out := by simp [State.add]
@[simp] theorem State.add_entropy (s : State) (f : Fld) (n i j : Nat) : (s.add f n i j).entropy = s.entropy := by simp [State.add]
@[simp] theorem State.add_units (s : State) (f : Fld) (n i j : Nat) : (s.add f n i j).units = s.units := by simp [State.add]
@[simp] theorem State.add_rfLink (s : State) (f : Fld) (n i j : Nat) : (s.add f n i j).rfLink = s.rfLink := by simp [State.add]
@[simp] theorem State.add_msLink (s : State) (f : Fld) (n i j : Nat) : (s.add f n i j).msLink = s.msLink := by simp [State.add]
@[simp] theorem State.add_mer (s : State) (f : Fld) (n i j : Nat) : (s.add f n i j).mer = s.mer := by simp [State.add]
@[simp] theorem State.add_plt (s : State) (f : Fld) (n i j : Nat) : (s.add f n i j).plt = s.plt := by simp [State.add]
@[simp] theorem State.add_ses (s : State) (f : Fld) (n i j : Nat) : (s.add f n i j).ses = s.ses := by simp [State.add]
@[simp] theorem State.add_hif (s : State) (f : Fld) (n i j : Nat) : (s.add f n i j).hif = s.hif := by simp [State.add]
@[simp] theorem State.add_hel (s : State) (f : Fld) (n i j : Nat) : (s.add f n i j).hel = s.hel := by simp [State.add]
@[simp] theorem State.add_lfp (s : State) (f : Fld) (n i j : Nat) : (s.add f n i j).lfp = s.lfp := by simp [State.add]
@[simp] theorem State.add_rad (s : State) (f : Fld) (n i j : Nat) : (s.add f n i j).rad = s.rad := by simp [State.add]
@[simp] theorem State.add_trn (s : State) (f : Fld) (n i j : Nat) : (s.add f n i j).trn = s.trn := by simp [State.add]
@[simp] theorem State.add_alm (s : State) (f : Fld) (n i j : Nat) : (s.add f n i j).alm = s.alm := by simp [State.add]
@[simp] theorem State.add_dbx (s : State) (f : Fld) (n i j : Nat) : (s.add f n i j).dbx = s.dbx := by simp [State.add]
@[simp] theorem State.add_shu (s : State) (f : Fld) (n i j : Nat) : (s.add f n i j).shu = s.shu := by simp [State.add]
@[simp] theorem State.add_eph (s : State) (f : Fld) (n i j : Nat) : (s.add f n i j).eph = s.eph := by simp [State.add]
@[simp] theorem State.add_dom (s : State) (f : Fld) (n i j : Nat) : (s.add f n i j).dom = s.dom := by simp [State.add]
@[simp] theorem State.add_rng (s : State) (f : Fld) (n i j : Nat) : (s.add f n i j).rng = s.rng := by simp [State.add]
@[simp] theorem State.add_kce (s : State) (f : Fld) (n i j : Nat) : (s.add f n i j).kce = s.kce := by simp [State.add]
@[simp] theorem State.add_ast (s : State) (f : Fld) (n i j : Nat) : (s.add f n i j).ast = s.ast := by simp [State.add]
@[simp] theorem State.add_mem (s : State) (f : Fld) (n i j : Nat) : (s.add f n i j).mem = s.mem := by simp [State.add]
@[simp] theorem State.add_fuse (s : State) (f : Fld) (n i j : Nat) : (s.add f n i j).fuse = s.fuse := by simp [State.add]
@[simp] theorem State.add_boot (s : State) (f : Fld) (n i j : Nat) : (s.add f n i j).boot = s.boot := by simp [State.add]
@[simp] theorem State.add_pwr (s : State) (f : Fld) (n i j : Nat) : (s.add f n i j).pwr = s.pwr := by simp [State.add]
@[simp] theorem State.add_bln (s : State) (f : Fld) (n i j : Nat) : (s.add f n i j).bln = s.bln := by simp [State.add]
@[simp] theorem State.add_mgt (s : State) (f : Fld) (n i j : Nat) : (s.add f n i j).mgt = s.mgt := by simp [State.add]
@[simp] theorem State.add_eye (s : State) (f : Fld) (n i j : Nat) : (s.add f n i j).eye = s.eye := by simp [State.add]
@[simp] theorem State.add_pending (s : State) (f : Fld) (n i j : Nat) : (s.add f n i j).pending = s.pending := by simp [State.add]

/-! ## bump -/

@[simp] theorem State.bump_loaded (s : State) (f : Fld) (i j : Nat) : (s.bump f i j).loaded = s.loaded := by simp [State.bump, State.add]
@[simp] theorem State.bump_latch (s : State) (f : Fld) (i j : Nat) : (s.bump f i j).latch = s.latch := by simp [State.bump, State.add]
@[simp] theorem State.bump_lastRead (s : State) (f : Fld) (i j : Nat) : (s.bump f i j).lastRead = s.lastRead := by simp [State.bump, State.add]
@[simp] theorem State.bump_out (s : State) (f : Fld) (i j : Nat) : (s.bump f i j).out = s.out := by simp [State.bump, State.add]
@[simp] theorem State.bump_entropy (s : State) (f : Fld) (i j : Nat) : (s.bump f i j).entropy = s.entropy := by simp [State.bump, State.add]
@[simp] theorem State.bump_units (s : State) (f : Fld) (i j : Nat) : (s.bump f i j).units = s.units := by simp [State.bump, State.add]
@[simp] theorem State.bump_rfLink (s : State) (f : Fld) (i j : Nat) : (s.bump f i j).rfLink = s.rfLink := by simp [State.bump, State.add]
@[simp] theorem State.bump_msLink (s : State) (f : Fld) (i j : Nat) : (s.bump f i j).msLink = s.msLink := by simp [State.bump, State.add]
@[simp] theorem State.bump_mer (s : State) (f : Fld) (i j : Nat) : (s.bump f i j).mer = s.mer := by simp [State.bump, State.add]
@[simp] theorem State.bump_plt (s : State) (f : Fld) (i j : Nat) : (s.bump f i j).plt = s.plt := by simp [State.bump, State.add]
@[simp] theorem State.bump_ses (s : State) (f : Fld) (i j : Nat) : (s.bump f i j).ses = s.ses := by simp [State.bump, State.add]
@[simp] theorem State.bump_hif (s : State) (f : Fld) (i j : Nat) : (s.bump f i j).hif = s.hif := by simp [State.bump, State.add]
@[simp] theorem State.bump_hel (s : State) (f : Fld) (i j : Nat) : (s.bump f i j).hel = s.hel := by simp [State.bump, State.add]
@[simp] theorem State.bump_lfp (s : State) (f : Fld) (i j : Nat) : (s.bump f i j).lfp = s.lfp := by simp [State.bump, State.add]
@[simp] theorem State.bump_rad (s : State) (f : Fld) (i j : Nat) : (s.bump f i j).rad = s.rad := by simp [State.bump, State.add]
@[simp] theorem State.bump_trn (s : State) (f : Fld) (i j : Nat) : (s.bump f i j).trn = s.trn := by simp [State.bump, State.add]
@[simp] theorem State.bump_alm (s : State) (f : Fld) (i j : Nat) : (s.bump f i j).alm = s.alm := by simp [State.bump, State.add]
@[simp] theorem State.bump_dbx (s : State) (f : Fld) (i j : Nat) : (s.bump f i j).dbx = s.dbx := by simp [State.bump, State.add]
@[simp] theorem State.bump_shu (s : State) (f : Fld) (i j : Nat) : (s.bump f i j).shu = s.shu := by simp [State.bump, State.add]
@[simp] theorem State.bump_eph (s : State) (f : Fld) (i j : Nat) : (s.bump f i j).eph = s.eph := by simp [State.bump, State.add]
@[simp] theorem State.bump_dom (s : State) (f : Fld) (i j : Nat) : (s.bump f i j).dom = s.dom := by simp [State.bump, State.add]
@[simp] theorem State.bump_rng (s : State) (f : Fld) (i j : Nat) : (s.bump f i j).rng = s.rng := by simp [State.bump, State.add]
@[simp] theorem State.bump_kce (s : State) (f : Fld) (i j : Nat) : (s.bump f i j).kce = s.kce := by simp [State.bump, State.add]
@[simp] theorem State.bump_ast (s : State) (f : Fld) (i j : Nat) : (s.bump f i j).ast = s.ast := by simp [State.bump, State.add]
@[simp] theorem State.bump_mem (s : State) (f : Fld) (i j : Nat) : (s.bump f i j).mem = s.mem := by simp [State.bump, State.add]
@[simp] theorem State.bump_fuse (s : State) (f : Fld) (i j : Nat) : (s.bump f i j).fuse = s.fuse := by simp [State.bump, State.add]
@[simp] theorem State.bump_boot (s : State) (f : Fld) (i j : Nat) : (s.bump f i j).boot = s.boot := by simp [State.bump, State.add]
@[simp] theorem State.bump_pwr (s : State) (f : Fld) (i j : Nat) : (s.bump f i j).pwr = s.pwr := by simp [State.bump, State.add]
@[simp] theorem State.bump_bln (s : State) (f : Fld) (i j : Nat) : (s.bump f i j).bln = s.bln := by simp [State.bump, State.add]
@[simp] theorem State.bump_mgt (s : State) (f : Fld) (i j : Nat) : (s.bump f i j).mgt = s.mgt := by simp [State.bump, State.add]
@[simp] theorem State.bump_eye (s : State) (f : Fld) (i j : Nat) : (s.bump f i j).eye = s.eye := by simp [State.bump, State.add]
@[simp] theorem State.bump_pending (s : State) (f : Fld) (i j : Nat) : (s.bump f i j).pending = s.pending := by simp [State.bump, State.add]

/-! ## flag -/

@[simp] theorem State.flag_loaded (s : State) (f : Fld) (b : Bool) (i j : Nat) : (s.flag f b i j).loaded = s.loaded := by simp [State.flag]
@[simp] theorem State.flag_latch (s : State) (f : Fld) (b : Bool) (i j : Nat) : (s.flag f b i j).latch = s.latch := by simp [State.flag]
@[simp] theorem State.flag_lastRead (s : State) (f : Fld) (b : Bool) (i j : Nat) : (s.flag f b i j).lastRead = s.lastRead := by simp [State.flag]
@[simp] theorem State.flag_out (s : State) (f : Fld) (b : Bool) (i j : Nat) : (s.flag f b i j).out = s.out := by simp [State.flag]
@[simp] theorem State.flag_entropy (s : State) (f : Fld) (b : Bool) (i j : Nat) : (s.flag f b i j).entropy = s.entropy := by simp [State.flag]
@[simp] theorem State.flag_units (s : State) (f : Fld) (b : Bool) (i j : Nat) : (s.flag f b i j).units = s.units := by simp [State.flag]
@[simp] theorem State.flag_rfLink (s : State) (f : Fld) (b : Bool) (i j : Nat) : (s.flag f b i j).rfLink = s.rfLink := by simp [State.flag]
@[simp] theorem State.flag_msLink (s : State) (f : Fld) (b : Bool) (i j : Nat) : (s.flag f b i j).msLink = s.msLink := by simp [State.flag]
@[simp] theorem State.flag_mer (s : State) (f : Fld) (b : Bool) (i j : Nat) : (s.flag f b i j).mer = s.mer := by simp [State.flag]
@[simp] theorem State.flag_plt (s : State) (f : Fld) (b : Bool) (i j : Nat) : (s.flag f b i j).plt = s.plt := by simp [State.flag]
@[simp] theorem State.flag_ses (s : State) (f : Fld) (b : Bool) (i j : Nat) : (s.flag f b i j).ses = s.ses := by simp [State.flag]
@[simp] theorem State.flag_hif (s : State) (f : Fld) (b : Bool) (i j : Nat) : (s.flag f b i j).hif = s.hif := by simp [State.flag]
@[simp] theorem State.flag_hel (s : State) (f : Fld) (b : Bool) (i j : Nat) : (s.flag f b i j).hel = s.hel := by simp [State.flag]
@[simp] theorem State.flag_lfp (s : State) (f : Fld) (b : Bool) (i j : Nat) : (s.flag f b i j).lfp = s.lfp := by simp [State.flag]
@[simp] theorem State.flag_rad (s : State) (f : Fld) (b : Bool) (i j : Nat) : (s.flag f b i j).rad = s.rad := by simp [State.flag]
@[simp] theorem State.flag_trn (s : State) (f : Fld) (b : Bool) (i j : Nat) : (s.flag f b i j).trn = s.trn := by simp [State.flag]
@[simp] theorem State.flag_alm (s : State) (f : Fld) (b : Bool) (i j : Nat) : (s.flag f b i j).alm = s.alm := by simp [State.flag]
@[simp] theorem State.flag_dbx (s : State) (f : Fld) (b : Bool) (i j : Nat) : (s.flag f b i j).dbx = s.dbx := by simp [State.flag]
@[simp] theorem State.flag_shu (s : State) (f : Fld) (b : Bool) (i j : Nat) : (s.flag f b i j).shu = s.shu := by simp [State.flag]
@[simp] theorem State.flag_eph (s : State) (f : Fld) (b : Bool) (i j : Nat) : (s.flag f b i j).eph = s.eph := by simp [State.flag]
@[simp] theorem State.flag_dom (s : State) (f : Fld) (b : Bool) (i j : Nat) : (s.flag f b i j).dom = s.dom := by simp [State.flag]
@[simp] theorem State.flag_rng (s : State) (f : Fld) (b : Bool) (i j : Nat) : (s.flag f b i j).rng = s.rng := by simp [State.flag]
@[simp] theorem State.flag_kce (s : State) (f : Fld) (b : Bool) (i j : Nat) : (s.flag f b i j).kce = s.kce := by simp [State.flag]
@[simp] theorem State.flag_ast (s : State) (f : Fld) (b : Bool) (i j : Nat) : (s.flag f b i j).ast = s.ast := by simp [State.flag]
@[simp] theorem State.flag_mem (s : State) (f : Fld) (b : Bool) (i j : Nat) : (s.flag f b i j).mem = s.mem := by simp [State.flag]
@[simp] theorem State.flag_fuse (s : State) (f : Fld) (b : Bool) (i j : Nat) : (s.flag f b i j).fuse = s.fuse := by simp [State.flag]
@[simp] theorem State.flag_boot (s : State) (f : Fld) (b : Bool) (i j : Nat) : (s.flag f b i j).boot = s.boot := by simp [State.flag]
@[simp] theorem State.flag_pwr (s : State) (f : Fld) (b : Bool) (i j : Nat) : (s.flag f b i j).pwr = s.pwr := by simp [State.flag]
@[simp] theorem State.flag_bln (s : State) (f : Fld) (b : Bool) (i j : Nat) : (s.flag f b i j).bln = s.bln := by simp [State.flag]
@[simp] theorem State.flag_mgt (s : State) (f : Fld) (b : Bool) (i j : Nat) : (s.flag f b i j).mgt = s.mgt := by simp [State.flag]
@[simp] theorem State.flag_eye (s : State) (f : Fld) (b : Bool) (i j : Nat) : (s.flag f b i j).eye = s.eye := by simp [State.flag]
@[simp] theorem State.flag_pending (s : State) (f : Fld) (b : Bool) (i j : Nat) : (s.flag f b i j).pending = s.pending := by simp [State.flag]

/-! ## drop -/

@[simp] theorem State.drop_loaded (s : State) (f : Fld) (i j : Nat) : (s.drop f i j).loaded = s.loaded := by simp [State.drop]
@[simp] theorem State.drop_latch (s : State) (f : Fld) (i j : Nat) : (s.drop f i j).latch = s.latch := by simp [State.drop]
@[simp] theorem State.drop_lastRead (s : State) (f : Fld) (i j : Nat) : (s.drop f i j).lastRead = s.lastRead := by simp [State.drop]
@[simp] theorem State.drop_out (s : State) (f : Fld) (i j : Nat) : (s.drop f i j).out = s.out := by simp [State.drop]
@[simp] theorem State.drop_entropy (s : State) (f : Fld) (i j : Nat) : (s.drop f i j).entropy = s.entropy := by simp [State.drop]
@[simp] theorem State.drop_units (s : State) (f : Fld) (i j : Nat) : (s.drop f i j).units = s.units := by simp [State.drop]
@[simp] theorem State.drop_rfLink (s : State) (f : Fld) (i j : Nat) : (s.drop f i j).rfLink = s.rfLink := by simp [State.drop]
@[simp] theorem State.drop_msLink (s : State) (f : Fld) (i j : Nat) : (s.drop f i j).msLink = s.msLink := by simp [State.drop]
@[simp] theorem State.drop_mer (s : State) (f : Fld) (i j : Nat) : (s.drop f i j).mer = s.mer := by simp [State.drop]
@[simp] theorem State.drop_plt (s : State) (f : Fld) (i j : Nat) : (s.drop f i j).plt = s.plt := by simp [State.drop]
@[simp] theorem State.drop_ses (s : State) (f : Fld) (i j : Nat) : (s.drop f i j).ses = s.ses := by simp [State.drop]
@[simp] theorem State.drop_hif (s : State) (f : Fld) (i j : Nat) : (s.drop f i j).hif = s.hif := by simp [State.drop]
@[simp] theorem State.drop_hel (s : State) (f : Fld) (i j : Nat) : (s.drop f i j).hel = s.hel := by simp [State.drop]
@[simp] theorem State.drop_lfp (s : State) (f : Fld) (i j : Nat) : (s.drop f i j).lfp = s.lfp := by simp [State.drop]
@[simp] theorem State.drop_rad (s : State) (f : Fld) (i j : Nat) : (s.drop f i j).rad = s.rad := by simp [State.drop]
@[simp] theorem State.drop_trn (s : State) (f : Fld) (i j : Nat) : (s.drop f i j).trn = s.trn := by simp [State.drop]
@[simp] theorem State.drop_alm (s : State) (f : Fld) (i j : Nat) : (s.drop f i j).alm = s.alm := by simp [State.drop]
@[simp] theorem State.drop_dbx (s : State) (f : Fld) (i j : Nat) : (s.drop f i j).dbx = s.dbx := by simp [State.drop]
@[simp] theorem State.drop_shu (s : State) (f : Fld) (i j : Nat) : (s.drop f i j).shu = s.shu := by simp [State.drop]
@[simp] theorem State.drop_eph (s : State) (f : Fld) (i j : Nat) : (s.drop f i j).eph = s.eph := by simp [State.drop]
@[simp] theorem State.drop_dom (s : State) (f : Fld) (i j : Nat) : (s.drop f i j).dom = s.dom := by simp [State.drop]
@[simp] theorem State.drop_rng (s : State) (f : Fld) (i j : Nat) : (s.drop f i j).rng = s.rng := by simp [State.drop]
@[simp] theorem State.drop_kce (s : State) (f : Fld) (i j : Nat) : (s.drop f i j).kce = s.kce := by simp [State.drop]
@[simp] theorem State.drop_ast (s : State) (f : Fld) (i j : Nat) : (s.drop f i j).ast = s.ast := by simp [State.drop]
@[simp] theorem State.drop_mem (s : State) (f : Fld) (i j : Nat) : (s.drop f i j).mem = s.mem := by simp [State.drop]
@[simp] theorem State.drop_fuse (s : State) (f : Fld) (i j : Nat) : (s.drop f i j).fuse = s.fuse := by simp [State.drop]
@[simp] theorem State.drop_boot (s : State) (f : Fld) (i j : Nat) : (s.drop f i j).boot = s.boot := by simp [State.drop]
@[simp] theorem State.drop_pwr (s : State) (f : Fld) (i j : Nat) : (s.drop f i j).pwr = s.pwr := by simp [State.drop]
@[simp] theorem State.drop_bln (s : State) (f : Fld) (i j : Nat) : (s.drop f i j).bln = s.bln := by simp [State.drop]
@[simp] theorem State.drop_mgt (s : State) (f : Fld) (i j : Nat) : (s.drop f i j).mgt = s.mgt := by simp [State.drop]
@[simp] theorem State.drop_eye (s : State) (f : Fld) (i j : Nat) : (s.drop f i j).eye = s.eye := by simp [State.drop]
@[simp] theorem State.drop_pending (s : State) (f : Fld) (i j : Nat) : (s.drop f i j).pending = s.pending := by simp [State.drop]

/-! ## wr64 -/

@[simp] theorem State.wr64_loaded (s : State) (lo hi : Fld) (v i : Nat) : (s.wr64 lo hi v i).loaded = s.loaded := by simp [State.wr64]
@[simp] theorem State.wr64_latch (s : State) (lo hi : Fld) (v i : Nat) : (s.wr64 lo hi v i).latch = s.latch := by simp [State.wr64]
@[simp] theorem State.wr64_lastRead (s : State) (lo hi : Fld) (v i : Nat) : (s.wr64 lo hi v i).lastRead = s.lastRead := by simp [State.wr64]
@[simp] theorem State.wr64_out (s : State) (lo hi : Fld) (v i : Nat) : (s.wr64 lo hi v i).out = s.out := by simp [State.wr64]
@[simp] theorem State.wr64_entropy (s : State) (lo hi : Fld) (v i : Nat) : (s.wr64 lo hi v i).entropy = s.entropy := by simp [State.wr64]
@[simp] theorem State.wr64_units (s : State) (lo hi : Fld) (v i : Nat) : (s.wr64 lo hi v i).units = s.units := by simp [State.wr64]
@[simp] theorem State.wr64_rfLink (s : State) (lo hi : Fld) (v i : Nat) : (s.wr64 lo hi v i).rfLink = s.rfLink := by simp [State.wr64]
@[simp] theorem State.wr64_msLink (s : State) (lo hi : Fld) (v i : Nat) : (s.wr64 lo hi v i).msLink = s.msLink := by simp [State.wr64]
@[simp] theorem State.wr64_mer (s : State) (lo hi : Fld) (v i : Nat) : (s.wr64 lo hi v i).mer = s.mer := by simp [State.wr64]
@[simp] theorem State.wr64_plt (s : State) (lo hi : Fld) (v i : Nat) : (s.wr64 lo hi v i).plt = s.plt := by simp [State.wr64]
@[simp] theorem State.wr64_ses (s : State) (lo hi : Fld) (v i : Nat) : (s.wr64 lo hi v i).ses = s.ses := by simp [State.wr64]
@[simp] theorem State.wr64_hif (s : State) (lo hi : Fld) (v i : Nat) : (s.wr64 lo hi v i).hif = s.hif := by simp [State.wr64]
@[simp] theorem State.wr64_hel (s : State) (lo hi : Fld) (v i : Nat) : (s.wr64 lo hi v i).hel = s.hel := by simp [State.wr64]
@[simp] theorem State.wr64_lfp (s : State) (lo hi : Fld) (v i : Nat) : (s.wr64 lo hi v i).lfp = s.lfp := by simp [State.wr64]
@[simp] theorem State.wr64_rad (s : State) (lo hi : Fld) (v i : Nat) : (s.wr64 lo hi v i).rad = s.rad := by simp [State.wr64]
@[simp] theorem State.wr64_trn (s : State) (lo hi : Fld) (v i : Nat) : (s.wr64 lo hi v i).trn = s.trn := by simp [State.wr64]
@[simp] theorem State.wr64_alm (s : State) (lo hi : Fld) (v i : Nat) : (s.wr64 lo hi v i).alm = s.alm := by simp [State.wr64]
@[simp] theorem State.wr64_dbx (s : State) (lo hi : Fld) (v i : Nat) : (s.wr64 lo hi v i).dbx = s.dbx := by simp [State.wr64]
@[simp] theorem State.wr64_shu (s : State) (lo hi : Fld) (v i : Nat) : (s.wr64 lo hi v i).shu = s.shu := by simp [State.wr64]
@[simp] theorem State.wr64_eph (s : State) (lo hi : Fld) (v i : Nat) : (s.wr64 lo hi v i).eph = s.eph := by simp [State.wr64]
@[simp] theorem State.wr64_dom (s : State) (lo hi : Fld) (v i : Nat) : (s.wr64 lo hi v i).dom = s.dom := by simp [State.wr64]
@[simp] theorem State.wr64_rng (s : State) (lo hi : Fld) (v i : Nat) : (s.wr64 lo hi v i).rng = s.rng := by simp [State.wr64]
@[simp] theorem State.wr64_kce (s : State) (lo hi : Fld) (v i : Nat) : (s.wr64 lo hi v i).kce = s.kce := by simp [State.wr64]
@[simp] theorem State.wr64_ast (s : State) (lo hi : Fld) (v i : Nat) : (s.wr64 lo hi v i).ast = s.ast := by simp [State.wr64]
@[simp] theorem State.wr64_mem (s : State) (lo hi : Fld) (v i : Nat) : (s.wr64 lo hi v i).mem = s.mem := by simp [State.wr64]
@[simp] theorem State.wr64_fuse (s : State) (lo hi : Fld) (v i : Nat) : (s.wr64 lo hi v i).fuse = s.fuse := by simp [State.wr64]
@[simp] theorem State.wr64_boot (s : State) (lo hi : Fld) (v i : Nat) : (s.wr64 lo hi v i).boot = s.boot := by simp [State.wr64]
@[simp] theorem State.wr64_pwr (s : State) (lo hi : Fld) (v i : Nat) : (s.wr64 lo hi v i).pwr = s.pwr := by simp [State.wr64]
@[simp] theorem State.wr64_bln (s : State) (lo hi : Fld) (v i : Nat) : (s.wr64 lo hi v i).bln = s.bln := by simp [State.wr64]
@[simp] theorem State.wr64_mgt (s : State) (lo hi : Fld) (v i : Nat) : (s.wr64 lo hi v i).mgt = s.mgt := by simp [State.wr64]
@[simp] theorem State.wr64_eye (s : State) (lo hi : Fld) (v i : Nat) : (s.wr64 lo hi v i).eye = s.eye := by simp [State.wr64]
@[simp] theorem State.wr64_pending (s : State) (lo hi : Fld) (v i : Nat) : (s.wr64 lo hi v i).pending = s.pending := by simp [State.wr64]

/-! ## wrWord -/

/-- Writes of fields one after another leave what each of them leaves. -/
theorem foldl_keeps {α β : Type} (p : State → β) (g : State → α → State) (h : ∀ s a, p (g s a) = p s) (l : List α) :
    ∀ s, p (l.foldl g s) = p s := by
  induction l with
  | nil => intro s; rfl
  | cons a l ih => intro s; simp [List.foldl, ih, h]

@[simp] theorem State.wrWord_loaded (s : State) (r : Reg) (w i j : Nat) : (s.wrWord r w i j).loaded = s.loaded :=
  foldl_keeps State.loaded _ (by simp) _ _
@[simp] theorem State.wrWord_latch (s : State) (r : Reg) (w i j : Nat) : (s.wrWord r w i j).latch = s.latch :=
  foldl_keeps State.latch _ (by simp) _ _
@[simp] theorem State.wrWord_lastRead (s : State) (r : Reg) (w i j : Nat) : (s.wrWord r w i j).lastRead = s.lastRead :=
  foldl_keeps State.lastRead _ (by simp) _ _
@[simp] theorem State.wrWord_out (s : State) (r : Reg) (w i j : Nat) : (s.wrWord r w i j).out = s.out :=
  foldl_keeps State.out _ (by simp) _ _
@[simp] theorem State.wrWord_entropy (s : State) (r : Reg) (w i j : Nat) : (s.wrWord r w i j).entropy = s.entropy :=
  foldl_keeps State.entropy _ (by simp) _ _
@[simp] theorem State.wrWord_units (s : State) (r : Reg) (w i j : Nat) : (s.wrWord r w i j).units = s.units :=
  foldl_keeps State.units _ (by simp) _ _
@[simp] theorem State.wrWord_rfLink (s : State) (r : Reg) (w i j : Nat) : (s.wrWord r w i j).rfLink = s.rfLink :=
  foldl_keeps State.rfLink _ (by simp) _ _
@[simp] theorem State.wrWord_msLink (s : State) (r : Reg) (w i j : Nat) : (s.wrWord r w i j).msLink = s.msLink :=
  foldl_keeps State.msLink _ (by simp) _ _
@[simp] theorem State.wrWord_mer (s : State) (r : Reg) (w i j : Nat) : (s.wrWord r w i j).mer = s.mer :=
  foldl_keeps State.mer _ (by simp) _ _
@[simp] theorem State.wrWord_plt (s : State) (r : Reg) (w i j : Nat) : (s.wrWord r w i j).plt = s.plt :=
  foldl_keeps State.plt _ (by simp) _ _
@[simp] theorem State.wrWord_ses (s : State) (r : Reg) (w i j : Nat) : (s.wrWord r w i j).ses = s.ses :=
  foldl_keeps State.ses _ (by simp) _ _
@[simp] theorem State.wrWord_hif (s : State) (r : Reg) (w i j : Nat) : (s.wrWord r w i j).hif = s.hif :=
  foldl_keeps State.hif _ (by simp) _ _
@[simp] theorem State.wrWord_hel (s : State) (r : Reg) (w i j : Nat) : (s.wrWord r w i j).hel = s.hel :=
  foldl_keeps State.hel _ (by simp) _ _
@[simp] theorem State.wrWord_lfp (s : State) (r : Reg) (w i j : Nat) : (s.wrWord r w i j).lfp = s.lfp :=
  foldl_keeps State.lfp _ (by simp) _ _
@[simp] theorem State.wrWord_rad (s : State) (r : Reg) (w i j : Nat) : (s.wrWord r w i j).rad = s.rad :=
  foldl_keeps State.rad _ (by simp) _ _
@[simp] theorem State.wrWord_trn (s : State) (r : Reg) (w i j : Nat) : (s.wrWord r w i j).trn = s.trn :=
  foldl_keeps State.trn _ (by simp) _ _
@[simp] theorem State.wrWord_alm (s : State) (r : Reg) (w i j : Nat) : (s.wrWord r w i j).alm = s.alm :=
  foldl_keeps State.alm _ (by simp) _ _
@[simp] theorem State.wrWord_dbx (s : State) (r : Reg) (w i j : Nat) : (s.wrWord r w i j).dbx = s.dbx :=
  foldl_keeps State.dbx _ (by simp) _ _
@[simp] theorem State.wrWord_shu (s : State) (r : Reg) (w i j : Nat) : (s.wrWord r w i j).shu = s.shu :=
  foldl_keeps State.shu _ (by simp) _ _
@[simp] theorem State.wrWord_eph (s : State) (r : Reg) (w i j : Nat) : (s.wrWord r w i j).eph = s.eph :=
  foldl_keeps State.eph _ (by simp) _ _
@[simp] theorem State.wrWord_dom (s : State) (r : Reg) (w i j : Nat) : (s.wrWord r w i j).dom = s.dom :=
  foldl_keeps State.dom _ (by simp) _ _
@[simp] theorem State.wrWord_rng (s : State) (r : Reg) (w i j : Nat) : (s.wrWord r w i j).rng = s.rng :=
  foldl_keeps State.rng _ (by simp) _ _
@[simp] theorem State.wrWord_kce (s : State) (r : Reg) (w i j : Nat) : (s.wrWord r w i j).kce = s.kce :=
  foldl_keeps State.kce _ (by simp) _ _
@[simp] theorem State.wrWord_ast (s : State) (r : Reg) (w i j : Nat) : (s.wrWord r w i j).ast = s.ast :=
  foldl_keeps State.ast _ (by simp) _ _
@[simp] theorem State.wrWord_mem (s : State) (r : Reg) (w i j : Nat) : (s.wrWord r w i j).mem = s.mem :=
  foldl_keeps State.mem _ (by simp) _ _
@[simp] theorem State.wrWord_fuse (s : State) (r : Reg) (w i j : Nat) : (s.wrWord r w i j).fuse = s.fuse :=
  foldl_keeps State.fuse _ (by simp) _ _
@[simp] theorem State.wrWord_boot (s : State) (r : Reg) (w i j : Nat) : (s.wrWord r w i j).boot = s.boot :=
  foldl_keeps State.boot _ (by simp) _ _
@[simp] theorem State.wrWord_pwr (s : State) (r : Reg) (w i j : Nat) : (s.wrWord r w i j).pwr = s.pwr :=
  foldl_keeps State.pwr _ (by simp) _ _
@[simp] theorem State.wrWord_bln (s : State) (r : Reg) (w i j : Nat) : (s.wrWord r w i j).bln = s.bln :=
  foldl_keeps State.bln _ (by simp) _ _
@[simp] theorem State.wrWord_mgt (s : State) (r : Reg) (w i j : Nat) : (s.wrWord r w i j).mgt = s.mgt :=
  foldl_keeps State.mgt _ (by simp) _ _
@[simp] theorem State.wrWord_eye (s : State) (r : Reg) (w i j : Nat) : (s.wrWord r w i j).eye = s.eye :=
  foldl_keeps State.eye _ (by simp) _ _
@[simp] theorem State.wrWord_pending (s : State) (r : Reg) (w i j : Nat) : (s.wrWord r w i j).pending = s.pending :=
  foldl_keeps State.pending _ (by simp) _ _

/-! ## Cores and the clock -/

@[simp] theorem State.withQueue_self (s : State) : s.withQueue s.pending = s := rfl

@[simp] theorem State.withQueue_withQueue (s : State) (p q : List Instr) : (s.withQueue p).withQueue q = s.withQueue q := rfl

@[simp] theorem State.now_withQueue (s : State) (q : List Instr) : (s.withQueue q).now = s.now := rfl

@[simp] theorem State.now_wr (s : State) (f : Fld) (v i j : Nat) : (s.wr f v i j).now = s.now := by simp [State.now]

@[simp] theorem State.rd_withQueue (s : State) (q : List Instr) (f : Fld) (i j : Nat) : (s.withQueue q).rd f i j = s.rd f i j := rfl

@[simp] theorem State.rd_adv (s : State) (t : Nat) (f : Fld) (i j : Nat) : (s.adv t).rd f i j = s.rd f i j := rfl

@[simp] theorem State.rd_updCore (s : State) (c : Nat) (g : Core → Core) (f : Fld) (i j : Nat) :
    (s.updCore c g).rd f i j = s.rd f i j := rfl

@[simp] theorem State.core_withQueue (s : State) (q : List Instr) (c : Nat) : (s.withQueue q).core c = s.core c := rfl

@[simp] theorem State.core_adv (s : State) (t c : Nat) : (s.adv t).core c = s.core c := rfl

@[simp] theorem State.core_wr (s : State) (f : Fld) (v i j c : Nat) : (s.wr f v i j).core c = s.core c := by
  simp [State.core]

end Sys2Proof.Machine
end

