-- ==== Sys2Proof/Laws/Answer.lean ====
section
/-! SUPPORT. What a happening answers, said once. -/

namespace Sys2Proof.Machine

@[simp] theorem State.answer_eq (s u : State) : s.answer u = .next (u.withQueue s.pending) := rfl

/-- A happening always answers a next state, with the queue as it was. -/
theorem happen_completes (t : Nat) (s : State) (f : State → State) :
    ∃ u, happen t s f = .next u ∧ u.pending = s.pending := ⟨_, rfl, rfl⟩

/-- With the supply on, a happening takes its effect at its stamp. -/
theorem happen_on (t : Nat) (s : State) (f : State → State) (h : s.pwr.off = false) :
    happen t s f = .next ((f (s.adv t)).withQueue s.pending) := by
  simp [happen, h]

/-- Without supply a happening changes nothing. -/
theorem happen_off (t : Nat) (s : State) (f : State → State) (h : s.pwr.off = true) : happen t s f = .next s := by
  simp [happen, h]

/-- A happening whose effect is known. -/
theorem happen_eq {t : Nat} {s : State} {f : State → State} {u : State} (h : s.pwr.off = false) (e : f (s.adv t) = u) :
    happen t s f = .next (u.withQueue s.pending) := by
  rw [happen_on t s f h, e]

end Sys2Proof.Machine
end

