-- ==== Sys2Proof/Laws/Map.lean ====
section
/-! SUPPORT. The laws of sparse tables: lookup after an update, and the canonical form kept by every update. -/

namespace Sys2Proof.Machine

/-! ## Lookup -/

@[simp] theorem SMap.find_put_self {α : Type} (m : SMap α) (q : Nat) (x : α) : SMap.find (SMap.put m q x) q = some x := by
  induction m with
  | nil => simp [SMap.put, SMap.find]
  | cons p r ih =>
    simp only [SMap.put]
    split
    · simp [SMap.find]
    · split
      · simp [SMap.find]
      · next h => simp [SMap.find, h, ih]

theorem SMap.find_put_other {α : Type} (m : SMap α) {q k : Nat} (x : α) (h : k ≠ q) :
    SMap.find (SMap.put m q x) k = SMap.find m k := by
  induction m with
  | nil => simp [SMap.put, SMap.find, h]
  | cons p r ih =>
    simp only [SMap.put]
    split
    · simp [SMap.find, h]
    · split
      · next e => subst e; simp [SMap.find, h]
      · simp [SMap.find, ih]

theorem SMap.find_del_other {α : Type} (m : SMap α) {q k : Nat} (h : k ≠ q) :
    SMap.find (SMap.del m q) k = SMap.find m k := by
  induction m with
  | nil => rfl
  | cons p r ih =>
    simp only [SMap.del]
    split
    · next e => subst e; simp [SMap.find, h]
    · simp [SMap.find, ih]

/-- In a table whose keys rise from above a key, that key is not listed. -/
theorem SMap.find_none_of_rises {α : Type} (m : SMap α) (lo k : Nat) (h : SMap.rises (some lo) m = true) (hk : k ≤ lo) :
    SMap.find m k = none := by
  induction m generalizing lo with
  | nil => rfl
  | cons p r ih =>
    simp [SMap.rises] at h
    have : k ≠ p.1 := by omega
    simp [SMap.find, this]
    exact ih p.1 h.2 (by omega)

theorem SMap.rises_mono {α : Type} (m : SMap α) {lo lo' : Option Nat} (h : SMap.rises lo m = true)
    (hl : ∀ x ∈ lo', ∀ p ∈ m.head?, x < p.1) : SMap.rises lo' m = true := by
  cases m with
  | nil => rfl
  | cons p r =>
    simp [SMap.rises] at h ⊢
    refine ⟨?_, h.2⟩
    cases lo' with
    | none => simp
    | some x => simpa using hl x rfl p rfl

theorem SMap.find_del_self {α : Type} (m : SMap α) (q : Nat) (h : SMap.wf m = true) : SMap.find (SMap.del m q) q = none := by
  suffices ∀ lo, SMap.rises lo m = true → SMap.find (SMap.del m q) q = none from this none h
  clear h
  induction m with
  | nil => intros; rfl
  | cons p r ih =>
    intro lo h
    simp [SMap.rises] at h
    simp only [SMap.del]
    split
    · next e => subst e; exact SMap.find_none_of_rises r _ _ h.2 (Nat.le_refl _)
    · next e => simp [SMap.find, e]; exact ih _ h.2

/-! ## The canonical form -/

theorem SMap.rises_put {α : Type} (m : SMap α) (q : Nat) (x : α) (lo : Option Nat) (h : SMap.rises lo m = true)
    (hq : ∀ l ∈ lo, l < q) : SMap.rises lo (SMap.put m q x) = true := by
  induction m generalizing lo with
  | nil => cases lo <;> simp_all [SMap.put, SMap.rises]
  | cons p r ih =>
    simp [SMap.rises] at h
    simp only [SMap.put]
    split
    · simp [SMap.rises, h.2, *]
      cases lo <;> simp_all
    · split
      · next e => subst e; simp [SMap.rises, h]
      · simp [SMap.rises, h.1]
        exact ih _ h.2 (by simp; omega)

theorem SMap.wf_put {α : Type} (m : SMap α) (q : Nat) (x : α) (h : SMap.wf m = true) : SMap.wf (SMap.put m q x) = true :=
  SMap.rises_put m q x none h (by simp)

theorem SMap.rises_del {α : Type} (m : SMap α) (q : Nat) (lo : Option Nat) (h : SMap.rises lo m = true) :
    SMap.rises lo (SMap.del m q) = true := by
  induction m generalizing lo with
  | nil => rfl
  | cons p r ih =>
    simp [SMap.rises] at h
    simp only [SMap.del]
    split
    · cases r with
      | nil => cases lo <;> rfl
      | cons p' r' =>
        have h' := h.2
        simp [SMap.rises] at h' ⊢
        refine ⟨?_, h'.2⟩
        cases lo with
        | none => simp
        | some l => simp at h ⊢; omega
    · simp [SMap.rises, h.1]
      exact ih _ h.2

theorem SMap.wf_del {α : Type} (m : SMap α) (q : Nat) (h : SMap.wf m = true) : SMap.wf (SMap.del m q) = true :=
  SMap.rises_del m q none h

/-! ## Values with a default -/

@[simp] theorem SMap.get_put_self {α : Type} (m : SMap α) (q : Nat) (x d : α) : SMap.get (SMap.put m q x) q d = x := by
  simp [SMap.get]

theorem SMap.get_put_other {α : Type} (m : SMap α) {q k : Nat} (x d : α) (h : k ≠ q) :
    SMap.get (SMap.put m q x) k d = SMap.get m k d := by
  simp [SMap.get, SMap.find_put_other m x h]

theorem SMap.get_del_other {α : Type} (m : SMap α) {q k : Nat} (d : α) (h : k ≠ q) :
    SMap.get (SMap.del m q) k d = SMap.get m k d := by
  simp [SMap.get, SMap.find_del_other m h]

theorem SMap.get_del_self {α : Type} (m : SMap α) (q : Nat) (d : α) (h : SMap.wf m = true) :
    SMap.get (SMap.del m q) q d = d := by
  simp [SMap.get, SMap.find_del_self m q h]

@[simp] theorem SMap.put_put_self {α : Type} (m : SMap α) (q : Nat) (x y : α) :
    SMap.put (SMap.put m q x) q y = SMap.put m q y := by
  induction m with
  | nil => simp [SMap.put]
  | cons p r ih =>
    by_cases h1 : q < p.1
    · simp [SMap.put, h1]
    · by_cases h2 : q = p.1
      · simp [SMap.put, h2]
      · simp [SMap.put, h1, h2, ih]

/-! ## The register table -/

theorem putField_wf (m : SMap Nat) (f : Fld) (i j v : Nat) (h : SMap.wf m = true) : SMap.wf (putField m f i j v) = true := by
  unfold putField
  split
  · exact SMap.wf_del _ _ h
  · exact SMap.wf_put _ _ _ h

/-- A write of a field keeps the register table in canonical form. -/
theorem State.wr_regs_wf (s : State) (f : Fld) (v i j : Nat) (h : SMap.wf s.regs = true) : SMap.wf (s.wr f v i j).regs = true := by
  unfold State.wr
  split
  · exact putField_wf _ _ _ _ _ h
  · exact h

/-- A field reads as written, cut to its width. -/
theorem State.rd_wr_self (s : State) (f : Fld) (v i j : Nat) (h : SMap.wf s.regs = true) (hi : f.has i j = true) :
    (s.wr f v i j).rd f i j = v % 2 ^ f.width := by
  unfold State.wr
  simp only [hi, if_true, State.rd, putField]
  split
  · next e => rw [SMap.get_del_self _ _ _ h, e]
  · simp

/-- A write of a field leaves what any other key holds. -/
theorem State.rd_wr_other (s : State) (f g : Fld) (v i j k l : Nat) (h : g.key k l ≠ f.key i j) :
    (s.wr f v i j).rd g k l = s.rd g k l := by
  unfold State.wr
  split
  · simp only [State.rd, putField]
    split
    · exact SMap.get_del_other _ _ h
    · exact SMap.get_put_other _ _ _ h
  · rfl

end Sys2Proof.Machine
end

