-- ==== Sys2Proof/Laws/Cores.lean ====
section
/-! SUPPORT. Cores: registers after an update, what a memory access leaves alone, and one law for the row of an
instruction. -/

namespace Sys2Proof.Machine

/-! ## Updates of a core -/

@[simp] theorem State.core_updCore_self (s : State) (c : Nat) (f : Core → Core) : (s.updCore c f).core c = f (s.core c) := by
  simp [State.core, State.updCore]

theorem State.core_updCore_other (s : State) {c d : Nat} (f : Core → Core) (h : d ≠ c) : (s.updCore c f).core d = s.core d := by
  simp only [State.core, State.updCore]
  exact SMap.get_put_other _ _ _ h

@[simp] theorem State.updCore_updCore (s : State) (c : Nat) (f g : Core → Core) :
    (s.updCore c f).updCore c g = s.updCore c (fun k => g (f k)) := by
  simp [State.updCore, State.core]

/-! ## Interrupt status and counters leave the cores alone -/

@[simp] theorem State.srcPend_ast (s : State) (u : Nat) : (s.srcPend u).ast = s.ast := by
  unfold State.srcPend; split <;> rfl

@[simp] theorem State.srcPend_pending (s : State) (u : Nat) : (s.srcPend u).pending = s.pending := by
  unfold State.srcPend; split <;> rfl

@[simp] theorem State.srcPend_mer (s : State) (u : Nat) : (s.srcPend u).mer = s.mer := by
  unfold State.srcPend; split <;> rfl

@[simp] theorem State.ibiSend_ast (s : State) : s.ibiSend.ast = s.ast := by
  unfold State.ibiSend; split <;> simp

@[simp] theorem State.ibiSend_pending (s : State) : s.ibiSend.pending = s.pending := by
  unfold State.ibiSend; split <;> simp

@[simp] theorem State.mgtRaise_ast (s : State) : s.mgtRaise.ast = s.ast := by
  unfold State.mgtRaise; split
  · split <;> simp
  · simp

@[simp] theorem State.mgtRaise_pending (s : State) : s.mgtRaise.pending = s.pending := by
  unfold State.mgtRaise; split
  · split <;> simp
  · simp

@[simp] theorem State.unitRaise_ast (s : State) (u : Nat) : (s.unitRaise u).ast = s.ast := by
  unfold State.unitRaise; simp only []; split <;> simp

@[simp] theorem State.unitRaise_pending (s : State) (u : Nat) : (s.unitRaise u).pending = s.pending := by
  unfold State.unitRaise; simp only []; split <;> simp

@[simp] theorem State.irq_ast (s : State) (f : Fld) (i : Nat) : (s.irq f i).ast = s.ast := by
  unfold State.irq; simp only []; split <;> simp

@[simp] theorem State.irq_pending (s : State) (f : Fld) (i : Nat) : (s.irq f i).pending = s.pending := by
  unfold State.irq; simp only []; split <;> simp

@[simp] theorem State.archiveEvent_ast (s : State) (u i w : Nat) (a : List Byte) (k n : Nat) :
    (s.archiveEvent u i w a k n).ast = s.ast := by
  simp [State.archiveEvent]

/-! ## Memory accounts leave the cores alone -/

@[simp] theorem State.memLog_ast (s : State) (a k b cw : Nat) : (s.memLog a k b cw).ast = s.ast := by
  unfold State.memLog; simp only []; split <;> simp

@[simp] theorem State.bucketAdd_ast (s : State) (u : Nat) : (s.bucketAdd u).ast = s.ast := by
  unfold State.bucketAdd; simp only []; split
  · simp
  · split <;> simp

@[simp] theorem State.memCe_ast (s : State) (a cw b : Nat) : (s.memCe a cw b).ast = s.ast := by
  unfold State.memCe; simp only []; split <;> split <;> simp

@[simp] theorem State.domMismatch_ast (s : State) : s.domMismatch.ast = s.ast := by simp [State.domMismatch]

@[simp] theorem State.ueCount_ast (s : State) (a cw f : Nat) : (s.ueCount a cw f).ast = s.ast := by
  unfold State.ueCount; simp only []; split <;> simp

@[simp] theorem State.ueArchive_ast (s : State) (a cw : Nat) : (s.ueArchive a cw).ast = s.ast := by
  unfold State.ueArchive
  simp only []
  split
  · rfl
  · simp

@[simp] theorem State.memUe_ast (s : State) (a cw f : Nat) : (s.memUe a cw f).ast = s.ast := by
  unfold State.memUe; simp only []; split <;> split <;> simp

@[simp] theorem State.memRead_ast (s : State) (a cw f : Nat) : (s.memRead a cw f).2.ast = s.ast := by
  unfold State.memRead
  split
  · rfl
  · simp
  · simp
  · simp only []; split <;> simp

theorem memReadFrom_ast (a : Nat) : ∀ (k cw last : Nat) (s : State), (memReadFrom a k cw last s).2.ast = s.ast
  | 0, _, _, _ => rfl
  | k + 1, cw, last, s => by
    simp only [memReadFrom]
    split
    · simp
    · simp [memReadFrom_ast a k]

@[simp] theorem State.memReadBytes_ast (s : State) (a addr n : Nat) : (s.memReadBytes a addr n).2.ast = s.ast := by
  unfold State.memReadBytes
  simp only []
  split
  · split
    · rfl
    · simp
  · simp [memReadFrom_ast]

@[simp] theorem State.core_memReadBytes (s : State) (a addr n c : Nat) : (s.memReadBytes a addr n).2.core c = s.core c := by
  simp [State.core]

@[simp] theorem State.readAcross_ast (s : State) (c a x y : Nat) : (s.readAcross c a x y).2.ast = s.ast := by
  simp [State.readAcross]

@[simp] theorem State.dataRead_ast (s : State) (c a n : Nat) : (s.dataRead c a n).2.ast = s.ast := by
  unfold State.dataRead
  split
  · rfl
  · split
    · exact State.readAcross_ast _ _ _ _ _
    · exact State.memReadBytes_ast _ _ _ _

@[simp] theorem State.core_dataRead (s : State) (c a n d : Nat) : (s.dataRead c a n).2.core d = s.core d := by
  simp [State.core]

@[simp] theorem State.fetched_ast (s : State) (c : Nat) : (s.fetched c).ast = s.ast := by simp [State.fetched]

@[simp] theorem State.core_fetched (s : State) (c d : Nat) : (s.fetched c).core d = s.core d := by simp [State.core]

@[simp] theorem State.gr_fetched (s : State) (c d r : Nat) : (s.fetched c).gr d r = s.gr d r := by simp [State.gr]

@[simp] theorem State.gr_adv (s : State) (t d r : Nat) : (s.adv t).gr d r = s.gr d r := rfl

@[simp] theorem State.cwWrite_ast (s : State) (a cw : Nat) : (s.cwWrite a cw).ast = s.ast := by
  unfold State.cwWrite; simp only []; split <;> simp

@[simp] theorem State.mergeDrain_ast (s : State) (e : MergeEnt) : (s.mergeDrain e).ast = s.ast := by
  unfold State.mergeDrain
  simp only []
  split
  · simp
  · split <;> simp

@[simp] theorem State.memNarrow_ast (s : State) (a cw m : Nat) : (s.memNarrow a cw m).ast = s.ast := by
  unfold State.memNarrow
  split
  · simp only []
    split <;> simp
  · simp only []
    split
    · split <;> simp
    · rfl

@[simp] theorem State.memFull_ast (s : State) (a cw : Nat) : (s.memFull a cw).ast = s.ast := by simp [State.memFull]

theorem memWriteFrom_ast (a : Nat) : ∀ (k addr n : Nat) (s : State), (memWriteFrom a k addr n s).ast = s.ast
  | 0, _, _, _ => rfl
  | k + 1, addr, n, s => by
    simp only [memWriteFrom]
    split
    · rfl
    · rw [memWriteFrom_ast a k]
      split <;> simp

@[simp] theorem State.memWriteBytes_ast (s : State) (a addr n : Nat) : (s.memWriteBytes a addr n).ast = s.ast :=
  memWriteFrom_ast a _ addr n s

@[simp] theorem State.writeAcross_ast (s : State) (c a x y : Nat) : (s.writeAcross c a x y).ast = s.ast := by
  simp [State.writeAcross]

@[simp] theorem State.dataWrite_ast (s : State) (c a n : Nat) : (s.dataWrite c a n).ast = s.ast := by
  unfold State.dataWrite
  split
  · rfl
  · split
    · exact State.writeAcross_ast _ _ _ _ _
    · exact State.memWriteBytes_ast _ _ _ _

@[simp] theorem State.core_dataWrite (s : State) (c a n d : Nat) : (s.dataWrite c a n).core d = s.core d := by
  simp [State.core]

/-! ## The row of an instruction -/

/-- A fetch that raises nothing leaves the state with the memory's account of it. -/
theorem State.coreFetch_ok (s : State) (c : Nat) (hp : (s.core c).pc ≤ 0xFFFC) (ha : (s.core c).pc % 4 = 0)
    (hb : (s.memReadBytes c (s.core c).pc 4).1 = false) : s.coreFetch c = .inr (s.fetched c) := by
  have h : ¬(0xFFFC < (s.core c).pc ∨ (s.core c).pc % 4 ≠ 0) := by omega
  unfold State.coreFetch
  simp only [h, if_false]
  rw [hb]
  rfl

/-- An instruction of a core that runs, with REPA 0 and a fetch that raises nothing, settles as its operation says. -/
theorem coreRow_runs {t c w : Nat} {rep : Bool} {op : State → CoreRes} {s : State} (h : s.pwr.off = false)
    (hs : (s.adv t).coreSteps c = true) (hw : ((s.adv t).core c).word = w) (hp : ((s.adv t).core c).pc ≤ 0xFFFC)
    (ha : ((s.adv t).core c).pc % 4 = 0) (hb : ((s.adv t).memReadBytes c ((s.adv t).core c).pc 4).1 = false)
    (hr : ((s.adv t).core c).flag pbREPA = false) :
    coreRow t c w rep op s = .next (((op ((s.adv t).fetched c)).settle c).withQueue s.pending) := by
  have hf := State.coreFetch_ok (s.adv t) c hp ha hb
  refine happen_eq h ?_
  simp only [hs, Bool.not_true, Bool.false_eq_true, if_false]
  rw [hf]
  simp only [hw, if_true, State.coreRun]
  rw [hf]
  simp only [State.core_fetched, hr, Bool.false_and, Bool.false_eq_true, if_false]

/-! ## Outcomes -/

/-- Two updates of a core that agree on its registers are one. -/
theorem State.updCore_congr (s : State) (c : Nat) {f g : Core → Core} (h : f (s.core c) = g (s.core c)) :
    s.updCore c f = s.updCore c g := by
  simp [State.updCore, h]

/-- An outcome that completes outside a REP: the next instruction follows. -/
theorem settle_done {c : Nat} (s : State) (f : Core → Core) (hr : (f (s.core c)).flag pbREPA = false) :
    (CoreRes.done (s.updCore c f)).settle c =
      s.updCore c (fun k => { f k with pc := (f k).pc + 4, waiting := false }) := by
  simp only [CoreRes.settle, State.coreAdvance, State.updCore_updCore]
  exact State.updCore_congr s c (by simp [hr])

end Sys2Proof.Machine
end

