-- ==== Sys2Proof/Tests/Slice0.lean ====
section
/-! SUPPORT. The model's own tests: small states, the premises of the statements met together, ill-formed operands
refused, and words of the instruction set. -/

namespace Sys2Proof.Tests

open Sys2Proof Sys2Proof.Machine Sys2Proof.Safety

set_option Elab.async false

/-! ## States -/

/-- The machine after reset. -/
def W : State := State.reset

/-- Units that run. -/
def runs (us : List Nat) (s : State) : State := us.foldl (fun (a : State) u => a.wr SYS_UNIT_STATE.REP stRun u) s

/-- Every unit runs, and coil 63 is fitted. -/
def up : State := (runs (List.range 24) W).wr PIN_LF_CFG.FITTED 1 63

def straps0 : Straps := ⟨true, 0, 0, false⟩
def linkFails : State := W.setDieLink true { fails := 2 }
def linkDown : State := W.setDieLink true { down := true }

/-- Random numbers flow to instances 0 to 11. -/
def rngUp : State :=
  let s := ((up.wr RNG_STAT.SOURCE rngOk).wr RNG_STAT.POOL 64)
  { s with rng := { s.rng with seeded := (List.range 12).map (fun i => (i, 0)) } }

/-- A live nonce and an armed time set; port 0 holds a grant over MER; the device disciplines itself. -/
def armedTime (both : Bool) : State :=
  let s := (W.wr HIF_VIEW_GRANT.OPEN 1 0).wr HIF_VIEW_GRANT.BLOCKS 2 0
  { s with mer := { s.mer with nonce := some (7, 0), armed := some (both, true, -1, 0) }
           hif := { s.hif with grantEnd := [(0, secT 1)] } }
def refTime : State := W
def aloneDev : State := (runs [0x14] W).wr MER_STAT.QUALITY qAcquiring
def measuring : State :=
  let s := W.wr MER_STAT.QUALITY qAcquiring
  { s with mer := { s.mer with measured := true, goodSince := some 0 } }

/-! ## Heliostat and polling -/

def exA : LfpEx :=
  { zone := 1, entry := some 63, owned := false, session := 0, gen := 0, car := 0, start := 0, cycle := 1024, arb := false,
    fmt := 0, rate := 0, chans := [63], sol := [], kq := 0 }
def withLfp (l : LfpS) : State := { up with lfp := l }
def burst : State := withLfp { ex := [exA] }
def burstClosed : State := withLfp { ex := [{ exA with closed := true }] }
def burstSof : State := withLfp { ex := [{ exA with sof := some 0 }] }
def testing : State := { W with hel := { testAt := [(63, 0)] } }
def calling : State := { W with hel := { calQ := [63] } }
def columns : State := { up with hel := { cols := [⟨3, 0, 5⟩], slotSince := some 0 } }
def slotUp : State := { up with hel := { slot := some ⟨[(2, 63)], 0, 0⟩ } }
def zoneA : ZoneProg := ⟨1, 2 ^ 63, 0, 0, 0, []⟩
def solving : State := { up with hel := { solves := [(31, 2)], progs := [(31, zoneA)] } }

/-- Schedule entry 63 polls every 10 ms in zone 31. -/
def polling : State :=
  ((((up.wr LFP_CTL.SCHED_EN 1).wr LFP_SCHED_CTL.EN 1 63).wr LFP_SCHED_CTL.ZONE 31 63).wr LFP_SCHED_TIME.PERIOD_MS 10 63)
def duePoll : LfpPoll := ⟨63, 0, true, some (0, 1), true, false, []⟩
def pollAsked : State := { polling with lfp := { polls := [⟨63, 0, true, none, false, false, []⟩] } }
def pollStale : State := { polling with lfp := { polls := [⟨63, 0, true, none, true, false, []⟩] } }

/-- A session in a context. -/
def sesOn (n : Nat) (c : Ctx) (s : State) : State := { s with ses := { s.ses with ctx := SMap.put s.ses.ctx n c } }
def sesWith (n : Nat) (c : Ctx) : State := sesOn n c up

def winA : LfpWin := { session := 255, gen := 0, zone := 31, entry := none, wakeId := 0, rate := 0, md := 0, fmt := 0, since := 0 }

/-- Zone 31 is enabled and ready, and solved at carrier 0, which is permitted. -/
def zoneUpS (s : State) : State :=
  let s := (s.wr HEL_ZONE_CTL.ENABLE (2 ^ 31)).wr HEL_ZONE_READY.READY (2 ^ 31)
  let s := ((s.wr LFP_HOP.CARRIER 1000000 0).wr HEL_LOCK_STAT.F_LO 20).wr HEL_LOCK_STAT.F_HI 1500
  { s with hel := { s.hel with progs := [(31, zoneA)], sols := [(124, ⟨ccOk, []⟩)] } }
def window : State := { sesWith 255 { kind := 1, state := ssWake } with lfp := { wins := [winA] } }
def windowHop : State := zoneUpS { window with lfp := { wins := [{ winA with hop := true }] } }
def winReady : LfpWin := { winA with session := 0 }
def windowReady : State := zoneUpS { sesWith 0 { kind := 1, state := ssWake } with lfp := { wins := [winReady] } }
def pollReady : State :=
  zoneUpS { (sesOn 0 { kind := 2, state := ssWake, gen := 1 } polling) with lfp := { polls := [duePoll] } }

/-! ## Radio, ranging and bounding -/

def trxWith (trx : Nat) (x : Trx) : State := { up with rad := { trx := [(trx, x)] } }
/-- The check word of a button frame as the transceiver's settings ask for it. -/
def uhfWord (s : State) (trx : Nat) (p : List Byte) : Nat :=
  crcBits 16 0x1021 0xFFFF (bitsMsb ((if s.on RAD_TRX_UHF_CFG.LEN_VAR trx then leBytes 1 p.length else []) ++ p))
def listening : State := (up.wr RAD_TRX_STAT.STATE rsReceive 19).wr RAD_TRX_STAT.OWNER owSes 19
def ledgerGrown : State := { up with rad := { led := [(159, ⟨List.replicate 60 1000, 0⟩)] } }

def ranging : Ctx := { kind := 1, state := ssRange, pend := 2 ^ pendTrn }
def bounding : Ctx := { kind := 1, state := ssBound, pend := 2 ^ pendDbx }
def dbxA : DbxEx :=
  { session := 255, gen := 0, token := 1, nonce := 2, phase := 6, n := 32, turn := 100, anchor := 15 }
def dbxOn (trx : Nat) (x : DbxEx) (s : State) : State := { s with dbx := { s.dbx with ex := [(trx, x)] } }
def dbxWith (trx : Nat) (x : DbxEx) : State := dbxOn trx x (sesWith 255 bounding)
def twr : State := dbxWith 15 { dbxA with fallback := true, left := 4 }
def exchA : Exch :=
  { session := 255, gen := 0, dest := .session, token := 1, nonce := 2, anchor := 15, seq := 0, ds := true, slot := 0, r := 0 }
def exchWith (trx : Nat) (e : Exch) : State := { sesWith 255 ranging with trn := { ex := [(trx, e)] } }
def rxA : Reception := ⟨true, 0, 0, 0, 0, [], [], [], 0, 0, 0, 0, [], false⟩
def boundCtx : Ctx := { bounding with dbCap := 1, boundTrx := 15 }
def bounded : State := sesWith 255 boundCtx
def bitsReady : State :=
  let s := (dbxWith 15 { dbxA with phase := 2 }).wr RAD_TRX_STAT.STATE rsSynth 15
  { s with dbx := { s.dbx with blocks := [(255, ⟨5, 0, 0⟩)] } }
def judged : State :=
  let s := dbxWith 15 { dbxA with phase := 5 }
  { s with dbx := { s.dbx with vecs := [(255, ⟨0, 32, 0, 0⟩)] } }
def locating : Ctx := { kind := 1, state := ssLocate, pend := 2 ^ pendAlm }
def solveA : SolveReq := ⟨.session 255 0, 0, [], 0, false, 0, true, false, 0, 0⟩

/-! ## Sessions and the Shutter -/

def progA : Prog := ⟨31, 0x0F, 0, 0, 0, 15, 0, 0⟩
def programmed : State := { up with ses := { progs := [(255, progA)] } }
def cplA : Cpl := ⟨255, 0, poolEph, ccOk, 0, [], 0⟩
def cplIn : State := { W with ses := { cpl := [cplA] } }
def auxWith (n : Nat) (x : SesAux) : State :=
  let s := sesWith n { kind := 1, state := ssDecide }
  { s with ses := { s.ses with aux := [(n, x)] } }
/-- Session 255 decides on core 15. -/
def deciding : State :=
  ((sesWith 255 { kind := 1, state := ssDecide }).wr AST_CORE_STAT.STATE 1 15).wr AST_CORE_STAT.SESSION 255 15
def decided : Ctx := { kind := 1, state := ssDecide, dec := 1, arcSeq := 9 }
def relA : Rel := { state := 1, kind := rkOutput, target := 15, session := 255, gen := 0, arcSeq := 9, toDs := 100 }
def relWith (e : Nat) (r : Rel) : State := { up with shu := { rel := [(e, r)] } }
def driven : State := (up.wr SHU_OUT_STAT.ASSERTED 1 15).wr SHU_OUT_CFG.SUPERVISE 1 15
/-- Port 0 holds a grant over every unit. -/
def granted (s : State) : State :=
  let s := (s.wr HIF_VIEW_GRANT.OPEN 1 0).wr HIF_VIEW_GRANT.BLOCKS (2 ^ 24 - 1) 0
  { s with hif := { s.hif with grantEnd := [(0, secT 1000)] } }
def viewed : State := granted up

/-- Keys are installed, and the engine and random numbers run. -/
def keys0 : DomKeys :=
  { ktr := List.replicate 32 1, katb := List.replicate 32 2, kau := List.replicate 32 3, kcomm := List.replicate 32 4,
    fk := List.replicate 32 5 }
def keyedUp : State :=
  let s := rngUp.wr DOM_LC.STATE lcField
  { s with dom := { s.dom with keys := keys0 } }

/-- Node 200 on bus 1 runs a command. -/
def nodeRel : Rel := { relA with state := 2, kind := rkNode, target := 200 }
def busUp (s : State) : State := ((s.wr SHU_CAN_CTL.EN 1 1).wr SHU_CAN_STAT.STATE 0 1).wr MGT_FND_CFG.BUS_EN 3
def noded : State :=
  let s := busUp keyedUp
  { s with shu := { rel := [(7, nodeRel)], nodeId := [(200, List.replicate 8 9)], nodeBus := [(200, 1)] } }
/-- A node's answer to command 9, and the check made of it. -/
def nodeBody (typ : Nat) : List Byte := leBytes 1 typ ++ leBytes 1 200 ++ leBytes 2 0 ++ leBytes 4 9
def nodeCheck (typ : Nat) : Nat × List Byte × State :=
  (((noded.adv 0).rxLog 1 (typ * 2 ^ 24 + 200 * 2 ^ 16) true true).fndHeard 1 200).kceNow 0x09 kKNODE
    (List.replicate 8 9) (nodeBody typ)
def nodeFrame (typ : Nat) : List Byte := nodeBody typ ++ (nodeCheck typ).2.1.take 8
def permitRel : Rel := { relA with state := 2, kind := rkPermit, target := 19, vuId := 77 }
def permitted : State :=
  let s := keyedUp.wr RAD_TRX_STAT.OWNER owShu 19
  { s with shu := { rel := [(7, permitRel)] } }
def carBody : List Byte := [0x56, 1, 0, 0] ++ leBytes 4 77 ++ leBytes 4 9 ++ leBytes 4 0
def carCheck : Nat × List Byte × State := (permitted.adv 0).kceNow 0x09 kKVU (leBytes 4 77) carBody
def carFrame : List Byte := carBody ++ carCheck.2.1.take 8

/-! ## Finder -/

def fndA : FndNode := { nodeId := 0x1122, kind := 0, bus := 1, ver := 0, state := 1, dnonce := 5, since := 0, heard := 0 }
def finderOn (x : FndNode) : State :=
  let s := busUp keyedUp
  { s with mgt := { s.mgt with nodes := [(200, x)] } }
def finding : State := finderOn fndA
def present : State := finderOn { fndA with state := 2 }
def fndBody (ctr : Nat) : List Byte := leBytes 1 200 ++ leBytes 3 0 ++ leBytes 4 ctr
def fndTag (ctr : Nat) : Nat × List Byte × State := (finding.adv 0).fndCheck fndA (fndBody ctr)
def leaveTag : Nat × List Byte × State := ((present.adv 0).fndHeard 1 200).fndCheck { fndA with state := 2 } (fndBody 9)
def fndFrame (ctr : Nat) : List Byte := fndBody ctr ++ (fndTag ctr).2.1

/-! ## Ephemeris and Dome -/

/-- The one partition of a device that stands alone. -/
def commitA : EphCommit := ⟨1, [], 0, 0, 1, 0⟩
def identing : State := sesWith 255 { kind := 1, state := ssIdent, pend := 2 ^ pendEph }
/-- Partition 0 is at device 5, and this device holds partition 1. -/
def identAway : State := { identing with eph := { commit := some { commitA with npart := 1, part := 1 }, holders := [(0, 5)] } }
def accepted : State := { keyedUp with eph := { accepted := true } }
def loading : State := { keyedUp.wr EPH_STAT.STATE ephLoading with eph := { commit := some commitA } }
def changeA : EphChange := { op := 4, route := 2, token := 0x123456, dest := .nobody, since := 0 }
/-- Token 0x123456 stands ACTIVE in the first slot of its first bucket. -/
def heldSlot : Nat := 8 * (ephBuckets 0 0x123456).1
def recordA : List Byte := leBytes 1 stActive ++ leBytes 3 0x123456 ++ List.replicate 124 0
def readyStore : State := { keyedUp.wr EPH_STAT.STATE ephReady with eph := { commit := some commitA, accepted := true, sweep := ephPages } }
def holding : State := { readyStore with eph := { readyStore.eph with slots := [(heldSlot, recordA)], changes := [changeA] } }
def adoptA : EphChange := { changeA with op := 8, record := List.replicate 32 0 }
def adopting : State := { readyStore with eph := { readyStore.eph with changes := [adoptA] } }
def entryA : JEntry :=
  { jseq := 9, op := 4, route := 2, slot := heldSlot, min := 0, word := none, window := false, template := 0, num := 0,
    record := recordA, dest := .nobody, stage := 1, token := 0x123456 }
def journalled : State :=
  { readyStore with eph := { readyStore.eph with journal := [entryA] }, plt := { committed := [.journalCommit 9] } }
def following : State :=
  { readyStore with eph := { readyStore.eph with journal := [{ entryA with stage := 3 }] }, plt := { committed := [.followOn 9] } }
def journalFull : State :=
  { readyStore.wr EPH_COMPACT_CFG.COMPACT_AT 10 with eph := { readyStore.eph with journal := List.replicate 820 entryA } }

/-- An envelope with the check that the machine's own key gives it. -/
def envHead (typ : Nat) (pay : List Byte) : List Byte :=
  leBytes 2 0x4E45 ++ leBytes 1 1 ++ leBytes 1 typ ++ leBytes 2 0 ++ leBytes 2 pay.length ++ leBytes 8 keyedUp.devid ++
    leBytes 4 1 ++ leBytes 4 7 ++ leBytes 8 0 ++ pay
def envPay (typ : Nat) : List Byte := if typ = envUnit then [3, 1, 0, 0] else List.replicate 12 0
def sealedA (typ : Nat) : DomEnv :=
  let m := envHead typ (envPay typ)
  ⟨4, m ++ (keyedUp.kceNow 0x0B kKENV (bytesOf [typ, 0]) m).2.1⟩
def sealedState (typ : Nat) : State :=
  { keyedUp with dom := { keyedUp.dom with nonces := [(7, 0)], queue := [sealedA typ] }, mer := { nonce := some (7, 0) } }
def blankEnv : DomEnv := ⟨4, []⟩
def blankState : State := { up with dom := { queue := [blankEnv] } }
def slotOwned : State := { up with hif := { flags := [(4095, slotDevice)] } }
def keyed : State := keyedUp
def keyedSession : State := sesOn 255 { kind := 1, state := ssChallenge, pend := 2 ^ pendDom } keyedUp
def wkeyA : WKey := ⟨kKNODE, 9, 3, [], noSession, 0⟩
def masking : State := { keyedUp with dom := { keyedUp.dom with wk := some wkeyA } }
def generating : State := keyedUp
def gkeyA : GKey := ⟨[], false, 15, 0, 3⟩
def pendingDone : State :=
  { up with dom := { pend := some (lcField, {}) }, fuse := { done := true, words := [(0, lcWord lcField)] } }
def pendingOpen : State :=
  { up.wr BOOT_STAT.IMAGE_OK 1 with dom := { pend := some (lcField, {}) }, fuse := { done := true } }

/-! ## Check engine, stores, boot -/

def checking : Ctx := { kind := 1, state := ssChallenge, pend := 2 ^ pendKce }
def kreqA : KceReq :=
  { lane := 7, level := 1, arrival := 0, aged := 0, verify := false, cls := kKT, key := List.replicate 16 0,
    msg := List.replicate 16 0, expect := [], dest := .core 15 3, left := 1 }
def writeA : PltWrite := { id := 5, lane := 0, ops := [[(0, 5)]], tag := .plain, issued := 0 }
def writing : State := { (up.wr PLT_STAT.READY 1).wr PLT_STAT.VHOLD_LOW 0 with plt := { queue := [writeA] } }
def arcReqA : ArcReq := ⟨recEvent, 0, 0, 0, 0, false, 0, [], .none⟩
def appending : State := { up.wr PLT_STAT.READY 1 with plt := { arcQ := [arcReqA], bootDone := true } }
def arcRecA : ArcRec := ⟨3, List.replicate 64 0, .none⟩
def portHeld : State :=
  { up.wr PLT_STAT.VHOLD_LOW 1 with plt := { portSince := some 0, queue := [{ writeA with tag := .port }] } }
def openRelA : OpenRel := ⟨255, 1, rkOutput, 15, 9⟩
def resolving : State := { up with shu := { openRel := [(255, openRelA)], toResolve := [255] }, plt := { bootDone := true } }
def imaged : State := { up.wr BOOT_STAT.IMAGE_OK 1 with boot := { copy := List.replicate 4096 1 } }
def flashed : State := { (slotOwned.wr BOOT_STAT.FLASH_OK 1).wr BOOT_FL_SIZE.MIB 16 with boot := { found := true } }

/-! ## Power, host interface, Baseline, management -/

def eventHeld : State := { up with hif := { evSlot := some 4095, evBuf := [⟨1, 2, 0, 0, 0, 0, 0, 0, 0⟩] } }
/-- The event source is pending, on vector 15. -/
def vectorDue : State := { up.wr HIF_SRC_VEC.EVT_VEC 15 with hif := { pend := [(24, 0)], msixOn := true } }
def linked : State := up.wr BLN_PORT_STAT.STATE psUp 1
def memberSeen : State :=
  { ((linked.wr BLN_RACC_CTL.DEV 5).wr BLN_STAT.STATE 2).wr BLN_MEM_STAT.REACH 1 5 with
    bln := { idents := [(5, { devid := 5, master := false, salt := 0, npart := 1, part := 1, hops1 := some 1 })] } }
def mismatched : State :=
  { (up.wr MGT_RECON_CFG.UNITS (2 ^ 24 - 1)).wr SYS_UNIT_STATE.MISMATCH 1 5 with units := [(5, { missFrom := 0 })] }
def aonUp : State := up

/-! ## Cores -/

/-- Core c runs a step, with the given registers and memories, and w as its next instruction. -/
def runningK (c w : Nat) (k : Core) : State :=
  { up.wr AST_CORE_STAT.STATE csStep c with ast := { cores := [(c, { k with imem := [(0, w)] })] } }
def running (c w : Nat) : State := runningK c w {}
/-- Session 0 of generation 1 is bound to core 15. -/
def boundCore (s : State) : State :=
  ((sesOn 0 { kind := 1, state := ssDecide, gen := 1 } s).wr AST_CORE_STAT.SESSION 0 15).wr AST_CORE_SCRIPT.GEN 1 15
/-- Session 0 is ready, core 15 is IDLE, and the bundle holds script 7. -/
def entryOne : List Byte := leBytes 2 7 ++ leBytes 2 0 ++ leBytes 2 0 ++ leBytes 2 0 ++ leBytes 4 64 ++ leBytes 2 1 ++ leBytes 2 0
def stepReady : State :=
  let s := (sesOn 0 { kind := 1, state := ssDecide, prog := 255 } up).wr AST_CORE_CTL.EN 1 15
  { s with ses := { s.ses with ready := [0], progs := [(255, { progA with script := 7, coreMask := 2 ^ 15 })] }
           ast := { s.ast with bundle := { scripts := entryOne } } }
/-- Core 15 with a stack window of all of data memory, and its g14. -/
def stackAt (g14 : Nat) : State :=
  runningK 15 0 { g := List.replicate 14 0xFFFFFFFF ++ [g14, 0], stkhi := 0x10000 }
def repOf (n : Nat) : Core := { psw := 2 ^ pbREPA + n * 2 ^ 12 }
def resynced : State := { W with shu := { resync := [⟨7, 65535, 0⟩] } }
def dark : State := { W with pwr := { off := true } }

/-! ## Operands outside their ranges are ill formed -/

/-- A frame with nothing in it. -/
def noFrame : Reception := ⟨false, 0, 0, 0, 0, [], [], [], 0, 0, 0, 0, [], false⟩

/-- Straps outside their ranges. -/
def strapsDev8 : Straps := ⟨true, 8, 0, false⟩
def strapsPol4 : Straps := ⟨true, 0, 4, false⟩

/-- Each bound of the SYS commands is checked: the first operand beyond it is ill formed. -/
theorem test_illformed_SYS :
    ([
     .deviceReset false strapsDev8, .deviceReset false strapsPol4,
     .registerWrite 0x10000000000000000 0 false 0 0 0, .registerWrite 0 20 false 0 0 0,
     .registerWrite 0 0 false 0x800000 0 0, .registerWrite 0 0 false 0 0 0x100000000, .registerLoRead 0 20 false 0,
     .registerLoRead 0 0 false 0x800000, .clrCnt 0 20 false 0, .clrCnt 0 0 false 24, .lock 0 20 false 0,
     .lock 0 0 false 24, .unitReset 0 20 false 0 0, .unitReset 0 0 false 24 0, .unitReset 0 0 false 0 8,
     .unitCommand 0 20 false 0 0, .unitCommand 0 0 false 24 0, .unitCommand 0 0 false 0 8, .unitStateReached 0 24,
     .mismatchTimeout 0 24, .interUnitRequest 0 24 0 0 0, .interUnitRequest 0 0 24 0 0,
     .interUnitRequest 0 0 0 0x10000 0, .interUnitRequest 0 0 0 0 0x10000, .unitReply 0 24 0,
     .unitReply 0 0 0x10000] : List Instr).all (fun i => !wf i) = true := by
  decide +kernel

/-- With every operand at its least, the SYS commands are well formed. -/
theorem test_wellformed_SYS :
    ([
     .deviceReset false straps0, .registerWrite 0 0 false 0 0 0, .registerLoRead 0 0 false 0, .clrCnt 0 0 false 0,
     .lock 0 0 false 0, .dieLinkPacketCrcFail 0 false false, .dieLinkRetrainDone 0 false, .unitReset 0 0 false 0 0,
     .unitCommand 0 0 false 0 0, .unitStateReached 0 0, .mismatchTimeout 0 0, .interUnitRequest 0 0 0 0 0,
     .unitReply 0 0 0] : List Instr).all wf = true := by
  decide +kernel

/-- Each bound of the MER commands is checked: the first operand beyond it is ill formed. -/
theorem test_illformed_MER :
    ([
     .aonRatioWindow 0x10000000000000000 0, .aonRatioWindow 0 0x100000000, .timeNonceRead 0 20,
     .civilOffsetSet 0 20 false 0 0, .civilOffsetSet 0 0 false 0x100000000 0,
     .civilOffsetSet 0 0 false 0 0x100000000, .civilLeapSet 0 20 false 0, .civilLeapSet 0 0 false 256] : List Instr).all (fun i => !wf i) = true := by
  decide +kernel

/-- With every operand at its least, the MER commands are well formed. -/
theorem test_wellformed_MER :
    ([
     .meridianWrap, .aonRatioWindow 0 0, .civilCheckpoint 0, .trimReq 0 0, .trimSpent 0, .timeNonceRead 0 0,
     .civilOffsetSet 0 0 false 0 0, .civilLeapSet 0 0 false 0, .acquireAloneTimeout 0, .lockAchieved 0 0,
     .holdoverEntry 0, .holdLimitExpired 0] : List Instr).all wf = true := by
  decide +kernel

/-- Each bound of the HEL commands is checked: the first operand beyond it is ill formed. -/
theorem test_illformed_HEL :
    ([
     .loopUpdate 0x10000000000000000 0 [], .loopUpdate 0 32 [], .trip 0 64, .testTimeout 0 64,
     .channelModeWrite 0 64 0, .channelModeWrite 0 0 4, .helCalOne 0 64, .tuningCalDone 0 64 0 0 0 0 0,
     .measOne 0 64, .solveOne 0 32, .helQuarClear 0 false 0x100000000, .lockGuard 0 64] : List Instr).all (fun i => !wf i) = true := by
  decide +kernel

/-- With every operand at its least, the HEL commands are well formed. -/
theorem test_wellformed_HEL :
    ([
     .loopUpdate 0 0 [], .trip 0 0, .testTimeout 0 0, .channelModeWrite 0 0 0, .helCalAll 0, .helCalOne 0 0,
     .tuningCalDone 0 0 0 0 0 0 0, .measAll 0, .measOne 0 0, .solveAll 0, .solveOne 0 0, .helQuarClear 0 false 0,
     .measSlotGrant 0 [], .columnDone 0 (0, 0) [], .remeasPeriod 0, .zoneSolveDone 0, .lockGuard 0 0] : List Instr).all wf = true := by
  decide +kernel

/-- Each bound of the LFP commands is checked: the first operand beyond it is ill formed. -/
theorem test_illformed_LFP :
    ([
     .pollOwnerRequest 0x10000000000000000 0, .pollOwnerRequest 0 64, .pollDue 0 64,
     .directedWake 0 0x8000 none none none none, .wakeWindowExpired 0 0x8000, .sofDetected 0 32,
     .turnaroundExpired 0 32 0, .replyReceived 0 32 0 0 0 0 [], .drown 0 32 0 0 0, .hopResend 0 0x8000,
     .burstEnd 0 32, .pollSkip 0 64, .lfpHopWrite 0 3 0, .lfpHopWrite 0 0 0x200000, .coilFault 0 64 0,
     .coilFault 0 0 4] : List Instr).all (fun i => !wf i) = true := by
  decide +kernel

/-- With every operand at its least, the LFP commands are well formed. -/
theorem test_wellformed_LFP :
    ([
     .pollOwnerRequest 0 0, .pollDue 0 0, .exchangeCommit 0, .directedWake 0 0 none none none none,
     .wakeWindowExpired 0 0, .sofDetected 0 0, .turnaroundExpired 0 0 0, .replyReceived 0 0 0 0 0 0 [],
     .drown 0 0 0 0 0, .hopResend 0 0, .burstEnd 0 0, .pollSkip 0 0, .lfpHopWrite 0 0 0, .monitorRun 0 [] [],
     .coilFault 0 0 0] : List Instr).all wf = true := by
  decide +kernel

/-- Each bound of the RAD commands is checked: the first operand beyond it is ill formed. -/
theorem test_illformed_RAD :
    ([
     .stateRequest 0x10000000000000000 0 0 0 0 0 0 0 0 false 0 0 0, .stateRequest 0 20 0 0 0 0 0 0 0 false 0 0 0,
     .stateRequest 0 0 8 0 0 0 0 0 0 false 0 0 0, .stateRequest 0 0 0 8 0 0 0 0 0 false 0 0 0,
     .stateRequest 0 0 0 0 2 0 0 0 0 false 0 0 0, .stateRequest 0 0 0 0 0 0 64 0 0 false 0 0 0,
     .stateRequest 0 0 0 0 0 0 0 0 8 false 0 0 0, .stepComplete 0 20 false, .synthLockTimeout 0 20,
     .synthHoldExpired 0 20, .stbyHoldExpired 0 20, .park 0 20 false, .rapidBitTimeout 0 16, .transmissionEnd 0 20,
     .transmissionCut 0 20, .uhfFrameReceived 0 20 0 [] 0, .uhfFrameReceived 0 0 0 (List.replicate 256 0) 0,
     .ownershipGrant 0 20 0, .ownershipGrant 0 0 8, .handover 0 20 0, .handover 0 0 8, .radCalOne 0 20,
     .tempCalTrigger 0 20 0, .calItemDone 0 20 false [] 0 0] : List Instr).all (fun i => !wf i) = true := by
  decide +kernel

/-- With every operand at its least, the RAD commands are well formed. -/
theorem test_wellformed_RAD :
    ([
     .stateRequest 0 0 0 0 0 0 0 0 0 false 0 0 0, .stepComplete 0 0 false, .synthLockTimeout 0 0,
     .synthHoldExpired 0 0, .stbyHoldExpired 0 0, .park 0 0 false, .rapidBitTimeout 0 0, .transmissionEnd 0 0,
     .transmissionCut 0 0, .uhfFrameReceived 0 0 0 [] 0, .ledgerMinute 0, .ownershipGrant 0 0 0, .handover 0 0 0,
     .radCalAll 0, .radCalOne 0 0, .tempCalTrigger 0 0 0, .calItemDone 0 0 false [] 0 0, .watchCycle 0] : List Instr).all wf = true := by
  decide +kernel

/-- Each bound of the TRN commands is checked: the first operand beyond it is ill formed. -/
theorem test_illformed_TRN :
    ([
     .exchangeRequest 0x10000000000000000 0 false, .exchangeRequest 0 0x8000 false, .pollCommit 0 16,
     .respReceived 0 16 noFrame, .finalSend 0 16, .reportReceived 0 16 noFrame, .noFrame 0 16, .retry 0 16,
     .prearmHoldExpired 0 0x8000, .remoteRangeTimeout 0 0x8000, .antennaDelayWrite 0 16 false 0] : List Instr).all (fun i => !wf i) = true := by
  decide +kernel

/-- With every operand at its least, the TRN commands are well formed. -/
theorem test_wellformed_TRN :
    ([
     .exchangeRequest 0 0 false, .pollCommit 0 0, .respReceived 0 0 noFrame, .finalSend 0 0,
     .reportReceived 0 0 noFrame, .noFrame 0 0, .retry 0 0, .prearmHoldExpired 0 0, .remoteRangeTimeout 0 0,
     .trnCalStart 0, .trnCalDone 0 [], .antennaDelayWrite 0 0 false 0] : List Instr).all wf = true := by
  decide +kernel

/-- Each bound of the DBX commands is checked: the first operand beyond it is ill formed. -/
theorem test_illformed_DBX :
    ([
     .boundRequest 0x10000000000000000 0, .boundRequest 0 0x8000, .vectorsLoaded 0 0x8000,
     .precompHoldExpired 0 0x8000, .rapidBitCommit 0 16 false, .searchWindowClose 0 16 [],
     .boundDecision 0 0x8000 false, .dbxRetry 0 16] : List Instr).all (fun i => !wf i) = true := by
  decide +kernel

/-- With every operand at its least, the DBX commands are well formed. -/
theorem test_wellformed_DBX :
    ([
     .boundRequest 0 0, .vectorsLoaded 0 0, .precompHoldExpired 0 0, .burnFree 0, .rapidBitCommit 0 0 false,
     .searchWindowClose 0 0 [], .boundDecision 0 0 false, .dbxRetry 0 0] : List Instr).all wf = true := by
  decide +kernel

/-- Each bound of the ALM commands is checked: the first operand beyond it is ill formed. -/
theorem test_illformed_ALM :
    ([
     .locateRequest 0x10000000000000000 0 false, .locateRequest 0 0x8000 false, .remoteSolveRequest 0 8 0 [],
     .remoteSolveRequest 0 0 0x100000000 [], .solveTimeout 0 0x8000] : List Instr).all (fun i => !wf i) = true := by
  decide +kernel

/-- With every operand at its least, the ALM commands are well formed. -/
theorem test_wellformed_ALM :
    ([
     .locateRequest 0 0 false, .solveDone 0 0, .remoteSolveRequest 0 0 0 [], .solveTimeout 0 0] : List Instr).all wf = true := by
  decide +kernel

/-- Each bound of the SES commands is checked: the first operand beyond it is ill formed. -/
theorem test_illformed_SES :
    ([
     .sessionOpen 0x10000000000000000 0 0 0 [], .sessionOpen 0 4 0 0 [], .sessionOpen 0 0 0 17 [],
     .lookupResult 0 0x8000, .checkValueResult 0 0x8000, .rangeResult 0 0x8000, .deadlineExpired 0 0x8000,
     .sessionMaxExpired 0 0x8000, .sesCancel 0 0x8000 0, .creditWaitExpired 0 0x8000, .sliceMaxExpired 0 16,
     .stepDispatch 0 16 0, .stepDispatch 0 0 0x8000, .poolSizeWrite 0 11 0, .poolSizeWrite 0 0 0x10000] : List Instr).all (fun i => !wf i) = true := by
  decide +kernel

/-- With every operand at its least, the SES commands are well formed. -/
theorem test_wellformed_SES :
    ([
     .sessionOpen 0 0 0 0 [], .lookupResult 0 0, .checkValueResult 0 0, .rangeResult 0 0, .deadlineExpired 0 0,
     .sessionMaxExpired 0 0, .sesCancel 0 0 0, .creditWaitExpired 0 0, .sliceMaxExpired 0 0, .creditGrant 0,
     .completionConsume 0, .stepDispatch 0 0 0, .poolSizeWrite 0 0 0] : List Instr).all wf = true := by
  decide +kernel

/-- Each bound of the SHU commands is checked: the first operand beyond it is ill formed. -/
theorem test_illformed_SHU :
    ([
     .buttonFrame 0x10000000000000000 0 [], .buttonFrame 0 20 [], .buttonFrame 0 0 (List.replicate 256 0),
     .perTokenUpdateCommit 0 0x8000, .perTokenUpdateTimeout 0 0x8000, .grant 0 16, .refuse 0 16 0,
     .refuse 0 0 0x100000000, .cancel 0 16 0, .cancel 0 0 0x100000000, .decisionCommitted 0 0x8000,
     .releaseAction 0 0x8000, .senseChange 0 16 0 false, .outputFault 0 16 false, .pulseEnd 0 16,
     .openLoadTest 0 16 false, .releaseTimeout 0 0x8000, .closingRecordCommit 0 0x8000, .queuedReleaseStart 0 16,
     .clrFault 0 16, .test 0 20 false 0, .test 0 0 false 16, .openReleaseResolve 0 256, .nodeAckTimeout 0 0x8000,
     .ack 0 2 0 [], .ack 0 0 0x20000000 [], .passageReport 0 2 0 [], .passageReport 0 0 0x20000000 [],
     .nodeRefuse 0 2 0 [], .nodeRefuse 0 0 0x20000000 [], .busOff 0 2 [], .restart 0 2, .permitResend 0 0x8000,
     .statusQuery 0 0x8000, .vehicleReply 0 0x8000 []] : List Instr).all (fun i => !wf i) = true := by
  decide +kernel

/-- With every operand at its least, the SHU commands are well formed. -/
theorem test_wellformed_SHU :
    ([
     .buttonFrame 0 0 [], .perTokenUpdateCommit 0 0, .perTokenUpdateTimeout 0 0, .grant 0 0, .refuse 0 0 0,
     .cancel 0 0 0, .decisionCommitted 0 0, .releaseAction 0 0, .senseChange 0 0 0 false, .outputFault 0 0 false,
     .pulseEnd 0 0, .openLoadTest 0 0 false, .releaseTimeout 0 0, .closingRecordCommit 0 0,
     .queuedReleaseStart 0 0, .clrFault 0 0, .test 0 0 false 0, .openReleaseResolve 0 0, .nodeAckTimeout 0 0,
     .ack 0 0 0 [], .passageReport 0 0 0 [], .nodeRefuse 0 0 0 [], .busOff 0 0 [], .restart 0 0, .permitResend 0 0,
     .statusQuery 0 0, .vehicleReply 0 0 []] : List Instr).all wf = true := by
  decide +kernel

/-- Each bound of the EPH commands is checked: the first operand beyond it is ill formed. -/
theorem test_illformed_EPH :
    ([
     .lookup 0x10000000000000000 0 0, .lookup 0 0x8000 0, .pageFetchDone 0 0x20000 [] [],
     .enrolToken 0 17 false [], .enrolCode 0 0x1000000 0 0 0 0 0, .enrolCode 0 0 16 0 0 0 0,
     .enrolCode 0 0 0 16 0 0 0, .enrolCode 0 0 0 0 0x10000 0 0, .enrolCode 0 0 0 0 0 16 0,
     .enrolCode 0 0 0 0 0 0 0x10000000000000000, .revoke 0 17 0, .revoke 0 0 0x1000000,
     .journalCommit 0 0x100000000, .followOnDone 0 0x100000000, .compactionStepDone 0 256, .find 0 0x1000000] : List Instr).all (fun i => !wf i) = true := by
  decide +kernel

/-- With every operand at its least, the EPH commands are well formed. -/
theorem test_wellformed_EPH :
    ([
     .lookup 0 0 0, .pageFetchDone 0 0 [] [], .enrolToken 0 0 false [], .enrolCode 0 0 0 0 0 0 0, .revoke 0 0 0,
     .suspend 0, .resume 0, .attr 0, .remove 0, .adopt 0, .format 0, .journalCommit 0 0, .followOnDone 0 0,
     .changeWaitExpired 0, .rootCheck 0 false [], .sweepPage 0 [] [], .compactionStart 0, .compactNow 0,
     .compactionStepDone 0 0, .find 0 0] : List Instr).all wf = true := by
  decide +kernel

/-- Each bound of the DOM commands is checked: the first operand beyond it is ill formed. -/
theorem test_illformed_DOM :
    ([
     .envelopeSubmit 0x10000000000000000 0, .envelopeSubmit 0 0x4000, .domNonceRead 0 20,
     .attestationRequest 0 false 8 0, .attestationRequest 0 false 0 0x4000, .tamperDetect 0 32,
     .keyDerivation 0 16 0 0, .keyDerivation 0 0 24 0, .keyDerivation 0 0 0 0x10000, .workingKeyLoad 0 16 0 0 0,
     .workingKeyLoad 0 0 24 0 0, .workingKeyLoad 0 0 0 0x10000 0, .keygen 0 16 false false 0, .keydel 0 16 0,
     .keydel 0 0 8, .viewGrantEnd 0 20] : List Instr).all (fun i => !wf i) = true := by
  decide +kernel

/-- With every operand at its least, the DOM commands are well formed. -/
theorem test_wellformed_DOM :
    ([
     .envelopeSubmit 0 0, .vendor 0, .commission 0, .field 0, .decommission 0, .migrate 0, .rekey 0, .policy 0,
     .lockSet 0, .ephTemplate 0, .timeEnv 0, .view 0, .monitor 0, .unitEnv 0, .pendingTransitionResolve 0,
     .domNonceRead 0 0, .attestationRequest 0 false 0 0, .exportDone 0, .tamperDetect 0 0, .remask 0,
     .keyDerivation 0 0 0 0, .workingKeyLoad 0 0 0 0 0, .keygen 0 0 false false 0, .keydel 0 0 0, .viewGrantEnd 0 0] : List Instr).all wf = true := by
  decide +kernel

/-- Each bound of the KCE commands is checked: the first operand beyond it is ill formed. -/
theorem test_illformed_KCE :
    ([
     .kceRequest 0x10000000000000000 0 0 0 0 false false false, .kceRequest 0 8 0 0 0 false false false,
     .kceRequest 0 0 0x8000 0 0 false false false, .kceRequest 0 0 0 4 0 false false false] : List Instr).all (fun i => !wf i) = true := by
  decide +kernel

/-- With every operand at its least, the KCE commands are well formed. -/
theorem test_wellformed_KCE :
    ([
     .kceRequest 0 0 0 0 0 false false false, .kceMessageDone 0 0 false false, .kceAging 0 0, .maskWaitTimeout 0,
     .katRun 0, .alarmTest 0] : List Instr).all wf = true := by
  decide +kernel

/-- Each bound of the RNG commands is checked: the first operand beyond it is ill formed. -/
theorem test_illformed_RNG :
    ([
     .healthFail 0x10000000000000000 0 0, .healthFail 0 0 12, .generateRequest 0 12 0 0,
     .generateRequest 0 0 0x8000 0, .reseed 0 12, .rngHostDataRead 0 20, .rngHostBulk 0 0x4000 0,
     .rawCapture 0 false 0x4000 0] : List Instr).all (fun i => !wf i) = true := by
  decide +kernel

/-- With every operand at its least, the RNG commands are well formed. -/
theorem test_wellformed_RNG :
    ([
     .healthFail 0 0 0, .sourceRestart 0, .startupTestDone 0, .blockConditioned 0, .statsWindow 0 0 0 0 [],
     .generateRequest 0 0 0 0, .reseed 0 0, .reseedAll 0, .rngHostDataRead 0 0, .rngHostBulk 0 0 0,
     .testPattern 0 false, .rawCapture 0 false 0 0] : List Instr).all wf = true := by
  decide +kernel

/-- Each bound of the AST commands is checked: the first operand beyond it is ill formed. -/
theorem test_illformed_AST1 :
    ([
     .add 0x10000000000000000 0 0 0 0, .add 0 16 0 0 0, .add 0 0 16 0 0, .add 0 0 0 16 0, .add 0 0 0 0 16,
     .addc 0 16 0 0 0, .addc 0 0 16 0 0, .addc 0 0 0 16 0, .addc 0 0 0 0 16, .sub 0 16 0 0 0, .sub 0 0 16 0 0,
     .sub 0 0 0 16 0, .sub 0 0 0 0 16, .subb 0 16 0 0 0, .subb 0 0 16 0 0, .subb 0 0 0 16 0, .subb 0 0 0 0 16,
     .neg 0 16 0 0, .neg 0 0 16 0, .neg 0 0 0 16, .cmp 0 16 0 0, .cmp 0 0 16 0, .cmp 0 0 0 16, .andR 0 16 0 0 0,
     .andR 0 0 16 0 0, .andR 0 0 0 16 0, .andR 0 0 0 0 16, .orR 0 16 0 0 0, .orR 0 0 16 0 0, .orR 0 0 0 16 0,
     .orR 0 0 0 0 16, .xorR 0 16 0 0 0, .xorR 0 0 16 0 0, .xorR 0 0 0 16 0, .xorR 0 0 0 0 16, .andn 0 16 0 0 0,
     .andn 0 0 16 0 0, .andn 0 0 0 16 0, .andn 0 0 0 0 16, .notR 0 16 0 0, .notR 0 0 16 0, .notR 0 0 0 16,
     .mov 0 16 0 0, .mov 0 0 16 0, .mov 0 0 0 16, .shl 0 16 0 0 0, .shl 0 0 16 0 0, .shl 0 0 0 16 0,
     .shl 0 0 0 0 16, .shr 0 16 0 0 0, .shr 0 0 16 0 0, .shr 0 0 0 16 0, .shr 0 0 0 0 16, .sar 0 16 0 0 0,
     .sar 0 0 16 0 0, .sar 0 0 0 16 0, .sar 0 0 0 0 16, .ror 0 16 0 0 0, .ror 0 0 16 0 0, .ror 0 0 0 16 0,
     .ror 0 0 0 0 16, .mul 0 16 0 0 0, .mul 0 0 16 0 0, .mul 0 0 0 16 0, .mul 0 0 0 0 16, .mulh 0 16 0 0 0,
     .mulh 0 0 16 0 0, .mulh 0 0 0 16 0, .mulh 0 0 0 0 16, .mulhu 0 16 0 0 0, .mulhu 0 0 16 0 0, .mulhu 0 0 0 16 0,
     .mulhu 0 0 0 0 16, .divs 0 16 0 0 0, .divs 0 0 16 0 0, .divs 0 0 0 16 0, .divs 0 0 0 0 16, .divu 0 16 0 0 0,
     .divu 0 0 16 0 0, .divu 0 0 0 16 0, .divu 0 0 0 0 16, .rems 0 16 0 0 0, .rems 0 0 16 0 0, .rems 0 0 0 16 0,
     .rems 0 0 0 0 16, .remu 0 16 0 0 0, .remu 0 0 16 0 0, .remu 0 0 0 16 0, .remu 0 0 0 0 16, .min 0 16 0 0 0,
     .min 0 0 16 0 0, .min 0 0 0 16 0, .min 0 0 0 0 16, .max 0 16 0 0 0, .max 0 0 16 0 0, .max 0 0 0 16 0,
     .max 0 0 0 0 16, .minu 0 16 0 0 0, .minu 0 0 16 0 0, .minu 0 0 0 16 0, .minu 0 0 0 0 16, .maxu 0 16 0 0 0,
     .maxu 0 0 16 0 0, .maxu 0 0 0 16 0, .maxu 0 0 0 0 16, .abs 0 16 0 0, .abs 0 0 16 0, .abs 0 0 0 16,
     .clz 0 16 0 0, .clz 0 0 16 0, .clz 0 0 0 16, .sextb 0 16 0 0, .sextb 0 0 16 0, .sextb 0 0 0 16,
     .sexth 0 16 0 0, .sexth 0 0 16 0, .sexth 0 0 0 16, .zextb 0 16 0 0, .zextb 0 0 16 0, .zextb 0 0 0 16,
     .zexth 0 16 0 0, .zexth 0 0 16 0, .zexth 0 0 0 16, .bswap 0 16 0 0, .bswap 0 0 16 0, .bswap 0 0 0 16,
     .tst 0 16 0 0, .tst 0 0 16 0, .tst 0 0 0 16, .addi 0 16 0 0 0, .addi 0 0 16 0 0, .addi 0 0 0 16 0,
     .addi 0 0 0 0 0x40000, .andi 0 16 0 0 0, .andi 0 0 16 0 0, .andi 0 0 0 16 0, .andi 0 0 0 0 0x40000,
     .ori 0 16 0 0 0, .ori 0 0 16 0 0, .ori 0 0 0 16 0, .ori 0 0 0 0 0x40000, .xori 0 16 0 0 0, .xori 0 0 16 0 0,
     .xori 0 0 0 16 0, .xori 0 0 0 0 0x40000, .cmpi 0 16 0 0, .cmpi 0 0 16 0, .cmpi 0 0 0 0x40000,
     .shiShl 0 16 0 0 0, .shiShl 0 0 16 0 0, .shiShl 0 0 0 16 0, .shiShl 0 0 0 0 64, .shiShr 0 16 0 0 0,
     .shiShr 0 0 16 0 0, .shiShr 0 0 0 16 0, .shiShr 0 0 0 0 64, .shiSar 0 16 0 0 0, .shiSar 0 0 16 0 0,
     .shiSar 0 0 0 16 0, .shiSar 0 0 0 0 64, .shiRor 0 16 0 0 0, .shiRor 0 0 16 0 0, .shiRor 0 0 0 16 0,
     .shiRor 0 0 0 0 64, .movi 0 16 0 0, .movi 0 0 16 0, .movi 0 0 0 0x400000, .lui 0 16 0 0, .lui 0 0 16 0,
     .lui 0 0 0 0x10000, .ldw 0 16 0 0 0, .ldw 0 0 16 0 0, .ldw 0 0 0 16 0, .ldw 0 0 0 0 0x40000, .ldh 0 16 0 0 0,
     .ldh 0 0 16 0 0, .ldh 0 0 0 16 0, .ldh 0 0 0 0 0x40000, .ldhu 0 16 0 0 0, .ldhu 0 0 16 0 0, .ldhu 0 0 0 16 0,
     .ldhu 0 0 0 0 0x40000, .ldb 0 16 0 0 0, .ldb 0 0 16 0 0, .ldb 0 0 0 16 0, .ldb 0 0 0 0 0x40000,
     .ldbu 0 16 0 0 0, .ldbu 0 0 16 0 0, .ldbu 0 0 0 16 0, .ldbu 0 0 0 0 0x40000, .stw 0 16 0 0 0, .stw 0 0 16 0 0,
     .stw 0 0 0 16 0, .stw 0 0 0 0 0x40000, .sth 0 16 0 0 0, .sth 0 0 16 0 0, .sth 0 0 0 16 0,
     .sth 0 0 0 0 0x40000, .stb 0 16 0 0 0, .stb 0 0 16 0 0, .stb 0 0 0 16 0, .stb 0 0 0 0 0x40000,
     .ldwp 0 16 0 0 0, .ldwp 0 0 16 0 0, .ldwp 0 0 0 16 0, .ldwp 0 0 0 0 0x40000] : List Instr).all (fun i => !wf i) = true := by
  decide +kernel

/-- With every operand at its least, the AST commands are well formed. -/
theorem test_wellformed_AST1 :
    ([
     .add 0 0 0 0 0, .addc 0 0 0 0 0, .sub 0 0 0 0 0, .subb 0 0 0 0 0, .neg 0 0 0 0, .cmp 0 0 0 0, .andR 0 0 0 0 0,
     .orR 0 0 0 0 0, .xorR 0 0 0 0 0, .andn 0 0 0 0 0, .notR 0 0 0 0, .mov 0 0 0 0, .shl 0 0 0 0 0, .shr 0 0 0 0 0,
     .sar 0 0 0 0 0, .ror 0 0 0 0 0, .mul 0 0 0 0 0, .mulh 0 0 0 0 0, .mulhu 0 0 0 0 0, .divs 0 0 0 0 0,
     .divu 0 0 0 0 0, .rems 0 0 0 0 0, .remu 0 0 0 0 0, .min 0 0 0 0 0, .max 0 0 0 0 0, .minu 0 0 0 0 0,
     .maxu 0 0 0 0 0, .abs 0 0 0 0, .clz 0 0 0 0, .sextb 0 0 0 0, .sexth 0 0 0 0, .zextb 0 0 0 0, .zexth 0 0 0 0,
     .bswap 0 0 0 0, .tst 0 0 0 0, .addi 0 0 0 0 0, .andi 0 0 0 0 0, .ori 0 0 0 0 0, .xori 0 0 0 0 0,
     .cmpi 0 0 0 0, .shiShl 0 0 0 0 0, .shiShr 0 0 0 0 0, .shiSar 0 0 0 0 0, .shiRor 0 0 0 0 0, .movi 0 0 0 0,
     .lui 0 0 0 0, .ldw 0 0 0 0 0, .ldh 0 0 0 0 0, .ldhu 0 0 0 0 0, .ldb 0 0 0 0 0, .ldbu 0 0 0 0 0,
     .stw 0 0 0 0 0, .sth 0 0 0 0 0, .stb 0 0 0 0 0, .ldwp 0 0 0 0 0] : List Instr).all wf = true := by
  decide +kernel

/-- Each bound of the AST commands is checked: the first operand beyond it is ill formed. -/
theorem test_illformed_AST2 :
    ([
     .stwp 0x10000000000000000 0 0 0 0, .stwp 0 16 0 0 0, .stwp 0 0 16 0 0, .stwp 0 0 0 16 0,
     .stwp 0 0 0 0 0x40000, .pushm 0 16 0, .pushm 0 0 0x10000, .popm 0 16 0, .popm 0 0 0x10000,
     .inPort 0 16 0 0 false 0, .inPort 0 0 16 0 false 0, .inPort 0 0 0 16 false 0, .inPort 0 0 0 0 false 0x1000,
     .outPort 0 16 0 0 false 0, .outPort 0 0 16 0 false 0, .outPort 0 0 0 16 false 0,
     .outPort 0 0 0 0 false 0x1000, .bCond 0 16 0 0, .bCond 0 0 16 0, .bCond 0 0 0 0x400000, .jmp 0 16 0,
     .jmp 0 0 0x4000000, .call 0 16 0, .call 0 0 0x4000000, .jr 0 16 0, .jr 0 0 16, .callr 0 16 0, .callr 0 0 16,
     .nop 0 16, .doneStep 0 16, .again 0 16, .wfi 0 16, .rete 0 16, .trap 0 16 0, .trap 0 0 256, .brk 0 16,
     .fence 0 16, .rep 0 16 false 0 0, .rep 0 0 false 16 0, .rep 0 0 false 0 0x1000, .mac 0 16 false 0 0 0 0,
     .mac 0 0 false 16 0 0 0, .mac 0 0 false 0 16 0 0, .mac 0 0 false 0 0 32 0, .mac 0 0 false 0 0 0 32,
     .msu 0 16 false 0 0 0 0, .msu 0 0 false 16 0 0 0, .msu 0 0 false 0 16 0 0, .msu 0 0 false 0 0 32 0,
     .msu 0 0 false 0 0 0 32, .mpy 0 16 false 0 0 0 0, .mpy 0 0 false 16 0 0 0, .mpy 0 0 false 0 16 0 0,
     .mpy 0 0 false 0 0 32 0, .mpy 0 0 false 0 0 0 32, .macu 0 16 false 0 0 0 0, .macu 0 0 false 16 0 0 0,
     .macu 0 0 false 0 16 0 0, .macu 0 0 false 0 0 32 0, .macu 0 0 false 0 0 0 32, .macr 0 16 false 0 0,
     .macr 0 0 false 16 0, .macr 0 0 false 0 16, .msur 0 16 false 0 0, .msur 0 0 false 16 0, .msur 0 0 false 0 16,
     .mpyr 0 16 false 0 0, .mpyr 0 0 false 16 0, .mpyr 0 0 false 0 16, .macur 0 16 false 0 0,
     .macur 0 0 false 16 0, .macur 0 0 false 0 16, .aclr 0 16 false, .amov 0 16 false, .aadd 0 16 false false,
     .ash 0 16 false false 0, .ash 0 0 false false 64, .aext 0 16 0 false false 0, .aext 0 0 16 false false 0,
     .aext 0 0 0 false false 64, .ard 0 16 0 false 0, .ard 0 0 16 false 0, .ard 0 0 0 false 3, .awr 0 16 false 0 0,
     .awr 0 0 false 16 0, .awr 0 0 false 0 3, .wait 0 16 0 0 0, .wait 0 0 8 0 0, .wait 0 0 0 16 0,
     .wait 0 0 0 0 16, .poll 0 16 0 0 0, .poll 0 0 8 0 0, .poll 0 0 0 16 0, .poll 0 0 0 0 16, .cpCancel 0 16 0 0 0,
     .cpCancel 0 0 8 0 0, .cpCancel 0 0 0 16 0, .cpCancel 0 0 0 0 16, .dataTx 0 16 0 0 0 0, .dataTx 0 0 16 0 0 0,
     .dataTx 0 0 0 16 0 0, .dataTx 0 0 0 0 16 0, .dataTx 0 0 0 0 0 0x4000, .dataRx 0 16 0 0 0, .dataRx 0 0 16 0 0,
     .dataRx 0 0 0 16 0, .dataRx 0 0 0 0 16, .compute 0 16 0 0 0 0, .compute 0 0 16 0 0 0, .compute 0 0 0 16 0 0,
     .compute 0 0 0 0 16 0, .compute 0 0 0 0 0 0x4000, .verify 0 16 0 0 0, .verify 0 0 16 0 0, .verify 0 0 0 16 0,
     .verify 0 0 0 0 16, .solve 0 16 0 0 0 0, .solve 0 0 16 0 0 0, .solve 0 0 0 16 0 0, .solve 0 0 0 0 16 0,
     .solve 0 0 0 0 0 0x4000, .get 0 16 0 0 0 0, .get 0 0 16 0 0 0, .get 0 0 0 16 0 0, .get 0 0 0 0 16 0,
     .get 0 0 0 0 0 0x4000, .cpCompletion 0 16 0 0 0 [], .cpCompletion 0 0 4 0 0 [], .cpCompletion 0 0 0 256 0 [],
     .interrupt 0 16, .timerWrite 0 16 0, .timerWrite 0 0 0x10000, .timerExpired 0 16, .sliceWarning 0 16,
     .mboxInWrite 0 20 false 0 0, .mboxInWrite 0 0 false 16 0, .mboxInWrite 0 0 false 0 0x100000000,
     .mboxInRead 0 16, .envAddr 0 16 0, .envAddr 0 0 0x100000000, .regData 0 16 false 0,
     .regData 0 0 false 0x100000000, .rangeData 0 16, .faultReloadDone 0 16, .release 0 20 false 0,
     .release 0 0 false 16] : List Instr).all (fun i => !wf i) = true := by
  decide +kernel

/-- With every operand at its least, the AST commands are well formed. -/
theorem test_wellformed_AST2 :
    ([
     .stwp 0 0 0 0 0, .pushm 0 0 0, .popm 0 0 0, .inPort 0 0 0 0 false 0, .outPort 0 0 0 0 false 0, .bCond 0 0 0 0,
     .jmp 0 0 0, .call 0 0 0, .jr 0 0 0, .callr 0 0 0, .nop 0 0, .doneStep 0 0, .again 0 0, .wfi 0 0, .rete 0 0,
     .trap 0 0 0, .brk 0 0, .fence 0 0, .rep 0 0 false 0 0, .mac 0 0 false 0 0 0 0, .msu 0 0 false 0 0 0 0,
     .mpy 0 0 false 0 0 0 0, .macu 0 0 false 0 0 0 0, .macr 0 0 false 0 0, .msur 0 0 false 0 0,
     .mpyr 0 0 false 0 0, .macur 0 0 false 0 0, .aclr 0 0 false, .amov 0 0 false, .aadd 0 0 false false,
     .ash 0 0 false false 0, .aext 0 0 0 false false 0, .ard 0 0 0 false 0, .awr 0 0 false 0 0, .wait 0 0 0 0 0,
     .poll 0 0 0 0 0, .cpCancel 0 0 0 0 0, .dataTx 0 0 0 0 0 0, .dataRx 0 0 0 0 0, .compute 0 0 0 0 0 0,
     .verify 0 0 0 0 0, .solve 0 0 0 0 0 0, .get 0 0 0 0 0 0, .cpCompletion 0 0 0 0 0 [], .interrupt 0 0,
     .timerWrite 0 0 0, .timerExpired 0 0, .sliceWarning 0 0, .mboxInWrite 0 0 false 0 0, .mboxInRead 0 0,
     .envAddr 0 0 0, .regData 0 0 false 0, .rangeData 0 0, .faultReloadDone 0 0, .release 0 0 false 0] : List Instr).all wf = true := by
  decide +kernel

/-- Each bound of the MEM commands is checked: the first operand beyond it is ill formed. -/
theorem test_illformed_MEM :
    ([
     .scrub 0x10000000000000000 0 0 0 0 false false, .flipArm 0 20 false 0, .flipArm 0 0 false 0x100000000] : List Instr).all (fun i => !wf i) = true := by
  decide +kernel

/-- With every operand at its least, the MEM commands are well formed. -/
theorem test_wellformed_MEM :
    ([
     .scrub 0 0 0 0 0 false false, .mergeDrain 0 0, .flipArm 0 0 false 0, .bucketLeak 0] : List Instr).all wf = true := by
  decide +kernel

/-- Each bound of the PLT commands is checked: the first operand beyond it is ill formed. -/
theorem test_illformed_PLT :
    ([
     .pageOperationStart 0x10000000000000000 0 0, .pageOperationStart 0 4 0, .pageOperationEnd 0 4,
     .pltAccRead 0 20 0, .pltAccWrite 0 20 false, .archiveExport 0 0x4000] : List Instr).all (fun i => !wf i) = true := by
  decide +kernel

/-- With every operand at its least, the PLT commands are well formed. -/
theorem test_wellformed_PLT :
    ([
     .pageOperationStart 0 0 0, .pageOperationEnd 0 0, .recallDone 0, .marginRead 0 0, .marginNow 0,
     .pltAccRead 0 0 0, .pltAccWrite 0 0 false, .vholdWaitTimeout 0, .archiveAppend 0, .sealRetry 0,
     .archiveExport 0 0] : List Instr).all wf = true := by
  decide +kernel

/-- Each bound of the BOOT commands is checked: the first operand beyond it is ill formed. -/
theorem test_illformed_BOOT :
    ([
     .fuseReadDone 0x10000000000000000 [] [] [], .slotCopyDone 0 2 false [] false, .retryBoot 0 20 false,
     .switch 0 20 false 0, .switch 0 0 false 2, .recopy 0 256 false [] false, .read 0 20 false 0 0 0,
     .read 0 0 false 0x100000000 0 0, .read 0 0 false 0 4 0, .read 0 0 false 0 0 0x4000, .program 0 20 false 0 0 0,
     .program 0 0 false 0x100000000 0 0, .program 0 0 false 0 4 0, .program 0 0 false 0 0 0x4000,
     .erase4 0 20 false 0, .erase4 0 0 false 0x100000000, .erase64 0 20 false 0, .erase64 0 0 false 0x100000000] : List Instr).all (fun i => !wf i) = true := by
  decide +kernel

/-- With every operand at its least, the BOOT commands are well formed. -/
theorem test_wellformed_BOOT :
    ([
     .fuseReadDone 0 [] [] [], .flashDiscovery 0 0 0 false false [] [], .slotCopyDone 0 0 false [] false,
     .bootRecord 0, .retryBoot 0 0 false, .switch 0 0 false 0, .switchFinish 0, .recopy 0 0 false [] false,
     .read 0 0 false 0 0 0, .program 0 0 false 0 0 0, .erase4 0 0 false 0, .erase64 0 0 false 0,
     .flashOpDone 0 false []] : List Instr).all wf = true := by
  decide +kernel

/-- Each bound of the PWR commands is checked: the first operand beyond it is ill formed. -/
theorem test_illformed_PWR :
    ([
     .domainOff 0x10000000000000000 0, .domainOff 0 9, .domainOn 0 9, .domainSequenceDone 0 9, .doze 0 9 false,
     .wake 0 8 0, .wake 0 0 8, .reversal 0 10, .wakePinFire 0 8 false] : List Instr).all (fun i => !wf i) = true := by
  decide +kernel

/-- With every operand at its least, the PWR commands are well formed. -/
theorem test_wellformed_PWR :
    ([
     .domainOff 0 0, .domainOn 0 0, .domainSequenceDone 0 0, .doze 0 0 false, .s2Entry 0, .s3Entry 0,
     .pollLeadTimer 0, .wake 0 0 0, .wakeDone 0 0, .offCmd 0, .reversal 0 0, .voltageCommand 0 0,
     .temperatureBand 0 0, .avsAck 0 0, .voutRead 0 0 0, .avsFailure 0 0 0, .fallbackRead 0 0 0 false,
     .wakePinFire 0 0 false] : List Instr).all wf = true := by
  decide +kernel

/-- Each bound of the HIF commands is checked: the first operand beyond it is ill formed. -/
theorem test_illformed_HIF :
    ([
     .claim 0x10000000000000000 0 0, .claim 0 0x4000 0, .give 0 0x4000 0, .return 0 0x4000 0,
     .bar2Write 0 0x4000000 [] false, .vectorSend 0 16 0 false false, .msiUnmask 0 16] : List Instr).all (fun i => !wf i) = true := by
  decide +kernel

/-- With every operand at its least, the HIF commands are well formed. -/
theorem test_wellformed_HIF :
    ([
     .claim 0 0 0, .give 0 0 0, .return 0 0 0, .bar2Write 0 0 [] false, .flushTimeout 0, .evtFlush 0,
     .statsSnapshot 0, .statsGo 0, .vectorSend 0 0 0 false false, .msiUnmask 0 0, .hostReset 0 false,
     .linkDownTimeout 0] : List Instr).all wf = true := by
  decide +kernel

/-- Each bound of the BLN commands is checked: the first operand beyond it is ill formed. -/
theorem test_illformed_BLN :
    ([
     .portTrainingDone 0x10000000000000000 0 0 0 false [], .portTrainingDone 0 2 0 0 false [],
     .hello 0 2 0 0 0 false false, .hello 0 0 0x10000000000000000 0 0 false false, .hello 0 0 0 8 0 false false,
     .hello 0 0 0 0 0x100000000 false false, .pairing 0 2 false [], .ident 0 2 0 0 0 0 0 0 false,
     .ident 0 0 0x10000000000000000 0 0 0 0 0 false, .ident 0 0 0 8 0 0 0 0 false, .ident 0 0 0 0 8 0 0 0 false,
     .ident 0 0 0 0 0 0x100000000 0 0 false, .ident 0 0 0 0 0 0 9 0 false, .ident 0 0 0 0 0 0 0 8 false,
     .map 0 2 0 0 [], .refusalRetry 0 2, .retrain 0 2, .syncPeriod 0 2 0 0,
     .timeExchange 0 2 0 0 0 0 0 0 0 0 0 0 false, .timeExchange 0 0 0x10000000000000000 0 0 0 0 0 0 0 0 0 false,
     .timeExchange 0 0 0 0x10000000000000000 0 0 0 0 0 0 0 0 false,
     .timeExchange 0 0 0 0 0x10000000000000000 0 0 0 0 0 0 0 false,
     .timeExchange 0 0 0 0 0 0x10000000000000000 0 0 0 0 0 0 false, .timeExchange 0 0 0 0 0 0 0 0 256 0 0 0 false,
     .timeExchange 0 0 0 0 0 0 0 0 0 0x10000000000000000 0 0 false, .timeExchange 0 0 0 0 0 0 0 0 0 0 0 256 false,
     .req 0 2 0 0 0 0 0 0 0 false [], .req 0 0 8 0 0 0 0 0 0 false [], .req 0 0 0 8 0 0 0 0 0 false [],
     .req 0 0 0 0 24 0 0 0 0 false [], .req 0 0 0 0 0 24 0 0 0 false [], .req 0 0 0 0 0 0 0x10000 0 0 false [],
     .req 0 0 0 0 0 0 0 0x10000 0 false [], .req 0 0 0 0 0 0 0 0 0x100000000 false [],
     .rply 0 2 0 0 0 0 0 0 0 false [], .rply 0 0 8 0 0 0 0 0 0 false [], .rply 0 0 0 8 0 0 0 0 0 false [],
     .rply 0 0 0 0 24 0 0 0 0 false [], .rply 0 0 0 0 0 24 0 0 0 false [], .rply 0 0 0 0 0 0 0x10000 0 0 false [],
     .rply 0 0 0 0 0 0 0 0x10000 0 false [], .rply 0 0 0 0 0 0 0 0 0x100000000 false [], .envFrame 0 2 0 0 [],
     .envFrame 0 0 8 0 [], .envFrame 0 0 0 256 [], .racc 0 2 0 0 0 0 0 false 0 0, .racc 0 0 8 0 0 0 0 false 0 0,
     .racc 0 0 0 8 0 0 0 false 0 0, .racc 0 0 0 0 0x10000 0 0 false 0 0, .racc 0 0 0 0 0 0x10000 0 false 0 0,
     .racc 0 0 0 0 0 0 0x100000000 false 0 0, .racc 0 0 0 0 0 0 0 false 0x1000000 0,
     .racc 0 0 0 0 0 0 0 false 0 0x100000000] : List Instr).all (fun i => !wf i) = true := by
  decide +kernel

/-- With every operand at its least, the BLN commands are well formed. -/
theorem test_wellformed_BLN :
    ([
     .portTrainingDone 0 0 0 0 false [], .hello 0 0 0 0 0 false false, .pairing 0 0 false [],
     .ident 0 0 0 0 0 0 0 0 false, .map 0 0 0 0 [], .blnLinkDown 0 0 0 [], .refusalRetry 0 0, .retrain 0 0,
     .syncPeriod 0 0 0 0, .timeExchange 0 0 0 0 0 0 0 0 0 0 0 0 false, .req 0 0 0 0 0 0 0 0 0 false [],
     .rply 0 0 0 0 0 0 0 0 0 false [], .envFrame 0 0 0 0 [], .raccGo 0, .racc 0 0 0 0 0 0 0 false 0 0,
     .raccTimeout 0] : List Instr).all wf = true := by
  decide +kernel

/-- Each bound of the MGT commands is checked: the first operand beyond it is ill formed. -/
theorem test_illformed_MGT :
    ([
     .writeTransfer 0x10000000000000000 [] false false false, .readTransfer 0 0x1000000 0 false, .enec 0 256,
     .disec 0 256, .entdaa 0 128, .setdasa 0 128 0, .setdasa 0 0 128, .envBufWrite 0 20 0,
     .envBufWrite 0 0 0x100000000, .mgtEnvSubmit 0 20 0, .mgtEnvSubmit 0 0 0x2000, .recon 0 24,
     .announce 0 2 0 0 0 0, .announce 0 0 0x10000000000000000 0 0 0, .announce 0 0 0 2 0 0,
     .announce 0 0 0 0 256 0, .announce 0 0 0 0 0 0x100000000, .confirm 0 2 0 [], .confirm 0 0 256 [],
     .assignTimeout 0 256, .beat 0 2 0, .beat 0 0 256, .leave 0 2 0 [], .leave 0 0 256 [], .departure 0 256,
     .temp 0 3 0] : List Instr).all (fun i => !wf i) = true := by
  decide +kernel

/-- With every operand at its least, the MGT commands are well formed. -/
theorem test_wellformed_MGT :
    ([
     .writeTransfer 0 [] false false false, .readTransfer 0 0 0 false, .enec 0 0, .disec 0 0, .rstdaa 0,
     .entdaa 0 0, .setdasa 0 0 0, .getpid 0, .getbcr 0, .getdcr 0, .getstatus 0, .getmwl 0, .getmrl 0,
     .alertResponse 0, .envBufWrite 0 0 0, .mgtEnvSubmit 0 0 0, .recon 0 0, .probe 0, .announce 0 0 0 0 0 0,
     .confirm 0 0 0 [], .assignTimeout 0 0, .beat 0 0 0, .leave 0 0 0 [], .departure 0 0, .temp 0 0 0] : List Instr).all wf = true := by
  decide +kernel

/-- Each bound of the EYE commands is checked: the first operand beyond it is ill formed. -/
theorem test_illformed_EYE :
    ([
     .idCmd 0x10000000000000000, .rd 0 0x1000000 0, .rd 0 0 65, .wr 0 0x1000000 0, .wr 0 0 0x100000000,
     .dbg 0 16 false, .halt 0 16, .regs 0 16, .mrd 0 16 0 0 0, .mrd 0 0 3 0 0, .mrd 0 0 0 0x10000 0,
     .mrd 0 0 0 0 65, .mwr 0 16 0 0 0, .mwr 0 0 3 0 0, .mwr 0 0 0 0x10000 0, .mwr 0 0 0 0 0x100000000, .step 0 16,
     .goCmd 0 16] : List Instr).all (fun i => !wf i) = true := by
  decide +kernel

/-- With every operand at its least, the EYE commands are well formed. -/
theorem test_wellformed_EYE :
    ([
     .idCmd 0, .status 0, .nonce 0, .envCmd 0 [], .rd 0 0 0, .wr 0 0 0, .dbg 0 0 false, .halt 0 0, .regs 0 0,
     .mrd 0 0 0 0 0, .mwr 0 0 0 0 0, .step 0 0, .goCmd 0 0, .lineTimeout 0 0, .monitorGrantEnd 0] : List Instr).all wf = true := by
  decide +kernel

/-- Each bound of the PIN commands is checked: the first operand beyond it is ill formed. -/
theorem test_illformed_PIN :
    ([
     .railFault 0x10000000000000000 0 0 straps0, .railFault 0 7 0 straps0, .railFault 0 0 0 strapsDev8,
     .railFault 0 0 0 strapsPol4, .resetPin 0 strapsDev8, .resetPin 0 strapsPol4, .xtal 0 2 0 false] : List Instr).all (fun i => !wf i) = true := by
  decide +kernel

/-- With every operand at its least, the PIN commands are well formed. -/
theorem test_wellformed_PIN :
    ([
     .railFault 0 0 0 straps0, .resetPin 0 straps0, .vholdCapEstimate 0 0 0, .xtal 0 0 0 false] : List Instr).all wf = true := by
  decide +kernel

/-- Each bound of the DATA_READ commands is checked: the first operand beyond it is ill formed. -/
theorem test_illformed_DATA_READ :
    ([
     .sesCtxDataRead 0x10000000000000000 0 false, .sesCtxDataRead 0 20 false, .ephRecDataRead 0 20 false,
     .shuRelDataRead 0 20 false, .helCmDataRead 0 20 false, .almAncDataRead 0 20 false, .almRegDataRead 0 20 false,
     .almResDataRead 0 20 false, .astScriptDataRead 0 20 false, .memRemapDataRead 0 20 false,
     .memLogDataRead 0 20 false, .bootFuseDataRead 0 20 false, .hifFlagDataRead 0 20 false,
     .mgtFndDataRead 0 20 false, .pinPadDataRead 0 20 false false false] : List Instr).all (fun i => !wf i) = true := by
  decide +kernel

/-- With every operand at its least, the DATA_READ commands are well formed. -/
theorem test_wellformed_DATA_READ :
    ([
     .sesCtxDataRead 0 0 false, .ephRecDataRead 0 0 false, .shuRelDataRead 0 0 false, .helCmDataRead 0 0 false,
     .almAncDataRead 0 0 false, .almRegDataRead 0 0 false, .almResDataRead 0 0 false, .astScriptDataRead 0 0 false,
     .memRemapDataRead 0 0 false, .memLogDataRead 0 0 false, .bootFuseDataRead 0 0 false,
     .hifFlagDataRead 0 0 false, .mgtFndDataRead 0 0 false, .pinPadDataRead 0 0 false false false] : List Instr).all wf = true := by
  decide +kernel

/-- Each bound of the Other commands is checked: the first operand beyond it is ill formed. -/
theorem test_illformed_Other :
    ([
     .lateLock 0x10000000000000000 0, .lateLock 0 20, .currentBinWrite 0 20 0, .currentBinWrite 0 0 8,
     .busOffRecovered 0 2, .illegal 0 16, .coproc 0 16] : List Instr).all (fun i => !wf i) = true := by
  decide +kernel

/-- With every operand at its least, the Other commands are well formed. -/
theorem test_wellformed_Other :
    ([
     .lateLock 0 0, .currentBinWrite 0 0 0, .busOffRecovered 0 0, .illegal 0 0, .coproc 0 0, .vholdLow 0 0,
     .vholdGood 0 0, .vmonStable 0 0, .pcieLinkDown 0, .pcieLinkUp 0 0 0 false, .hotJoin 0] : List Instr).all wf = true := by
  decide +kernel


/-! ## Worked examples of the specification -/

/-- The source numbers composed under R48. -/
theorem test_source_numbers :
    (W.wr MER_STAT.DEVICE 2).source 3 37 = 0x40E5 ∧ W.source 5 4 = 0x0144 ∧ W.source 8 0 = 0x0200 := by
  decide +kernel

/-- The reset levels of UWB step 0 and UHF step 31. -/
theorem test_level_resets : W.rd RAD_UWB_STEP.LEVEL 0 = 0xFD44 ∧ W.rd RAD_UHF_STEP.LEVEL 31 = 0x008C := by
  decide +kernel

/-- The exchange with a fast token: 896.000 ticks, 4,203 mm, 12.00 ppm. -/
theorem test_ranging_example :
    dsTof 19170842 19171302 19169280 19169280 = 14336 ∧ rangeMm 14336 = 4203 ∧
      dsEps 19170842 19171302 19169280 19169280 = 1200 := by
  decide +kernel

/-- The results at the edges, with the flags each writes. -/
theorem test_alu_edges :
    divsOut 0x80000000 0xFFFFFFFF = (0x80000000, nzF 0x80000000 ++ [(pbV, true)]) ∧
      (divsOut 5 0).1 = 0x7FFFFFFF ∧ (divsOut 0xFFFFFFF9 0).1 = 0x80000000 ∧ (divuOut 0xFFFFFFF9 0).1 = 0xFFFFFFFF ∧
      (remsOut 0xFFFFFFF9 2).1 = 0xFFFFFFFF ∧ shlOut 1 32 = (0, nzF 0 ++ [(pbC, true)]) ∧
      sarOut 0x80000010 40 = (0xFFFFFFFF, nzF 0xFFFFFFFF ++ [(pbC, true)]) ∧
      rorOut 1 33 = (0x80000000, nzF 0x80000000 ++ [(pbC, true)]) ∧ shlOut 1 64 = (1, nzF 1) := by
  decide +kernel

/-- The trim budget: 1.5 s taken at 10:00:00; at 16:00:00 0.6 s more is refused and 0.5 s is not. -/
theorem test_trim_budget :
    let s := { W.wr MER_STAT.QUALITY qRef with mer := { W.mer with trims := [⟨36000, 1500000⟩], offset := 57600 * 1000000000 } }
    s.trimCode (-600000) = ccRegLimit ∧ s.trimCode (-500000) = ccOk := by
  decide +kernel

/-- SP 800-38B's AES-128 CMAC of the empty message. -/
theorem test_cmac_empty :
    cmacNat [0x2b, 0x7e, 0x15, 0x16, 0x28, 0xae, 0xd2, 0xa6, 0xab, 0xf7, 0x15, 0x88, 0x09, 0xcf, 0x4f, 0x3c] [] =
      [0xbb, 0x1d, 0x69, 0x29, 0xe9, 0x59, 0x37, 0x28, 0x7f, 0xa3, 0x7d, 0x12, 0x9b, 0x75, 0x67, 0x46] := by
  decide +kernel

/-- FIPS 180-4's SHA-256 of "abc". -/
theorem test_sha_abc :
    (sha256 [0x61, 0x62, 0x63]).take 8 = [0xba, 0x78, 0x16, 0xbf, 0x8f, 0x01, 0xcf, 0xea] := by
  decide +kernel

/-! ## The premises of the statements are met -/

/-- The premises of SystemCommandsTakeEffect, clauses 1 on, are met together. -/
theorem test_meets_SystemCommandsTakeEffect_1 :
    ((Powered W) ∧ (19 < 20) ∧ (0x7FFFFC < 2 ^ 23) ∧ (0xFFFFFFFF < 2 ^ 32)) ∧
    ((Powered W) ∧ (19 < 20) ∧ (0x7FFFFC < 2 ^ 23)) ∧
    ((Powered W) ∧ (0 < 20) ∧ (23 < 24) ∧ ((cntFlds 23).isEmpty = false)) ∧
    ((Powered W) ∧ (0 < 20) ∧ (2 < 24) ∧ (lockFld 2 = some HEL_CTL.LOCK)) ∧
    ((Powered W) ∧ (((W.adv 0).dieLink true).down = false) ∧ (((W.adv 0).dieLink true).fails < 2)) ∧
    ((Powered linkFails) ∧ (((linkFails.adv 0).dieLink true).down = false) ∧ (((linkFails.adv 0).dieLink true).fails = 2)) := 
  ⟨by decide +kernel, by decide +kernel, by decide +kernel, by decide +kernel, by decide +kernel, by decide +kernel⟩

/-- The premises of SystemCommandsTakeEffect, clauses 7 on, are met together. -/
theorem test_meets_SystemCommandsTakeEffect_2 :
    ((Powered linkDown) ∧ (((linkDown.adv 0).dieLink true).down = true)) ∧
    ((Powered W) ∧ (23 < 24) ∧ (23 ≠ 0x0B) ∧ (3 ≤ 3)) ∧
    ((Powered W) ∧ (23 < 24) ∧ (23 ≠ 0x0B) ∧ (3 ≤ 3)) ∧
    ((Powered W) ∧ (23 < 24)) ∧
    ((Powered (W.setUnitS 23 { diffSince := some 0 })) ∧ (23 < 24) ∧ ((((W.setUnitS 23 { diffSince := some 0 }).adv (msT 10)).unitS 23).diffSince = some 0) ∧ (0 + msT 10 ≤ ((W.setUnitS 23 { diffSince := some 0 }).adv (msT 10)).now)) ∧
    ((Powered W) ∧ (23 < 24) ∧ (23 < 24) ∧ ((W.adv 0).domSt (unitDom 23) ≠ dsDoze) ∧ (0xFFFF ≠ (W.adv 0).rd SYS_UNIT_STATE.EPOCH 23)) := 
  ⟨by decide +kernel, by decide +kernel, by decide +kernel, by decide +kernel, by decide +kernel, by decide +kernel⟩

/-- The premises of SystemCommandsTakeEffect, clauses 13 on, are met together. -/
theorem test_meets_SystemCommandsTakeEffect_3 :
    ((Powered W) ∧ (23 < 24) ∧ (0xFFFF ≠ (W.adv 0).rd SYS_UNIT_STATE.EPOCH 23)) := by decide +kernel

/-- The premises of MeridianCommandsTakeEffect, clauses 1 on, are met together. -/
theorem test_meets_MeridianCommandsTakeEffect_1 :
    ((Powered W) ∧ (0xFFFFFFFF < 2 ^ 32) ∧ ((W.adv 0).rd PWR_STAT.STATE = 0)) ∧
    ((Powered W) ∧ ((W.adv (secT 100000)).mer.lastCkpt + (W.adv (secT 100000)).ckptPeriodNs ≤ (W.adv (secT 100000)).civilNs)) ∧
    ((Powered W) ∧ (((2000001 : Int)) ≠ 0) ∧ ((W.adv 0).trimCode ((2000001 : Int)) ≠ ccOk)) ∧
    ((Powered refTime) ∧ (((1 : Int)) ≠ 0) ∧ ((refTime.adv (secT 5)).trimCode ((1 : Int)) = ccOk)) ∧
    ((Powered W) ∧ ((W.adv 0).mer.pending = 0)) ∧
    ((Powered rngUp) ∧ ((rngUp.adv 0).rngCan 4 = true)) := 
  ⟨by decide +kernel, by decide +kernel, by decide +kernel, by decide +kernel, by decide +kernel, by decide +kernel⟩

/-- The premises of MeridianCommandsTakeEffect, clauses 7 on, are met together. -/
theorem test_meets_MeridianCommandsTakeEffect_2 :
    ((Powered (armedTime true)) ∧ (true = true) ∧ (0xFFFFFFFF < 2 ^ 32) ∧ (0xFFFFFFFF < 2 ^ 32) ∧ (((armedTime true).adv 0).viewReason 0 0x01 = none) ∧ (((armedTime true).adv 0).rd MER_STAT.QUALITY = qRef) ∧ (((armedTime true).adv 0).armedSet = some (true, true, ((-1 : Int)), 0)) ∧ (toSigned 64 (0xFFFFFFFF + 0xFFFFFFFF * 2 ^ 32) = ((-1 : Int)))) ∧
    ((Powered (armedTime false)) ∧ (true = true) ∧ (0 < 256) ∧ (((armedTime false).adv 0).viewReason 0 0x01 = none) ∧ (((armedTime false).adv 0).rd MER_STAT.QUALITY = qRef) ∧ (((armedTime false).adv 0).armedSet = some (false, true, ((-1 : Int)), 0))) ∧
    ((Powered aloneDev) ∧ ((aloneDev.adv (msT 100)).rd MER_STAT.QUALITY = qAcquiring) ∧ ((aloneDev.adv (msT 100)).on MER_STAT.MASTER = false) ∧ ((aloneDev.adv (msT 100)).rd BLN_STAT.STATE = 0) ∧ ((aloneDev.adv (msT 100)).mer.aloneSince + msT 100 ≤ (aloneDev.adv (msT 100)).now) ∧ ((aloneDev.adv (msT 100)).mer.formed = false) ∧ ((aloneDev.adv (msT 100)).rep 0x14 = stRun)) ∧
    ((Powered measuring) ∧ (20 ≤ 20) ∧ ((measuring.adv (secT 1)).rd MER_STAT.QUALITY = qAcquiring) ∧ ((measuring.adv (secT 1)).mer.measured = true) ∧ ((measuring.adv (secT 1)).mer.goodSince = some 0) ∧ (0 + secT 1 ≤ (measuring.adv (secT 1)).now)) ∧
    ((Powered (W.wr MER_STAT.QUALITY qLocked)) ∧ (((W.wr MER_STAT.QUALITY qLocked).adv (msT 1)).rd MER_STAT.QUALITY = qLocked) ∧ (((W.wr MER_STAT.QUALITY qLocked).adv (msT 1)).mer.lastValid + msT 1 ≤ ((W.wr MER_STAT.QUALITY qLocked).adv (msT 1)).now)) ∧
    ((Powered (W.wr MER_STAT.QUALITY qHoldover)) ∧ (((W.wr MER_STAT.QUALITY qHoldover).adv (secT 1000000)).rd MER_STAT.QUALITY = qHoldover) ∧ (((W.wr MER_STAT.QUALITY qHoldover).adv (secT 1000000)).mer.qualSince + ((W.wr MER_STAT.QUALITY qHoldover).adv (secT 1000000)).holdLimit < ((W.wr MER_STAT.QUALITY qHoldover).adv (secT 1000000)).now)) := 
  ⟨by decide +kernel, by decide +kernel, by decide +kernel, by decide +kernel, by decide +kernel, by decide +kernel⟩

/-- The premises of HeliostatCommandsTakeEffect, clauses 1 on, are met together. -/
theorem test_meets_HeliostatCommandsTakeEffect_1 :
    ((Powered burst) ∧ ((burst.adv 0).exOf 1 = some exA)) ∧
    ((Powered burst) ∧ (63 < 64) ∧ (((burst.adv 0).chState 63 = chDrive ∨ (burst.adv 0).chState 63 = chMeas ∨ (burst.adv 0).chState 63 = chCal ∨ (burst.adv 0).chState 63 = chTest))) ∧
    ((Powered burst) ∧ ((burst.adv 0).driving 63 = true)) ∧
    ((Powered W) ∧ (63 < 64) ∧ ((3 % 4 < 2 ∨ ((W.adv 0).zonesOf 63).any (W.adv 0).zoneEnabled = false))) ∧
    ((Powered testing) ∧ (SMap.find (testing.adv (secT 10)).hel.testAt 63 = some 0) ∧ (0 + secT 10 ≤ (testing.adv (secT 10)).now)) ∧
    ((Powered W)) := 
  ⟨by decide +kernel, by decide +kernel, by decide +kernel, by decide +kernel, by decide +kernel, by decide +kernel⟩

/-- The premises of HeliostatCommandsTakeEffect, clauses 7 on, are met together. -/
theorem test_meets_HeliostatCommandsTakeEffect_2 :
    ((Powered W) ∧ (63 < 64)) ∧
    ((Powered calling) ∧ ((calling.adv 0).hel.calQ.contains 63 = true) ∧ ((calling.adv 0).driving 63 = false) ∧ ((calling.adv 0).inSlot 63 = false)) ∧
    ((Powered W)) ∧
    ((Powered W)) ∧
    ((Powered W) ∧ (63 < 64)) ∧
    ((Powered up) ∧ ((up.adv (secT 100000)).running 0x02 = true) ∧ ((up.adv (secT 100000)).hel.periodAt + secT (orOne ((up.adv (secT 100000)).rd HEL_DRIFT_CFG.REMEAS_S)) ≤ (up.adv (secT 100000)).now) ∧ ((up.adv (secT 100000)).pwrState ≤ psS1)) := 
  ⟨by decide +kernel, by decide +kernel, by decide +kernel, by decide +kernel, by decide +kernel, by decide +kernel⟩

/-- The premises of HeliostatCommandsTakeEffect, clauses 13 on, are met together. -/
theorem test_meets_HeliostatCommandsTakeEffect_3 :
    ((Powered columns) ∧ ((columns.adv 0).hel.cols.isEmpty = false) ∧ ((columns.adv 0).hel.slot = none) ∧ ((columns.adv 0).lfp.ex.any (fun e => e.chans.any (columns.adv 0).slotChans.contains || ((columns.adv 0).listenSet e.zone e.car).any (columns.adv 0).slotChans.contains) = false) ∧ ((columns.adv 0).lfpItems.any (fun i => decide (i.rank < (columns.adv 0).slotRank) && ((columns.adv 0).zoneChans i.zone).any (columns.adv 0).slotChans.contains) = false) ∧ ((columns.adv 0).pwrState < psS2) ∧ ((columns.adv 0).running 0x02 = true)) ∧
    ((Powered slotUp) ∧ ((slotUp.adv (secT 1)).hel.slot = some ((⟨[(2, 63)], 0, 0⟩ : HelSlot))) ∧ (((⟨[(2, 63)], 0, 0⟩ : HelSlot)).cols = (2, 63) :: ([])) ∧ (((⟨[(2, 63)], 0, 0⟩ : HelSlot)).start + (slotUp.adv (secT 1)).colTicks 2 ≤ (slotUp.adv (secT 1)).now)) ∧
    ((Powered W)) ∧
    ((Powered W)) ∧
    ((Powered solving) ∧ ((solving.adv 0).hel.solves = (31, 2) :: ([])) ∧ ((solving.adv 0).zoneProg 31 = some zoneA)) := 
  ⟨by decide +kernel, by decide +kernel, by decide +kernel, by decide +kernel, by decide +kernel⟩

/-- The premises of PollingCommandsTakeEffect, clauses 1 on, are met together. -/
theorem test_meets_PollingCommandsTakeEffect_1 :
    ((Powered polling) ∧ ((polling.adv (msT 9)).pollOn 63 = true) ∧ ((polling.adv (msT 9)).nextDue 63 ((polling.adv (msT 9)).now / msT 1) * msT 1 ≤ (polling.adv (msT 9)).now + msT 2) ∧ ((polling.adv (msT 9)).pwrState ≤ psS1) ∧ ((polling.adv (msT 9)).lfp.polls.any (fun p => p.entry == 63 && p.due == (polling.adv (msT 9)).nextDue 63 ((polling.adv (msT 9)).now / msT 1) * msT 1) = false)) ∧
    ((Powered polling) ∧ ((polling.adv 0).pollOn 63 = true) ∧ ((polling.adv 0).dueMs 63 ((polling.adv 0).now / msT 1) = true) ∧ ((polling.adv 0).pwrState ≤ psS1) ∧ ((polling.adv 0).lfp.polls.any (fun p => p.entry == 63 && p.due == (polling.adv 0).now / msT 1 * msT 1) = false)) ∧
    ((Powered pollAsked) ∧ ((pollAsked.adv 0).pollOn 63 = true) ∧ ((pollAsked.adv 0).dueMs 63 ((pollAsked.adv 0).now / msT 1) = true) ∧ ((pollAsked.adv 0).pwrState ≤ psS1) ∧ ((pollAsked.adv 0).lfp.polls.any (fun p => p.entry == 63 && p.due == (pollAsked.adv 0).now / msT 1 * msT 1) = true)) ∧
    ((Powered pollStale) ∧ ((pollStale.adv (secT 10)).lfp.polls.find? (fun p => p.entry == 63 && p.isDue && decide ((pollStale.adv (secT 10)).now ≥ p.due + msT ((pollStale.adv (secT 10)).pollPeriod 63))) = some ((⟨63, 0, true, none, true, false, []⟩ : LfpPoll)))) ∧
    ((Powered windowReady) ∧ ((windowReady.adv 0).running 0x03 = true) ∧ ((windowReady.adv 0).pickItem (windowReady.adv 0).slotRank (windowReady.adv 0).lfpItems [] false = some (({ rank := 3, at' := 0, zone := 31, entry := 0, win := some 0 } : LfpItem))) ∧ ((({ rank := 3, at' := 0, zone := 31, entry := 0, win := some 0 } : LfpItem)).win = some 0) ∧ ((windowReady.adv 0).winOf 0 = some winReady) ∧ (winReady.keep = none) ∧ ((windowReady.adv 0).pickCar winReady.zone winReady.tried = some 0)) ∧
    ((Powered pollReady) ∧ ((pollReady.adv 0).running 0x03 = true) ∧ ((pollReady.adv 0).pickItem (pollReady.adv 0).slotRank (pollReady.adv 0).lfpItems [] false = some (({ rank := 5, at' := 0, zone := 31, entry := 63, win := none } : LfpItem))) ∧ ((({ rank := 5, at' := 0, zone := 31, entry := 63, win := none } : LfpItem)).win = none) ∧ ((pollReady.adv 0).lfp.polls.find? (fun p₁ => p₁.isDue && p₁.entry == (({ rank := 5, at' := 0, zone := 31, entry := 63, win := none } : LfpItem)).entry) = some duePoll) ∧ (duePoll.owner = some (0, 1)) ∧ ((pollReady.adv 0).live 0 1 = true) ∧ ((pollReady.adv 0).pickCar ((pollReady.adv 0).rd LFP_SCHED_CTL.ZONE duePoll.entry) duePoll.tried = some 0)) := 
  ⟨by decide +kernel, by decide +kernel, by decide +kernel, by decide +kernel, by decide +kernel, by decide +kernel⟩

/-- The premises of PollingCommandsTakeEffect, clauses 7 on, are met together. -/
theorem test_meets_PollingCommandsTakeEffect_2 :
    ((Powered ((sesWith 255 { kind := 1, state := 1 }))) ∧ ((((sesWith 255 { kind := 1, state := 1 })).adv 0).ctx? 255 = some (({ kind := 1, state := 1 } : Ctx))) ∧ ((({ kind := 1, state := 1 } : Ctx)).kind = 1) ∧ ((({ kind := 1, state := 1 } : Ctx)).state = ssIdle) ∧ ((((sesWith 255 { kind := 1, state := 1 })).adv 0).winOf 255 = none) ∧ ((({ kind := 1, state := 1 } : Ctx)).openEarly = true) ∧ ((((sesWith 255 { kind := 1, state := 1 })).adv 0).running 0x03 = true) ∧ ((((sesWith 255 { kind := 1, state := 1 })).adv 0).rd HEL_ZONE_STAT.STATE (({ kind := 1, state := 1 } : Ctx)).zone ≠ 4)) ∧
    ((Powered window) ∧ ((window.adv (secT 100)).winOf 255 = some winA) ∧ ((window.adv (secT 100)).winOver winA = true) ∧ ((window.adv (secT 100)).exRuns 255 winA.gen = false)) ∧
    ((Powered burst) ∧ ((burst.adv (burst.turnHi exA)).exOf 1 = some exA) ∧ (exA.sof = none) ∧ (exA.ended = false) ∧ (exA.closed = false) ∧ ((burst.adv (burst.turnHi exA)).turnLo exA ≤ (burst.adv (burst.turnHi exA)).now) ∧ ((burst.adv (burst.turnHi exA)).now ≤ (burst.adv (burst.turnHi exA)).turnHi exA)) ∧
    ((Powered burstClosed) ∧ ((burstClosed.adv (burst.turnHi exA + 1)).exOf 1 = some (({ exA with closed := true } : LfpEx))) ∧ ((({ exA with closed := true } : LfpEx)).sof = none) ∧ ((({ exA with closed := true } : LfpEx)).ended = false) ∧ ((({ exA with closed := true } : LfpEx)).closed = true) ∧ ((burstClosed.adv (burst.turnHi exA + 1)).turnLo (({ exA with closed := true } : LfpEx)) ≤ (burstClosed.adv (burst.turnHi exA + 1)).now) ∧ ((burstClosed.adv (burst.turnHi exA + 1)).turnHi (({ exA with closed := true } : LfpEx)) < (burstClosed.adv (burst.turnHi exA + 1)).now) ∧ ((burstClosed.adv (burst.turnHi exA + 1)).now ≤ (burstClosed.adv (burst.turnHi exA + 1)).turnHi (({ exA with closed := true } : LfpEx)) + cellT (({ exA with closed := true } : LfpEx)).rate)) ∧
    ((Powered burst) ∧ ((burst.adv (burst.turnHi exA)).exOf 1 = some exA) ∧ (exA.sof = none) ∧ (exA.closed = false) ∧ ((burst.adv (burst.turnHi exA)).turnHi exA ≤ (burst.adv (burst.turnHi exA)).now) ∧ (0 < (burst.adv (burst.turnHi exA)).rd LFP_DROWN_CFG.INT_DB) ∧ ((exA.owned && !exA.void && exA.entry.isSome) = false)) ∧
    ((Powered burstSof) ∧ ((burstSof.adv (secT 1)).exOf 1 = some (({ exA with sof := some 0 } : LfpEx))) ∧ ((({ exA with sof := some 0 } : LfpEx)).sof = some 0) ∧ ((({ exA with sof := some 0 } : LfpEx)).ended = false) ∧ (0 + cellT (({ exA with sof := some 0 } : LfpEx)).rate * (bodyBits (({ exA with sof := some 0 } : LfpEx)).fmt + 1) ≤ (burstSof.adv (secT 1)).now) ∧ (0 < (burstSof.adv (secT 1)).eraseMax)) := 
  ⟨by decide +kernel, by decide +kernel, by decide +kernel, by decide +kernel, by decide +kernel, by decide +kernel⟩

/-- The premises of PollingCommandsTakeEffect, clauses 13 on, are met together. -/
theorem test_meets_PollingCommandsTakeEffect_3 :
    ((Powered burstSof) ∧ ((burstSof.adv 0).exOf 1 = some (({ exA with sof := some 0 } : LfpEx))) ∧ ((({ exA with sof := some 0 } : LfpEx)).sof = some 0) ∧ ((({ exA with sof := some 0 } : LfpEx)).ended = false) ∧ ((burstSof.adv 0).eraseMax ≤ 1000)) ∧
    ((Powered windowHop) ∧ ((windowHop.adv 0).winOf 255 = some (({ winA with hop := true } : LfpWin))) ∧ ((({ winA with hop := true } : LfpWin)).hop = true) ∧ ((({ winA with hop := true } : LfpWin)).next ≤ (windowHop.adv 0).now) ∧ ((windowHop.adv 0).winOver (({ winA with hop := true } : LfpWin)) = false) ∧ ((windowHop.adv 0).exRuns 255 (({ winA with hop := true } : LfpWin)).gen = false) ∧ ((windowHop.adv 0).zoneUp (({ winA with hop := true } : LfpWin)).zone = true) ∧ ((windowHop.adv 0).zoneFree (({ winA with hop := true } : LfpWin)).zone = true) ∧ ((({ winA with hop := true } : LfpWin)).pauseFrom = none)) ∧
    ((Powered burstClosed) ∧ ((burstClosed.adv (secT 100)).exOf 1 = some (({ exA with closed := true } : LfpEx))) ∧ ((burstClosed.adv (secT 100)).plannedEnd (({ exA with closed := true } : LfpEx)) ≤ (burstClosed.adv (secT 100)).now) ∧ (((({ exA with closed := true } : LfpEx)).sof.isSome && !(({ exA with closed := true } : LfpEx)).ended) = false) ∧ (((({ exA with closed := true } : LfpEx)).sof.isNone && !(({ exA with closed := true } : LfpEx)).closed) = false)) ∧
    ((Powered W) ∧ ((W.adv 0).on LFP_CTL.LOCK = false) ∧ (2 < 3)) ∧
    ((Powered up) ∧ ((up.adv 0).running 0x03 = true) ∧ ((up.adv 0).pwrState < psS2)) ∧
    ((Powered burst) ∧ (3 = 1 ∨ 3 = 2 ∨ 3 = 3) ∧ ((burst.adv 0).driving 63 = true)) := 
  ⟨by decide +kernel, by decide +kernel, by decide +kernel, by decide +kernel, by decide +kernel, by decide +kernel⟩

/-- The premises of RadioCommandsTakeEffect, clauses 1 on, are met together. -/
theorem test_meets_RadioCommandsTakeEffect_1 :
    ((Powered W)) ∧
    ((Powered W) ∧ (19 < 20)) ∧
    ((Powered (W.wr RAD_TRX_CAL.VALID 15 19)) ∧ (19 < 20) ∧ (((W.wr RAD_TRX_CAL.VALID 15 19).adv 0).rd RAD_TRX_CAL.VALID 19 = 15) ∧ ((((2000 : Int)) - 10 * toSigned 8 (((W.wr RAD_TRX_CAL.VALID 15 19).adv 0).rd RAD_TRX_CAL.TEMP 19)).natAbs ≥ 10 * clampTo 1 40 (((W.wr RAD_TRX_CAL.VALID 15 19).adv 0).rd RAD_CAL_CFG.CAL_DT))) ∧
    ((Powered ((trxWith 19 { calItem := some 3 }))) ∧ (((((trxWith 19 { calItem := some 3 })).adv 0).trx 19).calItem = some 3)) ∧
    ((Powered up) ∧ (19 < 20) ∧ ((up.adv 0).radCode 19 ⟨0, rsStandby, 0 % 2, 0, 0, 0, 0, false, 0, 0, 0⟩ = ccOk)) ∧
    ((Powered ((trxWith 19 { dest := some rsStandby }))) ∧ (19 < 20) ∧ (((((trxWith 19 { dest := some rsStandby })).adv 0).trx 19).dest = some rsStandby) ∧ (((((trxWith 19 { dest := some rsStandby })).adv 0).trx 19).start + ((((trxWith 19 { dest := some rsStandby })).adv 0).trx 19).dur ≤ (((trxWith 19 { dest := some rsStandby })).adv 0).now) ∧ (((((trxWith 19 { dest := some rsStandby })).adv 0).trx 19).ext = false) ∧ (((((trxWith 19 { dest := some rsStandby })).adv 0).needsLock 19 = false ∨ true = true))) := 
  ⟨by decide +kernel, by decide +kernel, by decide +kernel, by decide +kernel, by decide +kernel, by decide +kernel⟩

/-- The premises of RadioCommandsTakeEffect, clauses 7 on, are met together. -/
theorem test_meets_RadioCommandsTakeEffect_2 :
    ((Powered ((trxWith 19 { dest := some rsSynth, ext := true }))) ∧ (19 < 20) ∧ (((((trxWith 19 { dest := some rsSynth, ext := true })).adv 0).trx 19).dest = some rsSynth) ∧ (((((trxWith 19 { dest := some rsSynth, ext := true })).adv 0).trx 19).ext = true) ∧ ((((trxWith 19 { dest := some rsSynth, ext := true })).adv 0).now ≤ ((((trxWith 19 { dest := some rsSynth, ext := true })).adv 0).trx 19).start + 2 * ((((trxWith 19 { dest := some rsSynth, ext := true })).adv 0).trx 19).dur)) ∧
    ((Powered ((trxWith 19 { dest := some rsSynth, ext := true }))) ∧ (19 < 20) ∧ (((((trxWith 19 { dest := some rsSynth, ext := true })).adv 0).trx 19).dest.isSome = true) ∧ (((((trxWith 19 { dest := some rsSynth, ext := true })).adv 0).trx 19).ext = true) ∧ (((((trxWith 19 { dest := some rsSynth, ext := true })).adv 0).trx 19).start + 2 * ((((trxWith 19 { dest := some rsSynth, ext := true })).adv 0).trx 19).dur ≤ (((trxWith 19 { dest := some rsSynth, ext := true })).adv 0).now)) ∧
    ((Powered (W.wr RAD_TRX_STAT.STATE rsSynth 19)) ∧ (((W.wr RAD_TRX_STAT.STATE rsSynth 19).adv (secT 1)).idleOver 19 rsSynth (usT (10 * orOne (((W.wr RAD_TRX_STAT.STATE rsSynth 19).adv (secT 1)).rd RAD_IDLE_CFG.SYNTH_HOLD))) = true)) ∧
    ((Powered (W.wr RAD_TRX_STAT.STATE rsStandby 19)) ∧ (((W.wr RAD_TRX_STAT.STATE rsStandby 19).adv (secT 100)).idleOver 19 rsStandby (msT (orOne (((W.wr RAD_TRX_STAT.STATE rsStandby 19).adv (secT 100)).rd RAD_IDLE_CFG.STBY_HOLD))) = true)) ∧
    ((Powered W) ∧ (19 < 20)) ∧
    ((Powered (W.wr RAD_TRX_STAT.STATE rsRapid 15)) ∧ (15 < 16) ∧ (((W.wr RAD_TRX_STAT.STATE rsRapid 15).adv (usT 200)).trxState 15 = rsRapid) ∧ ((((W.wr RAD_TRX_STAT.STATE rsRapid 15).adv (usT 200)).trx 15).dest = none) ∧ ((((W.wr RAD_TRX_STAT.STATE rsRapid 15).adv (usT 200)).trx 15).idleFrom + usT 200 ≤ ((W.wr RAD_TRX_STAT.STATE rsRapid 15).adv (usT 200)).now)) := 
  ⟨by decide +kernel, by decide +kernel, by decide +kernel, by decide +kernel, by decide +kernel, by decide +kernel⟩

/-- The premises of RadioCommandsTakeEffect, clauses 13 on, are met together. -/
theorem test_meets_RadioCommandsTakeEffect_3 :
    ((Powered (W.wr RAD_TRX_STAT.STATE rsTransmit 19)) ∧ (19 < 20) ∧ (((W.wr RAD_TRX_STAT.STATE rsTransmit 19).adv 0).trxState 19 = rsTransmit)) ∧
    ((Powered ((trxWith 19 { txFrom := some 0, txBand := 7 }))) ∧ (19 < 20) ∧ ((((trxWith 19 { txFrom := some 0, txBand := 7 })).adv (secT 4000)).overLimit 19 = true)) ∧
    ((Powered W) ∧ (19 < 20) ∧ (owTrn ≤ owShu) ∧ (owShu ≤ owShu) ∧ ((W.adv 0).grantable 19 = true)) ∧
    ((Powered (W.wr RAD_TRX_STAT.OWNER owTrn 19)) ∧ (19 < 20) ∧ (owTrn ≤ ((W.wr RAD_TRX_STAT.OWNER owTrn 19).adv 0).owner 19) ∧ (((W.wr RAD_TRX_STAT.OWNER owTrn 19).adv 0).owner 19 ≤ owShu) ∧ (owShu ≤ owShu) ∧ (owShu ≠ owNone)) ∧
    ((Powered (W.wr RAD_TRX_STAT.OWNER owTrn 19)) ∧ (19 < 20) ∧ (owTrn ≤ ((W.wr RAD_TRX_STAT.OWNER owTrn 19).adv 0).owner 19) ∧ (((W.wr RAD_TRX_STAT.OWNER owTrn 19).adv 0).owner 19 ≤ owShu)) ∧
    ((Powered listening) ∧ (16 ≤ 19) ∧ (19 < 20) ∧ (0 = 0) ∧ (0 < ([1]).length) ∧ (([1]).length ≤ 255) ∧ ((listening.adv 0).pwrState ≠ psS3) ∧ ((listening.adv 0).trxState 19 = rsReceive) ∧ ((listening.adv 0).owner 19 = owSes) ∧ ((listening.adv 0).uhfCheck 19 ([1]) ((uhfWord W 19 [1])) = true)) := 
  ⟨by decide +kernel, by decide +kernel, by decide +kernel, by decide +kernel, by decide +kernel, by decide +kernel⟩

/-- The premises of RadioCommandsTakeEffect, clauses 19 on, are met together. -/
theorem test_meets_RadioCommandsTakeEffect_4 :
    ((Powered (W.wr PWR_STAT.STATE psS3)) ∧ (((W.wr PWR_STAT.STATE psS3).adv (secT 100)).pwrState = psS3) ∧ (((W.wr PWR_STAT.STATE psS3).adv (secT 100)).rad.watchAt + msT (max 10 (((W.wr PWR_STAT.STATE psS3).adv (secT 100)).rd RAD_S3_CFG.S3_PERIOD)) ≤ ((W.wr PWR_STAT.STATE psS3).adv (secT 100)).now)) ∧
    ((Powered W) ∧ ((W.adv minuteTicks).now / minuteTicks ≠ (W.adv minuteTicks).rad.minute)) ∧
    ((Powered ledgerGrown) ∧ (19 < 20) ∧ (7 < 8) ∧ (((ledgerGrown.adv 0).countRunning).ledger 19 7 = ((⟨List.replicate 60 1000, 0⟩ : Ledger))) ∧ (0 < ((⟨List.replicate 60 1000, 0⟩ : Ledger)).bins.getD ((ledgerGrown.adv 0).countRunning.rad.minute % 60) 0 - ((⟨List.replicate 60 1000, 0⟩ : Ledger)).written) ∧ ((ledgerGrown.adv 0).countRunning.allowance 19 7 / 64 ≤ ((⟨List.replicate 60 1000, 0⟩ : Ledger)).bins.getD ((ledgerGrown.adv 0).countRunning.rad.minute % 60) 0 - ((⟨List.replicate 60 1000, 0⟩ : Ledger)).written)) := 
  ⟨by decide +kernel, by decide +kernel, by decide +kernel⟩

/-- The premises of RangingCommandsTakeEffect, clauses 1 on, are met together. -/
theorem test_meets_RangingCommandsTakeEffect_1 :
    ((Powered ((sesWith 255 ranging))) ∧ ((((sesWith 255 ranging)).adv 0).ctx? 255 = some ranging) ∧ (ranging.state = ssRange) ∧ (bit ranging.pend pendTrn = true)) ∧
    ((Powered twr) ∧ ((twr.adv 0).ctx? 255 = some bounding) ∧ ((decide (bounding.state = ssRange) && bit bounding.pend pendTrn) = false) ∧ (SMap.first (twr.adv 0).dbx.ex (fun _ x₁ => x₁.session == 255 && x₁.gen == bounding.gen && x₁.fallback && decide (0 < x₁.left)) = some (15, (({ dbxA with fallback := true, left := 4 } : DbxEx))))) ∧
    ((Powered (({ W with trn := { away := [⟨255, 0, 31, 0, 7, false⟩] } } : State))) ∧ (((({ W with trn := { away := [⟨255, 0, 31, 0, 7, false⟩] } } : State)).adv (msT 5)).trn.away.find? (fun w₁ => w₁.session == 255) = some ((⟨255, 0, 31, 0, 7, false⟩ : TrnAway))) ∧ (((⟨255, 0, 31, 0, 7, false⟩ : TrnAway)).until' + msT 5 ≤ ((({ W with trn := { away := [⟨255, 0, 31, 0, 7, false⟩] } } : State)).adv (msT 5)).now)) ∧
    ((Powered ((exchWith 15 exchA))) ∧ ((((exchWith 15 exchA)).adv 0).exch 15 = some exchA) ∧ (15 < 16) ∧ (exchA.phase = 0) ∧ (onGrid exchA.slot + 128 * exchA.r ≤ (((exchWith 15 exchA)).adv 0).now + usT 6) ∧ ((((exchWith 15 exchA)).adv 0).guarded = false)) ∧
    ((Powered ((exchWith 15 { exchA with phase := 4 }))) ∧ ((((exchWith 15 { exchA with phase := 4 })).adv 0).exch 15 = some (({ exchA with phase := 4 } : Exch))) ∧ (15 < 16) ∧ ((({ exchA with phase := 4 } : Exch)).phase = 4) ∧ ((({ exchA with phase := 4 } : Exch)).finalTx = 0) ∧ ((({ exchA with phase := 4 } : Exch)).void = false)) ∧
    ((Powered ((exchWith 15 { exchA with phase := 2 }))) ∧ ((((exchWith 15 { exchA with phase := 2 })).adv 0).exch 15 = some (({ exchA with phase := 2 } : Exch))) ∧ (15 < 16) ∧ (((({ exchA with phase := 2 } : Exch)).phase = 2 ∨ (({ exchA with phase := 2 } : Exch)).phase = 3))) := 
  ⟨by decide +kernel, by decide +kernel, by decide +kernel, by decide +kernel, by decide +kernel, by decide +kernel⟩

/-- The premises of RangingCommandsTakeEffect, clauses 7 on, are met together. -/
theorem test_meets_RangingCommandsTakeEffect_2 :
    ((Powered ((exchWith 15 { exchA with phase := 5, finalTx := 1 }))) ∧ ((((exchWith 15 { exchA with phase := 5, finalTx := 1 })).adv 0).exch 15 = some (({ exchA with phase := 5, finalTx := 1 } : Exch))) ∧ (15 < 16) ∧ ((({ exchA with phase := 5, finalTx := 1 } : Exch)).ds = true) ∧ ((({ exchA with phase := 5, finalTx := 1 } : Exch)).finalTx ≠ 0) ∧ (((({ exchA with phase := 5, finalTx := 1 } : Exch)).phase = 4 ∨ (({ exchA with phase := 5, finalTx := 1 } : Exch)).phase = 5))) ∧
    ((Powered ((exchWith 15 { exchA with phase := 3 }))) ∧ ((((exchWith 15 { exchA with phase := 3 })).adv (secT 1)).exch 15 = some (({ exchA with phase := 3 } : Exch))) ∧ (15 < 16) ∧ (((({ exchA with phase := 3 } : Exch)).phase = 2 ∨ (({ exchA with phase := 3 } : Exch)).phase = 3)) ∧ ((({ exchA with phase := 3 } : Exch)).finalTx = 0) ∧ ((({ exchA with phase := 3 } : Exch)).pollTx + usT (((exchWith 15 { exchA with phase := 3 })).adv (secT 1)).replyUs + (((exchWith 15 { exchA with phase := 3 })).adv (secT 1)).rd TRN_DS_CFG.REPLY_TOL * ticksPerUs10 / 100 + 16 * symChips (((exchWith 15 { exchA with phase := 3 })).adv (secT 1)).trnCode * 128 - (((exchWith 15 { exchA with phase := 3 })).adv (secT 1)).markerT - (((exchWith 15 { exchA with phase := 3 })).adv (secT 1)).dlyTx 15 ≤ (((exchWith 15 { exchA with phase := 3 })).adv (secT 1)).now)) ∧
    ((Powered ((exchWith 15 { exchA with phase := 9 }))) ∧ ((((exchWith 15 { exchA with phase := 9 })).adv 0).exch 15 = some (({ exchA with phase := 9 } : Exch))) ∧ (15 < 16) ∧ ((({ exchA with phase := 9 } : Exch)).phase = 9) ∧ ((({ exchA with phase := 9 } : Exch)).fail ≠ trSat)) ∧
    ((Powered (({ W with trn := { pre := [(15, ⟨255, 0, 0⟩)] } } : State))) ∧ (SMap.first (((({ W with trn := { pre := [(15, ⟨255, 0, 0⟩)] } } : State)).adv (secT 10)).trn.pre ++ ((({ W with trn := { pre := [(15, ⟨255, 0, 0⟩)] } } : State)).adv (secT 10)).trn.displaced) (fun _ p₁ => p₁.session == 255) = some (15, ((⟨255, 0, 0⟩ : PreArm)))) ∧ ((decide (ssRange ≤ (((({ W with trn := { pre := [(15, ⟨255, 0, 0⟩)] } } : State)).adv (secT 10)).ctx 255).state) && ((({ W with trn := { pre := [(15, ⟨255, 0, 0⟩)] } } : State)).adv (secT 10)).live 255 ((⟨255, 0, 0⟩ : PreArm)).gen) = false) ∧ (((⟨255, 0, 0⟩ : PreArm)).since + msT (orOne (((({ W with trn := { pre := [(15, ⟨255, 0, 0⟩)] } } : State)).adv (secT 10)).rd TRN_PREARM_CFG.PREARM_HOLD)) ≤ ((({ W with trn := { pre := [(15, ⟨255, 0, 0⟩)] } } : State)).adv (secT 10)).now)) ∧
    ((Powered W) ∧ (15 < 16)) ∧
    ((Powered (up.wr TRN_CAL_CTL.TRX 15)) ∧ (((up.wr TRN_CAL_CTL.TRX 15).adv 0).trn.cal = none) ∧ (((up.wr TRN_CAL_CTL.TRX 15).adv 0).running 0x05 = true) ∧ (((up.wr TRN_CAL_CTL.TRX 15).adv 0).exch (((up.wr TRN_CAL_CTL.TRX 15).adv 0).rd TRN_CAL_CTL.TRX) = none) ∧ (((up.wr TRN_CAL_CTL.TRX 15).adv 0).grantable (((up.wr TRN_CAL_CTL.TRX 15).adv 0).rd TRN_CAL_CTL.TRX) = true)) := 
  ⟨by decide +kernel, by decide +kernel, by decide +kernel, by decide +kernel, by decide +kernel, by decide +kernel⟩

/-- The premises of RangingCommandsTakeEffect, clauses 13 on, are met together. -/
theorem test_meets_RangingCommandsTakeEffect_3 :
    ((Powered (({ W with trn := { cal := some 15 } } : State))) ∧ (((({ W with trn := { cal := some 15 } } : State)).adv 0).trn.cal = some 15)) := by decide +kernel

/-- The premises of BoundingAndLocateCommandsTakeEffect, clauses 1 on, are met together. -/
theorem test_meets_BoundingAndLocateCommandsTakeEffect_1 :
    ((Powered bounded) ∧ ((bounded.adv 0).wantsDbx 255 = true) ∧ ((bounded.adv 0).ctx 255 = boundCtx) ∧ ((bounded.adv 0).rd DBX_TWR_CFG.MODE ≠ 1) ∧ (bit boundCtx.dbCap 0 = true) ∧ ((bounded.adv 0).running 0x06 = true) ∧ ((bounded.adv 0).boundHere boundCtx = true) ∧ ((bounded.adv 0).trnDead ((bounded.adv 0).boundAnc boundCtx % 16) = false) ∧ ((bounded.adv 0).dbxEx ((bounded.adv 0).boundAnc boundCtx % 16) = none) ∧ ((bounded.adv 0).exch ((bounded.adv 0).boundAnc boundCtx % 16) = none) ∧ ((bounded.adv 0).grantable ((bounded.adv 0).boundAnc boundCtx % 16) = true)) ∧
    ((Powered (bounded.wr DBX_TWR_CFG.MODE 1)) ∧ (((bounded.wr DBX_TWR_CFG.MODE 1).adv 0).wantsDbx 255 = true) ∧ (((bounded.wr DBX_TWR_CFG.MODE 1).adv 0).ctx 255 = boundCtx) ∧ (((bounded.wr DBX_TWR_CFG.MODE 1).adv 0).rd DBX_TWR_CFG.MODE = 1) ∧ (((bounded.wr DBX_TWR_CFG.MODE 1).adv 0).running 0x06 = true) ∧ (((bounded.wr DBX_TWR_CFG.MODE 1).adv 0).boundHere boundCtx = true) ∧ (((bounded.wr DBX_TWR_CFG.MODE 1).adv 0).dbxEx (((bounded.wr DBX_TWR_CFG.MODE 1).adv 0).boundAnc boundCtx % 16) = none)) ∧
    ((Powered ((dbxWith 15 { dbxA with phase := 1 }))) ∧ (SMap.first (((dbxWith 15 { dbxA with phase := 1 })).adv 0).dbx.ex (fun _ x₁ => x₁.session == 255 && !x₁.fallback && x₁.phase == 1) = some (15, (({ dbxA with phase := 1 } : DbxEx))))) ∧
    ((Powered (({ W with dbx := { blocks := [(255, ⟨5, 0, 0⟩)] } } : State))) ∧ (SMap.find ((({ W with dbx := { blocks := [(255, ⟨5, 0, 0⟩)] } } : State)).adv (secT 10)).dbx.blocks 255 = some ((⟨5, 0, 0⟩ : DbxBlock))) ∧ ((((({ W with dbx := { blocks := [(255, ⟨5, 0, 0⟩)] } } : State)).adv (secT 10)).live 255 ((⟨5, 0, 0⟩ : DbxBlock)).gen && decide (ssBound ≤ (((({ W with dbx := { blocks := [(255, ⟨5, 0, 0⟩)] } } : State)).adv (secT 10)).ctx 255).state)) = false) ∧ (((⟨5, 0, 0⟩ : DbxBlock)).since + msT (orOne (((({ W with dbx := { blocks := [(255, ⟨5, 0, 0⟩)] } } : State)).adv (secT 10)).rd DBX_PRECOMP_CFG.PRECOMP_HOLD)) ≤ ((({ W with dbx := { blocks := [(255, ⟨5, 0, 0⟩)] } } : State)).adv (secT 10)).now)) ∧
    ((Powered W)) ∧
    ((Powered bitsReady) ∧ (15 < 16) ∧ ((bitsReady.adv 0).dbxEx 15 = some (({ dbxA with phase := 2 } : DbxEx))) ∧ ((({ dbxA with phase := 2 } : DbxEx)).phase = 2) ∧ ((({ dbxA with phase := 2 } : DbxEx)).fallback = false) ∧ (SMap.find ((bitsReady.adv 0).settle 15 4).dbx.blocks (({ dbxA with phase := 2 } : DbxEx)).session = some ((⟨5, 0, 0⟩ : DbxBlock))) ∧ ((((bitsReady.adv 0).settle 15 4).on DBX_STAT.GUARD_CH9 || ((bitsReady.adv 0).settle 15 4).on DBX_STAT.GUARD_CH5) = false) ∧ (((bitsReady.adv 0).settle 15 4).trn.ex = []) ∧ (((bitsReady.adv 0).settle 15 4).trxState 15 = rsSynth) ∧ ((((bitsReady.adv 0).settle 15 4).trx 15).dest = none)) := 
  ⟨by decide +kernel, by decide +kernel, by decide +kernel, by decide +kernel, by decide +kernel, by decide +kernel⟩

/-- The premises of BoundingAndLocateCommandsTakeEffect, clauses 7 on, are met together. -/
theorem test_meets_BoundingAndLocateCommandsTakeEffect_2 :
    ((Powered ((dbxWith 15 { dbxA with phase := 3 }).wr RAD_TRX_STAT.STATE rsRapid 15)) ∧ (15 < 16) ∧ ((((dbxWith 15 { dbxA with phase := 3 }).wr RAD_TRX_STAT.STATE rsRapid 15).adv 0).dbxEx 15 = some (({ dbxA with phase := 3 } : DbxEx))) ∧ (((({ dbxA with phase := 3 } : DbxEx)).phase = 3 ∨ (({ dbxA with phase := 3 } : DbxEx)).phase = 4)) ∧ (((((dbxWith 15 { dbxA with phase := 3 }).wr RAD_TRX_STAT.STATE rsRapid 15).adv 0).settle 15 4).trxState 15 = rsRapid)) ∧
    ((Powered judged) ∧ (SMap.first (judged.adv 0).dbx.ex (fun _ x₁ => x₁.session == 255 && (x₁.phase == 5 || (x₁.fallback && x₁.left == 0))) = some (15, (({ dbxA with phase := 5 } : DbxEx)))) ∧ ((({ dbxA with phase := 5 } : DbxEx)).fallback = false) ∧ (SMap.find (judged.adv 0).dbx.vecs 255 = some ((⟨0, 32, 0, 0⟩ : DbxVec)))) ∧
    ((Powered ((dbxWith 15 { dbxA with fallback := true }))) ∧ (SMap.first (((dbxWith 15 { dbxA with fallback := true })).adv 0).dbx.ex (fun _ x₁ => x₁.session == 255 && (x₁.phase == 5 || (x₁.fallback && x₁.left == 0))) = some (15, (({ dbxA with fallback := true } : DbxEx)))) ∧ ((({ dbxA with fallback := true } : DbxEx)).fallback = true) ∧ ((((dbxWith 15 { dbxA with fallback := true })).adv 0).trn.ex = []) ∧ ((((dbxWith 15 { dbxA with fallback := true })).adv 0).trn.away = [])) ∧
    ((Powered ((dbxWith 15 { dbxA with phase := 7 }))) ∧ ((((dbxWith 15 { dbxA with phase := 7 })).adv (usT 100)).dbxEx 15 = some (({ dbxA with phase := 7 } : DbxEx))) ∧ ((({ dbxA with phase := 7 } : DbxEx)).phase = 7) ∧ ((({ dbxA with phase := 7 } : DbxEx)).leftAt + usT 100 ≤ (((dbxWith 15 { dbxA with phase := 7 })).adv (usT 100)).now)) ∧
    ((Powered ((sesWith 255 locating))) ∧ ((((sesWith 255 locating)).adv 0).wantsAlm 255 = true) ∧ (((((sesWith 255 locating)).adv 0).ctx 255).state = ssLocate) ∧ ((((sesWith 255 locating)).adv 0).running 0x07 = true)) ∧
    ((Powered up) ∧ ((up.adv 0).running 0x07 = true)) := 
  ⟨by decide +kernel, by decide +kernel, by decide +kernel, by decide +kernel, by decide +kernel, by decide +kernel⟩

/-- The premises of BoundingAndLocateCommandsTakeEffect, clauses 13 on, are met together. -/
theorem test_meets_BoundingAndLocateCommandsTakeEffect_3 :
    ((Powered (W.wr MER_STAT.MASTER 1)) ∧ (((W.wr MER_STAT.MASTER 1).adv 0).on MER_STAT.MASTER = true) ∧ ((((W.wr MER_STAT.MASTER 1).adv 0).serveLocate 7 9 ([])).isSome = true)) ∧
    ((Powered (({ W with alm := { away := [solveA] } } : State))) ∧ (((({ W with alm := { away := [solveA] } } : State)).adv (secT 100)).alm.away.find? (fun q₁ => match q₁.dest with | .session m _ => m == 255 | _ => false) = some solveA) ∧ (solveA.since + usT (100 * orOne (((({ W with alm := { away := [solveA] } } : State)).adv (secT 100)).rd ALM_SOLVE_CFG.SOLVE_TO)) ≤ ((({ W with alm := { away := [solveA] } } : State)).adv (secT 100)).now)) := 
  ⟨by decide +kernel, by decide +kernel⟩

/-- The premises of SessionCommandsTakeEffect, clauses 1 on, are met together. -/
theorem test_meets_SessionCommandsTakeEffect_1 :
    ((Powered pollAsked) ∧ ((pollAsked.adv 0).lfp.polls.find? (fun p₁ => p₁.entry == 63 && p₁.asked && p₁.owner.isNone) = some ((⟨63, 0, true, none, false, false, []⟩ : LfpPoll)))) ∧
    ((Powered programmed) ∧ ((programmed.adv 0).prog 255 = some progA) ∧ ((programmed.adv 0).progOk 255 2 = true) ∧ ((programmed.adv 0).openCode (some 255) = ccOk) ∧ ((programmed.adv 0).freeHead = some 0) ∧ (16 ≤ 16)) ∧
    ((Powered (programmed.wr AST_CORE_STAT.STATE 1 15)) ∧ (((programmed.wr AST_CORE_STAT.STATE 1 15).adv 0).prog 255 = some progA) ∧ (((programmed.wr AST_CORE_STAT.STATE 1 15).adv 0).progOk 255 2 = true) ∧ (((programmed.wr AST_CORE_STAT.STATE 1 15).adv 0).openCode (some 255) = ccOk) ∧ (((programmed.wr AST_CORE_STAT.STATE 1 15).adv 0).freeHead = some 0) ∧ (15 < 16) ∧ (((((programmed.wr AST_CORE_STAT.STATE 1 15).adv 0).openOn 0 1 255 progA.zone).bound 15).isSome = true)) ∧
    ((Powered programmed) ∧ ((programmed.adv 0).progOk 255 3 = true) ∧ ((programmed.adv 0).openCode (some 255) = ccOk) ∧ ((programmed.adv 0).freeHead.isSome = true)) ∧
    ((Powered (({ W with lfp := { held := some (1, 0, 63, 0, 0, 0) } } : State))) ∧ (((({ W with lfp := { held := some (1, 0, 63, 0, 0, 0) } } : State)).adv 0).lfp.held = some ((1, 0, 63, 0, 0, 0)))) ∧
    ((Powered cplIn) ∧ ((cplIn.adv 0).ses.cpl = cplA :: ([]))) := 
  ⟨by decide +kernel, by decide +kernel, by decide +kernel, by decide +kernel, by decide +kernel, by decide +kernel⟩

/-- The premises of SessionCommandsTakeEffect, clauses 7 on, are met together. -/
theorem test_meets_SessionCommandsTakeEffect_2 :
    ((Powered cplIn) ∧ ((cplIn.adv 0).ses.cpl.find? (fun c => c.session == 255 && c.pool == poolEph) = some cplA)) ∧
    ((Powered (({ W with ses := { cpl := [{ cplA with pool := poolKce }] } } : State))) ∧ (((({ W with ses := { cpl := [{ cplA with pool := poolKce }] } } : State)).adv 0).ses.cpl.find? (fun c => c.session == 255 && c.pool == poolKce) = some (({ cplA with pool := poolKce } : Cpl)))) ∧
    ((Powered (({ W with ses := { cpl := [{ cplA with pool := poolTrn }] } } : State))) ∧ (((({ W with ses := { cpl := [{ cplA with pool := poolTrn }] } } : State)).adv 0).ses.cpl.find? (fun c => c.session == 255 && c.pool == poolTrn) = some (({ cplA with pool := poolTrn } : Cpl)))) ∧
    ((Powered ((sesWith 255 { ranging with deadline := 5 }))) ∧ ((((sesWith 255 { ranging with deadline := 5 })).adv 5).ctx? 255 = some (({ ranging with deadline := 5 } : Ctx))) ∧ ((({ ranging with deadline := 5 } : Ctx)).openEarly = true) ∧ ((({ ranging with deadline := 5 } : Ctx)).deadline ≠ 0) ∧ ((({ ranging with deadline := 5 } : Ctx)).dec ≠ 1) ∧ ((({ ranging with deadline := 5 } : Ctx)).deadline + (if (({ ranging with deadline := 5 } : Ctx)).state = ssDecide then (((sesWith 255 { ranging with deadline := 5 })).adv 5).pausedOf 255 else 0) ≤ (((sesWith 255 { ranging with deadline := 5 })).adv 5).now) ∧ ((decide ((({ ranging with deadline := 5 } : Ctx)).state = ssIdent) && (((sesWith 255 { ranging with deadline := 5 })).adv 5).eph.waiting.contains (255, (({ ranging with deadline := 5 } : Ctx)).gen)) = false)) ∧
    ((Powered (({ sesWith 255 { state := ssIdent, deadline := 5 } with eph := { waiting := [(255, 0)] } } : State))) ∧ (((({ sesWith 255 { state := ssIdent, deadline := 5 } with eph := { waiting := [(255, 0)] } } : State)).adv 5).ctx? 255 = some (({ state := ssIdent, deadline := 5 } : Ctx))) ∧ ((({ state := ssIdent, deadline := 5 } : Ctx)).openEarly = true) ∧ ((({ state := ssIdent, deadline := 5 } : Ctx)).deadline ≠ 0) ∧ ((({ state := ssIdent, deadline := 5 } : Ctx)).dec ≠ 1) ∧ ((({ state := ssIdent, deadline := 5 } : Ctx)).deadline ≤ ((({ sesWith 255 { state := ssIdent, deadline := 5 } with eph := { waiting := [(255, 0)] } } : State)).adv 5).now) ∧ ((({ state := ssIdent, deadline := 5 } : Ctx)).state = ssIdent) ∧ (((({ sesWith 255 { state := ssIdent, deadline := 5 } with eph := { waiting := [(255, 0)] } } : State)).adv 5).eph.waiting.contains (255, (({ state := ssIdent, deadline := 5 } : Ctx)).gen) = true)) ∧
    ((Powered ((sesWith 255 ranging))) ∧ ((((sesWith 255 ranging)).adv (secT 100)).ctx? 255 = some ranging) ∧ (ranging.openEarly = true) ∧ (ssWake ≤ ranging.state) ∧ (ranging.dec ≠ 1) ∧ (((((sesWith 255 ranging)).adv (secT 100)).aux 255).tWake + msT (10 * orOne ((((sesWith 255 ranging)).adv (secT 100)).rd SES_TO_CFG_C.SESSION_MAX)) + (((sesWith 255 ranging)).adv (secT 100)).pausedOf 255 ≤ (((sesWith 255 ranging)).adv (secT 100)).now)) := 
  ⟨by decide +kernel, by decide +kernel, by decide +kernel, by decide +kernel, by decide +kernel, by decide +kernel⟩

/-- The premises of SessionCommandsTakeEffect, clauses 13 on, are met together. -/
theorem test_meets_SessionCommandsTakeEffect_3 :
    ((Powered ((sesWith 255 ranging))) ∧ ((((sesWith 255 ranging)).adv 0).live 255 0 = true)) ∧
    ((Powered (({ sesWith 255 ranging with ses := { (sesWith 255 ranging).ses with claims := [⟨255, [poolTrn], 0, false⟩] } } : State))) ∧ (((({ sesWith 255 ranging with ses := { (sesWith 255 ranging).ses with claims := [⟨255, [poolTrn], 0, false⟩] } } : State)).adv (secT 100)).ses.claims.any (fun c => c.session == 255 && poolClass (c.pools.headD 0) == 2) = true) ∧ ((((({ sesWith 255 ranging with ses := { (sesWith 255 ranging).ses with claims := [⟨255, [poolTrn], 0, false⟩] } } : State)).adv (secT 100)).aux 255).waitFrom + msT (orOne (((({ sesWith 255 ranging with ses := { (sesWith 255 ranging).ses with claims := [⟨255, [poolTrn], 0, false⟩] } } : State)).adv (secT 100)).rd SES_TO_CFG_C.CREDIT_WAIT)) ≤ ((({ sesWith 255 ranging with ses := { (sesWith 255 ranging).ses with claims := [⟨255, [poolTrn], 0, false⟩] } } : State)).adv (secT 100)).now)) ∧
    ((Powered W)) ∧
    ((Powered W) ∧ ((W.adv 0).on SES_CTL.LOCK = false)) := 
  ⟨by decide +kernel, by decide +kernel, by decide +kernel, by decide +kernel⟩

/-- The premises of ShutterCommandsTakeEffect, clauses 1 on, are met together. -/
theorem test_meets_ShutterCommandsTakeEffect_1 :
    ((Powered listening) ∧ (16 ≤ 19) ∧ (19 < 20) ∧ ((listening.adv 0).owner 19 = owSes) ∧ ((listening.adv 0).trxState 19 = rsReceive)) ∧
    ((Powered (({ sesWith 255 ranging with plt := { committed := [.perToken 255 0] } } : State))) ∧ (((({ sesWith 255 ranging with plt := { committed := [.perToken 255 0] } } : State)).adv 0).takeCommitted (.perToken 255 (((({ sesWith 255 ranging with plt := { committed := [.perToken 255 0] } } : State)).adv 0).ctx 255).gen) = some (sesWith 255 ranging))) ∧
    ((Powered (auxWith 255 { ptSince := some 0 })) ∧ ((((auxWith 255 { ptSince := some 0 }).adv (msT 5)).aux 255).ptSince = some 0) ∧ (0 + msT 5 ≤ ((auxWith 255 { ptSince := some 0 }).adv (msT 5)).now) ∧ ((((auxWith 255 { ptSince := some 0 }).adv (msT 5)).ctx 255).committed = false)) ∧
    ((Powered deciding) ∧ (15 < 16) ∧ (((deciding.adv 0).core 15).scBusy = false) ∧ (((deciding.adv 0).bump AST_CNT_SESCALL.COUNT).bound 15 = some (255, 0)) ∧ ((deciding.adv 0).live 255 0 = true) ∧ (((deciding.adv 0).ctx 255).state = ssDecide) ∧ (((deciding.adv 0).ctx 255).committed = false) ∧ (((deciding.adv 0).ctx 255).dec = 0)) ∧
    ((Powered deciding) ∧ (15 < 16) ∧ (((deciding.adv 0).core 15).scBusy = false) ∧ (((deciding.adv 0).bump AST_CNT_SESCALL.COUNT).bound 15 = some (255, 0)) ∧ ((deciding.adv 0).live 255 0 = true) ∧ (((deciding.adv 0).ctx 255).state = ssDecide) ∧ (((deciding.adv 0).ctx 255).committed = false) ∧ (((deciding.adv 0).ctx 255).dec = 0)) ∧
    ((Powered deciding) ∧ (15 < 16) ∧ (((deciding.adv 0).core 15).scBusy = false) ∧ (((deciding.adv 0).bump AST_CNT_SESCALL.COUNT).bound 15 = some (255, 0)) ∧ ((deciding.adv 0).live 255 0 = true) ∧ (((deciding.adv 0).ctx 255).state = ssDecide) ∧ (((deciding.adv 0).ctx 255).committed = false)) := 
  ⟨by decide +kernel, by decide +kernel, by decide +kernel, by decide +kernel, by decide +kernel, by decide +kernel⟩

/-- The premises of ShutterCommandsTakeEffect, clauses 7 on, are met together. -/
theorem test_meets_ShutterCommandsTakeEffect_2 :
    ((Powered (({ sesWith 255 decided with plt := { committed := [.record 9] } } : State))) ∧ (((({ sesWith 255 decided with plt := { committed := [.record 9] } } : State)).adv 0).ctx? 255 = some decided) ∧ (decided.state = ssDecide) ∧ (decided.dec = 1) ∧ (decided.committed = false) ∧ ((((({ sesWith 255 decided with plt := { committed := [.record 9] } } : State)).adv 0).takeCommitted (.record decided.arcSeq)).isSome = true)) ∧
    ((Powered (({ relWith 7 relA with plt := { confirmed := [.record 9] } } : State))) ∧ (((({ relWith 7 relA with plt := { confirmed := [.record 9] } } : State)).adv 0).rel 7 = some relA) ∧ (relA.state = 1) ∧ (relA.begun = false) ∧ ((((({ relWith 7 relA with plt := { confirmed := [.record 9] } } : State)).adv 0).takeConfirmed (.record relA.arcSeq)).isSome = true)) ∧
    ((Powered ((relWith 7 { relA with begun := true }))) ∧ ((((relWith 7 { relA with begun := true })).adv 0).outQueue 15 = (7, (({ relA with begun := true } : Rel))) :: ([])) ∧ ((({ relA with begun := true } : Rel)).begun = true) ∧ ((((relWith 7 { relA with begun := true })).adv 0).on SHU_OUT_STAT.RUNNING 15 = false) ∧ ((((relWith 7 { relA with begun := true })).adv 0).gapOver 15 = true)) ∧
    ((Powered up) ∧ (15 < 16) ∧ ((up.adv 0).pwrState ≤ psS1) ∧ ((up.adv 0).running 0x09 = true)) ∧
    ((Powered driven) ∧ (15 < 16) ∧ ((driven.adv 0).on SHU_OUT_STAT.ASSERTED 15 = true) ∧ ((driven.adv 0).on SHU_OUT_CFG.SUPERVISE 15 = true)) ∧
    ((Powered driven) ∧ (15 < 16) ∧ ((driven.adv 0).on SHU_OUT_STAT.ASSERTED 15 = true) ∧ ((driven.adv 0).on SHU_OUT_CFG.SUPERVISE 15 = true)) := 
  ⟨by decide +kernel, by decide +kernel, by decide +kernel, by decide +kernel, by decide +kernel, by decide +kernel⟩

/-- The premises of ShutterCommandsTakeEffect, clauses 13 on, are met together. -/
theorem test_meets_ShutterCommandsTakeEffect_3 :
    ((Powered (driven.wr SHU_OUT_CFG.MODE 1 15)) ∧ (15 < 16) ∧ (((driven.wr SHU_OUT_CFG.MODE 1 15).adv (secT 100)).on SHU_OUT_STAT.ASSERTED 15 = true) ∧ (((driven.wr SHU_OUT_CFG.MODE 1 15).adv (secT 100)).rd SHU_OUT_CFG.MODE 15 = 1) ∧ ((((driven.wr SHU_OUT_CFG.MODE 1 15).adv (secT 100)).outS 15).test ≠ 2) ∧ ((((driven.wr SHU_OUT_CFG.MODE 1 15).adv (secT 100)).outS 15).onAt + msT (max 10 (((driven.wr SHU_OUT_CFG.MODE 1 15).adv (secT 100)).rd SHU_OUT_CTL.PULSE_MS 15)) ≤ ((driven.wr SHU_OUT_CFG.MODE 1 15).adv (secT 100)).now)) ∧
    ((Powered ((up.wr SHU_OUT_CFG.EN 1 15).wr SHU_OUT_CFG.SUPERVISE 1 15)) ∧ (15 < 16) ∧ ((((up.wr SHU_OUT_CFG.EN 1 15).wr SHU_OUT_CFG.SUPERVISE 1 15).adv 0).on SHU_OUT_CFG.EN 15 = true) ∧ ((((up.wr SHU_OUT_CFG.EN 1 15).wr SHU_OUT_CFG.SUPERVISE 1 15).adv 0).on SHU_OUT_CFG.SUPERVISE 15 = true) ∧ ((((up.wr SHU_OUT_CFG.EN 1 15).wr SHU_OUT_CFG.SUPERVISE 1 15).adv 0).on SHU_OUT_STAT.ASSERTED 15 = false) ∧ (SMap.find (((up.wr SHU_OUT_CFG.EN 1 15).wr SHU_OUT_CFG.SUPERVISE 1 15).adv 0).shu.loadTest 15 = none) ∧ ((((up.wr SHU_OUT_CFG.EN 1 15).wr SHU_OUT_CFG.SUPERVISE 1 15).adv 0).running 0x09 = true) ∧ ((((up.wr SHU_OUT_CFG.EN 1 15).wr SHU_OUT_CFG.SUPERVISE 1 15).adv 0).pwrState ≤ psS1)) ∧
    ((Powered (({ W.wr SHU_OUT_STAT.FAULT 1 15 with shu := { outs := [(15, { absent := some 0 })] } } : State))) ∧ (15 < 16) ∧ (((({ W.wr SHU_OUT_STAT.FAULT 1 15 with shu := { outs := [(15, { absent := some 0 })] } } : State)).adv (secT 1)).rd SHU_OUT_STAT.FAULT 15 ≠ 0) ∧ ((((({ W.wr SHU_OUT_STAT.FAULT 1 15 with shu := { outs := [(15, { absent := some 0 })] } } : State)).adv (secT 1)).outS 15).absent = some 0) ∧ (0 + secT 1 ≤ ((({ W.wr SHU_OUT_STAT.FAULT 1 15 with shu := { outs := [(15, { absent := some 0 })] } } : State)).adv (secT 1)).now)) ∧
    ((Powered viewed) ∧ ((viewed.adv 0).viewReason 0 0x09 = none) ∧ (15 < 16) ∧ ((viewed.adv 0).on SHU_OUT_STAT.RUNNING 15 = false) ∧ ((viewed.adv 0).outQueue 15 = []) ∧ ((viewed.adv 0).rd SHU_OUT_STAT.FAULT 15 = 0) ∧ (((viewed.adv 0).outS 15).test = 0) ∧ ((viewed.adv 0).running 0x09 = true)) ∧
    ((Powered ((relWith 7 { relA with state := 2, kind := rkNode }))) ∧ ((((relWith 7 { relA with state := 2, kind := rkNode })).adv (secT 100)).rel 7 = some (({ relA with state := 2, kind := rkNode } : Rel))) ∧ ((({ relA with state := 2, kind := rkNode } : Rel)).state = 2) ∧ ((({ relA with state := 2, kind := rkNode } : Rel)).tStart + msT (100 * (({ relA with state := 2, kind := rkNode } : Rel)).toDs) ≤ (((relWith 7 { relA with state := 2, kind := rkNode })).adv (secT 100)).now) ∧ ((({ relA with state := 2, kind := rkNode } : Rel)).kind ≠ rkOutput)) ∧
    ((Powered ((relWith 7 { relA with state := 2 }).wr SHU_OUT_STAT.SENSE 4 15)) ∧ ((((relWith 7 { relA with state := 2 }).wr SHU_OUT_STAT.SENSE 4 15).adv (secT 100)).rel 7 = some (({ relA with state := 2 } : Rel))) ∧ ((({ relA with state := 2 } : Rel)).state = 2) ∧ ((({ relA with state := 2 } : Rel)).tStart + msT (100 * (({ relA with state := 2 } : Rel)).toDs) ≤ (((relWith 7 { relA with state := 2 }).wr SHU_OUT_STAT.SENSE 4 15).adv (secT 100)).now) ∧ ((({ relA with state := 2 } : Rel)).kind = rkOutput) ∧ ((((relWith 7 { relA with state := 2 }).wr SHU_OUT_STAT.SENSE 4 15).adv (secT 100)).rd SHU_OUT_STAT.SENSE (({ relA with state := 2 } : Rel)).target = 4)) := 
  ⟨by decide +kernel, by decide +kernel, by decide +kernel, by decide +kernel, by decide +kernel, by decide +kernel⟩

/-- The premises of ShutterCommandsTakeEffect, clauses 19 on, are met together. -/
theorem test_meets_ShutterCommandsTakeEffect_4 :
    ((Powered (({ relWith 7 { relA with closeSeq := some 11 } with plt := { committed := [.record 11] } } : State))) ∧ (((({ relWith 7 { relA with closeSeq := some 11 } with plt := { committed := [.record 11] } } : State)).adv 0).rel 7 = some (({ relA with closeSeq := some 11 } : Rel))) ∧ ((({ relA with closeSeq := some 11 } : Rel)).closeSeq = some 11) ∧ ((((({ relWith 7 { relA with closeSeq := some 11 } with plt := { committed := [.record 11] } } : State)).adv 0).takeCommitted (.record 11)).isSome = true)) := by decide +kernel

/-- The premises of NodeAndFinderCommandsTakeEffect, clauses 1 on, are met together. -/
theorem test_meets_NodeAndFinderCommandsTakeEffect_1 :
    ((Powered noded) ∧ (1 < 2) ∧ ((noded.adv 0).on SHU_CAN_CTL.EN 1 = true) ∧ ((noded.adv 0).rd SHU_CAN_STAT.STATE 1 < 2) ∧ (bits ((0x11 * 2 ^ 24 + 200 * 2 ^ 16)) 28 24 = 0x11) ∧ (((nodeFrame 0x11)).length = 16) ∧ (leAt ((nodeFrame 0x11)) 0 1 = 0x11) ∧ (leAt ((nodeFrame 0x11)) 1 1 = bits ((0x11 * 2 ^ 24 + 200 * 2 ^ 16)) 23 16) ∧ (SMap.get (((noded.adv 0).rxLog 1 ((0x11 * 2 ^ 24 + 200 * 2 ^ 16)) true true).fndHeard 1 (bits ((0x11 * 2 ^ 24 + 200 * 2 ^ 16)) 23 16)).shu.nodeBus (bits ((0x11 * 2 ^ 24 + 200 * 2 ^ 16)) 23 16) 0 = 1) ∧ (SMap.first (((noded.adv 0).rxLog 1 ((0x11 * 2 ^ 24 + 200 * 2 ^ 16)) true true).fndHeard 1 (bits ((0x11 * 2 ^ 24 + 200 * 2 ^ 16)) 23 16)).shu.rel (fun _ r₁ => r₁.kind == rkNode && r₁.target == bits ((0x11 * 2 ^ 24 + 200 * 2 ^ 16)) 23 16 && r₁.state == 2 && r₁.arcSeq == leAt ((nodeFrame 0x11)) 4 4) = some (7, nodeRel)) ∧ (((((noded.adv 0).rxLog 1 ((0x11 * 2 ^ 24 + 200 * 2 ^ 16)) true true).fndHeard 1 (bits ((0x11 * 2 ^ 24 + 200 * 2 ^ 16)) 23 16)).kceNow 0x09 kKNODE (SMap.get (((noded.adv 0).rxLog 1 ((0x11 * 2 ^ 24 + 200 * 2 ^ 16)) true true).fndHeard 1 (bits ((0x11 * 2 ^ 24 + 200 * 2 ^ 16)) 23 16)).shu.nodeId (bits ((0x11 * 2 ^ 24 + 200 * 2 ^ 16)) 23 16) []) (slice ((nodeFrame 0x11)) 0 8)) = (ccOk, ((nodeCheck 0x11).2.1), ((nodeCheck 0x11).2.2))) ∧ (((nodeCheck 0x11).2.1).take 8 = slice ((nodeFrame 0x11)) 8 8)) ∧
    ((Powered noded) ∧ (1 < 2) ∧ ((noded.adv 0).on SHU_CAN_CTL.EN 1 = true) ∧ ((noded.adv 0).rd SHU_CAN_STAT.STATE 1 < 2) ∧ (bits ((0x12 * 2 ^ 24 + 200 * 2 ^ 16)) 28 24 = 0x12) ∧ (((nodeFrame 0x12)).length = 16) ∧ (leAt ((nodeFrame 0x12)) 0 1 = 0x12) ∧ (leAt ((nodeFrame 0x12)) 1 1 = bits ((0x12 * 2 ^ 24 + 200 * 2 ^ 16)) 23 16) ∧ (SMap.get (((noded.adv 0).rxLog 1 ((0x12 * 2 ^ 24 + 200 * 2 ^ 16)) true true).fndHeard 1 (bits ((0x12 * 2 ^ 24 + 200 * 2 ^ 16)) 23 16)).shu.nodeBus (bits ((0x12 * 2 ^ 24 + 200 * 2 ^ 16)) 23 16) 0 = 1) ∧ (SMap.first (((noded.adv 0).rxLog 1 ((0x12 * 2 ^ 24 + 200 * 2 ^ 16)) true true).fndHeard 1 (bits ((0x12 * 2 ^ 24 + 200 * 2 ^ 16)) 23 16)).shu.rel (fun _ r₁ => r₁.kind == rkNode && r₁.target == bits ((0x12 * 2 ^ 24 + 200 * 2 ^ 16)) 23 16 && r₁.state == 2 && r₁.arcSeq == leAt ((nodeFrame 0x12)) 4 4) = some (7, nodeRel)) ∧ (((((noded.adv 0).rxLog 1 ((0x12 * 2 ^ 24 + 200 * 2 ^ 16)) true true).fndHeard 1 (bits ((0x12 * 2 ^ 24 + 200 * 2 ^ 16)) 23 16)).kceNow 0x09 kKNODE (SMap.get (((noded.adv 0).rxLog 1 ((0x12 * 2 ^ 24 + 200 * 2 ^ 16)) true true).fndHeard 1 (bits ((0x12 * 2 ^ 24 + 200 * 2 ^ 16)) 23 16)).shu.nodeId (bits ((0x12 * 2 ^ 24 + 200 * 2 ^ 16)) 23 16) []) (slice ((nodeFrame 0x12)) 0 8)) = (ccOk, ((nodeCheck 0x12).2.1), ((nodeCheck 0x12).2.2))) ∧ (((nodeCheck 0x12).2.1).take 8 = slice ((nodeFrame 0x12)) 8 8)) ∧
    ((Powered noded) ∧ (1 < 2) ∧ ((noded.adv 0).on SHU_CAN_CTL.EN 1 = true) ∧ ((noded.adv 0).rd SHU_CAN_STAT.STATE 1 < 2) ∧ (bits ((0x13 * 2 ^ 24 + 200 * 2 ^ 16)) 28 24 = 0x13) ∧ (((nodeFrame 0x13)).length = 16) ∧ (leAt ((nodeFrame 0x13)) 0 1 = 0x13) ∧ (leAt ((nodeFrame 0x13)) 1 1 = bits ((0x13 * 2 ^ 24 + 200 * 2 ^ 16)) 23 16) ∧ (SMap.get (((noded.adv 0).rxLog 1 ((0x13 * 2 ^ 24 + 200 * 2 ^ 16)) true true).fndHeard 1 (bits ((0x13 * 2 ^ 24 + 200 * 2 ^ 16)) 23 16)).shu.nodeBus (bits ((0x13 * 2 ^ 24 + 200 * 2 ^ 16)) 23 16) 0 = 1) ∧ (SMap.first (((noded.adv 0).rxLog 1 ((0x13 * 2 ^ 24 + 200 * 2 ^ 16)) true true).fndHeard 1 (bits ((0x13 * 2 ^ 24 + 200 * 2 ^ 16)) 23 16)).shu.rel (fun _ r₁ => r₁.kind == rkNode && r₁.target == bits ((0x13 * 2 ^ 24 + 200 * 2 ^ 16)) 23 16 && r₁.state == 2 && r₁.arcSeq == leAt ((nodeFrame 0x13)) 4 4) = some (7, nodeRel)) ∧ (((((noded.adv 0).rxLog 1 ((0x13 * 2 ^ 24 + 200 * 2 ^ 16)) true true).fndHeard 1 (bits ((0x13 * 2 ^ 24 + 200 * 2 ^ 16)) 23 16)).kceNow 0x09 kKNODE (SMap.get (((noded.adv 0).rxLog 1 ((0x13 * 2 ^ 24 + 200 * 2 ^ 16)) true true).fndHeard 1 (bits ((0x13 * 2 ^ 24 + 200 * 2 ^ 16)) 23 16)).shu.nodeId (bits ((0x13 * 2 ^ 24 + 200 * 2 ^ 16)) 23 16) []) (slice ((nodeFrame 0x13)) 0 8)) = (ccOk, ((nodeCheck 0x13).2.1), ((nodeCheck 0x13).2.2))) ∧ (((nodeCheck 0x13).2.1).take 8 = slice ((nodeFrame 0x13)) 8 8)) ∧
    ((Powered noded) ∧ ((noded.adv (secT 10)).rel 7 = some nodeRel) ∧ (nodeRel.state = 2) ∧ (nodeRel.kind = rkNode) ∧ (nodeRel.acked = false) ∧ (nodeRel.sent + msT (max 10 ((noded.adv (secT 10)).rd SHU_NODE_CFG.NODE_ACK)) ≤ (noded.adv (secT 10)).now) ∧ (nodeRel.tries < orOne ((noded.adv (secT 10)).rd SHU_NODE_CFG.NODE_TRIES))) ∧
    ((Powered ((relWith 7 { nodeRel with tries := 15 }))) ∧ ((((relWith 7 { nodeRel with tries := 15 })).adv (secT 10)).rel 7 = some (({ nodeRel with tries := 15 } : Rel))) ∧ ((({ nodeRel with tries := 15 } : Rel)).state = 2) ∧ ((({ nodeRel with tries := 15 } : Rel)).kind = rkNode) ∧ ((({ nodeRel with tries := 15 } : Rel)).acked = false) ∧ ((({ nodeRel with tries := 15 } : Rel)).sent + msT (max 10 ((((relWith 7 { nodeRel with tries := 15 })).adv (secT 10)).rd SHU_NODE_CFG.NODE_ACK)) ≤ (((relWith 7 { nodeRel with tries := 15 })).adv (secT 10)).now) ∧ (orOne ((((relWith 7 { nodeRel with tries := 15 })).adv (secT 10)).rd SHU_NODE_CFG.NODE_TRIES) ≤ (({ nodeRel with tries := 15 } : Rel)).tries)) ∧
    ((Powered noded) ∧ (1 < 2) ∧ ((noded.adv 0).rd SHU_CAN_STAT.STATE 1 ≠ 2) ∧ ((noded.adv 0).on SHU_CAN_CTL.EN 1 = true)) := 
  ⟨by decide +kernel, by decide +kernel, by decide +kernel, by decide +kernel, by decide +kernel, by decide +kernel⟩

/-- The premises of NodeAndFinderCommandsTakeEffect, clauses 7 on, are met together. -/
theorem test_meets_NodeAndFinderCommandsTakeEffect_2 :
    ((Powered (W.wr SHU_CAN_STAT.STATE 2 1)) ∧ (1 < 2) ∧ (((W.wr SHU_CAN_STAT.STATE 2 1).adv 0).rd SHU_CAN_STAT.STATE 1 = 2) ∧ (((W.wr SHU_CAN_STAT.STATE 2 1).adv 0).shu.restart.contains 1 = false)) ∧
    ((Powered (W.wr SHU_CAN_STAT.STATE 2 1)) ∧ (1 < 2) ∧ (((W.wr SHU_CAN_STAT.STATE 2 1).adv 0).rd SHU_CAN_STAT.STATE 1 = 2) ∧ (((W.wr SHU_CAN_STAT.STATE 2 1).adv 0).on SHU_CAN_CTL.RESTART_MAN 1 = false)) ∧
    ((Powered ((relWith 7 permitRel))) ∧ ((((relWith 7 permitRel)).adv (secT 10)).rel 7 = some permitRel) ∧ (permitRel.state = 2) ∧ (permitRel.kind = rkPermit) ∧ (permitRel.acked = false) ∧ (permitRel.sent + msT (max 10 ((((relWith 7 permitRel)).adv (secT 10)).rd SHU_PERMIT_CFG.PERMIT_ACK)) ≤ (((relWith 7 permitRel)).adv (secT 10)).now)) ∧
    ((Powered ((relWith 7 { permitRel with acked := true }))) ∧ ((((relWith 7 { permitRel with acked := true })).adv (secT 100)).rel 7 = some (({ permitRel with acked := true } : Rel))) ∧ ((({ permitRel with acked := true } : Rel)).state = 2) ∧ ((({ permitRel with acked := true } : Rel)).kind = rkPermit) ∧ ((({ permitRel with acked := true } : Rel)).acked = true) ∧ (SMap.get (((relWith 7 { permitRel with acked := true })).adv (secT 100)).shu.polled 7 (({ permitRel with acked := true } : Rel)).sent + msT (100 * orOne ((((relWith 7 { permitRel with acked := true })).adv (secT 100)).rd SHU_PERMIT_CFG.PERMIT_POLL)) ≤ (((relWith 7 { permitRel with acked := true })).adv (secT 100)).now)) ∧
    ((Powered permitted) ∧ ((permitted.adv 0).rel 7 = some permitRel) ∧ ((permitted.adv 0).owner permitRel.target = owShu) ∧ (permitRel.state = 2) ∧ (permitRel.kind = rkPermit) ∧ (carFrame.length = 24) ∧ (leAt carFrame 0 1 = 0x56) ∧ (leAt carFrame 1 1 = 1) ∧ (leAt carFrame 4 4 = permitRel.vuId) ∧ (leAt carFrame 8 4 = permitRel.arcSeq) ∧ ((permitted.adv 0).kceNow 0x09 kKVU (leBytes 4 permitRel.vuId) (slice carFrame 0 16) = (ccOk, carCheck.2.1, carCheck.2.2)) ∧ (carCheck.2.1.take 8 = slice carFrame 16 8)) ∧
    ((Powered noded) ∧ ((noded.adv 0).fndOn 1 = true) ∧ (0 = 0) ∧ (0xFFFFFFFFFFFFFFFF < 2 ^ 64) ∧ (0 < 256) ∧ (0 < 2 ^ 32) ∧ (SMap.find (noded.adv 0).mgt.ann (1 - 1) = none) ∧ (SMap.first (noded.adv 0).mgt.nodes (fun _ x => x.nodeId == 0xFFFFFFFFFFFFFFFF && x.state == 2) = none) ∧ (SMap.first (noded.adv 0).mgt.nodes (fun _ x => x.nodeId == 0xFFFFFFFFFFFFFFFF && x.state == 1) = none)) := 
  ⟨by decide +kernel, by decide +kernel, by decide +kernel, by decide +kernel, by decide +kernel, by decide +kernel⟩

/-- The premises of NodeAndFinderCommandsTakeEffect, clauses 13 on, are met together. -/
theorem test_meets_NodeAndFinderCommandsTakeEffect_3 :
    ((Powered finding) ∧ ((finding.adv 0).fnd 200 = some fndA) ∧ (fndA.state = 1) ∧ (fndA.bus = 1) ∧ ((finding.adv 0).fndOn 1 = true) ∧ ((finding.adv 0).now ≤ fndA.since + msT (orOne ((finding.adv 0).rd MGT_FND_CFG.ASSIGN_TO))) ∧ (((fndFrame 5)).length = 16) ∧ (leAt ((fndFrame 5)) 0 1 = 200) ∧ (leAt ((fndFrame 5)) 1 3 = 0) ∧ (leAt ((fndFrame 5)) 4 4 = fndA.dnonce) ∧ ((finding.adv 0).fndCheck fndA (slice ((fndFrame 5)) 0 8) = (ccOk, ((fndTag 5).2.1), ((fndTag 5).2.2))) ∧ (((fndTag 5).2.1) = slice ((fndFrame 5)) 8 8)) ∧
    ((Powered finding) ∧ ((finding.adv (secT 100)).fnd 200 = some fndA) ∧ (fndA.state = 1) ∧ (fndA.since + msT (orOne ((finding.adv (secT 100)).rd MGT_FND_CFG.ASSIGN_TO)) < (finding.adv (secT 100)).now)) ∧
    ((Powered present) ∧ ((present.adv 0).fnd 200 = some (({ fndA with state := 2 } : FndNode))) ∧ ((({ fndA with state := 2 } : FndNode)).state = 2) ∧ ((({ fndA with state := 2 } : FndNode)).bus = 1) ∧ ((present.adv 0).fndOn 1 = true)) ∧
    ((Powered present) ∧ ((present.adv 0).fnd 200 = some (({ fndA with state := 2 } : FndNode))) ∧ ((({ fndA with state := 2 } : FndNode)).state = 2) ∧ ((({ fndA with state := 2 } : FndNode)).bus = 1) ∧ ((present.adv 0).fndOn 1 = true) ∧ ((({ fndA with state := 2 } : FndNode)).ctr = none) ∧ (((fndFrame 9)).length = 16) ∧ (leAt ((fndFrame 9)) 0 1 = 200) ∧ (leAt ((fndFrame 9)) 1 3 = 0) ∧ (((present.adv 0).fndHeard 1 200).fndCheck (({ fndA with state := 2 } : FndNode)) (slice ((fndFrame 9)) 0 8) = (ccOk, leaveTag.2.1, leaveTag.2.2)) ∧ (leaveTag.2.1 = slice ((fndFrame 9)) 8 8)) ∧
    ((Powered present) ∧ ((present.adv (secT 1000)).fnd 200 = some (({ fndA with state := 2 } : FndNode))) ∧ ((({ fndA with state := 2 } : FndNode)).state = 2) ∧ ((({ fndA with state := 2 } : FndNode)).heard + msT (max 2 ((present.adv (secT 1000)).rd MGT_FND_CFG.DEPART_N) * max 10 ((present.adv (secT 1000)).rd MGT_FND_CFG.HB_MS)) ≤ (present.adv (secT 1000)).now)) ∧
    ((Powered W)) := 
  ⟨by decide +kernel, by decide +kernel, by decide +kernel, by decide +kernel, by decide +kernel, by decide +kernel⟩

/-- The premises of EphemerisCommandsTakeEffect, clauses 1 on, are met together. -/
theorem test_meets_EphemerisCommandsTakeEffect_1 :
    ((Powered identing) ∧ ((identing.adv 0).wantsEph 255 = true) ∧ ((identing.adv 0).running 0x0A = true) ∧ ((identing.adv 0).lookupAway 255 = false)) ∧
    ((Powered identAway) ∧ ((identAway.adv 0).wantsEph 255 = true) ∧ ((identAway.adv 0).running 0x0A = true) ∧ ((identAway.adv 0).lookupAway 255 = true)) ∧
    ((Powered accepted) ∧ (131071 < ephPages) ∧ ((accepted.adv 0).ephTakes = true) ∧ ((accepted.adv 0).ephOk 131071 = false) ∧ ((accepted.adv 0).eph.bad.contains 131071 = false)) ∧
    ((Powered accepted) ∧ ((accepted.adv 0).ephTakes = true) ∧ ((accepted.adv 0).eph.sweep < ephPages) ∧ ((accepted.adv 0).eph.fetched.contains (accepted.adv 0).eph.sweep = false)) ∧
    ((Powered loading) ∧ ((loading.adv 0).rd EPH_STAT.STATE = ephLoading) ∧ ((loading.adv 0).eph.accepted = false) ∧ ((loading.adv 0).eph.commit = some commitA) ∧ ((loading.adv 0).keyCode kKT false = ccOk)) ∧
    ((Powered deciding) ∧ (15 < 16) ∧ (((deciding.adv 0).core 15).scBusy = false) ∧ (((deciding.adv 0).bump AST_CNT_SESCALL.COUNT).bound 15 = some (255, 0)) ∧ ((deciding.adv 0).live 255 0 = true) ∧ (((deciding.adv 0).ctx 255).state = ssDecide) ∧ (((deciding.adv 0).ctx 255).committed = false)) := 
  ⟨by decide +kernel, by decide +kernel, by decide +kernel, by decide +kernel, by decide +kernel, by decide +kernel⟩

/-- The premises of EphemerisCommandsTakeEffect, clauses 7 on, are met together. -/
theorem test_meets_EphemerisCommandsTakeEffect_2 :
    ((Powered deciding) ∧ (15 < 16) ∧ (((deciding.adv 0).core 15).scBusy = false) ∧ (((deciding.adv 0).bump AST_CNT_SESCALL.COUNT).bound 15 = some (255, 0)) ∧ ((deciding.adv 0).live 255 0 = true) ∧ (((deciding.adv 0).ctx 255).state = ssDecide) ∧ (((deciding.adv 0).ctx 255).committed = false)) ∧
    ((Powered holding) ∧ (((Instr.suspend 0), 4) ∈ [(Instr.enrolToken 0 16 true [], 1), (Instr.revoke 0 16 0, 3), (Instr.suspend 0, 4), (Instr.resume 0, 5), (Instr.attr 0, 6), (Instr.remove 0, 7)]) ∧ ((holding.adv 0).eph.changes.find? (fun x₁ => x₁.op == 4) = some changeA) ∧ (((holding.adv 0).dropChange changeA).changeBar changeA = none) ∧ (((holding.adv 0).dropChange changeA).ephFind changeA.token = .at heldSlot)) ∧
    ((Powered W) ∧ ((W.adv 0).on EPH_CODE_RESULT.BUSY = false) ∧ (((((((((W.adv 0).wr EPH_CODE_ID.TOKEN_ID 0xFFFFFF).wr EPH_CODE_ID.KV 0).wr EPH_CODE_ARG.TEMPLATE 0).wr EPH_CODE_ARG.EXP_DAY 0).wr EPH_CODE_NUM.NUM 0).wr EPH_CODE_DIGITS_LO.DIGITS 9999999999).wr EPH_CODE_DIGITS_HI.DIGITS (9999999999 / 2 ^ 32)).on EPH_CODE_RESULT.BUSY = false)) ∧
    ((Powered adopting) ∧ (((Instr.adopt 0), 0) ∈ [(Instr.adopt 0, 0), (Instr.format 0, 1)]) ∧ ((adopting.adv 0).adoptWaiting 0 = some adoptA) ∧ ((adopting.adv 0).eph.newCommit = none) ∧ ((adopting.adv 0).jrnlRoom 8 = true)) ∧
    ((Powered journalled) ∧ ((journalled.adv 0).takeCommitted (.journalCommit 9) = some ({ journalled with plt := {} })) ∧ ((journalled.adv 0).eph.journal.find? (fun e₁ => e₁.jseq == 9) = some entryA) ∧ (entryA.stage = 1)) ∧
    ((Powered following) ∧ ((following.adv 0).takeCommitted (.followOn 9) = some ({ following with plt := {} })) ∧ ((following.adv 0).eph.journal.find? (fun e₁ => e₁.jseq == 9) = some (({ entryA with stage := 3 } : JEntry))) ∧ ((({ entryA with stage := 3 } : JEntry)).stage = 3)) := 
  ⟨by decide +kernel, by decide +kernel, by decide +kernel, by decide +kernel, by decide +kernel, by decide +kernel⟩

/-- The premises of EphemerisCommandsTakeEffect, clauses 13 on, are met together. -/
theorem test_meets_EphemerisCommandsTakeEffect_3 :
    ((Powered W) ∧ ((W.adv 0).eph.find = none)) ∧
    ((Powered (({ W with eph := { changes := [changeA] } } : State))) ∧ (((({ W with eph := { changes := [changeA] } } : State)).adv (secT 1000)).findTry.eph.changes.find? (fun c₁ => c₁.op != 8 && decide (c₁.since + ((({ W with eph := { changes := [changeA] } } : State)).adv (secT 1000)).findTry.changeWait ≤ ((({ W with eph := { changes := [changeA] } } : State)).adv (secT 1000)).findTry.now)) = some changeA)) ∧
    ((Powered journalFull) ∧ (clampTo 10 90 ((journalFull.adv 0).rd EPH_COMPACT_CFG.COMPACT_AT) * 8192 ≤ (journalFull.adv 0).jrnlUsed * 100) ∧ ((journalFull.adv 0).compactFree = true)) ∧
    ((Powered readyStore) ∧ ((readyStore.adv 0).compactFree = true)) ∧
    ((Powered (W.wr EPH_COMPACT_STAT.STEP 1)) ∧ (((W.wr EPH_COMPACT_STAT.STEP 1).adv 0).rd EPH_COMPACT_STAT.STEP = 1) ∧ (((W.wr EPH_COMPACT_STAT.STEP 1).adv 0).on EPH_STAT.STAGED = false)) ∧
    ((Powered (W.wr EPH_COMPACT_STAT.STEP 6)) ∧ (6 = 5 ∨ 6 = 6) ∧ (((W.wr EPH_COMPACT_STAT.STEP 6).adv 0).rd EPH_COMPACT_STAT.STEP = 6)) := 
  ⟨by decide +kernel, by decide +kernel, by decide +kernel, by decide +kernel, by decide +kernel, by decide +kernel⟩

/-- The premises of EphemerisCommandsTakeEffect, clauses 19 on, are met together. -/
theorem test_meets_EphemerisCommandsTakeEffect_4 :
    ((Powered (W.wr EPH_COMPACT_STAT.STEP 7)) ∧ (((W.wr EPH_COMPACT_STAT.STEP 7).adv 0).rd EPH_COMPACT_STAT.STEP = 7)) ∧
    ((Powered (W.wr EPH_COMPACT_STAT.STEP 3)) ∧ (1 ≠ ccOk) ∧ (0 < ((W.wr EPH_COMPACT_STAT.STEP 3).adv 0).rd EPH_COMPACT_STAT.STEP) ∧ (((W.wr EPH_COMPACT_STAT.STEP 3).adv 0).rd EPH_COMPACT_STAT.STEP < 4)) := 
  ⟨by decide +kernel, by decide +kernel⟩

/-- The premises of DomeCommandsTakeEffect, clauses 1 on, are met together. -/
theorem test_meets_DomeCommandsTakeEffect_1 :
    ((Powered (sealedState envUnit)) ∧ (((Instr.unitEnv 0), envUnit) ∈ [(Instr.vendor 0, envVendor), (Instr.commission 0, envCommission), (Instr.field 0, envField), (Instr.decommission 0, envDecommission), (Instr.migrate 0, envMigrate), (Instr.rekey 0, envRekey), (Instr.policy 0, envPolicy), (Instr.lockSet 0, envLockSet), (Instr.ephTemplate 0, envEphTemplate), (Instr.view 0, envView), (Instr.monitor 0, envMonitor), (Instr.unitEnv 0, envUnit)]) ∧ (((sealedState envUnit).adv 0).dom.job = none) ∧ (((sealedState envUnit).adv 0).dom.pend = none) ∧ (((sealedState envUnit).adv 0).rep 0x0B = stRun) ∧ (((sealedState envUnit).adv 0).envNext = some (sealedA envUnit)) ∧ ((sealedA envUnit).typ = envUnit) ∧ ((((sealedState envUnit).adv 0).envPop (sealedA envUnit)).rep 0x0B = stRun) ∧ ((((sealedState envUnit).adv 0).envPop (sealedA envUnit)).envCheck (sealedA envUnit) = (0, ccOk, (((sealedState envUnit).envPop (sealedA envUnit)).envCheck (sealedA envUnit) |>.2.2)))) ∧
    ((Powered (sealedState envTime)) ∧ (((sealedState envTime).adv 0).dom.job = none) ∧ (((sealedState envTime).adv 0).dom.pend = none) ∧ (((sealedState envTime).adv 0).rep 0x0B = stRun) ∧ (((sealedState envTime).adv 0).envNext = some (sealedA envTime)) ∧ ((sealedA envTime).typ = envTime) ∧ ((((sealedState envTime).adv 0).envPop (sealedA envTime)).rep 0x0B = stRun) ∧ ((((sealedState envTime).adv 0).envPop (sealedA envTime)).envCheck (sealedA envTime) = (0, ccOk, (((sealedState envTime).envPop (sealedA envTime)).envCheck (sealedA envTime) |>.2.2)))) ∧
    ((Powered blankState) ∧ (((Instr.vendor 0), envVendor) ∈ [(Instr.vendor 0, envVendor), (Instr.commission 0, envCommission), (Instr.field 0, envField), (Instr.decommission 0, envDecommission), (Instr.migrate 0, envMigrate), (Instr.rekey 0, envRekey), (Instr.policy 0, envPolicy), (Instr.lockSet 0, envLockSet), (Instr.ephTemplate 0, envEphTemplate), (Instr.view 0, envView), (Instr.monitor 0, envMonitor), (Instr.unitEnv 0, envUnit), (Instr.timeEnv 0, envTime)]) ∧ ((blankState.adv 0).dom.job = none) ∧ ((blankState.adv 0).dom.pend = none) ∧ ((blankState.adv 0).rep 0x0B = stRun) ∧ ((blankState.adv 0).envNext = some blankEnv) ∧ (blankEnv.typ = envVendor) ∧ (((blankState.adv 0).envPop blankEnv).rep 0x0B = stRun) ∧ (1 ≠ 0) ∧ (((blankState.adv 0).envPop blankEnv).envCheck blankEnv = (1, ccEnvelopeBad, (blankState.envPop blankEnv)))) ∧
    ((Powered slotOwned) ∧ ((slotOwned.adv 0).slotFlag 4095 = slotDevice) ∧ ((slotOwned.adv 0).inRing 4095 = false)) ∧
    ((Powered rngUp) ∧ ((rngUp.adv 0).rngCan 3 = true)) ∧
    ((Powered slotOwned) ∧ ((slotOwned.adv 0).on DOM_ATT_REQ.BUSY = false) ∧ (((((slotOwned.adv 0).flag DOM_ATT_REQ.KIND false).wr DOM_ATT_REQ.GSLOT 0).wr DOM_ATT_REQ.WSLOT 4095).slotFlag 4095 = slotDevice)) := 
  ⟨by decide +kernel, by decide +kernel, by decide +kernel, by decide +kernel, by decide +kernel, by decide +kernel⟩

/-- The premises of DomeCommandsTakeEffect, clauses 7 on, are met together. -/
theorem test_meets_DomeCommandsTakeEffect_2 :
    ((Powered (W.wr DOM_LC.STATE lcVendor)) ∧ (((W.wr DOM_LC.STATE lcVendor).adv 0).lc = lcVendor)) ∧
    ((Powered keyed) ∧ (keyPair kKT 0x0A = true) ∧ (kKT ≠ kKTOK) ∧ ((keyed.adv 0).keyCode kKT false = ccOk)) ∧
    ((Powered keyedSession) ∧ (((keyedSession.adv 0).answerCode 0x18 ccOk).wantsDom 255 = true) ∧ ((keyedSession.adv 0).keyCode kKTOK false = ccOk)) ∧
    ((Powered keyed) ∧ (keyPair kKNODE 9 = true) ∧ ((keyed.adv 0).keyCode kKNODE false = ccOk)) ∧
    ((Powered masking) ∧ ((masking.adv (msT 1)).dom.wk = some wkeyA) ∧ ((masking.adv (msT 1)).dom.maskAt + msT 1 ≤ (masking.adv (msT 1)).now) ∧ ((masking.adv (msT 1)).rngCan 1 = true)) ∧
    ((Powered (({ W with dom := { wk := some wkeyA } } : State))) ∧ (((({ W with dom := { wk := some wkeyA } } : State)).adv (msT 1)).dom.wk = some wkeyA) ∧ (((({ W with dom := { wk := some wkeyA } } : State)).adv (msT 1)).dom.maskAt + msT 1 ≤ ((({ W with dom := { wk := some wkeyA } } : State)).adv (msT 1)).now) ∧ (((({ W with dom := { wk := some wkeyA } } : State)).adv (msT 1)).rngCan 1 = false)) := 
  ⟨by decide +kernel, by decide +kernel, by decide +kernel, by decide +kernel, by decide +kernel, by decide +kernel⟩

/-- The premises of DomeCommandsTakeEffect, clauses 13 on, are met together. -/
theorem test_meets_DomeCommandsTakeEffect_3 :
    ((Powered generating) ∧ (15 < 16) ∧ ((generating.adv 0).rep 0x0B = stRun) ∧ ((generating.adv 0).on DOM_STAT.HALT = false) ∧ ((generating.adv 0).dom.keys.katb.isEmpty = false) ∧ ((false = true ∨ 1 ≠ 0)) ∧ ((List.range 8).find? (fun k => (SMap.find (generating.adv 0).dom.gkeys k).isNone) = some 0) ∧ ((generating.adv 0).rngCan 2 = true)) ∧
    ((Powered (({ W with dom := { gkeys := [(7, gkeyA)] } } : State))) ∧ (15 < 16) ∧ (7 < 8) ∧ (SMap.find ((({ W with dom := { gkeys := [(7, gkeyA)] } } : State)).adv 0).dom.gkeys 7 = some gkeyA) ∧ (gkeyA.script = ((({ W with dom := { gkeys := [(7, gkeyA)] } } : State)).adv 0).rd AST_CORE_SCRIPT.SCRIPT 15)) ∧
    ((Powered (({ W with hif := { grantEnd := [(3, 0)] } } : State))) ∧ (SMap.find ((({ W with hif := { grantEnd := [(3, 0)] } } : State)).adv 0).hif.grantEnd 3 = some 0) ∧ (0 ≤ ((({ W with hif := { grantEnd := [(3, 0)] } } : State)).adv 0).now)) ∧
    ((Powered W) ∧ ((bitList (31 % 32 &&& (W.adv 0).tamperWatched) 5).any (fun b => !bit ((W.adv 0).rd DOM_TAMPER_STAT.LIVE) b) = true)) ∧
    ((Powered pendingDone) ∧ ((pendingDone.adv 0).dom.pend = some (lcField, ({}))) ∧ ((pendingDone.adv 0).dom.job = none) ∧ ((pendingDone.adv 0).fuse.done = true) ∧ ((pendingDone.adv 0).fuseWord 0 = lcWord lcField) ∧ ((pendingDone.adv 0).fuseQual 0 = 0)) ∧
    ((Powered pendingOpen) ∧ ((pendingOpen.adv 0).dom.pend = some (lcField, ({}))) ∧ ((pendingOpen.adv 0).dom.job = none) ∧ ((pendingOpen.adv 0).fuse.done = true) ∧ (¬((pendingOpen.adv 0).fuseWord 0 = lcWord lcField ∧ (pendingOpen.adv 0).fuseQual 0 = 0)) ∧ ((pendingOpen.adv 0).on BOOT_STAT.IMAGE_OK = true)) := 
  ⟨by decide +kernel, by decide +kernel, by decide +kernel, by decide +kernel, by decide +kernel, by decide +kernel⟩

/-- The premises of CheckEngineAndRandomCommandsTakeEffect, clauses 1 on, are met together. -/
theorem test_meets_CheckEngineAndRandomCommandsTakeEffect_1 :
    ((Powered rngUp) ∧ (0 < 6) ∧ (6 < 7) ∧ (((rngUp.adv 0).kce.queue.filter (fun r => r.lane == 6)).length < 16) ∧ ((rngUp.adv 0).kceCode = ccOk)) ∧
    ((Powered ((sesWith 255 checking))) ∧ (((((sesWith 255 checking)).adv 0).kce.queue.filter (fun r => r.lane == 0)).length < 16) ∧ ((((sesWith 255 checking)).adv 0).wantsKce 255 = true)) ∧
    ((Powered (({ W with kce := { offered := [kreqA] } } : State))) ∧ ((((({ W with kce := { offered := [kreqA] } } : State)).adv 0).kce.queue.filter (fun r₁ => r₁.lane == 7)).length < 16) ∧ (((({ W with kce := { offered := [kreqA] } } : State)).adv 0).kce.offered.find? (fun r₁ => match r₁.dest with | .core c _ => c == 15 | _ => false) = some kreqA)) ∧
    ((Powered (({ W with kce := { running := some kreqA } } : State))) ∧ (((({ W with kce := { running := some kreqA } } : State)).adv 0).kce.running = some kreqA) ∧ (((({ W with kce := { running := some kreqA } } : State)).adv 0).kce.maskWait = none) ∧ (((({ W with kce := { running := some kreqA } } : State)).adv 0).kce.alarmTest = false)) ∧
    ((Powered (({ W with kce := { running := some kreqA } } : State))) ∧ (((({ W with kce := { running := some kreqA } } : State)).adv 0).kce.running = some kreqA) ∧ (((({ W with kce := { running := some kreqA } } : State)).adv 0).kce.maskWait = none)) ∧
    ((Powered (({ W with kce := { running := some kreqA } } : State))) ∧ (((({ W with kce := { running := some kreqA } } : State)).adv 0).kce.running = some kreqA) ∧ (((({ W with kce := { running := some kreqA } } : State)).adv 0).kce.maskWait = none) ∧ (((({ W with kce := { running := some kreqA } } : State)).adv 0).kce.alarmTest = false)) := 
  ⟨by decide +kernel, by decide +kernel, by decide +kernel, by decide +kernel, by decide +kernel, by decide +kernel⟩

/-- The premises of CheckEngineAndRandomCommandsTakeEffect, clauses 7 on, are met together. -/
theorem test_meets_CheckEngineAndRandomCommandsTakeEffect_2 :
    ((Powered (({ W with kce := { queue := [kreqA] } } : State))) ∧ (((({ W with kce := { queue := [kreqA] } } : State)).adv (secT 1)).kce.queue[0]? = some kreqA) ∧ (kreqA.level < 2) ∧ (kreqA.aged + msT (orOne (((({ W with kce := { queue := [kreqA] } } : State)).adv (secT 1)).rd KCE_CFG.AGE_MS)) ≤ ((({ W with kce := { queue := [kreqA] } } : State)).adv (secT 1)).now)) ∧
    ((Powered (({ rngUp with kce := { running := some kreqA, maskWait := some 0 } } : State))) ∧ (((({ rngUp with kce := { running := some kreqA, maskWait := some 0 } } : State)).adv 0).kce.running = some kreqA) ∧ (((({ rngUp with kce := { running := some kreqA, maskWait := some 0 } } : State)).adv 0).kce.maskWait = some 0) ∧ (((({ rngUp with kce := { running := some kreqA, maskWait := some 0 } } : State)).adv 0).rngCan 0 = true)) ∧
    ((Powered (({ W with kce := { running := some kreqA, maskWait := some 0 } } : State))) ∧ (((({ W with kce := { running := some kreqA, maskWait := some 0 } } : State)).adv (usT 100)).kce.running = some kreqA) ∧ (((({ W with kce := { running := some kreqA, maskWait := some 0 } } : State)).adv (usT 100)).kce.maskWait = some 0) ∧ (((({ W with kce := { running := some kreqA, maskWait := some 0 } } : State)).adv (usT 100)).rngCan 0 = false) ∧ (0 + usT 100 ≤ ((({ W with kce := { running := some kreqA, maskWait := some 0 } } : State)).adv (usT 100)).now)) ∧
    ((Powered W) ∧ (katGood = true)) ∧
    ((Powered (W.wr DOM_LC.STATE lcVendor)) ∧ (((W.wr DOM_LC.STATE lcVendor).adv 0).lc = lcBlank ∨ ((W.wr DOM_LC.STATE lcVendor).adv 0).lc = lcVendor)) ∧
    ((Powered rngUp) ∧ ((rngUp.adv 0).rd RNG_STAT.SOURCE ≠ rngOff) ∧ ((rngUp.adv 0).rngBad = false)) := 
  ⟨by decide +kernel, by decide +kernel, by decide +kernel, by decide +kernel, by decide +kernel, by decide +kernel⟩

/-- The premises of CheckEngineAndRandomCommandsTakeEffect, clauses 13 on, are met together. -/
theorem test_meets_CheckEngineAndRandomCommandsTakeEffect_3 :
    ((Powered (({ W.wr RNG_STAT.SOURCE rngFailed with rng := { fails := [0] } } : State))) ∧ (((({ W.wr RNG_STAT.SOURCE rngFailed with rng := { fails := [0] } } : State)).adv (msT 10)).rng.fails = 0 :: ([])) ∧ (((({ W.wr RNG_STAT.SOURCE rngFailed with rng := { fails := [0] } } : State)).adv (msT 10)).rngBad = true) ∧ (((({ W.wr RNG_STAT.SOURCE rngFailed with rng := { fails := [0] } } : State)).adv (msT 10)).on RNG_STAT.LATCHED = false) ∧ (0 + msT 10 ≤ ((({ W.wr RNG_STAT.SOURCE rngFailed with rng := { fails := [0] } } : State)).adv (msT 10)).now)) ∧
    ((Powered (up.wr RNG_STAT.SOURCE rngStartup)) ∧ (((up.wr RNG_STAT.SOURCE rngStartup).adv 0).rd RNG_STAT.SOURCE = rngStartup) ∧ (((up.wr RNG_STAT.SOURCE rngStartup).adv 0).rep 0x0D = stRun)) ∧
    ((Powered rngUp) ∧ ((rngUp.adv 0).rd RNG_STAT.SOURCE = rngOk)) ∧
    ((Powered W) ∧ ((decide (((0 : Int)).natAbs > ((W.adv 0).statsIn ((0 : Int)) ((0 : Int)) 0 ([])).rd RNG_WARN_CFG.BIAS_WARN) || decide (((0 : Int)).natAbs > ((W.adv 0).statsIn ((0 : Int)) ((0 : Int)) 0 ([])).rd RNG_WARN_CFG.CORR_WARN)) = false)) ∧
    ((Powered W) ∧ ((decide (((-100000 : Int)).natAbs > ((W.adv 0).statsIn ((-100000 : Int)) ((0 : Int)) 0 ([])).rd RNG_WARN_CFG.BIAS_WARN) || decide (((0 : Int)).natAbs > ((W.adv 0).statsIn ((-100000 : Int)) ((0 : Int)) 0 ([])).rd RNG_WARN_CFG.CORR_WARN)) = true)) ∧
    ((Powered rngUp) ∧ (10 < 12) ∧ (10 ≠ 5) ∧ (10 ≠ 11) ∧ (0 ≤ 4096) ∧ ((rngUp.adv 0).rngCan 10 = true)) := 
  ⟨by decide +kernel, by decide +kernel, by decide +kernel, by decide +kernel, by decide +kernel, by decide +kernel⟩

/-- The premises of CheckEngineAndRandomCommandsTakeEffect, clauses 19 on, are met together. -/
theorem test_meets_CheckEngineAndRandomCommandsTakeEffect_4 :
    ((Powered (({ rngUp with ses := { ctx := [(255, { pend := 2 ^ pendRng })] } } : State))) ∧ (0 ≤ 4096) ∧ (((({ rngUp with ses := { ctx := [(255, { pend := 2 ^ pendRng })] } } : State)).adv 0).wantsNonce 255 = true) ∧ (((({ rngUp with ses := { ctx := [(255, { pend := 2 ^ pendRng })] } } : State)).adv 0).rngCan 5 = true)) ∧
    ((Powered W) ∧ (10 < 11) ∧ (10 ≠ 5) ∧ (0 ≤ 4096) ∧ ((W.adv 0).rngBad = false) ∧ ((W.adv 0).rngCan 10 = false)) ∧
    ((Powered (rngUp.wr RNG_INST_STAT.STATE instDue 11)) ∧ (11 < 12) ∧ (((rngUp.wr RNG_INST_STAT.STATE instDue 11).adv 0).rd RNG_STAT.SOURCE = rngOk) ∧ (3 ≤ ((rngUp.wr RNG_INST_STAT.STATE instDue 11).adv 0).rd RNG_STAT.POOL) ∧ (((rngUp.wr RNG_INST_STAT.STATE instDue 11).adv 0).rankAbove 11 = false) ∧ (((rngUp.wr RNG_INST_STAT.STATE instDue 11).adv 0).rd RNG_INST_STAT.STATE 11 = instDue)) ∧
    ((Powered W)) ∧
    ((Powered (({ W with rng := { fifo := [7] } } : State))) ∧ (((({ W with rng := { fifo := [7] } } : State)).adv 0).rng.fifo = 7 :: ([]))) ∧
    ((Powered W) ∧ ((W.adv 0).rng.fifo = [])) := 
  ⟨by decide +kernel, by decide +kernel, by decide +kernel, by decide +kernel, by decide +kernel, by decide +kernel⟩

/-- The premises of CheckEngineAndRandomCommandsTakeEffect, clauses 25 on, are met together. -/
theorem test_meets_CheckEngineAndRandomCommandsTakeEffect_5 :
    ((Powered (({ rngUp with hif := { flags := [(4095, slotDevice)] } } : State))) ∧ (((({ rngUp with hif := { flags := [(4095, slotDevice)] } } : State)).adv 0).on RNG_HOST_BULK.BUSY = false) ∧ (((((({ rngUp with hif := { flags := [(4095, slotDevice)] } } : State)).adv 0).wr RNG_HOST_BULK.SLOT 4095).wr RNG_HOST_BULK.KIB 0).slotFlag 4095 = slotDevice) ∧ (((({ rngUp with hif := { flags := [(4095, slotDevice)] } } : State)).adv 0).rngCan 11 = true)) ∧
    ((Powered (W.wr DOM_LC.STATE lcBlank)) ∧ (((W.wr DOM_LC.STATE lcBlank).adv 0).lc = lcBlank) ∧ (((W.wr DOM_LC.STATE lcBlank).adv 0).on RNG_STAT.PATTERN ≠ true)) ∧
    ((Powered (W.wr DOM_LC.STATE lcBlank)) ∧ (((W.wr DOM_LC.STATE lcBlank).adv 0).lc = lcBlank ∨ ((W.wr DOM_LC.STATE lcBlank).adv 0).lc = lcVendor)) := 
  ⟨by decide +kernel, by decide +kernel, by decide +kernel⟩

/-- The premises of AluInstructionsTakeEffect, clauses 1 on, are met together. -/
theorem test_meets_AluInstructionsTakeEffect_1 :
    ((Powered (running 15 (encR 0 0x00 15 15 15 0))) ∧ (Runs ((running 15 (encR 0 0x00 15 15 15 0)).adv 0) 15 (encR 0x00 0x00 15 15 15 0))) ∧
    ((Powered (running 15 (encR 0 0x02 15 15 15 0))) ∧ (Runs ((running 15 (encR 0 0x02 15 15 15 0)).adv 0) 15 (encR 0x00 0x02 15 15 15 0))) ∧
    ((Powered (running 15 (encR 0 0x06 15 15 15 0))) ∧ (Runs ((running 15 (encR 0 0x06 15 15 15 0)).adv 0) 15 (encR 0x00 0x06 15 15 15 0))) ∧
    ((Powered (running 15 (encR 0 0x07 15 15 15 0))) ∧ (Runs ((running 15 (encR 0 0x07 15 15 15 0)).adv 0) 15 (encR 0x00 0x07 15 15 15 0))) ∧
    ((Powered (running 15 (encR 0 0x08 15 15 15 0))) ∧ (Runs ((running 15 (encR 0 0x08 15 15 15 0)).adv 0) 15 (encR 0x00 0x08 15 15 15 0))) ∧
    ((Powered (running 15 (encR 0 0x09 15 15 15 0))) ∧ (Runs ((running 15 (encR 0 0x09 15 15 15 0)).adv 0) 15 (encR 0x00 0x09 15 15 15 0))) := 
  ⟨by decide +kernel, by decide +kernel, by decide +kernel, by decide +kernel, by decide +kernel, by decide +kernel⟩

/-- The premises of AluInstructionsTakeEffect, clauses 7 on, are met together. -/
theorem test_meets_AluInstructionsTakeEffect_2 :
    ((Powered (running 15 (encR 0 0x0C 15 15 15 0))) ∧ (Runs ((running 15 (encR 0 0x0C 15 15 15 0)).adv 0) 15 (encR 0x00 0x0C 15 15 15 0))) ∧
    ((Powered (running 15 (encR 0 0x0D 15 15 15 0))) ∧ (Runs ((running 15 (encR 0 0x0D 15 15 15 0)).adv 0) 15 (encR 0x00 0x0D 15 15 15 0))) ∧
    ((Powered (running 15 (encR 0 0x0E 15 15 15 0))) ∧ (Runs ((running 15 (encR 0 0x0E 15 15 15 0)).adv 0) 15 (encR 0x00 0x0E 15 15 15 0))) ∧
    ((Powered (running 15 (encR 0 0x0F 15 15 15 0))) ∧ (Runs ((running 15 (encR 0 0x0F 15 15 15 0)).adv 0) 15 (encR 0x00 0x0F 15 15 15 0))) ∧
    ((Powered (running 15 (encR 0 0x10 15 15 15 0))) ∧ (Runs ((running 15 (encR 0 0x10 15 15 15 0)).adv 0) 15 (encR 0x00 0x10 15 15 15 0))) ∧
    ((Powered (running 15 (encR 0 0x11 15 15 15 0))) ∧ (Runs ((running 15 (encR 0 0x11 15 15 15 0)).adv 0) 15 (encR 0x00 0x11 15 15 15 0))) := 
  ⟨by decide +kernel, by decide +kernel, by decide +kernel, by decide +kernel, by decide +kernel, by decide +kernel⟩

/-- The premises of AluInstructionsTakeEffect, clauses 13 on, are met together. -/
theorem test_meets_AluInstructionsTakeEffect_3 :
    ((Powered (running 15 (encR 0 0x12 15 15 15 0))) ∧ (Runs ((running 15 (encR 0 0x12 15 15 15 0)).adv 0) 15 (encR 0x00 0x12 15 15 15 0))) ∧
    ((Powered (running 15 (encR 0 0x17 15 15 15 0))) ∧ (Runs ((running 15 (encR 0 0x17 15 15 15 0)).adv 0) 15 (encR 0x00 0x17 15 15 15 0))) ∧
    ((Powered (running 15 (encR 0 0x18 15 15 15 0))) ∧ (Runs ((running 15 (encR 0 0x18 15 15 15 0)).adv 0) 15 (encR 0x00 0x18 15 15 15 0))) ∧
    ((Powered (running 15 (encR 0 0x19 15 15 15 0))) ∧ (Runs ((running 15 (encR 0 0x19 15 15 15 0)).adv 0) 15 (encR 0x00 0x19 15 15 15 0))) ∧
    ((Powered (running 15 (encR 0 0x1A 15 15 15 0))) ∧ (Runs ((running 15 (encR 0 0x1A 15 15 15 0)).adv 0) 15 (encR 0x00 0x1A 15 15 15 0))) ∧
    ((Powered (running 15 (encR 0 0x01 15 15 15 0))) ∧ (Runs ((running 15 (encR 0 0x01 15 15 15 0)).adv 0) 15 (encR 0x00 0x01 15 15 15 0))) := 
  ⟨by decide +kernel, by decide +kernel, by decide +kernel, by decide +kernel, by decide +kernel, by decide +kernel⟩

/-- The premises of AluInstructionsTakeEffect, clauses 19 on, are met together. -/
theorem test_meets_AluInstructionsTakeEffect_4 :
    ((Powered (running 15 (encR 0 0x03 15 15 15 0))) ∧ (Runs ((running 15 (encR 0 0x03 15 15 15 0)).adv 0) 15 (encR 0x00 0x03 15 15 15 0))) ∧
    ((Powered (running 15 (encR 0 0x04 15 15 0 0))) ∧ (Runs ((running 15 (encR 0 0x04 15 15 0 0)).adv 0) 15 (encR 0x00 0x04 15 15 0 0))) ∧
    ((Powered (running 15 (encR 0 0x0A 15 15 0 0))) ∧ (Runs ((running 15 (encR 0 0x0A 15 15 0 0)).adv 0) 15 (encR 0x00 0x0A 15 15 0 0))) ∧
    ((Powered (running 15 (encR 0 0x0B 15 15 0 0))) ∧ (Runs ((running 15 (encR 0 0x0B 15 15 0 0)).adv 0) 15 (encR 0x00 0x0B 15 15 0 0))) ∧
    ((Powered (running 15 (encR 0 0x1B 15 15 0 0))) ∧ (Runs ((running 15 (encR 0 0x1B 15 15 0 0)).adv 0) 15 (encR 0x00 0x1B 15 15 0 0))) ∧
    ((Powered (running 15 (encR 0 0x1C 15 15 0 0))) ∧ (Runs ((running 15 (encR 0 0x1C 15 15 0 0)).adv 0) 15 (encR 0x00 0x1C 15 15 0 0))) := 
  ⟨by decide +kernel, by decide +kernel, by decide +kernel, by decide +kernel, by decide +kernel, by decide +kernel⟩

/-- The premises of AluInstructionsTakeEffect, clauses 25 on, are met together. -/
theorem test_meets_AluInstructionsTakeEffect_5 :
    ((Powered (running 15 (encR 0 0x1D 15 15 0 0))) ∧ (Runs ((running 15 (encR 0 0x1D 15 15 0 0)).adv 0) 15 (encR 0x00 0x1D 15 15 0 0))) ∧
    ((Powered (running 15 (encR 0 0x1E 15 15 0 0))) ∧ (Runs ((running 15 (encR 0 0x1E 15 15 0 0)).adv 0) 15 (encR 0x00 0x1E 15 15 0 0))) ∧
    ((Powered (running 15 (encR 0 0x1F 15 15 0 0))) ∧ (Runs ((running 15 (encR 0 0x1F 15 15 0 0)).adv 0) 15 (encR 0x00 0x1F 15 15 0 0))) ∧
    ((Powered (running 15 (encR 0 0x20 15 15 0 0))) ∧ (Runs ((running 15 (encR 0 0x20 15 15 0 0)).adv 0) 15 (encR 0x00 0x20 15 15 0 0))) ∧
    ((Powered (running 15 (encR 0 0x21 15 15 0 0))) ∧ (Runs ((running 15 (encR 0 0x21 15 15 0 0)).adv 0) 15 (encR 0x00 0x21 15 15 0 0))) ∧
    ((Powered (running 15 (encR 0 0x05 0 15 15 0))) ∧ (Runs ((running 15 (encR 0 0x05 0 15 15 0)).adv 0) 15 (encR 0x00 0x05 0 15 15 0))) := 
  ⟨by decide +kernel, by decide +kernel, by decide +kernel, by decide +kernel, by decide +kernel, by decide +kernel⟩

/-- The premises of AluInstructionsTakeEffect, clauses 31 on, are met together. -/
theorem test_meets_AluInstructionsTakeEffect_6 :
    ((Powered (running 15 (encR 0 0x22 0 15 15 0))) ∧ (Runs ((running 15 (encR 0 0x22 0 15 15 0)).adv 0) 15 (encR 0x00 0x22 0 15 15 0))) ∧
    ((Powered (running 15 (encR 0 0x13 15 15 15 0))) ∧ (Runs ((running 15 (encR 0 0x13 15 15 15 0)).adv 0) 15 (encR 0x00 0x13 15 15 15 0)) ∧ (¬(((running 15 (encR 0 0x13 15 15 15 0)).adv 0).gr 15 15 = 0 ∧ (((running 15 (encR 0 0x13 15 15 15 0)).adv 0).core 15).flag pbTRAPDZ = true))) ∧
    ((Powered (runningK 15 (encR 0 0x13 15 15 15 0) { psw := 2 ^ pbTRAPDZ })) ∧ (Runs ((runningK 15 (encR 0 0x13 15 15 15 0) { psw := 2 ^ pbTRAPDZ }).adv 0) 15 (encR 0x00 0x13 15 15 15 0)) ∧ (((runningK 15 (encR 0 0x13 15 15 15 0) { psw := 2 ^ pbTRAPDZ }).adv 0).gr 15 15 = 0) ∧ ((((runningK 15 (encR 0 0x13 15 15 15 0) { psw := 2 ^ pbTRAPDZ }).adv 0).core 15).flag pbTRAPDZ = true)) ∧
    ((Powered (running 15 (encR 0 0x14 15 15 15 0))) ∧ (Runs ((running 15 (encR 0 0x14 15 15 15 0)).adv 0) 15 (encR 0x00 0x14 15 15 15 0)) ∧ (¬(((running 15 (encR 0 0x14 15 15 15 0)).adv 0).gr 15 15 = 0 ∧ (((running 15 (encR 0 0x14 15 15 15 0)).adv 0).core 15).flag pbTRAPDZ = true))) ∧
    ((Powered (runningK 15 (encR 0 0x14 15 15 15 0) { psw := 2 ^ pbTRAPDZ })) ∧ (Runs ((runningK 15 (encR 0 0x14 15 15 15 0) { psw := 2 ^ pbTRAPDZ }).adv 0) 15 (encR 0x00 0x14 15 15 15 0)) ∧ (((runningK 15 (encR 0 0x14 15 15 15 0) { psw := 2 ^ pbTRAPDZ }).adv 0).gr 15 15 = 0) ∧ ((((runningK 15 (encR 0 0x14 15 15 15 0) { psw := 2 ^ pbTRAPDZ }).adv 0).core 15).flag pbTRAPDZ = true)) ∧
    ((Powered (running 15 (encR 0 0x15 15 15 15 0))) ∧ (Runs ((running 15 (encR 0 0x15 15 15 15 0)).adv 0) 15 (encR 0x00 0x15 15 15 15 0)) ∧ (¬(((running 15 (encR 0 0x15 15 15 15 0)).adv 0).gr 15 15 = 0 ∧ (((running 15 (encR 0 0x15 15 15 15 0)).adv 0).core 15).flag pbTRAPDZ = true))) := 
  ⟨by decide +kernel, by decide +kernel, by decide +kernel, by decide +kernel, by decide +kernel, by decide +kernel⟩

/-- The premises of AluInstructionsTakeEffect, clauses 37 on, are met together. -/
theorem test_meets_AluInstructionsTakeEffect_7 :
    ((Powered (runningK 15 (encR 0 0x15 15 15 15 0) { psw := 2 ^ pbTRAPDZ })) ∧ (Runs ((runningK 15 (encR 0 0x15 15 15 15 0) { psw := 2 ^ pbTRAPDZ }).adv 0) 15 (encR 0x00 0x15 15 15 15 0)) ∧ (((runningK 15 (encR 0 0x15 15 15 15 0) { psw := 2 ^ pbTRAPDZ }).adv 0).gr 15 15 = 0) ∧ ((((runningK 15 (encR 0 0x15 15 15 15 0) { psw := 2 ^ pbTRAPDZ }).adv 0).core 15).flag pbTRAPDZ = true)) ∧
    ((Powered (running 15 (encR 0 0x16 15 15 15 0))) ∧ (Runs ((running 15 (encR 0 0x16 15 15 15 0)).adv 0) 15 (encR 0x00 0x16 15 15 15 0)) ∧ (¬(((running 15 (encR 0 0x16 15 15 15 0)).adv 0).gr 15 15 = 0 ∧ (((running 15 (encR 0 0x16 15 15 15 0)).adv 0).core 15).flag pbTRAPDZ = true))) ∧
    ((Powered (runningK 15 (encR 0 0x16 15 15 15 0) { psw := 2 ^ pbTRAPDZ })) ∧ (Runs ((runningK 15 (encR 0 0x16 15 15 15 0) { psw := 2 ^ pbTRAPDZ }).adv 0) 15 (encR 0x00 0x16 15 15 15 0)) ∧ (((runningK 15 (encR 0 0x16 15 15 15 0) { psw := 2 ^ pbTRAPDZ }).adv 0).gr 15 15 = 0) ∧ ((((runningK 15 (encR 0 0x16 15 15 15 0) { psw := 2 ^ pbTRAPDZ }).adv 0).core 15).flag pbTRAPDZ = true)) := 
  ⟨by decide +kernel, by decide +kernel, by decide +kernel⟩

/-- The premises of ImmediateInstructionsTakeEffect, clauses 1 on, are met together. -/
theorem test_meets_ImmediateInstructionsTakeEffect_1 :
    ((Powered (running 15 (encI 0x01 15 15 262143))) ∧ (Runs ((running 15 (encI 0x01 15 15 262143)).adv 0) 15 (encI 0x01 15 15 262143))) ∧
    ((Powered (running 15 (encI 0x02 15 15 262143))) ∧ (Runs ((running 15 (encI 0x02 15 15 262143)).adv 0) 15 (encI 0x02 15 15 262143))) ∧
    ((Powered (running 15 (encI 0x03 15 15 262143))) ∧ (Runs ((running 15 (encI 0x03 15 15 262143)).adv 0) 15 (encI 0x03 15 15 262143))) ∧
    ((Powered (running 15 (encI 0x04 15 15 262143))) ∧ (Runs ((running 15 (encI 0x04 15 15 262143)).adv 0) 15 (encI 0x04 15 15 262143))) ∧
    ((Powered (running 15 (encI 0x05 0 15 262143))) ∧ (Runs ((running 15 (encI 0x05 0 15 262143)).adv 0) 15 (encI 0x05 0 15 262143))) ∧
    ((Powered (running 15 (encI 0x06 15 15 (0 * 2 ^ 16 + 63)))) ∧ (63 < 64) ∧ (Runs ((running 15 (encI 0x06 15 15 (0 * 2 ^ 16 + 63))).adv 0) 15 (encI 0x06 15 15 (0 * 2 ^ 16 + 63)))) := 
  ⟨by decide +kernel, by decide +kernel, by decide +kernel, by decide +kernel, by decide +kernel, by decide +kernel⟩

/-- The premises of ImmediateInstructionsTakeEffect, clauses 7 on, are met together. -/
theorem test_meets_ImmediateInstructionsTakeEffect_2 :
    ((Powered (running 15 (encI 0x06 15 15 (1 * 2 ^ 16 + 63)))) ∧ (63 < 64) ∧ (Runs ((running 15 (encI 0x06 15 15 (1 * 2 ^ 16 + 63))).adv 0) 15 (encI 0x06 15 15 (1 * 2 ^ 16 + 63)))) ∧
    ((Powered (running 15 (encI 0x06 15 15 (2 * 2 ^ 16 + 63)))) ∧ (63 < 64) ∧ (Runs ((running 15 (encI 0x06 15 15 (2 * 2 ^ 16 + 63))).adv 0) 15 (encI 0x06 15 15 (2 * 2 ^ 16 + 63)))) ∧
    ((Powered (running 15 (encI 0x06 15 15 (3 * 2 ^ 16 + 63)))) ∧ (63 < 64) ∧ (Runs ((running 15 (encI 0x06 15 15 (3 * 2 ^ 16 + 63))).adv 0) 15 (encI 0x06 15 15 (3 * 2 ^ 16 + 63)))) ∧
    ((Powered (running 15 (encM 0x07 15 4194303))) ∧ (Runs ((running 15 (encM 0x07 15 4194303)).adv 0) 15 (encM 0x07 15 4194303))) ∧
    ((Powered (running 15 (encM 0x08 15 65535))) ∧ (65535 < 2 ^ 16) ∧ (Runs ((running 15 (encM 0x08 15 65535)).adv 0) 15 (encM 0x08 15 65535))) ∧
    ((Powered (running 15 (encM 0x08 15 65536))) ∧ (2 ^ 16 ≤ 65536) ∧ (65536 < 2 ^ 22) ∧ (Runs ((running 15 (encM 0x08 15 65536)).adv 0) 15 (encM 0x08 15 65536))) := 
  ⟨by decide +kernel, by decide +kernel, by decide +kernel, by decide +kernel, by decide +kernel, by decide +kernel⟩

/-- The premises of LoadStoreInstructionsTakeEffect, clauses 1 on, are met together. -/
theorem test_meets_LoadStoreInstructionsTakeEffect_1 :
    ((Powered (running 15 (encI 0x10 15 15 65532))) ∧ (Runs ((running 15 (encI 0x10 15 15 65532)).adv 0) 15 (encI 0x10 15 15 65532)) ∧ (dataOk (((running 15 (encI 0x10 15 15 65532)).adv 0).ea 15 15 65532) 4 = true) ∧ (((((running 15 (encI 0x10 15 15 65532)).adv 0).fetched 15).dataRead 15 (((running 15 (encI 0x10 15 15 65532)).adv 0).ea 15 15 65532) 4).1 = false)) ∧
    ((Powered (running 15 (encI 0x10 15 15 65536))) ∧ (Runs ((running 15 (encI 0x10 15 15 65536)).adv 0) 15 (encI 0x10 15 15 65536)) ∧ (dataOk (((running 15 (encI 0x10 15 15 65536)).adv 0).ea 15 15 65536) 4 = false)) ∧
    ((Powered (running 15 (encI 0x11 15 15 65534))) ∧ (Runs ((running 15 (encI 0x11 15 15 65534)).adv 0) 15 (encI 0x11 15 15 65534)) ∧ (dataOk (((running 15 (encI 0x11 15 15 65534)).adv 0).ea 15 15 65534) 2 = true) ∧ (((((running 15 (encI 0x11 15 15 65534)).adv 0).fetched 15).dataRead 15 (((running 15 (encI 0x11 15 15 65534)).adv 0).ea 15 15 65534) 2).1 = false)) ∧
    ((Powered (running 15 (encI 0x11 15 15 65536))) ∧ (Runs ((running 15 (encI 0x11 15 15 65536)).adv 0) 15 (encI 0x11 15 15 65536)) ∧ (dataOk (((running 15 (encI 0x11 15 15 65536)).adv 0).ea 15 15 65536) 2 = false)) ∧
    ((Powered (running 15 (encI 0x12 15 15 65534))) ∧ (Runs ((running 15 (encI 0x12 15 15 65534)).adv 0) 15 (encI 0x12 15 15 65534)) ∧ (dataOk (((running 15 (encI 0x12 15 15 65534)).adv 0).ea 15 15 65534) 2 = true) ∧ (((((running 15 (encI 0x12 15 15 65534)).adv 0).fetched 15).dataRead 15 (((running 15 (encI 0x12 15 15 65534)).adv 0).ea 15 15 65534) 2).1 = false)) ∧
    ((Powered (running 15 (encI 0x12 15 15 65536))) ∧ (Runs ((running 15 (encI 0x12 15 15 65536)).adv 0) 15 (encI 0x12 15 15 65536)) ∧ (dataOk (((running 15 (encI 0x12 15 15 65536)).adv 0).ea 15 15 65536) 2 = false)) := 
  ⟨by decide +kernel, by decide +kernel, by decide +kernel, by decide +kernel, by decide +kernel, by decide +kernel⟩

/-- The premises of LoadStoreInstructionsTakeEffect, clauses 7 on, are met together. -/
theorem test_meets_LoadStoreInstructionsTakeEffect_2 :
    ((Powered (running 15 (encI 0x13 15 15 65535))) ∧ (Runs ((running 15 (encI 0x13 15 15 65535)).adv 0) 15 (encI 0x13 15 15 65535)) ∧ (dataOk (((running 15 (encI 0x13 15 15 65535)).adv 0).ea 15 15 65535) 1 = true) ∧ (((((running 15 (encI 0x13 15 15 65535)).adv 0).fetched 15).dataRead 15 (((running 15 (encI 0x13 15 15 65535)).adv 0).ea 15 15 65535) 1).1 = false)) ∧
    ((Powered (running 15 (encI 0x13 15 15 65536))) ∧ (Runs ((running 15 (encI 0x13 15 15 65536)).adv 0) 15 (encI 0x13 15 15 65536)) ∧ (dataOk (((running 15 (encI 0x13 15 15 65536)).adv 0).ea 15 15 65536) 1 = false)) ∧
    ((Powered (running 15 (encI 0x14 15 15 65535))) ∧ (Runs ((running 15 (encI 0x14 15 15 65535)).adv 0) 15 (encI 0x14 15 15 65535)) ∧ (dataOk (((running 15 (encI 0x14 15 15 65535)).adv 0).ea 15 15 65535) 1 = true) ∧ (((((running 15 (encI 0x14 15 15 65535)).adv 0).fetched 15).dataRead 15 (((running 15 (encI 0x14 15 15 65535)).adv 0).ea 15 15 65535) 1).1 = false)) ∧
    ((Powered (running 15 (encI 0x14 15 15 65536))) ∧ (Runs ((running 15 (encI 0x14 15 15 65536)).adv 0) 15 (encI 0x14 15 15 65536)) ∧ (dataOk (((running 15 (encI 0x14 15 15 65536)).adv 0).ea 15 15 65536) 1 = false)) ∧
    ((Powered (running 15 (encI 0x15 15 15 65532))) ∧ (Runs ((running 15 (encI 0x15 15 15 65532)).adv 0) 15 (encI 0x15 15 15 65532)) ∧ (dataOk (((running 15 (encI 0x15 15 15 65532)).adv 0).ea 15 15 65532) 4 = true)) ∧
    ((Powered (running 15 (encI 0x15 15 15 65536))) ∧ (Runs ((running 15 (encI 0x15 15 15 65536)).adv 0) 15 (encI 0x15 15 15 65536)) ∧ (dataOk (((running 15 (encI 0x15 15 15 65536)).adv 0).ea 15 15 65536) 4 = false)) := 
  ⟨by decide +kernel, by decide +kernel, by decide +kernel, by decide +kernel, by decide +kernel, by decide +kernel⟩

/-- The premises of LoadStoreInstructionsTakeEffect, clauses 13 on, are met together. -/
theorem test_meets_LoadStoreInstructionsTakeEffect_3 :
    ((Powered (running 15 (encI 0x16 15 15 65534))) ∧ (Runs ((running 15 (encI 0x16 15 15 65534)).adv 0) 15 (encI 0x16 15 15 65534)) ∧ (dataOk (((running 15 (encI 0x16 15 15 65534)).adv 0).ea 15 15 65534) 2 = true)) ∧
    ((Powered (running 15 (encI 0x16 15 15 65536))) ∧ (Runs ((running 15 (encI 0x16 15 15 65536)).adv 0) 15 (encI 0x16 15 15 65536)) ∧ (dataOk (((running 15 (encI 0x16 15 15 65536)).adv 0).ea 15 15 65536) 2 = false)) ∧
    ((Powered (running 15 (encI 0x17 15 15 65535))) ∧ (Runs ((running 15 (encI 0x17 15 15 65535)).adv 0) 15 (encI 0x17 15 15 65535)) ∧ (dataOk (((running 15 (encI 0x17 15 15 65535)).adv 0).ea 15 15 65535) 1 = true)) ∧
    ((Powered (running 15 (encI 0x17 15 15 65536))) ∧ (Runs ((running 15 (encI 0x17 15 15 65536)).adv 0) 15 (encI 0x17 15 15 65536)) ∧ (dataOk (((running 15 (encI 0x17 15 15 65536)).adv 0).ea 15 15 65536) 1 = false)) ∧
    ((Powered (running 15 (encI 0x18 14 15 262143))) ∧ (Runs ((running 15 (encI 0x18 14 15 262143)).adv 0) 15 (encI 0x18 14 15 262143)) ∧ (14 % 16 ≠ 15 % 16) ∧ (dataOk (((running 15 (encI 0x18 14 15 262143)).adv 0).gr 15 15) 4 = true) ∧ (((((running 15 (encI 0x18 14 15 262143)).adv 0).fetched 15).dataRead 15 (((running 15 (encI 0x18 14 15 262143)).adv 0).gr 15 15) 4).1 = false)) ∧
    ((Powered (running 15 (encI 0x18 15 15 262143))) ∧ (Runs ((running 15 (encI 0x18 15 15 262143)).adv 0) 15 (encI 0x18 15 15 262143)) ∧ (15 % 16 = 15 % 16)) := 
  ⟨by decide +kernel, by decide +kernel, by decide +kernel, by decide +kernel, by decide +kernel, by decide +kernel⟩

/-- The premises of LoadStoreInstructionsTakeEffect, clauses 19 on, are met together. -/
theorem test_meets_LoadStoreInstructionsTakeEffect_4 :
    ((Powered (running 15 (encI 0x19 15 15 262143))) ∧ (Runs ((running 15 (encI 0x19 15 15 262143)).adv 0) 15 (encI 0x19 15 15 262143)) ∧ (dataOk (((running 15 (encI 0x19 15 15 262143)).adv 0).gr 15 15) 4 = true)) ∧
    ((Powered (runningK 15 (encS 0x1A 0xBFFF) { g := List.replicate 14 0 ++ [60, 0], stkhi := 60 })) ∧ (Runs ((runningK 15 (encS 0x1A 0xBFFF) { g := List.replicate 14 0 ++ [60, 0], stkhi := 60 }).adv 0) 15 (encS 0x1A 0xBFFF)) ∧ (maskOk 0xBFFF = true) ∧ ((((runningK 15 (encS 0x1A 0xBFFF) { g := List.replicate 14 0 ++ [60, 0], stkhi := 60 }).adv 0).core 15).window ((((runningK 15 (encS 0x1A 0xBFFF) { g := List.replicate 14 0 ++ [60, 0], stkhi := 60 }).adv 0).gr 15 14 : Int) - (4 * (maskRegs 0xBFFF).length : Nat)) (((runningK 15 (encS 0x1A 0xBFFF) { g := List.replicate 14 0 ++ [60, 0], stkhi := 60 }).adv 0).gr 15 14) = true)) ∧
    ((Powered (running 15 (encS 0x1A 0x8000))) ∧ (Runs ((running 15 (encS 0x1A 0x8000)).adv 0) 15 (encS 0x1A 0x8000)) ∧ (maskOk 0x8000 = true) ∧ ((((running 15 (encS 0x1A 0x8000)).adv 0).core 15).window ((((running 15 (encS 0x1A 0x8000)).adv 0).gr 15 14 : Int) - (4 * (maskRegs 0x8000).length : Nat)) (((running 15 (encS 0x1A 0x8000)).adv 0).gr 15 14) = false)) ∧
    ((Powered (running 15 (encS 0x1A 0))) ∧ (Runs ((running 15 (encS 0x1A 0)).adv 0) 15 (encS 0x1A 0)) ∧ (maskOk 0 = false)) ∧
    ((Powered (runningK 15 (encS 0x1B 0xBFFF) { stkhi := 60 })) ∧ (Runs ((runningK 15 (encS 0x1B 0xBFFF) { stkhi := 60 }).adv 0) 15 (encS 0x1B 0xBFFF)) ∧ (maskOk 0xBFFF = true) ∧ ((((runningK 15 (encS 0x1B 0xBFFF) { stkhi := 60 }).adv 0).core 15).window (((runningK 15 (encS 0x1B 0xBFFF) { stkhi := 60 }).adv 0).gr 15 14) ((((runningK 15 (encS 0x1B 0xBFFF) { stkhi := 60 }).adv 0).gr 15 14 : Int) + (4 * (maskRegs 0xBFFF).length : Nat)) = true) ∧ (((((runningK 15 (encS 0x1B 0xBFFF) { stkhi := 60 }).adv 0).fetched 15).dataRead 15 (((runningK 15 (encS 0x1B 0xBFFF) { stkhi := 60 }).adv 0).gr 15 14) (4 * (maskRegs 0xBFFF).length)).1 = false)) ∧
    ((Powered (running 15 (encS 0x1B 0x8000))) ∧ (Runs ((running 15 (encS 0x1B 0x8000)).adv 0) 15 (encS 0x1B 0x8000)) ∧ (maskOk 0x8000 = true) ∧ ((((running 15 (encS 0x1B 0x8000)).adv 0).core 15).window (((running 15 (encS 0x1B 0x8000)).adv 0).gr 15 14) ((((running 15 (encS 0x1B 0x8000)).adv 0).gr 15 14 : Int) + (4 * (maskRegs 0x8000).length : Nat)) = false)) := 
  ⟨by decide +kernel, by decide +kernel, by decide +kernel, by decide +kernel, by decide +kernel, by decide +kernel⟩

/-- The premises of AccumulatorInstructionsTakeEffect, clauses 1 on, are met together. -/
theorem test_meets_AccumulatorInstructionsTakeEffect_1 :
    ((Powered (runningK 15 (encX true 0 0 1 31 31) { g := [0x7FFC, 0xFFFC] ++ List.replicate 14 0 })) ∧ (Runs ((runningK 15 (encX true 0 0 1 31 31) { g := [0x7FFC, 0xFFFC] ++ List.replicate 14 0 }).adv 0) 15 (encX true 0 0 1 31 31)) ∧ (0 % 16 ≠ 1 % 16) ∧ (((runningK 15 (encX true 0 0 1 31 31) { g := [0x7FFC, 0xFFFC] ++ List.replicate 14 0 }).adv 0).gr 15 0 % 4 = 0) ∧ (((runningK 15 (encX true 0 0 1 31 31) { g := [0x7FFC, 0xFFFC] ++ List.replicate 14 0 }).adv 0).gr 15 0 < 0x8000) ∧ (((runningK 15 (encX true 0 0 1 31 31) { g := [0x7FFC, 0xFFFC] ++ List.replicate 14 0 }).adv 0).gr 15 1 % 4 = 0) ∧ (0x8000 ≤ ((runningK 15 (encX true 0 0 1 31 31) { g := [0x7FFC, 0xFFFC] ++ List.replicate 14 0 }).adv 0).gr 15 1) ∧ (((runningK 15 (encX true 0 0 1 31 31) { g := [0x7FFC, 0xFFFC] ++ List.replicate 14 0 }).adv 0).gr 15 1 ≤ 0xFFFF) ∧ (((((runningK 15 (encX true 0 0 1 31 31) { g := [0x7FFC, 0xFFFC] ++ List.replicate 14 0 }).adv 0).fetched 15).dataRead 15 (((runningK 15 (encX true 0 0 1 31 31) { g := [0x7FFC, 0xFFFC] ++ List.replicate 14 0 }).adv 0).gr 15 0) 4).1 = false) ∧ ((((((runningK 15 (encX true 0 0 1 31 31) { g := [0x7FFC, 0xFFFC] ++ List.replicate 14 0 }).adv 0).fetched 15).dataRead 15 (((runningK 15 (encX true 0 0 1 31 31) { g := [0x7FFC, 0xFFFC] ++ List.replicate 14 0 }).adv 0).gr 15 0) 4).2.dataRead 15 (((runningK 15 (encX true 0 0 1 31 31) { g := [0x7FFC, 0xFFFC] ++ List.replicate 14 0 }).adv 0).gr 15 1) 4).1 = false)) ∧
    ((Powered (runningK 15 (encX true 1 0 1 31 31) { g := [0x7FFC, 0xFFFC] ++ List.replicate 14 0 })) ∧ (Runs ((runningK 15 (encX true 1 0 1 31 31) { g := [0x7FFC, 0xFFFC] ++ List.replicate 14 0 }).adv 0) 15 (encX true 1 0 1 31 31)) ∧ (0 % 16 ≠ 1 % 16) ∧ (((runningK 15 (encX true 1 0 1 31 31) { g := [0x7FFC, 0xFFFC] ++ List.replicate 14 0 }).adv 0).gr 15 0 % 4 = 0) ∧ (((runningK 15 (encX true 1 0 1 31 31) { g := [0x7FFC, 0xFFFC] ++ List.replicate 14 0 }).adv 0).gr 15 0 < 0x8000) ∧ (((runningK 15 (encX true 1 0 1 31 31) { g := [0x7FFC, 0xFFFC] ++ List.replicate 14 0 }).adv 0).gr 15 1 % 4 = 0) ∧ (0x8000 ≤ ((runningK 15 (encX true 1 0 1 31 31) { g := [0x7FFC, 0xFFFC] ++ List.replicate 14 0 }).adv 0).gr 15 1) ∧ (((runningK 15 (encX true 1 0 1 31 31) { g := [0x7FFC, 0xFFFC] ++ List.replicate 14 0 }).adv 0).gr 15 1 ≤ 0xFFFF) ∧ (((((runningK 15 (encX true 1 0 1 31 31) { g := [0x7FFC, 0xFFFC] ++ List.replicate 14 0 }).adv 0).fetched 15).dataRead 15 (((runningK 15 (encX true 1 0 1 31 31) { g := [0x7FFC, 0xFFFC] ++ List.replicate 14 0 }).adv 0).gr 15 0) 4).1 = false) ∧ ((((((runningK 15 (encX true 1 0 1 31 31) { g := [0x7FFC, 0xFFFC] ++ List.replicate 14 0 }).adv 0).fetched 15).dataRead 15 (((runningK 15 (encX true 1 0 1 31 31) { g := [0x7FFC, 0xFFFC] ++ List.replicate 14 0 }).adv 0).gr 15 0) 4).2.dataRead 15 (((runningK 15 (encX true 1 0 1 31 31) { g := [0x7FFC, 0xFFFC] ++ List.replicate 14 0 }).adv 0).gr 15 1) 4).1 = false)) ∧
    ((Powered (runningK 15 (encX true 2 0 1 31 31) { g := [0x7FFC, 0xFFFC] ++ List.replicate 14 0 })) ∧ (Runs ((runningK 15 (encX true 2 0 1 31 31) { g := [0x7FFC, 0xFFFC] ++ List.replicate 14 0 }).adv 0) 15 (encX true 2 0 1 31 31)) ∧ (0 % 16 ≠ 1 % 16) ∧ (((runningK 15 (encX true 2 0 1 31 31) { g := [0x7FFC, 0xFFFC] ++ List.replicate 14 0 }).adv 0).gr 15 0 % 4 = 0) ∧ (((runningK 15 (encX true 2 0 1 31 31) { g := [0x7FFC, 0xFFFC] ++ List.replicate 14 0 }).adv 0).gr 15 0 < 0x8000) ∧ (((runningK 15 (encX true 2 0 1 31 31) { g := [0x7FFC, 0xFFFC] ++ List.replicate 14 0 }).adv 0).gr 15 1 % 4 = 0) ∧ (0x8000 ≤ ((runningK 15 (encX true 2 0 1 31 31) { g := [0x7FFC, 0xFFFC] ++ List.replicate 14 0 }).adv 0).gr 15 1) ∧ (((runningK 15 (encX true 2 0 1 31 31) { g := [0x7FFC, 0xFFFC] ++ List.replicate 14 0 }).adv 0).gr 15 1 ≤ 0xFFFF) ∧ (((((runningK 15 (encX true 2 0 1 31 31) { g := [0x7FFC, 0xFFFC] ++ List.replicate 14 0 }).adv 0).fetched 15).dataRead 15 (((runningK 15 (encX true 2 0 1 31 31) { g := [0x7FFC, 0xFFFC] ++ List.replicate 14 0 }).adv 0).gr 15 0) 4).1 = false) ∧ ((((((runningK 15 (encX true 2 0 1 31 31) { g := [0x7FFC, 0xFFFC] ++ List.replicate 14 0 }).adv 0).fetched 15).dataRead 15 (((runningK 15 (encX true 2 0 1 31 31) { g := [0x7FFC, 0xFFFC] ++ List.replicate 14 0 }).adv 0).gr 15 0) 4).2.dataRead 15 (((runningK 15 (encX true 2 0 1 31 31) { g := [0x7FFC, 0xFFFC] ++ List.replicate 14 0 }).adv 0).gr 15 1) 4).1 = false)) ∧
    ((Powered (runningK 15 (encX true 3 0 1 31 31) { g := [0x7FFC, 0xFFFC] ++ List.replicate 14 0 })) ∧ (Runs ((runningK 15 (encX true 3 0 1 31 31) { g := [0x7FFC, 0xFFFC] ++ List.replicate 14 0 }).adv 0) 15 (encX true 3 0 1 31 31)) ∧ (0 % 16 ≠ 1 % 16) ∧ (((runningK 15 (encX true 3 0 1 31 31) { g := [0x7FFC, 0xFFFC] ++ List.replicate 14 0 }).adv 0).gr 15 0 % 4 = 0) ∧ (((runningK 15 (encX true 3 0 1 31 31) { g := [0x7FFC, 0xFFFC] ++ List.replicate 14 0 }).adv 0).gr 15 0 < 0x8000) ∧ (((runningK 15 (encX true 3 0 1 31 31) { g := [0x7FFC, 0xFFFC] ++ List.replicate 14 0 }).adv 0).gr 15 1 % 4 = 0) ∧ (0x8000 ≤ ((runningK 15 (encX true 3 0 1 31 31) { g := [0x7FFC, 0xFFFC] ++ List.replicate 14 0 }).adv 0).gr 15 1) ∧ (((runningK 15 (encX true 3 0 1 31 31) { g := [0x7FFC, 0xFFFC] ++ List.replicate 14 0 }).adv 0).gr 15 1 ≤ 0xFFFF) ∧ (((((runningK 15 (encX true 3 0 1 31 31) { g := [0x7FFC, 0xFFFC] ++ List.replicate 14 0 }).adv 0).fetched 15).dataRead 15 (((runningK 15 (encX true 3 0 1 31 31) { g := [0x7FFC, 0xFFFC] ++ List.replicate 14 0 }).adv 0).gr 15 0) 4).1 = false) ∧ ((((((runningK 15 (encX true 3 0 1 31 31) { g := [0x7FFC, 0xFFFC] ++ List.replicate 14 0 }).adv 0).fetched 15).dataRead 15 (((runningK 15 (encX true 3 0 1 31 31) { g := [0x7FFC, 0xFFFC] ++ List.replicate 14 0 }).adv 0).gr 15 0) 4).2.dataRead 15 (((runningK 15 (encX true 3 0 1 31 31) { g := [0x7FFC, 0xFFFC] ++ List.replicate 14 0 }).adv 0).gr 15 1) 4).1 = false)) ∧
    ((Powered (running 15 (encX true 0 1 1 31 31))) ∧ (Runs ((running 15 (encX true 0 1 1 31 31)).adv 0) 15 (encX true 0 1 1 31 31)) ∧ (1 % 16 = 1 % 16)) ∧
    ((Powered (running 15 (encA 0 0 15 15 true false 0))) ∧ (Runs ((running 15 (encA 0 0 15 15 true false 0)).adv 0) 15 (encA 0x00 0 15 15 true false 0))) := 
  ⟨by decide +kernel, by decide +kernel, by decide +kernel, by decide +kernel, by decide +kernel, by decide +kernel⟩

/-- The premises of AccumulatorInstructionsTakeEffect, clauses 7 on, are met together. -/
theorem test_meets_AccumulatorInstructionsTakeEffect_2 :
    ((Powered (running 15 (encA 1 0 15 15 true false 0))) ∧ (Runs ((running 15 (encA 1 0 15 15 true false 0)).adv 0) 15 (encA 0x01 0 15 15 true false 0))) ∧
    ((Powered (running 15 (encA 2 0 15 15 true false 0))) ∧ (Runs ((running 15 (encA 2 0 15 15 true false 0)).adv 0) 15 (encA 0x02 0 15 15 true false 0))) ∧
    ((Powered (running 15 (encA 3 0 15 15 true false 0))) ∧ (Runs ((running 15 (encA 3 0 15 15 true false 0)).adv 0) 15 (encA 0x03 0 15 15 true false 0))) ∧
    ((Powered (running 15 (encA 4 0 0 0 true false 0))) ∧ (Runs ((running 15 (encA 4 0 0 0 true false 0)).adv 0) 15 (encA 0x04 0 0 0 true false 0))) ∧
    ((Powered (running 15 (encA 5 0 0 0 true false 0))) ∧ (Runs ((running 15 (encA 5 0 0 0 true false 0)).adv 0) 15 (encA 0x05 0 0 0 true false 0))) ∧
    ((Powered (running 15 (encA 6 0 0 0 true true 0))) ∧ (Runs ((running 15 (encA 6 0 0 0 true true 0)).adv 0) 15 (encA 0x06 0 0 0 true true 0))) := 
  ⟨by decide +kernel, by decide +kernel, by decide +kernel, by decide +kernel, by decide +kernel, by decide +kernel⟩

/-- The premises of AccumulatorInstructionsTakeEffect, clauses 13 on, are met together. -/
theorem test_meets_AccumulatorInstructionsTakeEffect_3 :
    ((Powered (running 15 (encA 7 0 0 0 true false 63))) ∧ (63 < 64) ∧ (Runs ((running 15 (encA 7 0 0 0 true false 63)).adv 0) 15 (encA 0x07 0 0 0 true false 63))) ∧
    ((Powered (running 15 (encA 7 0 0 0 true true 63))) ∧ (63 < 64) ∧ (Runs ((running 15 (encA 7 0 0 0 true true 63)).adv 0) 15 (encA 0x07 0 0 0 true true 63))) ∧
    ((Powered (running 15 (encA 8 15 0 0 true true 63))) ∧ (63 < 64) ∧ (Runs ((running 15 (encA 8 15 0 0 true true 63)).adv 0) 15 (encA 0x08 15 0 0 true true 63))) ∧
    ((Powered (running 15 (encA 9 15 0 0 true false 2))) ∧ (2 < 3) ∧ (Runs ((running 15 (encA 9 15 0 0 true false 2)).adv 0) 15 (encA 0x09 15 0 0 true false 2))) ∧
    ((Powered (running 15 (encA 10 0 15 0 true false 2))) ∧ (2 < 3) ∧ (Runs ((running 15 (encA 10 0 15 0 true false 2)).adv 0) 15 (encA 0x0A 0 15 0 true false 2))) ∧
    ((Powered (running 15 (encA 9 15 0 0 true false 3))) ∧ (2 < 3) ∧ (3 < 64) ∧ (Runs ((running 15 (encA 9 15 0 0 true false 3)).adv 0) 15 (encA 0x09 15 0 0 true false 3))) := 
  ⟨by decide +kernel, by decide +kernel, by decide +kernel, by decide +kernel, by decide +kernel, by decide +kernel⟩

/-- The premises of AccumulatorInstructionsTakeEffect, clauses 19 on, are met together. -/
theorem test_meets_AccumulatorInstructionsTakeEffect_4 :
    ((Powered (running 15 (encA 10 0 15 0 true false 63))) ∧ (2 < 63) ∧ (63 < 64) ∧ (Runs ((running 15 (encA 10 0 15 0 true false 63)).adv 0) 15 (encA 0x0A 0 15 0 true false 63))) := by decide +kernel

/-- The premises of ControlAndSystemInstructionsTakeEffect, clauses 1 on, are met together. -/
theorem test_meets_ControlAndSystemInstructionsTakeEffect_1 :
    ((Powered (running 15 (encM 0x20 14 16383))) ∧ (Runs ((running 15 (encM 0x20 14 16383)).adv 0) 15 (encM 0x20 14 16383)) ∧ ((((running 15 (encM 0x20 14 16383)).adv 0).core 15).cond 14 = true) ∧ ((((running 15 (encM 0x20 14 16383)).adv 0).relTarget 15 22 16383) % 4 = 0 ∧ (((running 15 (encM 0x20 14 16383)).adv 0).relTarget 15 22 16383) ≤ 0xFFFC)) ∧
    ((Powered (running 15 (encM 0x20 14 16384))) ∧ (Runs ((running 15 (encM 0x20 14 16384)).adv 0) 15 (encM 0x20 14 16384)) ∧ ((((running 15 (encM 0x20 14 16384)).adv 0).core 15).cond 14 = true) ∧ (¬((((running 15 (encM 0x20 14 16384)).adv 0).relTarget 15 22 16384) % 4 = 0 ∧ (((running 15 (encM 0x20 14 16384)).adv 0).relTarget 15 22 16384) ≤ 0xFFFC))) ∧
    ((Powered (running 15 (encM 0x20 15 16384))) ∧ (Runs ((running 15 (encM 0x20 15 16384)).adv 0) 15 (encM 0x20 15 16384)) ∧ ((((running 15 (encM 0x20 15 16384)).adv 0).core 15).cond 15 = false)) ∧
    ((Powered (running 15 (encJ 0x21 16383))) ∧ (Runs ((running 15 (encJ 0x21 16383)).adv 0) 15 (encJ 0x21 16383)) ∧ ((((running 15 (encJ 0x21 16383)).adv 0).relTarget 15 26 16383) % 4 = 0 ∧ (((running 15 (encJ 0x21 16383)).adv 0).relTarget 15 26 16383) ≤ 0xFFFC)) ∧
    ((Powered (running 15 (encJ 0x21 16384))) ∧ (Runs ((running 15 (encJ 0x21 16384)).adv 0) 15 (encJ 0x21 16384)) ∧ (¬((((running 15 (encJ 0x21 16384)).adv 0).relTarget 15 26 16384) % 4 = 0 ∧ (((running 15 (encJ 0x21 16384)).adv 0).relTarget 15 26 16384) ≤ 0xFFFC))) ∧
    ((Powered (running 15 (encJ 0x22 16383))) ∧ (Runs ((running 15 (encJ 0x22 16383)).adv 0) 15 (encJ 0x22 16383)) ∧ ((((running 15 (encJ 0x22 16383)).adv 0).relTarget 15 26 16383) % 4 = 0 ∧ (((running 15 (encJ 0x22 16383)).adv 0).relTarget 15 26 16383) ≤ 0xFFFC)) := 
  ⟨by decide +kernel, by decide +kernel, by decide +kernel, by decide +kernel, by decide +kernel, by decide +kernel⟩

/-- The premises of ControlAndSystemInstructionsTakeEffect, clauses 7 on, are met together. -/
theorem test_meets_ControlAndSystemInstructionsTakeEffect_2 :
    ((Powered (running 15 (encJ 0x22 16384))) ∧ (Runs ((running 15 (encJ 0x22 16384)).adv 0) 15 (encJ 0x22 16384)) ∧ (¬((((running 15 (encJ 0x22 16384)).adv 0).relTarget 15 26 16384) % 4 = 0 ∧ (((running 15 (encJ 0x22 16384)).adv 0).relTarget 15 26 16384) ≤ 0xFFFC))) ∧
    ((Powered (running 15 (encR 0x23 0x00 0 15 0 0))) ∧ (Runs ((running 15 (encR 0x23 0x00 0 15 0 0)).adv 0) 15 (encR 0x23 0x00 0 15 0 0)) ∧ ((((running 15 (encR 0x23 0x00 0 15 0 0)).adv 0).gr 15 15) % 4 = 0 ∧ (((running 15 (encR 0x23 0x00 0 15 0 0)).adv 0).gr 15 15) ≤ 0xFFFC)) ∧
    ((Powered (runningK 15 (encR 0x23 0x00 0 0 0 0) { g := 0x10000 :: List.replicate 15 0 })) ∧ (Runs ((runningK 15 (encR 0x23 0x00 0 0 0 0) { g := 0x10000 :: List.replicate 15 0 }).adv 0) 15 (encR 0x23 0x00 0 0 0 0)) ∧ (¬((((runningK 15 (encR 0x23 0x00 0 0 0 0) { g := 0x10000 :: List.replicate 15 0 }).adv 0).gr 15 0) % 4 = 0 ∧ (((runningK 15 (encR 0x23 0x00 0 0 0 0) { g := 0x10000 :: List.replicate 15 0 }).adv 0).gr 15 0) ≤ 0xFFFC))) ∧
    ((Powered (running 15 (encR 0x23 0x01 0 15 0 0))) ∧ (Runs ((running 15 (encR 0x23 0x01 0 15 0 0)).adv 0) 15 (encR 0x23 0x01 0 15 0 0)) ∧ ((((running 15 (encR 0x23 0x01 0 15 0 0)).adv 0).gr 15 15) % 4 = 0 ∧ (((running 15 (encR 0x23 0x01 0 15 0 0)).adv 0).gr 15 15) ≤ 0xFFFC)) ∧
    ((Powered (runningK 15 (encR 0x23 0x01 0 0 0 0) { g := 0x10000 :: List.replicate 15 0 })) ∧ (Runs ((runningK 15 (encR 0x23 0x01 0 0 0 0) { g := 0x10000 :: List.replicate 15 0 }).adv 0) 15 (encR 0x23 0x01 0 0 0 0)) ∧ (¬((((runningK 15 (encR 0x23 0x01 0 0 0 0) { g := 0x10000 :: List.replicate 15 0 }).adv 0).gr 15 0) % 4 = 0 ∧ (((runningK 15 (encR 0x23 0x01 0 0 0 0) { g := 0x10000 :: List.replicate 15 0 }).adv 0).gr 15 0) ≤ 0xFFFC))) ∧
    ((Powered (running 15 (encR 0x24 0x00 0 0 0 0))) ∧ (Runs ((running 15 (encR 0x24 0x00 0 0 0 0)).adv 0) 15 (encR 0x24 0x00 0 0 0 0))) := 
  ⟨by decide +kernel, by decide +kernel, by decide +kernel, by decide +kernel, by decide +kernel, by decide +kernel⟩

/-- The premises of ControlAndSystemInstructionsTakeEffect, clauses 13 on, are met together. -/
theorem test_meets_ControlAndSystemInstructionsTakeEffect_3 :
    ((Powered (running 15 (encR 0x24 0x06 0 0 0 0))) ∧ (Runs ((running 15 (encR 0x24 0x06 0 0 0 0)).adv 0) 15 (encR 0x24 0x06 0 0 0 0))) ∧
    ((Powered (runningK 15 (encR 0x24 2 0 0 0 0) { timerDone := true, imask := 1 })) ∧ (Runs ((runningK 15 (encR 0x24 2 0 0 0 0) { timerDone := true, imask := 1 }).adv 0) 15 (encR 0x24 0x02 0 0 0 0)) ∧ ((((runningK 15 (encR 0x24 2 0 0 0 0) { timerDone := true, imask := 1 }).adv 0).core 15).lines ≠ 0)) ∧
    ((Powered (running 15 (encR 0x24 2 0 0 0 0))) ∧ (Runs ((running 15 (encR 0x24 2 0 0 0 0)).adv 0) 15 (encR 0x24 0x02 0 0 0 0)) ∧ ((((running 15 (encR 0x24 2 0 0 0 0)).adv 0).core 15).lines = 0)) ∧
    ((Powered (runningK 15 (encR 0x24 3 0 0 0 0) { stkhi := 16 })) ∧ (Runs ((runningK 15 (encR 0x24 3 0 0 0 0) { stkhi := 16 }).adv 0) 15 (encR 0x24 0x03 0 0 0 0)) ∧ ((((runningK 15 (encR 0x24 3 0 0 0 0) { stkhi := 16 }).adv 0).core 15).window (((runningK 15 (encR 0x24 3 0 0 0 0) { stkhi := 16 }).adv 0).gr 15 14) ((((runningK 15 (encR 0x24 3 0 0 0 0) { stkhi := 16 }).adv 0).gr 15 14) + 16) = true) ∧ (((((runningK 15 (encR 0x24 3 0 0 0 0) { stkhi := 16 }).adv 0).fetched 15).dataRead 15 (((runningK 15 (encR 0x24 3 0 0 0 0) { stkhi := 16 }).adv 0).gr 15 14) 16).1 = false)) ∧
    ((Powered (running 15 (encR 0x24 3 0 0 0 0))) ∧ (Runs ((running 15 (encR 0x24 3 0 0 0 0)).adv 0) 15 (encR 0x24 0x03 0 0 0 0)) ∧ ((((running 15 (encR 0x24 3 0 0 0 0)).adv 0).core 15).window (((running 15 (encR 0x24 3 0 0 0 0)).adv 0).gr 15 14) ((((running 15 (encR 0x24 3 0 0 0 0)).adv 0).gr 15 14) + 16) = false)) ∧
    ((Powered (running 15 (encR 0x24 4 0 0 0 255))) ∧ (255 < 256) ∧ (Runs ((running 15 (encR 0x24 4 0 0 0 255)).adv 0) 15 (encR 0x24 0x04 0 0 0 255))) := 
  ⟨by decide +kernel, by decide +kernel, by decide +kernel, by decide +kernel, by decide +kernel, by decide +kernel⟩

/-- The premises of ControlAndSystemInstructionsTakeEffect, clauses 19 on, are met together. -/
theorem test_meets_ControlAndSystemInstructionsTakeEffect_4 :
    ((Powered (running 15 (encR 0x24 5 0 0 0 0))) ∧ (Runs ((running 15 (encR 0x24 5 0 0 0 0)).adv 0) 15 (encR 0x24 0x05 0 0 0 0)) ∧ ((((running 15 (encR 0x24 5 0 0 0 0)).adv 0).fetched 15).on AST_CORE_CTL.DEBUG_EN 15 = false)) ∧
    ((Powered (((running 15 (encR 0x24 5 0 0 0 0)).wr AST_CORE_CTL.DEBUG_EN 1 15))) ∧ (Runs ((((running 15 (encR 0x24 5 0 0 0 0)).wr AST_CORE_CTL.DEBUG_EN 1 15)).adv 0) 15 (encR 0x24 0x05 0 0 0 0)) ∧ ((((((running 15 (encR 0x24 5 0 0 0 0)).wr AST_CORE_CTL.DEBUG_EN 1 15)).adv 0).fetched 15).on AST_CORE_CTL.DEBUG_EN 15 = true)) ∧
    ((Powered (running 15 (encI 0x25 0 0 4095))) ∧ (0 < 4095) ∧ (4095 ≤ 4095) ∧ (Runs ((running 15 (encI 0x25 0 0 4095)).adv 0) 15 (encI 0x25 0 0 4095))) ∧
    ((Powered (runningK 15 (encI 0x25 0 0 (2 ^ 17)) { g := 4095 :: List.replicate 15 0 })) ∧ (0 < ((runningK 15 (encI 0x25 0 0 (2 ^ 17)) { g := 4095 :: List.replicate 15 0 }).adv 0).gr 15 0) ∧ (((runningK 15 (encI 0x25 0 0 (2 ^ 17)) { g := 4095 :: List.replicate 15 0 }).adv 0).gr 15 0 ≤ 4095) ∧ (Runs ((runningK 15 (encI 0x25 0 0 (2 ^ 17)) { g := 4095 :: List.replicate 15 0 }).adv 0) 15 (encI 0x25 0 0 (2 ^ 17)))) ∧
    ((Powered (running 15 (encI 0x25 0 0 0))) ∧ (Runs ((running 15 (encI 0x25 0 0 0)).adv 0) 15 (encI 0x25 0 0 0))) ∧
    ((Powered (runningK 15 (encI 0x25 0 0 (2 ^ 17)) { g := 4096 :: List.replicate 15 0 })) ∧ (4095 < ((runningK 15 (encI 0x25 0 0 (2 ^ 17)) { g := 4096 :: List.replicate 15 0 }).adv 0).gr 15 0) ∧ (Runs ((runningK 15 (encI 0x25 0 0 (2 ^ 17)) { g := 4096 :: List.replicate 15 0 }).adv 0) 15 (encI 0x25 0 0 (2 ^ 17)))) := 
  ⟨by decide +kernel, by decide +kernel, by decide +kernel, by decide +kernel, by decide +kernel, by decide +kernel⟩

/-- The premises of ControlAndSystemInstructionsTakeEffect, clauses 25 on, are met together. -/
theorem test_meets_ControlAndSystemInstructionsTakeEffect_5 :
    ((Powered (running 15 (encR 0x24 1 0 0 0 0))) ∧ (((running 15 (encR 0x24 1 0 0 0 0)).adv 0).gr 15 0 ≠ 1) ∧ (Runs ((running 15 (encR 0x24 1 0 0 0 0)).adv 0) 15 (encR 0x24 0x01 0 0 0 0))) ∧
    ((Powered (runningK 15 (encR 0x24 1 0 0 0 0) { g := 1 :: List.replicate 15 0 })) ∧ (((runningK 15 (encR 0x24 1 0 0 0 0) { g := 1 :: List.replicate 15 0 }).adv 0).gr 15 0 = 1) ∧ (Runs ((runningK 15 (encR 0x24 1 0 0 0 0) { g := 1 :: List.replicate 15 0 }).adv 0) 15 (encR 0x24 0x01 0 0 0 0))) := 
  ⟨by decide +kernel, by decide +kernel⟩

/-- The premises of PortAndCoprocessorInstructionsTakeEffect, clauses 1 on, are met together. -/
theorem test_meets_PortAndCoprocessorInstructionsTakeEffect_1 :
    ((Powered (running 15 (encP 0x1C 15 0 true 4095))) ∧ (4095 < 2 ^ 12) ∧ (Runs ((running 15 (encP 0x1C 15 0 true 4095)).adv 0) 15 (encP 0x1C 15 0 true 4095)) ∧ (((((running 15 (encP 0x1C 15 0 true 4095)).adv 0).fetched 15).portIn 15 4095).1 = false)) ∧
    ((Powered (running 15 (encP 0x1D 15 0 true 4095))) ∧ (4095 < 2 ^ 12) ∧ (Runs ((running 15 (encP 0x1D 15 0 true 4095)).adv 0) 15 (encP 0x1D 15 0 true 4095))) ∧
    ((Powered (running 15 (encP 0x1C 15 15 false 4095))) ∧ (((running 15 (encP 0x1C 15 15 false 4095)).adv 0).gr 15 15 + 4095 ≤ 0xFFF) ∧ (Runs ((running 15 (encP 0x1C 15 15 false 4095)).adv 0) 15 (encP 0x1C 15 15 false 4095)) ∧ (((((running 15 (encP 0x1C 15 15 false 4095)).adv 0).fetched 15).portIn 15 (((running 15 (encP 0x1C 15 15 false 4095)).adv 0).gr 15 15 + 4095)).1 = false)) ∧
    ((Powered (running 15 (encP 0x1D 15 15 false 4095))) ∧ (((running 15 (encP 0x1D 15 15 false 4095)).adv 0).gr 15 15 + 4095 ≤ 0xFFF) ∧ (Runs ((running 15 (encP 0x1D 15 15 false 4095)).adv 0) 15 (encP 0x1D 15 15 false 4095))) ∧
    ((Powered (runningK 15 (encP 0x1C 0 0 false 4095) { g := 1 :: List.replicate 15 0 })) ∧ (4095 < 2 ^ 12) ∧ (0xFFF < ((((runningK 15 (encP 0x1C 0 0 false 4095) { g := 1 :: List.replicate 15 0 }).adv 0).gr 15 0 + 4095) % 2 ^ 32)) ∧ (Runs ((runningK 15 (encP 0x1C 0 0 false 4095) { g := 1 :: List.replicate 15 0 }).adv 0) 15 (encP 0x1C 0 0 false 4095))) ∧
    ((Powered (runningK 15 (encP 0x1D 0 0 false 4095) { g := 1 :: List.replicate 15 0 })) ∧ (4095 < 2 ^ 12) ∧ (0xFFF < ((((runningK 15 (encP 0x1D 0 0 false 4095) { g := 1 :: List.replicate 15 0 }).adv 0).gr 15 0 + 4095) % 2 ^ 32)) ∧ (Runs ((runningK 15 (encP 0x1D 0 0 false 4095) { g := 1 :: List.replicate 15 0 }).adv 0) 15 (encP 0x1D 0 0 false 4095))) := 
  ⟨by decide +kernel, by decide +kernel, by decide +kernel, by decide +kernel, by decide +kernel, by decide +kernel⟩

/-- The premises of PortAndCoprocessorInstructionsTakeEffect, clauses 7 on, are met together. -/
theorem test_meets_PortAndCoprocessorInstructionsTakeEffect_2 :
    ((Powered (runningK 15 (encC 3 15 0 0 0) { cp3 := { out := some { tag := 0, func := 0x100, block := [], result := 0, since := 0 } } })) ∧ (3 < 4) ∧ (Runs ((runningK 15 (encC 3 15 0 0 0) { cp3 := { out := some { tag := 0, func := 0x100, block := [], result := 0, since := 0 } } }).adv 0) 15 (encC 3 15 0 0 0)) ∧ (((((runningK 15 (encC 3 15 0 0 0) { cp3 := { out := some { tag := 0, func := 0x100, block := [], result := 0, since := 0 } } }).adv 0).core 15).cp 3).isOut (((runningK 15 (encC 3 15 0 0 0) { cp3 := { out := some { tag := 0, func := 0x100, block := [], result := 0, since := 0 } } }).adv 0).gr 15 0 % 2 ^ 16) = true)) ∧
    ((Powered (runningK 15 (encC 3 15 0 0 0) { cp3 := { last := some 0 } })) ∧ (3 < 4) ∧ (Runs ((runningK 15 (encC 3 15 0 0 0) { cp3 := { last := some 0 } }).adv 0) 15 (encC 3 15 0 0 0)) ∧ (((((runningK 15 (encC 3 15 0 0 0) { cp3 := { last := some 0 } }).adv 0).core 15).cp 3).isOut (((runningK 15 (encC 3 15 0 0 0) { cp3 := { last := some 0 } }).adv 0).gr 15 0 % 2 ^ 16) = false) ∧ (((((runningK 15 (encC 3 15 0 0 0) { cp3 := { last := some 0 } }).adv 0).core 15).cp 3).isLast (((runningK 15 (encC 3 15 0 0 0) { cp3 := { last := some 0 } }).adv 0).gr 15 0 % 2 ^ 16) = true)) ∧
    ((Powered (running 15 (encC 3 15 0 0 0))) ∧ (3 < 4) ∧ (Runs ((running 15 (encC 3 15 0 0 0)).adv 0) 15 (encC 3 15 0 0 0)) ∧ (((((running 15 (encC 3 15 0 0 0)).adv 0).core 15).cp 3).isOut (((running 15 (encC 3 15 0 0 0)).adv 0).gr 15 0 % 2 ^ 16) = false) ∧ (((((running 15 (encC 3 15 0 0 0)).adv 0).core 15).cp 3).isLast (((running 15 (encC 3 15 0 0 0)).adv 0).gr 15 0 % 2 ^ 16) = false)) ∧
    ((Powered (running 15 (encC 7 15 15 0 0))) ∧ (4 ≤ 7) ∧ (7 < 8) ∧ (Runs ((running 15 (encC 7 15 15 0 0)).adv 0) 15 (encC 7 15 15 0 0))) ∧
    ((Powered (runningK 15 (encC 3 15 0 0 1) { cp3 := { out := some { tag := 0, func := 0x100, block := [], result := 0, since := 0 } } })) ∧ (3 < 4) ∧ (Runs ((runningK 15 (encC 3 15 0 0 1) { cp3 := { out := some { tag := 0, func := 0x100, block := [], result := 0, since := 0 } } }).adv 0) 15 (encC 3 15 0 0 1)) ∧ (((((runningK 15 (encC 3 15 0 0 1) { cp3 := { out := some { tag := 0, func := 0x100, block := [], result := 0, since := 0 } } }).adv 0).core 15).cp 3).isOut (((runningK 15 (encC 3 15 0 0 1) { cp3 := { out := some { tag := 0, func := 0x100, block := [], result := 0, since := 0 } } }).adv 0).gr 15 0 % 2 ^ 16) = true)) ∧
    ((Powered (runningK 15 (encC 3 15 0 0 1) { cp3 := { last := some 0 } })) ∧ (3 < 4) ∧ (Runs ((runningK 15 (encC 3 15 0 0 1) { cp3 := { last := some 0 } }).adv 0) 15 (encC 3 15 0 0 1)) ∧ (((((runningK 15 (encC 3 15 0 0 1) { cp3 := { last := some 0 } }).adv 0).core 15).cp 3).isOut (((runningK 15 (encC 3 15 0 0 1) { cp3 := { last := some 0 } }).adv 0).gr 15 0 % 2 ^ 16) = false) ∧ (((((runningK 15 (encC 3 15 0 0 1) { cp3 := { last := some 0 } }).adv 0).core 15).cp 3).isLast (((runningK 15 (encC 3 15 0 0 1) { cp3 := { last := some 0 } }).adv 0).gr 15 0 % 2 ^ 16) = true)) := 
  ⟨by decide +kernel, by decide +kernel, by decide +kernel, by decide +kernel, by decide +kernel, by decide +kernel⟩

/-- The premises of PortAndCoprocessorInstructionsTakeEffect, clauses 13 on, are met together. -/
theorem test_meets_PortAndCoprocessorInstructionsTakeEffect_3 :
    ((Powered (running 15 (encC 3 15 0 0 1))) ∧ (3 < 4) ∧ (Runs ((running 15 (encC 3 15 0 0 1)).adv 0) 15 (encC 3 15 0 0 1)) ∧ (((((running 15 (encC 3 15 0 0 1)).adv 0).core 15).cp 3).isOut (((running 15 (encC 3 15 0 0 1)).adv 0).gr 15 0 % 2 ^ 16) = false) ∧ (((((running 15 (encC 3 15 0 0 1)).adv 0).core 15).cp 3).isLast (((running 15 (encC 3 15 0 0 1)).adv 0).gr 15 0 % 2 ^ 16) = false)) ∧
    ((Powered (running 15 (encC 7 15 15 0 1))) ∧ (4 ≤ 7) ∧ (7 < 8) ∧ (Runs ((running 15 (encC 7 15 15 0 1)).adv 0) 15 (encC 7 15 15 0 1))) ∧
    ((Powered (runningK 15 (encC 3 15 0 0 2) { cp3 := { out := some { tag := 0, func := 0x100, block := [], result := 0, since := 0 } } })) ∧ (3 < 4) ∧ (Runs ((runningK 15 (encC 3 15 0 0 2) { cp3 := { out := some { tag := 0, func := 0x100, block := [], result := 0, since := 0 } } }).adv 0) 15 (encC 3 15 0 0 2)) ∧ (((((runningK 15 (encC 3 15 0 0 2) { cp3 := { out := some { tag := 0, func := 0x100, block := [], result := 0, since := 0 } } }).adv 0).core 15).cp 3).isOut (((runningK 15 (encC 3 15 0 0 2) { cp3 := { out := some { tag := 0, func := 0x100, block := [], result := 0, since := 0 } } }).adv 0).gr 15 0 % 2 ^ 16) = true)) ∧
    ((Powered (runningK 15 (encC 3 15 0 0 2) { cp3 := { last := some 0 } })) ∧ (3 < 4) ∧ (Runs ((runningK 15 (encC 3 15 0 0 2) { cp3 := { last := some 0 } }).adv 0) 15 (encC 3 15 0 0 2)) ∧ (((((runningK 15 (encC 3 15 0 0 2) { cp3 := { last := some 0 } }).adv 0).core 15).cp 3).isOut (((runningK 15 (encC 3 15 0 0 2) { cp3 := { last := some 0 } }).adv 0).gr 15 0 % 2 ^ 16) = false) ∧ (((((runningK 15 (encC 3 15 0 0 2) { cp3 := { last := some 0 } }).adv 0).core 15).cp 3).isLast (((runningK 15 (encC 3 15 0 0 2) { cp3 := { last := some 0 } }).adv 0).gr 15 0 % 2 ^ 16) = true)) ∧
    ((Powered (running 15 (encC 3 15 0 0 2))) ∧ (3 < 4) ∧ (Runs ((running 15 (encC 3 15 0 0 2)).adv 0) 15 (encC 3 15 0 0 2)) ∧ (((((running 15 (encC 3 15 0 0 2)).adv 0).core 15).cp 3).isOut (((running 15 (encC 3 15 0 0 2)).adv 0).gr 15 0 % 2 ^ 16) = false) ∧ (((((running 15 (encC 3 15 0 0 2)).adv 0).core 15).cp 3).isLast (((running 15 (encC 3 15 0 0 2)).adv 0).gr 15 0 % 2 ^ 16) = false)) ∧
    ((Powered (running 15 (encC 7 15 15 0 2))) ∧ (4 ≤ 7) ∧ (7 < 8) ∧ (Runs ((running 15 (encC 7 15 15 0 2)).adv 0) 15 (encC 7 15 15 0 2))) := 
  ⟨by decide +kernel, by decide +kernel, by decide +kernel, by decide +kernel, by decide +kernel, by decide +kernel⟩

/-- The premises of PortAndCoprocessorInstructionsTakeEffect, clauses 19 on, are met together. -/
theorem test_meets_PortAndCoprocessorInstructionsTakeEffect_4 :
    ((Powered (boundCore (runningK 15 (encC 0 1 0 0 0x0100) { data := [(0, 0x7F00 + 15)] }))) ∧ (Runs ((boundCore (runningK 15 (encC 0 1 0 0 0x0100) { data := [(0, 0x7F00 + 15)] })).adv 0) 15 (encC 0 1 0 0 0x0100)) ∧ (((((boundCore (runningK 15 (encC 0 1 0 0 0x0100) { data := [(0, 0x7F00 + 15)] })).adv 0).core 15).cp 0).out = none) ∧ (((boundCore (runningK 15 (encC 0 1 0 0 0x0100) { data := [(0, 0x7F00 + 15)] })).adv 0).gr 15 0 % 4 = 0) ∧ (dataRange (((boundCore (runningK 15 (encC 0 1 0 0 0x0100) { data := [(0, 0x7F00 + 15)] })).adv 0).gr 15 0) (132) = true) ∧ (((((boundCore (runningK 15 (encC 0 1 0 0 0x0100) { data := [(0, 0x7F00 + 15)] })).adv 0).fetched 15).dataRead 15 (((boundCore (runningK 15 (encC 0 1 0 0 0x0100) { data := [(0, 0x7F00 + 15)] })).adv 0).gr 15 0) (132)).1 = false) ∧ (((((boundCore (runningK 15 (encC 0 1 0 0 0x0100) { data := [(0, 0x7F00 + 15)] })).adv 0).fetched 15).cp0Bad 15 ((((boundCore (runningK 15 (encC 0 1 0 0 0x0100) { data := [(0, 0x7F00 + 15)] })).adv 0).core 15).bytesAt (((boundCore (runningK 15 (encC 0 1 0 0 0x0100) { data := [(0, 0x7F00 + 15)] })).adv 0).gr 15 0) (132)) || leAt ((((boundCore (runningK 15 (encC 0 1 0 0 0x0100) { data := [(0, 0x7F00 + 15)] })).adv 0).core 15).bytesAt (((boundCore (runningK 15 (encC 0 1 0 0 0x0100) { data := [(0, 0x7F00 + 15)] })).adv 0).gr 15 0) (132)) 1 1 == 0 || decide (127 < leAt ((((boundCore (runningK 15 (encC 0 1 0 0 0x0100) { data := [(0, 0x7F00 + 15)] })).adv 0).core 15).bytesAt (((boundCore (runningK 15 (encC 0 1 0 0 0x0100) { data := [(0, 0x7F00 + 15)] })).adv 0).gr 15 0) (132)) 1 1) || leAt ((((boundCore (runningK 15 (encC 0 1 0 0 0x0100) { data := [(0, 0x7F00 + 15)] })).adv 0).core 15).bytesAt (((boundCore (runningK 15 (encC 0 1 0 0 0x0100) { data := [(0, 0x7F00 + 15)] })).adv 0).gr 15 0) (132)) 2 2 != 0 || ((boundCore (runningK 15 (encC 0 1 0 0 0x0100) { data := [(0, 0x7F00 + 15)] })).adv 0).gr 15 0 != 0) = false)) ∧
    ((Powered (runningK 15 (encC 0 15 15 15 0x0100) { cp0 := { out := some { tag := 0, func := 0x100, block := [], result := 0, since := 0 } } })) ∧ (Runs ((runningK 15 (encC 0 15 15 15 0x0100) { cp0 := { out := some { tag := 0, func := 0x100, block := [], result := 0, since := 0 } } }).adv 0) 15 (encC 0 15 15 15 0x0100)) ∧ (((((runningK 15 (encC 0 15 15 15 0x0100) { cp0 := { out := some { tag := 0, func := 0x100, block := [], result := 0, since := 0 } } }).adv 0).core 15).cp 0).out.isSome = true)) ∧
    ((Powered (boundCore (runningK 15 (encC 0 1 0 0 0x0101) { data := [(0, 0x10000 + 15)] }))) ∧ (Runs ((boundCore (runningK 15 (encC 0 1 0 0 0x0101) { data := [(0, 0x10000 + 15)] })).adv 0) 15 (encC 0 1 0 0 0x0101)) ∧ (((((boundCore (runningK 15 (encC 0 1 0 0 0x0101) { data := [(0, 0x10000 + 15)] })).adv 0).core 15).cp 0).out = none) ∧ (((boundCore (runningK 15 (encC 0 1 0 0 0x0101) { data := [(0, 0x10000 + 15)] })).adv 0).gr 15 0 % 4 = 0) ∧ (dataRange (((boundCore (runningK 15 (encC 0 1 0 0 0x0101) { data := [(0, 0x10000 + 15)] })).adv 0).gr 15 0) (4) = true) ∧ ((((boundCore (runningK 15 (encC 0 1 0 0 0x0101) { data := [(0, 0x10000 + 15)] })).adv 0).gr 15 0 = 0 ∨ (((boundCore (runningK 15 (encC 0 1 0 0 0x0101) { data := [(0, 0x10000 + 15)] })).adv 0).gr 15 0 % 4 = 0 ∧ dataRange (((boundCore (runningK 15 (encC 0 1 0 0 0x0101) { data := [(0, 0x10000 + 15)] })).adv 0).gr 15 0) (144) = true))) ∧ (((((boundCore (runningK 15 (encC 0 1 0 0 0x0101) { data := [(0, 0x10000 + 15)] })).adv 0).fetched 15).dataRead 15 (((boundCore (runningK 15 (encC 0 1 0 0 0x0101) { data := [(0, 0x10000 + 15)] })).adv 0).gr 15 0) (4)).1 = false) ∧ (((((boundCore (runningK 15 (encC 0 1 0 0 0x0101) { data := [(0, 0x10000 + 15)] })).adv 0).fetched 15).cp0Bad 15 ((((boundCore (runningK 15 (encC 0 1 0 0 0x0101) { data := [(0, 0x10000 + 15)] })).adv 0).core 15).bytesAt (((boundCore (runningK 15 (encC 0 1 0 0 0x0101) { data := [(0, 0x10000 + 15)] })).adv 0).gr 15 0) (4)) || leAt ((((boundCore (runningK 15 (encC 0 1 0 0 0x0101) { data := [(0, 0x10000 + 15)] })).adv 0).core 15).bytesAt (((boundCore (runningK 15 (encC 0 1 0 0 0x0101) { data := [(0, 0x10000 + 15)] })).adv 0).gr 15 0) (4)) 1 1 != 0 || leAt ((((boundCore (runningK 15 (encC 0 1 0 0 0x0101) { data := [(0, 0x10000 + 15)] })).adv 0).core 15).bytesAt (((boundCore (runningK 15 (encC 0 1 0 0 0x0101) { data := [(0, 0x10000 + 15)] })).adv 0).gr 15 0) (4)) 2 2 == 0) = false)) ∧
    ((Powered (runningK 15 (encC 0 15 15 15 0x0101) { cp0 := { out := some { tag := 0, func := 0x100, block := [], result := 0, since := 0 } } })) ∧ (Runs ((runningK 15 (encC 0 15 15 15 0x0101) { cp0 := { out := some { tag := 0, func := 0x100, block := [], result := 0, since := 0 } } }).adv 0) 15 (encC 0 15 15 15 0x0101)) ∧ (((((runningK 15 (encC 0 15 15 15 0x0101) { cp0 := { out := some { tag := 0, func := 0x100, block := [], result := 0, since := 0 } } }).adv 0).core 15).cp 0).out.isSome = true)) ∧
    ((Powered (running 15 (encC 1 1 0 0 0x0100))) ∧ (Runs ((running 15 (encC 1 1 0 0 0x0100)).adv 0) 15 (encC 1 1 0 0 0x0100)) ∧ (((((running 15 (encC 1 1 0 0 0x0100)).adv 0).core 15).cp 1).out = none) ∧ (((running 15 (encC 1 1 0 0 0x0100)).adv 0).gr 15 0 % 4 = 0) ∧ (dataRange (((running 15 (encC 1 1 0 0 0x0100)).adv 0).gr 15 0) (32) = true) ∧ ((((running 15 (encC 1 1 0 0 0x0100)).adv 0).gr 15 0 = 0 ∨ (((running 15 (encC 1 1 0 0 0x0100)).adv 0).gr 15 0 % 4 = 0 ∧ dataRange (((running 15 (encC 1 1 0 0 0x0100)).adv 0).gr 15 0) (16) = true))) ∧ (((((running 15 (encC 1 1 0 0 0x0100)).adv 0).fetched 15).dataRead 15 (((running 15 (encC 1 1 0 0 0x0100)).adv 0).gr 15 0) (32)).1 = false) ∧ ((cp1Bad false ((((running 15 (encC 1 1 0 0 0x0100)).adv 0).core 15).bytesAt (((running 15 (encC 1 1 0 0 0x0100)).adv 0).gr 15 0) (32))) = false)) ∧
    ((Powered (runningK 15 (encC 1 15 15 15 0x0100) { cp1 := { out := some { tag := 0, func := 0x100, block := [], result := 0, since := 0 } } })) ∧ (Runs ((runningK 15 (encC 1 15 15 15 0x0100) { cp1 := { out := some { tag := 0, func := 0x100, block := [], result := 0, since := 0 } } }).adv 0) 15 (encC 1 15 15 15 0x0100)) ∧ (((((runningK 15 (encC 1 15 15 15 0x0100) { cp1 := { out := some { tag := 0, func := 0x100, block := [], result := 0, since := 0 } } }).adv 0).core 15).cp 1).out.isSome = true)) := 
  ⟨by decide +kernel, by decide +kernel, by decide +kernel, by decide +kernel, by decide +kernel, by decide +kernel⟩

/-- The premises of PortAndCoprocessorInstructionsTakeEffect, clauses 25 on, are met together. -/
theorem test_meets_PortAndCoprocessorInstructionsTakeEffect_5 :
    ((Powered (runningK 15 (encC 1 1 0 0 0x0101) { data := [(0, 0x00100000)] })) ∧ (Runs ((runningK 15 (encC 1 1 0 0 0x0101) { data := [(0, 0x00100000)] }).adv 0) 15 (encC 1 1 0 0 0x0101)) ∧ (((((runningK 15 (encC 1 1 0 0 0x0101) { data := [(0, 0x00100000)] }).adv 0).core 15).cp 1).out = none) ∧ (((runningK 15 (encC 1 1 0 0 0x0101) { data := [(0, 0x00100000)] }).adv 0).gr 15 0 % 4 = 0) ∧ (dataRange (((runningK 15 (encC 1 1 0 0 0x0101) { data := [(0, 0x00100000)] }).adv 0).gr 15 0) (32) = true) ∧ (((((runningK 15 (encC 1 1 0 0 0x0101) { data := [(0, 0x00100000)] }).adv 0).fetched 15).dataRead 15 (((runningK 15 (encC 1 1 0 0 0x0101) { data := [(0, 0x00100000)] }).adv 0).gr 15 0) (32)).1 = false) ∧ ((cp1Bad true ((((runningK 15 (encC 1 1 0 0 0x0101) { data := [(0, 0x00100000)] }).adv 0).core 15).bytesAt (((runningK 15 (encC 1 1 0 0 0x0101) { data := [(0, 0x00100000)] }).adv 0).gr 15 0) (32))) = false)) ∧
    ((Powered (runningK 15 (encC 1 15 15 15 0x0101) { cp1 := { out := some { tag := 0, func := 0x100, block := [], result := 0, since := 0 } } })) ∧ (Runs ((runningK 15 (encC 1 15 15 15 0x0101) { cp1 := { out := some { tag := 0, func := 0x100, block := [], result := 0, since := 0 } } }).adv 0) 15 (encC 1 15 15 15 0x0101)) ∧ (((((runningK 15 (encC 1 15 15 15 0x0101) { cp1 := { out := some { tag := 0, func := 0x100, block := [], result := 0, since := 0 } } }).adv 0).core 15).cp 1).out.isSome = true)) ∧
    ((Powered (runningK 15 (encC 2 1 0 0 0x0100) { data := [(0, 0xFF04)] })) ∧ (Runs ((runningK 15 (encC 2 1 0 0 0x0100) { data := [(0, 0xFF04)] }).adv 0) 15 (encC 2 1 0 0 0x0100)) ∧ (((((runningK 15 (encC 2 1 0 0 0x0100) { data := [(0, 0xFF04)] }).adv 0).core 15).cp 2).out = none) ∧ (((runningK 15 (encC 2 1 0 0 0x0100) { data := [(0, 0xFF04)] }).adv 0).alm.cp2.length < 8) ∧ (((runningK 15 (encC 2 1 0 0 0x0100) { data := [(0, 0xFF04)] }).adv 0).gr 15 0 % 4 = 0) ∧ (dataRange (((runningK 15 (encC 2 1 0 0 0x0100) { data := [(0, 0xFF04)] }).adv 0).gr 15 0) (8 + 16 * min ((((runningK 15 (encC 2 1 0 0 0x0100) { data := [(0, 0xFF04)] }).adv 0).core 15).load (((runningK 15 (encC 2 1 0 0 0x0100) { data := [(0, 0xFF04)] }).adv 0).gr 15 0) 1) 128) = true) ∧ ((((runningK 15 (encC 2 1 0 0 0x0100) { data := [(0, 0xFF04)] }).adv 0).gr 15 0 = 0 ∨ (((runningK 15 (encC 2 1 0 0 0x0100) { data := [(0, 0xFF04)] }).adv 0).gr 15 0 % 4 = 0 ∧ dataRange (((runningK 15 (encC 2 1 0 0 0x0100) { data := [(0, 0xFF04)] }).adv 0).gr 15 0) (64) = true))) ∧ (((((runningK 15 (encC 2 1 0 0 0x0100) { data := [(0, 0xFF04)] }).adv 0).fetched 15).dataRead 15 (((runningK 15 (encC 2 1 0 0 0x0100) { data := [(0, 0xFF04)] }).adv 0).gr 15 0) (8 + 16 * min ((((runningK 15 (encC 2 1 0 0 0x0100) { data := [(0, 0xFF04)] }).adv 0).core 15).load (((runningK 15 (encC 2 1 0 0 0x0100) { data := [(0, 0xFF04)] }).adv 0).gr 15 0) 1) 128)).1 = false) ∧ ((cp2Bad ((((runningK 15 (encC 2 1 0 0 0x0100) { data := [(0, 0xFF04)] }).adv 0).core 15).bytesAt (((runningK 15 (encC 2 1 0 0 0x0100) { data := [(0, 0xFF04)] }).adv 0).gr 15 0) (8 + 16 * min ((((runningK 15 (encC 2 1 0 0 0x0100) { data := [(0, 0xFF04)] }).adv 0).core 15).load (((runningK 15 (encC 2 1 0 0 0x0100) { data := [(0, 0xFF04)] }).adv 0).gr 15 0) 1) 128))) = false)) ∧
    ((Powered (runningK 15 (encC 2 15 15 15 0x0100) { cp2 := { out := some { tag := 0, func := 0x100, block := [], result := 0, since := 0 } } })) ∧ (Runs ((runningK 15 (encC 2 15 15 15 0x0100) { cp2 := { out := some { tag := 0, func := 0x100, block := [], result := 0, since := 0 } } }).adv 0) 15 (encC 2 15 15 15 0x0100)) ∧ (((((runningK 15 (encC 2 15 15 15 0x0100) { cp2 := { out := some { tag := 0, func := 0x100, block := [], result := 0, since := 0 } } }).adv 0).core 15).cp 2).out.isSome = true)) ∧
    ((Powered (runningK 15 (encC 3 1 0 0 0x0100) { data := [(0, 256)] })) ∧ (Runs ((runningK 15 (encC 3 1 0 0 0x0100) { data := [(0, 256)] }).adv 0) 15 (encC 3 1 0 0 0x0100)) ∧ (((((runningK 15 (encC 3 1 0 0 0x0100) { data := [(0, 256)] }).adv 0).core 15).cp 3).out = none) ∧ (((runningK 15 (encC 3 1 0 0 0x0100) { data := [(0, 256)] }).adv 0).gr 15 0 % 4 = 0) ∧ (dataRange (((runningK 15 (encC 3 1 0 0 0x0100) { data := [(0, 256)] }).adv 0).gr 15 0) (4) = true) ∧ ((((runningK 15 (encC 3 1 0 0 0x0100) { data := [(0, 256)] }).adv 0).gr 15 0 = 0 ∨ (((runningK 15 (encC 3 1 0 0 0x0100) { data := [(0, 256)] }).adv 0).gr 15 0 % 4 = 0 ∧ dataRange (((runningK 15 (encC 3 1 0 0 0x0100) { data := [(0, 256)] }).adv 0).gr 15 0) (min ((((runningK 15 (encC 3 1 0 0 0x0100) { data := [(0, 256)] }).adv 0).core 15).load (((runningK 15 (encC 3 1 0 0 0x0100) { data := [(0, 256)] }).adv 0).gr 15 0) 1 + (((runningK 15 (encC 3 1 0 0 0x0100) { data := [(0, 256)] }).adv 0).core 15).load (((runningK 15 (encC 3 1 0 0 0x0100) { data := [(0, 256)] }).adv 0).gr 15 0 + 1) 1 * 256) 256) = true))) ∧ (((((runningK 15 (encC 3 1 0 0 0x0100) { data := [(0, 256)] }).adv 0).fetched 15).dataRead 15 (((runningK 15 (encC 3 1 0 0 0x0100) { data := [(0, 256)] }).adv 0).gr 15 0) (4)).1 = false) ∧ ((cp3Bad ((((runningK 15 (encC 3 1 0 0 0x0100) { data := [(0, 256)] }).adv 0).core 15).bytesAt (((runningK 15 (encC 3 1 0 0 0x0100) { data := [(0, 256)] }).adv 0).gr 15 0) (4))) = false)) ∧
    ((Powered (runningK 15 (encC 3 15 15 15 0x0100) { cp3 := { out := some { tag := 0, func := 0x100, block := [], result := 0, since := 0 } } })) ∧ (Runs ((runningK 15 (encC 3 15 15 15 0x0100) { cp3 := { out := some { tag := 0, func := 0x100, block := [], result := 0, since := 0 } } }).adv 0) 15 (encC 3 15 15 15 0x0100)) ∧ (((((runningK 15 (encC 3 15 15 15 0x0100) { cp3 := { out := some { tag := 0, func := 0x100, block := [], result := 0, since := 0 } } }).adv 0).core 15).cp 3).out.isSome = true)) := 
  ⟨by decide +kernel, by decide +kernel, by decide +kernel, by decide +kernel, by decide +kernel, by decide +kernel⟩

/-- The premises of PortAndCoprocessorInstructionsTakeEffect, clauses 31 on, are met together. -/
theorem test_meets_PortAndCoprocessorInstructionsTakeEffect_6 :
    ((Powered (runningK 15 0 { cp3 := { out := some { tag := 0, func := 0x100, block := [], result := 0, since := 0 }, done := some (0, 0, []) } })) ∧ (15 < 16) ∧ (3 < 4) ∧ (((((runningK 15 0 { cp3 := { out := some { tag := 0, func := 0x100, block := [], result := 0, since := 0 }, done := some (0, 0, []) } }).adv 0).core 15).cp 3).out = some ({ tag := 0, func := 0x100, block := [], result := 0, since := 0 })) ∧ (((((runningK 15 0 { cp3 := { out := some { tag := 0, func := 0x100, block := [], result := 0, since := 0 }, done := some (0, 0, []) } }).adv 0).core 15).cp 3).done = some ((0, 0, [])))) := by decide +kernel

/-- The premises of CoreStepCommandsTakeEffect, clauses 1 on, are met together. -/
theorem test_meets_CoreStepCommandsTakeEffect_1 :
    ((Powered stepReady) ∧ ((stepReady.adv 0).running 0x0E = true) ∧ ((stepReady.adv 0).nextStep 15 = some 0) ∧ (((stepReady.adv 0).ctx 0).state = ssDecide) ∧ (scriptEntry (((stepReady.adv 0).unready 0).bundleOf 0).scripts ((((stepReady.adv 0).progOf 0).map (·.script)).getD 0) = some entryOne)) ∧
    ((Powered (running 15 0)) ∧ (((running 15 0).adv (secT 1)).inStep 15 = true) ∧ (3 * ((running 15 0).adv (secT 1)).sliceMax ≤ 4 * ((running 15 0).adv (secT 1)).stepTicks 15)) ∧
    ((Powered (boundCore (running 15 0))) ∧ (((boundCore (running 15 0)).adv (secT 1)).inStep 15 = true) ∧ (((boundCore (running 15 0)).adv (secT 1)).sliceMax < ((boundCore (running 15 0)).adv (secT 1)).stepTicks 15) ∧ (((boundCore (running 15 0)).adv (secT 1)).live (((boundCore (running 15 0)).adv (secT 1)).rd AST_CORE_STAT.SESSION 15) (((boundCore (running 15 0)).adv (secT 1)).rd AST_CORE_SCRIPT.GEN 15) = true)) ∧
    ((Powered ((W.wr AST_CORE_STAT.STATE csReload 15))) ∧ (15 < 16) ∧ ((((W.wr AST_CORE_STAT.STATE csReload 15)).adv (usT 1024)).coreSt 15 = csReload) ∧ (((((W.wr AST_CORE_STAT.STATE csReload 15)).adv (usT 1024)).core 15).reloadFrom + reloadT ≤ (((W.wr AST_CORE_STAT.STATE csReload 15)).adv (usT 1024)).now)) ∧
    ((Powered W) ∧ (15 < 16) ∧ (3 ≤ 3)) ∧
    ((Powered W) ∧ (15 < 16) ∧ (3 ≤ 3) ∧ (0xFFFFFFFF < 2 ^ 32)) := 
  ⟨by decide +kernel, by decide +kernel, by decide +kernel, by decide +kernel, by decide +kernel, by decide +kernel⟩

/-- The premises of CoreStepCommandsTakeEffect, clauses 7 on, are met together. -/
theorem test_meets_CoreStepCommandsTakeEffect_2 :
    ((Powered W) ∧ (15 < 16)) ∧
    ((Powered W) ∧ (15 < 16) ∧ (65535 < 65536)) ∧
    ((Powered (runningK 15 0 { timerAt := some 0 })) ∧ (15 < 16) ∧ ((((runningK 15 0 { timerAt := some 0 }).adv 0).core 15).timerAt = some 0) ∧ (0 ≤ ((runningK 15 0 { timerAt := some 0 }).adv 0).now)) ∧
    ((Powered W) ∧ (15 < 16) ∧ (0xFFFFFFFF < 2 ^ 32)) ∧
    ((Powered W) ∧ (15 < 16) ∧ (0xFFFFFFFF < 2 ^ 32)) ∧
    ((Powered W) ∧ (15 < 16)) := 
  ⟨by decide +kernel, by decide +kernel, by decide +kernel, by decide +kernel, by decide +kernel, by decide +kernel⟩

/-- The premises of CoreStepCommandsTakeEffect, clauses 13 on, are met together. -/
theorem test_meets_CoreStepCommandsTakeEffect_3 :
    ((Powered (boundCore (running 15 0))) ∧ (15 < 16) ∧ (((boundCore (running 15 0)).adv 0).bound 15 = some (0, 1)) ∧ ((((boundCore (running 15 0)).adv 0).memReadBytes arrDram (0x10000000 + 2048 * 0 + 4 * ((((boundCore (running 15 0)).adv 0).core 15).rangeIdx % 512)) 4).1 = false)) ∧
    ((Powered (runningK 15 0 { psw := 2 ^ pbIE, imask := 0xFF, sliceWarn := true })) ∧ (((runningK 15 0 { psw := 2 ^ pbIE, imask := 0xFF, sliceWarn := true }).adv 0).coreSteps 15 = true) ∧ ((((runningK 15 0 { psw := 2 ^ pbIE, imask := 0xFF, sliceWarn := true }).adv 0).core 15).flag pbIE = true) ∧ ((List.range 8).find? (fun j => bit (((runningK 15 0 { psw := 2 ^ pbIE, imask := 0xFF, sliceWarn := true }).adv 0).core 15).lines j) = some 4)) ∧
    ((Powered (running 15 0xDC000000)) ∧ (Runs ((running 15 0xDC000000).adv 0) 15 0xDC000000) ∧ (wMajor 0xDC000000 ∈ [0x09, 0x0A, 0x0B, 0x0C, 0x0D, 0x0E, 0x0F, 0x1E, 0x1F, 0x26, 0x27, 0x2A, 0x2B, 0x2C, 0x2D, 0x2E, 0x2F, 0x30, 0x31, 0x32, 0x33, 0x34, 0x35, 0x36, 0x37])) ∧
    ((Powered (running 15 0xFFFFFFFF)) ∧ (Runs ((running 15 0xFFFFFFFF).adv 0) 15 0xFFFFFFFF) ∧ (60 ≤ wMajor 0xFFFFFFFF) ∧ (0xFFFFFFFF < 2 ^ 32)) := 
  ⟨by decide +kernel, by decide +kernel, by decide +kernel, by decide +kernel⟩

/-- The premises of StoreCommandsTakeEffect, clauses 1 on, are met together. -/
theorem test_meets_StoreCommandsTakeEffect_1 :
    ((Powered (up.wr MEM_STAT.SCRUBBING 1)) ∧ (((up.wr MEM_STAT.SCRUBBING 1).adv 0).running 0x0F = true) ∧ (((up.wr MEM_STAT.SCRUBBING 1).adv 0).on MEM_STAT.SCRUBBING = true)) ∧
    ((Powered (({ W with mem := { merge := [⟨0x40, 7, 15, 0⟩] } } : State))) ∧ (((({ W with mem := { merge := [⟨0x40, 7, 15, 0⟩] } } : State)).adv (secT 1)).mem.merge.find? (fun e₁ => e₁.arr == 0x40) = some ((⟨0x40, 7, 15, 0⟩ : MergeEnt))) ∧ (((⟨0x40, 7, 15, 0⟩ : MergeEnt)).since + clampTo 8 255 (((({ W with mem := { merge := [⟨0x40, 7, 15, 0⟩] } } : State)).adv (secT 1)).rd MEM_MERGE_CFG.MERGE_IDLE) * 79872 / 1000 ≤ ((({ W with mem := { merge := [⟨0x40, 7, 15, 0⟩] } } : State)).adv (secT 1)).now)) ∧
    ((Powered (W.wr MEM_FLIP_D.VALUE 1 0)) ∧ (bit 0x4001 0 = true) ∧ (arrPriv (bits 0x4001 15 8) = false) ∧ ((((((W.wr MEM_FLIP_D.VALUE 1 0).adv 0).wr MEM_FLIP_CTL.TARGET (bits 0x4001 15 8)).flag MEM_FLIP_CTL.ADDR_EN (bit 0x4001 1)).flipEffect (bits 0x4001 15 8)).isSome = true) ∧ (bit 0x4001 2 = false) ∧ (bit 0x4001 3 = false)) ∧
    ((Powered ((viewed.wr DOM_LC.STATE lcBlank))) ∧ ((((viewed.wr DOM_LC.STATE lcBlank)).adv 0).viewReason 0 0x0F = none) ∧ (((bits 0x3401 15 8 == 0x34 || bits 0x3401 15 8 == 0x35) && !((((viewed.wr DOM_LC.STATE lcBlank)).adv 0).lc == lcBlank || (((viewed.wr DOM_LC.STATE lcBlank)).adv 0).lc == lcVendor)) = false)) ∧
    ((Powered W) ∧ ((W.adv (secT 1000)).mem.leakAt + msT (orOne ((W.adv (secT 1000)).rd MEM_BUCKET_CFG.LEAK_MS)) ≤ (W.adv (secT 1000)).now)) ∧
    ((Powered writing) ∧ (0 < 4) ∧ ((writing.adv 0).pltReady = true) ∧ ((writing.adv 0).on PLT_STAT.VHOLD_LOW = false) ∧ (3000 ≤ 3000) ∧ (SMap.find (writing.adv 0).plt.banks 0 = none) ∧ ((writing.adv 0).pwrState < psS2) ∧ ((writing.adv 0).plt.resetPend = false) ∧ ((writing.adv 0).bankNext 0 = some writeA) ∧ (writeA.ops = ([(0, 5)]) :: ([]))) := 
  ⟨by decide +kernel, by decide +kernel, by decide +kernel, by decide +kernel, by decide +kernel, by decide +kernel⟩

/-- The premises of StoreCommandsTakeEffect, clauses 7 on, are met together. -/
theorem test_meets_StoreCommandsTakeEffect_2 :
    ((Powered (({ W with plt := { banks := [(3, (9, [(0, 5)], true, .plain))] } } : State))) ∧ (SMap.find ((({ W with plt := { banks := [(3, (9, [(0, 5)], true, .plain))] } } : State)).adv 0).plt.banks 3 = some (9, ([(0, 5)]), true, PltTag.plain))) ∧
    ((Powered appending) ∧ ((appending.adv 0).pltReady = true) ∧ ((appending.adv 0).plt.sealing = none) ∧ ((appending.adv 0).plt.writing = none) ∧ ((appending.adv 0).arcNext = some arcReqA)) ∧
    ((Powered (({ W with plt := { sealing := some arcRecA } } : State))) ∧ (((({ W with plt := { sealing := some arcRecA } } : State)).adv (msT 1)).plt.sealing = some arcRecA) ∧ (((({ W with plt := { sealing := some arcRecA } } : State)).adv (msT 1)).plt.sealTried + msT 1 ≤ ((({ W with plt := { sealing := some arcRecA } } : State)).adv (msT 1)).now)) ∧
    ((Powered (W.wr PLT_STAT.VHOLD_LOW 0)) ∧ (((W.wr PLT_STAT.VHOLD_LOW 0).adv 0).on PLT_STAT.VHOLD_LOW = false) ∧ (2999 < 3000)) ∧
    ((Powered (W.wr PLT_STAT.VHOLD_LOW 1)) ∧ (((W.wr PLT_STAT.VHOLD_LOW 1).adv 0).on PLT_STAT.VHOLD_LOW = true) ∧ (3000 ≤ 3000)) ∧
    ((Powered portHeld) ∧ ((portHeld.adv (msT 100)).plt.portSince = some 0) ∧ ((portHeld.adv (msT 100)).on PLT_STAT.VHOLD_LOW = true) ∧ (0 + msT 100 ≤ (portHeld.adv (msT 100)).now) ∧ ((portHeld.adv (msT 100)).plt.queue.any (fun w => w.tag == .port && !w.active) = true)) := 
  ⟨by decide +kernel, by decide +kernel, by decide +kernel, by decide +kernel, by decide +kernel, by decide +kernel⟩

/-- The premises of StoreCommandsTakeEffect, clauses 13 on, are met together. -/
theorem test_meets_StoreCommandsTakeEffect_3 :
    ((Powered W) ∧ ((W.adv 0).pltReady = false)) ∧
    ((Powered resolving) ∧ (SMap.find (resolving.adv 0).shu.openRel 255 = some openRelA) ∧ ((resolving.adv 0).shu.toResolve.contains 255 = true) ∧ ((resolving.adv 0).plt.bootDone = true) ∧ (({ (resolving.adv 0) with shu := { (resolving.adv 0).shu with toResolve := (resolving.adv 0).shu.toResolve.erase 255 } } : State).decisionFound openRelA = none)) ∧
    ((Powered W)) ∧
    ((Powered ((up.wr PLT_STAT.READY 1).wr PLT_STAT.MARGIN_RUN 1)) ∧ ((((up.wr PLT_STAT.READY 1).wr PLT_STAT.MARGIN_RUN 1).adv 0).pltReady = true) ∧ ((((up.wr PLT_STAT.READY 1).wr PLT_STAT.MARGIN_RUN 1).adv 0).pwrState < psS2) ∧ ((((up.wr PLT_STAT.READY 1).wr PLT_STAT.MARGIN_RUN 1).adv 0).on PLT_STAT.MARGIN_RUN = true)) ∧
    ((Powered (up.wr PLT_STAT.READY 1)) ∧ (((up.wr PLT_STAT.READY 1).adv 0).on PLT_ACC_CTL.BUSY = false) ∧ (((up.wr PLT_STAT.READY 1).adv 0).pltReady = true)) ∧
    ((Powered W) ∧ ((W.adv 0).on PLT_ACC_CTL.BUSY = false)) := 
  ⟨by decide +kernel, by decide +kernel, by decide +kernel, by decide +kernel, by decide +kernel, by decide +kernel⟩

/-- The premises of StoreCommandsTakeEffect, clauses 19 on, are met together. -/
theorem test_meets_StoreCommandsTakeEffect_4 :
    ((Powered viewed) ∧ ((viewed.adv 0).on PLT_ACC_CTL.BUSY = false) ∧ ((viewed.adv 0).viewReason 0 0x10 = none)) ∧
    ((Powered (slotOwned.wr PLT_STAT.READY 1)) ∧ ((((slotOwned.wr PLT_STAT.READY 1).adv 0).wr PLT_ARC_EXP_CTL.SLOT 4095).pltReady = true) ∧ ((((slotOwned.wr PLT_STAT.READY 1).adv 0).wr PLT_ARC_EXP_CTL.SLOT 4095).slotFlag 4095 = slotDevice) ∧ ((((slotOwned.wr PLT_STAT.READY 1).adv 0).wr PLT_ARC_EXP_CTL.SLOT 4095).inRing 4095 = false)) := 
  ⟨by decide +kernel, by decide +kernel⟩

/-- The premises of BootCommandsTakeEffect, clauses 1 on, are met together. -/
theorem test_meets_BootCommandsTakeEffect_1 :
    ((Powered W) ∧ ((W.adv 0).fuse.done = false)) ∧
    ((Powered W) ∧ ((W.adv 0).boot.found = false) ∧ ((W.adv 0).bootPhase ≤ bpFlash)) ∧
    ((Powered (({ W.wr BOOT_STAT.PHASE bpCopy with boot := { tries := [1] } } : State))) ∧ (((({ W.wr BOOT_STAT.PHASE bpCopy with boot := { tries := [1] } } : State)).adv 0).bootPhase = bpCopy) ∧ (((({ W.wr BOOT_STAT.PHASE bpCopy with boot := { tries := [1] } } : State)).adv 0).boot.tries.head? = some 1) ∧ ((((({ W.wr BOOT_STAT.PHASE bpCopy with boot := { tries := [1] } } : State)).adv 0).slotTried 1 false ([]) false).bootPhase ≠ bpCopy)) ∧
    ((Powered (({ W.wr BOOT_STAT.PHASE bpSwitch with boot := { switching := some 1 } } : State))) ∧ (((({ W.wr BOOT_STAT.PHASE bpSwitch with boot := { switching := some 1 } } : State)).adv 0).bootPhase = bpSwitch) ∧ (((({ W.wr BOOT_STAT.PHASE bpSwitch with boot := { switching := some 1 } } : State)).adv 0).boot.switching = some 1)) ∧
    ((Powered (((up.wr PLT_STAT.READY 1).wr PLT_STAT.VHOLD_LOW 0).wr BOOT_STAT.IMAGE_OK 1)) ∧ (((((up.wr PLT_STAT.READY 1).wr PLT_STAT.VHOLD_LOW 0).wr BOOT_STAT.IMAGE_OK 1).adv 0).plt.bootDone = false) ∧ (((((up.wr PLT_STAT.READY 1).wr PLT_STAT.VHOLD_LOW 0).wr BOOT_STAT.IMAGE_OK 1).adv 0).pltReady = true) ∧ (((((up.wr PLT_STAT.READY 1).wr PLT_STAT.VHOLD_LOW 0).wr BOOT_STAT.IMAGE_OK 1).adv 0).on PLT_STAT.VHOLD_LOW = false) ∧ (((((up.wr PLT_STAT.READY 1).wr PLT_STAT.VHOLD_LOW 0).wr BOOT_STAT.IMAGE_OK 1).adv 0).on BOOT_STAT.IMAGE_OK = true)) ∧
    ((Powered (W.wr BOOT_STAT.PHASE bpFail)) ∧ (((W.wr BOOT_STAT.PHASE bpFail).adv 0).bootPhase = bpFail)) := 
  ⟨by decide +kernel, by decide +kernel, by decide +kernel, by decide +kernel, by decide +kernel, by decide +kernel⟩

/-- The premises of BootCommandsTakeEffect, clauses 7 on, are met together. -/
theorem test_meets_BootCommandsTakeEffect_2 :
    ((Powered (W.wr BOOT_STAT.PHASE bpRun)) ∧ (1 < 2) ∧ ((((W.wr BOOT_STAT.PHASE bpRun).adv 0).wr BOOT_CTL.SWITCH_SLOT 1).bootPhase = bpRun) ∧ (((W.wr BOOT_STAT.PHASE bpRun).adv 0).boot.unfinished = false)) ∧
    ((Powered (({ W with boot := { unfinished := true } } : State))) ∧ (((({ W with boot := { unfinished := true } } : State)).adv 0).boot.unfinished = true) ∧ (((({ W with boot := { unfinished := true } } : State)).adv 0).ses.ctx.any (fun p => (((({ W with boot := { unfinished := true } } : State)).adv 0).aux p.1).oldBundle) = false)) ∧
    ((Powered imaged) ∧ ((imaged.adv 0).on BOOT_STAT.IMAGE_OK = true) ∧ (0 < imgNrec (imaged.adv 0).boot.copy)) ∧
    ((Powered flashed) ∧ (((Instr.program 0 0 false 0 0 4095), 1) ∈ [(Instr.read 0 0 false 0 0 4095, 0), (Instr.program 0 0 false 0 0 4095, 1)]) ∧ ((flashed.adv 0).on BOOT_FL_CTL.BUSY = false) ∧ (((flashed.adv 0).flashSet 1 0 0 4095).flashBad = false)) ∧
    ((Powered flashed) ∧ (((Instr.erase64 0 0 false 0x10000), 3) ∈ [(Instr.erase4 0 0 false 0x10000, 2), (Instr.erase64 0 0 false 0x10000, 3)]) ∧ ((flashed.adv 0).on BOOT_FL_CTL.BUSY = false) ∧ (((flashed.adv 0).flashSet 3 0x10000 0 0).flashBad = false)) ∧
    ((Powered (({ W with boot := { op := some ⟨1, 0, 3, 7, true⟩ } } : State))) ∧ (((({ W with boot := { op := some ⟨1, 0, 3, 7, true⟩ } } : State)).adv 0).boot.op = some ((⟨1, 0, 3, 7, true⟩ : FlashOp))) ∧ (((⟨1, 0, 3, 7, true⟩ : FlashOp)).on = true)) := 
  ⟨by decide +kernel, by decide +kernel, by decide +kernel, by decide +kernel, by decide +kernel, by decide +kernel⟩

/-- The premises of PowerCommandsTakeEffect, clauses 1 on, are met together. -/
theorem test_meets_PowerCommandsTakeEffect_1 :
    ((Powered W) ∧ (domOffable 8 = true) ∧ ((W.adv 0).on PWR_DOM_CTL.OFF 8 = false)) ∧
    ((Powered (W.wr PWR_DOM_CTL.OFF 1 8)) ∧ (domOffable 8 = true) ∧ (((W.wr PWR_DOM_CTL.OFF 1 8).adv 0).on PWR_DOM_CTL.OFF 8 = true)) ∧
    ((Powered (({ W with pwr := { doms := [(8, { up := true, start := 0 })] } } : State))) ∧ (SMap.find ((({ W with pwr := { doms := [(8, { up := true, start := 0 })] } } : State)).adv (usT 24)).pwr.doms 8 = some (({ up := true, start := 0 } : DomSeq))) ∧ ((({ up := true, start := 0 } : DomSeq)).rev = false) ∧ ((({ up := true, start := 0 } : DomSeq)).start + usT (if (({ up := true, start := 0 } : DomSeq)).up then 24 else 4) ≤ ((({ W with pwr := { doms := [(8, { up := true, start := 0 })] } } : State)).adv (usT 24)).now)) ∧
    ((Powered (((W.wr PWR_STAT.STATE psS0).wr PWR_DOM_STAT.STATE dsRun 8).wr PWR_DOM_IDLE.DOZE_US 1 8)) ∧ (0 < 8) ∧ (8 < 9) ∧ (((((W.wr PWR_STAT.STATE psS0).wr PWR_DOM_STAT.STATE dsRun 8).wr PWR_DOM_IDLE.DOZE_US 1 8).adv 0).domMoving 8 = false) ∧ (((((W.wr PWR_STAT.STATE psS0).wr PWR_DOM_STAT.STATE dsRun 8).wr PWR_DOM_IDLE.DOZE_US 1 8).adv 0).pwrState ≤ psS1) ∧ (((((W.wr PWR_STAT.STATE psS0).wr PWR_DOM_STAT.STATE dsRun 8).wr PWR_DOM_IDLE.DOZE_US 1 8).adv 0).domSt 8 = dsRun) ∧ (((((W.wr PWR_STAT.STATE psS0).wr PWR_DOM_STAT.STATE dsRun 8).wr PWR_DOM_IDLE.DOZE_US 1 8).adv 0).rd PWR_DOM_IDLE.DOZE_US 8 ≠ 0)) ∧
    ((Powered ((W.wr PWR_STAT.STATE psS0).wr PWR_DOM_STAT.STATE dsDoze 8)) ∧ (0 < 8) ∧ (8 < 9) ∧ ((((W.wr PWR_STAT.STATE psS0).wr PWR_DOM_STAT.STATE dsDoze 8).adv 0).domMoving 8 = false) ∧ ((((W.wr PWR_STAT.STATE psS0).wr PWR_DOM_STAT.STATE dsDoze 8).adv 0).pwrState ≤ psS1) ∧ ((((W.wr PWR_STAT.STATE psS0).wr PWR_DOM_STAT.STATE dsDoze 8).adv 0).domSt 8 = dsDoze)) ∧
    ((Powered ((W.wr PWR_STAT.STATE psS0).wr PWR_IDLE_CFG.S2_EN 1)) ∧ ((((W.wr PWR_STAT.STATE psS0).wr PWR_IDLE_CFG.S2_EN 1).adv 0).pwr.seq = none) ∧ ((((W.wr PWR_STAT.STATE psS0).wr PWR_IDLE_CFG.S2_EN 1).adv 0).pwrBlock = 0) ∧ (((((W.wr PWR_STAT.STATE psS0).wr PWR_IDLE_CFG.S2_EN 1).adv 0).wr PWR_STAT.BLOCK 0).pwrState ≤ psS1) ∧ ((((W.wr PWR_STAT.STATE psS0).wr PWR_IDLE_CFG.S2_EN 1).adv 0).pwr.doms = []) ∧ ((((W.wr PWR_STAT.STATE psS0).wr PWR_IDLE_CFG.S2_EN 1).adv 0).pwr.halting = [])) := 
  ⟨by decide +kernel, by decide +kernel, by decide +kernel, by decide +kernel, by decide +kernel, by decide +kernel⟩

/-- The premises of PowerCommandsTakeEffect, clauses 7 on, are met together. -/
theorem test_meets_PowerCommandsTakeEffect_2 :
    ((Powered (({ W with pwr := { seq := some { kind := 1, start := 0 } } } : State))) ∧ (((({ W with pwr := { seq := some { kind := 1, start := 0 } } } : State)).adv (usT 4)).pwr.seq = some (({ kind := 1, start := 0 } : PwrSeq))) ∧ ((({ kind := 1, start := 0 } : PwrSeq)).kind = 1) ∧ ((({ kind := 1, start := 0 } : PwrSeq)).rev = false) ∧ (((({ W with pwr := { seq := some { kind := 1, start := 0 } } } : State)).adv (usT 4)).plt.queue = []) ∧ (((({ W with pwr := { seq := some { kind := 1, start := 0 } } } : State)).adv (usT 4)).plt.banks = []) ∧ ((({ kind := 1, start := 0 } : PwrSeq)).start + usT 4 ≤ ((({ W with pwr := { seq := some { kind := 1, start := 0 } } } : State)).adv (usT 4)).now)) ∧
    ((Powered (((W.wr PWR_STAT.STATE psS2).wr PWR_IDLE_CFG.S2_EN 1).wr PWR_IDLE_CFG.S3_EN 1)) ∧ (((((W.wr PWR_STAT.STATE psS2).wr PWR_IDLE_CFG.S2_EN 1).wr PWR_IDLE_CFG.S3_EN 1).adv (secT 100000)).pwr.seq = none) ∧ (((((W.wr PWR_STAT.STATE psS2).wr PWR_IDLE_CFG.S2_EN 1).wr PWR_IDLE_CFG.S3_EN 1).adv (secT 100000)).pwrState = psS2) ∧ (((((W.wr PWR_STAT.STATE psS2).wr PWR_IDLE_CFG.S2_EN 1).wr PWR_IDLE_CFG.S3_EN 1).adv (secT 100000)).on PWR_IDLE_CFG.S3_EN = true) ∧ (setBit ((((W.wr PWR_STAT.STATE psS2).wr PWR_IDLE_CFG.S2_EN 1).wr PWR_IDLE_CFG.S3_EN 1).adv (secT 100000)).pwrBlock 4 false = 0) ∧ (((((W.wr PWR_STAT.STATE psS2).wr PWR_IDLE_CFG.S2_EN 1).wr PWR_IDLE_CFG.S3_EN 1).adv (secT 100000)).pwr.s2At + secT (orOne (((((W.wr PWR_STAT.STATE psS2).wr PWR_IDLE_CFG.S2_EN 1).wr PWR_IDLE_CFG.S3_EN 1).adv (secT 100000)).rd PWR_IDLE_CFG.S3_IDLE)) ≤ ((((W.wr PWR_STAT.STATE psS2).wr PWR_IDLE_CFG.S2_EN 1).wr PWR_IDLE_CFG.S3_EN 1).adv (secT 100000)).now)) ∧
    ((Powered (({ W with pwr := { seq := some { kind := 2, start := 0 } } } : State))) ∧ (((({ W with pwr := { seq := some { kind := 2, start := 0 } } } : State)).adv (usT 20)).pwr.seq = some (({ kind := 2, start := 0 } : PwrSeq))) ∧ ((({ kind := 2, start := 0 } : PwrSeq)).kind = 2) ∧ ((({ kind := 2, start := 0 } : PwrSeq)).rev = false) ∧ ((({ kind := 2, start := 0 } : PwrSeq)).start + usT 20 ≤ ((({ W with pwr := { seq := some { kind := 2, start := 0 } } } : State)).adv (usT 20)).now)) ∧
    ((Powered (({ W.wr PWR_STAT.STATE psS2 with pwr := { leadAt := some 0 } } : State))) ∧ (((({ W.wr PWR_STAT.STATE psS2 with pwr := { leadAt := some 0 } } : State)).adv 0).pwr.leadAt = some 0) ∧ (0 ≤ ((({ W.wr PWR_STAT.STATE psS2 with pwr := { leadAt := some 0 } } : State)).adv 0).now) ∧ (((({ W.wr PWR_STAT.STATE psS2 with pwr := { leadAt := some 0 } } : State)).adv 0).pwrState = psS2)) ∧
    ((Powered (W.wr PWR_STAT.STATE psS3)) ∧ (1 ≤ 6) ∧ (6 ≤ 6) ∧ ((((W.wr PWR_STAT.STATE psS3).adv 0).pwrState = psS2 ∨ ((W.wr PWR_STAT.STATE psS3).adv 0).pwrState = psS3)) ∧ (((W.wr PWR_STAT.STATE psS3).adv 0).pwr.seq = none)) ∧
    ((Powered (({ W with pwr := { seq := some { kind := 3, start := 0 } } } : State))) ∧ (((({ W with pwr := { seq := some { kind := 3, start := 0 } } } : State)).adv (usT 50)).pwr.seq = some (({ kind := 3, start := 0 } : PwrSeq))) ∧ ((({ kind := 3, start := 0 } : PwrSeq)).kind = 3) ∧ ((({ kind := 3, start := 0 } : PwrSeq)).start + usT 50 ≤ ((({ W with pwr := { seq := some { kind := 3, start := 0 } } } : State)).adv (usT 50)).now)) := 
  ⟨by decide +kernel, by decide +kernel, by decide +kernel, by decide +kernel, by decide +kernel, by decide +kernel⟩

/-- The premises of PowerCommandsTakeEffect, clauses 13 on, are met together. -/
theorem test_meets_PowerCommandsTakeEffect_3 :
    ((Powered (({ W with pwr := { seq := some { kind := 4, start := 0 } } } : State))) ∧ (((({ W with pwr := { seq := some { kind := 4, start := 0 } } } : State)).adv (msT 2)).pwr.seq = some (({ kind := 4, start := 0 } : PwrSeq))) ∧ ((({ kind := 4, start := 0 } : PwrSeq)).kind = 4) ∧ ((({ kind := 4, start := 0 } : PwrSeq)).start + msT 2 ≤ ((({ W with pwr := { seq := some { kind := 4, start := 0 } } } : State)).adv (msT 2)).now)) ∧
    ((Powered (({ W with pwr := { seq := some { kind := 2, start := 0, rev := true } } } : State))) ∧ (((({ W with pwr := { seq := some { kind := 2, start := 0, rev := true } } } : State)).adv 0).pwr.seq = some (({ kind := 2, start := 0, rev := true } : PwrSeq))) ∧ ((({ kind := 2, start := 0, rev := true } : PwrSeq)).rev = true)) ∧
    ((Powered (({ W with pwr := { doms := [(8, { up := true, start := 0, rev := true })] } } : State))) ∧ (8 ≠ 9) ∧ (SMap.find ((({ W with pwr := { doms := [(8, { up := true, start := 0, rev := true })] } } : State)).adv 0).pwr.doms 8 = some (({ up := true, start := 0, rev := true } : DomSeq))) ∧ ((({ up := true, start := 0, rev := true } : DomSeq)).rev = true)) ∧
    ((Powered W) ∧ ((W.adv 0).pwr.goingOff = false)) ∧
    ((Powered (W.wr PWR_PERF.MODE 1)) ∧ ((((W.wr PWR_PERF.MODE 1).adv 0).wr PWR_AVS_TGT.TGT_MV 850).on PWR_PERF.MODE = true)) ∧
    ((Powered W) ∧ (((W.adv 0).wr PWR_AVS_TGT.TGT_MV 850).on PWR_PERF.MODE = false)) := 
  ⟨by decide +kernel, by decide +kernel, by decide +kernel, by decide +kernel, by decide +kernel, by decide +kernel⟩

/-- The premises of PowerCommandsTakeEffect, clauses 19 on, are met together. -/
theorem test_meets_PowerCommandsTakeEffect_4 :
    ((Powered W)) ∧
    ((Powered (({ W with pwr := { avs := some { mv := 700, issued := 0 } } } : State))) ∧ (((({ W with pwr := { avs := some { mv := 700, issued := 0 } } } : State)).adv 0).pwr.avs = some (({ mv := 700, issued := 0 } : AvsWrite))) ∧ ((({ mv := 700, issued := 0 } : AvsWrite)).acked = none)) ∧
    ((Powered (({ W with pwr := { avs := some { mv := 700, issued := 0, acked := some 0 } } } : State))) ∧ (((({ W with pwr := { avs := some { mv := 700, issued := 0, acked := some 0 } } } : State)).adv (usT 20)).pwr.avs = some (({ mv := 700, issued := 0, acked := some 0 } : AvsWrite))) ∧ ((({ mv := 700, issued := 0, acked := some 0 } : AvsWrite)).acked.isSome = true) ∧ ((({ mv := 700, issued := 0, acked := some 0 } : AvsWrite)).readAt + usT 20 ≤ ((({ W with pwr := { avs := some { mv := 700, issued := 0, acked := some 0 } } } : State)).adv (usT 20)).now)) ∧
    ((Powered (({ W with pwr := { avs := some { mv := 700, issued := 0 } } } : State))) ∧ (((({ W with pwr := { avs := some { mv := 700, issued := 0 } } } : State)).adv 0).pwr.avs = some (({ mv := 700, issued := 0 } : AvsWrite))) ∧ ((({ mv := 700, issued := 0 } : AvsWrite)).acked = none) ∧ ((2 = 1 ∨ 2 = 2))) ∧
    ((Powered (W.wr PWR_STAT.FALLBACK 1)) ∧ (((W.wr PWR_STAT.FALLBACK 1).adv (msT 100)).on PWR_STAT.FALLBACK = true) ∧ (((W.wr PWR_STAT.FALLBACK 1).adv (msT 100)).pwr.fallRead + msT 100 ≤ ((W.wr PWR_STAT.FALLBACK 1).adv (msT 100)).now)) ∧
    ((Powered (W.wr PWR_STAT.FALLBACK 1)) ∧ (((W.wr PWR_STAT.FALLBACK 1).adv 0).on PWR_STAT.FALLBACK = true) ∧ (((W.wr PWR_STAT.FALLBACK 1).adv 0).rd PWR_FREQ.VMIN_FULL + 15 ≤ 1000) ∧ ((((W.wr PWR_STAT.FALLBACK 1).adv 0).vmonReg 1000).on PWR_FREQ.FORCE_HALF = false)) := 
  ⟨by decide +kernel, by decide +kernel, by decide +kernel, by decide +kernel, by decide +kernel, by decide +kernel⟩

/-- The premises of PowerCommandsTakeEffect, clauses 25 on, are met together. -/
theorem test_meets_PowerCommandsTakeEffect_5 :
    ((Powered (W.wr PWR_WAKE_CFG.EN 1 7)) ∧ (7 < 8) ∧ (((W.wr PWR_WAKE_CFG.EN 1 7).adv 0).on PWR_WAKE_CFG.LEVEL 7 = false) ∧ ((((W.wr PWR_WAKE_CFG.EN 1 7).adv 0).wr PWR_WAKE_CFG.LEVEL 1 7).on PWR_WAKE_CFG.EN 7 = true)) ∧
    ((Powered W) ∧ (7 < 8)) := 
  ⟨by decide +kernel, by decide +kernel⟩

/-- The premises of HostInterfaceCommandsTakeEffect, clauses 1 on, are met together. -/
theorem test_meets_HostInterfaceCommandsTakeEffect_1 :
    ((Powered W) ∧ (0 < 16384)) ∧
    ((Powered W) ∧ (0 < 1)) ∧
    ((Powered W) ∧ (0 < 1)) ∧
    ((Powered W) ∧ (0x3FFFFFC < 0x4000000)) ∧
    ((Powered eventHeld) ∧ ((eventHeld.adv (secT 1)).hif.evFirst + usT (10 * orOne ((eventHeld.adv (secT 1)).rd HIF_EVT_CFG.FLUSH_US)) ≤ (eventHeld.adv (secT 1)).now) ∧ ((eventHeld.adv (secT 1)).hif.evBuf ≠ [])) ∧
    ((Powered eventHeld) ∧ ((eventHeld.adv 0).hif.evBuf ≠ [])) := 
  ⟨by decide +kernel, by decide +kernel, by decide +kernel, by decide +kernel, by decide +kernel, by decide +kernel⟩

/-- The premises of HostInterfaceCommandsTakeEffect, clauses 7 on, are met together. -/
theorem test_meets_HostInterfaceCommandsTakeEffect_2 :
    ((Powered (W.wr HIF_STATS_CFG.PERIOD_S 1)) ∧ (((W.wr HIF_STATS_CFG.PERIOD_S 1).adv (secT 100)).rd HIF_STATS_CFG.PERIOD_S ≠ 0) ∧ (((W.wr HIF_STATS_CFG.PERIOD_S 1).adv (secT 100)).hif.snapLast + secT (((W.wr HIF_STATS_CFG.PERIOD_S 1).adv (secT 100)).rd HIF_STATS_CFG.PERIOD_S) ≤ ((W.wr HIF_STATS_CFG.PERIOD_S 1).adv (secT 100)).now)) ∧
    ((Powered W)) ∧
    ((Powered vectorDue) ∧ (15 < 16) ∧ (((vectorDue.adv (secT 1)).vecHost 15 0 false false).vecDue 15 = true) ∧ (((vectorDue.adv (secT 1)).vecHost 15 0 false false).hif.held.contains 15 = false)) ∧
    ((Powered vectorDue) ∧ (15 < 16) ∧ (((vectorDue.adv (secT 1)).vecHost 15 0 true false).vecDue 15 = true) ∧ (((vectorDue.adv (secT 1)).vecHost 15 0 true false).hif.held.contains 15 = false)) ∧
    ((Powered (({ vectorDue with hif := { vectorDue.hif with held := [15] } } : State))) ∧ (15 < 16) ∧ (((({ vectorDue with hif := { vectorDue.hif with held := [15] } } : State)).adv 0).hif.held.contains 15 = true) ∧ ((({ ((({ vectorDue with hif := { vectorDue.hif with held := [15] } } : State)).adv 0) with hif := { ((({ vectorDue with hif := { vectorDue.hif with held := [15] } } : State)).adv 0).hif with masked := ((({ vectorDue with hif := { vectorDue.hif with held := [15] } } : State)).adv 0).hif.masked.erase 15, held := ((({ vectorDue with hif := { vectorDue.hif with held := [15] } } : State)).adv 0).hif.held.erase 15 } } : State).vecPend 15).isEmpty = false) ∧ (((({ vectorDue with hif := { vectorDue.hif with held := [15] } } : State)).adv 0).rd HIF_STAT.DSTATE = 0)) ∧
    ((Powered W)) := 
  ⟨by decide +kernel, by decide +kernel, by decide +kernel, by decide +kernel, by decide +kernel, by decide +kernel⟩

/-- The premises of HostInterfaceCommandsTakeEffect, clauses 13 on, are met together. -/
theorem test_meets_HostInterfaceCommandsTakeEffect_3 :
    ((Powered W) ∧ ((W.adv (msT 100)).hif.downSince = some 0) ∧ ((W.adv (msT 100)).hif.downDone = false) ∧ (0 + msT 100 ≤ (W.adv (msT 100)).now)) ∧
    ((Powered (W.wr HIF_STAT.LINK_UP 1)) ∧ (((W.wr HIF_STAT.LINK_UP 1).adv 0).on HIF_STAT.LINK_UP = true)) ∧
    ((Powered up) ∧ ((up.adv 0).on HIF_STAT.LINK_UP = false) ∧ ((up.adv 0).rep 0x13 ≠ stOff)) := 
  ⟨by decide +kernel, by decide +kernel, by decide +kernel⟩

/-- The premises of BaselineCommandsTakeEffect, clauses 1 on, are met together. -/
theorem test_meets_BaselineCommandsTakeEffect_1 :
    ((Powered ((up.wr BLN_PORT_STAT.STATE psTraining 1).wr BLN_PORT_CTL.EN 1 1)) ∧ (1 < 2) ∧ ((((up.wr BLN_PORT_STAT.STATE psTraining 1).wr BLN_PORT_CTL.EN 1 1).adv 0).portState 1 = psTraining) ∧ ((((up.wr BLN_PORT_STAT.STATE psTraining 1).wr BLN_PORT_CTL.EN 1 1).adv 0).on BLN_PORT_CTL.EN 1 = true) ∧ (((((up.wr BLN_PORT_STAT.STATE psTraining 1).wr BLN_PORT_CTL.EN 1 1).adv 0).rep 0x14 = stInit ∨ (((up.wr BLN_PORT_STAT.STATE psTraining 1).wr BLN_PORT_CTL.EN 1 1).adv 0).rep 0x14 = stRun))) ∧
    ((Powered (W.wr BLN_PORT_STAT.STATE psTraining 1)) ∧ (1 < 2) ∧ (((W.wr BLN_PORT_STAT.STATE psTraining 1).adv 0).portState 1 = psTraining)) ∧
    ((Powered (W.wr BLN_PORT_STAT.STATE psPairing 1)) ∧ (1 < 2) ∧ (((W.wr BLN_PORT_STAT.STATE psPairing 1).adv 0).portState 1 = psPairing) ∧ ((((W.wr BLN_PORT_STAT.STATE psPairing 1).adv 0).blnPort 1).paired = false)) ∧
    ((Powered (W.wr BLN_PORT_STAT.STATE psUp 1)) ∧ (1 < 2) ∧ (7 < 8) ∧ (((W.wr BLN_PORT_STAT.STATE psUp 1).adv 0).portState 1 = psUp) ∧ ((decide (((W.wr BLN_PORT_STAT.STATE psUp 1).adv 0).portState 1 = psPairing) && (((W.wr BLN_PORT_STAT.STATE psUp 1).adv 0).blnPort 1).paired && decide (7 = ((W.wr BLN_PORT_STAT.STATE psUp 1).adv 0).rd BLN_PORT_STAT.PEER_DEV 1)) = false)) ∧
    ((Powered linked) ∧ (1 < 2) ∧ ((linked.adv 0).portAuth 1 = true) ∧ ((linked.adv 0).on BLN_STAT.MASTER_STRAP = false)) ∧
    ((Powered linked) ∧ (1 < 2) ∧ ((linked.adv 0).portState 1 = psUp)) := 
  ⟨by decide +kernel, by decide +kernel, by decide +kernel, by decide +kernel, by decide +kernel, by decide +kernel⟩

/-- The premises of BaselineCommandsTakeEffect, clauses 7 on, are met together. -/
theorem test_meets_BaselineCommandsTakeEffect_2 :
    ((Powered linked) ∧ (1 < 2) ∧ ((linked.adv 0).portState 1 = psUp)) ∧
    ((Powered linked) ∧ (1 < 2) ∧ ((linked.adv (secT 1)).portState 1 = psUp) ∧ (((linked.adv (secT 1)).blnPort 1).lastFrame + 3 * usT (clampTo 10 1000 ((linked.adv (secT 1)).rd BLN_TIME_CFG.SYNC_PERIOD)) ≤ (linked.adv (secT 1)).now)) ∧
    ((Powered (W.wr BLN_PORT_STAT.STATE psRefused 1)) ∧ (1 < 2) ∧ (((W.wr BLN_PORT_STAT.STATE psRefused 1).adv (secT 100)).portState 1 = psRefused) ∧ ((((W.wr BLN_PORT_STAT.STATE psRefused 1).adv (secT 100)).blnPort 1).since + msT (orOne (((W.wr BLN_PORT_STAT.STATE psRefused 1).adv (secT 100)).rd BLN_LINK_CFG.RETRY_MS)) ≤ ((W.wr BLN_PORT_STAT.STATE psRefused 1).adv (secT 100)).now)) ∧
    ((Powered W) ∧ (1 < 2)) ∧
    ((Powered linked) ∧ (1 < 2) ∧ ((linked.adv 0).portAuth 1 = true)) ∧
    ((Powered linked) ∧ (1 < 2) ∧ ((linked.adv 0).portAuth 1 = true)) := 
  ⟨by decide +kernel, by decide +kernel, by decide +kernel, by decide +kernel, by decide +kernel, by decide +kernel⟩

/-- The premises of BaselineCommandsTakeEffect, clauses 13 on, are met together. -/
theorem test_meets_BaselineCommandsTakeEffect_3 :
    ((Powered linked) ∧ (1 < 2) ∧ ((linked.adv 0).portAuth 1 = true)) ∧
    ((Powered linked) ∧ (1 < 2) ∧ ((linked.adv 0).portAuth 1 = true)) ∧
    ((Powered linked) ∧ (1 < 2) ∧ ((linked.adv 0).portState 1 = psUp)) ∧
    ((Powered memberSeen) ∧ ((memberSeen.adv 0).on BLN_RACC_CTL.BUSY = false) ∧ ((memberSeen.adv 0).rd BLN_RACC_CTL.DEV ≠ (memberSeen.adv 0).device) ∧ (((memberSeen.adv 0).bump BLN_CNT_RACC.COUNT).blnReach ((memberSeen.adv 0).rd BLN_RACC_CTL.DEV) = true)) ∧
    ((Powered linked) ∧ (1 < 2) ∧ ((linked.adv 0).portAuth 1 = true) ∧ (0 = ((linked.adv 0).blnHeard 1 7 false).device) ∧ ((((linked.adv 0).blnHeard 1 7 false).noteReq 1 7 0x14 0 0).rd BLN_STAT.STATE ≠ 1) ∧ (1 = (((linked.adv 0).blnHeard 1 7 false).noteReq 1 7 0x14 0 0).rd SYS_UNIT_STATE.EPOCH 0x14)) ∧
    ((Powered (({ W with bln := { racc := some (9, 0) } } : State))) ∧ (((({ W with bln := { racc := some (9, 0) } } : State)).adv (usT 10)).bln.racc = some (9, 0)) ∧ (0 + usT 10 ≤ ((({ W with bln := { racc := some (9, 0) } } : State)).adv (usT 10)).now)) := 
  ⟨by decide +kernel, by decide +kernel, by decide +kernel, by decide +kernel, by decide +kernel, by decide +kernel⟩

/-- The premises of ManagementAndMonitorCommandsTakeEffect, clauses 1 on, are met together. -/
theorem test_meets_ManagementAndMonitorCommandsTakeEffect_1 :
    ((Powered (W.wr MGT_STAT.DA 9)) ∧ (((W.wr MGT_STAT.DA 9).adv 0).on MGT_STAT.SMBUS = false) ∧ (((W.wr MGT_STAT.DA 9).adv 0).on MGT_STAT.DA = true) ∧ (([0, 0, 0, 0, 0, 0, 0]).length = 7)) ∧
    ((Powered W) ∧ (([0, 0, 0, 0, 0, 0, 0]).length = 7)) ∧
    ((Powered W) ∧ (16 ≤ 16)) ∧
    ((Powered ((W.wr MGT_STAT.DA 9).wr PWR_STAT.STATE 0)) ∧ ((((W.wr MGT_STAT.DA 9).wr PWR_STAT.STATE 0).adv 0).on MGT_STAT.SMBUS = false) ∧ ((((W.wr MGT_STAT.DA 9).wr PWR_STAT.STATE 0).adv 0).on MGT_STAT.DA = true) ∧ (16 ≤ 16) ∧ ((((W.wr MGT_STAT.DA 9).wr PWR_STAT.STATE 0).adv 0).nacks 0 16 = false)) ∧
    ((Powered W) ∧ ((W.adv 0).on MGT_STAT.SMBUS = false)) ∧
    ((Powered W) ∧ ((W.adv 0).on MGT_STAT.SMBUS = false)) := 
  ⟨by decide +kernel, by decide +kernel, by decide +kernel, by decide +kernel, by decide +kernel, by decide +kernel⟩

/-- The premises of ManagementAndMonitorCommandsTakeEffect, clauses 7 on, are met together. -/
theorem test_meets_ManagementAndMonitorCommandsTakeEffect_2 :
    ((Powered W) ∧ ((W.adv 0).on MGT_STAT.SMBUS = false)) ∧
    ((Powered W) ∧ ((W.adv 0).on MGT_STAT.SMBUS = false) ∧ ((W.adv 0).on MGT_STAT.DA = false)) ∧
    ((Powered W) ∧ ((W.adv 0).on MGT_STAT.SMBUS = false) ∧ ((W.adv 0).on MGT_STAT.DA = false)) ∧
    ((Powered (W.wr MGT_STAT.DA 9)) ∧ (((W.wr MGT_STAT.DA 9).adv 0).on MGT_STAT.SMBUS = false) ∧ (((W.wr MGT_STAT.DA 9).adv 0).on MGT_STAT.DA = true)) ∧
    ((Powered (W.wr MGT_I3C_CFG.HJ_EN 1)) ∧ (((W.wr MGT_I3C_CFG.HJ_EN 1).adv 0).on MGT_STAT.SMBUS = false) ∧ (((W.wr MGT_I3C_CFG.HJ_EN 1).adv 0).on MGT_I3C_CFG.HJ_EN = true) ∧ (((W.wr MGT_I3C_CFG.HJ_EN 1).adv 0).mgt.hj = true) ∧ (((W.wr MGT_I3C_CFG.HJ_EN 1).adv 0).on MGT_STAT.DA = false)) ∧
    ((Powered (({ W with mgt := { alert := true } } : State).wr MGT_STAT.SMBUS 1)) ∧ (((({ W with mgt := { alert := true } } : State).wr MGT_STAT.SMBUS 1).adv 0).legacy.mgt.alert = true)) := 
  ⟨by decide +kernel, by decide +kernel, by decide +kernel, by decide +kernel, by decide +kernel, by decide +kernel⟩

/-- The premises of ManagementAndMonitorCommandsTakeEffect, clauses 13 on, are met together. -/
theorem test_meets_ManagementAndMonitorCommandsTakeEffect_3 :
    ((Powered W) ∧ (0xFFFFFFFF < 2 ^ 32)) ∧
    ((Powered W) ∧ (8191 < 2 ^ 13)) ∧
    ((Powered mismatched) ∧ (5 < 24) ∧ (reconNever 5 = false) ∧ (bit ((mismatched.adv (secT 100)).rd MGT_RECON_CFG.UNITS) 5 = true) ∧ (bit ((mismatched.adv (secT 100)).rd MGT_RECON_STAT.GAVE_UP) 5 = false) ∧ ((mismatched.adv (secT 100)).on SYS_UNIT_STATE.MISMATCH 5 = true) ∧ (((mismatched.adv (secT 100)).unitS 5).missFrom + msT (orOne ((mismatched.adv (secT 100)).rd MGT_RECON_TIME.RECON_MS)) ≤ (mismatched.adv (secT 100)).now) ∧ ((mismatched.adv (secT 100)).rep 5 = stRun) ∧ (SMap.get (mismatched.adv (secT 100)).mgt.made 5 [] = []) ∧ (1 ≤ (mismatched.adv (secT 100)).rd MGT_RECON_TIME.RECON_MAX)) ∧
    ((Powered W) ∧ (2 < 3)) ∧
    ((Powered up) ∧ ((up.adv 0).rep 0x16 ≠ stReset) ∧ ((up.adv 0).eye.held = none) ∧ ((up.adv 0).eye.busy = false)) ∧
    ((Powered W) ∧ (0 + secT 1 ≤ (W.adv (secT 1)).now) ∧ ((W.adv (secT 1)).eye.held = none)) := 
  ⟨by decide +kernel, by decide +kernel, by decide +kernel, by decide +kernel, by decide +kernel, by decide +kernel⟩

/-- The premises of ManagementAndMonitorCommandsTakeEffect, clauses 19 on, are met together. -/
theorem test_meets_ManagementAndMonitorCommandsTakeEffect_4 :
    ((Powered (({ W with eye := { grantEnd := some 0 } } : State))) ∧ (((({ W with eye := { grantEnd := some 0 } } : State)).adv 0).eye.grantEnd = some 0) ∧ (0 ≤ ((({ W with eye := { grantEnd := some 0 } } : State)).adv 0).now) ∧ (((({ W with eye := { grantEnd := some 0 } } : State)).adv 0).eye.held = none)) ∧
    ((railResets 6 2899 = true)) ∧
    ((Powered aonUp) ∧ (railResets 6 2900 = false) ∧ (6 < 7) ∧ ((aonUp.adv 0).railOn 6 = true)) ∧
    ((Powered W) ∧ (2500 ≤ 2500) ∧ ((W.adv 0).rd PIN_VHOLD.CAP_UF = 0) ∧ (120 ≤ 20 * 3000 / (3000 - max 1000 2500))) ∧
    ((Powered W) ∧ (2500 ≤ 2500) ∧ ((W.adv 0).rd PIN_VHOLD.CAP_UF = 0) ∧ (20 * 2999 / (3000 - max 1000 2500) < 120)) ∧
    ((Powered W)) := 
  ⟨by decide +kernel, by decide +kernel, by decide +kernel, by decide +kernel, by decide +kernel, by decide +kernel⟩

/-- The premises of ManagementAndMonitorCommandsTakeEffect, clauses 25 on, are met together. -/
theorem test_meets_ManagementAndMonitorCommandsTakeEffect_5 :
    ((Powered W) ∧ (1 ≠ 0)) := by decide +kernel

/-- The premises of DataReadsTakeEffect, clauses 1 on, are met together. -/
theorem test_meets_DataReadsTakeEffect_1 :
    ((Powered W) ∧ (19 < 20) ∧ (((Instr.mgtFndDataRead 0 19 true), MGT_FND_DATA.DATA.off) ∈ [(Instr.sesCtxDataRead 0 19 true, SES_CTX_DATA.DATA.off), (Instr.ephRecDataRead 0 19 true, EPH_REC_DATA.DATA.off), (Instr.shuRelDataRead 0 19 true, SHU_REL_DATA.DATA.off), (Instr.helCmDataRead 0 19 true, HEL_CM_DATA.RE.off), (Instr.almAncDataRead 0 19 true, ALM_ANC_DATA.DATA.off), (Instr.almRegDataRead 0 19 true, ALM_REG_DATA.DATA.off), (Instr.almResDataRead 0 19 true, ALM_RES_DATA.USED.off), (Instr.astScriptDataRead 0 19 true, AST_SCRIPT_DATA.DATA.off), (Instr.memRemapDataRead 0 19 true, MEM_REMAP_DATA.VALID.off), (Instr.memLogDataRead 0 19 true, MEM_LOG_DATA.DATA.off), (Instr.bootFuseDataRead 0 19 true, BOOT_FUSE_DATA.DATA.off), (Instr.hifFlagDataRead 0 19 true, HIF_FLAG_DATA.FLAGS.off), (Instr.mgtFndDataRead 0 19 true, MGT_FND_DATA.DATA.off)])) ∧
    ((Powered W) ∧ (19 < 20)) := 
  ⟨by decide +kernel, by decide +kernel⟩

/-- The premise of StepRunsTheFrontCommand is met at reset. -/
theorem test_meets_StepRunsTheFrontCommand : W.pending = [] := by decide

/-- The premises of NoSupplyNoEffect are met together. -/
theorem test_meets_NoSupplyNoEffect :
    dark.pwr.off = true ∧ (∀ pin x, Instr.nop 0 0 ≠ .deviceReset pin x) := by
  exact ⟨by decide, by intros; simp⟩

/-- The premises of WaitingCommandsStayWellFormed are met together. -/
theorem test_meets_WaitingCommandsStayWellFormed :
    QueueOk (W.withQueue [.nop 0 15]) ∧ step (W.withQueue [.nop 0 15]) = exec (.nop 0 15) (W.withQueue []) := ⟨by decide, rfl⟩

/-- The premises of EpochsFollowR34 are met at the last epoch. -/
theorem test_meets_EpochsFollowR34 :
    23 < 24 ∧ SMap.wf (W.wr SYS_UNIT_STATE.EPOCH 0xFFFF 23).regs = true ∧
      (W.wr SYS_UNIT_STATE.EPOCH 0xFFFF 23).rd SYS_UNIT_STATE.EPOCH 23 = 0xFFFF := by decide

/-- The premises of CivilTimeAcrossWraps are met at reset. -/
theorem test_meets_CivilTimeAcrossWraps : W.mer.rem = 0 ∧ W.mer.era < 256 := by decide

/-- The premises of MeridianNeverRunsBackward are met at the last count. -/
theorem test_meets_MeridianNeverRunsBackward : W.now ≤ 2 ^ 64 - 1 ∧ 2 ^ 64 - 1 < 2 ^ 64 ∧ W.now < 2 ^ 64 := by decide

/-- The premises of RegisterReadsShowOnlyTheirFields are met together. -/
theorem test_meets_RegisterReadsShowOnlyTheirFields :
    23 < 24 ∧ PIN_CTL.REG ∈ regsOf 23 ∧ bit ((W.wr PIN_CTL.LOCK 1).shown 23 PIN_CTL.REG 0 0) PIN_CTL.LOCK.lo = true ∧
      findReg 0x17FFFC = none := by decide

/-- The premises of FieldsFollowTheirAccessCodes are met together. -/
theorem test_meets_FieldsFollowTheirAccessCodes :
    HEL_IRQ_STAT.REG.flds.all (fun f => f.has 0 0 && decide (f.lo ≤ f.hi) && decide (W.rd f < 2 ^ f.width) &&
      decide (f.rstAt 0 < 2 ^ f.width)) = true ∧ SMap.wf W.regs = true := by decide

/-- The premises of PrivilegedAccessesWithoutAGrant are met together. -/
theorem test_meets_PrivilegedAccessesWithoutAGrant :
    W.viewReason (min 19 4) (0x17FFFC / 65536) = some 1 ∧ 0x17FFFC % 4 = 0 ∧ SMap.wf W.regs = true ∧
      W.rd HIF_VIEW_VIOL.COUNT (min 19 4) < 2 ^ 32 := by decide

/-- The premises of DivisionsFollowR436 are met together. -/
theorem test_meets_DivisionsFollowR436 :
    ((0xFFFFFFFF : BitVec 32) ≠ 0) ∧ (runningK 15 0 { psw := 2 ^ pbTRAPDZ }).gr 15 15 = 0 ∧
      ((runningK 15 0 { psw := 2 ^ pbTRAPDZ }).core 15).flag pbTRAPDZ = true ∧ (W.core 15).flag pbTRAPDZ = false := by decide

/-- The premises of each clause of ShiftsFollowR437 are met. -/
theorem test_meets_ShiftsFollowR437 :
    64 % 64 = 0 ∧ 1 ≤ 95 % 64 ∧ 95 % 64 ≤ 31 ∧ 96 % 64 = 32 ∧ 33 ≤ 127 % 64 := by decide

/-- The premises of RegisterInstructionsKeepTheRest are met together. -/
theorem test_meets_RegisterInstructionsKeepTheRest :
    Powered (running 15 (encR 0 0 15 15 15 0)) ∧ Runs ((running 15 (encR 0 0 15 15 15 0)).adv 0) 15 (encR 0 0 15 15 15 0) ∧
      ((running 15 0).core 15).flag pbTRAPDZ = false ∧
      exec (.add 0 15 15 15 15) (running 15 (encR 0 0 15 15 15 0)) =
        execAdd 0 15 15 15 15 (running 15 (encR 0 0 15 15 15 0)) := by
  refine ⟨by decide, by decide, by decide, rfl⟩

/-- The premises of StoresKeepEveryOtherByte are met at the last byte of Y. -/
theorem test_meets_StoresKeepEveryOtherByte :
    Powered (running 15 (encI 0x17 15 15 65535)) ∧ Runs ((running 15 (encI 0x17 15 15 65535)).adv 0) 15 (encI 0x17 15 15 65535) ∧
      SMap.wf ((running 15 0).core 15).data = true ∧ dataOk ((running 15 (encI 0x17 15 15 65535)).ea 15 15 65535) 1 = true := by
  decide

/-- The premises of LoadsAndComparesStoreNothing are met together. -/
theorem test_meets_LoadsAndComparesStoreNothing :
    Powered (running 15 (encI 0x10 15 15 0)) ∧ Runs ((running 15 (encI 0x10 15 15 0)).adv 0) 15 (encI 0x10 15 15 0) := by decide

/-- The premises of ExceptionEntryFollowsR458 are met at both ends of the window, and outside it. -/
theorem test_meets_ExceptionEntryFollowsR458 :
    ((stackAt 0x10000).core 15).stackOk = true ∧ ((stackAt 16).core 15).stackOk = true ∧ ((stackAt 12).core 15).stackOk = false ∧
      ((stackAt 0x10000).core 15).g.length = 16 ∧ (stackAt 0x10000).gr 15 14 ≤ 0x10000 ∧
      SMap.wf ((stackAt 0x10000).core 15).data = true := by decide

/-- The premises of ReturnUndoesExceptionEntry are met together. -/
theorem test_meets_ReturnUndoesExceptionEntry :
    ((stackAt 0x10000).core 15).stackOk = true ∧ ((stackAt 0x10000).core 15).g.length = 16 ∧
      (stackAt 0x10000).gr 15 14 ≤ 0x10000 ∧ ((stackAt 0x10000).core 15).stkhi ≤ 0x10000 ∧
      ((stackAt 0x10000).core 15).psw < 2 ^ 24 ∧ bit ((stackAt 0x10000).core 15).psw 7 = false ∧
      SMap.wf ((stackAt 0x10000).core 15).data = true ∧
      (((stackAt 0x10000).coreEnter 15 0x17 255 0xFFFFFFFF 0xFFFFFFFF).dataRead 15 0xFFF0 16).1 = false := by decide

/-- The premises of BytesStoredReadBack are met at the ends of the memory. -/
theorem test_meets_BytesStoredReadBack :
    4 ∈ [1, 2, 4] ∧ dataOk 0xFFFC 4 = true ∧ dataOk 0 1 = true ∧ (0 + 1 ≤ 0xFFFC) ∧ SMap.wf ({} : Core).data = true := by decide

/-- The premises of CodewordErrorsAreMetOnce are met in turn. -/
theorem test_meets_CodewordErrorsAreMetOnce :
    W.cell 0x3E 0 = none ∧ (W.setCell 0x3E 0 (some (.ce 71))).cell 0x3E 0 = some (.ce 71) ∧
      SMap.wf (W.setCell 0x3E 0 (some (.ce 71))).mem.cells = true ∧ (W.setCell 0x40 0 (some .ue)).cell 0x40 0 = some .ue ∧
      (W.setCell 0 8191 (some .poison)).cell 0 8191 = some .poison := by decide

/-- The premise of MemoryAccessesKeepTheCellsCanonical is met with a cell listed. -/
theorem test_meets_MemoryAccessesKeepTheCellsCanonical :
    SMap.wf (W.setCell 0x40 0 (some .ue)).mem.cells = true := by decide

/-- The premises of EncodingsReachTheirOperations are met at the top of every range. -/
theorem test_meets_EncodingsReachTheirOperations :
    15 < 16 ∧ 2 ^ 18 - 1 < 2 ^ 18 ∧ 2 ^ 22 - 1 < 2 ^ 22 ∧ 2 ^ 26 - 1 < 2 ^ 26 ∧ 2 ^ 16 - 1 < 2 ^ 16 := by decide

/-- The premises of each clause of RepeatedInstructionsCountDown are met. -/
theorem test_meets_RepeatedInstructionsCountDown :
    (repOf 4095).flag pbREPA = true ∧ 1 < (repOf 4095).rc ∧ (repOf 1).rc ≤ 1 ∧ (repOf 4095).psw < 2 ^ 24 ∧
      ((runningK 15 0 (repOf 1)).coreFetch 15).isRight = true ∧ (W.core 15).flag pbREPA = false := by decide

/-- The premises of AccumulationIsExactModulo72Bits are met: two sums in a row complete. -/
theorem test_meets_AccumulationIsExactModulo72Bits :
    ∃ s1 s2, W.macOut 15 true 0 0xFFFFFFFF 0x80000000 = .done s1 ∧ s1.macOut 15 true 0 0 0 = .done s2 := ⟨_, _, rfl, rfl⟩

/-- The premises of each clause of RollingCounterCheckFollowsR301 are met at the ends of its range. -/
theorem test_meets_RollingCounterCheckFollowsR301 :
    (0xFFFFFFFF : Nat) < 2 ^ 32 ∧ (5 + 2 ^ 32 - 5) % 2 ^ 32 = 0 ∧ (0x80000000 + 2 ^ 32 - 0) % 2 ^ 32 = 0x80000000 ∧
      65536 < (65537 + 2 ^ 32 - 0) % 2 ^ 32 ∧ (1 + 2 ^ 32 - 0) % 2 ^ 32 ≤ W.rollWin ∧ W.rollWin < (65536 + 2 ^ 32 - 0) % 2 ^ 32 ∧
      resynced.shu.resync.any (fun e => decide (e.token = 7 ∧ e.ctr = 65535 ∧ resynced.now < e.stamp + secT 1)) = true := by decide

/-- The premises of AcceptedCountersAreNeverAcceptedAgain are met at the window's end and by a resync. -/
theorem test_meets_AcceptedCountersAreNeverAcceptedAgain :
    (W.rollJudge 7 0xFFFFFFFF 0 true).1 ≤ rcAcceptResync ∧ (resynced.rollJudge 7 0 65536 true).1 = rcAcceptResync := by decide

/-- The premises of each clause of FailuresLockAToken are met. -/
theorem test_meets_FailuresLockAToken :
    (W.afterFailure 0).1 < (W.wr SHU_LOCK_CFG.FAIL_MAX 2).failMax ∧
      (W.wr SHU_LOCK_CFG.FAIL_MAX 1).failMax ≤ ((W.wr SHU_LOCK_CFG.FAIL_MAX 1).afterFailure 0).1 ∧
      W.civilMin % 2 ^ 24 = (W.civilMin + 0) % 2 ^ 24 := by decide

/-- The premises of WindowSlotsChangeHandsByRule are met with slots listed. -/
theorem test_meets_WindowSlotsChangeHandsByRule :
    SMap.wf ((W.setFlag 16383 slotHost).setFlag 0 slotDevice).hif.flags = true ∧
      (∀ p ∈ ((W.setFlag 16383 slotHost).setFlag 0 slotDevice).hif.flags, p.2 ≠ slotNobody) := by decide

/-- The premises of SerialOrderIsAsymmetric are met at half the range. -/
theorem test_meets_SerialOrderIsAsymmetric :
    1 ≤ 24 ∧ 2 ^ 24 - 1 < 2 ^ 24 ∧ 2 ^ 23 - 1 = (2 ^ 24 - 1 + 2 ^ (24 - 1)) % 2 ^ 24 := by decide

end Sys2Proof.Tests
end

section
/-! PROOFS. Bits of numbers and of fields. -/

namespace Sys2Proof.Machine

/-- Numbers that share no bit add up to their union. -/
theorem nat_add_eq_or {x y : Nat} (h : x &&& y = 0) : x + y = x ||| y := by
  have hx : x < 2 ^ (x + y) := lt_of_le_of_lt (Nat.le_add_right x y) Nat.lt_two_pow_self
  have hy : y < 2 ^ (x + y) := lt_of_le_of_lt (Nat.le_add_left y x) Nat.lt_two_pow_self
  have hand : BitVec.ofNat (x + y) x &&& BitVec.ofNat (x + y) y = 0#(x + y) := by
    rw [← BitVec.ofNat_and, h]
  have hsum := BitVec.toNat_add_of_and_eq_zero hand
  rw [BitVec.add_eq_or_of_and_eq_zero _ _ hand, BitVec.toNat_or] at hsum
  simpa [Nat.mod_eq_of_lt hx, Nat.mod_eq_of_lt hy] using hsum.symm

theorem bit_eq_testBit (w k : Nat) : bit w k = w.testBit k := Nat.testBit_eq_decide_div_mod_eq.symm

theorem bits_fld (f : Fld) (w : Nat) : bits w f.hi f.lo = w / 2 ^ f.lo % 2 ^ f.width := rfl

/-- Within n bits, the bits of a outside b are those of a in the complement of b. -/
theorem bitsWithout_eq_land_compl {a b n : Nat} (ha : a < 2 ^ n) (hb : b < 2 ^ n) :
    bitsWithout a b = Nat.land a (2 ^ n - 1 - b) := by
  have hcompl : ∀ k, (2 ^ n - 1 - b).testBit k = (decide (k < n) && !b.testBit k) := by
    intro k
    rw [Nat.sub_sub, Nat.add_comm 1 b, Nat.testBit_two_pow_sub_succ hb]
  have hdisj : (a &&& b) &&& (a &&& (2 ^ n - 1 - b)) = 0 := by
    refine Nat.eq_of_testBit_eq fun k => ?_
    simp only [Nat.testBit_and, hcompl, Nat.zero_testBit]
    cases b.testBit k <;> simp
  have hsplit : (a &&& b) + (a &&& (2 ^ n - 1 - b)) = a := by
    rw [nat_add_eq_or hdisj]
    refine Nat.eq_of_testBit_eq fun k => ?_
    simp only [Nat.testBit_or, Nat.testBit_and, hcompl]
    rcases Nat.lt_or_ge k n with hk | hk
    · cases b.testBit k <;> simp [hk]
    · simp [Nat.testBit_lt_two_pow (ha.trans_le (Nat.pow_le_pow_right Nat.two_pos hk))]
  exact Nat.sub_eq_of_eq_add' hsplit.symm

end Sys2Proof.Machine
end

section
/-! PROOFS. Every command answers a next state with the queue as it was (O29). -/

namespace Sys2Proof.Machine

/-- Every row answers through `State.answer`, so with the queue as it was: a happening does, and a row of a core, of a
window or of the monitor is a happening. Three rows choose between two such answers by a condition. -/
theorem exec_eq_answer (c : Instr) (s : State) : ∃ u, exec c s = s.answer u := by
  cases c with
  | railFault t rail mv x =>
    change ∃ u, execRailFault t rail mv x s = s.answer u
    unfold execRailFault
    split <;> exact ⟨_, rfl⟩
  | doneStep t core =>
    change ∃ u, execDoneStep t core s = s.answer u
    unfold execDoneStep
    split <;> exact ⟨_, rfl⟩
  | again t core =>
    change ∃ u, execAgain t core s = s.answer u
    unfold execAgain
    split <;> exact ⟨_, rfl⟩
  | _ => exact ⟨_, rfl⟩

theorem step_withQueue_cons (c : Instr) (rest : List Instr) (s : State) :
    step (s.withQueue (c :: rest)) = exec c (s.withQueue rest) := rfl

/-- Settles O29: the front command answers a next state that keeps the queue's rest. No rule of the spec stops the block,
and that no meaning answers a fault or a refusal is the model's choice (log entries 2 and 86). -/
theorem everyCommandCompletes : Obligations.EveryCommandCompletes := by
  unfold Obligations.EveryCommandCompletes
  intro c rest s
  obtain ⟨u, hu⟩ := exec_eq_answer c (s.withQueue rest)
  exact ⟨u.withQueue rest, (step_withQueue_cons c rest s).trans hu, rfl⟩

end Sys2Proof.Machine
end

section
/-! PROOFS. What a read of a register shows (O36). -/

namespace Sys2Proof.Machine

/-- Two fields of a register share no bit. -/
abbrev Fld.apart (f g : Fld) : Prop := g.hi < f.lo ∨ f.hi < g.lo

/-- In every register of every unit the fields lie within 32 bits and apart from each other (R9). -/
theorem regsOf_fields_apart : ∀ u < 24, ∀ r ∈ regsOf u, (∀ f ∈ r.flds, f.hi ≤ 31) ∧ r.flds.Pairwise Fld.apart := by
  decide

theorem shownFld_lt (s : State) (f : Fld) (i j : Nat) : s.shownFld f i j < 2 ^ f.width := by
  unfold State.shownFld
  split <;> exact Nat.mod_lt _ (Nat.two_pow_pos _)

/-- A value that fits a field, at the field's place, has bits of the field only. -/
theorem Fld.testBit_placed {f : Fld} {v k : Nat} (hv : v < 2 ^ f.width) (h : (v * 2 ^ f.lo).testBit k = true) :
    f.lo ≤ k ∧ k ≤ f.hi := by
  simp only [Nat.testBit_mul_two_pow, Bool.and_eq_true, decide_eq_true_eq] at h
  obtain ⟨hlo, hbit⟩ := h
  have hk : k - f.lo < f.width := by
    by_contra hge
    exact absurd hbit (by simp [Nat.testBit_lt_two_pow (hv.trans_le (Nat.pow_le_pow_right Nat.two_pos (not_lt.mp hge)))])
  exact ⟨hlo, by unfold Fld.width at hk; omega⟩

/-- The bits of a sum of fields that share no bit, added to a word that has none of their bits, are the word's bits and
bits of the fields. -/
theorem testBit_foldl_fields (v : Fld → Nat) (hv : ∀ f, v f < 2 ^ f.width) (l : List Fld) (hl : l.Pairwise Fld.apart)
    (a : Nat) (ha : ∀ f ∈ l, ∀ k, a.testBit k = true → k < f.lo ∨ f.hi < k) (k : Nat)
    (hk : (l.foldl (fun a f => a + v f * 2 ^ f.lo) a).testBit k = true) :
    a.testBit k = true ∨ ∃ f ∈ l, f.lo ≤ k ∧ k ≤ f.hi := by
  induction l generalizing a with
  | nil => exact .inl hk
  | cons f l ih =>
    obtain ⟨hf, hl⟩ := List.pairwise_cons.mp hl
    have hand : a &&& v f * 2 ^ f.lo = 0 := by
      refine Nat.eq_of_testBit_eq fun n => ?_
      rw [Nat.testBit_and, Nat.zero_testBit]
      by_contra hn
      simp only [Bool.not_eq_false, Bool.and_eq_true] at hn
      have hin := Fld.testBit_placed (hv f) hn.2
      have hout := ha f List.mem_cons_self n hn.1
      omega
    have hadd : ∀ n, (a + v f * 2 ^ f.lo).testBit n = true → a.testBit n = true ∨ f.lo ≤ n ∧ n ≤ f.hi := by
      intro n hn
      rw [nat_add_eq_or hand, Nat.testBit_or, Bool.or_eq_true] at hn
      exact hn.imp_right (Fld.testBit_placed (hv f))
    have hrest : ∀ g ∈ l, ∀ n, (a + v f * 2 ^ f.lo).testBit n = true → n < g.lo ∨ g.hi < n := by
      intro g hg n hn
      rcases hadd n hn with h | h
      · exact ha g (List.mem_cons_of_mem f hg) n h
      · have := hf g hg
        omega
    rcases ih hl _ hrest hk with h | ⟨g, hg, h⟩
    · exact (hadd k h).imp_right fun h => ⟨f, List.mem_cons_self, h⟩
    · exact .inr ⟨g, List.mem_cons_of_mem f hg, h⟩

/-- A bit that a read of a register shows lies in one of its fields that is not write-only (R9). -/
theorem shown_bit_in_field (s : State) {u : Nat} {r : Reg} (i j : Nat) {k : Nat} (hu : u < 24) (hr : r ∈ regsOf u)
    (hk : (s.shown u r i j).testBit k = true) : ∃ f ∈ r.flds, f.acc ≠ .WO ∧ f.lo ≤ k ∧ k ≤ f.hi := by
  have hapart := (regsOf_fields_apart u hu r hr).2.filter (fun f => f.acc != .WO)
  rcases testBit_foldl_fields _ (fun f => shownFld_lt _ f i j) _ hapart 0 (by simp) k hk with h | ⟨f, hf, hin⟩
  · simp at h
  · rw [List.mem_filter, bne_iff_ne] at hf
    exact ⟨f, hf.1, hf.2, hin⟩

theorem shown_lt (s : State) {u : Nat} {r : Reg} (i j : Nat) (hu : u < 24) (hr : r ∈ regsOf u) : s.shown u r i j < 2 ^ 32 := by
  refine Nat.lt_pow_two_of_testBit _ fun k hk => ?_
  by_contra h
  obtain ⟨f, hf, -, -, hhi⟩ := shown_bit_in_field s i j hu hr (Bool.not_eq_false _ ▸ h)
  have := (regsOf_fields_apart u hu r hr).1 f hf
  omega

theorem readReg_of_no_register (s : State) (priv : Bool) {off : Nat} (h : findReg off = none) : s.readReg priv off = (0, s) := by
  simp [State.readReg, h]

theorem regStore_of_no_register (s : State) (port : Nat) (priv : Bool) {off : Nat} (w : Nat) (h : findReg off = none) :
    s.regStore port priv off w = s := by
  simp [State.regStore, h]

/-- Settles O36: the fields of a register share no bit, so their sum is a union and shows no other bit (R9); an offset
without a register is ignored (R12). -/
theorem registerReadsShowOnlyTheirFields : Obligations.RegisterReadsShowOnlyTheirFields := by
  unfold Obligations.RegisterReadsShowOnlyTheirFields
  refine ⟨fun s u r i j k hu hr hk => ?_, fun s u r i j hu hr => shown_lt s i j hu hr,
    fun s priv off h => readReg_of_no_register s priv h, fun s port priv off w h => regStore_of_no_register s port priv w h⟩
  exact shown_bit_in_field s i j hu hr (bit_eq_testBit _ _ ▸ hk)

end Sys2Proof.Machine
end

section
/-! PROOFS. What a write leaves of a field, by its access code (O37). -/

namespace Sys2Proof.Machine

theorem State.rd_ite (p : Prop) [Decidable p] (s s' : State) (f : Fld) (i j : Nat) :
    (if p then s else s').rd f i j = if p then s.rd f i j else s'.rd f i j := by
  split <;> rfl

/-- A write of an expert field counts only at EXPERT (R18). -/
theorem storeField_RW (s : State) (u : Nat) {f : Fld} (i j w : Nat) (priv : Bool) (h : f.acc = .RW) :
    s.storeField u f i j w priv =
      if f.ex = true ∧ s.profileOf u ≠ profExpert then s else s.wr f (bits w f.hi f.lo) i j := by
  simp only [State.storeField, h]
  by_cases hex : f.ex = true <;> by_cases hp : s.profileOf u = profExpert <;> simp [hex, hp]

/-- A set lock bit freezes an RWL field (R11). -/
theorem storeField_RWL (s : State) (u : Nat) {f : Fld} (i j w : Nat) (priv : Bool) (h : f.acc = .RWL) :
    s.storeField u f i j w priv =
      if (f.ex = true ∧ s.profileOf u ≠ profExpert) ∨ s.locked u = true then s else s.wr f (bits w f.hi f.lo) i j := by
  simp only [State.storeField, h]
  by_cases hl : s.locked u = true <;> by_cases hex : f.ex = true <;> by_cases hp : s.profileOf u = profExpert <;>
    simp [hl, hex, hp]

theorem storeField_AUT (s : State) (u : Nat) {f : Fld} (i j w : Nat) (priv : Bool) (h : f.acc = .AUT) :
    s.storeField u f i j w priv = if priv then s.wr f (bits w f.hi f.lo) i j else s := by
  simp only [State.storeField, h]

theorem storeField_W1C (s : State) (u : Nat) {f : Fld} (i j w : Nat) (priv : Bool) (h : f.acc = .W1C) :
    s.storeField u f i j w priv = s.wr f (bitsWithout (s.rd f i j) (bits w f.hi f.lo)) i j := by
  simp only [State.storeField, h]

theorem storeField_W1S (s : State) (u : Nat) {f : Fld} (i j w : Nat) (priv : Bool) (h : f.acc = .W1S) :
    s.storeField u f i j w priv = s.wr f (Nat.lor (s.rd f i j) (bits w f.hi f.lo)) i j := by
  simp only [State.storeField, h]

theorem storeField_readOnly (s : State) (u : Nat) {f : Fld} (i j w : Nat) (priv : Bool)
    (h : f.acc = .RO ∨ f.acc = .WO ∨ f.acc = .FUS) : s.storeField u f i j w priv = s := by
  rcases h with h | h | h <;> simp only [State.storeField, h]

/-- Settles O37: the equation of the field's access code says what is stored, and a stored value that fits reads back. -/
theorem fieldsFollowTheirAccessCodes : Obligations.FieldsFollowTheirAccessCodes := by
  unfold Obligations.FieldsFollowTheirAccessCodes
  intro s u f i j w priv hhas _ hwf hold _ v old
  have hv : v < 2 ^ f.width := Nat.mod_lt _ (Nat.two_pow_pos _)
  have hput : ∀ x, x < 2 ^ f.width → (s.wr f x i j).rd f i j = x := fun x hx => by
    rw [State.rd_wr_self s f x i j hwf hhas, Nat.mod_eq_of_lt hx]
  cases hacc : f.acc with
  | RW => rw [storeField_RW s u i j w priv hacc, State.rd_ite, bits_fld, hput v hv]
  | RWL => rw [storeField_RWL s u i j w priv hacc, State.rd_ite, bits_fld, hput v hv]
  | AUT => rw [storeField_AUT s u i j w priv hacc, State.rd_ite, bits_fld, hput v hv]
  | W1C =>
    rw [storeField_W1C s u i j w priv hacc, bits_fld, bitsWithout_eq_land_compl hold hv]
    exact hput _ (lt_of_le_of_lt Nat.and_le_left hold)
  | W1S =>
    rw [storeField_W1S s u i j w priv hacc, bits_fld]
    exact hput _ (Nat.or_lt_two_pow hold hv)
  | RO => rw [storeField_readOnly s u i j w priv (.inl hacc)]
  | WO => rw [storeField_readOnly s u i j w priv (.inr (.inl hacc))]
  | FUS => rw [storeField_readOnly s u i j w priv (.inr (.inr hacc))]

end Sys2Proof.Machine
end

section
/-! PROOFS. View violations: what they count and what they leave alone (O38). -/

namespace Sys2Proof.Machine

/-- Two states differ in the register file and HIF's own state at most. -/
def State.differsInRegsAndHif (s s' : State) : Prop :=
  s' = { s with regs := s'.regs, persist := s'.persist, hif := s'.hif }

theorem State.differsInRegsAndHif.trans {s s' s'' : State} (h : s.differsInRegsAndHif s') (h' : s'.differsInRegsAndHif s'') :
    s.differsInRegsAndHif s'' := by
  unfold State.differsInRegsAndHif at *
  rw [h', h]

theorem State.differsInRegsAndHif.units {s s' : State} (h : s.differsInRegsAndHif s') :
    s'.ses = s.ses ∧ s'.dom = s.dom ∧ s'.mem = s.mem ∧ s'.fuse = s.fuse ∧ s'.plt = s.plt ∧ s'.boot = s.boot ∧
      s'.ast = s.ast ∧ s'.shu = s.shu := by
  unfold State.differsInRegsAndHif at h
  rw [h]
  exact ⟨rfl, rfl, rfl, rfl, rfl, rfl, rfl, rfl⟩

theorem State.wr_differsInRegs (s : State) (f : Fld) (v i j : Nat) : s.differsInRegsAndHif (s.wr f v i j) := by
  unfold State.differsInRegsAndHif State.wr
  split <;> rfl

theorem State.srcPend_differsInHif (s : State) (u : Nat) : s.differsInRegsAndHif (s.srcPend u) := by
  unfold State.differsInRegsAndHif State.srcPend
  split <;> rfl

/-- The interrupt of a view violation makes HIF's source pending when its enabled bit rises (R10, R616). -/
theorem State.irq_viewViol (s : State) : s.irq HIF_IRQ_STAT.VIEW_VIOL =
    if !s.on HIF_IRQ_STAT.VIEW_VIOL && s.on HIF_IRQ_STAT.VIEW_VIOL.enable then
      (s.wr HIF_IRQ_STAT.VIEW_VIOL 1).srcPend 0x13
    else s.wr HIF_IRQ_STAT.VIEW_VIOL 1 := rfl

theorem State.irq_viewViol_differs (s : State) : s.differsInRegsAndHif (s.irq HIF_IRQ_STAT.VIEW_VIOL) := by
  rw [State.irq_viewViol]
  split
  · exact (s.wr_differsInRegs _ _ _ _).trans (State.srcPend_differsInHif _ _)
  · exact s.wr_differsInRegs _ _ _ _

theorem State.rd_srcPend (s : State) (u : Nat) (f : Fld) (i j : Nat) : (s.srcPend u).rd f i j = s.rd f i j := by
  unfold State.srcPend
  split <;> rfl

theorem State.rd_irq_viewViol (s : State) (f : Fld) (i j : Nat) (h : f.key i j ≠ HIF_IRQ_STAT.VIEW_VIOL.key 0 0) :
    (s.irq HIF_IRQ_STAT.VIEW_VIOL).rd f i j = s.rd f i j := by
  rw [State.irq_viewViol]
  split <;> simp only [State.rd_srcPend, State.rd_wr_other s _ f _ _ _ _ _ h]

theorem State.violation_differs (s : State) (port : Nat) (write priv : Bool) (reason off : Nat) :
    s.differsInRegsAndHif (s.violation port write priv reason off) :=
  (s.wr_differsInRegs _ _ _ _).trans <| (State.irq_viewViol_differs _).trans <| (State.wr_differsInRegs _ _ _ _ _).trans <|
    (State.wr_differsInRegs _ _ _ _ _).trans <| (State.wr_differsInRegs _ _ _ _ _).trans (State.wr_differsInRegs _ _ _ _ _)

theorem State.violated_differs (s : State) (port : Nat) (write priv : Bool) (reason off : Nat) :
    s.differsInRegsAndHif (s.violated port write priv reason off) := by
  unfold State.violated
  split
  · exact s.violation_differs _ _ _ _ _
  · exact (s.violation_differs _ _ _ _ _).trans <| (State.wr_differsInRegs _ _ _ _ _).trans (State.wr_differsInRegs _ _ _ _ _)

/-- The count of a port goes up by one and saturates; what else the violation records lies elsewhere (R615). -/
theorem State.rd_violation_count (s : State) {p : Nat} (write priv : Bool) (reason off : Nat) (hwf : SMap.wf s.regs = true)
    (hp : p < 5) :
    (s.violation p write priv reason off).rd HIF_VIEW_VIOL.COUNT p =
      min (2 ^ 32 - 1) (s.rd HIF_VIEW_VIOL.COUNT p + 1) := by
  have hhas : HIF_VIEW_VIOL.COUNT.has p 0 = true := by simp [Fld.has, HIF_VIEW_VIOL.COUNT, fld1, hp]
  have hbump : (s.bump HIF_VIEW_VIOL.COUNT p).rd HIF_VIEW_VIOL.COUNT p =
      min (2 ^ 32 - 1) (s.rd HIF_VIEW_VIOL.COUNT p + 1) := by
    rw [State.bump, State.add, State.rd_wr_self _ _ _ _ _ hwf hhas]
    exact Nat.mod_eq_of_lt (by change min (2 ^ 32 - 1) _ < 2 ^ 32; omega)
  unfold State.violation
  simp only [State.flag]
  rw [State.rd_wr_other, State.rd_wr_other, State.rd_wr_other, State.rd_wr_other, State.rd_irq_viewViol, hbump] <;>
    simp [Fld.key, HIF_VIEW_VIOL.COUNT, HIF_VIEW_LAST.WRITE, HIF_VIEW_LAST.PRIV, HIF_VIEW_LAST.REASON, HIF_VIEW_LAST.OFFSET,
      HIF_IRQ_STAT.VIEW_VIOL, fld1, fld0] <;> omega

/-- What a violation counts for a core besides stands apart from HIF's count of the port. -/
theorem State.rd_violated_count (s : State) (port : Nat) (write priv : Bool) (reason off : Nat) (hwf : SMap.wf s.regs = true) :
    (s.violated port write priv reason off).rd HIF_VIEW_VIOL.COUNT (min port 4) =
      min (2 ^ 32 - 1) (s.rd HIF_VIEW_VIOL.COUNT (min port 4) + 1) := by
  have hcount := s.rd_violation_count write priv reason off hwf (p := min port 4) (by omega)
  unfold State.violated
  split
  · exact hcount
  · rw [State.bump, State.add, State.rd_wr_other, State.bump, State.add, State.rd_wr_other, hcount] <;>
      simp [Fld.key, HIF_VIEW_VIOL.COUNT, AST_CNT_REGVIOL.COUNT, AST_CORE_REGVIOL.COUNT, fld1, fld0] <;> omega

theorem State.regWrite_without_grant (s : State) {port off r : Nat} (w : Nat)
    (hview : s.viewReason (min port 4) (off / 65536) = some r) (hoff : off % 4 = 0) :
    s.regWrite port true off 4 w = s.violated port true true r off := by
  simp [State.regWrite, hview, hoff]

theorem State.regRead_without_grant (s : State) {port off r : Nat} (oe l : Bool)
    (hview : s.viewReason (min port 4) (off / 65536) = some r) :
    s.regRead port true off oe l = (0, s.violated port false true r off) := by
  simp [State.regRead, hview]

theorem State.regWrite_not_a_word (s : State) (port : Nat) (priv : Bool) {off bytes : Nat} (w : Nat)
    (h : bytes ≠ 4 ∨ off % 4 ≠ 0) : s.regWrite port priv off bytes w = s.violated port true priv 0 off :=
  if_pos h

/-- Settles O38: without a grant, or for less than a whole word, nothing happens beside the violation, which counts one on
its port and leaves the units' own states alone (R13, R14, R615). -/
theorem privilegedAccessesWithoutAGrant : Obligations.PrivilegedAccessesWithoutAGrant := by
  unfold Obligations.PrivilegedAccessesWithoutAGrant
  refine ⟨fun s _ _ w _ hview hoff => s.regWrite_without_grant w hview hoff,
    fun s _ _ _ oe l hview => s.regRead_without_grant oe l hview,
    fun s port _ _ w priv h => s.regWrite_not_a_word port priv w h, ?_⟩
  intro s port r off write priv hwf _ s'
  exact ⟨s.rd_violated_count port write priv r off hwf, (s.violated_differs port write priv r off).units⟩

end Sys2Proof.Machine
end

section
/-! PROOFS. Reads of window registers (O27). -/

namespace Sys2Proof.Machine

open Safety

/-- A port that exists gets the word that the register file reads. -/
theorem State.portRead_eq (s : State) {port : Nat} (priv : Bool) (off : Nat) (oe level : Bool) (h : port < 20) :
    s.portRead port priv off oe level =
      (s.regRead port priv off oe level).2.answerWord port (s.regRead port priv off oe level).1 := by
  rw [State.portRead, Nat.min_eq_left (Nat.le_of_lt_succ h)]

theorem dataRow_completes {port : Nat} {s : State} (t : Nat) (priv : Bool) (off : Nat) (oe level : Bool) (hon : Powered s)
    (hport : port < 20) :
    dataRow t port priv off s oe level =
      .next ((((s.adv t).regRead port priv off oe level).2.answerWord port
        ((s.adv t).regRead port priv off oe level).1).withQueue s.pending) :=
  happen_eq hon (State.portRead_eq _ priv off oe level hport)

/-- Settles O27: each of the rows is the one read of its register through the port (R14). -/
theorem dataReadsTakeEffect : Obligations.DataReadsTakeEffect := by
  unfold Obligations.DataReadsTakeEffect
  refine ⟨fun t port c priv off s hon hport hc => ?_, fun t port priv oe level s hon hport => ?_⟩
  · have hrow : exec c s = dataRow t port priv off s := by
      simp only [List.mem_cons, Prod.mk.injEq, List.not_mem_nil, or_false] at hc
      rcases hc with ⟨rfl, rfl⟩ | ⟨rfl, rfl⟩ | ⟨rfl, rfl⟩ | ⟨rfl, rfl⟩ | ⟨rfl, rfl⟩ | ⟨rfl, rfl⟩ | ⟨rfl, rfl⟩ | ⟨rfl, rfl⟩ |
        ⟨rfl, rfl⟩ | ⟨rfl, rfl⟩ | ⟨rfl, rfl⟩ | ⟨rfl, rfl⟩ | ⟨rfl, rfl⟩ <;> rfl
    exact hrow.trans (dataRow_completes t priv off false false hon hport)
  · exact dataRow_completes t priv PIN_PAD_DATA.OE.off oe level hon hport

end Sys2Proof.Machine
end

section
/-! PROOFS. System commands (O1). -/

namespace Sys2Proof.Machine

open Safety

/-- A record that is not the Dome's takes the command, then the reset, in the unprivileged view (R31, R32). -/
theorem State.recordWrite_unprivileged (s : State) (port : Nat) {u : Nat} (cmd : Nat) (rst : Bool) (hu : u < 24)
    (hdom : u ≠ 0x0B) :
    s.recordWrite port false u cmd rst = if rst then (s.unitCommand u cmd).unitReset u else s.unitCommand u cmd := by
  simp [State.recordWrite, Nat.not_le.mpr hu, hdom]

/-- A request with another epoch than the target's completes at once with TARGET_RESET (R35). -/
theorem State.atOnce_of_epoch_ne {s : State} {dst dstEpoch : Nat} (h : dstEpoch ≠ s.rd SYS_UNIT_STATE.EPOCH dst) :
    s.atOnce dst dstEpoch = some ccTargetReset :=
  if_pos (.inl h)

theorem registerWrite_completes {t port off w : Nat} {priv : Bool} {s : State} (hon : Powered s) (hport : port < 20)
    (hoff : off < 2 ^ 23) (hw : w < 2 ^ 32) :
    Does (.registerWrite t port priv off 4 w) s ((s.adv t).regWrite port priv off 4 w) := by
  change execRegisterWrite t port priv off 4 w s = _
  refine happen_eq hon ?_
  rw [Nat.min_eq_left (Nat.le_of_lt_succ hport), Nat.mod_eq_of_lt hoff, Nat.mod_eq_of_lt hw]

theorem registerLoRead_completes {t port off : Nat} {priv : Bool} {s : State} (hon : Powered s) (hport : port < 20)
    (hoff : off < 2 ^ 23) :
    Does (.registerLoRead t port priv off) s
      (((s.adv t).regRead port priv off).2.answerWord port ((s.adv t).regRead port priv off).1) := by
  change execRegisterLoRead t port priv off s = _
  refine happen_eq hon ?_
  rw [Nat.mod_eq_of_lt hoff, State.portRead_eq _ _ _ _ _ hport]

theorem clrCnt_completes {t port u : Nat} {priv : Bool} {s : State} (hon : Powered s) (hport : port < 20) (hu : u < 24)
    (hcnt : (cntFlds u).isEmpty = false) :
    Does (.clrCnt t port priv u) s
      ((s.adv t).regWrite port priv (65536 * u + 4) 4 (Nat.lor ((s.adv t).wordAt (65536 * u + 4)) (2 ^ clrBit u))) := by
  change execClrCnt t port priv u s = _
  refine happen_eq hon ?_
  simp [Nat.mod_eq_of_lt hu, hcnt, Nat.min_eq_left (Nat.le_of_lt_succ hport)]

theorem lock_completes {t port u : Nat} {f : Fld} {priv : Bool} {s : State} (hon : Powered s) (hport : port < 20) (hu : u < 24)
    (hf : lockFld u = some f) :
    Does (.lock t port priv u) s
      ((s.adv t).regWrite port priv f.off 4 (Nat.lor ((s.adv t).wordAt f.off) (2 ^ f.lo))) := by
  change execLock t port priv u s = _
  refine happen_eq hon ?_
  simp [Nat.mod_eq_of_lt hu, hf, Nat.min_eq_left (Nat.le_of_lt_succ hport)]

/-- A failed retry counts while fewer than two failed before it (R22). -/
theorem dieLinkRetry_counts {t : Nat} {rf : Bool} {s : State} (hon : Powered s) (hup : ((s.adv t).dieLink rf).down = false)
    (hfails : ((s.adv t).dieLink rf).fails < 2) :
    Does (.dieLinkPacketCrcFail t rf true) s
      ((s.adv t).setDieLink rf { (s.adv t).dieLink rf with fails := ((s.adv t).dieLink rf).fails + 1 }) := by
  change execDieLinkPacketCrcFail t rf true s = _
  refine happen_eq hon ?_
  simp [hup, Nat.succ_lt_succ hfails]

/-- The third failed retry takes the link down (R22). -/
theorem dieLinkRetry_loses {t : Nat} {rf : Bool} {s : State} (hon : Powered s) (hup : ((s.adv t).dieLink rf).down = false)
    (hfails : ((s.adv t).dieLink rf).fails = 2) :
    Does (.dieLinkPacketCrcFail t rf true) s
      ((farUnits rf).foldl (fun (a : State) u => a.farFault u) ((s.adv t).setDieLink rf { fails := 0, down := true })) := by
  change execDieLinkPacketCrcFail t rf true s = _
  refine happen_eq hon ?_
  simp [hup, hfails]

theorem dieLinkRetrainDone_resets {t : Nat} {rf : Bool} {s : State} (hon : Powered s)
    (hdown : ((s.adv t).dieLink rf).down = true) :
    Does (.dieLinkRetrainDone t rf) s
      ((farUnits rf).foldl (fun (a : State) u => a.unitReset u) ((s.adv t).setDieLink rf {})) := by
  change execDieLinkRetrainDone t rf s = _
  refine happen_eq hon ?_
  simp [hdown]

theorem unitReset_completes {t port u cmd : Nat} {s : State} (hon : Powered s) (hu : u < 24) (hdom : u ≠ 0x0B) :
    Does (.unitReset t port false u cmd) s (((s.adv t).unitCommand u cmd).unitReset u) := by
  change execUnitReset t port false u cmd s = _
  refine happen_eq hon ?_
  exact State.recordWrite_unprivileged _ _ cmd true hu hdom

theorem unitCommand_completes {t port u cmd : Nat} {s : State} (hon : Powered s) (hu : u < 24) (hdom : u ≠ 0x0B) :
    Does (.unitCommand t port false u cmd) s ((s.adv t).unitCommand u cmd) := by
  change execUnitCommand t port false u cmd s = _
  refine happen_eq hon ?_
  exact State.recordWrite_unprivileged _ _ cmd false hu hdom

theorem unitStateReached_completes {t u : Nat} {s : State} (hon : Powered s) (hu : u < 24) :
    Does (.unitStateReached t u) s ((((s.adv t).unitReached u).haltedDown).bootRun) := by
  change execUnitStateReached t u s = _
  refine happen_eq hon ?_
  exact if_neg (Nat.not_le.mpr hu)

theorem mismatchTimeout_sets {t u a : Nat} {s : State} (hon : Powered s) (hu : u < 24)
    (hdiff : ((s.adv t).unitS u).diffSince = some a) (hlong : a + msT 10 ≤ (s.adv t).now) :
    Does (.mismatchTimeout t u) s ((s.adv t).setMismatch u true) := by
  change execMismatchTimeout t u s = _
  refine happen_eq hon ?_
  simp [hdiff, hlong, hu]

theorem interUnitRequest_stale {t src dst srcEpoch dstEpoch : Nat} {s : State} (hon : Powered s) (hsrc : src < 24)
    (hdst : dst < 24) (hdoze : (s.adv t).domSt (unitDom dst) ≠ dsDoze)
    (hepoch : dstEpoch ≠ (s.adv t).rd SYS_UNIT_STATE.EPOCH dst) :
    Does (.interUnitRequest t src dst srcEpoch dstEpoch) s
      ((s.adv t).send (replyBytes ccTargetReset ((s.adv t).rd SYS_UNIT_STATE.EPOCH dst) srcEpoch)) := by
  change execInterUnitRequest t src dst srcEpoch dstEpoch s = _
  refine happen_eq hon ?_
  simp only [Nat.not_le.mpr hsrc, Nat.not_le.mpr hdst, or_self, if_false, hdoze, State.atOnce_of_epoch_ne hepoch]

theorem unitReply_stale {t u epoch : Nat} {s : State} (hon : Powered s) (hu : u < 24)
    (hepoch : epoch ≠ (s.adv t).rd SYS_UNIT_STATE.EPOCH u) :
    Does (.unitReply t u epoch) s ((s.adv t).bump SYS_UNIT_STATE.STALE_CNT u) := by
  change execUnitReply t u epoch s = _
  refine happen_eq hon ?_
  exact if_neg (not_or.mpr ⟨Nat.not_le.mpr hu, hepoch⟩)

/-- Settles O1: row by row; of these rows device reset alone is no happening, so it acts without supply, too (R17, R577). -/
theorem systemCommandsTakeEffect : Obligations.SystemCommandsTakeEffect := by
  unfold Obligations.SystemCommandsTakeEffect
  exact ⟨fun _ _ _ => rfl,
    fun _ _ _ _ _ _ hon hport hoff hw => registerWrite_completes hon hport hoff hw,
    fun _ _ _ _ _ hon hport hoff => registerLoRead_completes hon hport hoff,
    fun _ _ _ _ _ hon hport hu hcnt => clrCnt_completes hon hport hu hcnt,
    fun _ _ _ _ _ _ hon hport hu hf => lock_completes hon hport hu hf,
    fun _ _ _ hon hup hfails => dieLinkRetry_counts hon hup hfails,
    fun _ _ _ hon hup hfails => dieLinkRetry_loses hon hup hfails,
    fun _ _ _ hon hdown => dieLinkRetrainDone_resets hon hdown,
    fun _ _ _ _ _ hon hu hdom _ => unitReset_completes hon hu hdom,
    fun _ _ _ _ _ hon hu hdom _ => unitCommand_completes hon hu hdom,
    fun _ _ _ hon hu => unitStateReached_completes hon hu,
    fun _ _ _ _ hon hu hdiff hlong => mismatchTimeout_sets hon hu hdiff hlong,
    fun _ _ _ _ _ _ hon hsrc hdst hdoze hepoch => interUnitRequest_stale hon hsrc hdst hdoze hepoch,
    fun _ _ _ _ hon hu hepoch => unitReply_stale hon hu hepoch⟩

end Sys2Proof.Machine
end

section
/-! PROOFS. The state right after reset (O32). -/

namespace Sys2Proof.Machine

/-- Settles O32: every table is empty right after reset, and no command waits. -/
theorem resetMeetsTheInvariants : Obligations.ResetMeetsTheInvariants :=
  ⟨rfl, rfl, rfl, rfl, rfl, rfl, rfl⟩

end Sys2Proof.Machine
end

section
/-! PROOFS. A step and the queue (O28). -/

namespace Sys2Proof.Machine

theorem step_of_pending_nil {s : State} (h : s.pending = []) : step s = .next s := by
  simp [step, h]

/-- Settles O28: a step takes the front of the queue away and runs it, and idles on an empty one (log entry 2). -/
theorem stepRunsTheFrontCommand : Obligations.StepRunsTheFrontCommand :=
  ⟨step_withQueue_cons, fun _ h => step_of_pending_nil h⟩

end Sys2Proof.Machine
end

section
/-! PROOFS. The epoch of a unit (O33). -/

namespace Sys2Proof.Machine

@[simp] theorem State.rd_reset (f : Fld) (i j : Nat) : State.reset.rd f i j = f.rstAt i := rfl

theorem epoch_width : SYS_UNIT_STATE.EPOCH.width = 16 := rfl

theorem epoch_rstAt (u : Nat) : SYS_UNIT_STATE.EPOCH.rstAt u = 1 := rfl

theorem epoch_has {u : Nat} (hu : u < 24) : SYS_UNIT_STATE.EPOCH.has u 0 = true := by
  simp [Fld.has, SYS_UNIT_STATE.EPOCH, fld1, hu]

/-- The next epoch fits the field, so it reads back uncut. -/
theorem State.rd_nextEpoch {s : State} {u : Nat} (hu : u < 24) (hwf : SMap.wf s.regs = true)
    (he : s.rd SYS_UNIT_STATE.EPOCH u < 2 ^ 16) :
    (s.nextEpoch u).rd SYS_UNIT_STATE.EPOCH u =
      if s.rd SYS_UNIT_STATE.EPOCH u = 0xFFFF then 1 else s.rd SYS_UNIT_STATE.EPOCH u + 1 := by
  rw [State.nextEpoch, State.rd_wr_self s _ _ u 0 hwf (epoch_has hu), epoch_width]
  split <;> split <;> omega

/-- Settles O33: the field's own width and reset value give the first two parts; a step reads back what it wrote, which
is 1 or one more than before, so never 0 (R34). -/
theorem epochsFollowR34 : Obligations.EpochsFollowR34 := by
  unfold Obligations.EpochsFollowR34
  refine ⟨epoch_width, fun u _ => (State.rd_reset _ u 0).trans (epoch_rstAt u), fun s u hu hwf he => ?_⟩
  have hnext := State.rd_nextEpoch hu hwf he
  refine ⟨hnext, ?_⟩
  rw [hnext]
  split
  · exact Nat.one_ne_zero
  · exact Nat.succ_ne_zero _

end Sys2Proof.Machine
end

section
/-! PROOFS. Serial order (O59). -/

namespace Sys2Proof.Machine

/-- The distance on the circle from a up to b, without the modulus. -/
theorem circleDistance_eq {n a b : Nat} (ha : a < n) (hb : b < n) :
    (b + n - a % n) % n = if a ≤ b then b - a else b + n - a := by
  rw [Nat.mod_eq_of_lt ha]
  split
  · next h => rw [Nat.sub_add_comm h, Nat.add_mod_right, Nat.mod_eq_of_lt (by omega)]
  · exact Nat.mod_eq_of_lt (by omega)

/-- a precedes b when b lies less than half the range above it, or, past the wrap, more than half the range below it. -/
theorem serialBefore_iff {w a b : Nat} (hw : 1 ≤ w) (ha : a < 2 ^ w) (hb : b < 2 ^ w) :
    serialBefore w a b = true ↔ (a < b ∧ b < a + 2 ^ (w - 1)) ∨ b + 2 ^ (w - 1) < a := by
  have hhalf : 2 * 2 ^ (w - 1) = 2 ^ w := mul_pow_sub_one (by omega) 2
  simp only [serialBefore, circleDistance_eq ha hb, Bool.and_eq_true, decide_eq_true_eq]
  split <;> omega

/-- A step along the circle, without the modulus. -/
theorem circleStep_eq {n a d : Nat} (ha : a < n) (hd : d < n) : (a + d) % n = if n ≤ a + d then a + d - n else a + d := by
  rw [Nat.add_mod_eq_ite, Nat.mod_eq_of_lt ha, Nat.mod_eq_of_lt hd]

/-- Settles O59: over the cases of `serialBefore_iff` each part is linear in a, b and half the range (R46, R56). -/
theorem serialOrderIsAsymmetric : Obligations.SerialOrderIsAsymmetric := by
  unfold Obligations.SerialOrderIsAsymmetric
  intro w a b hw ha hb
  have hhalf : 2 * 2 ^ (w - 1) = 2 ^ w := mul_pow_sub_one (by omega) 2
  have hpos : 0 < 2 ^ (w - 1) := Nat.two_pow_pos _
  have hab := serialBefore_iff hw ha hb
  have hba := serialBefore_iff hw hb ha
  refine ⟨?_, ?_, ?_, ?_⟩
  · rw [hab, hba]
    omega
  · rw [← Bool.not_eq_true, serialBefore_iff hw ha ha]
    omega
  · intro hopp
    rw [circleStep_eq ha (by omega)] at hopp
    rw [← Bool.not_eq_true, ← Bool.not_eq_true, hab, hba]
    split at hopp <;> omega
  · rw [hab]
    constructor
    · rintro (h | h)
      · exact ⟨b - a, by omega, by omega, by rw [circleStep_eq ha (by omega), if_neg (by omega)]; omega⟩
      · exact ⟨b + 2 ^ w - a, by omega, by omega, by rw [circleStep_eq ha (by omega), if_pos (by omega)]; omega⟩
    · rintro ⟨d, hd, hdmax, hbd⟩
      rw [circleStep_eq ha (by omega)] at hbd
      split at hbd <;> omega

end Sys2Proof.Machine
end

section
/-! PROOFS. What Meridian's own operations leave of its state. -/

namespace Sys2Proof.Machine

@[simp] theorem MerS.slew_count (m : MerS) : m.slew.count = m.count := by
  unfold MerS.slew
  split <;> rfl

theorem State.now_adv (s : State) (t : Nat) : (s.adv t).now = max s.now (min t (2 ^ 64 - 1)) := MerS.slew_count _

@[simp] theorem State.pltWrite_mer (s : State) (lane : Nat) (tag : PltTag) (ws : List (Nat × Nat)) :
    (s.pltWrite lane tag ws).mer = s.mer := by
  simp [State.pltWrite]

/-- A checkpoint notes its sequence number and its civil time (R57). -/
@[simp] theorem State.ckptNow_mer (s : State) :
    s.ckptNow.mer = { s.mer with ckptSeq := (s.mer.ckptSeq + 1) % 2 ^ 32, lastCkpt := s.civilNs } := by
  simp [State.ckptNow, State.ckpt]

/-- Persisting the era notes its sequence number (R45). -/
@[simp] theorem State.persistEra_mer (s : State) :
    s.persistEra.mer = { s.mer with eraSeq := (s.mer.eraSeq + 1) % 2 ^ 32 } := by
  simp [State.persistEra]

@[simp] theorem State.trimStat_mer (s : State) : s.trimStat.mer = s.mer := by
  simp [State.trimStat]

end Sys2Proof.Machine
end

section
/-! PROOFS. The count under an advance (O35). -/

namespace Sys2Proof.Machine

/-- Settles O35: the count becomes the larger of itself and the stamp, cut at the last count (R44, R67). -/
theorem meridianNeverRunsBackward : Obligations.MeridianNeverRunsBackward := by
  unfold Obligations.MeridianNeverRunsBackward
  intro s t
  rw [State.now_adv]
  refine ⟨le_max_left _ _, fun hle ht => ?_, fun hs => ?_, rfl, rfl, rfl, rfl⟩
  · rw [min_eq_left (Nat.le_sub_one_of_lt ht), max_eq_right hle]
  · exact max_lt hs (lt_of_le_of_lt (min_le_right _ _) (by decide))

end Sys2Proof.Machine
end

section
/-! PROOFS. Civil time across the wraps of the count (O34). -/

namespace Sys2Proof.Machine

/-- A wrap adds the civil length of the whole range of the count and carries the remainder (R45, R55). -/
theorem State.wrapCount_offset (s : State) :
    s.wrapCount.mer.offset = s.mer.offset + ((2 ^ 64 * 625 + s.mer.rem) / 39936 : Nat) := by
  simp [State.wrapCount]

theorem State.wrapCount_rem (s : State) : s.wrapCount.mer.rem = (2 ^ 64 * 625 + s.mer.rem) % 39936 := by
  simp [State.wrapCount]

theorem State.wrapCount_era (s : State) : s.wrapCount.mer.era = (s.mer.era + 1) % 256 := by
  simp [State.wrapCount]

theorem State.wrapCount_count (s : State) : s.wrapCount.mer.count = 0 := by
  simp [State.wrapCount]

/-- With the remainder carried, the offset loses nothing: after n wraps quotient and remainder are those of the whole. -/
theorem wraps_offset_rem (n : Nat) (s : State) (hrem : s.mer.rem = 0) :
    (Nat.repeat State.wrapCount n s).mer.offset = s.mer.offset + ((n * 2 ^ 64 * 625 / 39936 : Nat) : Int) ∧
      (Nat.repeat State.wrapCount n s).mer.rem = n * 2 ^ 64 * 625 % 39936 := by
  induction n with
  | zero => simp [Nat.repeat, hrem]
  | succ n ih =>
    obtain ⟨hoff, hr⟩ := ih
    simp only [Nat.repeat, State.wrapCount_offset, State.wrapCount_rem, hoff, hr]
    omega

theorem wraps_era (n : Nat) (s : State) (hera : s.mer.era < 256) :
    (Nat.repeat State.wrapCount n s).mer.era = (s.mer.era + n) % 256 := by
  induction n with
  | zero => exact (Nat.mod_eq_of_lt hera).symm
  | succ n ih => rw [Nat.repeat, State.wrapCount_era, ih, Nat.mod_add_mod, Nat.add_assoc]

theorem wraps_count {n : Nat} (s : State) (hn : 0 < n) : (Nat.repeat State.wrapCount n s).mer.count = 0 := by
  cases n with
  | zero => exact absurd hn (Nat.lt_irrefl 0)
  | succ n => exact State.wrapCount_count _

/-- Civil time that is not before its origin is the signed sum of R55 in 64 bits. -/
theorem State.civilNs_cast {s : State} (h : 0 ≤ ((s.now * 625 / 39936 : Nat) : Int) + s.mer.offset) :
    (s.civilNs : Int) = (((s.now * 625 / 39936 : Nat) : Int) + s.mer.offset) % 2 ^ 64 := by
  rw [State.now] at h ⊢
  rw [State.civilNs, Int.natCast_mod, Int.toNat_of_nonneg h]
  rfl

/-- Settles O34, by induction on the number of wraps (R45, R55). -/
theorem civilTimeAcrossWraps : Obligations.CivilTimeAcrossWraps := by
  unfold Obligations.CivilTimeAcrossWraps
  refine ⟨fun n s hrem hera => ?_, fun s h => State.civilNs_cast h⟩
  obtain ⟨hoff, hr⟩ := wraps_offset_rem n s hrem
  exact ⟨hoff, hr, wraps_era n s hera, wraps_count s⟩

end Sys2Proof.Machine
end

section
/-! PROOFS. Meridian commands (O2). -/

namespace Sys2Proof.Machine

open Safety

theorem aonRatioWindow_sets {t ratio : Nat} {s : State} (hon : Powered s) (hratio : ratio < 2 ^ 32)
    (hactive : (s.adv t).rd PWR_STAT.STATE = 0) :
    Does (.aonRatioWindow t ratio) s ((s.adv t).wr MER_AON_RATIO.RATIO ratio) := by
  change execAonRatioWindow t ratio s = _
  refine happen_eq hon ?_
  rw [if_pos hactive, Nat.min_eq_left (Nat.le_sub_one_of_lt hratio)]

theorem civilCheckpoint_writes {t : Nat} {s : State} (hon : Powered s)
    (hdue : (s.adv t).mer.lastCkpt + (s.adv t).ckptPeriodNs ≤ (s.adv t).civilNs) :
    Does (.civilCheckpoint t) s ((s.adv t).ckptNow) := by
  change execCivilCheckpoint t s = _
  exact happen_eq hon (if_pos (.inl hdue))

/-- A refused trim reports why, and does nothing else (R60). -/
theorem State.trimReq_refused {s : State} {us : Int} (hus : us ≠ 0) (hcode : s.trimCode us ≠ ccOk) :
    s.trimReq us = s.wr MER_TIME_STAT.RESULT (s.trimCode us) := by
  simp [State.trimReq, hus, hcode]

/-- An accepted trim adds to what is still to slew and heads the trims that are kept (R61, R62). -/
theorem State.trimReq_accepted {s : State} {us : Int} (hus : us ≠ 0) (hcode : s.trimCode us = ccOk) :
    (s.trimReq us).mer.pending = s.mer.pending + us ∧
      (s.trimReq us).mer.trims = ((⟨s.civilNs / 1000000000, us⟩ : Trim) :: s.mer.trims).take 16 := by
  simp [State.trimReq, hus, hcode, State.civilNs]

theorem trimReq_refuses {t : Nat} {us : Int} {s : State} (hon : Powered s) (hus : us ≠ 0)
    (hcode : (s.adv t).trimCode us ≠ ccOk) :
    Does (.trimReq t us) s ((s.adv t).wr MER_TIME_STAT.RESULT ((s.adv t).trimCode us)) := by
  change execTrimReq t us s = _
  exact happen_eq hon (State.trimReq_refused hus hcode)

theorem trimReq_accepts {t : Nat} {us : Int} {s : State} (hon : Powered s) (hus : us ≠ 0)
    (hcode : (s.adv t).trimCode us = ccOk) :
    Gives (exec (.trimReq t us) s) (fun s' => s'.mer.pending = (s.adv t).mer.pending + us ∧
      s'.mer.trims = ((⟨(s.adv t).civilNs / 1000000000, us⟩ : Trim) :: (s.adv t).mer.trims).take 16) := by
  change Gives (execTrimReq t us s) _
  exact ⟨_, happen_eq hon rfl, State.trimReq_accepted hus hcode⟩

theorem trimSpent_reports {t : Nat} {s : State} (hon : Powered s) (hspent : (s.adv t).mer.pending = 0) :
    Does (.trimSpent t) s ((s.adv t).trimStat) := by
  change execTrimSpent t s = _
  exact happen_eq hon (if_pos hspent)

/-- A generator that can supply a value supplies a nonce (R63). -/
theorem State.rngNonce_of_rngCan {s : State} {i : Nat} (h : s.rngCan i = true) : ∃ v s1, s.rngNonce i = some (v, s1) := by
  simp [State.rngNonce, State.rngTake, h]

/-- A nonce that is read lives from the read's stamp on, and what was armed before is not (R63). -/
theorem State.timeNonce_of_rngNonce {s s1 : State} {v : Nat} (h : s.rngNonce 4 = some (v, s1)) :
    s.timeNonce = (v, { s1 with mer := { s1.mer with nonce := some (v, s1.now), armed := none } }) := by
  simp [State.timeNonce, h]

theorem timeNonceRead_answers {t port v : Nat} {s s1 : State} (hon : Powered s) (h : (s.adv t).rngNonce 4 = some (v, s1)) :
    Does (.timeNonceRead t port) s
      (State.answerWord { s1 with mer := { s1.mer with nonce := some (v, s1.now), armed := none } } port v) := by
  change execTimeNonceRead t port s = _
  refine happen_eq hon ?_
  rw [State.timeNonce_of_rngNonce h]

/-- A privileged write within a grant takes its effect (R612). -/
theorem State.privWrite_granted {s : State} {port unit : Nat} (off : Nat) (f : State → State)
    (hview : s.viewReason port unit = none) : s.privWrite port true unit off f = f s := by
  simp [State.privWrite, hview]

/-- The write of the armed offset carries the set out (R63, R64). -/
theorem State.civilOffsetSet_armed {s : State} {lo hi leap : Nat} {setLeap : Bool} {off : Int} (hlo : lo < 2 ^ 32)
    (hhi : hi < 2 ^ 32) (href : s.rd MER_STAT.QUALITY = qRef) (harmed : s.armedSet = some (true, setLeap, off, leap))
    (hoff : toSigned 64 (lo + hi * 2 ^ 32) = off) :
    s.civilOffsetSet lo hi = s.carryOut off (if setLeap then leap else s.mer.leap) := by
  simp only [State.civilOffsetSet, Nat.mod_eq_of_lt hlo, Nat.mod_eq_of_lt hhi, href, harmed, hoff, ne_eq, not_true,
    if_true, if_false]

/-- The write of the armed leap carries out a set of the leap alone (R63, R65). -/
theorem State.civilLeapSet_armed {s : State} {leap : Nat} {off : Int} (hleap : leap < 256)
    (href : s.rd MER_STAT.QUALITY = qRef) (harmed : s.armedSet = some (false, true, off, leap)) :
    s.civilLeapSet leap = s.carryOut s.mer.offset leap := by
  simp only [State.civilLeapSet, Nat.mod_eq_of_lt hleap, href, harmed, ne_eq, not_true, if_true, if_false]

theorem civilOffsetSet_carriesOut {t port lo hi leap : Nat} {setLeap : Bool} {off : Int} {s : State} (hon : Powered s)
    (hlo : lo < 2 ^ 32) (hhi : hi < 2 ^ 32) (hview : (s.adv t).viewReason port 0x01 = none)
    (href : (s.adv t).rd MER_STAT.QUALITY = qRef) (harmed : (s.adv t).armedSet = some (true, setLeap, off, leap))
    (hoff : toSigned 64 (lo + hi * 2 ^ 32) = off) :
    Does (.civilOffsetSet t port true lo hi) s ((s.adv t).carryOut off (if setLeap then leap else (s.adv t).mer.leap)) := by
  change execCivilOffsetSet t port true lo hi s = _
  exact happen_eq hon ((State.privWrite_granted _ _ hview).trans (State.civilOffsetSet_armed hlo hhi href harmed hoff))

theorem civilLeapSet_carriesOut {t port leap : Nat} {off : Int} {s : State} (hon : Powered s) (hleap : leap < 256)
    (hview : (s.adv t).viewReason port 0x01 = none) (href : (s.adv t).rd MER_STAT.QUALITY = qRef)
    (harmed : (s.adv t).armedSet = some (false, true, off, leap)) :
    Does (.civilLeapSet t port true leap) s ((s.adv t).carryOut (s.adv t).mer.offset leap) := by
  change execCivilLeapSet t port true leap s = _
  exact happen_eq hon ((State.privWrite_granted _ _ hview).trans (State.civilLeapSet_armed hleap href harmed))

theorem acquireAloneTimeout_givesRef {t : Nat} {s : State} (hon : Powered s)
    (hacq : (s.adv t).rd MER_STAT.QUALITY = qAcquiring) (hmember : (s.adv t).on MER_STAT.MASTER = false)
    (halone : (s.adv t).rd BLN_STAT.STATE = 0) (hlong : (s.adv t).mer.aloneSince + msT 100 ≤ (s.adv t).now)
    (hformed : (s.adv t).mer.formed = false) (hrun : (s.adv t).rep 0x14 = stRun) :
    Does (.acquireAloneTimeout t) s ((s.adv t).setQuality qRef) := by
  change execAcquireAloneTimeout t s = _
  refine happen_eq hon (if_pos ⟨hacq, by simp [hmember], halone, hlong, by simp [hformed], ?_, ?_⟩) <;>
    rw [hrun] <;> decide

theorem lockAchieved_locks {t rms g : Nat} {s : State} (hon : Powered s) (hrms : rms ≤ 20)
    (hacq : (s.adv t).rd MER_STAT.QUALITY = qAcquiring) (hmeas : (s.adv t).mer.measured = true)
    (hgood : (s.adv t).mer.goodSince = some g) (hlong : g + secT 1 ≤ (s.adv t).now) :
    Does (.lockAchieved t rms) s
      ((((s.adv t).wr MER_SYNC_RMS.RMS rms).setQuality qLocked).wr MER_STAT.HOLD_EXPIRED 0) := by
  change execLockAchieved t rms s = _
  refine happen_eq hon ?_
  have hq : ((s.adv t).wr MER_SYNC_RMS.RMS rms).rd MER_STAT.QUALITY = qAcquiring := by
    rw [State.rd_wr_other, hacq]
    decide
  simp only [Nat.min_eq_right (show rms ≤ 0xFFFF by omega), hq, State.wr_mer, hmeas, hrms, hgood, State.now_wr, ge_iff_le,
    hlong, and_self, if_true]

theorem holdoverEntry_holds {t : Nat} {s : State} (hon : Powered s) (hlock : (s.adv t).rd MER_STAT.QUALITY = qLocked)
    (hlong : (s.adv t).mer.lastValid + msT 1 ≤ (s.adv t).now) :
    Does (.holdoverEntry t) s (((s.adv t).setQuality qHoldover).wr MER_HOLD_TIME.HOLD_MS 0) := by
  change execHoldoverEntry t s = _
  exact happen_eq hon (if_pos ⟨hlock, hlong⟩)

theorem holdLimitExpired_expires {t : Nat} {s : State} (hon : Powered s)
    (hhold : (s.adv t).rd MER_STAT.QUALITY = qHoldover)
    (hlong : (s.adv t).mer.qualSince + (s.adv t).holdLimit < (s.adv t).now) :
    Does (.holdLimitExpired t) s
      (((s.adv t).wr MER_HOLD_TIME.HOLD_MS
        (min (2 ^ 32 - 1) (((s.adv t).now - (s.adv t).mer.qualSince) / msT 1))).wr MER_STAT.HOLD_EXPIRED 1) := by
  change execHoldLimitExpired t s = _
  exact happen_eq hon (if_pos ⟨hhold, hlong⟩)

/-- Settles O2: row by row; the wrap alone is no happening, so it acts without supply, too. -/
theorem meridianCommandsTakeEffect : Obligations.MeridianCommandsTakeEffect := by
  unfold Obligations.MeridianCommandsTakeEffect
  refine ⟨fun _ => rfl,
    fun _ _ _ hon hratio hactive => aonRatioWindow_sets hon hratio hactive,
    fun _ _ hon hdue => civilCheckpoint_writes hon hdue,
    fun _ _ _ hon hus hcode => trimReq_refuses hon hus hcode,
    fun _ _ _ hon hus hcode => trimReq_accepts hon hus hcode,
    fun _ _ hon hspent => trimSpent_reports hon hspent,
    fun t port s hon hcan => ?_,
    fun _ _ _ _ _ priv _ _ _ hon hpriv hlo hhi hview href harmed hoff => ?_,
    fun _ _ _ priv _ _ hon hpriv hleap hview href harmed => ?_,
    fun _ _ hon hacq hmember halone hlong hformed hrun =>
      acquireAloneTimeout_givesRef hon hacq hmember halone hlong hformed hrun,
    fun _ _ _ _ hon hrms hacq hmeas hgood hlong => lockAchieved_locks hon hrms hacq hmeas hgood hlong,
    fun _ _ hon hlock hlong => holdoverEntry_holds hon hlock hlong,
    fun _ _ hon hhold hlong => holdLimitExpired_expires hon hhold hlong⟩
  · obtain ⟨v, s1, hv⟩ := State.rngNonce_of_rngCan hcan
    exact ⟨v, s1, hv, timeNonceRead_answers hon hv⟩
  · subst hpriv
    exact civilOffsetSet_carriesOut hon hlo hhi hview href harmed hoff
  · subst hpriv
    exact civilLeapSet_carriesOut hon hleap hview href harmed

end Sys2Proof.Machine
end

section
/-! PROOFS. Heliostat commands (O3). -/

namespace Sys2Proof.Machine

open Safety

theorem loopUpdate_takes {t z : Nat} {e : LfpEx} {obs : List LoopObs} {s : State} (hon : Powered s)
    (hex : (s.adv t).exOf z = some e) :
    Does (.loopUpdate t z obs) s ((s.adv t).loopTaken z e obs) := by
  change execLoopUpdate t z obs s = _
  refine happen_eq hon ?_
  rw [hex]

/-- A channel in one of the four states that drive a coil trips (R77). -/
theorem trip_trips {t n : Nat} {s : State} (hon : Powered s) (hn : n < 64)
    (hst : (s.adv t).chState n = chDrive ∨ (s.adv t).chState n = chMeas ∨ (s.adv t).chState n = chCal ∨
      (s.adv t).chState n = chTest) :
    Does (.trip t n) s ((s.adv t).tripped n) := by
  change execTrip t n s = _
  refine happen_eq hon (if_neg (not_or.mpr ⟨Nat.not_le.mpr hn, ?_⟩))
  simpa only [Bool.not_eq_true', Bool.not_eq_false, Bool.or_eq_true, beq_iff_eq, or_assoc] using hst

theorem lockGuard_stops {t n : Nat} {s : State} (hon : Powered s) (hdrive : (s.adv t).driving n = true) :
    Does (.lockGuard t n) s
      ((((s.adv t).irq HEL_IRQ_STAT.LOCK_GUARD).archiveEvent 0x02 0 0 (leBytes 4 n) ccRegLimit).stopChan n ccRegLimit) := by
  change execLockGuard t n s = _
  exact happen_eq hon (if_neg (by simp [hdrive]))

theorem testTimeout_ends {t n a : Nat} {s : State} (hon : Powered s)
    (htest : SMap.find (s.adv t).hel.testAt n = some a) (hlong : a + secT 10 ≤ (s.adv t).now) :
    Does (.testTimeout t n) s
      ((({ (s.adv t) with hel := { (s.adv t).hel with testAt := SMap.del (s.adv t).hel.testAt n } } : State).wr
        HEL_CH_CTL.MODE 1 n).chReg n) := by
  change execTestTimeout t n s = _
  refine happen_eq hon ?_
  rw [htest]
  exact if_neg (Nat.not_lt.mpr hlong)

theorem helCalOne_queues {t n : Nat} {s : State} (hon : Powered s) (hn : n < 64) :
    Does (.helCalOne t n) s ((s.adv t).queueCal n) := by
  change execHelCalOne t n s = _
  exact happen_eq hon (if_pos hn)

/-- A calibration that waits is taken while its channel neither drives nor measures (R81). -/
theorem tuningCalDone_takes {t n amb fRes q : Nat} {ofs ph : Int} {s : State} (hon : Powered s)
    (hwait : (s.adv t).hel.calQ.contains n = true) (hdrive : (s.adv t).driving n = false)
    (hslot : (s.adv t).inSlot n = false) :
    Does (.tuningCalDone t n amb ofs fRes q ph) s ((s.adv t).calTaken n amb ofs fRes q ph) := by
  change execTuningCalDone t n amb ofs fRes q ph s = _
  refine happen_eq hon (if_neg ?_)
  rw [hwait, hdrive, hslot]
  decide

theorem measOne_queues {t n : Nat} {s : State} (hon : Powered s) (hn : n < 64) :
    Does (.measOne t n) s
      (((s.adv t).usableHops.foldl (fun (a : State) k => a.queueCol 3 k n) (s.adv t)).helStat) := by
  change execMeasOne t n s = _
  exact happen_eq hon (if_pos hn)

theorem remeasPeriod_queues {t : Nat} {s : State} (hon : Powered s) (hrun : (s.adv t).running 0x02 = true)
    (hlong : (s.adv t).hel.periodAt + secT (orOne ((s.adv t).rd HEL_DRIFT_CFG.REMEAS_S)) ≤ (s.adv t).now)
    (hpwr : (s.adv t).pwrState ≤ psS1) :
    Does (.remeasPeriod t) s
      (({ (s.adv t) with hel := { (s.adv t).hel with periodAt := (s.adv t).now } } : State).queueCols 4
        (s.adv t).usableHops) := by
  change execRemeasPeriod t s = _
  exact happen_eq hon (if_pos ⟨hrun, hlong, hpwr⟩)

/-- A slot is granted when columns wait, no other slot is open, and neither an exchange nor an item of higher rank uses its
channels (R91, R120). -/
theorem measSlotGrant_grants {t : Nat} {amb : List Nat} {s : State} (hon : Powered s)
    (hcols : (s.adv t).hel.cols.isEmpty = false) (hslot : (s.adv t).hel.slot = none)
    (hfree : (s.adv t).lfp.ex.any (fun e => e.chans.any (s.adv t).slotChans.contains ||
      ((s.adv t).listenSet e.zone e.car).any (s.adv t).slotChans.contains) = false)
    (hfirst : (s.adv t).lfpItems.any (fun i => decide (i.rank < (s.adv t).slotRank) &&
      ((s.adv t).zoneChans i.zone).any (s.adv t).slotChans.contains) = false)
    (hpwr : (s.adv t).pwrState < psS2) (hrun : (s.adv t).running 0x02 = true) :
    Does (.measSlotGrant t amb) s ((s.adv t).measSlot (s.adv t).slotChans amb) := by
  change execMeasSlotGrant t amb s = _
  refine happen_eq hon (if_neg ?_)
  rw [hcols, hslot, hfree, hfirst, hrun]
  simpa using hpwr

theorem columnDone_takes {t k j : Nat} {x : HelSlot} {rest : List (Nat × Nat)} {v : Int × Int} {amps : List (Int × Int)}
    {s : State} (hon : Powered s) (hslot : (s.adv t).hel.slot = some x) (hcol : x.cols = (k, j) :: rest)
    (hlong : x.start + (s.adv t).colTicks k ≤ (s.adv t).now) :
    Does (.columnDone t v amps) s ((s.adv t).columnTaken k j rest v amps) := by
  change execColumnDone t v amps s = _
  refine happen_eq hon ?_
  simp only [hslot, hcol]
  exact if_neg (Nat.not_lt.mpr hlong)

/-- The front of the solve queue is taken off it, then solved; the zone's program does not rest on that queue (R90). -/
theorem zoneSolveDone_takes {t z k : Nat} {p : ZoneProg} {rest : List (Nat × Nat)} {s : State} (hon : Powered s)
    (hfront : (s.adv t).hel.solves = (z, k) :: rest) (hprog : (s.adv t).zoneProg z = some p) :
    Does (.zoneSolveDone t) s
      (({ (s.adv t) with hel := { (s.adv t).hel with solves := rest } } : State).solveTaken z k p) := by
  have hprog' : ({ (s.adv t) with hel := { (s.adv t).hel with solves := rest } } : State).zoneProg z = some p := hprog
  change execZoneSolveDone t s = _
  refine happen_eq hon ?_
  simp only [hfront, hprog']

/-- Settles O3: row by row; the rows without a condition of their own are the happening's effect as it stands. -/
theorem heliostatCommandsTakeEffect : Obligations.HeliostatCommandsTakeEffect := by
  unfold Obligations.HeliostatCommandsTakeEffect
  exact ⟨fun _ _ _ _ _ hon hex => loopUpdate_takes hon hex,
    fun _ _ _ hon hn hst => trip_trips hon hn hst,
    fun _ _ _ hon hdrive => lockGuard_stops hon hdrive,
    fun _ n mode _ hon _ _ => happen_eq (f := (·.channelMode n mode)) hon rfl,
    fun _ _ _ _ hon htest hlong => testTimeout_ends hon htest hlong,
    fun _ _ hon => happen_eq (f := State.calAll) hon rfl,
    fun _ _ _ hon hn => helCalOne_queues hon hn,
    fun _ _ _ _ _ _ _ _ hon hwait hdrive hslot => tuningCalDone_takes hon hwait hdrive hslot,
    fun _ w high _ hon => happen_eq (f := (·.quarClear high w)) hon rfl,
    fun _ _ hon => happen_eq (f := State.measAll) hon rfl,
    fun _ _ _ hon hn => measOne_queues hon hn,
    fun _ _ hon hrun hlong hpwr => remeasPeriod_queues hon hrun hlong hpwr,
    fun _ _ _ hon hcols hslot hfree hfirst hpwr hrun => measSlotGrant_grants hon hcols hslot hfree hfirst hpwr hrun,
    fun _ _ _ _ _ _ _ _ hon hslot hcol hlong => columnDone_takes hon hslot hcol hlong,
    fun _ _ hon => happen_eq (f := State.solveAll) hon rfl,
    fun _ z _ hon => happen_eq (f := (·.resolveZone z)) hon rfl,
    fun _ _ _ _ _ _ hon hfront hprog => zoneSolveDone_takes hon hfront hprog⟩

end Sys2Proof.Machine
end

section
/-! PROOFS. LF polling and receive commands (O4). -/

namespace Sys2Proof.Machine

open Safety

theorem pollOwnerRequest_asks {t e : Nat} {s : State} (hon : Powered s) (hpoll : (s.adv t).pollOn e = true)
    (hnear : (s.adv t).nextDue e ((s.adv t).now / msT 1) * msT 1 ≤ (s.adv t).now + msT 2) (hpwr : (s.adv t).pwrState ≤ psS1)
    (hnew : (s.adv t).lfp.polls.any
      (fun p => p.entry == e && p.due == (s.adv t).nextDue e ((s.adv t).now / msT 1) * msT 1) = false) :
    Does (.pollOwnerRequest t e) s { (s.adv t) with lfp := { (s.adv t).lfp with
      polls := (s.adv t).lfp.polls ++
        [⟨e, (s.adv t).nextDue e ((s.adv t).now / msT 1) * msT 1, true, none, false, false, []⟩] } } := by
  change execPollOwnerRequest t e s = _
  refine happen_eq hon (if_pos ?_)
  rw [hpoll, hnew, decide_eq_true hnear, decide_eq_true hpwr]
  rfl

/-- What lets the poll of an entry fall due outside S3 (R117). -/
theorem State.pollDue_guard {s : State} {e ms : Nat} (hpoll : s.pollOn e = true) (hdue : s.dueMs e ms = true)
    (hpwr : s.pwrState ≤ psS1) :
    (s.pollOn e && s.dueMs e ms &&
      (decide (s.pwrState ≤ psS1) || (s.pwrState == psS3 && e == s.rd LFP_CTL.S3_ENTRY))) = true := by
  rw [hpoll, hdue, decide_eq_true hpwr]
  rfl

/-- A poll that nobody asked for enters the list when it falls due (R117). -/
theorem pollDue_adds {t e : Nat} {s : State} (hon : Powered s) (hpoll : (s.adv t).pollOn e = true)
    (hdue : (s.adv t).dueMs e ((s.adv t).now / msT 1) = true) (hpwr : (s.adv t).pwrState ≤ psS1)
    (hnew : (s.adv t).lfp.polls.any (fun p => p.entry == e && p.due == (s.adv t).now / msT 1 * msT 1) = false) :
    Does (.pollDue t e) s { (s.adv t) with lfp := { (s.adv t).lfp with
      polls := (s.adv t).lfp.polls ++ [⟨e, (s.adv t).now / msT 1 * msT 1, false, none, true, false, []⟩] } } := by
  change execPollDue t e s = _
  exact happen_eq hon ((if_pos (State.pollDue_guard hpoll hdue hpwr)).trans (if_neg (Bool.not_eq_true _ ▸ hnew)))

/-- A poll that was asked for is marked due (R117, R118). -/
theorem pollDue_marks {t e : Nat} {s : State} (hon : Powered s) (hpoll : (s.adv t).pollOn e = true)
    (hdue : (s.adv t).dueMs e ((s.adv t).now / msT 1) = true) (hpwr : (s.adv t).pwrState ≤ psS1)
    (hasked : (s.adv t).lfp.polls.any (fun p => p.entry == e && p.due == (s.adv t).now / msT 1 * msT 1) = true) :
    Does (.pollDue t e) s { (s.adv t) with lfp := { (s.adv t).lfp with
      polls := (s.adv t).lfp.polls.map
        (fun p => if p.entry = e ∧ p.due = (s.adv t).now / msT 1 * msT 1 then { p with isDue := true } else p) } } := by
  change execPollDue t e s = _
  exact happen_eq hon ((if_pos (State.pollDue_guard hpoll hdue hpwr)).trans (if_pos hasked))

theorem pollSkip_skips {t e : Nat} {q : LfpPoll} {s : State} (hon : Powered s)
    (hlate : (s.adv t).lfp.polls.find? (fun p => p.entry == e && p.isDue &&
      decide ((s.adv t).now ≥ p.due + msT ((s.adv t).pollPeriod e))) = some q) :
    Does (.pollSkip t e) s ((s.adv t).skipPoll q) := by
  change execPollSkip t e s = _
  refine happen_eq hon ?_
  rw [hlate]

/-- The item that is picked stands for a window, whose exchange is committed (R120). -/
theorem State.opportunity_of_window {s : State} {i : LfpItem} {n : Nat} {w : LfpWin}
    (hpick : s.pickItem s.slotRank s.lfpItems [] false = some i) (hwin : i.win = some n) (hw : s.winOf n = some w) :
    s.opportunity = s.commitWin w := by
  simp only [State.opportunity, hpick, hwin, hw]

/-- The item that is picked stands for a poll that is due, which is committed (R120). -/
theorem State.opportunity_of_poll {s : State} {i : LfpItem} {p : LfpPoll}
    (hpick : s.pickItem s.slotRank s.lfpItems [] false = some i) (hwin : i.win = none)
    (hp : s.lfp.polls.find? (fun p => p.isDue && p.entry == i.entry) = some p) : s.opportunity = s.commitPoll p := by
  simp only [State.opportunity, hpick, hwin, hp]

/-- A window without a carrier to keep is committed on the carrier that R125 picks. -/
theorem State.commitWin_of_pickCar {s : State} {w : LfpWin} {k : Nat} (hkeep : w.keep = none)
    (hcar : s.pickCar w.zone w.tried = some k) :
    s.commitWin w = ((s.putEx w.zone k w.entry (some (w.session, w.gen)) w.rate w.fmt w.arb).updWin w.session
      (fun w => { w with tries := w.tries + 1, keep := none, hop := false, deferred := false })).ownerWakes w.session := by
  simp only [State.commitWin, hkeep, hcar]

theorem exchangeCommit_takes {t : Nat} {s u : State} (hon : Powered s) (hrun : (s.adv t).running 0x03 = true)
    (hu : (s.adv t).opportunity = u) : Does (.exchangeCommit t) s u := by
  change execExchangeCommit t s = _
  exact happen_eq hon ((if_pos (by rw [hrun, Bool.true_or])).trans hu)

/-- A session that waits in IDLE without a window opens one (R119). -/
theorem directedWake_opens {t n : Nat} {c : Ctx} {wid rate md fmt : Option Nat} {s : State} (hon : Powered s)
    (hctx : (s.adv t).ctx? n = some c) (hkind : c.kind = 1) (hstate : c.state = ssIdle) (hwin : (s.adv t).winOf n = none)
    (hopen : c.openEarly = true) (hrun : (s.adv t).running 0x03 = true)
    (hzone : (s.adv t).rd HEL_ZONE_STAT.STATE c.zone ≠ 4) :
    Does (.directedWake t n wid rate md fmt) s ((s.adv t).wakeOpened n c wid rate md fmt) := by
  change execDirectedWake t n wid rate md fmt s = _
  refine happen_eq hon ?_
  simp only [hctx]
  rw [if_neg (by simp [hkind, hstate, hwin, hopen]), if_neg (by simp [hrun]), if_neg hzone]

theorem wakeWindowExpired_aborts {t n : Nat} {w : LfpWin} {s : State} (hon : Powered s) (hw : (s.adv t).winOf n = some w)
    (hover : (s.adv t).winOver w = true) (hidle : (s.adv t).exRuns n w.gen = false) :
    Does (.wakeWindowExpired t n) s (((s.adv t).dropWin n).abort n ccTimeout) := by
  change execWakeWindowExpired t n s = _
  refine happen_eq hon ?_
  simp [hw, hover, hidle]

/-- A start of frame within the turnaround window starts the reception (R113). -/
theorem sofDetected_starts {t z : Nat} {e : LfpEx} {s : State} (hon : Powered s) (hex : (s.adv t).exOf z = some e)
    (hsof : e.sof = none) (hend : e.ended = false) (hopen : e.closed = false) (hlo : (s.adv t).turnLo e ≤ (s.adv t).now)
    (hhi : (s.adv t).now ≤ (s.adv t).turnHi e) :
    Does (.sofDetected t z) s ((s.adv t).updEx z (fun e => { e with sof := some (s.adv t).now })) := by
  change execSofDetected t z s = _
  refine happen_eq hon ?_
  simp [hex, hsof, hend, hopen, hlo, hhi]

/-- A start of frame in the guard cell after the window is late (R113). -/
theorem sofDetected_late {t z : Nat} {e : LfpEx} {s : State} (hon : Powered s) (hex : (s.adv t).exOf z = some e)
    (hsof : e.sof = none) (hend : e.ended = false) (hclosed : e.closed = true)
    (hlo : (s.adv t).turnLo e ≤ (s.adv t).now) (hhi : (s.adv t).turnHi e < (s.adv t).now)
    (hguard : (s.adv t).now ≤ (s.adv t).turnHi e + cellT e.rate) :
    Does (.sofDetected t z) s
      ((((s.adv t).bump LFP_CNT_LATE.COUNT).irq LFP_IRQ_STAT.LATE).lfpEvent lkLate e.car 0 z e.entry e.session 0) := by
  change execSofDetected t z s = _
  refine happen_eq hon ?_
  simp [hex, hsof, hend, hclosed, hlo, hhi, hguard]

/-- Without power in the band and without a poll's owner to return, the end of the turnaround closes the window alone
(R113, R126). -/
theorem turnaroundExpired_closes {t z pow : Nat} {e : LfpEx} {s : State} (hon : Powered s)
    (hex : (s.adv t).exOf z = some e) (hsof : e.sof = none) (hopen : e.closed = false)
    (hhi : (s.adv t).turnHi e ≤ (s.adv t).now) (hpow : pow < (s.adv t).rd LFP_DROWN_CFG.INT_DB)
    (howner : (e.owned && !e.void && e.entry.isSome) = false) :
    Does (.turnaroundExpired t z pow) s ((s.adv t).updEx z (fun e => { e with closed := true })) := by
  have hnone : ¬ (e.owned = true ∧ (!e.void) = true ∧ e.entry.isSome = true) := by
    rw [← and_assoc, ← Bool.and_eq_true, ← Bool.and_eq_true, howner]
    exact Bool.false_ne_true
  change execTurnaroundExpired t z pow s = _
  refine happen_eq hon ?_
  simp only [hex, hsof, hopen, Option.isSome_none, Bool.false_eq_true, Nat.not_lt.mpr hhi, Nat.not_le.mpr hpow, hnone,
    or_self, if_false]

theorem replyReceived_takes {t z body er viol ch a : Nat} {snr : List Int} {e : LfpEx} {s : State} (hon : Powered s)
    (hex : (s.adv t).exOf z = some e) (hsof : e.sof = some a) (hend : e.ended = false)
    (hwhole : a + cellT e.rate * (bodyBits e.fmt + 1) ≤ (s.adv t).now) (her : er < (s.adv t).eraseMax) :
    Does (.replyReceived t z body er viol ch snr) s ((s.adv t).replyTaken z e a body er viol ch snr) := by
  change execReplyReceived t z body er viol ch snr s = _
  refine happen_eq hon ?_
  simp only [hex, hsof, hend, Bool.false_eq_true, Nat.not_lt.mpr hwhole, Nat.not_le.mpr her, or_self, if_false]

/-- Too many erasures drown an exchange whose reply is under way (R126). -/
theorem drown_drowns {t z er pow a : Nat} {snr : Int} {e : LfpEx} {s : State} (hon : Powered s)
    (hex : (s.adv t).exOf z = some e) (hsof : e.sof = some a) (hend : e.ended = false)
    (her : (s.adv t).eraseMax ≤ er) :
    Does (.drown t z er snr pow) s ((s.adv t).drowned e) := by
  change execDrown t z er snr pow s = _
  refine happen_eq hon ?_
  simp [hex, hsof, hend, her]

theorem hopResend_commits {t n : Nat} {w : LfpWin} {s : State} (hon : Powered s) (hw : (s.adv t).winOf n = some w)
    (hhop : w.hop = true) (hgap : w.next ≤ (s.adv t).now) (hover : (s.adv t).winOver w = false)
    (hidle : (s.adv t).exRuns n w.gen = false) (hup : (s.adv t).zoneUp w.zone = true)
    (hfree : (s.adv t).zoneFree w.zone = true) (hpause : w.pauseFrom = none) :
    Does (.hopResend t n) s ((s.adv t).commitWin w) := by
  change execHopResend t n s = _
  refine happen_eq hon ?_
  simp [hw, hhop, hgap, hover, hidle, hup, hfree, hpause]

/-- A burst ends at its planned end once no reply is under way and the turnaround is over (R107, R113). -/
theorem burstEnd_ends {t z : Nat} {e : LfpEx} {s : State} (hon : Powered s) (hex : (s.adv t).exOf z = some e)
    (hplan : (s.adv t).plannedEnd e ≤ (s.adv t).now) (hreply : (e.sof.isSome && !e.ended) = false)
    (hturn : (e.sof.isNone && !e.closed) = false) :
    Does (.burstEnd t z) s ((s.adv t).burstOver z e) := by
  change execBurstEnd t z s = _
  refine happen_eq hon ?_
  simp only [hex, ← Bool.and_eq_true, hreply, hturn, Bool.false_eq_true, Nat.not_lt.mpr hplan, or_self, if_false]

theorem lfpHopWrite_writes {t k carrier : Nat} {s : State} (hon : Powered s) (hlock : (s.adv t).on LFP_CTL.LOCK = false)
    (hk : k < 3) :
    Does (.lfpHopWrite t k carrier) s
      ({ (s.adv t).wr LFP_HOP.CARRIER carrier k with
        lfp := { (s.adv t).lfp with hopOld := SMap.put (s.adv t).lfp.hopOld k ((s.adv t).hopCar k) } } : State).hopApply := by
  change execLfpHopWrite t k carrier s = _
  refine happen_eq hon ?_
  simp [State.hopWrite, hlock, Nat.not_le.mpr hk]

theorem monitorRun_takes {t : Nat} {noise : List Int} {spurs : List (Nat × Nat)} {s : State} (hon : Powered s)
    (hrun : (s.adv t).running 0x03 = true) (hpwr : (s.adv t).pwrState < psS2) :
    Does (.monitorRun t noise spurs) s ((s.adv t).monitorTaken noise spurs) := by
  change execMonitorRun t noise spurs s = _
  exact happen_eq hon (if_neg (not_or.mpr ⟨by simp [hrun], Nat.not_le.mpr hpwr⟩))

/-- A fault of one of the three kinds on a driving channel counts (R128). -/
theorem coilFault_faults {t n kind : Nat} {s : State} (hon : Powered s) (hkind : kind = 1 ∨ kind = 2 ∨ kind = 3)
    (hdrive : (s.adv t).driving n = true) :
    Does (.coilFault t n kind) s ((s.adv t).coilFaulted n kind) := by
  change execCoilFault t n kind s = _
  refine happen_eq hon (if_neg ?_)
  rw [hdrive, Bool.true_or]
  exact not_or.mpr ⟨by omega, not_or.mpr ⟨by omega, Bool.false_ne_true⟩⟩

/-- Settles O4: row by row; a commit takes the picked item's window or poll (R120). -/
theorem pollingCommandsTakeEffect : Obligations.PollingCommandsTakeEffect := by
  unfold Obligations.PollingCommandsTakeEffect
  exact ⟨fun _ _ _ hon hpoll hnear hpwr hnew => pollOwnerRequest_asks hon hpoll hnear hpwr hnew,
    fun _ _ _ hon hpoll hdue hpwr hnew => pollDue_adds hon hpoll hdue hpwr hnew,
    fun _ _ _ hon hpoll hdue hpwr hasked => pollDue_marks hon hpoll hdue hpwr hasked,
    fun _ _ _ _ hon hlate => pollSkip_skips hon hlate,
    fun _ _ _ _ _ _ hon hrun hpick hwin hw hkeep hcar =>
      exchangeCommit_takes hon hrun
        ((State.opportunity_of_window hpick hwin hw).trans (State.commitWin_of_pickCar hkeep hcar)),
    fun _ _ _ _ _ _ _ hon hrun hpick hwin hp _ _ _ =>
      exchangeCommit_takes hon hrun (State.opportunity_of_poll hpick hwin hp),
    fun _ _ _ _ _ _ _ _ hon hctx hkind hstate hwin hopen hrun hzone =>
      directedWake_opens hon hctx hkind hstate hwin hopen hrun hzone,
    fun _ _ _ _ hon hw hover hidle => wakeWindowExpired_aborts hon hw hover hidle,
    fun _ _ _ _ hon hex hsof hend hopen hlo hhi => sofDetected_starts hon hex hsof hend hopen hlo hhi,
    fun _ _ _ _ hon hex hsof hend hclosed hlo hhi hguard => sofDetected_late hon hex hsof hend hclosed hlo hhi hguard,
    fun _ _ _ _ _ hon hex hsof hopen hhi hpow howner => turnaroundExpired_closes hon hex hsof hopen hhi hpow howner,
    fun _ _ _ _ _ _ _ _ _ _ hon hex hsof hend hwhole her => replyReceived_takes hon hex hsof hend hwhole her,
    fun _ _ _ _ _ _ _ _ hon hex hsof hend her => drown_drowns hon hex hsof hend her,
    fun _ _ _ _ hon hw hhop hgap hover hidle hup hfree hpause =>
      hopResend_commits hon hw hhop hgap hover hidle hup hfree hpause,
    fun _ _ _ _ hon hex hplan hreply hturn => burstEnd_ends hon hex hplan hreply hturn,
    fun _ _ _ _ hon hlock hk => lfpHopWrite_writes hon hlock hk,
    fun _ _ _ _ hon hrun hpwr => monitorRun_takes hon hrun hpwr,
    fun _ _ _ _ hon hkind hdrive => coilFault_faults hon hkind hdrive⟩

end Sys2Proof.Machine
end

section
/-! PROOFS. Radio commands (O5). -/

namespace Sys2Proof.Machine

open Safety

theorem radCalAll_queues {t : Nat} {s : State} (hon : Powered s) :
    Does (.radCalAll t) s (((List.range 20).foldl State.calQueue (s.adv t)).calPump) := by
  change execRadCalAll t s = _
  exact happen_eq hon rfl

theorem radCalOne_queues {t trx : Nat} {s : State} (hon : Powered s) :
    Does (.radCalOne t trx) s (((s.adv t).calQueue trx).calPump) := by
  change execRadCalOne t trx s = _
  exact happen_eq hon rfl

/-- No instance of a field lies where the first instance of a field of an earlier register does. -/
theorem Fld.key_ne_of_off_lt {f g : Fld} (i j : Nat) (hoff : g.off < f.off) (hlo : g.lo < 32) :
    f.key i j ≠ g.key 0 0 := by
  unfold Fld.key
  omega

/-- A write to a register leaves the first instance of every field of an earlier one. -/
theorem State.rd_wr_of_off_lt (s : State) {f g : Fld} (v i j : Nat) (hoff : g.off < f.off) (hlo : g.lo < 32) :
    (s.wr f v i j).rd g = s.rd g :=
  State.rd_wr_other s _ _ _ _ _ _ _ (Fld.key_ne_of_off_lt i j hoff hlo).symm

/-- The report of a die temperature leaves every field of a later register. -/
theorem State.rd_wr_temp (s : State) {f : Fld} (v i j : Nat) (hoff : RAD_TEMP.TEMP.off < f.off) :
    (s.wr RAD_TEMP.TEMP v).rd f i j = s.rd f i j :=
  State.rd_wr_other s _ _ _ _ _ _ _ (Fld.key_ne_of_off_lt i j hoff (by decide))

/-- A die temperature that moved by CAL_DT since the last passing calibration queues another one (R165). -/
theorem tempCalTrigger_queues {t trx : Nat} {temp : Int} {s : State} (hon : Powered s) (htrx : trx < 20)
    (hvalid : (s.adv t).rd RAD_TRX_CAL.VALID trx = 15)
    (hmoved : (temp - 10 * toSigned 8 ((s.adv t).rd RAD_TRX_CAL.TEMP trx)).natAbs ≥
      10 * clampTo 1 40 ((s.adv t).rd RAD_CAL_CFG.CAL_DT)) :
    Does (.tempCalTrigger t trx temp) s ((((s.adv t).wr RAD_TEMP.TEMP (ofSigned 16 temp)).calQueue trx).calPump) := by
  change execTempCalTrigger t trx temp s = _
  refine happen_eq hon (if_pos ⟨htrx, ?_, ?_⟩)
  · rw [State.rd_wr_temp _ _ _ _ (by decide), hvalid]
  · rwa [State.rd_wr_temp _ _ _ _ (by decide), State.rd_wr_of_off_lt _ _ _ _ (by decide) (by decide)]

theorem calItemDone_takes {t trx i rl : Nat} {pre : Bool} {vals : List Int} {temp : Int} {s : State} (hon : Powered s)
    (hitem : ((s.adv t).trx trx).calItem = some i) :
    Does (.calItemDone t trx pre vals rl temp) s ((s.adv t).calItemTaken trx i pre vals rl temp) := by
  change execCalItemDone t trx pre vals rl temp s = _
  refine happen_eq hon ?_
  rw [hitem]

/-- RAD answers a state request, whether it takes or refuses it (R141). -/
theorem stateRequest_answers {t trx owner target ch9 freq step air follow mod dev rate : Nat} {hold : Bool} {s : State}
    (hon : Powered s) (htrx : trx < 20) :
    Does (.stateRequest t trx owner target ch9 freq step air follow hold mod dev rate) s
      ((s.adv t).radRequest trx ⟨owner, target, ch9 % 2, freq, step, air, follow, hold, mod, dev, rate⟩).2 := by
  change execStateRequest t trx owner target ch9 freq step air follow hold mod dev rate s = _
  exact happen_eq hon (if_pos htrx)

/-- A step that waits for no lock, or has it, ends at its tabled time (R139). -/
theorem stepComplete_reaches {t trx d : Nat} {lock : Bool} {s : State} (hon : Powered s) (htrx : trx < 20)
    (hdest : ((s.adv t).trx trx).dest = some d)
    (hdue : ((s.adv t).trx trx).start + ((s.adv t).trx trx).dur ≤ (s.adv t).now)
    (hext : ((s.adv t).trx trx).ext = false) (hlock : (s.adv t).needsLock trx = false ∨ lock = true) :
    Does (.stepComplete t trx lock) s
      (((s.adv t).reached trx d (((s.adv t).trx trx).start + ((s.adv t).trx trx).dur)).calPump) := by
  have hgo : ((s.adv t).needsLock trx && !lock) = false := by
    rcases hlock with h | h <;> simp [h]
  change execStepComplete t trx lock s = _
  refine happen_eq hon ?_
  simp only [hdest, hext, hgo, Nat.not_le.mpr htrx, Nat.not_lt.mpr hdue, Bool.false_eq_true, or_self, if_false]

/-- A lock within the extension ends the step at once (R140). -/
theorem lateLock_reaches {t trx d : Nat} {s : State} (hon : Powered s) (htrx : trx < 20)
    (hdest : ((s.adv t).trx trx).dest = some d) (hext : ((s.adv t).trx trx).ext = true)
    (hin : (s.adv t).now ≤ ((s.adv t).trx trx).start + 2 * ((s.adv t).trx trx).dur) :
    Does (.lateLock t trx) s ((s.adv t).reached trx d (s.adv t).now) := by
  change execLateLock t trx s = _
  refine happen_eq hon ?_
  simp only [hdest]
  exact if_pos ⟨htrx, hext, hin⟩

theorem synthLockTimeout_faults {t trx : Nat} {s : State} (hon : Powered s) (htrx : trx < 20)
    (hdest : ((s.adv t).trx trx).dest.isSome = true) (hext : ((s.adv t).trx trx).ext = true)
    (hover : ((s.adv t).trx trx).start + 2 * ((s.adv t).trx trx).dur ≤ (s.adv t).now) :
    Does (.synthLockTimeout t trx) s ((s.adv t).lockLost trx) := by
  change execSynthLockTimeout t trx s = _
  exact happen_eq hon (if_pos ⟨htrx, hdest, hext, hover⟩)

theorem synthHoldExpired_lowers {t trx : Nat} {s : State} (hon : Powered s)
    (hidle : (s.adv t).idleOver trx rsSynth (usT (10 * orOne ((s.adv t).rd RAD_IDLE_CFG.SYNTH_HOLD))) = true) :
    Does (.synthHoldExpired t trx) s
      (((s.adv t).beginStep trx rsStandby (s.adv t).now).wr RAD_TRX_STAT.TARGET rsStandby trx) := by
  change execSynthHoldExpired t trx s = _
  exact happen_eq hon (if_pos hidle)

theorem stbyHoldExpired_lowers {t trx : Nat} {s : State} (hon : Powered s)
    (hidle : (s.adv t).idleOver trx rsStandby (msT (orOne ((s.adv t).rd RAD_IDLE_CFG.STBY_HOLD))) = true) :
    Does (.stbyHoldExpired t trx) s
      (((s.adv t).beginStep trx rsSleep (s.adv t).now).wr RAD_TRX_STAT.TARGET rsSleep trx) := by
  change execStbyHoldExpired t trx s = _
  exact happen_eq hon (if_pos hidle)

theorem park_parks {t trx : Nat} {on : Bool} {s : State} (hon : Powered s) (htrx : trx < 20) :
    Does (.park t trx on) s ((s.adv t).park trx on) := by
  change execPark t trx on s = _
  exact happen_eq hon (if_pos htrx)

/-- A UWB transceiver that stays 200 µs in the rapid-bit state leaves it for SYNTH, and its owner learns TIMEOUT (R147). -/
theorem rapidBitTimeout_ends {t trx : Nat} {s : State} (hon : Powered s) (htrx : trx < 16)
    (hst : (s.adv t).trxState trx = rsRapid) (hdest : ((s.adv t).trx trx).dest = none)
    (hlong : ((s.adv t).trx trx).idleFrom + usT 200 ≤ (s.adv t).now) :
    Does (.rapidBitTimeout t trx) s
      (((((s.adv t).updTrx trx (fun x => { x with follow := rsSynth })).frameOver trx false).wr
        RAD_TRX_STAT.LAST_CODE ccTimeout trx).radTell trx ccTimeout dbRbTimeout) := by
  change execRapidBitTimeout t trx s = _
  exact happen_eq hon (if_pos ⟨htrx, hst, Option.isNone_iff_eq_none.mpr hdest, hlong⟩)

theorem transmissionEnd_ends {t trx : Nat} {s : State} (hon : Powered s) (htrx : trx < 20)
    (hst : (s.adv t).trxState trx = rsTransmit) :
    Does (.transmissionEnd t trx) s (((s.adv t).frameOver trx false).pollOver trx) := by
  change execTransmissionEnd t trx s = _
  exact happen_eq hon (if_pos ⟨htrx, .inl hst⟩)

theorem transmissionCut_cuts {t trx : Nat} {s : State} (hon : Powered s) (htrx : trx < 20)
    (hlimit : (s.adv t).overLimit trx = true) :
    Does (.transmissionCut t trx) s (((s.adv t).cutTx trx).radTell trx ccRegLimit dbRefused) := by
  change execTransmissionCut t trx s = _
  exact happen_eq hon (if_pos ⟨htrx, hlimit⟩)

/-- A grant makes a running calibration yield, and names the owner (R143, R168). -/
theorem State.grantTrx_of_grantable {s : State} {trx : Nat} (owner : Nat) (hgrant : s.grantable trx = true) :
    s.grantTrx trx owner = (s.calYield trx).wr RAD_TRX_STAT.OWNER owner trx :=
  if_pos hgrant

theorem ownershipGrant_grants {t trx owner : Nat} {s : State} (hon : Powered s) (htrx : trx < 20)
    (hlo : owTrn ≤ owner) (hhi : owner ≤ owShu) (hgrant : (s.adv t).grantable trx = true) :
    Does (.ownershipGrant t trx owner) s (((s.adv t).calYield trx).wr RAD_TRX_STAT.OWNER owner trx) := by
  change execOwnershipGrant t trx owner s = _
  exact happen_eq hon ((if_pos ⟨htrx, hlo, hhi⟩).trans (State.grantTrx_of_grantable owner hgrant))

/-- An owner names the next one (R143). -/
theorem handover_passes {t trx owner : Nat} {s : State} (hon : Powered s) (htrx : trx < 20)
    (hlo : owTrn ≤ (s.adv t).owner trx) (hhi : (s.adv t).owner trx ≤ owShu) (hnext : owner ≤ owShu) (hsome : owner ≠ owNone) :
    Does (.handover t trx owner) s ((s.adv t).wr RAD_TRX_STAT.OWNER owner trx) := by
  change execHandover t trx owner s = _
  exact happen_eq hon ((if_pos ⟨htrx, hlo, hhi, hnext⟩).trans (if_neg hsome))

/-- An owner that names none hands the transceiver back (R143, R145). -/
theorem handover_handsBack {t trx : Nat} {s : State} (hon : Powered s) (htrx : trx < 20)
    (hlo : owTrn ≤ (s.adv t).owner trx) (hhi : (s.adv t).owner trx ≤ owShu) :
    Does (.handover t trx owNone) s ((((s.adv t).handBack trx).calPump).btnHold trx) := by
  change execHandover t trx owNone s = _
  exact happen_eq hon ((if_pos ⟨htrx, hlo, hhi, by decide⟩).trans (if_pos rfl))

/-- Outside S3 a whole UHF frame passes to the sessions that own its transceiver (R150). -/
theorem uhfFrameReceived_passes {t trx check : Nat} {payload : List Byte} {s : State} (hon : Powered s) (hlo : 16 ≤ trx)
    (hhi : trx < 20) (hsome : 0 < payload.length) (hlen : payload.length ≤ 255) (hawake : (s.adv t).pwrState ≠ psS3)
    (hst : (s.adv t).trxState trx = rsReceive) (howner : (s.adv t).owner trx = owSes)
    (hcheck : (s.adv t).uhfCheck trx payload check = true) :
    Does (.uhfFrameReceived t trx 0 payload check) s ((s.adv t).buttonFrame payload (s.adv t).now) := by
  change execUhfFrameReceived t trx 0 payload check s = _
  refine happen_eq hon ((if_neg ?fits).trans <| (if_neg hawake).trans <| (if_neg (not_not.mpr hst)).trans <|
    (if_neg ?checked).trans <| if_pos howner)
  case fits => simp [Nat.not_lt.mpr hlo, Nat.not_le.mpr hhi, Nat.ne_of_gt hsome, Nat.not_lt.mpr hlen]
  case checked => simp [hcheck]

@[simp] theorem State.s3Trx_wr_owner (s : State) (o i : Nat) : (s.wr RAD_TRX_STAT.OWNER o i).s3Trx = s.s3Trx := by
  unfold State.s3Trx
  rw [State.rd_wr_of_off_lt _ _ _ _ (by decide) (by decide)]

/-- The watch transceiver of S3 climbs, listens and sleeps again once in its period (R171). -/
theorem watchCycle_listens {t : Nat} {s : State} (hon : Powered s) (hwatch : (s.adv t).pwrState = psS3)
    (hdue : (s.adv t).rad.watchAt + msT (max 10 ((s.adv t).rd RAD_S3_CFG.S3_PERIOD)) ≤ (s.adv t).now) :
    Does (.watchCycle t) s
      ((({ (s.adv t) with rad := { (s.adv t).rad with watchAt := (s.adv t).now } } : State).wr
        RAD_TRX_STAT.OWNER owWatch (s.adv t).s3Trx).wr64 RAD_TRX_STAMP_LO.STAMP RAD_TRX_STAMP_HI.STAMP
        ((s.adv t).now + usT 1610 + usT (100 * orOne ((s.adv t).rd RAD_S3_CFG.S3_ON)) + usT 22) (s.adv t).s3Trx) := by
  change execWatchCycle t s = _
  refine happen_eq hon ((if_pos ⟨hwatch, hdue⟩).trans ?_)
  simp only [State.now_wr, State.s3Trx_wr_owner]
  rw [State.rd_wr_of_off_lt _ _ _ _ (by decide) (by decide)]
  rfl

/-- A passed boundary makes the present minute the one the ledgers count in (R162). -/
theorem ledgerMinute_counts {t : Nat} {s : State} (hon : Powered s)
    (hover : (s.adv t).now / minuteTicks ≠ (s.adv t).rad.minute) :
    Gives (exec (.ledgerMinute t) s) (fun s' => s'.rad.minute = (s.adv t).now / minuteTicks) := by
  change Gives (execLedgerMinute t s) _
  exact ⟨_, happen_eq hon (if_neg hover), rfl⟩

theorem currentBinWrite_writes {t trx b : Nat} {l : Ledger} {s : State} (hon : Powered s) (htrx : trx < 20) (hb : b < 8)
    (hl : (s.adv t).countRunning.ledger trx b = l)
    (hgrown : 0 < l.bins.getD ((s.adv t).countRunning.rad.minute % 60) 0 - l.written)
    (hshare : (s.adv t).countRunning.allowance trx b / 64 ≤
      l.bins.getD ((s.adv t).countRunning.rad.minute % 60) 0 - l.written) :
    Does (.currentBinWrite t trx b) s ((s.adv t).countRunning.ledWrite trx b) := by
  subst hl
  change execCurrentBinWrite t trx b s = _
  exact happen_eq hon (if_pos ⟨htrx, hb, hgrown, hshare⟩)

/-- Settles O5: row by row; a row that writes a register before it reads reads other registers only (R165, R171). -/
theorem radioCommandsTakeEffect : Obligations.RadioCommandsTakeEffect := by
  unfold Obligations.RadioCommandsTakeEffect
  exact ⟨fun _ _ hon => radCalAll_queues hon,
    fun _ _ _ hon _ => radCalOne_queues hon,
    fun _ _ _ _ hon htrx hvalid hmoved => tempCalTrigger_queues hon htrx hvalid hmoved,
    fun _ _ _ _ _ _ _ _ hon hitem => calItemDone_takes hon hitem,
    fun _ _ _ _ _ _ _ _ _ _ _ _ _ _ hon htrx _ => stateRequest_answers hon htrx,
    fun _ _ _ _ _ hon htrx hdest hdue hext hlock => stepComplete_reaches hon htrx hdest hdue hext hlock,
    fun _ _ _ _ hon htrx hdest hext hin => lateLock_reaches hon htrx hdest hext hin,
    fun _ _ _ hon htrx hdest hext hover => synthLockTimeout_faults hon htrx hdest hext hover,
    fun _ _ _ hon hidle => synthHoldExpired_lowers hon hidle,
    fun _ _ _ hon hidle => stbyHoldExpired_lowers hon hidle,
    fun _ _ _ _ hon htrx => park_parks hon htrx,
    fun _ _ _ hon htrx hst hdest hlong => rapidBitTimeout_ends hon htrx hst hdest hlong,
    fun _ _ _ hon htrx hst => transmissionEnd_ends hon htrx hst,
    fun _ _ _ hon htrx hlimit => transmissionCut_cuts hon htrx hlimit,
    fun _ _ _ _ hon htrx hlo hhi hgrant => ownershipGrant_grants hon htrx hlo hhi hgrant,
    fun _ _ _ _ hon htrx hlo hhi hnext hsome => handover_passes hon htrx hlo hhi hnext hsome,
    fun _ _ _ hon htrx hlo hhi => handover_handsBack hon htrx hlo hhi,
    fun _ _ _ _ _ _ hon hlo hhi hsync hsome hlen hawake hst howner hcheck =>
      hsync ▸ uhfFrameReceived_passes hon hlo hhi hsome hlen hawake hst howner hcheck,
    fun _ _ hon hwatch hdue => watchCycle_listens hon hwatch hdue,
    fun _ _ hon hover => ledgerMinute_counts hon hover,
    fun _ _ _ _ _ hon htrx hb hl hgrown hshare => currentBinWrite_writes hon htrx hb hl hgrown hshare⟩

end Sys2Proof.Machine
end

section
/-! PROOFS. Ranging commands (O6). -/

namespace Sys2Proof.Machine

open Safety

/-- A session in RANGE that holds its credit asks for its next exchange (R177). -/
theorem exchangeRequest_ranges {t n : Nat} {cap : Bool} {c : Ctx} {s : State} (hon : Powered s)
    (hctx : (s.adv t).ctx? n = some c) (hstate : c.state = ssRange) (hpend : bit c.pend pendTrn = true) :
    Does (.exchangeRequest t n cap) s ((s.adv t).rangeNext n cap) := by
  change execExchangeRequest t n cap s = _
  refine happen_eq hon ?_
  simp only [hctx]
  exact if_pos ⟨hstate, hpend⟩

/-- Otherwise a session's fallback with exchanges left asks for its next one (R177). -/
theorem exchangeRequest_fallsBack {t n k : Nat} {cap : Bool} {c : Ctx} {x : DbxEx} {s : State} (hon : Powered s)
    (hctx : (s.adv t).ctx? n = some c) (hrange : (decide (c.state = ssRange) && bit c.pend pendTrn) = false)
    (hfall : SMap.first (s.adv t).dbx.ex
      (fun _ x => x.session == n && x.gen == c.gen && x.fallback && decide (0 < x.left)) = some (k, x)) :
    Does (.exchangeRequest t n cap) s ((s.adv t).twrNext k x cap) := by
  have hno : ¬ (c.state = ssRange ∧ bit c.pend pendTrn = true) := by simpa using hrange
  change execExchangeRequest t n cap s = _
  refine happen_eq hon ?_
  simp only [hctx, hfall]
  exact if_neg hno

/-- A remote range is lost 5 ms after its exchange's planned end (R203). -/
theorem remoteRangeTimeout_loses {t n : Nat} {w : TrnAway} {s : State} (hon : Powered s)
    (haway : (s.adv t).trn.away.find? (fun w => w.session == n) = some w)
    (hlong : w.until' + msT 5 ≤ (s.adv t).now) :
    Does (.remoteRangeTimeout t n) s ((s.adv t).rangeLost w ccTimeout) := by
  change execRemoteRangeTimeout t n s = _
  refine happen_eq hon ?_
  simp only [haway]
  exact if_pos hlong

/-- An unguarded poll is committed from 6 µs before its start on, which is its slot's start and its offset (R177, R180). -/
theorem pollCommit_commits {t trx : Nat} {e : Exch} {s : State} (hon : Powered s) (hex : (s.adv t).exch trx = some e)
    (htrx : trx < 16) (hphase : e.phase = 0) (hdue : onGrid e.slot + 128 * e.r ≤ (s.adv t).now + usT 6)
    (hfree : (s.adv t).guarded = false) :
    Does (.pollCommit t trx) s ((s.adv t).pollGo trx e (onGrid e.slot + 128 * e.r)) := by
  change execPollCommit t trx s = _
  refine happen_eq hon ?_
  simp only [hex, hphase, hfree, Nat.not_le.mpr htrx, Nat.not_lt.mpr hdue, ne_eq, not_true, Bool.false_eq_true, or_self,
    if_false]

theorem finalSend_sends {t trx : Nat} {e : Exch} {s : State} (hon : Powered s) (hex : (s.adv t).exch trx = some e)
    (htrx : trx < 16) (hphase : e.phase = 4) (hfirst : e.finalTx = 0) (hvalid : e.void = false) :
    Does (.finalSend t trx) s ((s.adv t).finalGo trx e) := by
  change execFinalSend t trx s = _
  refine happen_eq hon ?_
  simp only [hex, hphase, hfirst, hvalid, Nat.not_le.mpr htrx, ne_eq, not_true, Bool.false_eq_true, or_self, if_false]

theorem respReceived_takes {t trx : Nat} {e : Exch} {rx : Reception} {s : State} (hon : Powered s)
    (hex : (s.adv t).exch trx = some e) (htrx : trx < 16) (hphase : e.phase = 2 ∨ e.phase = 3) :
    Does (.respReceived t trx rx) s ((s.adv t).respTaken trx e rx) := by
  change execRespReceived t trx rx s = _
  refine happen_eq hon ?_
  simp only [hex]
  exact if_neg (by omega)

/-- A report is taken under DS-TWR, once the final frame went out (R175, R177). -/
theorem reportReceived_takes {t trx : Nat} {e : Exch} {rx : Reception} {s : State} (hon : Powered s)
    (hex : (s.adv t).exch trx = some e) (htrx : trx < 16) (hds : e.ds = true) (hfinal : e.finalTx ≠ 0)
    (hphase : e.phase = 4 ∨ e.phase = 5) :
    Does (.reportReceived t trx rx) s ((s.adv t).reportTaken trx e rx) := by
  change execReportReceived t trx rx s = _
  refine happen_eq hon ?_
  simp only [hex, hds, Bool.not_true, Bool.false_eq_true, false_or]
  exact if_neg (by omega)

/-- While no final frame went out, the window of the frame that is missed counts from the poll's stamp (R190). -/
theorem noFrame_misses {t trx : Nat} {e : Exch} {s : State} (hon : Powered s) (hex : (s.adv t).exch trx = some e)
    (htrx : trx < 16) (hphase : e.phase = 2 ∨ e.phase = 3) (hfinal : e.finalTx = 0)
    (hover : e.pollTx + usT (s.adv t).replyUs + (s.adv t).rd TRN_DS_CFG.REPLY_TOL * ticksPerUs10 / 100 +
      16 * symChips (s.adv t).trnCode * 128 - (s.adv t).markerT - (s.adv t).dlyTx trx ≤ (s.adv t).now) :
    Does (.noFrame t trx) s ((s.adv t).frameMissed trx e) := by
  have hwaits : e.phase = 2 ∨ e.phase = 3 ∨ e.phase = 5 ∨ (e.phase = 4 ∧ e.finalTx ≠ 0) := by omega
  change execNoFrame t trx s = _
  refine happen_eq hon ?_
  simp only [hex]
  rw [if_neg (not_not.mpr hfinal)]
  exact if_neg (not_or.mpr ⟨Nat.not_le.mpr htrx, not_or.mpr ⟨not_not.mpr hwaits, Nat.not_lt.mpr hover⟩⟩)

/-- A retry after any failure but a saturated frame leaves the receive pad as it was, and counts (R189, R190). -/
theorem retry_restarts {t trx : Nat} {e : Exch} {s : State} (hon : Powered s) (hex : (s.adv t).exch trx = some e)
    (htrx : trx < 16) (hphase : e.phase = 9) (hfail : e.fail ≠ trSat) :
    Does (.retry t trx) s (((s.adv t).toSynth trx).startExch trx
      { e with retries := e.retries + 1, pollTx := 0, respRx := 0, finalTx := 0, nlos := false, fail := 0 }) := by
  change execRetry t trx s = _
  refine happen_eq hon ?_
  simp only [hex]
  rw [if_neg (not_or.mpr ⟨Nat.not_le.mpr htrx, not_not.mpr hphase⟩), if_neg hfail]

/-- A pre-arm whose session did not reach RANGE within the hold is handed back and counted (R199). -/
theorem prearmHoldExpired_releases {t n k : Nat} {p : PreArm} {s : State} (hon : Powered s)
    (hpre : SMap.first ((s.adv t).trn.pre ++ (s.adv t).trn.displaced) (fun _ p => p.session == n) = some (k, p))
    (hunused : (decide (ssRange ≤ ((s.adv t).ctx n).state) && (s.adv t).live n p.gen) = false)
    (hlong : p.since + msT (orOne ((s.adv t).rd TRN_PREARM_CFG.PREARM_HOLD)) ≤ (s.adv t).now) :
    Does (.prearmHoldExpired t n) s (((s.adv t).unPrearm n p.gen).bump TRN_CNT_PREARM.COUNT) := by
  have hno : ¬ (ssRange ≤ ((s.adv t).ctx n).state ∧ (s.adv t).live n p.gen = true) := by simpa using hunused
  change execPrearmHoldExpired t n s = _
  refine happen_eq hon ?_
  simp only [hpre]
  exact (if_neg hno).trans (if_pos hlong)

theorem antennaDelayWrite_writes {t trx : Nat} {rx : Bool} {v : Int} {s : State} (hon : Powered s) :
    Does (.antennaDelayWrite t trx rx v) s ((s.adv t).adlyWrite trx rx v) := by
  change execAntennaDelayWrite t trx rx v s = _
  exact happen_eq hon rfl

/-- A free transceiver is taken for its calibration (R193). -/
theorem State.trnCalStart_of_free {s : State} {k : Nat} (hk : s.rd TRN_CAL_CTL.TRX = k) (hnone : s.trn.cal = none)
    (hrun : s.running 0x05 = true) (hex : s.exch k = none) (hgrant : s.grantable k = true) :
    s.trnCalStart =
      ((({ s.grantTrx k owTrn with trn := { (s.grantTrx k owTrn).trn with cal := some k } } : State).wr
        TRN_STAT.CAL_BUSY 1).wr TRN_TRX_STAT.PHASE 7 k).toSynth k := by
  subst hk
  simp [State.trnCalStart, hnone, hrun, hex, hgrant]

theorem trnCalStart_starts {t : Nat} {s : State} (hon : Powered s) :
    Does (.trnCalStart t) s (s.adv t).trnCalStart := by
  change execTrnCalStart t s = _
  exact happen_eq hon rfl

theorem trnCalDone_takes {t k : Nat} {shots : List CalShot} {s : State} (hon : Powered s)
    (hcal : (s.adv t).trn.cal = some k) : Does (.trnCalDone t shots) s ((s.adv t).trnCalTaken k shots) := by
  change execTrnCalDone t shots s = _
  refine happen_eq hon ?_
  rw [hcal]

/-- Settles O6: row by row; an antenna delay write has no condition of its own, and a calibration starts on the
transceiver its register names. -/
theorem rangingCommandsTakeEffect : Obligations.RangingCommandsTakeEffect := by
  unfold Obligations.RangingCommandsTakeEffect
  exact ⟨fun _ _ _ _ _ hon hctx hstate hpend => exchangeRequest_ranges hon hctx hstate hpend,
    fun _ _ _ _ _ _ _ hon hctx hrange hfall => exchangeRequest_fallsBack hon hctx hrange hfall,
    fun _ _ _ _ hon haway hlong => remoteRangeTimeout_loses hon haway hlong,
    fun _ _ _ _ hon hex htrx hphase hdue hfree => pollCommit_commits hon hex htrx hphase hdue hfree,
    fun _ _ _ _ hon hex htrx hphase hfirst hvalid => finalSend_sends hon hex htrx hphase hfirst hvalid,
    fun _ _ _ _ _ hon hex htrx hphase => respReceived_takes hon hex htrx hphase,
    fun _ _ _ _ _ hon hex htrx hds hfinal hphase => reportReceived_takes hon hex htrx hds hfinal hphase,
    fun _ _ _ _ hon hex htrx hphase hfinal hover => noFrame_misses hon hex htrx hphase hfinal hover,
    fun _ _ _ _ hon hex htrx hphase hfail => retry_restarts hon hex htrx hphase hfail,
    fun _ _ _ _ _ hon hpre hunused hlong => prearmHoldExpired_releases hon hpre hunused hlong,
    fun _ _ _ _ _ hon _ => antennaDelayWrite_writes hon,
    fun _ _ hon hnone hrun hex hgrant => State.trnCalStart_of_free rfl hnone hrun hex hgrant ▸ trnCalStart_starts hon,
    fun _ _ _ _ hon hcal => trnCalDone_takes hon hcal⟩

end Sys2Proof.Machine
end

section
/-! PROOFS. Distance-bounding and locate commands (O7). -/

namespace Sys2Proof.Machine

open Safety

/-- Outside TWR_ONLY a token with rapid bits is bounded by them (R207). -/
theorem State.boundTwr_of_rapid {s : State} {c : Ctx} (hmode : s.rd DBX_TWR_CFG.MODE ≠ 1) (hcap : bit c.dbCap 0 = true) :
    s.boundTwr c = false := by
  simp [State.boundTwr, hmode, hcap]

theorem State.boundTwr_of_twrOnly {s : State} {c : Ctx} (hmode : s.rd DBX_TWR_CFG.MODE = 1) : s.boundTwr c = true := by
  simp [State.boundTwr, hmode]

theorem State.boundAnchor_isSome {s : State} {c : Ctx} (hhere : s.boundHere c = true) : (s.boundAnchor c).isSome = true :=
  (of_decide_eq_true hhere).2

/-- A rapid-bit request starts on its own free transceiver at this device (R207, R208). -/
theorem boundRequest_startsRapid {t n : Nat} {c : Ctx} {s : State} (hon : Powered s) (hwants : (s.adv t).wantsDbx n = true)
    (hctx : (s.adv t).ctx n = c) (hmode : (s.adv t).rd DBX_TWR_CFG.MODE ≠ 1) (hcap : bit c.dbCap 0 = true)
    (hrun : (s.adv t).running 0x06 = true) (hhere : (s.adv t).boundHere c = true)
    (halive : (s.adv t).trnDead ((s.adv t).boundAnc c % 16) = false)
    (hfree : (s.adv t).dbxEx ((s.adv t).boundAnc c % 16) = none)
    (hex : (s.adv t).exch ((s.adv t).boundAnc c % 16) = none)
    (hgrant : (s.adv t).grantable ((s.adv t).boundAnc c % 16) = true) :
    Does (.boundRequest t n) s ((s.adv t).rapidStart n ((s.adv t).boundAnc c % 16) ((s.adv t).boundEx n c)) := by
  subst hctx
  have hrapid := State.boundTwr_of_rapid hmode hcap
  change execBoundRequest t n s = _
  refine happen_eq hon ?_
  simp [hwants, hcap, hrun, hhere, halive, hfree, hex, hgrant, hrapid]

/-- A request under TWR_ONLY waits for its ranges in an exchange of its own (R207, R221). -/
theorem boundRequest_fallsBack {t n : Nat} {c : Ctx} {s : State} (hon : Powered s) (hwants : (s.adv t).wantsDbx n = true)
    (hctx : (s.adv t).ctx n = c) (hmode : (s.adv t).rd DBX_TWR_CFG.MODE = 1) (hrun : (s.adv t).running 0x06 = true)
    (hhere : (s.adv t).boundHere c = true) (hfree : (s.adv t).dbxEx ((s.adv t).boundAnc c % 16) = none) :
    Does (.boundRequest t n) s ((s.adv t).setDbx ((s.adv t).boundAnc c % 16) ((s.adv t).boundEx n c)) := by
  subst hctx
  have hfall := State.boundTwr_of_twrOnly (c := (s.adv t).ctx n) hmode
  have hanchor := Option.isNone_eq_false_iff.mpr (State.boundAnchor_isSome hhere)
  change execBoundRequest t n s = _
  refine happen_eq hon ?_
  simp [hwants, hmode, hrun, hhere, hfree, hfall, hanchor]

/-- The vectors of an exchange that waits for them are formed for it (R209). -/
theorem vectorsLoaded_forms {t n k : Nat} {x : DbxEx} {s : State} (hon : Powered s)
    (hwait : SMap.first (s.adv t).dbx.ex (fun _ x => x.session == n && !x.fallback && x.phase == 1) = some (k, x)) :
    Does (.vectorsLoaded t n) s ((s.adv t).vecLoad n (some (k, x))) := by
  change execVectorsLoaded t n s = _
  refine happen_eq hon ?_
  simp only [hwait]
  exact if_neg Bool.false_ne_true

/-- A block whose session did not reach BOUND within the hold is burned (R212). -/
theorem precompHoldExpired_burns {t n : Nat} {b : DbxBlock} {s : State} (hon : Powered s)
    (hblock : SMap.find (s.adv t).dbx.blocks n = some b)
    (hunused : ((s.adv t).live n b.gen && decide (ssBound ≤ ((s.adv t).ctx n).state)) = false)
    (hlong : b.since + msT (orOne ((s.adv t).rd DBX_PRECOMP_CFG.PRECOMP_HOLD)) ≤ (s.adv t).now) :
    Does (.precompHoldExpired t n) s (((s.adv t).burn n).irq DBX_IRQ_STAT.HOLD_BURN) := by
  change execPrecompHoldExpired t n s = _
  refine happen_eq hon ?_
  simp only [hblock]
  exact if_pos ⟨by rw [hunused]; rfl, hlong⟩

theorem burnFree_burns {t : Nat} {s : State} (hon : Powered s) : Does (.burnFree t) s (s.adv t).burnFree := by
  change execBurnFree t s = _
  exact happen_eq hon rfl

/-- Rapid bits start from SYNTH when their channel is unguarded and no exchange polls on it (R216). -/
theorem rapidBitCommit_sends {t trx : Nat} {x : DbxEx} {b : DbxBlock} {s : State} (hon : Powered s) (htrx : trx < 16)
    (hx : (s.adv t).dbxEx trx = some x) (hphase : x.phase = 2) (hrapid : x.fallback = false)
    (hblock : SMap.find ((s.adv t).settle trx 4).dbx.blocks x.session = some b)
    (hguard : (((s.adv t).settle trx 4).on DBX_STAT.GUARD_CH9 || ((s.adv t).settle trx 4).on DBX_STAT.GUARD_CH5) = false)
    (hquiet : ((s.adv t).settle trx 4).trn.ex = []) (hst : ((s.adv t).settle trx 4).trxState trx = rsSynth)
    (hdest : (((s.adv t).settle trx 4).trx trx).dest = none) :
    Does (.rapidBitCommit t trx false) s (((s.adv t).settle trx 4).bitsGo trx x b.bits) := by
  obtain ⟨h9, h5⟩ := Bool.or_eq_false_iff.mp hguard
  change execRapidBitCommit t trx false s = _
  refine happen_eq hon ?_
  simp [hx, hblock, hphase, hrapid, h9, h5, hquiet, hst, hdest, htrx]

/-- When the last search window closes the block is burned, and what was seen stands to be judged (R212, R216). -/
theorem searchWindowClose_burns {t trx : Nat} {x : DbxEx} {obs : List (Option (Int × Bool))} {s : State} (hon : Powered s)
    (htrx : trx < 16) (hx : (s.adv t).dbxEx trx = some x) (hphase : x.phase = 3 ∨ x.phase = 4)
    (hst : ((s.adv t).settle trx 4).trxState trx = rsRapid) :
    Does (.searchWindowClose t trx obs) s
      (((((s.adv t).settle trx 4).frameOver trx false).burn x.session).setDbx trx
        { x with phase := 5, obs := obs.take x.n, leftAt := (((s.adv t).settle trx 4).frameOver trx false).now }) := by
  change execSearchWindowClose t trx obs s = _
  refine happen_eq hon ?_
  simp only [hx]
  exact if_neg (by rw [hst]; omega)

/-- An exchange's bits are judged against the session's vectors (R219). -/
theorem boundDecision_judgesBits {t n k : Nat} {x : DbxEx} {v : DbxVec} {s : State} (hon : Powered s)
    (hx : SMap.first (s.adv t).dbx.ex (fun _ x => x.session == n && (x.phase == 5 || (x.fallback && x.left == 0))) = some (k, x))
    (hrapid : x.fallback = false) (hvec : SMap.find (s.adv t).dbx.vecs n = some v) :
    Does (.boundDecision t n false) s ((s.adv t).rbDecide k x v) := by
  change execBoundDecision t n false s = _
  refine happen_eq hon ?_
  simp only [hx, hrapid, hvec, Bool.false_eq_true, if_false]

/-- A fallback is judged by its ranges once none of them is still out (R221). -/
theorem boundDecision_judgesRanges {t n k : Nat} {x : DbxEx} {poison : Bool} {s : State} (hon : Powered s)
    (hx : SMap.first (s.adv t).dbx.ex (fun _ x => x.session == n && (x.phase == 5 || (x.fallback && x.left == 0))) = some (k, x))
    (hfall : x.fallback = true) (hex : (s.adv t).trn.ex = []) (haway : (s.adv t).trn.away = []) :
    Does (.boundDecision t n poison) s ((s.adv t).twrDecide k x) := by
  change execBoundDecision t n poison s = _
  refine happen_eq hon ?_
  simp only [hx, hfall, hex, haway, List.any_nil, Bool.false_eq_true, or_self, if_true, if_false]

/-- A retry starts 100 µs after the transceiver left RAPID_BIT, with the next sequence number and a fresh block (R220). -/
theorem dbxRetry_restarts {t trx : Nat} {x : DbxEx} {s : State} (hon : Powered s) (hx : (s.adv t).dbxEx trx = some x)
    (hphase : x.phase = 7) (hdue : x.leftAt + usT 100 ≤ (s.adv t).now) :
    Does (.dbxRetry t trx) s
      (((((s.adv t).add DBX_CNT_MISC.RETRY 1).drawBlock x.session x.gen).dbxSynth trx).setDbx trx
        { x with phase := 1, seq := x.seq + 1, retries := x.retries + 1 }) := by
  change execDbxRetry t trx s = _
  refine happen_eq hon ?_
  simp only [hx]
  exact if_neg (not_or.mpr ⟨not_not.mpr hphase, Nat.not_lt.mpr hdue⟩)

/-- A session in LOCATE sends its inputs to its solver (R234, R249). -/
theorem locateRequest_locates {t n : Nat} {poisoned : Bool} {s : State} (hon : Powered s)
    (hwants : (s.adv t).wantsAlm n = true) (hstate : ((s.adv t).ctx n).state = ssLocate)
    (hrun : (s.adv t).running 0x07 = true) : Does (.locateRequest t n poisoned) s ((s.adv t).locate n poisoned) := by
  change execLocateRequest t n poisoned s = _
  refine happen_eq hon ?_
  simp [hwants, hstate, hrun]

theorem solveDone_serves {t us : Nat} {s : State} (hon : Powered s) (hrun : (s.adv t).running 0x07 = true) :
    Does (.solveDone t us) s ((s.adv t).serveSolve us) := by
  change execSolveDone t us s = _
  exact happen_eq hon (if_pos hrun)

/-- The master takes a member's solve (R249). -/
theorem remoteSolveRequest_serves {t dev tag : Nat} {payload : List Byte} {s : State} (hon : Powered s)
    (hmaster : (s.adv t).on MER_STAT.MASTER = true) :
    Does (.remoteSolveRequest t dev tag payload) s (((s.adv t).serveLocate dev tag payload).getD (s.adv t)) := by
  change execRemoteSolveRequest t dev tag payload s = _
  exact happen_eq hon (if_pos hmaster)

/-- A solve that the master did not answer within SOLVE_TO is lost (R251). -/
theorem solveTimeout_loses {t n : Nat} {q : SolveReq} {s : State} (hon : Powered s)
    (haway : (s.adv t).alm.away.find? (fun q => match q.dest with | .session m _ => m == n | _ => false) = some q)
    (hlong : q.since + usT (100 * orOne ((s.adv t).rd ALM_SOLVE_CFG.SOLVE_TO)) ≤ (s.adv t).now) :
    Does (.solveTimeout t n) s ((s.adv t).solveLost n q) := by
  change execSolveTimeout t n s = _
  refine happen_eq hon ?_
  dsimp only
  split
  next hnone => cases hnone.symm.trans haway
  next r hsome =>
    obtain rfl : r = q := Option.some.inj (hsome.symm.trans haway)
    exact if_neg (Nat.not_lt.mpr hlong)

/-- Settles O7: row by row; burning the free blocks has no condition, and a solve for another member takes its effect
whether or not its credit is there (R288). -/
theorem boundingAndLocateCommandsTakeEffect : Obligations.BoundingAndLocateCommandsTakeEffect := by
  unfold Obligations.BoundingAndLocateCommandsTakeEffect
  exact ⟨fun _ _ _ _ => boundRequest_startsRapid, fun _ _ _ _ => boundRequest_fallsBack,
    fun _ _ _ _ _ => vectorsLoaded_forms, fun _ _ _ _ => precompHoldExpired_burns, fun _ _ => burnFree_burns,
    fun _ _ _ _ _ => rapidBitCommit_sends, fun _ _ _ _ _ => searchWindowClose_burns,
    fun _ _ _ _ _ _ => boundDecision_judgesBits, fun _ _ _ _ _ _ => boundDecision_judgesRanges,
    fun _ _ _ _ => dbxRetry_restarts, fun _ _ _ _ => locateRequest_locates, fun _ _ _ => solveDone_serves,
    fun _ _ _ _ _ hon hmaster _ => remoteSolveRequest_serves hon hmaster, fun _ _ _ _ => solveTimeout_loses⟩

end Sys2Proof.Machine
end

section
/-! PROOFS. Session commands (O8). -/

namespace Sys2Proof.Machine

open Safety

/-- An interrupt of any unit but MGT leaves all but the register file and HIF's own state (R10, R616). -/
theorem State.irq_differs (s : State) {f : Fld} (i : Nat) (hunit : f.off / 65536 ≠ 0x15) :
    s.differsInRegsAndHif (s.irq f i) := by
  have hwr := s.wr_differsInRegs f 1 i 0
  simp only [State.irq, State.unitRaise, hunit, if_false]
  split
  · exact hwr.trans (State.srcPend_differsInHif _ _)
  · exact hwr

theorem State.differsInRegsAndHif.eph {s s' : State} (h : s.differsInRegsAndHif s') : s'.eph = s.eph := by
  unfold State.differsInRegsAndHif at h
  rw [h]

/-- Whether a session lives is read off the contexts alone (R259). -/
theorem State.differsInRegsAndHif.live {s s' : State} (h : s.differsInRegsAndHif s') (n gen : Nat) :
    s'.live n gen = s.live n gen := by
  obtain ⟨hses, -⟩ := h.units
  simp only [State.live, State.ctx?, hses]

/-- An open that nothing refuses takes the head of the free queue (R261, R262). -/
theorem State.tryOpen_opens {s : State} {kind n zone : Nat} {p : Option Nat} (hcode : s.openCode p = ccOk)
    (hfree : s.freeHead = some n) : s.tryOpen kind p zone = (ccOk, n, s.openOn n kind (p.getD 0) zone) := by
  simp [State.tryOpen, hcode, hfree]

/-- The first waiting completion of a session's pool is consumed (R284). -/
theorem State.consumeOf_found {s : State} {n pool : Nat} {q : Cpl}
    (hfind : s.ses.cpl.find? (fun c => c.session == n && c.pool == pool) = some q) : s.consumeOf n pool = s.consume q := by
  simp only [State.consumeOf, hfind]

/-- A directed wake opens its program's zone; the core that asked receives the code when it is bound (R262). -/
theorem sessionOpen_wakes {t p core n : Nat} {frame : List Byte} {g : Prog} {s : State} (hon : Powered s)
    (hprog : (s.adv t).prog p = some g) (hok : (s.adv t).progOk p 2 = true) (hcode : (s.adv t).openCode (some p) = ccOk)
    (hfree : (s.adv t).freeHead = some n) :
    Does (.sessionOpen t 1 p core frame) s
      (if core < 16 ∧ (((s.adv t).openOn n 1 p g.zone).bound core).isSome then
        ((s.adv t).openOn n 1 p g.zone).scDone core ccOk
      else (s.adv t).openOn n 1 p g.zone) := by
  change execSessionOpen t 1 p core frame s = _
  refine happen_eq hon ?_
  simp only [hprog, hok, if_true, State.tryOpen_opens hcode hfree]
  exact if_neg Nat.one_ne_zero

theorem sessionOpen_wakesUnbound {t p core n : Nat} {frame : List Byte} {g : Prog} {s : State} (hon : Powered s)
    (hprog : (s.adv t).prog p = some g) (hok : (s.adv t).progOk p 2 = true) (hcode : (s.adv t).openCode (some p) = ccOk)
    (hfree : (s.adv t).freeHead = some n) (hcore : 16 ≤ core) :
    Does (.sessionOpen t 1 p core frame) s ((s.adv t).openOn n 1 p g.zone) := by
  have h := sessionOpen_wakes (core := core) (frame := frame) hon hprog hok hcode hfree
  rwa [if_neg (fun hc => Nat.not_lt.mpr hcore hc.1)] at h

theorem sessionOpen_wakesForCore {t p core n : Nat} {frame : List Byte} {g : Prog} {s : State} (hon : Powered s)
    (hprog : (s.adv t).prog p = some g) (hok : (s.adv t).progOk p 2 = true) (hcode : (s.adv t).openCode (some p) = ccOk)
    (hfree : (s.adv t).freeHead = some n) (hcore : core < 16)
    (hbound : (((s.adv t).openOn n 1 p g.zone).bound core).isSome = true) :
    Does (.sessionOpen t 1 p core frame) s (((s.adv t).openOn n 1 p g.zone).scDone core ccOk) := by
  have h := sessionOpen_wakes (core := core) (frame := frame) hon hprog hok hcode hfree
  rwa [if_pos ⟨hcore, hbound⟩] at h

theorem completionConsume_consumes {t : Nat} {q : Cpl} {rest : List Cpl} {s : State} (hon : Powered s)
    (hcpl : (s.adv t).ses.cpl = q :: rest) : Does (.completionConsume t) s ((s.adv t).consume q) := by
  change execCompletionConsume t s = _
  refine happen_eq hon ?_
  rw [hcpl]

/-- Past its deadline, held back by the pauses of DECIDE, an early session is cancelled: with NOT_VERIFIED while its
lookup waits in IDENT, else with TIMEOUT (R270). -/
theorem deadlineExpired_cancels {t n : Nat} {c : Ctx} {s : State} (hon : Powered s) (hctx : (s.adv t).ctx? n = some c)
    (hearly : c.openEarly = true) (hset : c.deadline ≠ 0) (hdec : c.dec ≠ 1)
    (hlong : c.deadline + (if c.state = ssDecide then (s.adv t).pausedOf n else 0) ≤ (s.adv t).now) :
    Does (.deadlineExpired t n) s
      (((s.adv t).irq SES_IRQ_STAT.TIMEOUT).cancel n
        (if c.state = ssIdent ∧ (s.adv t).eph.waiting.contains (n, c.gen) = true then ccNotVerified else ccTimeout)) := by
  have hirq := ((s.adv t).irq_differs (f := SES_IRQ_STAT.TIMEOUT) 0 (by decide)).eph
  change execDeadlineExpired t n s = _
  refine happen_eq hon ?_
  simp only [hctx, hirq]
  rw [if_neg (by simpa [hearly, hset, hdec] using hlong), apply_ite (State.cancel _ n)]

theorem deadlineExpired_timesOut {t n : Nat} {c : Ctx} {s : State} (hon : Powered s) (hctx : (s.adv t).ctx? n = some c)
    (hearly : c.openEarly = true) (hset : c.deadline ≠ 0) (hdec : c.dec ≠ 1)
    (hlong : c.deadline + (if c.state = ssDecide then (s.adv t).pausedOf n else 0) ≤ (s.adv t).now)
    (hlookup : (decide (c.state = ssIdent) && (s.adv t).eph.waiting.contains (n, c.gen)) = false) :
    Does (.deadlineExpired t n) s (((s.adv t).irq SES_IRQ_STAT.TIMEOUT).cancel n ccTimeout) := by
  have h := deadlineExpired_cancels hon hctx hearly hset hdec hlong
  rwa [if_neg (by simpa using hlookup)] at h

/-- In IDENT no pause moves the deadline (R270). -/
theorem deadlineExpired_notVerified {t n : Nat} {c : Ctx} {s : State} (hon : Powered s) (hctx : (s.adv t).ctx? n = some c)
    (hearly : c.openEarly = true) (hset : c.deadline ≠ 0) (hdec : c.dec ≠ 1) (hlong : c.deadline ≤ (s.adv t).now)
    (hstate : c.state = ssIdent) (hlookup : (s.adv t).eph.waiting.contains (n, c.gen) = true) :
    Does (.deadlineExpired t n) s (((s.adv t).irq SES_IRQ_STAT.TIMEOUT).cancel n ccNotVerified) := by
  have hdecide : c.state ≠ ssDecide := by rw [hstate]; decide
  have h := deadlineExpired_cancels hon hctx hearly hset hdec (by rwa [if_neg hdecide])
  rwa [if_pos ⟨hstate, hlookup⟩] at h

theorem sessionMaxExpired_timesOut {t n : Nat} {c : Ctx} {s : State} (hon : Powered s) (hctx : (s.adv t).ctx? n = some c)
    (hearly : c.openEarly = true) (hwake : ssWake ≤ c.state) (hdec : c.dec ≠ 1)
    (hlong : ((s.adv t).aux n).tWake + msT (10 * orOne ((s.adv t).rd SES_TO_CFG_C.SESSION_MAX)) + (s.adv t).pausedOf n ≤
      (s.adv t).now) :
    Does (.sessionMaxExpired t n) s (((s.adv t).irq SES_IRQ_STAT.TIMEOUT).cancel n ccTimeout) := by
  change execSessionMaxExpired t n s = _
  refine happen_eq hon ?_
  simp only [hctx]
  exact if_neg (by simpa [hearly, hdec] using ⟨hwake, hlong⟩)

theorem sesCancel_cancels {t n gen : Nat} {s : State} (hon : Powered s) (hlive : (s.adv t).live n gen = true) :
    Does (.sesCancel t n gen) s ((s.adv t).cancel n ccCancelled) := by
  change execSesCancel t n gen s = _
  exact happen_eq hon (if_pos hlive)

theorem creditWaitExpired_cancels {t n : Nat} {s : State} (hon : Powered s)
    (hwaits : (s.adv t).ses.claims.any (fun c => c.session == n && poolClass (c.pools.headD 0) == 2) = true)
    (hlong : ((s.adv t).aux n).waitFrom + msT (orOne ((s.adv t).rd SES_TO_CFG_C.CREDIT_WAIT)) ≤ (s.adv t).now) :
    Does (.creditWaitExpired t n) s (((s.adv t).irq SES_IRQ_STAT.CREDIT).cancel n ccCapacity) := by
  change execCreditWaitExpired t n s = _
  exact happen_eq hon (if_pos ⟨hwaits, hlong⟩)

/-- A pool takes a size while SES is unlocked, and the claims that now fit are served (R289). -/
theorem poolSizeWrite_sizes {t k size : Nat} {s : State} (hon : Powered s) (hlock : (s.adv t).on SES_CTL.LOCK = false) :
    Does (.poolSizeWrite t k size) s (((s.adv t).wr SES_CREDIT_CFG.SIZE size k).drainClaims) := by
  change execPoolSizeWrite t k size s = _
  exact happen_eq hon (if_neg (by simp [hlock]))

/-- Settles O8: row by row; an open of a poll, a button frame or the watch is its own operation as it stands, and the service
of the waiting claims has no condition. -/
theorem sessionCommandsTakeEffect : Obligations.SessionCommandsTakeEffect := by
  unfold Obligations.SessionCommandsTakeEffect
  exact ⟨fun _ e _ _ _ _ hon _ => happen_eq (f := (·.openPoll e)) hon rfl,
    fun _ _ _ _ _ _ _ => sessionOpen_wakesUnbound, fun _ _ _ _ _ _ _ => sessionOpen_wakesForCore,
    fun t p _ frame s hon _ _ _ => happen_eq (f := fun a => (a.openButton p false frame a.now).2) hon rfl,
    fun _ _ _ _ _ _ hon _ => happen_eq (f := State.openWatch) hon rfl,
    fun _ _ _ _ => completionConsume_consumes,
    fun _ n _ _ hon hfind => happen_eq (f := (·.consumeOf n poolEph)) hon (State.consumeOf_found hfind),
    fun _ n _ _ hon hfind => happen_eq (f := (·.consumeOf n poolKce)) hon (State.consumeOf_found hfind),
    fun _ n _ _ hon hfind => happen_eq (f := (·.consumeOf n poolTrn)) hon (State.consumeOf_found hfind),
    fun _ _ _ _ => deadlineExpired_timesOut, fun _ _ _ _ => deadlineExpired_notVerified,
    fun _ _ _ _ => sessionMaxExpired_timesOut, fun _ _ _ _ => sesCancel_cancels,
    fun _ _ _ => creditWaitExpired_cancels, fun _ _ hon => happen_eq (f := State.drainClaims) hon rfl,
    fun _ _ _ _ => poolSizeWrite_sizes⟩

end Sys2Proof.Machine
end

section
/-! PROOFS. Steps of the cores: dispatch, slice, reload, ports, interrupts, ILLEGAL and COPROC (O20). -/

namespace Sys2Proof.Machine

open Safety

/-! ## Ports of a core -/

/-- A port that is neither architectural nor the bound session's reads the core's own. -/
theorem State.portIn_own (s : State) (c : Nat) {p : Nat} (hdev : 0x040 ≤ p) (hown : boundPort p = false) :
    s.portIn c p = (false, s.ownRead c p) := by
  simp [State.portIn, Nat.not_lt.mpr hdev, hown]

theorem State.portSeen_own (s : State) (c : Nat) {p : Nat} (hdev : 0x040 ≤ p) (hown : boundPort p = false) :
    s.portSeen c p = (s.ownRead c p).2.answerWord (4 + c) (s.ownRead c p).1 := by
  simp only [State.portSeen, State.portIn_own s c hdev hown, Bool.false_eq_true, if_false]

theorem State.portOut_own (s : State) (c v : Nat) {p : Nat} (hdev : 0x040 ≤ p) (hown : boundPort p = false) :
    s.portOut c p v = s.ownWrite c p v := by
  simp [State.portOut, Nat.not_lt.mpr hdev, hown]

/-- RANGE_DATA answers the word at its index, which moves on, when the memory delivers it unpoisoned (R468). -/
theorem State.portSeen_rangeData {s : State} {c n gen : Nat} (hbound : s.bound c = some (n, gen))
    (hclean : (s.memReadBytes arrDram (0x10000000 + 2048 * n + 4 * ((s.core c).rangeIdx % 512)) 4).1 = false) :
    s.portSeen c 0x054 =
      ((s.memReadBytes arrDram (0x10000000 + 2048 * n + 4 * ((s.core c).rangeIdx % 512)) 4).2.updCore c
        (fun k => { k with rangeIdx := (k.rangeIdx + 1) % 2 ^ 11 })).answerWord (4 + c)
        ((s.memReadBytes arrDram (0x10000000 + 2048 * n + 4 * ((s.core c).rangeIdx % 512)) 4).2.rangeWord n
          (s.core c).rangeIdx) := by
  have hport : boundPort 0x054 = true := rfl
  have hin : s.portIn c 0x054 = s.sesRead c n 0x054 := by simp [State.portIn, hport, hbound]
  simp [State.portSeen, hin, State.sesRead, hclean]

/-! ## Words that raise an exception -/

theorem wMajor_lt (w : Nat) : wMajor w < 64 := Nat.mod_lt _ (by decide)

/-- A coprocessor number from 4 on is absent, so every function of it raises COPROC with that number (R453). -/
theorem cpWordOp_absent {c n w : Nat} (s : State) (hn : 4 ≤ n) : cpWordOp c n w s = .exc s exCoproc n 0 := by
  simp [cpWordOp, hn]

theorem coreOp_absentCoprocessor {c w : Nat} (s : State) (hmajor : 60 ≤ wMajor w) :
    coreOp c w s = .exc s exCoproc (wMajor w - 56) 0 := by
  have hlt := wMajor_lt w
  unfold coreOp
  generalize wMajor w = m at hmajor hlt ⊢
  interval_cases m <;> exact cpWordOp_absent s (by decide)

/-- The majors that no instruction and no coprocessor has (R431, R432). -/
def reservedMajors : List Nat :=
  [0x09, 0x0A, 0x0B, 0x0C, 0x0D, 0x0E, 0x0F, 0x1E, 0x1F, 0x26, 0x27, 0x2A, 0x2B, 0x2C, 0x2D, 0x2E, 0x2F, 0x30, 0x31, 0x32,
    0x33, 0x34, 0x35, 0x36, 0x37]

theorem coreOp_reserved {c w : Nat} (s : State) (hmajor : wMajor w ∈ reservedMajors) :
    coreOp c w s = .exc s exIllegal 0 0 := by
  unfold reservedMajors at hmajor
  unfold coreOp
  generalize wMajor w = m at hmajor ⊢
  fin_cases hmajor <;> rfl

/-- The instruction at the PC of a core that runs settles as its word says. -/
theorem State.coreStepOne_runs {s : State} {c w : Nat} (hruns : Runs s c w) :
    s.coreStepOne c = (coreOp c w (s.fetched c)).settle c := by
  obtain ⟨-, hword, hpc, halign, hclean, hrepa⟩ := hruns
  simp only [State.coreStepOne, State.coreRun, State.coreFetch_ok s c hpc halign hclean, hword, State.core_fetched, hrepa,
    Bool.false_and, Bool.false_eq_true, if_false]

/-- The row of an exception completes for a word that raises it. -/
theorem raiseRow_raises {t c w code detail eaddr : Nat} {s : State} (hon : Powered s) (hruns : Runs (s.adv t) c w)
    (hop : coreOp c w ((s.adv t).fetched c) = .exc ((s.adv t).fetched c) code detail eaddr) :
    raiseRow t c code s =
      .next ((((s.adv t).fetched c).coreExcept c code detail eaddr).withQueue s.pending) := by
  have hstep := State.coreStepOne_runs hruns
  obtain ⟨hsteps, hword, hpc, halign, hclean, -⟩ := hruns
  have hraises : (coreOp c w ((s.adv t).fetched c)).raises code = true := by simp [hop, CoreRes.raises]
  refine happen_eq hon ?_
  rw [hop] at hstep
  simp only [hsteps, State.coreFetch_ok _ c hpc halign hclean, hword, hraises, hstep, Bool.not_true, Bool.or_true,
    Bool.false_eq_true, if_true, if_false]
  rfl

theorem illegal_raises {t c w : Nat} {s : State} (hon : Powered s) (hruns : Runs (s.adv t) c w)
    (hmajor : wMajor w ∈ reservedMajors) : Does (.illegal t c) s (((s.adv t).fetched c).coreExcept c exIllegal 0 0) := by
  change execIllegal t c s = _
  exact raiseRow_raises hon hruns (coreOp_reserved _ hmajor)

theorem coproc_raises {t c w : Nat} {s : State} (hon : Powered s) (hruns : Runs (s.adv t) c w) (hmajor : 60 ≤ wMajor w) :
    Does (.coproc t c) s (((s.adv t).fetched c).coreExcept c exCoproc (wMajor w - 56) 0) := by
  change execCoproc t c s = _
  exact raiseRow_raises hon hruns (coreOp_absentCoprocessor _ hmajor)

/-! ## Dispatch, the slice and interrupts -/

theorem stepDispatch_begins {t c n : Nat} {s : State} (hon : Powered s) (hrun : (s.adv t).running 0x0E = true)
    (hnext : (s.adv t).nextStep c = some n) (hstate : ((s.adv t).ctx n).state = ssDecide) :
    Does (.stepDispatch t c n) s ((s.adv t).stepBegin c n) := by
  change execStepDispatch t c n s = _
  exact happen_eq hon (if_pos ⟨hrun, hnext, hstate⟩)

theorem sliceWarning_warns {t c : Nat} {s : State} (hon : Powered s) (hstep : (s.adv t).inStep c = true)
    (hlong : 3 * (s.adv t).sliceMax ≤ 4 * (s.adv t).stepTicks c) :
    Does (.sliceWarning t c) s ((s.adv t).updCore c (fun k => { k with sliceWarn := true })) := by
  change execSliceWarning t c s = _
  exact happen_eq hon (if_pos ⟨hstep, hlong⟩)

/-- The end of the slice cancels the session of the step, which the interrupt raised before leaves alive (R279). -/
theorem sliceMaxExpired_stops {t c : Nat} {s : State} (hon : Powered s) (hstep : (s.adv t).inStep c = true)
    (hlong : (s.adv t).sliceMax < (s.adv t).stepTicks c)
    (hlive : (s.adv t).live ((s.adv t).rd AST_CORE_STAT.SESSION c) ((s.adv t).rd AST_CORE_SCRIPT.GEN c) = true) :
    Does (.sliceMaxExpired t c) s
      ((((s.adv t).irq SES_IRQ_STAT.SLICE).cancel ((s.adv t).rd AST_CORE_STAT.SESSION c) ccTimeout).coreStop c) := by
  have hirq := (s.adv t).irq_differs (f := SES_IRQ_STAT.SLICE) 0 (by decide)
  change execSliceMaxExpired t c s = _
  refine happen_eq hon ?_
  simp only [hstep, hlong, hirq.live, hlive, and_self, if_true]

theorem faultReloadDone_idles {t c : Nat} {s : State} (hon : Powered s) (hc : c < 16) (hst : (s.adv t).coreSt c = csReload)
    (hlong : ((s.adv t).core c).reloadFrom + reloadT ≤ (s.adv t).now) :
    Does (.faultReloadDone t c) s (((s.adv t).coreLoad c (s.adv t).ast.bundle).coreIdle c) := by
  change execFaultReloadDone t c s = _
  exact happen_eq hon (if_pos ⟨hc, hst, hlong⟩)

theorem interrupt_enters {t c i : Nat} {s : State} (hon : Powered s) (hsteps : (s.adv t).coreSteps c = true)
    (hie : ((s.adv t).core c).flag pbIE = true)
    (hline : (List.range 8).find? (fun j => bit ((s.adv t).core c).lines j) = some i) :
    Does (.interrupt t c) s ((s.adv t).coreEnter c (exIrq + i) 0
      (if ((s.adv t).core c).waiting then ((s.adv t).core c).pc + 4 else ((s.adv t).core c).pc) 0) := by
  change execInterrupt t c s = _
  refine happen_eq hon ?_
  simp only [hsteps, hie, hline, Bool.not_true, Bool.or_self, Bool.false_eq_true, if_false]

/-! ## RELEASE, the mailbox, the timer and the device ports -/

theorem release_writes {t c port : Nat} {priv : Bool} {s : State} (hon : Powered s) (hc : c < 16) (hport : port ≤ 3) :
    Does (.release t port priv c) s
      ((s.adv t).regWrite port priv (0x0E0100 + c * 0x1000) 4 (2 ^ 8 + (s.adv t).rd AST_CORE_CTL.EN c * 2 ^ 31)) := by
  change execRelease t port priv c s = _
  refine happen_eq hon ((if_pos hc).trans ?_)
  rw [Nat.min_eq_left hport]

theorem mboxInWrite_writes {t c port v : Nat} {priv : Bool} {s : State} (hon : Powered s) (hc : c < 16) (hport : port ≤ 3)
    (hv : v < 2 ^ 32) :
    Does (.mboxInWrite t port priv c v) s ((s.adv t).regWrite port priv (0x0E0128 + c * 0x1000) 4 v) := by
  change execMboxInWrite t port priv c v s = _
  refine happen_eq hon ((if_pos hc).trans ?_)
  rw [Nat.min_eq_left hport, Nat.mod_eq_of_lt hv]

theorem mboxInRead_answers {t c : Nat} {s : State} (hon : Powered s) (hc : c < 16) :
    Does (.mboxInRead t c) s
      (((s.adv t).updCore c (fun k => { k with mboxNew := false })).answerWord (4 + c) ((s.adv t).core c).mboxIn) := by
  change execMboxInRead t c s = _
  exact happen_eq hon ((if_pos hc).trans (State.portSeen_own _ c (by decide) rfl))

theorem timerWrite_sets {t c v : Nat} {s : State} (hon : Powered s) (hc : c < 16) (hv : v < 65536) :
    Does (.timerWrite t c v) s ((s.adv t).updCore c (fun k =>
      { k with timerAt := if v = 0 then none else some ((s.adv t).now + usT v), timerDone := false })) := by
  change execTimerWrite t c v s = _
  refine happen_eq hon ((if_pos hc).trans ?_)
  rw [State.timerSet, Nat.mod_eq_of_lt hv]

theorem timerExpired_expires {t c e : Nat} {s : State} (hon : Powered s) (hc : c < 16)
    (htimer : ((s.adv t).core c).timerAt = some e) (hdue : e ≤ (s.adv t).now) :
    Does (.timerExpired t c) s ((s.adv t).updCore c (fun k => { k with timerAt := none, timerDone := true })) := by
  change execTimerExpired t c s = _
  refine happen_eq hon ?_
  simp only [htimer]
  exact if_pos ⟨hc, hdue⟩

theorem envAddr_copies {t c a : Nat} {s : State} (hon : Powered s) (hc : c < 16) (ha : a < 2 ^ 32) :
    Does (.envAddr t c a) s ((s.adv t).envAddr c a) := by
  change execEnvAddr t c a s = _
  refine happen_eq hon ((if_pos hc).trans ?_)
  rw [Nat.mod_eq_of_lt ha]

theorem regData_writes {t c v : Nat} {s : State} (hon : Powered s) (hc : c < 16) (hv : v < 2 ^ 32) :
    Does (.regData t c true v) s
      ((s.adv t).regWrite (4 + c) (bit ((s.adv t).core c).regAddr 23) (((s.adv t).core c).regAddr % 2 ^ 23) 4 v) := by
  change execRegData t c true v s = _
  refine happen_eq hon ((if_neg (Nat.not_le.mpr hc)).trans ?_)
  rw [if_pos rfl, Nat.mod_eq_of_lt hv]
  exact State.portOut_own _ c v (by decide) rfl

theorem regData_reads {t c v : Nat} {s : State} (hon : Powered s) (hc : c < 16) :
    Does (.regData t c false v) s
      (((s.adv t).regRead (4 + c) (bit ((s.adv t).core c).regAddr 23) (((s.adv t).core c).regAddr % 2 ^ 23)).2.answerWord
        (4 + c)
        ((s.adv t).regRead (4 + c) (bit ((s.adv t).core c).regAddr 23) (((s.adv t).core c).regAddr % 2 ^ 23)).1) := by
  change execRegData t c false v s = _
  refine happen_eq hon ((if_neg (Nat.not_le.mpr hc)).trans ?_)
  rw [if_neg Bool.false_ne_true]
  exact State.portSeen_own _ c (by decide) rfl

theorem rangeData_answers {t c n gen : Nat} {s : State} (hon : Powered s) (hc : c < 16)
    (hbound : (s.adv t).bound c = some (n, gen))
    (hclean : ((s.adv t).memReadBytes arrDram (0x10000000 + 2048 * n + 4 * (((s.adv t).core c).rangeIdx % 512)) 4).1 =
      false) :
    Does (.rangeData t c) s
      ((((s.adv t).memReadBytes arrDram (0x10000000 + 2048 * n + 4 * (((s.adv t).core c).rangeIdx % 512)) 4).2.updCore c
        (fun k => { k with rangeIdx := (k.rangeIdx + 1) % 2 ^ 11 })).answerWord (4 + c)
        (((s.adv t).memReadBytes arrDram (0x10000000 + 2048 * n + 4 * (((s.adv t).core c).rangeIdx % 512)) 4).2.rangeWord n
          ((s.adv t).core c).rangeIdx)) := by
  change execRangeData t c s = _
  exact happen_eq hon ((if_pos hc).trans (State.portSeen_rangeData hbound hclean))

/-- Settles O20: row by row; a dispatch begins its step whatever its script is, and a word has no more than 64 majors, so
neither the script's entry nor the word's width is needed. -/
theorem coreStepCommandsTakeEffect : Obligations.CoreStepCommandsTakeEffect := by
  unfold Obligations.CoreStepCommandsTakeEffect
  exact ⟨fun _ _ _ _ _ hon hrun hnext hstate _ => stepDispatch_begins hon hrun hnext hstate,
    fun _ _ _ => sliceWarning_warns, fun _ _ _ => sliceMaxExpired_stops, fun _ _ _ => faultReloadDone_idles,
    fun _ _ _ _ _ => release_writes, fun _ _ _ _ _ _ => mboxInWrite_writes, fun _ _ _ => mboxInRead_answers,
    fun _ _ _ _ => timerWrite_sets, fun _ _ _ _ => timerExpired_expires, fun _ _ _ _ => envAddr_copies,
    fun _ _ _ _ => regData_writes, fun _ _ _ _ => regData_reads, fun _ _ _ _ _ => rangeData_answers,
    fun _ _ _ _ => interrupt_enters, fun _ _ _ _ => illegal_raises,
    fun _ _ _ _ hon hruns hmajor _ => coproc_raises hon hruns hmajor⟩

end Sys2Proof.Machine
end

section
/-! PROOFS. The rolling-code check (O55, O56). -/

namespace Sys2Proof.Machine

theorem State.rollWin_bounds (s : State) : 1 ≤ s.rollWin ∧ s.rollWin ≤ 4096 := by
  unfold State.rollWin clampTo
  omega

/-- How far a frame's counter lies ahead of the stored counter on the circle of 32 bits: R301's difference. -/
def counterAhead (c ctr : Nat) : Nat := (ctr + 2 ^ 32 - c) % 2 ^ 32

/-- The table holds a young entry of the token for the counter just before this one (R301). -/
def State.resyncHeld (s : State) (tok ctr : Nat) : Prop :=
  ∃ e ∈ s.shu.resync, e.token = tok ∧ e.ctr = (ctr + 2 ^ 32 - 1) % 2 ^ 32 ∧
    s.now < e.stamp + secT (orOne (s.rd SHU_ROLL_CFG.RESYNC_HOLD))

/-- The table without the token's entries. -/
def State.resyncOthers (s : State) (tok : Nat) : List Resync := s.shu.resync.filter (fun r => r.token ≠ tok)

/-- The table with a new entry in place of the token's; of more than 64 entries the oldest goes (R303). -/
def State.resyncStored (s : State) (tok ctr : Nat) : List Resync :=
  let l := s.resyncOthers tok ++ [{ token := tok, ctr := ctr, stamp := s.now }]
  if l.length > 64 then l.drop 1 else l

theorem State.mem_resyncOthers {s : State} {tok : Nat} {e : Resync} :
    e ∈ s.resyncOthers tok ↔ e ∈ s.shu.resync ∧ e.token ≠ tok := by
  simp [State.resyncOthers]

/-- When the oldest entry goes, the new one is not it. -/
theorem State.self_mem_resyncStored (s : State) (tok ctr : Nat) :
    ({ token := tok, ctr := ctr, stamp := s.now } : Resync) ∈ s.resyncStored tok ctr := by
  unfold State.resyncStored
  dsimp only
  split
  next hfull =>
    have hsome : 1 ≤ (s.resyncOthers tok).length := by
      rw [List.length_append, List.length_singleton] at hfull
      omega
    rw [List.drop_append_of_le_length hsome]
    exact List.mem_append_right _ (List.mem_singleton_self _)
  next => exact List.mem_append_right _ (List.mem_singleton_self _)

theorem State.eq_or_mem_of_mem_resyncStored {s : State} {tok ctr : Nat} {e : Resync} (he : e ∈ s.resyncStored tok ctr) :
    e = { token := tok, ctr := ctr, stamp := s.now } ∨ e ∈ s.resyncOthers tok := by
  have hmem : e ∈ s.resyncOthers tok ++ [{ token := tok, ctr := ctr, stamp := s.now }] := by
    unfold State.resyncStored at he
    dsimp only at he
    split at he
    · exact List.mem_of_mem_drop he
    · exact he
  exact (List.mem_append.mp hmem).symm.imp_left List.mem_singleton.mp

/-! ## The outcomes in the order of R301 -/

theorem not_replayRange {d : Nat} (hpos : 0 < d) (hhalf : d < 0x80000000) : ¬(d = 0 ∨ 0x80000000 ≤ d) := by
  omega

section
variable {s : State} {tok c ctr : Nat}

theorem State.rollJudge_replay {ok : Bool} (hd : counterAhead c ctr = 0 ∨ 0x80000000 ≤ counterAhead c ctr) :
    s.rollJudge tok c ctr ok = (rcReplay, s.shu.resync) :=
  if_pos hd

/-- A counter that is ahead by less than half the range is no replay: its check value decides first. -/
theorem State.rollJudge_badCheck (hpos : 0 < counterAhead c ctr) (hhalf : counterAhead c ctr < 0x80000000) :
    s.rollJudge tok c ctr false = (rcBadCheck, s.shu.resync) :=
  (if_neg (not_replayRange hpos hhalf)).trans (if_pos rfl)

/-- With a right check value the distance decides (R301). -/
theorem State.rollJudge_of_checked (hpos : 0 < counterAhead c ctr) (hhalf : counterAhead c ctr < 0x80000000) :
    s.rollJudge tok c ctr true =
      if counterAhead c ctr > 65536 then (rcOutOfReach, s.shu.resync)
      else if counterAhead c ctr ≤ s.rollWin then (rcAccept, s.shu.resync)
      else if s.shu.resync.any (fun r => r.token == tok && r.ctr == (ctr + 2 ^ 32 - 1) % 2 ^ 32 &&
          decide (s.now < r.stamp + secT (orOne (s.rd SHU_ROLL_CFG.RESYNC_HOLD)))) then
        (rcAcceptResync, s.resyncOthers tok)
      else (rcResyncPend, s.resyncStored tok ctr) :=
  (if_neg (not_replayRange hpos hhalf)).trans (if_neg Bool.false_ne_true)

theorem State.rollJudge_outOfReach (hfar : 65536 < counterAhead c ctr) (hhalf : counterAhead c ctr < 0x80000000) :
    s.rollJudge tok c ctr true = (rcOutOfReach, s.shu.resync) := by
  rw [State.rollJudge_of_checked (by omega) hhalf, if_pos hfar]

theorem State.rollJudge_accept (hpos : 0 < counterAhead c ctr) (hwin : counterAhead c ctr ≤ s.rollWin) :
    s.rollJudge tok c ctr true = (rcAccept, s.shu.resync) := by
  have hmax := s.rollWin_bounds.2
  rw [State.rollJudge_of_checked hpos (by omega), if_neg (by omega), if_pos hwin]

theorem State.resyncHeld_iff_any :
    s.resyncHeld tok ctr ↔ s.shu.resync.any (fun r => r.token == tok && r.ctr == (ctr + 2 ^ 32 - 1) % 2 ^ 32 &&
      decide (s.now < r.stamp + secT (orOne (s.rd SHU_ROLL_CFG.RESYNC_HOLD)))) = true := by
  simp only [State.resyncHeld, List.any_eq_true, Bool.and_eq_true, beq_iff_eq, decide_eq_true_eq, and_assoc]

theorem State.rollJudge_acceptResync (hwin : s.rollWin < counterAhead c ctr) (hreach : counterAhead c ctr ≤ 65536)
    (hheld : s.resyncHeld tok ctr) : s.rollJudge tok c ctr true = (rcAcceptResync, s.resyncOthers tok) := by
  rw [State.rollJudge_of_checked (by omega) (by omega), if_neg (by omega), if_neg (by omega),
    if_pos (State.resyncHeld_iff_any.mp hheld)]

theorem State.rollJudge_resyncPend (hwin : s.rollWin < counterAhead c ctr) (hreach : counterAhead c ctr ≤ 65536)
    (hheld : ¬ s.resyncHeld tok ctr) : s.rollJudge tok c ctr true = (rcResyncPend, s.resyncStored tok ctr) := by
  rw [State.rollJudge_of_checked (by omega) (by omega), if_neg (by omega), if_neg (by omega),
    if_neg (State.resyncHeld_iff_any.not.mp hheld)]

/-- An accepted counter had a right check value and lies 1 to 65,536 ahead: every other case ends with a later outcome. -/
theorem State.ahead_of_rollJudge_accepts {ok : Bool} (h : (s.rollJudge tok c ctr ok).1 ≤ rcAcceptResync) :
    ok = true ∧ 0 < counterAhead c ctr ∧ counterAhead c ctr ≤ 65536 := by
  by_cases hreplay : counterAhead c ctr = 0 ∨ 0x80000000 ≤ counterAhead c ctr
  · rw [State.rollJudge_replay hreplay] at h
    exact absurd h (by decide : ¬ rcReplay ≤ rcAcceptResync)
  have hpos : 0 < counterAhead c ctr := by omega
  have hhalf : counterAhead c ctr < 0x80000000 := by omega
  cases ok with
  | false =>
    rw [State.rollJudge_badCheck hpos hhalf] at h
    exact absurd h (by decide : ¬ rcBadCheck ≤ rcAcceptResync)
  | true =>
    refine ⟨rfl, hpos, not_lt.mp fun hfar => ?_⟩
    rw [State.rollJudge_outOfReach hfar hhalf] at h
    exact absurd h (by decide : ¬ rcOutOfReach ≤ rcAcceptResync)

end

/-- Settles O55: each range of the distance has its outcome, in the order of R301. -/
theorem rollingCounterCheckFollowsR301 : Obligations.RollingCounterCheckFollowsR301 := by
  unfold Obligations.RollingCounterCheckFollowsR301
  intro s tok c ctr ok _ _
  refine ⟨s.rollWin_bounds, fun hd => State.rollJudge_replay hd, ?badCheck, ?outOfReach, ?accept, ?acceptResync, ?pend⟩
  case badCheck =>
    rintro hpos hhalf rfl
    exact State.rollJudge_badCheck hpos hhalf
  case outOfReach =>
    rintro hfar hhalf rfl
    exact State.rollJudge_outOfReach hfar hhalf
  case accept =>
    rintro hpos hwin rfl
    exact State.rollJudge_accept hpos hwin
  case acceptResync =>
    rintro hwin hreach rfl hheld
    rw [State.rollJudge_acceptResync hwin hreach hheld]
    exact ⟨rfl, fun e he => (State.mem_resyncOthers.mp he).symm⟩
  case pend =>
    rintro hwin hreach rfl hheld
    rw [State.rollJudge_resyncPend hwin hreach hheld]
    exact ⟨rfl, s.self_mem_resyncStored tok ctr, fun e he =>
      (State.eq_or_mem_of_mem_resyncStored he).imp_right fun hother => (State.mem_resyncOthers.mp hother).symm⟩

/-- A counter at most 65,536 behind the stored one is a replay, since seen from the stored one it lies more than half the
range ahead, or nowhere (R301). -/
theorem State.rollJudge_behind {s : State} {tok c ctr back : Nat} {ok : Bool} (hback : back ≤ 65536) (hc : c < 2 ^ 32)
    (hctr : ctr = (c + 2 ^ 32 - back) % 2 ^ 32) : s.rollJudge tok c ctr ok = (rcReplay, s.shu.resync) := by
  refine State.rollJudge_replay ?_
  unfold counterAhead
  omega

/-- Settles O56: an accepted counter lies at most 65,536 ahead of the old one, so the old one lies as far behind it, where
every counter is a replay before any check value or table is looked at (R301, R302). -/
theorem acceptedCountersAreNeverAcceptedAgain : Obligations.AcceptedCountersAreNeverAcceptedAgain := by
  unfold Obligations.AcceptedCountersAreNeverAcceptedAgain
  intro s tok c ctr ok hctr hc haccepts
  obtain ⟨hok, hpos, hreach⟩ := State.ahead_of_rollJudge_accepts haccepts
  refine ⟨hok, hpos, hreach, fun s2 ok2 back hback => ⟨?_, ?_⟩⟩
  · rw [State.rollJudge_behind hback hctr rfl]
  · have hold : c = (ctr + 2 ^ 32 - counterAhead c ctr) % 2 ^ 32 := by
      unfold counterAhead
      omega
    rw [State.rollJudge_behind hreach hctr hold]

end Sys2Proof.Machine
end

section
/-! PROOFS. The lockout of a token (O57). -/

namespace Sys2Proof.Machine

/-! ## The per-token word -/

theorem tokFail_tokWord (ctr lu : Nat) {fail : Nat} (hfail : fail < 2 ^ 8) : tokFail (tokWord ctr fail lu) = fail := by
  change tokWord ctr fail lu / 2 ^ 32 % 2 ^ 8 = fail
  unfold tokWord
  omega

theorem tokLu_tokWord (ctr fail : Nat) {lu : Nat} (hlu : lu < 2 ^ 24) : tokLu (tokWord ctr fail lu) = lu := by
  change tokWord ctr fail lu / 2 ^ 40 % 2 ^ 24 = lu
  unfold tokWord
  omega

theorem tokLu_lt (w : Nat) : tokLu w < 2 ^ 24 := Nat.mod_lt _ (by decide)

/-! ## A counted failure (R306, R307) -/

theorem State.lockEff_bounds (s : State) : 1 ≤ s.lockEff ∧ s.lockEff ≤ 60 := by
  unfold State.lockEff clampTo
  omega

/-- A counted failure leaves a count of 1 to 255; one that reaches FAIL_MAX puts the end of the lockout one minute past
LOCK_EFF. -/
theorem State.afterFailure_eq_ite (s : State) (w : Nat) : ∃ fail lu, 1 ≤ fail ∧ fail ≤ 255 ∧ lu < 2 ^ 24 ∧
    s.afterFailure w =
      if s.failMax ≤ fail then (fail, (s.civilMin % 2 ^ 24 + s.lockEff + 1) % 2 ^ 24) else (fail, lu) := by
  by_cases hfresh : tokFail w = 0 ∨ tokFail w ≥ s.failMax ∨
      (s.civilMin % 2 ^ 24 + 2 ^ 24 - tokLu w) % 2 ^ 24 > clampTo 1 60 (s.rd SHU_LOCK_CFG.FAIL_WIN_MIN)
  · refine ⟨1, s.civilMin % 2 ^ 24, by omega, by omega, Nat.mod_lt _ (by decide), ?_⟩
    simp only [State.afterFailure, if_pos hfresh]
  · refine ⟨min 255 (tokFail w + 1), tokLu w, by omega, by omega, tokLu_lt w, ?_⟩
    simp only [State.afterFailure, if_neg hfresh]

theorem State.afterFailure_fst_bounds (s : State) (w : Nat) : 1 ≤ (s.afterFailure w).1 ∧ (s.afterFailure w).1 ≤ 255 := by
  obtain ⟨fail, lu, hone, hbyte, -, heq⟩ := s.afterFailure_eq_ite w
  rw [heq]
  split <;> exact ⟨hone, hbyte⟩

theorem State.afterFailure_snd_lt (s : State) (w : Nat) : (s.afterFailure w).2 < 2 ^ 24 := by
  obtain ⟨fail, lu, -, -, hlu, heq⟩ := s.afterFailure_eq_ite w
  rw [heq]
  split
  · exact Nat.mod_lt _ (by decide)
  · exact hlu

theorem State.afterFailure_snd_of_failMax {s : State} {w : Nat} (hmax : s.failMax ≤ (s.afterFailure w).1) :
    (s.afterFailure w).2 = (s.civilMin % 2 ^ 24 + s.lockEff + 1) % 2 ^ 24 := by
  obtain ⟨fail, lu, -, -, -, heq⟩ := s.afterFailure_eq_ite w
  rw [heq] at hmax ⊢
  split at hmax
  next hreached => rw [if_pos hreached]
  next hbelow => exact absurd hmax hbelow

/-! ## Locked and not -/

theorem State.tokLocked_of_fail_lt {s : State} {w : Nat} (hfail : tokFail w < s.failMax) : s.tokLocked w = false := by
  simp [State.tokLocked, Nat.not_le.mpr hfail]

/-- Past FAIL_MAX the lockout minute decides, which the present minute must precede (R306). -/
theorem State.tokLocked_of_failMax {s : State} {w : Nat} (hfail : s.failMax ≤ tokFail w) :
    s.tokLocked w = serialBefore 24 (s.civilMin % 2 ^ 24) (tokLu w) := by
  simp [State.tokLocked, hfail]

/-- From minute m on the serial order takes m + e + 1 for later until e minutes have passed, and then not for half the
range. -/
theorem serialBefore_lockEnd {m e k n : Nat} (he : e ≤ 60) (hn : n = (m + k) % 2 ^ 24) (hk : k < 2 ^ 23) :
    serialBefore 24 n ((m % 2 ^ 24 + e + 1) % 2 ^ 24) = decide (k ≤ e) := by
  rw [Bool.eq_iff_iff, serialBefore_iff (by decide) (by omega) (by omega), decide_eq_true_eq]
  omega

/-- Settles O57: below FAIL_MAX the word's count decides; from FAIL_MAX on the lockout minute does, which lies LOCK_EFF + 1
minutes ahead of the failure (R306, R307). -/
theorem failuresLockAToken : Obligations.FailuresLockAToken := by
  unfold Obligations.FailuresLockAToken
  intro s w _ r
  obtain ⟨hone, hbyte⟩ := s.afterFailure_fst_bounds w
  have heff := s.lockEff_bounds
  have hfail : tokFail (tokWord (tokCtr w) r.1 r.2) = r.1 := tokFail_tokWord _ _ (Nat.lt_succ_of_le hbyte)
  have hlu : tokLu (tokWord (tokCtr w) r.1 r.2) = r.2 := tokLu_tokWord _ _ (s.afterFailure_snd_lt w)
  refine ⟨heff, hbyte, hone, fun hbelow s2 hsame => ?_, fun hmax s2 k hsame hmin => ?_⟩
  · exact State.tokLocked_of_fail_lt (by rwa [hfail, hsame])
  · have hlocked : k < 2 ^ 23 → s2.tokLocked (tokWord (tokCtr w) r.1 r.2) = decide (k ≤ s.lockEff) := fun hk => by
      rw [State.tokLocked_of_failMax (by rwa [hfail, hsame]), hlu, State.afterFailure_snd_of_failMax hmax]
      exact serialBefore_lockEnd heff.2 hmin hk
    refine ⟨fun hk => ?_, fun hlate hk => ?_⟩
    · rw [hlocked (by omega), decide_eq_true hk]
    · rw [hlocked hk, decide_eq_false (by omega)]

end Sys2Proof.Machine
end

section
/-! PROOFS. What interrupts, events, radio steps and the end of a release leave of Meridian's state. -/

namespace Sys2Proof.Machine

/-- A fold of updates that leave Meridian's state leaves it. -/
theorem foldl_mer {α : Type} {f : State → α → State} (hf : ∀ a x, (f a x).mer = a.mer) (l : List α) (s : State) :
    (l.foldl f s).mer = s.mer := by
  induction l generalizing s with
  | nil => rfl
  | cons x xs ih => rw [List.foldl_cons, ih, hf]

/-! ## Interrupts and events -/

@[simp] theorem State.ibiSend_mer (s : State) : s.ibiSend.mer = s.mer := by
  unfold State.ibiSend
  split <;> simp

@[simp] theorem State.mgtRaise_mer (s : State) : s.mgtRaise.mer = s.mer := by
  unfold State.mgtRaise
  split
  · split <;> simp
  · simp

@[simp] theorem State.unitRaise_mer (s : State) (u : Nat) : (s.unitRaise u).mer = s.mer := by
  unfold State.unitRaise
  dsimp only
  split <;> simp

@[simp] theorem State.irq_mer (s : State) (f : Fld) (i : Nat) : (s.irq f i).mer = s.mer := by
  unfold State.irq
  dsimp only
  split <;> simp

@[simp] theorem State.handEvents_mer (s : State) : s.handEvents.mer = s.mer := by
  unfold State.handEvents
  split
  · rfl
  · simp

@[simp] theorem State.holdSlot_mer (fuel : Nat) (s : State) : (State.holdSlot fuel s).mer = s.mer := by
  induction fuel generalizing s with
  | zero => rfl
  | succ fuel ih =>
    unfold State.holdSlot
    dsimp only
    split
    · rfl
    · split <;> simp [ih]

@[simp] theorem State.post_mer (s : State) (source cls code session word arg : Nat) :
    (s.post source cls code session word arg).mer = s.mer := by
  unfold State.post
  dsimp only
  split
  · rfl
  · split
    · split <;> simp
    · split <;> simp

@[simp] theorem State.unitEvent_mer (s : State) (unit inst : Nat) (r : Reg) (lo hi : Fld) (word code session : Nat) :
    (s.unitEvent unit inst r lo hi word code session).mer = s.mer := by
  simp [State.unitEvent]

@[simp] theorem State.archiveEvent_mer (s : State) (u i w : Nat) (args : List Byte) (code session : Nat) :
    (s.archiveEvent u i w args code session).mer = s.mer := by
  simp [State.archiveEvent]

/-! ## Steps and ownership of a transceiver -/

@[simp] theorem State.updTrx_mer (s : State) (t : Nat) (f : Trx → Trx) : (s.updTrx t f).mer = s.mer := rfl

@[simp] theorem State.txCount_mer (s : State) (t : Nat) (whole : Bool) : (s.txCount t whole).mer = s.mer := by
  unfold State.txCount
  dsimp only
  split
  · rfl
  · simp [State.ledAdd, State.dutyReg]

@[simp] theorem State.moveOn_mer (s : State) (t at' : Nat) : (s.moveOn t at').mer = s.mer := by
  unfold State.moveOn
  split
  · rfl
  · split
    · simp [State.beginStep]
    · dsimp only
      split <;> simp

@[simp] theorem State.reached_mer (s : State) (t d at' : Nat) : (s.reached t d at').mer = s.mer := by
  unfold State.reached
  dsimp only
  rw [State.moveOn_mer]
  split
  · split <;> simp
  · simp

@[simp] theorem State.settle_mer (t fuel : Nat) (s : State) : (State.settle t fuel s).mer = s.mer := by
  induction fuel generalizing s with
  | zero => rfl
  | succ fuel ih =>
    unfold State.settle
    dsimp only
    split
    · split
      · rw [ih, State.reached_mer]
      · rfl
    · rfl

@[simp] theorem State.frameOver_mer (s : State) (t : Nat) (whole : Bool) : (s.frameOver t whole).mer = s.mer := by
  simp [State.frameOver, apply_ite State.mer]

@[simp] theorem State.handBack_mer (s : State) (t : Nat) : (s.handBack t).mer = s.mer := by
  unfold State.handBack
  dsimp only
  split
  · split <;> simp
  · simp

@[simp] theorem State.dropTo_mer (s : State) (t d : Nat) : (s.dropTo t d).mer = s.mer := by
  simp [State.dropTo]

@[simp] theorem State.grantTrx_mer (s : State) (t o : Nat) : (s.grantTrx t o).mer = s.mer := by
  unfold State.grantTrx State.calYield
  split
  · dsimp only
    split <;> simp
  · rfl

@[simp] theorem State.radRefuse_mer (s : State) (t b line code : Nat) : (s.radRefuse t b line code).mer = s.mer := by
  unfold State.radRefuse
  dsimp only
  split
  · simp
  · split <;> simp

/-- A request ends in a step that begins, or in one under way; before it, at most counts and registers move. -/
@[simp] theorem State.radRequest_mer (s : State) (t : Nat) (r : RadReq) : (s.radRequest t r).2.mer = s.mer := by
  unfold State.radRequest
  dsimp only
  split
  · simp
  · dsimp only
    split_ifs <;> simp [State.dutyReg]

@[simp] theorem State.btnHold_mer (s : State) (t : Nat) : (s.btnHold t).mer = s.mer := by
  unfold State.btnHold
  dsimp only
  split
  · split
    · simp
    · split <;> simp
  · rfl

@[simp] theorem State.shuGive_mer (s : State) (t : Nat) : (s.shuGive t).mer = s.mer := by
  unfold State.shuGive
  split <;> simp

/-! ## Outputs and releases -/

@[simp] theorem State.updRel_mer (s : State) (e : Nat) (f : Rel → Rel) : (s.updRel e f).mer = s.mer := rfl

@[simp] theorem State.updOut_mer (s : State) (o : Nat) (f : OutS → OutS) : (s.updOut o f).mer = s.mer := rfl

@[simp] theorem State.outEdge_mer (s : State) (o : Nat) (b : Bool) : (s.outEdge o b).mer = s.mer := by
  unfold State.outEdge
  split <;> simp

@[simp] theorem State.shuStat_mer (s : State) : s.shuStat.mer = s.mer := by
  unfold State.shuStat
  dsimp only
  rw [foldl_mer (fun _ _ => State.wr_mer _ _ _ _ _), State.wr_mer, State.wr_mer]

@[simp] theorem State.endRel_mer (s : State) (e code reason : Nat) : (s.endRel e code reason).mer = s.mer := by
  unfold State.endRel
  split
  · rfl
  · split
    · rfl
    · extract_lets run ended edged coded byKind counted raised event posted archived
      have hedged : edged.mer = s.mer := by simp [edged, ended, apply_ite State.mer]
      have hkind : byKind.mer = s.mer := by simp [byKind, coded, hedged, ended, apply_ite State.mer, State.setNode]
      have hcounted : counted.mer = s.mer := by simp [counted, hkind, apply_ite State.mer]
      simp [archived, posted, event, raised, hcounted, State.relEvent, State.shuEvent]

/-- The fault ends releases one by one, which leaves Meridian's state. -/
@[simp] theorem State.outFault_mer (s : State) (o fault reason : Nat) : (s.outFault o fault reason).mer = s.mer := by
  unfold State.outFault
  dsimp only
  split
  · rfl
  · rw [foldl_mer (fun _ _ => State.endRel_mer _ _ _ _)]
    simp [State.shuEvent]

@[simp] theorem State.now_outFault (s : State) (o fault reason : Nat) : (s.outFault o fault reason).now = s.now := by
  simp [State.now]

end Sys2Proof.Machine
end

section
/-! PROOFS. Session calls of a core (R466, R467). -/

namespace Sys2Proof.Machine

theorem State.differsInRegsAndHif.ctx {s s' : State} (h : s.differsInRegsAndHif s') (n : Nat) : s'.ctx n = s.ctx n := by
  obtain ⟨hses, -⟩ := h.units
  simp only [State.ctx, hses]

theorem State.bump_differsInRegs (s : State) (f : Fld) (i j : Nat) : s.differsInRegsAndHif (s.bump f i j) :=
  s.wr_differsInRegs f _ i j

/-- A call is counted, and keeps its core busy while it runs (R467). -/
def State.callBegun (s : State) (core : Nat) : State :=
  (s.bump AST_CNT_SESCALL.COUNT).updCore core (fun k => { k with scBusy := true, scNew := false })

@[simp] theorem State.ctx_callBegun (s : State) (core n : Nat) : (s.callBegun core).ctx n = s.ctx n :=
  (s.bump_differsInRegs AST_CNT_SESCALL.COUNT 0 0).ctx n

/-- A call for a session that decides and has not committed runs (R467). -/
theorem State.scStart_runs {s : State} {core n gen : Nat} (f : Nat → Nat → State → State)
    (hbound : (s.bump AST_CNT_SESCALL.COUNT).bound core = some (n, gen)) (hlive : s.live n gen = true)
    (hstate : (s.ctx n).state = ssDecide) (hopen : (s.ctx n).committed = false) :
    s.scStart core f = f n gen (s.callBegun core) := by
  have hcount := s.bump_differsInRegs AST_CNT_SESCALL.COUNT 0 0
  simp only [State.scStart, hbound, hcount.live, hcount.ctx, hlive, hstate, hopen, Bool.not_false, and_self, if_true]
  rfl

end Sys2Proof.Machine
end

section
/-! PROOFS. Shutter commands (O9). -/

namespace Sys2Proof.Machine

open Safety

/-- A frame of a transceiver that the sessions hold is judged as a button frame (R295). -/
theorem buttonFrame_judges {t trx : Nat} {payload : List Byte} {s : State} (hon : Powered s) (hlo : 16 ≤ trx)
    (hhi : trx < 20) (howner : (s.adv t).owner trx = owSes) (hst : (s.adv t).trxState trx = rsReceive) :
    Does (.buttonFrame t trx payload) s ((s.adv t).buttonFrame payload (s.adv t).now) := by
  change execButtonFrame t trx payload s = _
  exact happen_eq hon (if_pos ⟨hlo, hhi, howner, hst⟩)

/-! ## The per-token update -/

theorem perTokenUpdateCommit_releases {t n : Nat} {r s : State} (hon : Powered s)
    (hcommitted : (s.adv t).takeCommitted (.perToken n ((s.adv t).ctx n).gen) = some r) :
    Does (.perTokenUpdateCommit t n) s
      (((r.updAux n (fun x => { x with ptWord := none, ptSince := none })).releaseClaim n
        ((r.updAux n (fun x => { x with ptWord := none, ptSince := none })).ctx n).gen).recordReady n) := by
  change execPerTokenUpdateCommit t n s = _
  refine happen_eq hon ?_
  simp only [State.perTokenDone, hcommitted]

theorem perTokenUpdateTimeout_withdraws {t n a : Nat} {s : State} (hon : Powered s)
    (hsince : ((s.adv t).aux n).ptSince = some a) (hlong : a + msT 5 ≤ (s.adv t).now)
    (hopen : ((s.adv t).ctx n).committed = false) : Does (.perTokenUpdateTimeout t n) s ((s.adv t).perTokenLate n) := by
  change execPerTokenUpdateTimeout t n s = _
  refine happen_eq hon ?_
  simp only [hsince, hopen, Nat.not_lt.mpr hlong, Bool.false_eq_true, or_self, if_false]

/-! ## Calls for a decision -/

theorem grant_starts {t core : Nat} {s : State} (hon : Powered s) (hcore : core < 16)
    (hidle : ((s.adv t).core core).scBusy = false) : Does (.grant t core) s ((s.adv t).scGrant core) := by
  change execGrant t core s = _
  exact happen_eq hon (if_pos ⟨hcore, by rw [hidle]; rfl⟩)

/-- A session that has no decision yet aborts with the script's code, or with DENIED (R466). -/
theorem refuse_aborts {t core n gen code : Nat} {s : State} (hon : Powered s) (hcore : core < 16)
    (hidle : ((s.adv t).core core).scBusy = false)
    (hbound : ((s.adv t).bump AST_CNT_SESCALL.COUNT).bound core = some (n, gen)) (hlive : (s.adv t).live n gen = true)
    (hstate : ((s.adv t).ctx n).state = ssDecide) (hopen : ((s.adv t).ctx n).committed = false)
    (hdec : ((s.adv t).ctx n).dec = 0) :
    Does (.refuse t core code) s
      ((((s.adv t).callBegun core).updCtx n (fun c => { c with dec := 2 })).abort n
        (if code = ccDenied ∨ (0x80 ≤ code ∧ code ≤ 0xFF) then code else ccDenied)) := by
  change execRefuse t core code s = _
  refine happen_eq hon ((if_pos ⟨hcore, by rw [hidle]; rfl⟩).trans ?_)
  rw [State.scRefuse, State.scStart_runs _ hbound hlive hstate hopen, State.ctx_callBegun, if_neg (not_not.mpr hdec)]

theorem cancel_cancels {t core n gen code : Nat} {s : State} (hon : Powered s) (hcore : core < 16)
    (hidle : ((s.adv t).core core).scBusy = false)
    (hbound : ((s.adv t).bump AST_CNT_SESCALL.COUNT).bound core = some (n, gen)) (hlive : (s.adv t).live n gen = true)
    (hstate : ((s.adv t).ctx n).state = ssDecide) (hopen : ((s.adv t).ctx n).committed = false) :
    Does (.cancel t core code) s
      (((s.adv t).callBegun core).cancel n
        (if code = ccDenied ∨ (0x80 ≤ code ∧ code ≤ 0xFF) then code else ccCancelled)) := by
  change execCancel t core code s = _
  refine happen_eq hon ((if_pos ⟨hcore, by rw [hidle]; rfl⟩).trans ?_)
  rw [State.scCancel, State.scStart_runs _ hbound hlive hstate hopen]

/-! ## Releases and outputs -/

/-- The head of an output's queue starts when the release before it is over by REL_GAP (R318). -/
theorem queuedReleaseStart_starts {t o e : Nat} {r : Rel} {rest : List (Nat × Rel)} {s : State} (hon : Powered s)
    (hqueue : (s.adv t).outQueue o = (e, r) :: rest) (hbegun : r.begun = true)
    (hidle : (s.adv t).on SHU_OUT_STAT.RUNNING o = false) (hgap : (s.adv t).gapOver o = true) :
    Does (.queuedReleaseStart t o) s ((s.adv t).startRel e) := by
  change execQueuedReleaseStart t o s = _
  refine happen_eq hon ?_
  simp only [hqueue]
  exact if_pos ⟨hbegun, by rw [hidle]; rfl, hgap⟩

theorem senseChange_decides {t o ohm : Nat} {closed : Bool} {s : State} (hon : Powered s) (ho : o < 16)
    (hawake : (s.adv t).pwrState ≤ psS1) (hrun : (s.adv t).running 0x09 = true) :
    Does (.senseChange t o ohm closed) s ((s.adv t).senseChange o ohm closed) := by
  change execSenseChange t o ohm closed s = _
  exact happen_eq hon (if_pos ⟨ho, hawake, hrun⟩)

/-- An asserted output under supervision faults: a short is absent again at once, its current cut off (R319, R321). -/
theorem outputFault_faults {t o : Nat} {short : Bool} {s : State} (hon : Powered s) (ho : o < 16)
    (hasserted : (s.adv t).on SHU_OUT_STAT.ASSERTED o = true) (hsup : (s.adv t).on SHU_OUT_CFG.SUPERVISE o = true) :
    Does (.outputFault t o short) s
      (if short then
        ((s.adv t).outFault o 2 rrShort).updOut o (fun x => { x with absent := some ((s.adv t).outFault o 2 rrShort).now })
      else (s.adv t).outFault o 1 rrOpen) := by
  change execOutputFault t o short s = _
  refine happen_eq hon ((if_pos ?asserted).trans ?_)
  case asserted => exact ⟨ho, hasserted, hsup⟩
  rw [State.now_outFault]

/-- A pulse outside a test ends PULSE_MS after its assertion (R319). -/
theorem pulseEnd_deasserts {t o : Nat} {s : State} (hon : Powered s) (ho : o < 16)
    (hasserted : (s.adv t).on SHU_OUT_STAT.ASSERTED o = true) (hmode : (s.adv t).rd SHU_OUT_CFG.MODE o = 1)
    (htest : ((s.adv t).outS o).test ≠ 2)
    (hdue : ((s.adv t).outS o).onAt + msT (max 10 ((s.adv t).rd SHU_OUT_CTL.PULSE_MS o)) ≤ (s.adv t).now) :
    Does (.pulseEnd t o) s ((s.adv t).outEdge o false) := by
  change execPulseEnd t o s = _
  refine happen_eq hon ((if_pos ?_).trans (if_neg htest))
  exact ⟨ho, hasserted, decide_eq_true hdue, .inr hmode⟩

/-- An output that was never tested is due; one without load faults, and the fault is present (R319, R321). -/
theorem openLoadTest_faults {t o : Nat} {s : State} (hon : Powered s) (ho : o < 16)
    (hen : (s.adv t).on SHU_OUT_CFG.EN o = true) (hsup : (s.adv t).on SHU_OUT_CFG.SUPERVISE o = true)
    (hoff : (s.adv t).on SHU_OUT_STAT.ASSERTED o = false) (hfirst : SMap.find (s.adv t).shu.loadTest o = none)
    (hrun : (s.adv t).running 0x09 = true) (hawake : (s.adv t).pwrState ≤ psS1) :
    Does (.openLoadTest t o false) s
      ((({ (s.adv t) with shu := { (s.adv t).shu with
        loadTest := SMap.put (s.adv t).shu.loadTest o (s.adv t).now } } : State).outFault o 1 rrOpen).updOut o
        (fun x => { x with absent := none })) := by
  change execOpenLoadTest t o false s = _
  refine happen_eq hon ?_
  simp only [hfirst]
  exact (if_pos ⟨ho, hen, hsup, by rw [hoff]; rfl, trivial, hrun, hawake⟩).trans (if_pos rfl)

/-- A fault clears once its condition has been absent for 1 s, and is archived (R321). -/
theorem clrFault_clears {t o a : Nat} {s : State} (hon : Powered s) (ho : o < 16)
    (hfault : (s.adv t).rd SHU_OUT_STAT.FAULT o ≠ 0) (habsent : ((s.adv t).outS o).absent = some a)
    (hlong : a + secT 1 ≤ (s.adv t).now) :
    Does (.clrFault t o) s
      ((((s.adv t).wr SHU_OUT_STAT.FAULT 0 o).updOut o (fun x => { x with absent := none })).archiveEvent 0x09 o 0) := by
  change execClrFault t o s = _
  refine happen_eq hon ((if_pos ho).trans ?_)
  simp only [State.clrFault, habsent]
  rw [if_neg hfault, if_neg (Nat.not_lt.mpr hlong)]

theorem test_tests {t port o : Nat} {s : State} (hon : Powered s) (hview : (s.adv t).viewReason port 0x09 = none) :
    Does (.test t port true o) s ((s.adv t).outTest o) := by
  change execTest t port true o s = _
  exact happen_eq hon (State.privWrite_granted _ _ hview)

/-- A release that runs past its time ends with TIMEOUT; on an output whose sense input is off nothing could report the
passage (R316). -/
theorem releaseTimeout_ends {t e : Nat} {r : Rel} {s : State} (hon : Powered s) (hrel : (s.adv t).rel e = some r)
    (hruns : r.state = 2) (hlong : r.tStart + msT (100 * r.toDs) ≤ (s.adv t).now) :
    Does (.releaseTimeout t e) s
      ((s.adv t).endRel e ccTimeout
        (if r.kind = rkOutput ∧ (s.adv t).rd SHU_OUT_STAT.SENSE r.target = 4 then rrNoSense else rrTimeout)) := by
  change execReleaseTimeout t e s = _
  refine happen_eq hon ?_
  simp only [hrel]
  exact if_pos ⟨hruns, hlong⟩

theorem releaseTimeout_unsensed {t e : Nat} {r : Rel} {s : State} (hon : Powered s) (hrel : (s.adv t).rel e = some r)
    (hruns : r.state = 2) (hlong : r.tStart + msT (100 * r.toDs) ≤ (s.adv t).now) (hkind : r.kind = rkOutput)
    (hsense : (s.adv t).rd SHU_OUT_STAT.SENSE r.target = 4) :
    Does (.releaseTimeout t e) s ((s.adv t).endRel e ccTimeout rrNoSense) := by
  have h := releaseTimeout_ends hon hrel hruns hlong
  rwa [if_pos ⟨hkind, hsense⟩] at h

theorem releaseTimeout_elsewhere {t e : Nat} {r : Rel} {s : State} (hon : Powered s) (hrel : (s.adv t).rel e = some r)
    (hruns : r.state = 2) (hlong : r.tStart + msT (100 * r.toDs) ≤ (s.adv t).now) (hkind : r.kind ≠ rkOutput) :
    Does (.releaseTimeout t e) s ((s.adv t).endRel e ccTimeout rrTimeout) := by
  have h := releaseTimeout_ends hon hrel hruns hlong
  rwa [if_neg fun hoff => hkind hoff.1] at h

/-- Settles O9: row by row; the rows of a GRANT, a committed decision, a release action, a test and a closing record are
their own operations as they stand, whatever the session, the output or the release is. -/
theorem shutterCommandsTakeEffect : Obligations.ShutterCommandsTakeEffect := by
  unfold Obligations.ShutterCommandsTakeEffect
  exact ⟨fun _ _ _ _ => buttonFrame_judges, fun _ _ _ _ => perTokenUpdateCommit_releases,
    fun _ _ _ _ => perTokenUpdateTimeout_withdraws,
    fun _ _ _ _ _ hon hcore hidle _ _ _ _ _ => grant_starts hon hcore hidle,
    fun _ _ _ _ _ _ => refuse_aborts, fun _ _ _ _ _ _ => cancel_cancels,
    fun _ n _ _ hon _ _ _ _ _ => happen_eq (f := (·.decisionDone n)) hon rfl,
    fun _ e _ _ hon _ _ _ _ => happen_eq (f := (·.releaseAction e)) hon rfl,
    fun _ _ _ _ _ _ => queuedReleaseStart_starts, fun _ _ _ _ _ => senseChange_decides,
    fun _ _ _ => outputFault_faults, fun _ _ _ => outputFault_faults, fun _ _ _ => pulseEnd_deasserts,
    fun _ _ _ => openLoadTest_faults, fun _ _ _ _ => clrFault_clears,
    fun _ _ _ _ hon hview _ _ _ _ _ _ => test_tests hon hview, fun _ _ _ _ => releaseTimeout_elsewhere,
    fun _ _ _ _ => releaseTimeout_unsensed,
    fun _ e _ _ _ hon _ _ _ => happen_eq (f := (·.closingDone e)) hon rfl⟩

end Sys2Proof.Machine
end

section
/-! PROOFS. Commands of lock nodes, their buses, vehicle units and Finder (O10). -/

namespace Sys2Proof.Machine

open Safety

/-! ## Replies of lock nodes and vehicle units -/

/-- A node's frame is logged and keeps the node present, before it is judged (R656). -/
abbrev State.nodeFrame (s : State) (bus id : Nat) : State := (s.rxLog bus id true true).fndHeard bus (bits id 23 16)

/-- A reply of the right form with the right check value is taken by the release it names (R327, R329). -/
theorem nodeReplyRow_takes {t bus id typ e : Nat} {data tag : List Byte} {r : Rel} {s1 s : State}
    (f : Nat → Rel → State → State) (hon : Powered s) (hbus : bus < 2) (hen : (s.adv t).on SHU_CAN_CTL.EN bus = true)
    (hstate : (s.adv t).rd SHU_CAN_STAT.STATE bus < 2) (htyp : bits id 28 24 = typ) (hlen : data.length = 16)
    (hbyte0 : leAt data 0 1 = typ) (hbyte1 : leAt data 1 1 = bits id 23 16)
    (hhome : SMap.get ((s.adv t).nodeFrame bus id).shu.nodeBus (bits id 23 16) 0 = bus)
    (hhit : SMap.first ((s.adv t).nodeFrame bus id).shu.rel (fun _ r => r.kind == rkNode && r.target == bits id 23 16 &&
      r.state == 2 && r.arcSeq == leAt data 4 4) = some (e, r))
    (hcheck : ((s.adv t).nodeFrame bus id).kceNow 0x09 kKNODE
      (SMap.get ((s.adv t).nodeFrame bus id).shu.nodeId (bits id 23 16) []) (slice data 0 8) = (ccOk, tag, s1))
    (htag : tag.take 8 = slice data 8 8) :
    happen t s (fun s => s.nodeReply bus id data typ f) = .next ((f e r s1).withQueue s.pending) := by
  have hup : ¬(2 ≤ bus ∨ (!(s.adv t).on SHU_CAN_CTL.EN bus) = true ∨ 2 ≤ (s.adv t).rd SHU_CAN_STAT.STATE bus) :=
    not_or.mpr ⟨Nat.not_le.mpr hbus, not_or.mpr ⟨by rw [hen]; decide, Nat.not_le.mpr hstate⟩⟩
  refine happen_eq hon ((if_neg hup).trans ?_)
  simp only [hhit, hcheck, htyp, hlen, hbyte0, hbyte1, hhome, htag, beq_self_eq_true, Bool.and_self, Bool.not_true,
    Bool.false_eq_true, ne_eq, not_true, or_self, if_false]

/-- A vehicle unit's ACCEPTED with the right check value hands the transceiver back and stops the resends (R330, R332). -/
theorem vehicleReply_accepts {t e : Nat} {frame tag : List Byte} {r : Rel} {s1 s : State} (hon : Powered s)
    (hrel : (s.adv t).rel e = some r) (howner : (s.adv t).owner r.target = owShu) (hruns : r.state = 2)
    (hkind : r.kind = rkPermit) (hlen : frame.length = 24) (hbyte0 : leAt frame 0 1 = 0x56) (haccepted : leAt frame 1 1 = 1)
    (hvu : leAt frame 4 4 = r.vuId) (hseq : leAt frame 8 4 = r.arcSeq)
    (hcheck : (s.adv t).kceNow 0x09 kKVU (leBytes 4 r.vuId) (slice frame 0 16) = (ccOk, tag, s1))
    (htag : tag.take 8 = slice frame 16 8) :
    Does (.vehicleReply t e frame) s ((s1.shuGive r.target).updRel e (fun r => { r with acked := true })) := by
  change execVehicleReply t e frame s = _
  refine happen_eq hon ?_
  simp only [hrel, howner, State.vehicleReply, hruns, hkind, hlen, hbyte0, haccepted, hvu, hseq, hcheck, htag,
    beq_self_eq_true, Nat.one_le_ofNat, decide_true, Bool.and_self, Bool.not_true, Bool.false_eq_true, ne_eq, not_true,
    or_self, if_true, if_false]

/-! ## Acknowledgements that do not come, permits -/

theorem nodeAckTimeout_resends {t e : Nat} {r : Rel} {s : State} (hon : Powered s) (hrel : (s.adv t).rel e = some r)
    (hruns : r.state = 2) (hkind : r.kind = rkNode) (hwaits : r.acked = false)
    (hlong : r.sent + msT (max 10 ((s.adv t).rd SHU_NODE_CFG.NODE_ACK)) ≤ (s.adv t).now)
    (htries : r.tries < orOne ((s.adv t).rd SHU_NODE_CFG.NODE_TRIES)) :
    Does (.nodeAckTimeout t e) s ((s.adv t).sendNode e r) := by
  change execNodeAckTimeout t e s = _
  refine happen_eq hon ?_
  simp only [hrel]
  exact (if_neg (by simpa [hruns, hkind, hwaits] using hlong)).trans (if_pos htries)

/-- After the last try the node is faulty, and its release ends with WIRE_BREAK (R329). -/
theorem nodeAckTimeout_givesUp {t e : Nat} {r : Rel} {s : State} (hon : Powered s) (hrel : (s.adv t).rel e = some r)
    (hruns : r.state = 2) (hkind : r.kind = rkNode) (hwaits : r.acked = false)
    (hlong : r.sent + msT (max 10 ((s.adv t).rd SHU_NODE_CFG.NODE_ACK)) ≤ (s.adv t).now)
    (htries : orOne ((s.adv t).rd SHU_NODE_CFG.NODE_TRIES) ≤ r.tries) :
    Does (.nodeAckTimeout t e) s (((s.adv t).nodeFault r.target).endRel e ccWireBreak rrNoAck) := by
  change execNodeAckTimeout t e s = _
  refine happen_eq hon ?_
  simp only [hrel]
  exact (if_neg (by simpa [hruns, hkind, hwaits] using hlong)).trans (if_neg (Nat.not_lt.mpr htries))

theorem permitResend_goesOn {t e : Nat} {r : Rel} {s : State} (hon : Powered s) (hrel : (s.adv t).rel e = some r)
    (hruns : r.state = 2) (hkind : r.kind = rkPermit) (hwaits : r.acked = false)
    (hlong : r.sent + msT (max 10 ((s.adv t).rd SHU_PERMIT_CFG.PERMIT_ACK)) ≤ (s.adv t).now) :
    Does (.permitResend t e) s
      ((s.adv t).permitAgain e r (r.sent + msT (max 10 ((s.adv t).rd SHU_PERMIT_CFG.PERMIT_ACK)))) := by
  change execPermitResend t e s = _
  refine happen_eq hon ?_
  simp only [hrel]
  exact if_neg (by simpa [hruns, hkind, hwaits] using hlong)

theorem statusQuery_polls {t e : Nat} {r : Rel} {s : State} (hon : Powered s) (hrel : (s.adv t).rel e = some r)
    (hruns : r.state = 2) (hkind : r.kind = rkPermit) (hacked : r.acked = true)
    (hlong : SMap.get (s.adv t).shu.polled e r.sent + msT (100 * orOne ((s.adv t).rd SHU_PERMIT_CFG.PERMIT_POLL)) ≤
      (s.adv t).now) :
    Does (.statusQuery t e) s ((s.adv t).permitPoll e r) := by
  change execStatusQuery t e s = _
  refine happen_eq hon ?_
  simp only [hrel]
  exact if_neg (by simpa [hruns, hkind, hacked] using hlong)

/-! ## Bus-off -/

theorem busOff_ends {t bus : Nat} {errs : List Nat} {s : State} (hon : Powered s) (hbus : bus < 2)
    (hup : (s.adv t).rd SHU_CAN_STAT.STATE bus ≠ 2) (hen : (s.adv t).on SHU_CAN_CTL.EN bus = true) :
    Does (.busOff t bus errs) s ((s.adv t).busOffNow bus errs) := by
  change execBusOff t bus errs s = _
  exact happen_eq hon (if_neg (by simpa [Nat.not_le.mpr hbus, hen] using hup))

theorem restart_starts {t bus : Nat} {s : State} (hon : Powered s) (hbus : bus < 2)
    (hoff : (s.adv t).rd SHU_CAN_STAT.STATE bus = 2) (hfirst : (s.adv t).shu.restart.contains bus = false) :
    Does (.restart t bus) s
      { (s.adv t) with shu := { (s.adv t).shu with restart := bus :: (s.adv t).shu.restart } } := by
  change execRestart t bus s = _
  exact happen_eq hon (if_pos ⟨hbus, hoff, by rw [hfirst]; rfl⟩)

/-- Without RESTART_MAN a bus recovers by itself (R325). -/
theorem busOffRecovered_recovers {t bus : Nat} {s : State} (hon : Powered s) (hbus : bus < 2)
    (hoff : (s.adv t).rd SHU_CAN_STAT.STATE bus = 2) (hauto : (s.adv t).on SHU_CAN_CTL.RESTART_MAN bus = false) :
    Does (.busOffRecovered t bus) s
      ((((({ (s.adv t) with shu := { (s.adv t).shu with restart := (s.adv t).shu.restart.erase bus } } : State).wr
        SHU_CAN_STAT.STATE 0 bus).wr SHU_CAN_ERR.TEC 0 bus).wr SHU_CAN_ERR.REC 0 bus).irq SHU_CAN_IRQ_STAT.RECOVERED bus) := by
  change execBusOffRecovered t bus s = _
  exact happen_eq hon (if_pos ⟨hbus, hoff, .inl (by rw [hauto]; rfl)⟩)

/-! ## Finder -/

/-- A lock node that is neither adopted nor being assigned, and announces itself on one bus, is assigned a handle (R655). -/
theorem State.announce_assigns {s : State} {bus nodeId ver nonce : Nat} (hfinds : s.fndOn bus = true)
    (honce : SMap.find s.mgt.ann (1 - bus) = none)
    (habsent : SMap.first s.mgt.nodes (fun _ x => x.nodeId == nodeId && x.state == 2) = none)
    (hfresh : SMap.first s.mgt.nodes (fun _ x => x.nodeId == nodeId && x.state == 1) = none) :
    s.announce bus nodeId 0 ver nonce =
      ({ s with mgt := { s.mgt with ann := SMap.put s.mgt.ann bus (nodeId, s.now) } } : State).fndAssign bus nodeId 0 ver
        nonce := by
  simp [State.announce, hfinds, honce, habsent, hfresh]

theorem announce_assigns {t bus nodeId kind ver nonce : Nat} {s : State} (hon : Powered s)
    (hfinds : (s.adv t).fndOn bus = true) (hlock : kind = 0) (hnode : nodeId < 2 ^ 64) (hver : ver < 256)
    (hnonce : nonce < 2 ^ 32)
    (honce : SMap.find (s.adv t).mgt.ann (1 - bus) = none)
    (habsent : SMap.first (s.adv t).mgt.nodes (fun _ x => x.nodeId == nodeId && x.state == 2) = none)
    (hfresh : SMap.first (s.adv t).mgt.nodes (fun _ x => x.nodeId == nodeId && x.state == 1) = none) :
    Does (.announce t bus nodeId kind ver nonce) s
      (({ (s.adv t) with mgt := { (s.adv t).mgt with
        ann := SMap.put (s.adv t).mgt.ann bus (nodeId, (s.adv t).now) } } : State).fndAssign bus nodeId 0 ver nonce) := by
  subst hlock
  change execAnnounce t bus nodeId 0 ver nonce s = _
  refine happen_eq hon ?_
  rw [Nat.mod_eq_of_lt hnode, Nat.mod_eq_of_lt hver, Nat.mod_eq_of_lt hnonce]
  exact State.announce_assigns hfinds honce habsent hfresh

/-- A right CONFIRM in time adopts the node (R655). -/
theorem confirm_adopts {t bus h : Nat} {frame tag : List Byte} {x : FndNode} {s1 s : State} (hon : Powered s)
    (hnode : (s.adv t).fnd h = some x) (hassigned : x.state = 1) (hbus : x.bus = bus)
    (hfinds : (s.adv t).fndOn bus = true)
    (hintime : (s.adv t).now ≤ x.since + msT (orOne ((s.adv t).rd MGT_FND_CFG.ASSIGN_TO))) (hlen : frame.length = 16)
    (hhandle : leAt frame 0 1 = h) (hzero : leAt frame 1 3 = 0) (hnonce : leAt frame 4 4 = x.dnonce)
    (hcheck : (s.adv t).fndCheck x (slice frame 0 8) = (ccOk, tag, s1)) (htag : tag = slice frame 8 8) :
    Does (.confirm t bus h frame) s (s1.fndAdopt bus h x) := by
  change execConfirm t bus h frame s = _
  refine happen_eq hon ?_
  simp only [State.fndConfirm, hnode]
  refine (if_neg (by simpa [hassigned, hbus, hfinds] using hintime)).trans ?_
  simp only [hcheck]
  exact if_neg (by simp [hlen, hhandle, hzero, hnonce, htag])

theorem assignTimeout_frees {t h : Nat} {x : FndNode} {s : State} (hon : Powered s) (hnode : (s.adv t).fnd h = some x)
    (hassigned : x.state = 1) (hlate : x.since + msT (orOne ((s.adv t).rd MGT_FND_CFG.ASSIGN_TO)) < (s.adv t).now) :
    Does (.assignTimeout t h) s (((s.adv t).delFnd h).fndRefuse h) := by
  change execAssignTimeout t h s = _
  refine happen_eq hon ?_
  simp only [hnode]
  exact if_pos ⟨hassigned, hlate⟩

theorem beat_clearsFault {t bus h : Nat} {x : FndNode} {s : State} (hon : Powered s) (hnode : (s.adv t).fnd h = some x)
    (hpresent : x.state = 2) (hbus : x.bus = bus) (hfinds : (s.adv t).fndOn bus = true) :
    Does (.beat t bus h) s (((s.adv t).fndHeard bus h).setNode SHU_NODE_FAULT.MAP h false) := by
  change execBeat t bus h s = _
  refine happen_eq hon ?_
  simp only [hnode]
  exact if_pos ⟨hpresent, hbus, hfinds⟩

/-- A LEAVE with the right check value departs the node; its first one may carry any counter (R656). -/
theorem leave_departs {t bus h : Nat} {frame tag : List Byte} {x : FndNode} {s1 s : State} (hon : Powered s)
    (hnode : (s.adv t).fnd h = some x) (hpresent : x.state = 2) (hbus : x.bus = bus) (hfinds : (s.adv t).fndOn bus = true)
    (hfirst : x.ctr = none) (hlen : frame.length = 16) (hhandle : leAt frame 0 1 = h) (hzero : leAt frame 1 3 = 0)
    (hcheck : ((s.adv t).fndHeard bus h).fndCheck x (slice frame 0 8) = (ccOk, tag, s1)) (htag : tag = slice frame 8 8) :
    Does (.leave t bus h frame) s ((s1.putFnd h { x with ctr := some (leAt frame 4 4) }).fndDepart h dcLeave) := by
  subst hbus
  change execLeave t x.bus h frame s = _
  refine happen_eq hon ?_
  simp only [hnode]
  refine (if_neg (by simp [hpresent, hfinds])).trans ?_
  simp only [State.leaveTaken, hcheck, hfirst]
  exact if_neg (by simp [hlen, hhandle, hzero, htag])

theorem departure_departs {t h : Nat} {x : FndNode} {s : State} (hon : Powered s) (hnode : (s.adv t).fnd h = some x)
    (hpresent : x.state = 2)
    (hsilent : x.heard + msT (max 2 ((s.adv t).rd MGT_FND_CFG.DEPART_N) * max 10 ((s.adv t).rd MGT_FND_CFG.HB_MS)) ≤
      (s.adv t).now) :
    Does (.departure t h) s ((s.adv t).fndDepart h dcSilent) := by
  change execDeparture t h s = _
  refine happen_eq hon ?_
  simp only [hnode]
  exact if_pos ⟨hpresent, hsilent⟩

/-- Settles O10: row by row; the three replies of a lock node share their judgement and differ in what follows, and a probe
has no condition. -/
theorem nodeAndFinderCommandsTakeEffect : Obligations.NodeAndFinderCommandsTakeEffect := by
  unfold Obligations.NodeAndFinderCommandsTakeEffect
  exact ⟨fun _ _ _ _ _ _ _ _ _ => nodeReplyRow_takes (fun e _ s => s.updRel e (fun r => { r with acked := true })),
    fun _ _ _ _ _ _ _ _ _ => nodeReplyRow_takes (fun e _ s => s.endRel e ccOk rrPassage),
    fun _ _ _ _ _ _ _ _ _ => nodeReplyRow_takes (fun e _ s => s.endRel e ccDenied rrRefused),
    fun _ _ _ _ => nodeAckTimeout_resends, fun _ _ _ _ => nodeAckTimeout_givesUp, fun _ _ _ _ => busOff_ends,
    fun _ _ _ => restart_starts, fun _ _ _ => busOffRecovered_recovers, fun _ _ _ _ => permitResend_goesOn,
    fun _ _ _ _ => statusQuery_polls, fun _ _ _ _ _ _ _ => vehicleReply_accepts,
    fun _ _ _ _ _ _ _ => announce_assigns,
    fun _ _ _ _ _ _ _ _ => confirm_adopts, fun _ _ _ _ => assignTimeout_frees, fun _ _ _ _ _ => beat_clearsFault,
    fun _ _ _ _ _ _ _ _ => leave_departs, fun _ _ _ _ => departure_departs,
    fun _ _ hon => happen_eq (f := State.fndProbe) hon rfl⟩

end Sys2Proof.Machine
end

section
/-! PROOFS. Ephemeris commands (O11). -/

namespace Sys2Proof.Machine

open Safety

/-! ## Lookups -/

theorem lookup_answersHere {t n dram : Nat} {s : State} (hon : Powered s) (hwants : (s.adv t).wantsEph n = true)
    (hrun : (s.adv t).running 0x0A = true) (hhere : (s.adv t).lookupAway n = false) :
    Does (.lookup t n dram) s ((s.adv t).lookup n dram) := by
  change execLookup t n dram s = _
  exact happen_eq hon ((if_pos ⟨hwants, hrun⟩).trans (if_neg (Bool.eq_false_iff.mp hhere)))

theorem lookup_sendsAway {t n dram : Nat} {s : State} (hon : Powered s) (hwants : (s.adv t).wantsEph n = true)
    (hrun : (s.adv t).running 0x0A = true) (haway : (s.adv t).lookupAway n = true) :
    Does (.lookup t n dram) s ((s.adv t).lookupSend n) := by
  change execLookup t n dram s = _
  exact happen_eq hon ((if_pos ⟨hwants, hrun⟩).trans (if_pos haway))

/-! ## Pages and the root -/

theorem pageFetchDone_fetches {t page : Nat} {data line : List Byte} {s : State} (hon : Powered s)
    (hpage : page < ephPages) (htakes : (s.adv t).ephTakes = true) (hmissing : (s.adv t).ephOk page = false)
    (hgood : (s.adv t).eph.bad.contains page = false) :
    Does (.pageFetchDone t page data line) s (((s.adv t).bump EPH_CNT_REFETCH.COUNT).ephFetch page data line) := by
  change execPageFetchDone t page data line s = _
  exact happen_eq hon (if_pos ⟨hpage, htakes, by rw [hmissing]; rfl, by rw [hgood]; rfl⟩)

/-- A page of the sweep that was not fetched ahead is fetched, and the sweep moves on (R361). -/
theorem sweepPage_fetches {t : Nat} {data line : List Byte} {s : State} (hon : Powered s)
    (htakes : (s.adv t).ephTakes = true) (hsweeps : (s.adv t).eph.sweep < ephPages)
    (hmissing : (s.adv t).eph.fetched.contains (s.adv t).eph.sweep = false) :
    Does (.sweepPage t data line) s
      ((State.sweepOn (((s.adv t).ephFetch (s.adv t).eph.sweep data line).eph.fetched.length + 2)
        ((s.adv t).ephFetch (s.adv t).eph.sweep data line)).ephStat) := by
  change execSweepPage t data line s = _
  refine happen_eq hon ((if_pos ⟨htakes, hsweeps⟩).trans ?_)
  simp only [hmissing, Bool.false_eq_true, if_false]

theorem rootCheck_checks {t : Nat} {staged : Bool} {l1 : List Byte} {s : State} (hon : Powered s)
    (hloads : (s.adv t).rd EPH_STAT.STATE = ephLoading) (hopen : (s.adv t).eph.accepted = false)
    (hkey : (s.adv t).keyCode kKT false = ccOk) :
    Does (.rootCheck t staged l1) s ((s.adv t).rootCheck staged l1) := by
  change execRootCheck t staged l1 s = _
  exact happen_eq hon (if_pos ⟨hloads, by rw [hopen]; rfl, hkey⟩)

/-! ## Changes by a script -/

@[simp] theorem State.now_callBegun (s : State) (core : Nat) : (s.callBegun core).now = s.now :=
  s.now_wr AST_CNT_SESCALL.COUNT _ _ _

theorem enrolToken_submits {t core n gen : Nat} {record : List Byte} {s : State} (hon : Powered s) (hcore : core < 16)
    (hidle : ((s.adv t).core core).scBusy = false)
    (hbound : ((s.adv t).bump AST_CNT_SESCALL.COUNT).bound core = some (n, gen)) (hlive : (s.adv t).live n gen = true)
    (hstate : ((s.adv t).ctx n).state = ssDecide) (hopen : ((s.adv t).ctx n).committed = false) :
    Does (.enrolToken t core true record) s
      (((s.adv t).callBegun core).submitChange
        { op := 1, route := 0, token := leAt record 1 3, kv := leAt record 4 1 % 16, record := padTo record 128,
          dest := .core core n gen, since := (s.adv t).now }) := by
  change execEnrolToken t core true record s = _
  refine happen_eq hon ((if_pos ⟨hcore, by rw [hidle]; rfl⟩).trans ?_)
  rw [State.scEnrol, State.scStart_runs _ hbound hlive hstate hopen, State.now_callBegun]
  exact if_neg Bool.false_ne_true

theorem revoke_submits {t core n gen token : Nat} {s : State} (hon : Powered s) (hcore : core < 16)
    (hidle : ((s.adv t).core core).scBusy = false)
    (hbound : ((s.adv t).bump AST_CNT_SESCALL.COUNT).bound core = some (n, gen)) (hlive : (s.adv t).live n gen = true)
    (hstate : ((s.adv t).ctx n).state = ssDecide) (hopen : ((s.adv t).ctx n).committed = false) :
    Does (.revoke t core token) s
      (((s.adv t).callBegun core).submitChange
        { op := 3, route := 0, token := token % 2 ^ 24, dest := .core core n gen, since := (s.adv t).now }) := by
  change execRevoke t core token s = _
  refine happen_eq hon ((if_pos ⟨hcore, by rw [hidle]; rfl⟩).trans ?_)
  rw [State.scRevoke, State.scStart_runs _ hbound hlive hstate hopen, State.now_callBegun]

/-! ## Changes that wait -/

/-- A change that nothing bars and whose identity is found is judged with its place and carried out (R346, R352). -/
theorem State.serveChange_found {s : State} {x : EphChange} {k : Nat} (hbar : s.changeBar x = none)
    (hfound : s.ephFind x.token = .at k) : s.serveChange x = some (s.applyChange x (s.changeOut x (some k))) := by
  simp only [State.serveChange, hbar, hfound]

theorem State.serveOp_found {s : State} {op k : Nat} {x : EphChange}
    (hwaits : s.eph.changes.find? (fun x => x.op == op) = some x) (hbar : (s.dropChange x).changeBar x = none)
    (hfound : (s.dropChange x).ephFind x.token = .at k) :
    s.serveOp op = ((s.dropChange x).applyChange x ((s.dropChange x).changeOut x (some k))).ephStat := by
  simp only [State.serveOp, hwaits, State.serveChange_found hbar hfound]

/-- The rows that serve the change of an accepted envelope, with its operation; ENROL and REVOKE do so from core 16 up
(R346, R350). -/
def envelopeChangeRows (t : Nat) : List (Instr × Nat) :=
  [(.enrolToken t 16 true [], 1), (.revoke t 16 0, 3), (.suspend t, 4), (.resume t, 5), (.attr t, 6), (.remove t, 7)]

theorem exec_envelopeChangeRow {t op : Nat} {c : Instr} (s : State) (hrow : (c, op) ∈ envelopeChangeRows t) :
    exec c s = happen t s (·.serveOp op) := by
  simp only [envelopeChangeRows, List.mem_cons, Prod.mk.injEq, List.not_mem_nil, or_false] at hrow
  rcases hrow with ⟨rfl, rfl⟩ | ⟨rfl, rfl⟩ | ⟨rfl, rfl⟩ | ⟨rfl, rfl⟩ | ⟨rfl, rfl⟩ | ⟨rfl, rfl⟩
  · exact congrArg (happen t s) (funext fun _ => if_neg fun hcore => Nat.lt_irrefl 16 hcore.1)
  · exact congrArg (happen t s) (funext fun _ => if_neg fun hcore => Nat.lt_irrefl 16 hcore.1)
  all_goals rfl

theorem envelopeChangeRow_carriesOut {t op k : Nat} {c : Instr} {x : EphChange} {s : State} (hon : Powered s)
    (hrow : (c, op) ∈ envelopeChangeRows t) (hwaits : (s.adv t).eph.changes.find? (fun x => x.op == op) = some x)
    (hbar : ((s.adv t).dropChange x).changeBar x = none)
    (hfound : ((s.adv t).dropChange x).ephFind x.token = .at k) :
    Does c s ((((s.adv t).dropChange x).applyChange x (((s.adv t).dropChange x).changeOut x (some k))).ephStat) :=
  (exec_envelopeChangeRow s hrow).trans (happen_eq hon (State.serveOp_found hwaits hbar hfound))

/-- A change other than an adoption that has waited CHANGE_WAIT for its pages ends NOT_VERIFIED (R352). -/
theorem changeWaitExpired_refuses {t : Nat} {c : EphChange} {s : State} (hon : Powered s)
    (hlate : (s.adv t).findTry.eph.changes.find? (fun c => c.op != 8 &&
      decide (c.since + (s.adv t).findTry.changeWait ≤ (s.adv t).findTry.now)) = some c) :
    Does (.changeWaitExpired t) s
      ((((s.adv t).findTry.dropChange c).ephRefuse c rUnverified ccNotVerified 0).ephStat) := by
  change execChangeWaitExpired t s = _
  refine happen_eq hon ?_
  simp only [ge_iff_le, hlate]

/-! ## The host's enrolment code and adoptions -/

theorem enrolCode_submits {t token kv template expDay num digits : Nat} {s : State} (hon : Powered s)
    (hidle : (s.adv t).on EPH_CODE_RESULT.BUSY = false) :
    Does (.enrolCode t token kv template expDay num digits) s
      (((((((((s.adv t).wr EPH_CODE_ID.TOKEN_ID token).wr EPH_CODE_ID.KV kv).wr EPH_CODE_ARG.TEMPLATE template).wr
        EPH_CODE_ARG.EXP_DAY expDay).wr EPH_CODE_NUM.NUM num).wr EPH_CODE_DIGITS_LO.DIGITS digits).wr
        EPH_CODE_DIGITS_HI.DIGITS (digits / 2 ^ 32)).codeSubmit) := by
  change execEnrolCode t token kv template expDay num digits s = _
  exact happen_eq hon (if_neg (Bool.eq_false_iff.mp hidle))

theorem adoptRow_adopts {t mode : Nat} {c : Instr} {s : State} (hon : Powered s)
    (hrow : (c, mode) ∈ [(Instr.adopt t, 0), (Instr.format t, 1)]) : Does c s ((s.adv t).adopt mode) := by
  simp only [List.mem_cons, Prod.mk.injEq, List.not_mem_nil, or_false] at hrow
  rcases hrow with ⟨rfl, rfl⟩ | ⟨rfl, rfl⟩
  · exact happen_eq (f := (·.adopt 0)) hon rfl
  · exact happen_eq (f := (·.adopt 1)) hon rfl

/-! ## Commits of the journal -/

theorem journalCommit_takesEffect {t j : Nat} {r s : State} {e : JEntry} (hon : Powered s)
    (hcommitted : (s.adv t).takeCommitted (.journalCommit j) = some r)
    (hentry : (s.adv t).eph.journal.find? (fun e => e.jseq == j) = some e) (hstage : e.stage = 1) :
    Does (.journalCommit t j) s (r.jrnlCommitted e) := by
  change execJournalCommit t j s = _
  refine happen_eq hon ?_
  simp only [hcommitted, hentry]
  exact if_pos hstage

theorem followOnDone_writesDone {t j : Nat} {r s : State} {e : JEntry} (hon : Powered s)
    (hcommitted : (s.adv t).takeCommitted (.followOn j) = some r)
    (hentry : (s.adv t).eph.journal.find? (fun e => e.jseq == j) = some e) (hstage : e.stage = 3) :
    Does (.followOnDone t j) s (r.writeDone j) := by
  change execFollowOnDone t j s = _
  refine happen_eq hon ?_
  simp only [hcommitted, hentry]
  exact if_pos hstage

theorem find_starts {t token : Nat} {s : State} (hon : Powered s) (hidle : (s.adv t).eph.find = none) :
    Does (.find t token) s ((s.adv t).findStart token) := by
  change execFind t token s = _
  exact happen_eq hon (if_neg (by rw [hidle]; exact Bool.false_ne_true))

/-! ## Compaction -/

theorem compactionStart_compacts {t : Nat} {s : State} (hon : Powered s)
    (hfull : clampTo 10 90 ((s.adv t).rd EPH_COMPACT_CFG.COMPACT_AT) * 8192 ≤ (s.adv t).jrnlUsed * 100) :
    Does (.compactionStart t) s ((s.adv t).compact) := by
  change execCompactionStart t s = _
  exact happen_eq hon (if_pos (.inl hfull))

/-- A step of a compaction that the flash completed well, outside the steps that wait for something else (R364). -/
theorem State.compactStep_ok (s : State) {st : Nat} (hstep : s.rd EPH_COMPACT_STAT.STEP = st)
    (hst : st = 1 ∧ s.on EPH_STAT.STAGED = false ∨ st = 5 ∨ st = 6) :
    s.compactStep ccOk = s.wr EPH_COMPACT_STAT.STEP (st + 1) := by
  rcases hst with ⟨rfl, hfree⟩ | rfl | rfl
  · simp [State.compactStep, hstep, hfree]
  · simp [State.compactStep, hstep]
  · simp [State.compactStep, hstep]

/-- The last step ends the compaction (R364). -/
theorem State.compactStep_last {s : State} (hstep : s.rd EPH_COMPACT_STAT.STEP = 7) :
    s.compactStep ccOk = ((s.wr EPH_COMPACT_STAT.STEP 0).wr EPH_STAT.COMPACTING 0).wr EPH_STAT.STAGED 0 := by
  simp [State.compactStep, hstep]

/-- A failure before the commit record is written ends the compaction with the flash's code (R364). -/
theorem State.compactStep_fails {s : State} {code : Nat} (hcode : code ≠ ccOk) (hruns : 0 < s.rd EPH_COMPACT_STAT.STEP)
    (hearly : s.rd EPH_COMPACT_STAT.STEP < 4) : s.compactStep code = s.compactFail code :=
  (if_neg (by omega)).trans (if_pos ⟨hcode, hearly⟩)

/-- The row of a completed step is the step itself. -/
theorem compactionStepDone_steps {t code : Nat} {s u : State} (hon : Powered s) (hstep : (s.adv t).compactStep code = u) :
    Does (.compactionStepDone t code) s u :=
  happen_eq (f := (·.compactStep code)) hon hstep

/-- Settles O11: row by row; the rows of an envelope's change share the serving of the oldest one, and a script's two
calls share the start of a session call. -/
theorem ephemerisCommandsTakeEffect : Obligations.EphemerisCommandsTakeEffect := by
  unfold Obligations.EphemerisCommandsTakeEffect
  exact ⟨fun _ _ _ _ => lookup_answersHere, fun _ _ _ _ => lookup_sendsAway, fun _ _ _ _ _ => pageFetchDone_fetches,
    fun _ _ _ _ => sweepPage_fetches,
    fun _ _ _ _ _ hon hloads hopen _ hkey => rootCheck_checks hon hloads hopen hkey,
    fun _ _ _ _ _ _ => enrolToken_submits, fun _ _ _ _ _ _ => revoke_submits,
    fun _ _ _ _ _ _ => envelopeChangeRow_carriesOut,
    fun _ _ _ _ _ _ _ _ hon hidle _ => enrolCode_submits hon hidle,
    fun _ _ _ _ _ hon hrow _ _ _ => adoptRow_adopts hon hrow,
    fun _ _ _ _ _ => journalCommit_takesEffect, fun _ _ _ _ _ => followOnDone_writesDone,
    fun _ _ _ => find_starts, fun _ _ _ => changeWaitExpired_refuses,
    fun _ _ hon hfull _ => compactionStart_compacts hon hfull,
    fun _ _ hon _ => happen_eq (f := State.compact) hon rfl,
    fun _ _ hon hstep hfree => compactionStepDone_steps hon (State.compactStep_ok _ hstep (.inl ⟨rfl, hfree⟩)),
    fun _ _ _ hon hst hstep => compactionStepDone_steps hon (State.compactStep_ok _ hstep (.inr hst)),
    fun _ _ hon hstep => compactionStepDone_steps hon (State.compactStep_last hstep),
    fun _ _ _ hon hcode hruns hearly => compactionStepDone_steps hon (State.compactStep_fails hcode hruns hearly)⟩

end Sys2Proof.Machine
end

section
/-! PROOFS. The ALU as 32-bit arithmetic (O39, O40, O41, O42). -/

namespace Sys2Proof.Machine

/-! ## Two's complement as bit vectors -/

theorem toSigned_toNat {w : Nat} (x : BitVec w) : toSigned w x.toNat = x.toInt := by
  rw [toSigned, Nat.mod_eq_of_lt x.isLt, BitVec.toInt_eq_toNat_cond]
  rcases w with - | w
  · simp [BitVec.of_length_zero]
  · have hhalf : 2 ^ (w + 1) = 2 * 2 ^ w := by rw [Nat.pow_succ, Nat.mul_comm]
    simp only [Nat.add_sub_cancel, hhalf, Nat.mul_lt_mul_left (Nat.two_pos)]

theorem ofSigned_eq_toNat (w : Nat) (i : Int) : ofSigned w i = (BitVec.ofInt w i).toNat := (BitVec.toNat_ofInt i).symm

theorem ofSigned_toInt {w : Nat} (x : BitVec w) : ofSigned w x.toInt = x.toNat := by
  rw [ofSigned_eq_toNat, BitVec.ofInt_toInt]

/-- sx of a field is the sign extension of the word cut to the field. -/
theorem sx_toNat (w : Nat) (a : BitVec 32) : sx w a.toNat = ((a.setWidth w).signExtend 32).toNat := by
  rw [sx, ← BitVec.toNat_setWidth, toSigned_toNat, ofSigned_eq_toNat]
  rfl

theorem bit_toNat {w : Nat} (x : BitVec w) (k : Nat) : bit x.toNat k = x.getLsbD k := bit_eq_testBit _ _

theorem not32_toNat (a : BitVec 32) : not32 a.toNat = (~~~a).toNat := by
  rw [not32, Nat.mod_eq_of_lt a.isLt, BitVec.toNat_not]

theorem nzOut_toNat (a : BitVec 32) : nzOut a.toNat = (a.toNat, nzF a.toNat) := by
  rw [nzOut, Nat.mod_eq_of_lt a.isLt]

theorem bne_eq_decide_ne (x y : Int) : (x != y) = decide (x ≠ y) := by
  by_cases h : x = y <;> simp [h]

/-! ## Sums and products -/

theorem addF_toNat (a b : BitVec 32) : addF a.toNat b.toNat = ((a + b).toNat, nzF (a + b).toNat ++
    [(pbC, decide (2 ^ 32 ≤ a.toNat + b.toNat)), (pbV, decide ((a + b).toInt ≠ a.toInt + b.toInt))]) := by
  have hres : (a.toNat + b.toNat) % 2 ^ 32 = (a + b).toNat := rfl
  simp only [addF, addOut, hres, toSigned_toNat, Nat.cast_zero, add_zero, ne_comm (a := (a + b).toInt)]
  rw [bne_eq_decide_ne]

theorem subF_toNat (a b : BitVec 32) : subF a.toNat b.toNat = ((a - b).toNat, nzF (a - b).toNat ++
    [(pbC, decide (b ≤ a)), (pbV, decide ((a - b).toInt ≠ a.toInt - b.toInt))]) := by
  have hb := b.isLt
  have hres : (a.toNat + (2 ^ 32 - 1 - b.toNat) + 1) % 2 ^ 32 = (a - b).toNat := by
    rw [BitVec.toNat_sub]
    congr 1
    omega
  have hborrow : (2 ^ 32 ≤ a.toNat + (2 ^ 32 - 1 - b.toNat) + 1) ↔ b ≤ a := by rw [BitVec.le_def]; omega
  simp only [subF, subOut, hres, hborrow, toSigned_toNat, Nat.cast_one, sub_add_cancel, ne_comm (a := (a - b).toInt)]
  rw [bne_eq_decide_ne]

theorem negF_toNat (a : BitVec 32) : (negF a.toNat).1 = (-a).toNat := by
  rw [← BitVec.zero_sub]
  exact congrArg Prod.fst (subF_toNat 0 a)

theorem mulOut_toNat (a b : BitVec 32) : (mulOut a.toNat b.toNat).1 = (a * b).toNat := by
  simp only [mulOut, toSigned_toNat, ofSigned_eq_toNat, BitVec.ofInt_mul, BitVec.ofInt_toInt]

theorem mulhOut_toNat (a b : BitVec 32) :
    (mulhOut a.toNat b.toNat).1 = ((a.signExtend 64 * b.signExtend 64).extractLsb' 32 32).toNat := by
  simp only [mulhOut, nzOut, toSigned_toNat, ofSigned_eq_toNat, BitVec.ofInt_mul, BitVec.extractLsb'_toNat,
    Nat.shiftRight_eq_div_pow]
  rfl

theorem mulhuOut_toNat (a b : BitVec 32) :
    (mulhuOut a.toNat b.toNat).1 = ((a.zeroExtend 64 * b.zeroExtend 64).extractLsb' 32 32).toNat := by
  have ha := a.isLt
  have hb := b.isLt
  have hlt : a.toNat * b.toNat < 2 ^ 32 * 2 ^ 32 := Nat.mul_lt_mul'' ha hb
  simp only [mulhuOut, nzOut, BitVec.extractLsb'_toNat, Nat.shiftRight_eq_div_pow, BitVec.toNat_mul, BitVec.truncate_eq_setWidth,
    BitVec.toNat_setWidth]
  rw [Nat.mod_eq_of_lt (ha.trans (by decide)), Nat.mod_eq_of_lt (hb.trans (by decide)),
    Nat.mod_eq_of_lt (hlt.trans_eq (by decide))]

/-! ## Shifts and rotation -/

theorem shlOut_toNat (a : BitVec 32) (m : Nat) : shlOut a.toNat m =
    ((a <<< (m % 64)).toNat, nzF (a <<< (m % 64)).toNat ++
      if m % 64 = 0 then [] else [(pbC, decide (m % 64 ≤ 32) && a.getLsbD (32 - m % 64))]) := by
  have hres : (if 32 ≤ m % 64 then 0 else a.toNat * 2 ^ (m % 64) % 2 ^ 32) = (a <<< (m % 64)).toNat := by
    rw [BitVec.toNat_shiftLeft, Nat.shiftLeft_eq]
    split
    · next h => rw [Nat.mod_eq_zero_of_dvd ((Nat.pow_dvd_pow 2 h).mul_left _)]
    · rfl
  simp only [shlOut, hres, bit_toNat]

theorem shrOut_toNat (a : BitVec 32) (m : Nat) : shrOut a.toNat m =
    ((a >>> (m % 64)).toNat, nzF (a >>> (m % 64)).toNat ++
      if m % 64 = 0 then [] else [(pbC, decide (m % 64 ≤ 32) && a.getLsbD (m % 64 - 1))]) := by
  simp only [shrOut, bit_toNat, BitVec.toNat_ushiftRight, Nat.shiftRight_eq_div_pow]

theorem sarOut_toNat (a : BitVec 32) (m : Nat) : sarOut a.toNat m =
    ((a.sshiftRight (m % 64)).toNat, nzF (a.sshiftRight (m % 64)).toNat ++
      if m % 64 = 0 then [] else [(pbC, a.getLsbD (min (m % 64 - 1) 31))]) := by
  simp only [sarOut, bit_toNat, toSigned_toNat, ofSigned_eq_toNat, BitVec.sshiftRight, Int.shiftRight_eq_div_pow]

/-- A rotation joins the bits shifted out to the bits that stay, which share no place with them. -/
theorem rotateRight_toNat (a : BitVec 32) {m : Nat} (hm : m < 32) :
    a.toNat / 2 ^ m + a.toNat % 2 ^ m * 2 ^ (32 - m) % 2 ^ 32 = (a.rotateRight m).toNat := by
  have hsplit : (2 : Nat) ^ 32 = 2 ^ m * 2 ^ (32 - m) := by rw [← Nat.pow_add]; congr 1; omega
  have hlow : a.toNat / 2 ^ m < 2 ^ (32 - m) := Nat.div_lt_of_lt_mul (hsplit ▸ a.isLt)
  have hhigh : a.toNat <<< (32 - m) % 2 ^ 32 = (a.toNat % 2 ^ m) <<< (32 - m) := by
    rw [Nat.shiftLeft_eq, Nat.shiftLeft_eq, hsplit, Nat.mul_mod_mul_right]
  have hfit : a.toNat % 2 ^ m * 2 ^ (32 - m) < 2 ^ 32 := by
    rw [hsplit]; exact Nat.mul_lt_mul_of_pos_right (Nat.mod_lt _ (Nat.two_pow_pos m)) (Nat.two_pow_pos _)
  rw [BitVec.toNat_rotateRight, Nat.mod_eq_of_lt hm, hhigh, Nat.mod_eq_of_lt hfit, Nat.shiftRight_eq_div_pow, Nat.or_comm,
    ← Nat.shiftLeft_add_eq_or_of_lt hlow, Nat.shiftLeft_eq, Nat.add_comm]

theorem rorOut_toNat (a : BitVec 32) (m : Nat) : rorOut a.toNat m =
    ((a.rotateRight (m % 64 % 32)).toNat, nzF (a.rotateRight (m % 64 % 32)).toNat ++
      if m % 64 = 0 then [] else [(pbC, (a.rotateRight (m % 64 % 32)).getLsbD 31)]) := by
  simp only [rorOut, rotateRight_toNat a (Nat.mod_lt _ (by decide : 0 < 32)), bit_toNat]

/-- From the width on a signed shift leaves the sign alone. -/
theorem sshiftRight_all (a : BitVec 32) {n : Nat} (hn : 32 ≤ n) :
    (a.sshiftRight n).toNat = if a.toInt < 0 then 0xFFFFFFFF else 0 := by
  have hlost (x : Nat) (hx : x < 2 ^ 32) : x >>> n = 0 :=
    Nat.shiftRight_eq_zero x n (hx.trans_le (Nat.pow_le_pow_right (by decide) hn))
  rw [BitVec.toNat_sshiftRight, BitVec.msb_eq_toInt, hlost a.toNat a.isLt, hlost _ (by omega)]
  simp only [decide_eq_true_eq]

/-- Settles O39: each result by the lemma of its operation; every list of flags begins with N and Z of its result. -/
theorem aluResultsAreBitVectorArithmetic : Obligations.AluResultsAreBitVectorArithmetic := by
  unfold Obligations.AluResultsAreBitVectorArithmetic
  intro a b
  have hnz (x : BitVec 32) : (nzOut x.toNat).1 = x.toNat := by rw [nzOut_toNat]
  refine ⟨by rw [addF_toNat], by rw [subF_toNat], negF_toNat a, ?and, ?or, ?xor, ?andn, ?not, mulOut_toNat a b,
    mulhOut_toNat a b, mulhuOut_toNat a b, ?min, ?max, ?minu, ?maxu, ?sextb, ?sexth, ?zextb, ?zexth, by rw [shlOut_toNat],
    by rw [shrOut_toNat], by rw [sarOut_toNat], ?ror, ?nz, ?addC, ?subC, ?addV, ?subV⟩
  case and => exact hnz (a &&& b)
  case or => exact (congrArg (nzOut · |>.1) (BitVec.toNat_or a b).symm).trans (hnz (a ||| b))
  case xor => exact (congrArg (nzOut · |>.1) (BitVec.toNat_xor a b).symm).trans (hnz (a ^^^ b))
  case andn => rw [andnF, not32_toNat]; exact hnz (a &&& ~~~b)
  case not => rw [notF, not32_toNat]; exact hnz (~~~a)
  case min =>
    rw [minF, toSigned_toNat, toSigned_toNat, BitVec.sle_eq_decide, ← apply_ite, hnz]
    simp only [decide_eq_true_eq]
  case max =>
    rw [maxF, toSigned_toNat, toSigned_toNat, BitVec.sle_eq_decide, ← apply_ite, hnz]
    simp only [decide_eq_true_eq]
  case minu => rw [minuF, Nat.min_def, ← apply_ite, hnz]; rfl
  case maxu => rw [maxuF, Nat.max_def, ← apply_ite, hnz]; rfl
  case sextb => rw [sextbF, sx_toNat]; exact hnz _
  case sexth => rw [sexthF, sx_toNat]; exact hnz _
  case zextb => rw [zextbF, nzOut, BitVec.toNat_setWidth, BitVec.toNat_setWidth]
  case zexth => rw [zexthF, nzOut, BitVec.toNat_setWidth, BitVec.toNat_setWidth]
  case ror => rw [rorOut_toNat, ← BitVec.rotateRight_mod_eq_rotateRight (r := b.toNat % 64)]
  case nz =>
    intro o ho
    simp only [List.mem_cons, List.not_mem_nil, or_false] at ho
    rcases ho with rfl | rfl | rfl | rfl | rfl | rfl | rfl | rfl | rfl <;>
      exact ⟨.head _, .tail _ (.head _)⟩
  case addC | addV => rw [addF_toNat]; simp
  case subC | subV => rw [subF_toNat]; simp

/-! ## Division -/

theorem sdiv_eq_ofInt (a b : BitVec 32) : a.sdiv b = BitVec.ofInt 32 (a.toInt.tdiv b.toInt) := by
  apply BitVec.eq_of_toInt_eq
  rw [BitVec.toInt_sdiv, BitVec.toInt_ofInt]

theorem srem_eq_ofInt (a b : BitVec 32) : a.srem b = BitVec.ofInt 32 (a.toInt.tmod b.toInt) := by
  rw [← BitVec.toInt_srem, BitVec.ofInt_toInt]

theorem divOut_toNat (r : BitVec 32) (v zero : Bool) :
    divOut r.toNat v zero = (r.toNat, nzF r.toNat ++ [(pbV, v)] ++ if zero then [(pbDZ, true)] else []) := by
  rw [divOut, Nat.mod_eq_of_lt r.isLt]

section
variable (a : BitVec 32) {b : BitVec 32} (hb : b ≠ 0)
include hb

theorem divsOut_toNat : divsOut a.toNat b.toNat =
    ((a.sdiv b).toNat, nzF (a.sdiv b).toNat ++ [(pbV, decide (a = 0x80000000 ∧ b = 0xFFFFFFFF))]) := by
  have hb0 : b.toNat ≠ 0 := fun h => hb (BitVec.eq_of_toNat_eq h)
  have hcorner : (a.toNat == 0x80000000 && b.toNat == 0xFFFFFFFF) = decide (a = 0x80000000 ∧ b = 0xFFFFFFFF) := by
    simp only [← BitVec.toNat_inj, Bool.decide_and]
    rfl
  rw [divsOut, if_neg hb0, toSigned_toNat, toSigned_toNat, ofSigned_eq_toNat, ← sdiv_eq_ofInt, divOut_toNat, hcorner]
  simp

theorem divuOut_toNat : divuOut a.toNat b.toNat = ((a / b).toNat, nzF (a / b).toNat ++ [(pbV, false)]) := by
  have hb0 : b.toNat ≠ 0 := fun h => hb (BitVec.eq_of_toNat_eq h)
  rw [divuOut, if_neg hb0, ← BitVec.toNat_udiv, divOut_toNat]
  rfl

theorem remsOut_toNat : remsOut a.toNat b.toNat = ((a.srem b).toNat, nzF (a.srem b).toNat ++ [(pbV, false)]) := by
  have hb0 : b.toNat ≠ 0 := fun h => hb (BitVec.eq_of_toNat_eq h)
  rw [remsOut, if_neg hb0, toSigned_toNat, toSigned_toNat, ofSigned_eq_toNat, ← srem_eq_ofInt, divOut_toNat]
  rfl

theorem remuOut_toNat : remuOut a.toNat b.toNat = ((a % b).toNat, nzF (a % b).toNat ++ [(pbV, false)]) := by
  have hb0 : b.toNat ≠ 0 := fun h => hb (BitVec.eq_of_toNat_eq h)
  rw [remuOut, if_neg hb0, ← BitVec.toNat_umod, divOut_toNat]
  rfl

end

/-- The quotient by zero is the end of the range on the side of a. -/
theorem divsOut_zero (a : BitVec 32) : divsOut a.toNat 0 =
    (if a.toInt < 0 then 0x80000000 else 0x7FFFFFFF,
      nzF (if a.toInt < 0 then 0x80000000 else 0x7FFFFFFF) ++ [(pbV, false), (pbDZ, true)]) := by
  have hsign : bit a.toNat 31 = decide (a.toInt < 0) := by
    rw [bit_toNat, ← BitVec.msb_eq_toInt, BitVec.msb_eq_getLsbD_last]
  rw [divsOut, if_pos rfl, hsign]
  by_cases h : a.toInt < 0 <;> simp [h, divOut]

theorem opDiv_divides {f : Nat → Nat → AluOut} {c rd ra rb : Nat} {s : State}
    (h : ¬(s.gr c rb = 0 ∧ (s.core c).flag pbTRAPDZ = true)) :
    opDiv f c rd ra rb s = s.putAlu c rd (f (s.gr c ra) (s.gr c rb)) := if_neg h

theorem opDiv_raises {f : Nat → Nat → AluOut} {c rd ra rb : Nat} {s : State} (hzero : s.gr c rb = 0)
    (htrap : (s.core c).flag pbTRAPDZ = true) : opDiv f c rd ra rb s = .exc s exDivzero 0 0 := if_pos ⟨hzero, htrap⟩

/-- Settles O40: the signed quotient of MIN by −1 wraps to MIN, so that corner needs no case of its own. -/
theorem divisionsFollowR436 : Obligations.DivisionsFollowR436 := by
  unfold Obligations.DivisionsFollowR436
  refine ⟨fun a b hb => ?_, fun b => ⟨by decide, by decide, by decide, rfl, divsOut_zero b, divOut_toNat b false true,
    divOut_toNat b false true⟩, fun _ _ _ _ _ _ => opDiv_raises, fun _ _ _ _ _ _ h => opDiv_divides fun ⟨hzero, htrap⟩ =>
      h.elim (· hzero) fun hoff => Bool.false_ne_true (hoff.symm.trans htrap)⟩
  simp only [divsOut_toNat a hb, divuOut_toNat a hb, remsOut_toNat a hb, remuOut_toNat a hb, and_self]

/-! ## Shifts by their amount -/

theorem rotateRight_zero (a : BitVec 32) : a.rotateRight 0 = a := by
  apply BitVec.eq_of_toNat_eq
  rw [← rotateRight_toNat a (by decide)]
  simp [Nat.mod_one]

/-- Settles O41: the four ranges of the amount, each from what a shift gives for every amount. -/
theorem shiftsFollowR437 : Obligations.ShiftsFollowR437 := by
  unfold Obligations.ShiftsFollowR437
  intro a m
  have hlt : m % 64 < 64 := Nat.mod_lt m (by decide)
  simp only [shlOut_toNat, shrOut_toNat, sarOut_toNat, rorOut_toNat]
  generalize m % 64 = n at hlt ⊢
  refine ⟨?zero, ?inside, ?width, ?beyond⟩
  case zero =>
    rintro rfl
    simp [rotateRight_zero]
  case inside =>
    intro hlo hhi
    have hne : n ≠ 0 := by omega
    have hmin : min (n - 1) 31 = n - 1 := by omega
    have hle : n ≤ 32 := by omega
    have hmod : n % 32 = n := by omega
    simp only [hne, hmin, hle, hmod, if_false, decide_true, Bool.true_and, and_self]
  case width =>
    rintro rfl
    simp only [sshiftRight_all a (le_refl 32), rotateRight_zero, BitVec.shiftLeft_eq_zero (le_refl 32),
      BitVec.ushiftRight_eq_zero (le_refl 32), Nat.mod_self]
    simp
  case beyond =>
    intro hlo
    have hn : 32 ≤ n := by omega
    have hne : n ≠ 0 := by omega
    have hmin : min (n - 1) 31 = 31 := by omega
    have hgt : ¬n ≤ 32 := by omega
    have hmod : n % 32 = n - 32 := by omega
    simp only [sshiftRight_all a hn, BitVec.shiftLeft_eq_zero hn, BitVec.ushiftRight_eq_zero hn, hne, hmin, hgt, hmod,
      if_false, decide_false, Bool.false_and, BitVec.toNat_ofNat, Nat.zero_mod, and_self]

/-- Settles O42. -/
theorem negAndAbsOfTheMostNegative : Obligations.NegAndAbsOfTheMostNegative := by
  unfold Obligations.NegAndAbsOfTheMostNegative
  decide

end Sys2Proof.Machine
end

section
/-! PROOFS. A field of a number replaced: bits, flags and RC after it (O53). -/

namespace Sys2Proof.Machine

/-! ## Bits of a number with a field replaced -/

/-- The bits inside the field are those of the new value, and every other is as before. -/
theorem testBit_replaced (w v lo n j : Nat) :
    (w - w / 2 ^ lo % 2 ^ n * 2 ^ lo + v % 2 ^ n * 2 ^ lo).testBit j =
      if lo ≤ j ∧ j < lo + n then v.testBit (j - lo) else w.testBit j := by
  have hlow : w % 2 ^ lo < 2 ^ lo := Nat.mod_lt _ (Nat.two_pow_pos lo)
  have hfld (x : Nat) : x % 2 ^ n < 2 ^ n := Nat.mod_lt _ (Nat.two_pow_pos n)
  have hw : w = 2 ^ lo * (2 ^ n * (w / 2 ^ lo / 2 ^ n) + w / 2 ^ lo % 2 ^ n) + w % 2 ^ lo := by
    rw [Nat.div_add_mod, Nat.div_add_mod]
  have hnew : w - w / 2 ^ lo % 2 ^ n * 2 ^ lo + v % 2 ^ n * 2 ^ lo =
      2 ^ lo * (2 ^ n * (w / 2 ^ lo / 2 ^ n) + v % 2 ^ n) + w % 2 ^ lo := by
    rw [Nat.mul_add, Nat.mul_comm (v % 2 ^ n)]
    rw [Nat.mul_add] at hw
    have : w / 2 ^ lo % 2 ^ n * 2 ^ lo = 2 ^ lo * (w / 2 ^ lo % 2 ^ n) := Nat.mul_comm _ _
    omega
  rw [hnew, Nat.testBit_two_pow_mul_add _ hlow, Nat.testBit_two_pow_mul_add _ (hfld v)]
  conv_rhs => rw [hw, Nat.testBit_two_pow_mul_add _ hlow, Nat.testBit_two_pow_mul_add _ (hfld _)]
  rcases Nat.lt_or_ge j lo with hj | hj
  · simp [hj, Nat.not_le.mpr hj]
  · have hin : j - lo < n ↔ j < lo + n := by omega
    simp only [Nat.not_lt.mpr hj, if_false, hj, true_and, hin]
    split
    · next h => rw [Nat.testBit_mod_two_pow, decide_eq_true (hin.mpr h), Bool.true_and]
    · rfl

theorem testBit_setBits (w hi lo v j : Nat) :
    (setBits w hi lo v).testBit j = if lo ≤ j ∧ j < lo + (hi + 1 - lo) then v.testBit (j - lo) else w.testBit j :=
  testBit_replaced w v lo (hi + 1 - lo) j

theorem testBit_setBit (w k j : Nat) (b : Bool) : (setBit w k b).testBit j = if j = k then b else w.testBit j := by
  rw [setBit, testBit_setBits]
  by_cases h : j = k
  · subst h
    have hin : j ≤ j ∧ j < j + (j + 1 - j) := by omega
    rw [if_pos hin, if_pos rfl, Nat.sub_self]
    cases b <;> rfl
  · have hout : ¬(k ≤ j ∧ j < k + (k + 1 - k)) := by omega
    rw [if_neg hout, if_neg h]

theorem bit_setBit (w k j : Nat) (b : Bool) : bit (setBit w k b) j = if j = k then b else bit w j := by
  simp only [bit_eq_testBit, testBit_setBit]

theorem bits_testBit (w hi lo j : Nat) : (bits w hi lo).testBit j = (decide (j < hi + 1 - lo) && w.testBit (lo + j)) := by
  rw [bits, Nat.testBit_mod_two_pow, Nat.testBit_div_two_pow, Nat.add_comm lo]

/-! ## Flags -/

/-- Flags set from a list leave every bit it does not name. -/
theorem Core.flag_setFlags_other (k : Core) (l : List (Nat × Bool)) {x : Nat} (hx : x ∉ l.map Prod.fst) :
    (k.setFlags l).flag x = k.flag x := by
  change bit (l.foldl (fun (p : Nat) y => setBit p y.1 y.2) k.psw) x = bit k.psw x
  generalize k.psw = p
  induction l generalizing p with
  | nil => rfl
  | cons y l ih =>
    rw [List.map_cons, List.mem_cons, not_or] at hx
    rw [List.foldl_cons, ih hx.2, bit_setBit, if_neg hx.1]

theorem Core.flag_setFlags_one (k : Core) (x : Nat) (b : Bool) : (k.setFlags [(x, b)]).flag x = b := by
  change bit (setBit k.psw x b) x = b
  rw [bit_setBit, if_pos rfl]

/-! ## REPA and RC -/

/-- The sum in `setRep` is a replacement of the field RC, which was cleared before. -/
theorem Core.setRep_psw (k : Core) (repa : Bool) (rc : Nat) :
    (k.setRep repa rc).psw = setBits (setBit (setBits k.psw 23 12 0) pbREPA repa) 23 12 rc := by
  have hclear : bits (setBit (setBits k.psw 23 12 0) pbREPA repa) 23 12 = 0 := by
    refine Nat.eq_of_testBit_eq fun j => ?_
    rw [bits_testBit, Nat.zero_testBit, testBit_setBit, testBit_setBits, Nat.zero_testBit,
      if_neg (by simp only [pbREPA]; omega)]
    by_cases hj : j < 12
    · rw [if_pos (by omega), Bool.and_false]
    · rw [decide_eq_false hj, Bool.false_and]
  rw [setBits.eq_def _ 23 12 rc, hclear]
  simp [setBits, Core.setRep]

/-- RC, REPA, and every other bit as before. -/
theorem Core.testBit_setRep (k : Core) (repa : Bool) (rc j : Nat) :
    (k.setRep repa rc).psw.testBit j =
      if 12 ≤ j ∧ j < 24 then rc.testBit (j - 12) else if j = pbREPA then repa else k.psw.testBit j := by
  rw [Core.setRep_psw, testBit_setBits, testBit_setBit, testBit_setBits]
  split <;> rfl

theorem Core.rc_setRep (k : Core) (repa : Bool) (rc : Nat) : (k.setRep repa rc).rc = rc % 2 ^ 12 := by
  refine Nat.eq_of_testBit_eq fun j => ?_
  rw [Core.rc, bits_testBit, Core.testBit_setRep, Nat.testBit_mod_two_pow]
  by_cases hj : j < 12
  · rw [if_pos (by omega), Nat.add_sub_cancel_left]
  · rw [decide_eq_false hj, Bool.false_and, Bool.false_and]

theorem Core.rc_lt (k : Core) : k.rc < 2 ^ 12 := Nat.mod_lt _ (by decide)

theorem Core.flag_setRep (k : Core) (repa : Bool) (rc : Nat) : (k.setRep repa rc).flag pbREPA = repa := by
  rw [Core.flag, bit_eq_testBit, Core.testBit_setRep]
  rfl

theorem Core.flag_setRep_other (k : Core) (repa : Bool) (rc : Nat) {x : Nat} (hlow : x < 12) (hx : x ≠ pbREPA) :
    (k.setRep repa rc).flag x = k.flag x := by
  rw [Core.flag, bit_eq_testBit, Core.testBit_setRep, if_neg (by omega), if_neg hx, Core.flag, bit_eq_testBit]

/-! ## The countdown of a repeated instruction -/

/-- Settles O53: RC has 12 bits, so one less than it is not cut; a PSW of more than 24 bits counts down as well. -/
theorem repeatedInstructionsCountDown : Obligations.RepeatedInstructionsCountDown := by
  unfold Obligations.RepeatedInstructionsCountDown
  refine ⟨fun s c hrep hrc _ => ?again, fun s c hrep hrc _ => ?last, fun s c hrep => ?once, fun s s' c op hfetch hrep => ?bad⟩
  case again =>
    have hlt := (s.core c).rc_lt
    have hgoes : (s.coreAdvance c).core c = (s.core c).setRep true ((s.core c).rc - 1) := by
      simp [State.coreAdvance, hrep, Nat.not_le.mpr hrc]
    rw [hgoes]
    exact ⟨by rw [Core.rc_setRep, Nat.mod_eq_of_lt (by omega)], Core.flag_setRep _ _ _, rfl⟩
  case last =>
    have hgoes : (s.coreAdvance c).core c = { (s.core c).setRep false 0 with pc := (s.core c).pc + 4 } := by
      simp [State.coreAdvance, hrep, hrc, Core.setRep]
    rw [hgoes]
    exact ⟨(s.core c).rc_setRep false 0, (s.core c).flag_setRep false 0, rfl⟩
  case once => simp [State.coreAdvance, hrep]
  case bad => simp [State.coreRun, hfetch, hrep]

end Sys2Proof.Machine
end

section
/-! PROOFS. Data memory of a core: what a store leaves to read (O48). -/

namespace Sys2Proof.Machine

/-! ## Words of data memory -/

/-- A table of words with the word at a data address replaced. -/
def putWord (m : SMap Nat) (a v : Nat) : SMap Nat :=
  if v % 2 ^ 32 = 0 then SMap.del m (a / 4) else SMap.put m (a / 4) (v % 2 ^ 32)

theorem Core.setDataWord_eq (k : Core) (a v : Nat) : k.setDataWord a v = { k with data := putWord k.data a v } := rfl

theorem putWord_wf {m : SMap Nat} (hwf : SMap.wf m = true) (a v : Nat) : SMap.wf (putWord m a v) = true := by
  unfold putWord
  split
  · exact SMap.wf_del _ _ hwf
  · exact SMap.wf_put _ _ _ hwf

theorem get_putWord_self {m : SMap Nat} (hwf : SMap.wf m = true) (a v : Nat) :
    SMap.get (putWord m a v) (a / 4) 0 = v % 2 ^ 32 := by
  unfold putWord
  split
  · next h => rw [SMap.get_del_self _ _ _ hwf, h]
  · exact SMap.get_put_self _ _ _ _

theorem get_putWord_other (m : SMap Nat) {a q : Nat} (v : Nat) (hq : q ≠ a / 4) :
    SMap.get (putWord m a v) q 0 = SMap.get m q 0 := by
  unfold putWord
  split
  · exact SMap.get_del_other _ _ hq
  · exact SMap.get_put_other _ _ _ hq

theorem Core.setDataWord_wf {k : Core} (hwf : SMap.wf k.data = true) (a v : Nat) :
    SMap.wf (k.setDataWord a v).data = true := putWord_wf hwf a v

theorem Core.dataWord_setDataWord_self {k : Core} (hwf : SMap.wf k.data = true) (a v : Nat) :
    (k.setDataWord a v).dataWord a = v % 2 ^ 32 := get_putWord_self hwf a v

theorem Core.dataWord_setDataWord_other (k : Core) {a b : Nat} (v : Nat) (hb : b / 4 ≠ a / 4) :
    (k.setDataWord a v).dataWord b = k.dataWord b := get_putWord_other k.data v hb

theorem Core.dataWord_congr (k : Core) {a b : Nat} (h : b / 4 = a / 4) : k.dataWord b = k.dataWord a := by
  rw [Core.dataWord, Core.dataWord, h]

/-! ## Bytes of data memory -/

/-- An aligned access lies within its word. -/
theorem fits_word_of_dataOk {a size : Nat} (hsize : size ∈ [1, 2, 4]) (hok : dataOk a size = true) : a % 4 + size ≤ 4 := by
  simp only [dataOk, Bool.and_eq_true, beq_iff_eq] at hok
  obtain ⟨-, halign⟩ := hok
  simp only [List.mem_cons, List.not_mem_nil, or_false] at hsize
  rcases hsize with rfl | rfl | rfl <;> omega

theorem Core.testBit_load (k : Core) (a size i : Nat) :
    (k.load a size).testBit i = (decide (i < 8 * size) && (k.dataWord a).testBit (8 * (a % 4) + i)) := by
  rw [Core.load, Nat.testBit_mod_two_pow, Nat.testBit_div_two_pow, Nat.add_comm i]

section
variable {k : Core} (hwf : SMap.wf k.data = true) {a size : Nat} (hfit : a % 4 + size ≤ 4) (v : Nat)
include hwf

theorem Core.store_wf (a size v : Nat) : SMap.wf (k.store a size v).data = true := Core.setDataWord_wf hwf _ _

/-- The word of a store holds the value at the place of the bytes stored, and the bits that were there beside it. -/
theorem Core.testBit_dataWord_store {p : Nat} (hp : p < 32) :
    ((k.store a size v).dataWord a).testBit p =
      if 8 * (a % 4) ≤ p ∧ p < 8 * (a % 4) + 8 * size then v.testBit (p - 8 * (a % 4)) else (k.dataWord a).testBit p := by
  rw [Core.store, Core.dataWord_setDataWord_self hwf, Nat.testBit_mod_two_pow, decide_eq_true hp, Bool.true_and,
    testBit_replaced]

include hfit

theorem Core.load_store_self : (k.store a size v).load a size = v % 2 ^ (8 * size) := by
  refine Nat.eq_of_testBit_eq fun i => ?_
  rw [Core.testBit_load, Nat.testBit_mod_two_pow]
  by_cases hi : i < 8 * size
  · rw [Core.testBit_dataWord_store hwf v (by omega), if_pos (by omega), Nat.add_sub_cancel_left]
  · rw [decide_eq_false hi, Bool.false_and, Bool.false_and]

/-- A byte read after a store is the value's, or the one that was there. -/
theorem Core.load_store_byte (b : Nat) :
    (k.store a size v).load b 1 = if a ≤ b ∧ b < a + size then v / 2 ^ (8 * (b - a)) % 2 ^ 8 else k.load b 1 := by
  refine Nat.eq_of_testBit_eq fun i => ?_
  rw [apply_ite (Nat.testBit · i), Nat.testBit_mod_two_pow, Nat.testBit_div_two_pow, Core.testBit_load, Core.testBit_load,
    Nat.mul_one]
  by_cases hi : i < 8
  · rw [decide_eq_true hi, Bool.true_and, Bool.true_and, Bool.true_and]
    by_cases hword : b / 4 = a / 4
    · rw [Core.dataWord_congr _ hword, Core.testBit_dataWord_store hwf v (by omega), Core.dataWord_congr _ hword]
      have hin : (8 * (a % 4) ≤ 8 * (b % 4) + i ∧ 8 * (b % 4) + i < 8 * (a % 4) + 8 * size) ↔ (a ≤ b ∧ b < a + size) := by
        omega
      simp only [hin]
      split
      · congr 1
        omega
      · rfl
    · have hout : ¬(a ≤ b ∧ b < a + size) := by omega
      rw [if_neg hout, Core.store, Core.dataWord_setDataWord_other _ _ hword]
  · simp only [decide_eq_false hi, Bool.false_and, ite_self]

end

/-- Settles O48: byte by byte, a byte read after a store is the value's inside the stored range and the old one outside. -/
theorem bytesStoredReadBack : Obligations.BytesStoredReadBack := by
  unfold Obligations.BytesStoredReadBack
  refine ⟨fun k a size v hsize hok hwf => ?one, fun k a b m n v w x hm hn ha hb hdisj hwf => ?two⟩
  case one =>
    have hfit := fits_word_of_dataOk hsize hok
    refine ⟨Core.load_store_self hwf hfit v, fun b hb => ?_, Core.store_wf hwf a size v⟩
    rw [Core.load_store_byte hwf hfit, if_neg (by omega)]
  case two =>
    have hma := fits_word_of_dataOk hm ha
    have hnb := fits_word_of_dataOk hn hb
    rw [Core.load_store_byte (Core.store_wf hwf a m v) hnb, Core.load_store_byte hwf hma,
      Core.load_store_byte (Core.store_wf hwf b n w) hma, Core.load_store_byte hwf hnb]
    by_cases hxb : b ≤ x ∧ x < b + n
    · have hxa : ¬(a ≤ x ∧ x < a + m) := by omega
      rw [if_pos hxb, if_neg hxa, if_pos hxb]
    · rw [if_neg hxb, if_neg hxb]

end Sys2Proof.Machine
end

section
/-! PROOFS. Accumulators: sums modulo 2^72 and AV (O54). -/

namespace Sys2Proof.Machine

open Safety

/-! ## 72 bits, two's complement -/

theorem toSigned_bounds (v : Nat) : -(2 ^ 71) ≤ toSigned 72 v ∧ toSigned 72 v < 2 ^ 71 := by
  have hlt : v % 2 ^ 72 < 2 ^ 72 := Nat.mod_lt _ (by decide)
  unfold toSigned
  split <;> omega

theorem ofSigned_mod (i : Int) : ofSigned 72 i % 2 ^ 72 = ofSigned 72 i :=
  Nat.mod_eq_of_lt (by unfold ofSigned; omega)

/-- The pattern of a value reads back as it up to a multiple of 2^72. -/
theorem toSigned_ofSigned_emod (v : Int) : (toSigned 72 (ofSigned 72 v) - v) % 2 ^ 72 = 0 := by
  have hmod : ((ofSigned 72 v : Nat) : Int) = v % 2 ^ 72 := Int.toNat_of_nonneg (by omega)
  unfold toSigned
  rw [ofSigned_mod]
  split <;> omega

/-- The pattern of a value reads back as it exactly when the value fits. -/
theorem toSigned_ofSigned_iff (v : Int) : toSigned 72 (ofSigned 72 v) = v ↔ -(2 ^ 71) ≤ v ∧ v < 2 ^ 71 := by
  have hbounds := toSigned_bounds (ofSigned 72 v)
  have hmod := toSigned_ofSigned_emod v
  constructor
  · intro h
    rwa [h] at hbounds
  · intro h
    omega

/-! ## Accumulators of a core -/

theorem Core.acc_setAcc_self (k : Core) (a : Bool) (v : Nat) : (k.setAcc a v).acc a = v % 2 ^ 72 := by
  cases a <;> rfl

theorem Core.acc_setAcc_not (k : Core) (a : Bool) (v : Nat) : (k.setAcc a v).acc (!a) = k.acc (!a) := by
  cases a <;> rfl

theorem Core.setAcc_g (k : Core) (a : Bool) (v : Nat) : (k.setAcc a v).g = k.g := by cases a <;> rfl

theorem Core.setAcc_psw (k : Core) (a : Bool) (v : Nat) : (k.setAcc a v).psw = k.psw := by cases a <;> rfl

theorem Core.acc_setFlags (k : Core) (a : Bool) (l : List (Nat × Bool)) : (k.setFlags l).acc a = k.acc a := rfl

/-- An accumulator takes a sum as `putSum` says: its pattern, and AV when the sum does not fit (R446). -/
theorem State.putAcc_eq (s : State) (c : Nat) (a : Bool) (v : Int) :
    s.putAcc c a v = .done (s.updCore c (putSum a v)) := by
  rw [State.putAcc]
  congr 2
  funext k
  simp only [Safety.putSum, toSigned_ofSigned_iff]

section
variable (a : Bool) (v : Int) (k : Core)

theorem putSum_acc : (putSum a v k).acc a = ofSigned 72 v := by
  have hacc : (k.setAcc a (ofSigned 72 v)).acc a = ofSigned 72 v := by rw [Core.acc_setAcc_self, ofSigned_mod]
  unfold putSum
  split <;> exact hacc

theorem putSum_acc_not : (putSum a v k).acc (!a) = k.acc (!a) := by
  unfold putSum
  split <;> exact Core.acc_setAcc_not k a _

theorem putSum_g : (putSum a v k).g = k.g := by
  unfold putSum
  split <;> exact Core.setAcc_g k a _

/-- AV is set by a sum that does not fit and unchanged by one that does (R446). -/
theorem putSum_av : (putSum a v k).flag pbAV = (k.flag pbAV || decide (¬(-(2 ^ 71) ≤ v ∧ v < 2 ^ 71))) := by
  unfold putSum
  split
  · next h => simp only [h, and_self, not_true_eq_false, decide_false, Bool.or_false, Core.flag, Core.setAcc_psw]
  · next h => rw [Core.flag_setFlags_one, decide_eq_true h, Bool.or_true]

theorem putSum_flag_other {x : Nat} (hx : x ≠ pbAV) : (putSum a v k).flag x = k.flag x := by
  unfold putSum
  split
  · rw [Core.flag, Core.setAcc_psw, Core.flag]
  · rw [Core.flag_setFlags_other _ _ (by simpa using hx), Core.flag, Core.setAcc_psw, Core.flag]

end

theorem State.accVal_putSum (s : State) (c : Nat) (a : Bool) (v : Int) :
    (s.updCore c (putSum a v)).accVal c a = toSigned 72 (ofSigned 72 v) := by
  rw [State.accVal, State.core_updCore_self, putSum_acc]

theorem State.macOut_add (s : State) (c : Nat) (a : Bool) (x y : Nat) :
    s.macOut c a 0 x y = .done (s.updCore c (putSum a (s.accVal c a + toSigned 32 x * toSigned 32 y))) :=
  State.putAcc_eq s c a _

/-- Settles O54: each sum as `putSum` leaves it; a chain adds up what each sum lost, multiples of 2^72. -/
theorem accumulationIsExactModulo72Bits : Obligations.AccumulationIsExactModulo72Bits := by
  unfold Obligations.AccumulationIsExactModulo72Bits
  refine ⟨fun s c a v => ?one, fun s s1 s2 c x y z w a h1 h2 => ?chain⟩
  case one =>
    refine ⟨_, State.putAcc_eq s c a v, ?_⟩
    rw [State.accVal_putSum, State.core_updCore_self]
    obtain ⟨hlo, hhi⟩ := toSigned_bounds (ofSigned 72 v)
    exact ⟨toSigned_ofSigned_emod v, hlo, hhi, putSum_av a v _, putSum_acc_not a v _, putSum_g a v _,
      fun b hb => putSum_flag_other a v _ hb⟩
  case chain =>
    rw [State.macOut_add, CoreRes.done.injEq] at h1 h2
    have hs1 := toSigned_ofSigned_emod (s.accVal c a + toSigned 32 x * toSigned 32 y)
    have hs2 := toSigned_ofSigned_emod (s1.accVal c a + toSigned 32 z * toSigned 32 w)
    rw [← State.accVal_putSum s c a, h1] at hs1
    rw [← State.accVal_putSum s1 c a, h2] at hs2
    generalize toSigned 32 x * toSigned 32 y = p at *
    generalize toSigned 32 z * toSigned 32 w = q at *
    omega

end Sys2Proof.Machine
end

section
/-! PROOFS. Instructions that write one register and flags (O14, O15, O43, O52). -/

namespace Sys2Proof.Machine

open Safety

/-! ## The row of an instruction of a core that runs -/

/-- A row of a core that runs settles as its operation says. -/
theorem coreRow_settles {t c w : Nat} {rep : Bool} {op : State → CoreRes} {r : CoreRes} {s : State} (hon : Powered s)
    (hruns : Runs (s.adv t) c w) (hop : op ((s.adv t).fetched c) = r) :
    coreRow t c w rep op s = .next ((r.settle c).withQueue s.pending) := by
  obtain ⟨hsteps, hword, hpc, halign, hclean, hrepa⟩ := hruns
  rw [coreRow_runs hon hsteps hword hpc halign hclean hrepa, hop]

/-- An operation that leaves REPA and updates its core's registers alone lets the next instruction follow. -/
theorem coreRow_ran {t c w : Nat} {rep : Bool} {op : State → CoreRes} {f : Core → Core} {s : State} (hon : Powered s)
    (hruns : Runs (s.adv t) c w) (hop : op ((s.adv t).fetched c) = .done (((s.adv t).fetched c).updCore c f)) 
    (hpc : ∀ k, (f k).pc = k.pc) (hrepa : ∀ k, (f k).flag pbREPA = k.flag pbREPA) :
    coreRow t c w rep op s = .next ((((s.adv t).fetched c).ran c f).withQueue s.pending) := by
  rw [coreRow_settles hon hruns hop, settle_done]
  · simp only [hpc]; rfl
  · rw [hrepa, State.core_fetched]; exact hruns.2.2.2.2.2

/-! ## Flags of a result -/

/-- The flags that a result writes. -/
def AluOut.flags (o : AluOut) : List Nat := o.2.map Prod.fst

def flNZ : List Nat := [pbN, pbZ]
def flNZC : List Nat := [pbN, pbZ, pbC]
def flNZV : List Nat := [pbN, pbZ, pbV]
def flNZCV : List Nat := [pbN, pbZ, pbC, pbV]
def flDiv : List Nat := [pbN, pbZ, pbV, pbDZ]

/-- A shift writes C beside N and Z, or not when its amount is 0 (R437). -/
theorem flags_shift (r v : Nat) (p : Prop) [Decidable p] (b : Bool) :
    AluOut.flags (v, nzF r ++ if p then [] else [(pbC, b)]) ⊆ flNZC := by
  simp only [AluOut.flags]
  split <;> simp [nzF, flNZC]

theorem flags_shlOut (a n : Nat) : (shlOut a n).flags ⊆ flNZC := flags_shift _ _ _ _
theorem flags_shrOut (a n : Nat) : (shrOut a n).flags ⊆ flNZC := flags_shift _ _ _ _
theorem flags_sarOut (a n : Nat) : (sarOut a n).flags ⊆ flNZC := flags_shift _ _ _ _
theorem flags_rorOut (a n : Nat) : (rorOut a n).flags ⊆ flNZC := flags_shift _ _ _ _

theorem flags_divOut (r : Nat) (v zero : Bool) : (divOut r v zero).flags ⊆ flDiv := by
  cases zero <;> simp [AluOut.flags, divOut, nzF, flDiv]

theorem flags_divsOut (a b : Nat) : (divsOut a b).flags ⊆ flDiv := by
  unfold divsOut; split <;> exact flags_divOut _ _ _

theorem flags_divuOut (a b : Nat) : (divuOut a b).flags ⊆ flDiv := by
  unfold divuOut; split <;> exact flags_divOut _ _ _

theorem flags_remsOut (a b : Nat) : (remsOut a b).flags ⊆ flDiv := by
  unfold remsOut; split <;> exact flags_divOut _ _ _

theorem flags_remuOut (a b : Nat) : (remuOut a b).flags ⊆ flDiv := by
  unfold remuOut; split <;> exact flags_divOut _ _ _

theorem result_flag_other (rd : Nat) {o : AluOut} (k : Core) {x : Nat} (hx : x ∉ o.flags) :
    (result rd o k).flag x = k.flag x := Core.flag_setFlags_other (k.setReg rd o.1) o.2 hx

/-! ## Rows of the ALU group -/

section
variable {t c w rd ra rb : Nat} {rep : Bool} {op : State → CoreRes} {o : AluOut} {s : State} (hon : Powered s)
  (hruns : Runs (s.adv t) c w)
include hon hruns

theorem coreRow_putAlu (hop : op ((s.adv t).fetched c) = ((s.adv t).fetched c).putAlu c rd o) (ho : pbREPA ∉ o.flags) :
    coreRow t c w rep op s = .next ((((s.adv t).fetched c).ran c (result rd o)).withQueue s.pending) :=
  coreRow_ran hon hruns hop (fun _ => rfl) fun k => result_flag_other rd k ho

theorem coreRow_putFlags (hop : op ((s.adv t).fetched c) = ((s.adv t).fetched c).putFlags c o) (ho : pbREPA ∉ o.flags) :
    coreRow t c w rep op s = .next ((((s.adv t).fetched c).ran c (fun k => k.setFlags o.2)).withQueue s.pending) :=
  coreRow_ran hon hruns hop (fun _ => rfl) fun k => Core.flag_setFlags_other k o.2 ho

end

section
variable {fs : List Nat} (hfs : pbREPA ∉ fs)
include hfs

theorem opRrr_takes {f : Nat → Nat → AluOut} {fn : Nat} (hf : ∀ a b, (f a b).flags ⊆ fs) (t c rd ra rb : Nat) (s : State)
    (hon : Powered s) (hruns : Runs (s.adv t) c (encR 0x00 fn rd ra rb 0)) :
    alu3 t c fn rd ra rb (opRrr f c rd ra rb) s =
      .next ((((s.adv t).fetched c).ran c (result rd (f ((s.adv t).gr c ra) ((s.adv t).gr c rb)))).withQueue s.pending) :=
  coreRow_putAlu hon hruns (by rw [opRrr, State.gr_fetched, State.gr_fetched]) fun h => hfs (hf _ _ h)

theorem opRr_takes {f : Nat → AluOut} {fn : Nat} (hf : ∀ a, (f a).flags ⊆ fs) (t c rd ra : Nat) (s : State)
    (hon : Powered s) (hruns : Runs (s.adv t) c (encR 0x00 fn rd ra 0 0)) :
    alu3 t c fn rd ra 0 (opRr f c rd ra) s =
      .next ((((s.adv t).fetched c).ran c (result rd (f ((s.adv t).gr c ra)))).withQueue s.pending) :=
  coreRow_putAlu hon hruns (by rw [opRr, State.gr_fetched]) fun h => hfs (hf _ h)

theorem opCarry_takes {f : Nat → Nat → Nat → AluOut} {fn : Nat} (hf : ∀ a b x, (f a b x).flags ⊆ fs) (t c rd ra rb : Nat)
    (s : State) (hon : Powered s) (hruns : Runs (s.adv t) c (encR 0x00 fn rd ra rb 0)) :
    alu3 t c fn rd ra rb (opCarry f c rd ra rb) s = .next ((((s.adv t).fetched c).ran c (result rd
      (f ((s.adv t).gr c ra) ((s.adv t).gr c rb) (((s.adv t).core c).flag pbC).toNat))).withQueue s.pending) :=
  coreRow_putAlu hon hruns (by rw [opCarry, State.gr_fetched, State.gr_fetched, State.core_fetched]) fun h =>
    hfs (hf _ _ _ h)

theorem opCmp_takes {f : Nat → Nat → AluOut} {fn : Nat} (hf : ∀ a b, (f a b).flags ⊆ fs) (t c ra rb : Nat) (s : State)
    (hon : Powered s) (hruns : Runs (s.adv t) c (encR 0x00 fn 0 ra rb 0)) :
    alu3 t c fn 0 ra rb (opCmp f c ra rb) s = .next ((((s.adv t).fetched c).ran c
      (fun k => k.setFlags (f ((s.adv t).gr c ra) ((s.adv t).gr c rb)).2)).withQueue s.pending) :=
  coreRow_putFlags hon hruns (by rw [opCmp, State.gr_fetched, State.gr_fetched]) fun h => hfs (hf _ _ h)

theorem opDiv_takes {f : Nat → Nat → AluOut} {fn : Nat} (hf : ∀ a b, (f a b).flags ⊆ fs) (t c rd ra rb : Nat) (s : State)
    (hon : Powered s) (hruns : Runs (s.adv t) c (encR 0x00 fn rd ra rb 0))
    (hdiv : ¬((s.adv t).gr c rb = 0 ∧ ((s.adv t).core c).flag pbTRAPDZ = true)) :
    alu3 t c fn rd ra rb (opDiv f c rd ra rb) s =
      .next ((((s.adv t).fetched c).ran c (result rd (f ((s.adv t).gr c ra) ((s.adv t).gr c rb)))).withQueue s.pending) :=
  coreRow_putAlu hon hruns
    (by rw [opDiv_divides (by rwa [State.gr_fetched, State.core_fetched]), State.gr_fetched, State.gr_fetched])
    fun h => hfs (hf _ _ h)

/-- A row of an immediate instruction with any immediate the word carries. -/
theorem opRi_takes {f : Nat → Nat → AluOut} {w : Nat} {op : State → CoreRes} (hf : ∀ a b, (f a b).flags ⊆ fs)
    (t c rd ra v : Nat) (s : State) (hon : Powered s) (hruns : Runs (s.adv t) c w)
    (hop : ∀ u, op u = opRi f c rd ra v u) :
    coreRow t c w true op s =
      .next ((((s.adv t).fetched c).ran c (result rd (f ((s.adv t).gr c ra) v))).withQueue s.pending) :=
  coreRow_putAlu hon hruns (by rw [hop, opRi, State.gr_fetched]) fun h => hfs (hf _ _ h)

end

theorem opDiv_traps {f : Nat → Nat → AluOut} {fn : Nat} (t c rd ra rb : Nat) (s : State)
    (hon : Powered s) (hruns : Runs (s.adv t) c (encR 0x00 fn rd ra rb 0)) (hzero : (s.adv t).gr c rb = 0)
    (htrap : ((s.adv t).core c).flag pbTRAPDZ = true) :
    alu3 t c fn rd ra rb (opDiv f c rd ra rb) s =
      .next ((((s.adv t).fetched c).coreExcept c exDivzero 0 0).withQueue s.pending) :=
  coreRow_settles hon hruns (opDiv_raises (by rwa [State.gr_fetched]) (by rwa [State.core_fetched]))

theorem repa_not_flNZ : pbREPA ∉ flNZ := by decide
theorem repa_not_flNZC : pbREPA ∉ flNZC := by decide
theorem repa_not_flNZV : pbREPA ∉ flNZV := by decide
theorem repa_not_flNZCV : pbREPA ∉ flNZCV := by decide
theorem repa_not_flDiv : pbREPA ∉ flDiv := by decide

/-- Settles O14: row by row, by the form of its operands and the flags of its result. -/
theorem aluInstructionsTakeEffect : Obligations.AluInstructionsTakeEffect := by
  unfold Obligations.AluInstructionsTakeEffect
  have nz {f : Nat → Nat → AluOut} {fn : Nat} := @opRrr_takes _ repa_not_flNZ f fn
  have nz1 {f : Nat → AluOut} {fn : Nat} := @opRr_takes _ repa_not_flNZ f fn
  exact ⟨opRrr_takes repa_not_flNZCV fun _ _ => .refl _, opRrr_takes repa_not_flNZCV fun _ _ => .refl _,
    nz fun _ _ => .refl _, nz fun _ _ => .refl _, nz fun _ _ => .refl _, nz fun _ _ => .refl _,
    opRrr_takes repa_not_flNZC flags_shlOut, opRrr_takes repa_not_flNZC flags_shrOut,
    opRrr_takes repa_not_flNZC flags_sarOut, opRrr_takes repa_not_flNZC flags_rorOut,
    opRrr_takes repa_not_flNZV fun _ _ => .refl _, nz fun _ _ => .refl _, nz fun _ _ => .refl _,
    nz fun _ _ => .refl _, nz fun _ _ => .refl _, nz fun _ _ => .refl _, nz fun _ _ => .refl _,
    opCarry_takes repa_not_flNZCV fun _ _ _ => .refl _, opCarry_takes repa_not_flNZCV fun _ _ _ => .refl _,
    opRr_takes repa_not_flNZCV fun _ => .refl _, nz1 fun _ => .refl _, nz1 fun _ => .refl _,
    opRr_takes repa_not_flNZV fun _ => .refl _, nz1 fun _ => .refl _, nz1 fun _ => .refl _, nz1 fun _ => .refl _,
    nz1 fun _ => .refl _, nz1 fun _ => .refl _, nz1 fun _ => .refl _,
    opCmp_takes repa_not_flNZCV fun _ _ => .refl _, opCmp_takes repa_not_flNZ fun _ _ => .refl _,
    opDiv_takes repa_not_flDiv flags_divsOut, opDiv_traps, opDiv_takes repa_not_flDiv flags_divuOut, opDiv_traps,
    opDiv_takes repa_not_flDiv flags_remsOut, opDiv_traps, opDiv_takes repa_not_flDiv flags_remuOut, opDiv_traps⟩

/-! ## Rows of the immediate instructions -/

theorem shiImm_of_lt (kind : Nat) {n : Nat} (hn : n < 64) : shiImm kind n = kind * 2 ^ 16 + n := by
  rw [shiImm, Nat.mod_eq_of_lt hn]

/-- SHI shifts by the amount its immediate holds, whose bits [15:6] are 0. -/
theorem opShi_eq (f : Nat → Nat → AluOut) (c rd ra kind : Nat) {n : Nat} (hn : n < 64) (s : State) :
    opShi f c rd ra (kind * 2 ^ 16 + n) s = opRi f c rd ra n s := by
  have hclear : bits (kind * 2 ^ 16 + n) 15 6 = 0 := by unfold bits; omega
  have hamount : (kind * 2 ^ 16 + n) % 64 = n := by omega
  rw [opShi, if_neg (not_not_intro hclear), hamount]

theorem opShi_takes {f : Nat → Nat → AluOut} {kind : Nat} (hf : ∀ a b, (f a b).flags ⊆ flNZC) (t c rd ra n : Nat) (s : State)
    (hon : Powered s) (hn : n < 64) (hruns : Runs (s.adv t) c (encI 0x06 rd ra (kind * 2 ^ 16 + n))) :
    aluI t c 0x06 rd ra (shiImm kind n) (opShi f c rd ra (shiImm kind n)) s =
      .next ((((s.adv t).fetched c).ran c (result rd (f ((s.adv t).gr c ra) n))).withQueue s.pending) := by
  rw [shiImm_of_lt kind hn]
  exact opRi_takes repa_not_flNZC hf t c rd ra n s hon hruns (opShi_eq f c rd ra kind hn)

theorem opCmpi_takes (t c ra imm : Nat) (s : State) (hon : Powered s) (hruns : Runs (s.adv t) c (encI 0x05 0 ra imm)) :
    aluI t c 0x05 0 ra imm (opCmpi c ra imm) s = .next ((((s.adv t).fetched c).ran c
      (fun k => k.setFlags (subF ((s.adv t).gr c ra) (sx 18 imm)).2)).withQueue s.pending) :=
  coreRow_putFlags hon hruns (by rw [opCmpi, State.gr_fetched]) repa_not_flNZCV

/-- An operation that writes a register alone. -/
theorem coreRow_putReg {t c w rd v : Nat} {rep : Bool} {op : State → CoreRes} {s : State} (hon : Powered s)
    (hruns : Runs (s.adv t) c w) (hop : op ((s.adv t).fetched c) = ((s.adv t).fetched c).putReg c rd v) :
    coreRow t c w rep op s =
      .next ((((s.adv t).fetched c).ran c (fun k => k.setReg rd v)).withQueue s.pending) :=
  coreRow_ran hon hruns hop (fun _ => rfl) fun _ => rfl

theorem opLui_eq (c rd : Nat) {imm : Nat} (himm : imm < 2 ^ 16) (s : State) :
    opLui c rd imm s = s.putReg c rd (imm * 2 ^ 16) := by
  rw [opLui, if_neg (by omega), Nat.mod_eq_of_lt himm]

theorem opLui_illegal (c rd : Nat) {imm : Nat} (hlo : 2 ^ 16 ≤ imm) (hhi : imm < 2 ^ 22) (s : State) :
    opLui c rd imm s = s.illegal := if_pos (by omega)

/-- Settles O15: row by row, by the immediate that the word carries. -/
theorem immediateInstructionsTakeEffect : Obligations.ImmediateInstructionsTakeEffect := by
  unfold Obligations.ImmediateInstructionsTakeEffect
  have imm {f : Nat → Nat → AluOut} (hf : ∀ a b, (f a b).flags ⊆ flNZ) {w : Nat} (t c rd ra v : Nat) (s : State)
    (hon : Powered s) (hruns : Runs (s.adv t) c w) := opRi_takes repa_not_flNZ hf t c rd ra v s hon hruns fun _ => rfl
  exact ⟨fun t c rd ra _ s hon hruns =>
      opRi_takes repa_not_flNZCV (fun _ _ => .refl _) t c rd ra _ s hon hruns fun _ => rfl,
    fun t c rd ra _ s => imm (fun _ _ => .refl _) t c rd ra _ s, fun t c rd ra _ s => imm (fun _ _ => .refl _) t c rd ra _ s,
    fun t c rd ra _ s => imm (fun _ _ => .refl _) t c rd ra _ s, opCmpi_takes, opShi_takes flags_shlOut,
    opShi_takes flags_shrOut, opShi_takes flags_sarOut, opShi_takes flags_rorOut,
    fun _ _ _ _ _ hon hruns => coreRow_putReg hon hruns rfl,
    fun _ _ _ _ _ hon himm hruns => coreRow_putReg hon hruns (opLui_eq _ _ himm _),
    fun _ _ _ _ _ hon hlo hhi hruns => coreRow_settles hon hruns (opLui_illegal _ _ hlo hhi _)⟩

/-! ## Words written out -/

/-- Settles O52: the fields of each word, read off. -/
theorem wordsWrittenOutAreTheirInstructions : Obligations.WordsWrittenOutAreTheirInstructions := by
  unfold Obligations.WordsWrittenOutAreTheirInstructions
  exact ⟨rfl, rfl, rfl, rfl, fun _ => rfl, rfl, rfl, rfl, rfl, rfl, rfl, rfl, rfl, rfl⟩

end Sys2Proof.Machine
end

section
/-! PROOFS. Accumulator instructions (O17). -/

namespace Sys2Proof.Machine

open Safety

/-! ## What a product leaves -/

/-- What an operation of MACXY or of MACR to MACUR leaves of a core, with the product p and the accumulator's value v:
0 and 3 add, 1 subtracts, 2 replaces (R446). -/
def macLeaves (op : Nat) (a : Bool) (p v : Int) : Core → Core :=
  if op = 2 then fun k => k.setAcc a (ofSigned 72 p) else putSum a (if op = 1 then v - p else v + p)

theorem State.macOut_eq (s : State) (c : Nat) (a : Bool) (op x y : Nat) :
    s.macOut c a op x y = .done (s.updCore c (macLeaves op a (product (op != 3) x y) (s.accVal c a))) := by
  unfold State.macOut macLeaves
  split
  · rfl
  · split <;> exact State.putAcc_eq s c a _

theorem Core.setAcc_pc (k : Core) (a : Bool) (v : Nat) : (k.setAcc a v).pc = k.pc := by cases a <;> rfl

theorem putSum_pc (a : Bool) (v : Int) (k : Core) : (putSum a v k).pc = k.pc := by
  unfold putSum
  split <;> exact Core.setAcc_pc k a _

theorem Core.setAcc_flag (k : Core) (a : Bool) (v x : Nat) : (k.setAcc a v).flag x = k.flag x := by
  rw [Core.flag, Core.setAcc_psw, Core.flag]

theorem macLeaves_pc (op : Nat) (a : Bool) (p v : Int) (k : Core) : (macLeaves op a p v k).pc = k.pc := by
  unfold macLeaves
  split
  · exact Core.setAcc_pc k a _
  · exact putSum_pc a _ k

theorem macLeaves_flag_other (op : Nat) (a : Bool) (p v : Int) (k : Core) {x : Nat} (hx : x ≠ pbAV) :
    (macLeaves op a p v k).flag x = k.flag x := by
  unfold macLeaves
  split
  · exact Core.setAcc_flag k a _ x
  · exact putSum_flag_other a _ k hx

/-! ## The dual fetch -/

/-- The pointers of a dual fetch after their steps. -/
def stepped (px py x y mx my : Nat) (k : Core) : Core := (k.setReg px (stepPtr x mx)).setReg py (stepPtr y my)

/-- Both pointers address a word of their bank, and neither word is poisoned. -/
structure DualFetch (u : State) (c px py x y : Nat) : Prop where
  apart : px % 16 ≠ py % 16
  atX : u.gr c px = x
  atY : u.gr c py = y
  alignX : x % 4 = 0
  inX : x < 0x8000
  alignY : y % 4 = 0
  overX : 0x8000 ≤ y
  inY : y ≤ 0xFFFF
  cleanX : (u.dataRead c x 4).1 = false
  cleanY : ((u.dataRead c x 4).2.dataRead c y 4).1 = false

theorem opMacxy_fetches {u : State} {op c px py x y mx my : Nat} {acc : Bool} (h : DualFetch u c px py x y) :
    opMacxy op c acc px py mx my u =
      .done (((u.dataRead c x 4).2.dataRead c y 4).2.updCore c (fun k =>
        macLeaves op acc (product (op != 3) ((u.core c).dataWord x) ((u.core c).dataWord y)) (u.accVal c acc)
          (stepped px py x y mx my k))) := by
  obtain ⟨hapart, rfl, rfl, hx4, hx, hy4, hlo, hhi, hcx, hcy⟩ := h
  have hX : Machine.inX (u.gr c px) = true := decide_eq_true hx
  have hY : Machine.inY (u.gr c py) = true := by simp [Machine.inY, hlo, hhi]
  have hregs (k : Core) (r v : Nat) (a : Bool) : (k.setReg r v).acc a = k.acc a := rfl
  simp only [opMacxy, if_neg hapart, hx4, hy4, hX, hY, hcx, hcy, ne_eq, not_true_eq_false, Bool.not_true, Bool.false_eq_true,
    if_false, State.macOut_eq, State.setGr, State.updCore_updCore, State.accVal, State.core_updCore_self,
    State.core_dataRead, hregs, stepped]

theorem opMacxy_illegal {op c px py mx my : Nat} {acc : Bool} (u : State) (h : px % 16 = py % 16) :
    opMacxy op c acc px py mx my u = u.illegal := if_pos h

/-! ## Rows of the accumulator group -/

@[simp] theorem State.accVal_fetched (s : State) (c d : Nat) (a : Bool) : (s.fetched d).accVal c a = s.accVal c a := by
  rw [State.accVal, State.core_fetched, State.accVal]

/-- A dual fetch of two clean words: both pointers step, and the product goes where its operation says (R447). -/
theorem opMacxy_takes {op : Nat} (t c px py mx my : Nat) (acc : Bool) (s : State) (hon : Powered s)
    (hruns : Runs (s.adv t) c (encX acc op px py mx my)) (hapart : px % 16 ≠ py % 16)
    (hx4 : (s.adv t).gr c px % 4 = 0) (hx : (s.adv t).gr c px < 0x8000) (hy4 : (s.adv t).gr c py % 4 = 0)
    (hlo : 0x8000 ≤ (s.adv t).gr c py) (hhi : (s.adv t).gr c py ≤ 0xFFFF)
    (hcx : (((s.adv t).fetched c).dataRead c ((s.adv t).gr c px) 4).1 = false)
    (hcy : ((((s.adv t).fetched c).dataRead c ((s.adv t).gr c px) 4).2.dataRead c ((s.adv t).gr c py) 4).1 = false) :
    coreRow t c (encX acc op px py mx my) true (opMacxy op c acc px py mx my) s =
      .next ((((((s.adv t).fetched c).dataRead c ((s.adv t).gr c px) 4).2.dataRead c ((s.adv t).gr c py) 4).2.ran c
        (fun k => macLeaves op acc (product (op != 3) (((s.adv t).core c).dataWord ((s.adv t).gr c px))
          (((s.adv t).core c).dataWord ((s.adv t).gr c py))) ((s.adv t).accVal c acc)
          ((k.setReg px (stepPtr ((s.adv t).gr c px) mx)).setReg py (stepPtr ((s.adv t).gr c py) my)))).withQueue
        s.pending) := by
  have hfetch : DualFetch ((s.adv t).fetched c) c px py ((s.adv t).gr c px) ((s.adv t).gr c py) :=
    ⟨hapart, State.gr_fetched _ _ _ _, State.gr_fetched _ _ _ _, hx4, hx, hy4, hlo, hhi, hcx, hcy⟩
  rw [coreRow_settles hon hruns (opMacxy_fetches hfetch), settle_done]
  · simp only [macLeaves_pc, State.accVal_fetched, State.core_fetched, stepped]
    rfl
  · rw [macLeaves_flag_other _ _ _ _ _ (by decide), State.core_dataRead, State.core_dataRead, State.core_fetched]
    exact hruns.2.2.2.2.2

theorem opMacxy_equalPointers {op : Nat} (t c px py mx my : Nat) (acc : Bool) (s : State) (hon : Powered s)
    (hruns : Runs (s.adv t) c (encX acc op px py mx my)) (h : px % 16 = py % 16) :
    coreRow t c (encX acc op px py mx my) true (opMacxy op c acc px py mx my) s =
      .next ((((s.adv t).fetched c).coreExcept c exIllegal 0 0).withQueue s.pending) :=
  coreRow_settles hon hruns (opMacxy_illegal _ h)

theorem opMacr_takes {op : Nat} (t c ra rb : Nat) (acc : Bool) (s : State) (hon : Powered s)
    (hruns : Runs (s.adv t) c (encA op 0 ra rb acc false 0)) :
    accRow t c op 0 ra rb acc false 0 (opMacr op c acc ra rb) s =
      .next ((((s.adv t).fetched c).ran c (macLeaves op acc (product (op != 3) ((s.adv t).gr c ra) ((s.adv t).gr c rb))
        ((s.adv t).accVal c acc))).withQueue s.pending) :=
  coreRow_ran hon hruns
    (by rw [opMacr, State.macOut_eq, State.gr_fetched, State.gr_fetched, State.accVal_fetched])
    (macLeaves_pc _ _ _ _) fun k => macLeaves_flag_other _ _ _ _ k (by decide)

section
variable {t c w : Nat} {op : State → CoreRes} {s : State} (hon : Powered s) (hruns : Runs (s.adv t) c w)
include hon hruns

/-- An operation that replaces an accumulator. -/
theorem coreRow_setAcc {a : Bool} {v : Core → Nat}
    (hop : op ((s.adv t).fetched c) = .done (((s.adv t).fetched c).updCore c (fun k => k.setAcc a (v k)))) :
    coreRow t c w true op s =
      .next ((((s.adv t).fetched c).ran c (fun k => k.setAcc a (v k))).withQueue s.pending) :=
  coreRow_ran hon hruns hop (fun k => Core.setAcc_pc k a _) fun k => Core.setAcc_flag k a _ _

/-- An operation that puts a sum in an accumulator. -/
theorem coreRow_putAcc {a : Bool} {v : Int} (hop : op ((s.adv t).fetched c) = ((s.adv t).fetched c).putAcc c a v) :
    coreRow t c w true op s = .next ((((s.adv t).fetched c).ran c (putSum a v)).withQueue s.pending) :=
  coreRow_ran hon hruns (hop.trans (State.putAcc_eq _ c a v)) (putSum_pc a v) fun k =>
    putSum_flag_other a v k (by decide)

end

/-! ## AEXT, ARD and AWR -/

/-- Saturation to 32 bits is the pattern of the value when it fits, and the nearer end when it does not. -/
theorem satSigned_eq (x : Int) : satSigned 32 x =
    if x < -(2 ^ 31) then 0x80000000 else if 2 ^ 31 ≤ x then 0x7FFFFFFF else ofSigned 32 x := by
  unfold satSigned
  split
  · next h =>
    have : max (-(2 ^ (32 - 1) : Nat) : Int) (min x ((2 ^ (32 - 1) : Nat) - 1)) = -(2 ^ 31) := by omega
    rw [this]; rfl
  · split
    · next h =>
      have : max (-(2 ^ (32 - 1) : Nat) : Int) (min x ((2 ^ (32 - 1) : Nat) - 1)) = 2 ^ 31 - 1 := by omega
      rw [this]; rfl
    · next h =>
      have : max (-(2 ^ (32 - 1) : Nat) : Int) (min x ((2 ^ (32 - 1) : Nat) - 1)) = x := by omega
      rw [this]

/-- The saturated value is another one exactly when the value does not fit 32 bits. -/
theorem satSigned_ne (x : Int) :
    (toSigned 32 (satSigned 32 x) != x) = decide (x < -(2 ^ 31) ∨ 2 ^ 31 ≤ x) := by
  have hlow : toSigned 32 0x80000000 = -(2 ^ 31) := rfl
  have hhigh : toSigned 32 0x7FFFFFFF = 2 ^ 31 - 1 := rfl
  have hfits (h : ¬x < -(2 ^ 31)) (h' : ¬2 ^ 31 ≤ x) : toSigned 32 (ofSigned 32 x) = x := by
    rw [ofSigned_eq_toNat, toSigned_toNat]
    exact BitVec.toInt_ofInt_eq_self (by decide) (not_lt.mp h) (not_le.mp h')
  rw [bne_eq_decide_ne, satSigned_eq]
  refine decide_eq_decide.mpr ?_
  split
  · next h => rw [hlow]; omega
  · next h =>
    split
    · next h' => rw [hhigh]; omega
    · next h' => simp only [hfits h h', h, h', ne_eq, not_true_eq_false, or_self]

theorem opAext_eq (c rd : Nat) (acc opt : Bool) {n : Nat} (hn : n < 64) (s : State) :
    opAext c rd acc opt n s = .done (s.updCore c (extracted rd (s.accVal c acc) opt n)) := by
  have hround : (if (opt && n != 0) = true then ((2 ^ (n - 1) : Nat) : Int) else 0) =
      if opt = true ∧ n ≠ 0 then 2 ^ (n - 1) else 0 := by
    simp only [Bool.and_eq_true, bne_iff_ne, Nat.cast_pow, Nat.cast_ofNat]
  simp only [opAext, Nat.mod_eq_of_lt hn, satSigned_ne]
  rw [hround, Nat.cast_pow, Nat.cast_ofNat]
  simp only [satSigned_eq]
  rfl

/-- AEXT writes N, Z and V, and SAT when it saturates (R449). -/
def flExt : List Nat := [pbN, pbZ, pbV, pbSAT]

/-- A result of AEXT, with its flags. -/
theorem extracted_result (rd : Nat) (v : Int) (round : Bool) (n : Nat) :
    ∃ o : AluOut, o.flags ⊆ flExt ∧ extracted rd v round n = result rd o := by
  have hflags (r : Nat) (nb zb vb : Bool) (sat : Bool) :
      AluOut.flags (r, [(pbN, nb), (pbZ, zb), (pbV, vb)] ++ if sat then [(pbSAT, true)] else []) ⊆ flExt := by
    cases sat <;> simp [AluOut.flags, flExt]
  exact ⟨⟨_, _⟩, hflags _ _ _ _ _, rfl⟩

theorem opAext_takes (t c rd n : Nat) (acc opt : Bool) (s : State) (hon : Powered s) (hn : n < 64)
    (hruns : Runs (s.adv t) c (encA 0x08 rd 0 0 acc opt n)) :
    accRow t c 0x08 rd 0 0 acc opt n (opAext c rd acc opt n) s =
      .next ((((s.adv t).fetched c).ran c (extracted rd ((s.adv t).accVal c acc) opt n)).withQueue s.pending) := by
  obtain ⟨o, hflags, ho⟩ := extracted_result rd ((s.adv t).accVal c acc) opt n
  rw [ho]
  exact coreRow_putAlu hon hruns (by rw [opAext_eq _ _ _ _ hn, State.accVal_fetched, ho]; rfl) fun h =>
    absurd (hflags h) (by decide)

theorem opArd_puts (c rd : Nat) (acc : Bool) {n : Nat} (hn : n < 3) (s : State) :
    opArd c rd acc n s = s.putReg c rd (accPart ((s.core c).acc acc) n) := by interval_cases n <;> rfl

theorem opArd_eq (c rd : Nat) (acc : Bool) {n : Nat} (hn : n < 3) (s : State) :
    opArd c rd acc n s = .done (s.updCore c (fun k => k.setReg rd (accPart (k.acc acc) n))) :=
  (opArd_puts c rd acc hn s).trans (congrArg CoreRes.done (State.updCore_congr s c rfl))

theorem opAwr_eq (c : Nat) (acc : Bool) (ra : Nat) {n : Nat} (hn : n < 3) (s : State) :
    opAwr c acc ra n s = .done (s.updCore c (fun k => k.setAcc acc (accWith (k.acc acc) n (s.gr c ra)))) := by
  have hval : opAwr c acc ra n s =
      .done (s.updCore c (fun k => k.setAcc acc (accWith ((s.core c).acc acc) n (s.gr c ra)))) := by
    interval_cases n <;> rfl
  exact hval.trans (congrArg CoreRes.done (State.updCore_congr s c rfl))

theorem opArd_illegal (c rd : Nat) (acc : Bool) {n : Nat} (hlo : 2 < n) (hhi : n < 64) (s : State) :
    opArd c rd acc n s = s.illegal := by
  obtain ⟨m, rfl⟩ := Nat.exists_eq_add_of_lt hlo
  rw [opArd, Nat.mod_eq_of_lt hhi, Nat.add_comm 2 m]
  rfl

theorem opAwr_illegal (c : Nat) (acc : Bool) (ra : Nat) {n : Nat} (hlo : 2 < n) (hhi : n < 64) (s : State) :
    opAwr c acc ra n s = s.illegal := by
  obtain ⟨m, rfl⟩ := Nat.exists_eq_add_of_lt hlo
  rw [opAwr, Nat.mod_eq_of_lt hhi, Nat.add_comm 2 m]
  rfl

/-- Settles O17: each row by the operation it shares with its group. -/
theorem accumulatorInstructionsTakeEffect : Obligations.AccumulatorInstructionsTakeEffect := by
  unfold Obligations.AccumulatorInstructionsTakeEffect
  exact ⟨fun t c px py mx my acc s => opMacxy_takes (op := 0) t c px py mx my acc s,
    fun t c px py mx my acc s => opMacxy_takes (op := 1) t c px py mx my acc s,
    fun t c px py mx my acc s => opMacxy_takes (op := 2) t c px py mx my acc s,
    fun t c px py mx my acc s => opMacxy_takes (op := 3) t c px py mx my acc s, opMacxy_equalPointers,
    opMacr_takes, opMacr_takes, opMacr_takes, opMacr_takes,
    fun _ _ _ _ hon hruns => coreRow_setAcc (op := opAclr _ _) hon hruns rfl,
    fun _ _ _ _ hon hruns => coreRow_setAcc (op := opAmov _ _) hon hruns rfl,
    fun _ _ acc opt _ hon hruns => coreRow_putAcc hon hruns (by rw [opAadd, State.accVal_fetched, State.accVal_fetched]),
    fun _ _ n _ _ hon hn hruns => coreRow_setAcc hon hruns (by
      rw [opAsh, Nat.mod_eq_of_lt hn, State.accVal_fetched, if_neg Bool.false_ne_true]),
    fun _ _ n _ _ hon hn hruns => coreRow_putAcc hon hruns (by
      rw [opAsh, Nat.mod_eq_of_lt hn, State.accVal_fetched, if_pos rfl]),
    opAext_takes,
    fun _ _ _ _ _ _ hon hn hruns =>
      coreRow_ran hon hruns (opArd_eq _ _ _ hn _) (fun _ => rfl) fun _ => rfl,
    fun _ _ _ _ _ _ hon hn hruns =>
      coreRow_setAcc hon hruns (by rw [opAwr_eq _ _ _ hn, State.gr_fetched]),
    fun _ _ _ _ _ _ hon hlo hhi hruns => coreRow_settles hon hruns (opArd_illegal _ _ _ hlo hhi _),
    fun _ _ _ _ _ _ hon hlo hhi hruns => coreRow_settles hon hruns (opAwr_illegal _ _ _ hlo hhi _)⟩

end Sys2Proof.Machine
end

section
/-! PROOFS. Loads, stores, PUSHM and POPM (O16). -/

namespace Sys2Proof.Machine

open Safety

/-! ## What memory accounts leave of a core's registers -/

@[simp] theorem State.ea_fetched (s : State) (c d ra imm : Nat) : (s.fetched d).ea c ra imm = s.ea c ra imm := by
  rw [State.ea, State.gr_fetched, State.ea]

@[simp] theorem State.gr_dataRead (s : State) (c a n d r : Nat) : (s.dataRead c a n).2.gr d r = s.gr d r := by
  rw [State.gr, State.core_dataRead, State.gr]

@[simp] theorem State.ea_dataRead (s : State) (c a n d ra imm : Nat) : (s.dataRead c a n).2.ea d ra imm = s.ea d ra imm := by
  rw [State.ea, State.gr_dataRead, State.ea]

@[simp] theorem State.gr_dataWrite (s : State) (c a n d r : Nat) : (s.dataWrite c a n).gr d r = s.gr d r := by
  rw [State.gr, State.core_dataWrite, State.gr]

theorem State.ran_congr (s : State) (c : Nat) {f g : Core → Core} (h : f (s.core c) = g (s.core c)) :
    s.ran c f = s.ran c g := s.updCore_congr c (by rw [h])

/-- An operation that first accounts for its accesses, which leaves the core, and then updates its registers or data. -/
theorem coreRow_accesses {t c w : Nat} {rep : Bool} {op : State → CoreRes} {f : Core → Core} {s u : State} (hon : Powered s)
    (hruns : Runs (s.adv t) c w) (hop : op ((s.adv t).fetched c) = .done (u.updCore c f))
    (hcore : u.core c = (s.adv t).core c) (hpc : ∀ k, (f k).pc = k.pc := by intro _; rfl)
    (hrepa : ∀ k, (f k).flag pbREPA = k.flag pbREPA := by intro _; rfl) :
    coreRow t c w rep op s = .next ((u.ran c f).withQueue s.pending) := by
  rw [coreRow_settles hon hruns hop, settle_done]
  · simp only [hpc]
    rfl
  · rw [hrepa, hcore]
    exact hruns.2.2.2.2.2

/-! ## Loads and stores -/

section
variable {s : State} {c rd ra imm size : Nat}

theorem opLoad_loads {ext : Nat → Nat} (hok : dataOk (s.ea c ra imm) size = true)
    (hclean : (s.dataRead c (s.ea c ra imm) size).1 = false) :
    opLoad size ext c rd ra imm s = .done ((s.dataRead c (s.ea c ra imm) size).2.updCore c
      (fun k => k.setReg rd (ext (k.load (s.ea c ra imm) size)))) := by
  simp only [opLoad, State.loadAt, hok, hclean, Bool.not_true, Bool.false_eq_true, if_false, State.setGr]
  exact congrArg CoreRes.done (State.updCore_congr _ c rfl)

theorem opLoad_daddr {ext : Nat → Nat} (hok : dataOk (s.ea c ra imm) size = false) :
    opLoad size ext c rd ra imm s = .exc s exDaddr 0 (s.ea c ra imm) := by simp [opLoad, State.loadAt, hok]

theorem opStore_stores (hok : dataOk (s.ea c ra imm) size = true) :
    opStore size c rd ra imm s = .done ((s.dataWrite c (s.ea c ra imm) size).updCore c
      (fun k => k.store (s.ea c ra imm) size (s.gr c rd))) := by simp [opStore, State.storeAt, hok]

theorem opStore_daddr (hok : dataOk (s.ea c ra imm) size = false) :
    opStore size c rd ra imm s = .exc s exDaddr 0 (s.ea c ra imm) := by simp [opStore, State.storeAt, hok]

theorem opLdwp_loads (hapart : rd % 16 ≠ ra % 16) (hok : dataOk (s.gr c ra) 4 = true)
    (hclean : (s.dataRead c (s.gr c ra) 4).1 = false) :
    opLdwp c rd ra imm s = .done ((s.dataRead c (s.gr c ra) 4).2.updCore c
      (fun k => (k.setReg ra (s.ea c ra imm)).setReg rd (k.load (s.gr c ra) 4))) := by
  simp only [opLdwp, if_neg hapart, State.loadAt, hok, hclean, Bool.not_true, Bool.false_eq_true, if_false, State.setGr,
    State.updCore_updCore, State.ea_dataRead]
  exact congrArg CoreRes.done (State.updCore_congr _ c rfl)

theorem opLdwp_illegal (hsame : rd % 16 = ra % 16) : opLdwp c rd ra imm s = s.illegal := if_pos hsame

theorem opStwp_stores (hok : dataOk (s.gr c ra) 4 = true) :
    opStwp c rd ra imm s = .done ((s.dataWrite c (s.gr c ra) 4).updCore c
      (fun k => (k.store (s.gr c ra) 4 (s.gr c rd)).setReg ra (s.ea c ra imm))) := by
  have hea (v : Nat) : ((s.dataWrite c (s.gr c ra) 4).updCore c (fun k => k.store (s.gr c ra) 4 v)).ea c ra imm =
      s.ea c ra imm := by
    rw [State.ea, State.gr, State.core_updCore_self, State.core_dataWrite]
    rfl
  simp only [opStwp, State.storeAt, hok, Bool.not_true, Bool.false_eq_true, if_false, State.setGr, State.updCore_updCore, hea]

end

section
variable {major size : Nat} {ext : Nat → Nat} (t c rd ra imm : Nat) (s : State) (hon : Powered s)
  (hruns : Runs (s.adv t) c (encI major rd ra imm))
include hon hruns

theorem load_takes (hok : dataOk ((s.adv t).ea c ra imm) size = true)
    (hclean : (((s.adv t).fetched c).dataRead c ((s.adv t).ea c ra imm) size).1 = false) :
    memI t c major rd ra imm (opLoad size ext c rd ra imm) s =
      .next (((((s.adv t).fetched c).dataRead c ((s.adv t).ea c ra imm) size).2.ran c
        (fun k => k.setReg rd (ext (k.load ((s.adv t).ea c ra imm) size)))).withQueue s.pending) := by
  rw [← State.ea_fetched _ c c] at hok hclean ⊢
  exact coreRow_accesses hon hruns (opLoad_loads hok hclean) (by simp)

theorem load_daddr (hok : dataOk ((s.adv t).ea c ra imm) size = false) :
    memI t c major rd ra imm (opLoad size ext c rd ra imm) s =
      .next ((((s.adv t).fetched c).coreExcept c exDaddr 0 ((s.adv t).ea c ra imm)).withQueue s.pending) := by
  rw [← State.ea_fetched _ c c] at hok ⊢
  exact coreRow_settles hon hruns (opLoad_daddr hok)

theorem store_takes (hok : dataOk ((s.adv t).ea c ra imm) size = true) :
    memI t c major rd ra imm (opStore size c rd ra imm) s =
      .next (((((s.adv t).fetched c).dataWrite c ((s.adv t).ea c ra imm) size).ran c
        (fun k => k.store ((s.adv t).ea c ra imm) size ((s.adv t).gr c rd))).withQueue s.pending) := by
  rw [← State.ea_fetched _ c c] at hok ⊢
  rw [← State.gr_fetched _ c]
  exact coreRow_accesses hon hruns (opStore_stores hok) (by simp)

theorem store_daddr (hok : dataOk ((s.adv t).ea c ra imm) size = false) :
    memI t c major rd ra imm (opStore size c rd ra imm) s =
      .next ((((s.adv t).fetched c).coreExcept c exDaddr 0 ((s.adv t).ea c ra imm)).withQueue s.pending) := by
  rw [← State.ea_fetched _ c c] at hok ⊢
  exact coreRow_settles hon hruns (opStore_daddr hok)

theorem ldwp_takes (hapart : rd % 16 ≠ ra % 16) (hok : dataOk ((s.adv t).gr c ra) 4 = true)
    (hclean : (((s.adv t).fetched c).dataRead c ((s.adv t).gr c ra) 4).1 = false) :
    memI t c major rd ra imm (opLdwp c rd ra imm) s =
      .next (((((s.adv t).fetched c).dataRead c ((s.adv t).gr c ra) 4).2.ran c
        (fun k => (k.setReg ra ((s.adv t).ea c ra imm)).setReg rd (k.load ((s.adv t).gr c ra) 4))).withQueue
        s.pending) := by
  rw [← State.gr_fetched _ c c] at hok hclean ⊢
  rw [← State.ea_fetched _ c c]
  exact coreRow_accesses hon hruns (opLdwp_loads hapart hok hclean) (by simp)

theorem stwp_takes (hok : dataOk ((s.adv t).gr c ra) 4 = true) :
    memI t c major rd ra imm (opStwp c rd ra imm) s =
      .next (((((s.adv t).fetched c).dataWrite c ((s.adv t).gr c ra) 4).ran c
        (fun k => (k.store ((s.adv t).gr c ra) 4 ((s.adv t).gr c rd)).setReg ra ((s.adv t).ea c ra imm))).withQueue
        s.pending) := by
  rw [← State.gr_fetched _ c c] at hok ⊢
  rw [← State.gr_fetched _ c c rd, ← State.ea_fetched _ c c]
  exact coreRow_accesses hon hruns (opStwp_stores hok) (by simp)

end

/-! ## PUSHM and POPM -/

section
variable {s : State} {c mask : Nat}

theorem opPushm_pushes (hmask : maskOk mask = true)
    (hwin : (s.core c).window ((s.gr c 14 : Int) - (4 * (maskRegs mask).length : Nat)) (s.gr c 14) = true) :
    opPushm c mask s = .done (s.pushed c (maskRegs mask)) := by
  have hbase : ((s.gr c 14 : Int) - (4 * (maskRegs mask).length : Nat)).toNat = s.gr c 14 - 4 * (maskRegs mask).length :=
    Int.toNat_sub _ _
  simp only [opPushm, hmask, hwin, Bool.not_true, Bool.false_eq_true, if_false, State.pushed, hbase]

theorem opPushm_outside (hmask : maskOk mask = true)
    (hwin : (s.core c).window ((s.gr c 14 : Int) - (4 * (maskRegs mask).length : Nat)) (s.gr c 14) = false) :
    opPushm c mask s = .exc s exDaddr 1 (ofSigned 32 ((s.gr c 14 : Int) - (4 * (maskRegs mask).length : Nat))) := by
  simp only [opPushm, hmask, hwin, Bool.not_true, Bool.not_false, Bool.false_eq_true, if_false, if_true]

theorem opPopm_pops (hmask : maskOk mask = true)
    (hwin : (s.core c).window (s.gr c 14) ((s.gr c 14 : Int) + (4 * (maskRegs mask).length : Nat)) = true)
    (hclean : (s.dataRead c (s.gr c 14) (4 * (maskRegs mask).length)).1 = false) :
    opPopm c mask s = .done ((s.dataRead c (s.gr c 14) (4 * (maskRegs mask).length)).2.popped c (maskRegs mask)) := by
  simp only [opPopm, hmask, hwin, hclean, Bool.not_true, Bool.false_eq_true, if_false, State.popped, State.gr_dataRead]

theorem opPopm_outside (hmask : maskOk mask = true)
    (hwin : (s.core c).window (s.gr c 14) ((s.gr c 14 : Int) + (4 * (maskRegs mask).length : Nat)) = false) :
    opPopm c mask s = .exc s exDaddr 1 (s.gr c 14) := by
  simp only [opPopm, hmask, hwin, Bool.not_true, Bool.not_false, Bool.false_eq_true, if_false, if_true]

end

/-- Settles O16: row by row, by what the operation does at its address. -/
theorem loadStoreInstructionsTakeEffect : Obligations.LoadStoreInstructionsTakeEffect := by
  unfold Obligations.LoadStoreInstructionsTakeEffect
  refine ⟨load_takes, load_daddr, load_takes, load_daddr, load_takes, load_daddr, load_takes, load_daddr, load_takes,
    load_daddr, store_takes, store_daddr, store_takes, store_daddr, store_takes, store_daddr, ldwp_takes,
    fun _ _ _ _ _ _ hon hruns hsame => coreRow_settles hon hruns (opLdwp_illegal hsame), stwp_takes, ?push, ?pushOut, ?pushMask,
    ?pop, ?popOut⟩
  case push =>
    intro t c mask s hon hruns hmask hwin
    exact coreRow_settles hon hruns (opPushm_pushes hmask (by rwa [State.gr_fetched, State.core_fetched]))
  case pushOut =>
    intro t c mask s hon hruns hmask hwin
    rw [← State.gr_fetched _ c c, ← State.core_fetched _ c] at hwin
    rw [← State.gr_fetched _ c c]
    exact coreRow_settles hon hruns (opPushm_outside hmask hwin)
  case pushMask =>
    intro t c mask s hon hruns hmask
    exact coreRow_settles (op := opPushm c mask) hon hruns (if_pos (by simp [hmask]))
  case pop =>
    intro t c mask s hon hruns hmask hwin hclean
    rw [← State.gr_fetched _ c c] at hclean hwin ⊢
    rw [← State.core_fetched _ c] at hwin
    exact coreRow_settles hon hruns (opPopm_pops hmask hwin hclean)
  case popOut =>
    intro t c mask s hon hruns hmask hwin
    rw [← State.gr_fetched _ c c] at hwin ⊢
    rw [← State.core_fetched _ c] at hwin
    exact coreRow_settles hon hruns (opPopm_outside hmask hwin)

end Sys2Proof.Machine
end

section
/-! PROOFS. What the register instructions and the stores leave alone (O43, O44). -/

namespace Sys2Proof.Machine

open Safety

/-! ## Registers -/

theorem Core.reg_setReg_other (k : Core) {rd r : Nat} (v : Nat) (hr : r < 16) (hne : r ≠ rd % 16) :
    (k.setReg rd v).reg r = k.reg r := by
  have hset : rd % 16 ≠ r % 16 := by omega
  simp [Core.reg, Core.setReg, List.getD_eq_getElem?_getD, List.getElem?_set_ne hset]

theorem Core.reg_setReg_self {k : Core} (hlen : k.g.length = 16) (rd v : Nat) : (k.setReg rd v).reg rd = v % 2 ^ 32 := by
  have hin : rd % 16 < k.g.length := by omega
  simp [Core.reg, Core.setReg, List.getD_eq_getElem?_getD, List.getElem?_set_self hin]

/-! ## Rows that write one register -/

/-- The row of an instruction writes rd and flags of a list alone, beside what the fetch accounts for. -/
def WritesRegister (t c rd : Nat) (fs : List Nat) (s : State) (i : Instr) : Prop :=
  ∃ o : AluOut, o.flags ⊆ fs ∧ Does i s (((s.adv t).fetched c).ran c (result rd o))

/-- What a row that writes one register leaves alone. -/
theorem WritesRegister.frame {t c rd : Nat} {fs : List Nat} {s s' : State} {i : Instr} (h : WritesRegister t c rd fs s i)
    (hstep : exec i s = .next s') :
    (∀ r, r < 16 → r ≠ rd % 16 → s'.gr c r = s.gr c r) ∧
    (∀ x, x ∉ fs → (s'.core c).flag x = (s.core c).flag x) ∧
    (s'.core c) = { s.core c with
      g := (s'.core c).g, psw := (s'.core c).psw, pc := (s.core c).pc + 4, waiting := false } ∧
    (∀ d, d ≠ c → s'.core d = s.core d) ∧
    s' = { ((s.adv t).fetched c) with ast := s'.ast, pending := s.pending } := by
  obtain ⟨o, hflags, hdoes⟩ := h
  obtain rfl := Host.Outcome.next.inj (hdoes.symm.trans hstep)
  have hcore : (((((s.adv t).fetched c).ran c (result rd o)).withQueue s.pending).core c) =
      { result rd o (s.core c) with pc := (s.core c).pc + 4, waiting := false } := by
    rw [State.core_withQueue, State.ran, State.core_updCore_self, State.core_fetched, State.core_adv]
  refine ⟨fun r hr hne => ?reg, fun x hx => ?flag, ?core, fun d hd => ?other, rfl⟩
  case reg =>
    rw [State.gr, hcore]
    exact (s.core c).reg_setReg_other o.1 hr hne
  case flag =>
    rw [hcore]
    exact result_flag_other rd (s.core c) fun h => hx (hflags h)
  case core => rw [hcore]; rfl
  case other =>
    rw [State.core_withQueue, State.ran, State.core_updCore_other _ _ hd, State.core_fetched, State.core_adv]

section
variable {t c rd ra : Nat} {i : Instr} {fs : List Nat} {s : State} (hon : Powered s) (hfs : pbREPA ∉ fs)
include hon hfs

theorem writes_opRrr {f : Nat → Nat → AluOut} {fn rb : Nat} (hrow : exec i s = alu3 t c fn rd ra rb (opRrr f c rd ra rb) s)
    (hf : ∀ a b, (f a b).flags ⊆ fs) (hruns : Runs (s.adv t) c (encR 0x00 fn rd ra rb 0)) :
    WritesRegister t c rd fs s i := ⟨_, hf _ _, hrow.trans (opRrr_takes hfs hf t c rd ra rb s hon hruns)⟩

theorem writes_opRr {f : Nat → AluOut} {fn : Nat} (hrow : exec i s = alu3 t c fn rd ra 0 (opRr f c rd ra) s)
    (hf : ∀ a, (f a).flags ⊆ fs) (hruns : Runs (s.adv t) c (encR 0x00 fn rd ra 0 0)) :
    WritesRegister t c rd fs s i := ⟨_, hf _, hrow.trans (opRr_takes hfs hf t c rd ra s hon hruns)⟩

theorem writes_opCarry {f : Nat → Nat → Nat → AluOut} {fn rb : Nat}
    (hrow : exec i s = alu3 t c fn rd ra rb (opCarry f c rd ra rb) s) (hf : ∀ a b x, (f a b x).flags ⊆ fs)
    (hruns : Runs (s.adv t) c (encR 0x00 fn rd ra rb 0)) : WritesRegister t c rd fs s i :=
  ⟨_, hf _ _ _, hrow.trans (opCarry_takes hfs hf t c rd ra rb s hon hruns)⟩

theorem writes_opDiv {f : Nat → Nat → AluOut} {fn rb : Nat} (hdiv : ¬(s.gr c rb = 0 ∧ (s.core c).flag pbTRAPDZ = true))
    (hrow : exec i s = alu3 t c fn rd ra rb (opDiv f c rd ra rb) s) (hf : ∀ a b, (f a b).flags ⊆ fs)
    (hruns : Runs (s.adv t) c (encR 0x00 fn rd ra rb 0)) : WritesRegister t c rd fs s i :=
  ⟨_, hf _ _, hrow.trans (opDiv_takes hfs hf t c rd ra rb s hon hruns hdiv)⟩

theorem writes_opRi {f : Nat → Nat → AluOut} {major imm v : Nat}
    (hrow : exec i s = aluI t c major rd ra imm (opRi f c rd ra v) s) (hf : ∀ a b, (f a b).flags ⊆ fs)
    (hruns : Runs (s.adv t) c (encI major rd ra imm)) : WritesRegister t c rd fs s i :=
  ⟨_, hf _ _, hrow.trans (opRi_takes hfs hf t c rd ra v s hon hruns fun _ => rfl)⟩

end

theorem writes_opShi {t c rd ra kind n : Nat} {f : Nat → Nat → AluOut} {i : Instr} {s : State} (hon : Powered s)
    (hrow : exec i s = aluI t c 0x06 rd ra (shiImm kind n) (opShi f c rd ra (shiImm kind n)) s)
    (hf : ∀ a b, (f a b).flags ⊆ flNZC) (hn : n < 64) (hruns : Runs (s.adv t) c (encI 0x06 rd ra (kind * 2 ^ 16 + n))) :
    WritesRegister t c rd flNZC s i := ⟨_, hf _ _, hrow.trans (opShi_takes hf t c rd ra n s hon hn hruns)⟩

/-- Writing a register alone is a result without flags. -/
theorem writes_putReg {t c rd v w : Nat} {rep : Bool} {op : State → CoreRes} {i : Instr} {s : State} (hon : Powered s)
    (hrow : exec i s = coreRow t c w rep op s)
    (hop : op ((s.adv t).fetched c) = ((s.adv t).fetched c).putReg c rd v) (hruns : Runs (s.adv t) c w) :
    WritesRegister t c rd [] s i :=
  ⟨(v, []), List.nil_subset _, hrow.trans (coreRow_putReg hon hruns hop)⟩

theorem writes_aext {t c rd n : Nat} {acc opt : Bool} {s : State} (hon : Powered s) (hn : n < 64)
    (hruns : Runs (s.adv t) c (encA 0x08 rd 0 0 acc opt n)) : WritesRegister t c rd flExt s (.aext t c rd acc opt n) := by
  obtain ⟨o, hflags, ho⟩ := extracted_result rd ((s.adv t).accVal c acc) opt n
  exact ⟨o, hflags, ho ▸ opAext_takes t c rd n acc opt s hon hn hruns⟩

/-- A row of a table of instructions, their words and their flags writes one register and those flags. -/
def RowWrites (t c rd : Nat) (s : State) (x : Instr × Nat × List Nat) : Prop :=
  Runs (s.adv t) c x.2.1 → WritesRegister t c rd x.2.2 s x.1

/-- Settles O43: every row writes one register and flags of its list, whose frame is proved once. -/
theorem registerInstructionsKeepTheRest : Obligations.RegisterInstructionsKeepTheRest := by
  unfold Obligations.RegisterInstructionsKeepTheRest
  intro t c rd ra rb imm w b b2 i fs s s' hon hruns hdiv hrow hstep
  have shift : imm % 64 < 64 := Nat.mod_lt _ (by decide)
  have upper : imm % 2 ^ 16 < 2 ^ 16 := Nat.mod_lt _ (by decide)
  have part : imm % 3 < 3 := Nat.mod_lt _ (by decide)
  refine ((?_ : ∀ x ∈ _, RowWrites t c rd s x) (i, w, fs) hrow hruns).frame hstep
  simp only [List.forall_mem_cons]
  exact ⟨writes_opRrr hon repa_not_flNZCV rfl fun _ _ => .refl _,
    writes_opCarry hon repa_not_flNZCV rfl fun _ _ _ => .refl _,
    writes_opRrr hon repa_not_flNZCV rfl fun _ _ => .refl _,
    writes_opCarry hon repa_not_flNZCV rfl fun _ _ _ => .refl _,
    writes_opRrr hon repa_not_flNZ rfl fun _ _ => .refl _, writes_opRrr hon repa_not_flNZ rfl fun _ _ => .refl _,
    writes_opRrr hon repa_not_flNZ rfl fun _ _ => .refl _, writes_opRrr hon repa_not_flNZ rfl fun _ _ => .refl _,
    writes_opRrr hon repa_not_flNZC rfl flags_shlOut, writes_opRrr hon repa_not_flNZC rfl flags_shrOut,
    writes_opRrr hon repa_not_flNZC rfl flags_sarOut, writes_opRrr hon repa_not_flNZC rfl flags_rorOut,
    writes_opRrr hon repa_not_flNZV rfl fun _ _ => .refl _, writes_opRrr hon repa_not_flNZ rfl fun _ _ => .refl _,
    writes_opRrr hon repa_not_flNZ rfl fun _ _ => .refl _, writes_opDiv hon repa_not_flDiv hdiv rfl flags_divsOut,
    writes_opDiv hon repa_not_flDiv hdiv rfl flags_divuOut, writes_opDiv hon repa_not_flDiv hdiv rfl flags_remsOut,
    writes_opDiv hon repa_not_flDiv hdiv rfl flags_remuOut, writes_opRrr hon repa_not_flNZ rfl fun _ _ => .refl _,
    writes_opRrr hon repa_not_flNZ rfl fun _ _ => .refl _, writes_opRrr hon repa_not_flNZ rfl fun _ _ => .refl _,
    writes_opRrr hon repa_not_flNZ rfl fun _ _ => .refl _, writes_opRr hon repa_not_flNZCV rfl fun _ => .refl _,
    writes_opRr hon repa_not_flNZ rfl fun _ => .refl _, writes_opRr hon repa_not_flNZ rfl fun _ => .refl _,
    writes_opRr hon repa_not_flNZV rfl fun _ => .refl _, writes_opRr hon repa_not_flNZ rfl fun _ => .refl _,
    writes_opRr hon repa_not_flNZ rfl fun _ => .refl _, writes_opRr hon repa_not_flNZ rfl fun _ => .refl _,
    writes_opRr hon repa_not_flNZ rfl fun _ => .refl _, writes_opRr hon repa_not_flNZ rfl fun _ => .refl _,
    writes_opRr hon repa_not_flNZ rfl fun _ => .refl _, writes_opRi hon repa_not_flNZCV rfl fun _ _ => .refl _,
    writes_opRi hon repa_not_flNZ rfl fun _ _ => .refl _, writes_opRi hon repa_not_flNZ rfl fun _ _ => .refl _,
    writes_opRi hon repa_not_flNZ rfl fun _ _ => .refl _, writes_opShi hon rfl flags_shlOut shift,
    writes_opShi hon rfl flags_shrOut shift, writes_opShi hon rfl flags_sarOut shift,
    writes_opShi hon rfl flags_rorOut shift, writes_putReg hon rfl rfl, writes_putReg hon rfl (opLui_eq _ _ upper _),
    writes_aext hon shift, writes_putReg hon rfl (opArd_puts _ _ _ part _),
    fun _ h => absurd h List.not_mem_nil⟩

/-! ## Stores -/

theorem Core.load_congr {k k' : Core} (h : k.data = k'.data) (a size : Nat) : k.load a size = k'.load a size := by
  simp only [Core.load, Core.dataWord, h]

/-- What a store of the low bytes of v leaves: the bytes stored, and everything else but register p and PC. -/
def StoresOnly (s s' : State) (c a size v p : Nat) : Prop :=
  (s'.core c).load a size = v % 2 ^ (8 * size) ∧
  (∀ b, b < a ∨ a + size ≤ b → (s'.core c).load b 1 = (s.core c).load b 1) ∧
  (∀ r, r < 16 → r ≠ p → s'.gr c r = s.gr c r) ∧ (s'.core c).psw = (s.core c).psw ∧
  (s'.core c).a0 = (s.core c).a0 ∧ (s'.core c).a1 = (s.core c).a1 ∧ (∀ d, d ≠ c → s'.core d = s.core d) ∧
  SMap.wf (s'.core c).data = true

/-- A core that ran with its data stored and at most register p written. -/
theorem storesOnly_of_ran {s u : State} {q : List Instr} {c a size v p : Nat} {f : Core → Core}
    (hu : ∀ d, u.core d = s.core d) (hwf : SMap.wf (s.core c).data = true) (hfit : a % 4 + size ≤ 4)
    (hdata : ∀ k, (f k).data = (k.store a size v).data) (hreg : ∀ k r, r < 16 → r ≠ p → (f k).reg r = k.reg r)
    (hpsw : ∀ k, (f k).psw = k.psw := by intro _; rfl) (ha0 : ∀ k, (f k).a0 = k.a0 := by intro _; rfl)
    (ha1 : ∀ k, (f k).a1 = k.a1 := by intro _; rfl) :
    StoresOnly s ((u.ran c f).withQueue q) c a size v p := by
  have hcore : ((u.ran c f).withQueue q).core c = { f (s.core c) with pc := (s.core c).pc + 4, waiting := false } := by
    rw [State.core_withQueue, State.ran, State.core_updCore_self, hu]
  unfold StoresOnly
  rw [hcore]
  refine ⟨?value, fun b hb => ?bytes, fun r hr hne => ?regs, hpsw _, ha0 _, ha1 _, fun d hd => ?other, ?wf⟩
  case value => exact (Core.load_congr (hdata _) a size).trans (Core.load_store_self hwf hfit v)
  case bytes =>
    refine (Core.load_congr (hdata _) b 1).trans ?_
    rw [Core.load_store_byte hwf hfit, if_neg (by omega)]
  case regs =>
    rw [State.gr, hcore]
    exact hreg _ r hr hne
  case other => rw [State.core_withQueue, State.ran, State.core_updCore_other _ _ hd, hu]
  case wf =>
    rw [hdata]
    exact Core.store_wf hwf a size v

theorem State.core_dataWrite_fetched (s : State) (t c d a n : Nat) :
    (((s.adv t).fetched c).dataWrite c a n).core d = s.core d := by simp

theorem store_storesOnly {t c rd ra imm major size : Nat} {i : Instr} {s s' : State} (hon : Powered s)
    (hrow : exec i s = memI t c major rd ra imm (opStore size c rd ra imm) s) (hruns : Runs (s.adv t) c (encI major rd ra imm))
    (hsize : size ∈ [1, 2, 4]) (hok : dataOk (s.ea c ra imm) size = true) (hwf : SMap.wf (s.core c).data = true)
    (hstep : exec i s = .next s') : StoresOnly s s' c (s.ea c ra imm) size (s.gr c rd) 16 := by
  obtain rfl := Host.Outcome.next.inj ((hrow.trans (store_takes t c rd ra imm s hon hruns hok)).symm.trans hstep)
  exact storesOnly_of_ran (fun d => s.core_dataWrite_fetched t c d _ _) hwf (fits_word_of_dataOk hsize hok) (fun _ => rfl)
    fun _ _ _ _ => rfl

/-- Settles O44: a store is a store of its core's data memory, and STWP writes its pointer beside it. -/
theorem storesKeepEveryOtherByte : Obligations.StoresKeepEveryOtherByte := by
  unfold Obligations.StoresKeepEveryOtherByte
  intro t c rd ra imm w a size p i s s' hon hruns hwf hok hrow hstep
  simp only [List.mem_cons, Prod.mk.injEq, List.not_mem_nil, or_false] at hrow
  rcases hrow with ⟨rfl, rfl, rfl, rfl, rfl⟩ | ⟨rfl, rfl, rfl, rfl, rfl⟩ | ⟨rfl, rfl, rfl, rfl, rfl⟩ |
    ⟨rfl, rfl, rfl, rfl, rfl⟩
  · exact store_storesOnly hon rfl hruns (by decide) hok hwf hstep
  · exact store_storesOnly hon rfl hruns (by decide) hok hwf hstep
  · exact store_storesOnly hon rfl hruns (by decide) hok hwf hstep
  · have hdoes : Does (.stwp t c rd ra imm) s _ := stwp_takes t c rd ra imm s hon hruns hok
    obtain rfl := Host.Outcome.next.inj (hdoes.symm.trans hstep)
    exact storesOnly_of_ran (fun d => s.core_dataWrite_fetched t c d _ _) hwf (fits_word_of_dataOk (by decide) hok)
      (fun _ => rfl) fun k _ hr hne => (k.store _ 4 _).reg_setReg_other _ hr hne

end Sys2Proof.Machine
end

section
/-! PROOFS. Exception entry and RETE (O46, O47). -/

namespace Sys2Proof.Machine

open Safety

/-! ## The frame -/

/-- Data memory with a frame of R458 at b. -/
def frameData (m : SMap Nat) (b epc psw cause eaddr : Nat) : SMap Nat :=
  putWord (putWord (putWord (putWord m b epc) (b + 4) psw) (b + 8) cause) (b + 12) eaddr

/-- A core with the frame stored below g14, which takes its lowest address. -/
def Core.framed (k : Core) (epc cause eaddr : Nat) : Core :=
  { k with data := frameData k.data (k.reg 14 - 16) epc k.psw cause eaddr, g := k.g.set 14 ((k.reg 14 - 16) % 2 ^ 32) }

theorem State.core_storeWord32 (s : State) (c a v d : Nat) :
    (s.storeWord32 c a v).core d = if d = c then (s.core c).setDataWord a v else s.core d := by
  split
  · next h => rw [h, State.storeWord32, State.core_updCore_self, State.core_dataWrite]
  · next h => rw [State.storeWord32, State.core_updCore_other _ _ h, State.core_dataWrite]

theorem State.core_pushFrame (s : State) (c epc cause eaddr d : Nat) :
    (s.pushFrame c epc cause eaddr).core d = if d = c then (s.core c).framed epc cause eaddr else s.core d := by
  split
  · next h =>
    rw [h, State.pushFrame, State.setGr, State.core_updCore_self]
    simp only [State.core_storeWord32, if_true, Core.setDataWord_eq]
    rfl
  · next h =>
    rw [State.pushFrame, State.setGr, State.core_updCore_other _ _ h]
    simp only [State.core_storeWord32, h, if_false]

section
variable {m : SMap Nat} {b epc psw cause eaddr : Nat} (halign : b % 4 = 0)
include halign

/-- The four words of the frame. -/
theorem get_frameData (hwf : SMap.wf m = true) :
    SMap.get (frameData m b epc psw cause eaddr) (b / 4) 0 = epc % 2 ^ 32 ∧
    SMap.get (frameData m b epc psw cause eaddr) ((b + 4) / 4) 0 = psw % 2 ^ 32 ∧
    SMap.get (frameData m b epc psw cause eaddr) ((b + 8) / 4) 0 = cause % 2 ^ 32 ∧
    SMap.get (frameData m b epc psw cause eaddr) ((b + 12) / 4) 0 = eaddr % 2 ^ 32 := by
  have hw1 := putWord_wf hwf b epc
  have hw2 := putWord_wf hw1 (b + 4) psw
  have hw3 := putWord_wf hw2 (b + 8) cause
  unfold frameData
  refine ⟨?_, ?_, ?_, get_putWord_self hw3 _ _⟩
  · rw [get_putWord_other _ _ (by omega), get_putWord_other _ _ (by omega), get_putWord_other _ _ (by omega),
      get_putWord_self hwf]
  · rw [get_putWord_other _ _ (by omega), get_putWord_other _ _ (by omega), get_putWord_self hw1]
  · rw [get_putWord_other _ _ (by omega), get_putWord_self hw2]

theorem get_frameData_outside {a : Nat} (ha : a < b ∨ b + 16 ≤ a) :
    SMap.get (frameData m b epc psw cause eaddr) (a / 4) 0 = SMap.get m (a / 4) 0 := by
  unfold frameData
  rw [get_putWord_other _ _ (by omega), get_putWord_other _ _ (by omega), get_putWord_other _ _ (by omega),
    get_putWord_other _ _ (by omega)]

end

/-! ## Entry -/

/-- A core right after exception entry on a valid stack: the frame, then IE, REPA and RC cleared, and the handler's PC
(R458). -/
def Core.entered (k : Core) (code detail epc eaddr : Nat) : Core :=
  let x := k.framed epc (code + detail % 256 * 256) eaddr
  { (x.setFlags [(pbIE, false)]).setRep false 0 with pc := x.vbase + 4 * code, waiting := false }

theorem State.core_coreEnter {s : State} {c : Nat} (code detail epc eaddr d : Nat) (hok : (s.core c).stackOk = true) :
    (s.coreEnter c code detail epc eaddr).core d = if d = c then (s.core c).entered code detail epc eaddr else s.core d := by
  unfold State.coreEnter
  simp only [State.core_wr, hok, if_true]
  split
  · next h => rw [h, State.core_updCore_self, State.core_pushFrame, if_pos rfl, State.core_wr, Core.entered]
  · next h => rw [State.core_updCore_other _ _ h, State.core_pushFrame, if_neg h, State.core_wr]

section
variable (k : Core) (code detail epc eaddr : Nat)

theorem Core.entered_psw : (k.entered code detail epc eaddr).psw = ((k.setFlags [(pbIE, false)]).setRep false 0).psw := rfl

theorem Core.entered_g : (k.entered code detail epc eaddr).g = k.g.set 14 ((k.reg 14 - 16) % 2 ^ 32) := rfl

theorem Core.entered_data : (k.entered code detail epc eaddr).data =
    frameData k.data (k.reg 14 - 16) epc k.psw (code + detail % 256 * 256) eaddr := rfl

theorem Core.entered_pc : (k.entered code detail epc eaddr).pc = k.vbase + 4 * code := rfl
theorem Core.entered_a0 : (k.entered code detail epc eaddr).a0 = k.a0 := rfl
theorem Core.entered_a1 : (k.entered code detail epc eaddr).a1 = k.a1 := rfl
theorem Core.entered_stklo : (k.entered code detail epc eaddr).stklo = k.stklo := rfl
theorem Core.entered_stkhi : (k.entered code detail epc eaddr).stkhi = k.stkhi := rfl

theorem Core.entered_flag_ie : (k.entered code detail epc eaddr).flag pbIE = false := by
  rw [Core.flag, Core.entered_psw]
  exact (Core.flag_setRep_other _ false 0 (by decide) (by decide)).trans (Core.flag_setFlags_one k pbIE false)

theorem Core.entered_flag_repa : (k.entered code detail epc eaddr).flag pbREPA = false := by
  rw [Core.flag, Core.entered_psw]
  exact Core.flag_setRep _ false 0

theorem Core.entered_flag_other {x : Nat} (hx : x < 12) (hie : x ≠ pbIE) (hrepa : x ≠ pbREPA) :
    (k.entered code detail epc eaddr).flag x = k.flag x := by
  rw [Core.flag, Core.entered_psw]
  exact (Core.flag_setRep_other _ false 0 hx hrepa).trans (Core.flag_setFlags_other k _ (by simpa using hie))

theorem Core.entered_rc : (k.entered code detail epc eaddr).rc = 0 := by
  rw [Core.rc, Core.entered_psw]
  exact Core.rc_setRep _ false 0

theorem Core.entered_reg_other {r : Nat} (hr : r < 16) (hne : r ≠ 14) :
    (k.entered code detail epc eaddr).reg r = k.reg r := by
  rw [Core.reg, Core.entered_g]
  exact k.reg_setReg_other (rd := 14) _ hr hne

theorem Core.entered_reg_sp (hlen : k.g.length = 16) (hsp : k.reg 14 ≤ 0x10000) :
    (k.entered code detail epc eaddr).reg 14 = k.reg 14 - 16 := by
  rw [Core.reg, Core.entered_g]
  exact (Core.reg_setReg_self hlen 14 _).trans (Nat.mod_eq_of_lt (by omega))

theorem Core.entered_load_outside (halign : (k.reg 14 - 16) % 4 = 0) {a : Nat}
    (ha : a < k.reg 14 - 16 ∨ k.reg 14 - 16 + 16 ≤ a) : (k.entered code detail epc eaddr).load a 1 = k.load a 1 := by
  simp only [Core.load, Core.dataWord, Core.entered_data, get_frameData_outside halign ha]

/-- The frame that entry stores: EPC, PSW, the cause word and EADDR. -/
theorem Core.entered_frame (halign : (k.reg 14 - 16) % 4 = 0) (hwf : SMap.wf k.data = true) :
    (k.entered code detail epc eaddr).dataWord (k.reg 14 - 16) = epc % 2 ^ 32 ∧
    (k.entered code detail epc eaddr).dataWord (k.reg 14 - 16 + 4) = k.psw % 2 ^ 32 ∧
    (k.entered code detail epc eaddr).dataWord (k.reg 14 - 16 + 8) = (code + detail % 256 * 256) % 2 ^ 32 ∧
    (k.entered code detail epc eaddr).dataWord (k.reg 14 - 16 + 12) = eaddr % 2 ^ 32 := by
  simp only [Core.dataWord, Core.entered_data]
  exact get_frameData halign hwf

end

theorem Core.stackOk_iff (k : Core) :
    k.stackOk = true ↔ k.reg 14 % 4 = 0 ∧ k.stklo + 16 ≤ k.reg 14 ∧ k.reg 14 ≤ k.stkhi := by
  simp only [Core.stackOk, Bool.and_eq_true, beq_iff_eq, decide_eq_true_eq, and_assoc]

/-- Settles O46: on a valid stack the core is the one that `Core.entered` says; with g14 not valid it enters Fault, its code
written to AST_CORE_LAST as log entry 69 chooses. -/
theorem exceptionEntryFollowsR458 : Obligations.ExceptionEntryFollowsR458 := by
  unfold Obligations.ExceptionEntryFollowsR458
  refine ⟨?valid, fun s c code detail epc eaddr hbad => ?invalid⟩
  case valid =>
    intro s c code detail epc eaddr hok hlen hsp hcode hepc headdr hpsw hwf
    have hcore := State.core_coreEnter code detail epc eaddr c hok
    rw [if_pos rfl] at hcore
    have hother (d : Nat) (hd : d ≠ c) := (State.core_coreEnter code detail epc eaddr d hok).trans (if_neg hd)
    simp only [hcore]
    unfold State.gr at hsp
    generalize s.core c = k at *
    obtain ⟨halign, -, -⟩ := k.stackOk_iff.mp hok
    have hb : (k.reg 14 - 16) % 4 = 0 := by omega
    obtain ⟨hw0, hw4, hw8, hw12⟩ := k.entered_frame code detail epc eaddr hb hwf
    exact ⟨hw0.trans (Nat.mod_eq_of_lt hepc), hw4.trans (Nat.mod_eq_of_lt (hpsw.trans (by decide))),
      hw8.trans (Nat.mod_eq_of_lt (by omega)), hw12.trans (Nat.mod_eq_of_lt headdr),
      k.entered_reg_sp code detail epc eaddr hlen hsp, k.entered_pc code detail epc eaddr,
      k.entered_flag_ie code detail epc eaddr, k.entered_flag_repa code detail epc eaddr,
      k.entered_rc code detail epc eaddr, fun _ => k.entered_flag_other code detail epc eaddr,
      fun _ => k.entered_reg_other code detail epc eaddr, fun _ => k.entered_load_outside code detail epc eaddr hb,
      k.entered_a0 code detail epc eaddr, k.entered_a1 code detail epc eaddr, hother⟩
  case invalid => simp only [State.coreEnter, State.core_wr, hbad, Bool.false_eq_true, if_false]

/-! ## RETE -/

/-- A PSW of 24 bits whose reserved bits are 0 is kept (R459). -/
theorem pswKept_eq {v : Nat} (hv : v < 2 ^ 24) (h7 : bit v 7 = false) (h11 : bit v 11 = false) : pswKept v = v := by
  rw [bit_eq_testBit] at h7 h11
  refine Nat.eq_of_testBit_eq fun j => ?_
  rw [pswKept, testBit_setBit, testBit_setBit, Nat.mod_eq_of_lt hv]
  split
  · next h => rw [h, h11]
  · split
    · next h => rw [h, h7]
    · rfl

/-- A core that RETE took back to the frame at g. -/
def Core.returned (k : Core) (g : Nat) : Core :=
  { k.setReg 14 (g + 16) with psw := pswKept (k.dataWord (g + 4)), pc := k.dataWord g }

theorem opRete_returns {s : State} {c g : Nat} (hg : (s.core c).reg 14 = g) (hwin : (s.core c).window g (g + 16) = true)
    (hclean : (s.dataRead c g 16).1 = false) :
    opRete c s = .hold ((s.dataRead c g 16).2.updCore c (fun k => k.returned g)) := by
  subst hg
  simp only [opRete, hwin, hclean, Bool.not_true, Bool.false_eq_true, if_false]
  exact congrArg CoreRes.hold (State.updCore_congr _ c rfl)

section
variable (k : Core) (g : Nat)

theorem Core.returned_pc : (k.returned g).pc = k.dataWord g := rfl
theorem Core.returned_psw : (k.returned g).psw = pswKept (k.dataWord (g + 4)) := rfl
theorem Core.returned_a0 : (k.returned g).a0 = k.a0 := rfl
theorem Core.returned_a1 : (k.returned g).a1 = k.a1 := rfl

theorem Core.returned_reg_other {r : Nat} (hr : r < 16) (hne : r ≠ 14) : (k.returned g).reg r = k.reg r :=
  k.reg_setReg_other (rd := 14) _ hr hne

theorem Core.returned_reg_sp (hlen : k.g.length = 16) (hg : g + 16 < 2 ^ 32) : (k.returned g).reg 14 = g + 16 :=
  (Core.reg_setReg_self hlen 14 _).trans (Nat.mod_eq_of_lt hg)

end

section
variable {k : Core} (hok : k.stackOk = true) (code detail epc eaddr : Nat)
include hok

/-- The frame that entry stored lies in the stack window (R439). -/
theorem Core.entered_window :
    (k.entered code detail epc eaddr).window (k.reg 14 - 16 : Nat) ((k.reg 14 - 16 : Nat) + 16) = true := by
  obtain ⟨halign, hlo, hhi⟩ := k.stackOk_iff.mp hok
  simp only [Core.window, Bool.and_eq_true, beq_iff_eq, decide_eq_true_eq]
  rw [Core.entered_stklo, Core.entered_stkhi]
  omega

/-- Every register of a core that entered and returned is as before. -/
theorem Core.entered_returned_reg (hlen : k.g.length = 16) (hsp : k.reg 14 ≤ 0x10000) {r : Nat} (hr : r < 16) :
    ((k.entered code detail epc eaddr).returned (k.reg 14 - 16)).reg r = k.reg r := by
  obtain ⟨-, hlo, -⟩ := k.stackOk_iff.mp hok
  have hlen' : (k.entered code detail epc eaddr).g.length = 16 := by rw [Core.entered_g, List.length_set, hlen]
  by_cases h : r = 14
  · subst h
    rw [Core.returned_reg_sp _ _ hlen' (by omega)]
    omega
  · rw [Core.returned_reg_other _ _ hr h, Core.entered_reg_other _ _ _ _ _ hr h]

end

/-- Settles O47: RETE finds the frame that entry stored, below g14, and takes g14 back above it. -/
theorem returnUndoesExceptionEntry : Obligations.ReturnUndoesExceptionEntry := by
  unfold Obligations.ReturnUndoesExceptionEntry
  intro s c code detail epc eaddr hok hlen hsp _ _ hepc _ hpsw h7 h11 hwf hclean
  have hcore := State.core_coreEnter code detail epc eaddr c hok
  rw [if_pos rfl] at hcore
  unfold State.gr at *
  have hsp' := (s.core c).entered_reg_sp code detail epc eaddr hlen hsp
  have hwin := Core.entered_window hok code detail epc eaddr
  rw [← hcore] at hsp' hwin
  refine ⟨_, opRete_returns hsp' hwin hclean, ?_⟩
  rw [State.core_updCore_self, State.core_dataRead, hcore]
  generalize s.core c = k at *
  obtain ⟨halign, -, -⟩ := k.stackOk_iff.mp hok
  obtain ⟨hw0, hw4, -, -⟩ := k.entered_frame code detail epc eaddr (by omega) hwf
  rw [Core.returned_pc, Core.returned_psw, Core.returned_a0, Core.returned_a1, hw0, hw4, Nat.mod_eq_of_lt hepc,
    Nat.mod_eq_of_lt (hpsw.trans (by decide)), pswKept_eq hpsw h7 h11, Core.entered_a0, Core.entered_a1]
  exact ⟨rfl, rfl, fun r hr => Core.entered_returned_reg hok code detail epc eaddr hlen hsp hr, rfl, rfl⟩

end Sys2Proof.Machine
end

section
/-! PROOFS. Control instructions, SYS and REP (O18). -/

namespace Sys2Proof.Machine

open Safety

/-! ## Jumps -/

@[simp] theorem State.relTarget_fetched (s : State) (c d w imm : Nat) :
    (s.fetched d).relTarget c w imm = s.relTarget c w imm := by
  rw [State.relTarget, State.core_fetched, State.relTarget]

theorem State.jumpTo_goes {s : State} {target : Nat} {f : State → State} (h : target % 4 = 0 ∧ target ≤ 0xFFFC) :
    s.jumpTo target f = .goto (f s) target := if_neg (by omega)

theorem State.jumpTo_iaddr {s : State} {target : Nat} {f : State → State} (h : ¬(target % 4 = 0 ∧ target ≤ 0xFFFC)) :
    s.jumpTo target f = .exc s exIaddr 1 target := if_pos (by omega)

section
variable {t c w target : Nat} {rep : Bool} {op : State → CoreRes} {f : State → State} {s : State} (hon : Powered s)
  (hruns : Runs (s.adv t) c w) (hop : op ((s.adv t).fetched c) = ((s.adv t).fetched c).jumpTo target f)
include hon hruns hop

theorem jump_goes (h : target % 4 = 0 ∧ target ≤ 0xFFFC) :
    coreRow t c w rep op s =
      .next (((f ((s.adv t).fetched c)).updCore c (fun k => { k with pc := target })).withQueue s.pending) :=
  coreRow_settles hon hruns (hop.trans (State.jumpTo_goes h))

theorem jump_iaddr (h : ¬(target % 4 = 0 ∧ target ≤ 0xFFFC)) :
    coreRow t c w rep op s = .next ((((s.adv t).fetched c).coreExcept c exIaddr 1 target).withQueue s.pending) :=
  coreRow_settles hon hruns (hop.trans (State.jumpTo_iaddr h))

end

/-- A call writes the return address and goes to its target. -/
theorem State.link_updCore (s : State) (c target : Nat) :
    (s.link c).updCore c (fun k => { k with pc := target }) =
      s.updCore c (fun k => { k.setReg 15 (k.pc + 4) with pc := target }) := by
  rw [State.link, State.setGr, State.updCore_updCore]
  exact s.updCore_congr c rfl

theorem opBcond_jumps {s : State} {c cond imm : Nat} (h : (s.core c).cond cond = true) :
    opBcond c cond imm s = s.jumpTo (s.relTarget c 22 imm) id := if_pos h

theorem opBcond_falls {s : State} {c cond imm : Nat} (h : (s.core c).cond cond = false) :
    opBcond c cond imm s = .done s := if_neg (by simp [h])

theorem State.coreAdvance_once {s : State} {c : Nat} (h : (s.core c).flag pbREPA = false) :
    s.coreAdvance c = s.ran c id :=
  State.updCore_congr s c (by simp only [h, Bool.not_false, if_true, id])

/-- An operation that completes and changes nothing. -/
theorem coreRow_done {t c w : Nat} {rep : Bool} {op : State → CoreRes} {s : State} (hon : Powered s)
    (hruns : Runs (s.adv t) c w) (hop : op ((s.adv t).fetched c) = .done ((s.adv t).fetched c)) :
    coreRow t c w rep op s = .next ((((s.adv t).fetched c).ran c id).withQueue s.pending) := by
  rw [coreRow_settles hon hruns hop, CoreRes.settle, State.coreAdvance_once]
  rw [State.core_fetched]
  exact hruns.2.2.2.2.2

/-! ## SYS -/

theorem opWfi_completes {s : State} {c : Nat} (h : (s.core c).lines ≠ 0) : opWfi c s = .done s := if_pos h

theorem opWfi_waits {s : State} {c : Nat} (h : (s.core c).lines = 0) :
    opWfi c s = .hold (s.updCore c (fun k => { k with waiting := true })) := if_neg (not_not_intro h)

theorem opRete_outside {s : State} {c g : Nat} (hg : (s.core c).reg 14 = g) (hwin : (s.core c).window g (g + 16) = false) :
    opRete c s = .exc s exDaddr 1 g := by
  subst hg
  simp only [opRete, hwin, Bool.not_false, if_true]

theorem opBrk_raises {s : State} {c : Nat} (h : s.on AST_CORE_CTL.DEBUG_EN c = false) : opBrk c s = .exc s exBrk 0 0 :=
  if_neg (by simp [h])

theorem opBrk_halts {s : State} {c : Nat} (h : s.on AST_CORE_CTL.DEBUG_EN c = true) :
    opBrk c s = .hold ((((s.updCore c (fun k => { k with pc := k.pc + 4, haltFrom := some s.now })).coreTo c csDebug).irq
      AST_IRQ_STAT.DEBUG).astEvent 4 c 0 (s.rd AST_CORE_STAT.SESSION c)) := if_pos h

theorem trap_raises {t c n : Nat} {s : State} (hon : Powered s) (hn : n < 256)
    (hruns : Runs (s.adv t) c (encR 0x24 0x04 0 0 0 n)) :
    Does (.trap t c n) s (((s.adv t).fetched c).coreExcept c exTrap n 0) := by
  have hop : CoreRes.exc ((s.adv t).fetched c) exTrap (n % 256) 0 = .exc ((s.adv t).fetched c) exTrap n 0 := by
    rw [Nat.mod_eq_of_lt hn]
  exact coreRow_settles (op := fun s => .exc s exTrap (n % 256) 0) hon hruns hop

theorem rete_returns {t c : Nat} {s : State} (hon : Powered s) (hruns : Runs (s.adv t) c (encR 0x24 0x03 0 0 0 0))
    (hwin : ((s.adv t).core c).window ((s.adv t).gr c 14) ((s.adv t).gr c 14 + 16) = true)
    (hclean : (((s.adv t).fetched c).dataRead c ((s.adv t).gr c 14) 16).1 = false) :
    Does (.rete t c) s ((((s.adv t).fetched c).dataRead c ((s.adv t).gr c 14) 16).2.updCore c
      (fun k => k.returned ((s.adv t).gr c 14))) := by
  rw [← State.core_fetched _ c] at hwin
  exact coreRow_settles (op := opRete c) hon hruns (opRete_returns (by rw [State.core_fetched, State.gr]) hwin hclean)

theorem rete_outside {t c : Nat} {s : State} (hon : Powered s) (hruns : Runs (s.adv t) c (encR 0x24 0x03 0 0 0 0))
    (hwin : ((s.adv t).core c).window ((s.adv t).gr c 14) ((s.adv t).gr c 14 + 16) = false) :
    Does (.rete t c) s (((s.adv t).fetched c).coreExcept c exDaddr 1 ((s.adv t).gr c 14)) := by
  rw [← State.core_fetched _ c] at hwin
  exact coreRow_settles (op := opRete c) hon hruns (opRete_outside (by rw [State.core_fetched, State.gr]) hwin)

/-! ## REP -/

theorem repImm_count {count : Nat} (hle : count ≤ 4095) : repImm false count = count := by
  simp only [repImm, Bool.toNat_false]
  omega

theorem repImm_form : repImm true 0 = 2 ^ 17 := rfl

section
variable {s : State} {c : Nat}

/-- REP takes the COUNT of its immediate when FORM is 0. -/
theorem opRep_immediate {count : Nat} (hle : count ≤ 4095) :
    opRep c 0 count s = if count = 0 then .goto s ((s.core c).pc + 8)
      else .goto (s.updCore c (fun k => k.setRep true count)) ((s.core c).pc + 4) := by
  have hform : bit count 17 = false := by
    rw [bit_eq_testBit, Nat.testBit_lt_two_pow (by omega)]
  have hclear : bits count 16 12 = 0 := by unfold bits; omega
  have hcount : count % 2 ^ 12 = count := by omega
  simp only [opRep, hform, hclear, hcount, Bool.not_false, Bool.true_and, Bool.false_and, Bool.false_eq_true, if_false, ne_eq,
    not_true_eq_false, Nat.zero_mod, bne_self_eq_false, or_self]

/-- REP takes the count of ra when FORM is 1, and none above 4,095. -/
theorem opRep_register (ra : Nat) :
    opRep c ra (2 ^ 17) s = if 4095 < s.gr c ra then .exc s exIllegal 1 0
      else if s.gr c ra = 0 then .goto s ((s.core c).pc + 8)
      else .goto (s.updCore c (fun k => k.setRep true (s.gr c ra))) ((s.core c).pc + 4) := by
  have hform : bit (2 ^ 17) 17 = true := rfl
  have hclear : bits (2 ^ 17) 16 12 = 0 := rfl
  simp only [opRep, hform, hclear, Bool.not_true, Bool.true_and, Bool.false_and, Bool.false_eq_true, if_true, ne_eq,
    not_true_eq_false, or_self, if_false, decide_eq_true_eq]

end

theorem settle_repLoads (s : State) (c count : Nat) :
    (CoreRes.goto (s.updCore c (fun k => k.setRep true count)) ((s.core c).pc + 4)).settle c =
      s.updCore c (fun k => { k.setRep true count with pc := k.pc + 4 }) := by
  rw [CoreRes.settle, State.updCore_updCore]
  exact s.updCore_congr c rfl

theorem settle_repSkips (s : State) (c : Nat) :
    (CoreRes.goto s ((s.core c).pc + 8)).settle c = s.updCore c (fun k => { k with pc := k.pc + 8 }) := by
  rw [CoreRes.settle]
  exact s.updCore_congr c rfl

section
variable {t c : Nat} {s : State} (hon : Powered s)
include hon

theorem rep_loads {count : Nat} (hpos : 0 < count) (hle : count ≤ 4095)
    (hruns : Runs (s.adv t) c (encI 0x25 0 0 count)) :
    Does (.rep t c false 0 count) s (((s.adv t).fetched c).updCore c (fun k => { k.setRep true count with pc := k.pc + 4 })) := by
  change coreRow t c (encI 0x25 0 0 (repImm false count)) false (opRep c 0 (repImm false count)) s = _
  rw [repImm_count hle, coreRow_settles hon hruns ((opRep_immediate hle).trans (if_neg hpos.ne')), settle_repLoads]

theorem rep_skips (hruns : Runs (s.adv t) c (encI 0x25 0 0 0)) :
    Does (.rep t c false 0 0) s (((s.adv t).fetched c).updCore c (fun k => { k with pc := k.pc + 8 })) := by
  change coreRow t c (encI 0x25 0 0 (repImm false 0)) false (opRep c 0 (repImm false 0)) s = _
  rw [repImm_count (Nat.zero_le _), coreRow_settles hon hruns ((opRep_immediate (Nat.zero_le _)).trans (if_pos rfl)),
    settle_repSkips]

variable {ra : Nat} (hruns : Runs (s.adv t) c (encI 0x25 0 ra (2 ^ 17)))
include hruns

theorem rep_loadsRegister (hpos : 0 < (s.adv t).gr c ra) (hle : (s.adv t).gr c ra ≤ 4095) :
    Does (.rep t c true ra 0) s (((s.adv t).fetched c).updCore c
      (fun k => { k.setRep true ((s.adv t).gr c ra) with pc := k.pc + 4 })) := by
  change coreRow t c (encI 0x25 0 ra (repImm true 0)) false (opRep c ra (repImm true 0)) s = _
  rw [← State.gr_fetched _ c c] at hpos hle ⊢
  rw [repImm_form, coreRow_settles hon hruns
    (((opRep_register ra).trans (if_neg (by omega))).trans (if_neg hpos.ne')), settle_repLoads]

theorem rep_illegal (hgt : 4095 < (s.adv t).gr c ra) :
    Does (.rep t c true ra 0) s (((s.adv t).fetched c).coreExcept c exIllegal 1 0) := by
  change coreRow t c (encI 0x25 0 ra (repImm true 0)) false (opRep c ra (repImm true 0)) s = _
  rw [← State.gr_fetched _ c c] at hgt
  rw [repImm_form, coreRow_settles hon hruns ((opRep_register ra).trans (if_pos hgt)), CoreRes.settle]

end

/-! ## DONE and AGAIN -/

theorem doneStep_ends {t c : Nat} {s : State} (hon : Powered s) (hverb : (s.adv t).gr c 0 ≠ 1)
    (hruns : Runs (s.adv t) c (encR 0x24 0x01 0 0 0 0)) : Does (.doneStep t c) s (((s.adv t).fetched c).yieldDone c) := by
  have hop : opYield c ((s.adv t).fetched c) = .hold (((s.adv t).fetched c).yieldDone c) := by
    rw [opYield, State.gr_fetched, if_neg hverb]
  change execDoneStep t c s = _
  rw [execDoneStep, if_neg (show ¬s.gr c 0 = 1 from hverb)]
  exact coreRow_settles hon hruns hop

theorem again_queues {t c : Nat} {s : State} (hon : Powered s) (hverb : (s.adv t).gr c 0 = 1)
    (hruns : Runs (s.adv t) c (encR 0x24 0x01 0 0 0 0)) : Does (.again t c) s (((s.adv t).fetched c).yieldAgain c) := by
  have hop : opYield c ((s.adv t).fetched c) = .hold (((s.adv t).fetched c).yieldAgain c) := by
    rw [opYield, State.gr_fetched, if_pos hverb]
  change execAgain t c s = _
  rw [execAgain, if_pos (show s.gr c 0 = 1 from hverb)]
  exact coreRow_settles hon hruns hop

/-- Settles O18: jumps by their target, SYS by its function, REP by its count, and YIELD by g0. -/
theorem controlAndSystemInstructionsTakeEffect : Obligations.ControlAndSystemInstructionsTakeEffect := by
  unfold Obligations.ControlAndSystemInstructionsTakeEffect
  have hb {t c cond imm : Nat} {s : State} (h : ((s.adv t).core c).cond cond = true) :
      opBcond c cond imm ((s.adv t).fetched c) = ((s.adv t).fetched c).jumpTo ((s.adv t).relTarget c 22 imm) id := by
    rw [opBcond_jumps (by rwa [State.core_fetched]), State.relTarget_fetched]
  have hj {t c imm : Nat} {s : State} :
      opJmp c imm ((s.adv t).fetched c) = ((s.adv t).fetched c).jumpTo ((s.adv t).relTarget c 26 imm) id := by
    rw [opJmp, State.relTarget_fetched]
  have hc {t c imm : Nat} {s : State} : opCall c imm ((s.adv t).fetched c) =
      ((s.adv t).fetched c).jumpTo ((s.adv t).relTarget c 26 imm) (fun s => s.link c) := by
    rw [opCall, State.relTarget_fetched]
  have hjr {t c ra : Nat} {s : State} :
      opJr c ra ((s.adv t).fetched c) = ((s.adv t).fetched c).jumpTo ((s.adv t).gr c ra) id := by
    rw [opJr, State.gr_fetched]
  have hcr {t c ra : Nat} {s : State} : opCallr c ra ((s.adv t).fetched c) =
      ((s.adv t).fetched c).jumpTo ((s.adv t).gr c ra) (fun s => s.link c) := by
    rw [opCallr, State.gr_fetched]
  exact ⟨fun _ _ _ _ _ hon hruns hcond => jump_goes hon hruns (hb hcond),
    fun _ _ _ _ _ hon hruns hcond => jump_iaddr hon hruns (hb hcond),
    fun _ _ _ _ _ hon hruns hcond => coreRow_done hon hruns (opBcond_falls (by rwa [State.core_fetched])),
    fun _ _ _ _ hon hruns => jump_goes hon hruns hj, fun _ _ _ _ hon hruns => jump_iaddr hon hruns hj,
    fun _ _ _ _ hon hruns h => (jump_goes hon hruns hc h).trans (by rw [State.link_updCore]),
    fun _ _ _ _ hon hruns => jump_iaddr hon hruns hc,
    fun _ _ _ _ hon hruns => jump_goes hon hruns hjr, fun _ _ _ _ hon hruns => jump_iaddr hon hruns hjr,
    fun _ _ _ _ hon hruns h => (jump_goes hon hruns hcr h).trans (by rw [State.link_updCore]),
    fun _ _ _ _ hon hruns => jump_iaddr hon hruns hcr,
    fun _ _ _ hon hruns => coreRow_done hon hruns rfl, fun _ _ _ hon hruns => coreRow_done hon hruns rfl,
    fun _ _ _ hon hruns h => coreRow_done hon hruns (opWfi_completes (by rwa [State.core_fetched])),
    fun _ _ _ hon hruns h => coreRow_settles hon hruns (opWfi_waits (by rwa [State.core_fetched])),
    fun _ _ _ => rete_returns, fun _ _ _ => rete_outside, fun _ _ _ _ => trap_raises,
    fun _ _ _ hon hruns h => coreRow_settles hon hruns (opBrk_raises h),
    fun _ _ _ hon hruns h => coreRow_settles hon hruns (opBrk_halts h),
    fun _ _ _ _ hon hpos hle hruns => rep_loads hon hpos hle hruns,
    fun _ _ _ _ hon hpos hle hruns => rep_loadsRegister hon hruns hpos hle, fun _ _ _ => rep_skips,
    fun _ _ _ _ hon hgt hruns => rep_illegal hon hruns hgt, fun _ _ _ => doneStep_ends, fun _ _ _ => again_queues⟩

end Sys2Proof.Machine
end

section
/-! PROOFS. Errors of codewords (O49), and the supply (O30). -/

namespace Sys2Proof.Machine

open Safety

/-! ## What the reports of an error leave alone -/

theorem State.irq_mem (s : State) {f : Fld} (i : Nat) (hunit : f.off / 65536 ≠ 0x15) : (s.irq f i).mem = s.mem :=
  (s.irq_differs i hunit).units.2.2.1

theorem State.rd_irq_other (s : State) {f g : Fld} (i k l : Nat) (hunit : f.off / 65536 ≠ 0x15) (hkey : g.key k l ≠ f.key i 0) :
    (s.irq f i).rd g k l = s.rd g k l := by
  simp only [State.irq, State.unitRaise, hunit, if_false]
  split
  · rw [State.rd_srcPend, State.rd_wr_other _ _ _ _ _ _ _ _ hkey]
  · exact State.rd_wr_other _ _ _ _ _ _ _ _ hkey

@[simp] theorem State.archiveEvent_mem (s : State) (u i w : Nat) (a : List Byte) (k n : Nat) :
    (s.archiveEvent u i w a k n).mem = s.mem := rfl

@[simp] theorem State.memLog_cells (s : State) (a k b cw : Nat) : (s.memLog a k b cw).mem.cells = s.mem.cells := by
  simp only [State.memLog]
  rw [State.irq_mem _ _ (by decide)]
  split <;> simp [State.add]

@[simp] theorem State.bucketAdd_cells (s : State) (u : Nat) : (s.bucketAdd u).mem.cells = s.mem.cells := by
  simp only [State.bucketAdd]
  split
  · simp
  · split <;> simp [State.irq_mem _ (f := MEM_IRQ_STAT.BUCKET) _ (by decide)]

@[simp] theorem State.memCe_cells (s : State) (a cw b : Nat) : (s.memCe a cw b).mem.cells = s.mem.cells := by
  simp only [State.memCe]
  split <;> split <;> simp

/-- The state without what the report of an error writes: registers, HIF's sources, MEM's accounts and the record
requests. -/
def State.unreported (s : State) : State := { s with regs := [], persist := [], hif := {}, mem := {}, plt := {} }

theorem State.eq_of_unreported {s u : State} (h : s.unreported = u.unreported) : s.ses = u.ses ∧ s.alm = u.alm := by
  have hses := congrArg State.ses h
  have halm := congrArg State.alm h
  exact ⟨hses, halm⟩

@[simp] theorem State.wr_unreported (s : State) (f : Fld) (v i j : Nat) : (s.wr f v i j).unreported = s.unreported := by
  unfold State.wr
  split <;> rfl

@[simp] theorem State.bump_unreported (s : State) (f : Fld) (i j : Nat) : (s.bump f i j).unreported = s.unreported :=
  s.wr_unreported _ _ _ _

theorem State.irq_unreported (s : State) {f : Fld} (i : Nat) (hunit : f.off / 65536 ≠ 0x15) :
    (s.irq f i).unreported = s.unreported := by
  rw [s.irq_differs i hunit]
  rfl

@[simp] theorem State.archiveEvent_unreported (s : State) (u i w : Nat) (a : List Byte) (k n : Nat) :
    (s.archiveEvent u i w a k n).unreported = s.unreported := rfl

@[simp] theorem State.mem_unreported (s : State) (m : MemS) : { s with mem := m }.unreported = s.unreported := rfl

@[simp] theorem State.setCell_unreported (s : State) (a cw : Nat) (x : Option CellSt) :
    (s.setCell a cw x).unreported = s.unreported := rfl

@[simp] theorem State.memLog_unreported (s : State) (a k b cw : Nat) : (s.memLog a k b cw).unreported = s.unreported := by
  simp only [State.memLog]
  rw [State.irq_unreported _ _ (by decide)]
  split <;> simp [State.add]

@[simp] theorem State.bucketAdd_unreported (s : State) (u : Nat) : (s.bucketAdd u).unreported = s.unreported := by
  have hirq (s : State) : (s.irq MEM_IRQ_STAT.BUCKET).unreported = s.unreported := s.irq_unreported _ (by decide)
  simp only [State.bucketAdd]
  split
  · simp
  · split
    · rw [hirq]; simp
    · rw [State.archiveEvent_unreported, State.mem_unreported, hirq]; simp

@[simp] theorem State.memCe_unreported (s : State) (a cw b : Nat) : (s.memCe a cw b).unreported = s.unreported := by
  simp only [State.memCe]
  split <;> split <;> simp

@[simp] theorem State.ueCount_unreported (s : State) (a cw f : Nat) : (s.ueCount a cw f).unreported = s.unreported := by
  simp only [State.ueCount]
  rw [State.irq_unreported _ _ (by decide)]
  split <;> simp [State.wr64]

@[simp] theorem State.domMismatch_unreported (s : State) : s.domMismatch.unreported = s.unreported := by
  rw [State.domMismatch, State.irq_unreported _ _ (by decide), State.wr_unreported]

@[simp] theorem State.ueArchive_unreported (s : State) (a cw : Nat) : (s.ueArchive a cw).unreported = s.unreported := by
  simp only [State.ueArchive]
  split
  · rfl
  · simp

@[simp] theorem State.memUe_unreported (s : State) (a cw f : Nat) : (s.memUe a cw f).unreported = s.unreported := by
  simp only [State.memUe, State.ueArchive_unreported]
  split <;> split <;> simp

theorem State.memUe_ses (s : State) (a cw f : Nat) : (s.memUe a cw f).ses = s.ses :=
  (State.eq_of_unreported (s.memUe_unreported a cw f)).1

@[simp] theorem State.memRead_unreported (s : State) (a cw f : Nat) : (s.memRead a cw f).2.unreported = s.unreported := by
  unfold State.memRead
  split
  · rfl
  · simp
  · simp
  · dsimp only
    split <;> simp

theorem memReadFrom_unreported (a : Nat) :
    ∀ (k cw last : Nat) (s : State), (memReadFrom a k cw last s).2.unreported = s.unreported
  | 0, _, _, _ => rfl
  | k + 1, cw, last, s => by
    simp only [memReadFrom]
    split
    · simp
    · simp [memReadFrom_unreported a k]

theorem State.memReadBytes_unreported (s : State) (a addr n : Nat) : (s.memReadBytes a addr n).2.unreported = s.unreported := by
  simp only [State.memReadBytes]
  split
  · split
    · rfl
    · simp
  · exact memReadFrom_unreported a _ _ _ _

theorem State.fetched_unreported (s : State) (c : Nat) : (s.fetched c).unreported = s.unreported :=
  s.memReadBytes_unreported _ _ _

theorem State.fetched_alm (s : State) (c : Nat) : (s.fetched c).alm = s.alm :=
  (State.eq_of_unreported (s.fetched_unreported c)).2

/-! ## Reads of a codeword, by what it holds (R485–R487) -/

section
variable {s : State} {a cw : Nat} (f : Nat)

theorem State.memRead_clean (h : s.cell a cw = none) : s.memRead a cw f = (false, s) := by
  simp only [State.memRead, h]

theorem State.memRead_correctable {b : Nat} (h : s.cell a cw = some (.ce b)) :
    s.memRead a cw f = (false, (s.memCe a cw b).setCell a cw none) := by
  simp only [State.memRead, h]

theorem State.memRead_uncorrectable (h : s.cell a cw = some .ue) :
    s.memRead a cw f = (true, (s.memUe a cw f).setCell a cw (some .poison)) := by
  simp only [State.memRead, h]

theorem State.memRead_poison (h : s.cell a cw = some .poison) :
    s.memRead a cw f = (true, if a ≠ arrDram ∧ arrPriv a then s.memLog a 2 0xFF cw else s) := by
  simp only [State.memRead, h]

end

theorem State.cell_setCell_none {s : State} (a cw : Nat) (hwf : SMap.wf s.mem.cells = true) :
    (s.setCell a cw none).cell a cw = none := SMap.find_del_self _ _ hwf

theorem State.cell_setCell_some (s : State) (a cw : Nat) (x : CellSt) : (s.setCell a cw (some x)).cell a cw = some x :=
  SMap.find_put_self _ _ _

theorem State.cell_memLog (s : State) (a k b cw a' cw' : Nat) : (s.memLog a k b cw).cell a' cw' = s.cell a' cw' := by
  simp [State.cell]

/-- A log entry leaves every register but the log's own and the interrupt status. -/
theorem State.rd_memLog_other (s : State) (a k b cw : Nat) {g : Fld} (hover : g.key 0 0 ≠ MEM_LOG_STAT.OVERWRITTEN.key 0 0)
    (hentries : g.key 0 0 ≠ MEM_LOG_STAT.ENTRIES.key 0 0) (hirq : g.key 0 0 ≠ MEM_IRQ_STAT.LOG.key 0 0) :
    (s.memLog a k b cw).rd g = s.rd g := by
  simp only [State.memLog]
  rw [State.rd_irq_other _ _ _ _ (by decide) hirq, State.rd_wr_other _ _ _ _ _ _ _ _ hentries]
  split
  · rw [State.add, State.rd_wr_other _ _ _ _ _ _ _ _ hover]
    rfl
  · rfl

/-- Settles O49: one clause for each state of a codeword. -/
theorem codewordErrorsAreMetOnce : Obligations.CodewordErrorsAreMetOnce := by
  unfold Obligations.CodewordErrorsAreMetOnce
  refine ⟨fun s a cw f => State.memRead_clean f, fun s a cw f b hcell hwf => ?_, fun s a cw f hcell => ?_,
    fun s a cw f hcell => ?_⟩
  · have hclean : ((s.memCe a cw b).setCell a cw none).cell a cw = none := State.cell_setCell_none a cw (by simpa using hwf)
    rw [State.memRead_correctable f hcell]
    exact ⟨rfl, hclean, State.memRead_clean f hclean⟩
  · rw [State.memRead_uncorrectable f hcell]
    exact ⟨rfl, State.cell_setCell_some _ _ _ _, State.memUe_ast _ _ _ _,
      State.memUe_ses _ _ _ _⟩
  · rw [State.memRead_poison f hcell]
    refine ⟨rfl, ?_, ?_, ?_⟩ <;> dsimp only <;> split
    · rwa [State.cell_memLog]
    · exact hcell
    · exact State.rd_memLog_other _ _ _ _ _ (by decide) (by decide) (by decide)
    · rfl
    · exact State.rd_memLog_other _ _ _ _ _ (by decide) (by decide) (by decide)
    · rfl

/-! ## Without supply -/

/-- The block in S4, and all else as at reset. -/
def unsupplied : State := { pwr := { off := true } }

/-- Straps of device 0 in a stack of its own. -/
def plainStraps : Straps := { master := true, dev := 0, pol := 0, testEn := false }

theorem unsupplied_railFault : ((unsupplied.deviceReset false 5 plainStraps).withQueue unsupplied.pending).pwr.off = false := by
  decide +kernel

/-- Refutes O30: while the block is in S4, the fall of VDD_AON (rail 5) below 0.72 V is a device reset all the same
(R668), and the supply stands again after it. -/
theorem not_noSupplyNoEffect : ¬ Obligations.NoSupplyNoEffect := by
  unfold Obligations.NoSupplyNoEffect
  intro h
  have hkeeps := h (.railFault 0 5 0 plainStraps) unsupplied rfl (by simp) (by simp) (by simp)
  change execRailFault 0 5 0 plainStraps unsupplied = _ at hkeeps
  rw [execRailFault, if_pos (by decide)] at hkeeps
  have hsame : (unsupplied.deviceReset false 5 plainStraps).withQueue unsupplied.pending = unsupplied := Host.Outcome.next.inj hkeeps
  have hoff := congrArg (fun s : State => s.pwr.off) hsame
  exact absurd (unsupplied_railFault.symm.trans hoff) (by decide)

end Sys2Proof.Machine
end

section
/-! PROOFS. Ports and coprocessors of a core (O19). -/

namespace Sys2Proof.Machine

open Safety

/-! ## IN and OUT -/

section
variable {c rd ra imm p : Nat} {abs : Bool} {s : State} (hlegal : (abs && ra % 16 != 0) = false)
  (hport : s.portNo c ra abs imm = p)
include hlegal hport

theorem opIn_answers (hrange : p ≤ 0xFFF) (hclean : (s.portIn c p).1 = false) :
    opIn c rd ra abs imm s = .done ((s.portIn c p).2.2.setGr c rd (s.portIn c p).2.1) := by
  simp only [opIn, hlegal, hport, hclean, Bool.false_eq_true, if_false, Nat.not_lt.2 hrange]

theorem opIn_ioaddr (hrange : 0xFFF < p) : opIn c rd ra abs imm s = .exc s exIoaddr 0 p := by
  simp only [opIn, hlegal, hport, Bool.false_eq_true, if_false, if_pos hrange]

theorem opOut_writes (hrange : p ≤ 0xFFF) : opOut c rd ra abs imm s = .done (s.portOut c p (s.gr c rd)) := by
  simp only [opOut, hlegal, hport, Bool.false_eq_true, if_false, Nat.not_lt.2 hrange]

theorem opOut_ioaddr (hrange : 0xFFF < p) : opOut c rd ra abs imm s = .exc s exIoaddr 0 p := by
  simp only [opOut, hlegal, hport, Bool.false_eq_true, if_false, if_pos hrange]

end

theorem State.portNo_abs (s : State) (c ra : Nat) {imm : Nat} (himm : imm < 2 ^ 12) : s.portNo c ra true imm = imm := by
  rw [State.portNo, if_pos rfl, Nat.mod_eq_of_lt himm]

theorem State.portNo_register (s : State) (c ra : Nat) {imm : Nat} (himm : imm < 2 ^ 12) :
    s.portNo c ra false imm = (s.gr c ra + imm) % 2 ^ 32 := by
  rw [State.portNo, if_neg Bool.false_ne_true, Nat.mod_eq_of_lt himm]

theorem State.portNo_register_small (s : State) {c ra imm : Nat} (hsum : s.gr c ra + imm ≤ 0xFFF) :
    s.portNo c ra false imm = s.gr c ra + imm := by
  rw [State.portNo_register s c ra (by omega), Nat.mod_eq_of_lt (by omega)]

section
variable {t c rd ra imm p : Nat} {abs : Bool} {s : State} (hon : Powered s) (hlegal : (abs && ra % 16 != 0) = false)
  (hport : ((s.adv t).fetched c).portNo c ra abs imm = p)
include hon hlegal hport

theorem inPort_answers (hrange : p ≤ 0xFFF) (hruns : Runs (s.adv t) c (encP 0x1C rd ra abs imm))
    (hclean : (((s.adv t).fetched c).portIn c p).1 = false) :
    Does (.inPort t c rd ra abs imm) s (((((s.adv t).fetched c).portIn c p).2.2.setGr c rd
      (((s.adv t).fetched c).portIn c p).2.1).coreAdvance c) :=
  coreRow_settles hon hruns (opIn_answers hlegal hport hrange hclean)

theorem inPort_ioaddr (hrange : 0xFFF < p) (hruns : Runs (s.adv t) c (encP 0x1C rd ra abs imm)) :
    Does (.inPort t c rd ra abs imm) s (((s.adv t).fetched c).coreExcept c exIoaddr 0 p) :=
  coreRow_settles hon hruns (opIn_ioaddr hlegal hport hrange)

theorem outPort_writes (hrange : p ≤ 0xFFF) (hruns : Runs (s.adv t) c (encP 0x1D rd ra abs imm)) :
    Does (.outPort t c rd ra abs imm) s ((((s.adv t).fetched c).portOut c p ((s.adv t).gr c rd)).coreAdvance c) := by
  rw [← State.gr_fetched (s.adv t) c c rd]
  exact coreRow_settles hon hruns (opOut_writes hlegal hport hrange)

theorem outPort_ioaddr (hrange : 0xFFF < p) (hruns : Runs (s.adv t) c (encP 0x1D rd ra abs imm)) :
    Does (.outPort t c rd ra abs imm) s (((s.adv t).fetched c).coreExcept c exIoaddr 0 p) :=
  coreRow_settles hon hruns (opOut_ioaddr hlegal hport hrange)

end

/-! ## WAIT, POLL and CANCEL -/

theorem cpOr_present {n : Nat} (op : State → CoreRes) (s : State) (h : n < 4) : cpOr n op s = op s := if_neg (by omega)

theorem cpOr_absent {n : Nat} (op : State → CoreRes) (s : State) (hlo : 4 ≤ n) (hhi : n < 8) :
    cpOr n op s = .exc s exCoproc n 0 := by
  rw [cpOr, Nat.mod_eq_of_lt hhi, if_pos hlo]

section
variable {t c cp w : Nat} {op : Nat → State → CoreRes} {s : State} (hon : Powered s) (hruns : Runs (s.adv t) c w)
include hon hruns

theorem cpRow_settles {r : CoreRes} (hcp : cp < 4) (hop : op cp ((s.adv t).fetched c) = r) :
    coreRow t c w false (cpOr cp (op (cp % 8))) s = .next ((r.settle c).withQueue s.pending) := by
  refine coreRow_settles hon hruns ?_
  rw [cpOr_present _ _ hcp, Nat.mod_eq_of_lt (by omega), hop]

theorem cpRow_absent (hlo : 4 ≤ cp) (hhi : cp < 8) :
    coreRow t c w false (cpOr cp (op (cp % 8))) s =
      .next ((((s.adv t).fetched c).coreExcept c exCoproc cp 0).withQueue s.pending) :=
  coreRow_settles hon hruns (cpOr_absent _ _ hlo hhi)

end

/-- What WAIT, POLL and CANCEL do of a tag that is not outstanding. -/
def State.cpRead (s : State) (c n rd tag : Nat) : CoreRes :=
  if ((s.core c).cp n).isLast tag then s.cpSeen c n rd else s.cpUnknown c rd tag

section
variable {s : State} {c n ra : Nat} (rd : Nat)

theorem opWait_outstanding (h : ((s.core c).cp n).isOut (s.gr c ra % 2 ^ 16) = true) : opWait c n rd ra s = .hold s := if_pos h

theorem opPoll_outstanding (h : ((s.core c).cp n).isOut (s.gr c ra % 2 ^ 16) = true) :
    opPoll c n rd ra s = s.putCp c rd (cpWord ccBusy 0 (s.gr c ra % 2 ^ 16)) := if_pos h

theorem opCpCancel_outstanding (h : ((s.core c).cp n).isOut (s.gr c ra % 2 ^ 16) = true) :
    opCpCancel c n rd ra s = ((((s.cpWithdraw c n).bump AST_CNT_CP_CANCEL.COUNT).updCp c n
      (fun x => { x with last := some (cpWord ccCancelled 0 (s.gr c ra % 2 ^ 16)), unread := false }))).putCp c rd
        (cpWord ccCancelled 0 (s.gr c ra % 2 ^ 16)) := if_pos h

variable (hout : ((s.core c).cp n).isOut (s.gr c ra % 2 ^ 16) = false)
include hout

theorem opWait_reads : opWait c n rd ra s = s.cpRead c n rd (s.gr c ra % 2 ^ 16) := if_neg (ne_true_of_eq_false hout)

theorem opPoll_reads : opPoll c n rd ra s = s.cpRead c n rd (s.gr c ra % 2 ^ 16) := if_neg (ne_true_of_eq_false hout)

theorem opCpCancel_reads : opCpCancel c n rd ra s = s.cpRead c n rd (s.gr c ra % 2 ^ 16) := if_neg (ne_true_of_eq_false hout)

end

section
variable {t c cp w rd ra : Nat} {op : Nat → State → CoreRes} {s : State} (hon : Powered s) (hcp : cp < 4)
  (hruns : Runs (s.adv t) c w) (hout : (((s.adv t).core c).cp cp).isOut ((s.adv t).gr c ra % 2 ^ 16) = false)
  (hop : ∀ u : State, ((u.core c).cp cp).isOut (u.gr c ra % 2 ^ 16) = false →
    op cp u = u.cpRead c cp rd (u.gr c ra % 2 ^ 16))
include hon hcp hruns hout hop

/-- A tag that is the last one completed gives its word, and the word counts as read. -/
theorem cpRow_seen (hlast : (((s.adv t).core c).cp cp).isLast ((s.adv t).gr c ra % 2 ^ 16) = true) :
    coreRow t c w false (cpOr cp (op (cp % 8))) s =
      .next (((((s.adv t).fetched c).updCp c cp (fun x => { x with unread := false })).answered c rd
        ((((s.adv t).core c).cp cp).last.getD 0)).withQueue s.pending) := by
  have hread : op cp ((s.adv t).fetched c) = ((s.adv t).fetched c).cpSeen c cp rd := by
    rw [hop _ (by rwa [State.core_fetched, State.gr_fetched]), State.cpRead, if_pos]
    rwa [State.core_fetched, State.gr_fetched]
  rw [cpRow_settles hon hruns hcp hread, State.cpSeen, State.core_fetched]
  rfl

theorem cpRow_unknown (hlast : (((s.adv t).core c).cp cp).isLast ((s.adv t).gr c ra % 2 ^ 16) = false) :
    coreRow t c w false (cpOr cp (op (cp % 8))) s =
      .next ((((s.adv t).fetched c).answered c rd (cpWord ccDenied 0xFF ((s.adv t).gr c ra % 2 ^ 16))).withQueue s.pending) := by
  have hread : op cp ((s.adv t).fetched c) = ((s.adv t).fetched c).cpUnknown c rd ((s.adv t).gr c ra % 2 ^ 16) := by
    rw [hop _ (by rwa [State.core_fetched, State.gr_fetched]), State.gr_fetched, State.cpRead, if_neg]
    rw [State.core_fetched, hlast]
    exact Bool.false_ne_true
  rw [cpRow_settles hon hruns hcp hread]
  rfl

end

section
variable {t c cp rd ra : Nat} {s : State} (hon : Powered s) (hcp : cp < 4)
  (hout : (((s.adv t).core c).cp cp).isOut ((s.adv t).gr c ra % 2 ^ 16) = true)
include hon hcp hout

theorem wait_stalls (hruns : Runs (s.adv t) c (encC cp rd ra 0 0)) : Does (.wait t c cp rd ra) s ((s.adv t).fetched c) :=
  cpRow_settles (op := fun n => opWait c n rd ra) hon hruns hcp
    (opWait_outstanding rd (by rwa [State.core_fetched, State.gr_fetched]))

theorem poll_busy (hruns : Runs (s.adv t) c (encC cp rd ra 0 1)) :
    Does (.poll t c cp rd ra) s
      (((s.adv t).fetched c).answered c rd (cpWord ccBusy 0 ((s.adv t).gr c ra % 2 ^ 16))) := by
  rw [← State.gr_fetched (s.adv t) c c ra]
  exact cpRow_settles (op := fun n => opPoll c n rd ra) hon hruns hcp
    (opPoll_outstanding rd (by rwa [State.core_fetched, State.gr_fetched]))

theorem cpCancel_withdraws (hruns : Runs (s.adv t) c (encC cp rd ra 0 2)) :
    Does (.cpCancel t c cp rd ra) s ((((((s.adv t).fetched c).cpWithdraw c cp).bump AST_CNT_CP_CANCEL.COUNT).updCp c cp
      (fun x => { x with last := some (cpWord ccCancelled 0 ((s.adv t).gr c ra % 2 ^ 16)), unread := false })).answered c rd
        (cpWord ccCancelled 0 ((s.adv t).gr c ra % 2 ^ 16))) := by
  rw [← State.gr_fetched (s.adv t) c c ra]
  exact cpRow_settles (op := fun n => opCpCancel c n rd ra) hon hruns hcp
    (opCpCancel_outstanding rd (by rwa [State.core_fetched, State.gr_fetched]))

end

/-! ### Of a tag that is not outstanding -/

section
variable {t c cp rd ra : Nat} {s : State} (hon : Powered s) (hcp : cp < 4)
  (hout : (((s.adv t).core c).cp cp).isOut ((s.adv t).gr c ra % 2 ^ 16) = false)
include hon hcp hout

theorem wait_seen (hruns : Runs (s.adv t) c (encC cp rd ra 0 0))
    (hlast : (((s.adv t).core c).cp cp).isLast ((s.adv t).gr c ra % 2 ^ 16) = true) :
    Does (.wait t c cp rd ra) s ((((s.adv t).fetched c).updCp c cp (fun x => { x with unread := false })).answered c rd
      ((((s.adv t).core c).cp cp).last.getD 0)) :=
  cpRow_seen (op := fun n => opWait c n rd ra) hon hcp hruns hout (fun _ => opWait_reads rd) hlast

theorem wait_unknown (hruns : Runs (s.adv t) c (encC cp rd ra 0 0))
    (hlast : (((s.adv t).core c).cp cp).isLast ((s.adv t).gr c ra % 2 ^ 16) = false) :
    Does (.wait t c cp rd ra) s
      (((s.adv t).fetched c).answered c rd (cpWord ccDenied 0xFF ((s.adv t).gr c ra % 2 ^ 16))) :=
  cpRow_unknown (op := fun n => opWait c n rd ra) hon hcp hruns hout (fun _ => opWait_reads rd) hlast

theorem poll_seen (hruns : Runs (s.adv t) c (encC cp rd ra 0 1))
    (hlast : (((s.adv t).core c).cp cp).isLast ((s.adv t).gr c ra % 2 ^ 16) = true) :
    Does (.poll t c cp rd ra) s ((((s.adv t).fetched c).updCp c cp (fun x => { x with unread := false })).answered c rd
      ((((s.adv t).core c).cp cp).last.getD 0)) :=
  cpRow_seen (op := fun n => opPoll c n rd ra) hon hcp hruns hout (fun _ => opPoll_reads rd) hlast

theorem poll_unknown (hruns : Runs (s.adv t) c (encC cp rd ra 0 1))
    (hlast : (((s.adv t).core c).cp cp).isLast ((s.adv t).gr c ra % 2 ^ 16) = false) :
    Does (.poll t c cp rd ra) s
      (((s.adv t).fetched c).answered c rd (cpWord ccDenied 0xFF ((s.adv t).gr c ra % 2 ^ 16))) :=
  cpRow_unknown (op := fun n => opPoll c n rd ra) hon hcp hruns hout (fun _ => opPoll_reads rd) hlast

theorem cpCancel_seen (hruns : Runs (s.adv t) c (encC cp rd ra 0 2))
    (hlast : (((s.adv t).core c).cp cp).isLast ((s.adv t).gr c ra % 2 ^ 16) = true) :
    Does (.cpCancel t c cp rd ra) s ((((s.adv t).fetched c).updCp c cp (fun x => { x with unread := false })).answered c rd
      ((((s.adv t).core c).cp cp).last.getD 0)) :=
  cpRow_seen (op := fun n => opCpCancel c n rd ra) hon hcp hruns hout (fun _ => opCpCancel_reads rd) hlast

theorem cpCancel_unknown (hruns : Runs (s.adv t) c (encC cp rd ra 0 2))
    (hlast : (((s.adv t).core c).cp cp).isLast ((s.adv t).gr c ra % 2 ^ 16) = false) :
    Does (.cpCancel t c cp rd ra) s
      (((s.adv t).fetched c).answered c rd (cpWord ccDenied 0xFF ((s.adv t).gr c ra % 2 ^ 16))) :=
  cpRow_unknown (op := fun n => opCpCancel c n rd ra) hon hcp hruns hout (fun _ => opCpCancel_reads rd) hlast

end

section
variable {t c cp rd ra : Nat} {s : State} (hon : Powered s) (hlo : 4 ≤ cp) (hhi : cp < 8)
include hon hlo hhi

theorem wait_absent (hruns : Runs (s.adv t) c (encC cp rd ra 0 0)) :
    Does (.wait t c cp rd ra) s (((s.adv t).fetched c).coreExcept c exCoproc cp 0) :=
  cpRow_absent (op := fun n => opWait c n rd ra) hon hruns hlo hhi

theorem poll_absent (hruns : Runs (s.adv t) c (encC cp rd ra 0 1)) :
    Does (.poll t c cp rd ra) s (((s.adv t).fetched c).coreExcept c exCoproc cp 0) :=
  cpRow_absent (op := fun n => opPoll c n rd ra) hon hruns hlo hhi

theorem cpCancel_absent (hruns : Runs (s.adv t) c (encC cp rd ra 0 2)) :
    Does (.cpCancel t c cp rd ra) s (((s.adv t).fetched c).coreExcept c exCoproc cp 0) :=
  cpRow_absent (op := fun n => opCpCancel c n rd ra) hon hruns hlo hhi

end

/-! ## Issues -/

/-- A block at an address that R451 accepts: none, or whole words in data memory. -/
abbrev blockGood (p len : Nat) : Prop := len = 0 ∨ (p % 4 = 0 ∧ dataRange p len = true)

theorem blockGood_iff (p len : Nat) : blockGood p len ↔ (len != 0 && (p % 4 != 0 || !dataRange p len)) = false := by
  by_cases hlen : len = 0 <;> by_cases halign : p % 4 = 0 <;> simp [blockGood, hlen, halign]

section
variable {s : State} {c n rd func ra rb blen rlen : Nat} {full : Bool} {bad : List Byte → Bool}
  {start : List Byte → Nat → State → State}

theorem State.cpIssue_busy (h : ((s.core c).cp n).out.isSome = true) :
    s.cpIssue c n rd func ra rb blen rlen full bad start =
      (s.bump AST_CNT_CP_BUSY.COUNT).putCp c rd (cpWord ccBusy 0 0) := if_pos (Or.inl h)

theorem State.cpIssue_accepts (hfree : ((s.core c).cp n).out = none) (hroom : full = false)
    (hblock : blockGood (s.gr c ra) blen) (hresult : s.gr c rb = 0 ∨ blockGood (s.gr c rb) rlen)
    (hclean : (s.dataRead c (s.gr c ra) blen).1 = false) (hgood : bad ((s.core c).bytesAt (s.gr c ra) blen) = false) :
    s.cpIssue c n rd func ra rb blen rlen full bad start =
      (start ((s.core c).bytesAt (s.gr c ra) blen) (((s.core c).cp n).nextTag n)
        ((s.dataRead c (s.gr c ra) blen).2.cpAccept c n func ((s.core c).bytesAt (s.gr c ra) blen) (s.gr c rb))).putCp c rd
          (cpWord ccOk 0 (((s.core c).cp n).nextTag n)) := by
  have hres : ¬(s.gr c rb ≠ 0 ∧ (rlen != 0 && (s.gr c rb % 4 != 0 || !dataRange (s.gr c rb) rlen)) = true) := by
    rintro ⟨hne, hbad⟩
    rw [(blockGood_iff _ _).1 (hresult.resolve_left hne)] at hbad
    exact Bool.false_ne_true hbad
  simp only [State.cpIssue, hfree, hroom, (blockGood_iff _ _).1 hblock, hclean, hgood, Option.isSome_none, Bool.false_eq_true,
    or_self, if_false, if_neg hres]

end

section
variable {t c n rd func ra rb blen rlen w : Nat} {full : Bool} {bad : List Byte → Bool} {op : State → CoreRes}
  {start : List Byte → Nat → State → State} {s : State} (hon : Powered s) (hruns : Runs (s.adv t) c w)
  (hop : op ((s.adv t).fetched c) = ((s.adv t).fetched c).cpIssue c n rd func ra rb blen rlen full bad start)
include hon hruns hop

theorem issue_busy (hout : (((s.adv t).core c).cp n).out.isSome = true) :
    coreRow t c w false op s =
      .next (((((s.adv t).fetched c).bump AST_CNT_CP_BUSY.COUNT).answered c rd (cpWord ccBusy 0 0)).withQueue s.pending) :=
  coreRow_settles hon hruns (hop.trans (State.cpIssue_busy (by rwa [State.core_fetched])))

/-- The request block and tag are those of the state before the fetch: a fetch writes no register. -/
theorem issue_accepts (hfree : (((s.adv t).core c).cp n).out = none) (hroom : full = false)
    (hblock : blockGood ((s.adv t).gr c ra) blen) (hresult : (s.adv t).gr c rb = 0 ∨ blockGood ((s.adv t).gr c rb) rlen)
    (hclean : (((s.adv t).fetched c).dataRead c ((s.adv t).gr c ra) blen).1 = false)
    (hgood : bad (((s.adv t).core c).bytesAt ((s.adv t).gr c ra) blen) = false) :
    coreRow t c w false op s =
      .next (((start (((s.adv t).core c).bytesAt ((s.adv t).gr c ra) blen) ((((s.adv t).core c).cp n).nextTag n)
        ((((s.adv t).fetched c).dataRead c ((s.adv t).gr c ra) blen).2.cpAccept c n func
          (((s.adv t).core c).bytesAt ((s.adv t).gr c ra) blen) ((s.adv t).gr c rb))).answered c rd
            (cpWord ccOk 0 ((((s.adv t).core c).cp n).nextTag n))).withQueue s.pending) := by
  have hres := hop.trans (State.cpIssue_accepts (by rwa [State.core_fetched]) hroom (by rwa [State.gr_fetched])
    (by rwa [State.gr_fetched]) (by rwa [State.gr_fetched]) (by rwa [State.core_fetched, State.gr_fetched]))
  simp only [State.core_fetched, State.gr_fetched] at hres
  exact coreRow_settles hon hruns hres

end

/-! ## The six issues -/

theorem opDataTx_issues (c rd ra rb : Nat) (s : State) : opDataTx c rd ra rb s =
    s.cpIssue c 0 rd 0x0100 ra rb 132 0 false
      (fun b => s.cp0Bad c b || leAt b 1 1 == 0 || decide (127 < leAt b 1 1) || leAt b 2 2 != 0 || s.gr c rb != 0)
      (fun b _ s => s.cp0Take (leAt b 0 1)) := rfl

theorem opSolve_issues (c rd ra rb : Nat) (s : State) : opSolve c rd ra rb s =
    s.cpIssue c 2 rd 0x0100 ra rb
      (8 + 16 * min (if dataRange (s.gr c ra) 1 then (s.core c).load (s.gr c ra) 1 else 0) 128) 64
      (decide (8 ≤ s.alm.cp2.length)) cp2Bad (fun b tag s => s.cp2Start c b tag) := rfl

theorem opGet_issues (c rd ra rb : Nat) (s : State) : opGet c rd ra rb s =
    s.cpIssue c 3 rd 0x0100 ra rb 4
      (min (if dataRange (s.gr c ra) 2 then (s.core c).load (s.gr c ra) 1 + (s.core c).load (s.gr c ra + 1) 1 * 256 else 0)
        256) false cp3Bad (fun _ _ s => s.cp3Try c) := rfl

theorem opDataRx_issues (c rd ra rb : Nat) (s : State) : opDataRx c rd ra rb s =
    s.cpIssue c 0 rd 0x0101 ra rb 4 144 false (fun b => s.cp0Bad c b || leAt b 1 1 != 0 || leAt b 2 2 == 0)
      (fun b _ s => s.cp0Take (leAt b 0 1)) := rfl

section
variable {t c rd ra rb : Nat} {s : State} (hon : Powered s)
include hon

theorem dataTx_busy (hruns : Runs (s.adv t) c (encC 0 rd ra rb 0x0100)) (hout : (((s.adv t).core c).cp 0).out.isSome = true) :
    Does (.dataTx t c rd ra rb 0x0100) s
      ((((s.adv t).fetched c).bump AST_CNT_CP_BUSY.COUNT).answered c rd (cpWord ccBusy 0 0)) :=
  issue_busy (op := opDataTx c rd ra rb) hon hruns (opDataTx_issues ..) hout

theorem dataRx_busy (hruns : Runs (s.adv t) c (encC 0 rd ra rb 0x0101)) (hout : (((s.adv t).core c).cp 0).out.isSome = true) :
    Does (.dataRx t c rd ra rb) s
      ((((s.adv t).fetched c).bump AST_CNT_CP_BUSY.COUNT).answered c rd (cpWord ccBusy 0 0)) :=
  issue_busy (op := opDataRx c rd ra rb) hon hruns (opDataRx_issues ..) hout

theorem compute_busy (hruns : Runs (s.adv t) c (encC 1 rd ra rb 0x0100)) (hout : (((s.adv t).core c).cp 1).out.isSome = true) :
    Does (.compute t c rd ra rb 0x0100) s
      ((((s.adv t).fetched c).bump AST_CNT_CP_BUSY.COUNT).answered c rd (cpWord ccBusy 0 0)) :=
  issue_busy (op := opCompute c rd ra rb) hon hruns rfl hout

theorem verify_busy (hruns : Runs (s.adv t) c (encC 1 rd ra rb 0x0101)) (hout : (((s.adv t).core c).cp 1).out.isSome = true) :
    Does (.verify t c rd ra rb) s
      ((((s.adv t).fetched c).bump AST_CNT_CP_BUSY.COUNT).answered c rd (cpWord ccBusy 0 0)) :=
  issue_busy (op := opVerify c rd ra rb) hon hruns rfl hout

theorem solve_busy (hruns : Runs (s.adv t) c (encC 2 rd ra rb 0x0100)) (hout : (((s.adv t).core c).cp 2).out.isSome = true) :
    Does (.solve t c rd ra rb 0x0100) s
      ((((s.adv t).fetched c).bump AST_CNT_CP_BUSY.COUNT).answered c rd (cpWord ccBusy 0 0)) :=
  issue_busy (op := opSolve c rd ra rb) hon hruns (opSolve_issues ..) hout

theorem get_busy (hruns : Runs (s.adv t) c (encC 3 rd ra rb 0x0100)) (hout : (((s.adv t).core c).cp 3).out.isSome = true) :
    Does (.get t c rd ra rb 0x0100) s
      ((((s.adv t).fetched c).bump AST_CNT_CP_BUSY.COUNT).answered c rd (cpWord ccBusy 0 0)) :=
  issue_busy (op := opGet c rd ra rb) hon hruns (opGet_issues ..) hout

theorem dataTx_accepts (hruns : Runs (s.adv t) c (encC 0 rd ra rb 0x0100)) (hfree : (((s.adv t).core c).cp 0).out = none)
    (halign : (s.adv t).gr c ra % 4 = 0) (hrange : dataRange ((s.adv t).gr c ra) 132 = true)
    (hclean : (((s.adv t).fetched c).dataRead c ((s.adv t).gr c ra) 132).1 = false)
    (hgood : (((s.adv t).fetched c).cp0Bad c (((s.adv t).core c).bytesAt ((s.adv t).gr c ra) 132) ||
      leAt (((s.adv t).core c).bytesAt ((s.adv t).gr c ra) 132) 1 1 == 0 ||
      decide (127 < leAt (((s.adv t).core c).bytesAt ((s.adv t).gr c ra) 132) 1 1) ||
      leAt (((s.adv t).core c).bytesAt ((s.adv t).gr c ra) 132) 2 2 != 0 || (s.adv t).gr c rb != 0) = false) :
    Does (.dataTx t c rd ra rb 0x0100) s ((((((s.adv t).fetched c).dataRead c ((s.adv t).gr c ra) 132).2.cpAccept c 0 0x0100
      (((s.adv t).core c).bytesAt ((s.adv t).gr c ra) 132) ((s.adv t).gr c rb)).cp0Take
        (leAt (((s.adv t).core c).bytesAt ((s.adv t).gr c ra) 132) 0 1)).answered c rd
          (cpWord ccOk 0 ((((s.adv t).core c).cp 0).nextTag 0))) := by
  rw [← State.gr_fetched (s.adv t) c c rb] at hgood
  have hrow := issue_accepts (op := opDataTx c rd ra rb) hon hruns (opDataTx_issues ..) hfree rfl (.inr ⟨halign, hrange⟩) (.inr (.inl rfl)) hclean hgood
  exact hrow

theorem dataRx_accepts (hruns : Runs (s.adv t) c (encC 0 rd ra rb 0x0101)) (hfree : (((s.adv t).core c).cp 0).out = none)
    (halign : (s.adv t).gr c ra % 4 = 0) (hrange : dataRange ((s.adv t).gr c ra) 4 = true)
    (hresult : (s.adv t).gr c rb = 0 ∨ ((s.adv t).gr c rb % 4 = 0 ∧ dataRange ((s.adv t).gr c rb) 144 = true))
    (hclean : (((s.adv t).fetched c).dataRead c ((s.adv t).gr c ra) 4).1 = false)
    (hgood : (((s.adv t).fetched c).cp0Bad c (((s.adv t).core c).bytesAt ((s.adv t).gr c ra) 4) ||
      leAt (((s.adv t).core c).bytesAt ((s.adv t).gr c ra) 4) 1 1 != 0 ||
      leAt (((s.adv t).core c).bytesAt ((s.adv t).gr c ra) 4) 2 2 == 0) = false) :
    Does (.dataRx t c rd ra rb) s ((((((s.adv t).fetched c).dataRead c ((s.adv t).gr c ra) 4).2.cpAccept c 0 0x0101
      (((s.adv t).core c).bytesAt ((s.adv t).gr c ra) 4) ((s.adv t).gr c rb)).cp0Take
        (leAt (((s.adv t).core c).bytesAt ((s.adv t).gr c ra) 4) 0 1)).answered c rd
          (cpWord ccOk 0 ((((s.adv t).core c).cp 0).nextTag 0))) := by
  have hrow := issue_accepts (op := opDataRx c rd ra rb) hon hruns (opDataRx_issues ..) hfree rfl (.inr ⟨halign, hrange⟩) (hresult.imp_right .inr) hclean hgood
  exact hrow

theorem compute_accepts (hruns : Runs (s.adv t) c (encC 1 rd ra rb 0x0100)) (hfree : (((s.adv t).core c).cp 1).out = none)
    (halign : (s.adv t).gr c ra % 4 = 0) (hrange : dataRange ((s.adv t).gr c ra) 32 = true)
    (hresult : (s.adv t).gr c rb = 0 ∨ ((s.adv t).gr c rb % 4 = 0 ∧ dataRange ((s.adv t).gr c rb) 16 = true))
    (hclean : (((s.adv t).fetched c).dataRead c ((s.adv t).gr c ra) 32).1 = false)
    (hgood : cp1Bad false (((s.adv t).core c).bytesAt ((s.adv t).gr c ra) 32) = false) :
    Does (.compute t c rd ra rb 0x0100) s ((((((s.adv t).fetched c).dataRead c ((s.adv t).gr c ra) 32).2.cpAccept c 1 0x0100
      (((s.adv t).core c).bytesAt ((s.adv t).gr c ra) 32) ((s.adv t).gr c rb)).cp1Start c false
        (((s.adv t).core c).bytesAt ((s.adv t).gr c ra) 32) ((((s.adv t).core c).cp 1).nextTag 1)).answered c rd
          (cpWord ccOk 0 ((((s.adv t).core c).cp 1).nextTag 1))) := by
  have hrow := issue_accepts (op := opCompute c rd ra rb) hon hruns rfl hfree rfl (.inr ⟨halign, hrange⟩) (hresult.imp_right .inr) hclean hgood
  exact hrow

theorem verify_accepts (hruns : Runs (s.adv t) c (encC 1 rd ra rb 0x0101)) (hfree : (((s.adv t).core c).cp 1).out = none)
    (halign : (s.adv t).gr c ra % 4 = 0) (hrange : dataRange ((s.adv t).gr c ra) 32 = true)
    (hclean : (((s.adv t).fetched c).dataRead c ((s.adv t).gr c ra) 32).1 = false)
    (hgood : cp1Bad true (((s.adv t).core c).bytesAt ((s.adv t).gr c ra) 32) = false) :
    Does (.verify t c rd ra rb) s ((((((s.adv t).fetched c).dataRead c ((s.adv t).gr c ra) 32).2.cpAccept c 1 0x0101
      (((s.adv t).core c).bytesAt ((s.adv t).gr c ra) 32) ((s.adv t).gr c rb)).cp1Start c true
        (((s.adv t).core c).bytesAt ((s.adv t).gr c ra) 32) ((((s.adv t).core c).cp 1).nextTag 1)).answered c rd
          (cpWord ccOk 0 ((((s.adv t).core c).cp 1).nextTag 1))) := by
  have hrow := issue_accepts (op := opVerify c rd ra rb) hon hruns rfl hfree rfl (.inr ⟨halign, hrange⟩) (.inr (.inl rfl)) hclean hgood
  exact hrow

end

/-- The block of a SOLVE that lies in data memory is as long as its first byte says. -/
theorem opSolve_length {t c rd ra rb : Nat} {s : State} (hroom : (s.adv t).alm.cp2.length < 8)
    (hrange : dataRange ((s.adv t).gr c ra) (8 + 16 * min (((s.adv t).core c).load ((s.adv t).gr c ra) 1) 128) = true) :
    opSolve c rd ra rb ((s.adv t).fetched c) = ((s.adv t).fetched c).cpIssue c 2 rd 0x0100 ra rb
      (8 + 16 * min (((s.adv t).core c).load ((s.adv t).gr c ra) 1) 128) 64 false cp2Bad (fun b tag s => s.cp2Start c b tag) := by
  have hfirst : dataRange ((s.adv t).gr c ra) 1 = true := by
    simp only [dataRange, decide_eq_true_eq] at hrange ⊢
    omega
  have hfull : decide (8 ≤ ((s.adv t).fetched c).alm.cp2.length) = false := by
    rw [State.fetched_alm]
    exact decide_eq_false (by omega)
  simp only [opSolve_issues, State.core_fetched, State.gr_fetched, hfirst, if_true, hfull]

/-- The block of a GET that lies in data memory gives the length of its result area. -/
theorem opGet_length {t c rd ra rb : Nat} {s : State} (hrange : dataRange ((s.adv t).gr c ra) 4 = true) :
    opGet c rd ra rb ((s.adv t).fetched c) = ((s.adv t).fetched c).cpIssue c 3 rd 0x0100 ra rb 4
      (min (((s.adv t).core c).load ((s.adv t).gr c ra) 1 + ((s.adv t).core c).load ((s.adv t).gr c ra + 1) 1 * 256) 256)
        false cp3Bad (fun _ _ s => s.cp3Try c) := by
  have hfirst : dataRange ((s.adv t).gr c ra) 2 = true := by
    simp only [dataRange, decide_eq_true_eq] at hrange ⊢
    omega
  simp only [opGet_issues, State.core_fetched, State.gr_fetched, hfirst, if_true]

section
variable {t c rd ra rb : Nat} {s : State} (hon : Powered s)
include hon

theorem solve_accepts {n : Nat} (hn : 8 + 16 * min (((s.adv t).core c).load ((s.adv t).gr c ra) 1) 128 = n)
    (hruns : Runs (s.adv t) c (encC 2 rd ra rb 0x0100)) (hfree : (((s.adv t).core c).cp 2).out = none)
    (hroom : (s.adv t).alm.cp2.length < 8) (halign : (s.adv t).gr c ra % 4 = 0)
    (hrange : dataRange ((s.adv t).gr c ra) n = true)
    (hresult : (s.adv t).gr c rb = 0 ∨ ((s.adv t).gr c rb % 4 = 0 ∧ dataRange ((s.adv t).gr c rb) 64 = true))
    (hclean : (((s.adv t).fetched c).dataRead c ((s.adv t).gr c ra) n).1 = false)
    (hgood : cp2Bad (((s.adv t).core c).bytesAt ((s.adv t).gr c ra) n) = false) :
    Does (.solve t c rd ra rb 0x0100) s ((((((s.adv t).fetched c).dataRead c ((s.adv t).gr c ra) n).2.cpAccept c 2 0x0100
      (((s.adv t).core c).bytesAt ((s.adv t).gr c ra) n) ((s.adv t).gr c rb)).cp2Start c
        (((s.adv t).core c).bytesAt ((s.adv t).gr c ra) n) ((((s.adv t).core c).cp 2).nextTag 2)).answered c rd
          (cpWord ccOk 0 ((((s.adv t).core c).cp 2).nextTag 2))) := by
  subst hn
  have hrow := issue_accepts (op := opSolve c rd ra rb) hon hruns (opSolve_length hroom hrange) hfree rfl (.inr ⟨halign, hrange⟩)
    (hresult.imp_right .inr) hclean hgood
  exact hrow

theorem get_accepts (hruns : Runs (s.adv t) c (encC 3 rd ra rb 0x0100)) (hfree : (((s.adv t).core c).cp 3).out = none)
    (halign : (s.adv t).gr c ra % 4 = 0) (hrange : dataRange ((s.adv t).gr c ra) 4 = true)
    (hresult : (s.adv t).gr c rb = 0 ∨ ((s.adv t).gr c rb % 4 = 0 ∧ dataRange ((s.adv t).gr c rb)
      (min (((s.adv t).core c).load ((s.adv t).gr c ra) 1 + ((s.adv t).core c).load ((s.adv t).gr c ra + 1) 1 * 256) 256) =
        true))
    (hclean : (((s.adv t).fetched c).dataRead c ((s.adv t).gr c ra) 4).1 = false)
    (hgood : cp3Bad (((s.adv t).core c).bytesAt ((s.adv t).gr c ra) 4) = false) :
    Does (.get t c rd ra rb 0x0100) s ((((((s.adv t).fetched c).dataRead c ((s.adv t).gr c ra) 4).2.cpAccept c 3 0x0100
      (((s.adv t).core c).bytesAt ((s.adv t).gr c ra) 4) ((s.adv t).gr c rb)).cp3Try c).answered c rd
        (cpWord ccOk 0 ((((s.adv t).core c).cp 3).nextTag 3))) := by
  have hrow := issue_accepts (op := opGet c rd ra rb) hon hruns (opGet_length hrange) hfree rfl (.inr ⟨halign, hrange⟩)
    (hresult.imp_right .inr) hclean hgood
  exact hrow

end

/-- A completion that stands at its unit becomes visible. -/
theorem cpCompletion_shows {t c cp code detail : Nat} {q : CpReq} {data : List (BitVec 8)} {d : Nat × Nat × List Byte}
    {s : State} (hon : Powered s) (hc : c < 16) (hcp : cp < 4) (hout : (((s.adv t).core c).cp cp).out = some q)
    (hdone : (((s.adv t).core c).cp cp).done = some d) :
    Does (.cpCompletion t c cp code detail data) s ((s.adv t).cpShow c cp q d.1 d.2.1 d.2.2) := by
  change execCpCompletion t c cp code detail data s = _
  unfold execCpCompletion
  refine happen_eq hon ?_
  have hthere : ¬(16 ≤ c ∨ 4 ≤ cp) := by omega
  have hready : ¬(cp = 3 ∧ (((s.adv t).core c).cp 3).done.isNone = true) := by
    rintro ⟨rfl, hnone⟩
    rw [hdone] at hnone
    exact Bool.false_ne_true hnone
  simp only [if_neg hthere, if_neg hready, hout, hdone]

/-- Settles O19: IN and OUT by their port, WAIT, POLL and CANCEL by their tag, and each issue by what stands outstanding. -/
theorem portAndCoprocessorInstructionsTakeEffect : Obligations.PortAndCoprocessorInstructionsTakeEffect := by
  unfold Obligations.PortAndCoprocessorInstructionsTakeEffect
  have habs {t c imm : Nat} {s : State} (himm : imm < 2 ^ 12) : ((s.adv t).fetched c).portNo c 0 true imm = imm :=
    State.portNo_abs _ _ _ himm
  have hreg {t c ra imm : Nat} {s : State} (himm : imm < 2 ^ 12) :
      ((s.adv t).fetched c).portNo c ra false imm = ((s.adv t).gr c ra + imm) % 2 ^ 32 := by
    rw [State.portNo_register _ _ _ himm, State.gr_fetched]
  have hsmall {t c ra imm : Nat} {s : State} (hsum : (s.adv t).gr c ra + imm ≤ 0xFFF) :
      ((s.adv t).fetched c).portNo c ra false imm = (s.adv t).gr c ra + imm := by
    rw [State.portNo_register_small _ (by rwa [State.gr_fetched]), State.gr_fetched]
  exact ⟨fun _ _ _ _ _ hon himm hruns hclean => inPort_answers hon rfl (habs himm) (by omega) hruns hclean,
    fun _ _ _ _ _ hon himm hruns => outPort_writes hon rfl (habs himm) (by omega) hruns,
    fun _ _ _ _ _ _ hon hsum hruns hclean => inPort_answers hon rfl (hsmall hsum) hsum hruns hclean,
    fun _ _ _ _ _ _ hon hsum hruns => outPort_writes hon rfl (hsmall hsum) hsum hruns,
    fun _ _ _ _ _ _ hon himm hrange hruns => inPort_ioaddr hon rfl (hreg himm) hrange hruns,
    fun _ _ _ _ _ _ hon himm hrange hruns => outPort_ioaddr hon rfl (hreg himm) hrange hruns,
    fun _ _ _ _ _ _ hon hcp hruns hout => wait_stalls hon hcp hout hruns,
    fun _ _ _ _ _ _ hon hcp hruns hout => wait_seen hon hcp hout hruns,
    fun _ _ _ _ _ _ hon hcp hruns hout => wait_unknown hon hcp hout hruns,
    fun _ _ _ _ _ _ => wait_absent,
    fun _ _ _ _ _ _ hon hcp hruns hout => poll_busy hon hcp hout hruns,
    fun _ _ _ _ _ _ hon hcp hruns hout => poll_seen hon hcp hout hruns,
    fun _ _ _ _ _ _ hon hcp hruns hout => poll_unknown hon hcp hout hruns,
    fun _ _ _ _ _ _ => poll_absent,
    fun _ _ _ _ _ _ hon hcp hruns hout => cpCancel_withdraws hon hcp hout hruns,
    fun _ _ _ _ _ _ hon hcp hruns hout => cpCancel_seen hon hcp hout hruns,
    fun _ _ _ _ _ _ hon hcp hruns hout => cpCancel_unknown hon hcp hout hruns,
    fun _ _ _ _ _ _ => cpCancel_absent, fun _ _ _ _ _ _ => dataTx_accepts, fun _ _ _ _ _ _ => dataTx_busy,
    fun _ _ _ _ _ _ => dataRx_accepts, fun _ _ _ _ _ _ => dataRx_busy, fun _ _ _ _ _ _ => compute_accepts,
    fun _ _ _ _ _ _ => compute_busy, fun _ _ _ _ _ _ => verify_accepts, fun _ _ _ _ _ _ => verify_busy,
    fun _ _ _ _ _ _ hon => solve_accepts hon rfl, fun _ _ _ _ _ _ => solve_busy, fun _ _ _ _ _ _ => get_accepts,
    fun _ _ _ _ _ _ => get_busy, fun _ _ _ _ _ _ _ _ _ => cpCompletion_shows⟩

end Sys2Proof.Machine
end

section
/-! PROOFS. Check-engine and random-generator commands (O13). -/

namespace Sys2Proof.Machine

open Safety

theorem State.rngReseed_kce (s : State) (i : Nat) : (s.rngReseed i).kce = s.kce := by simp [State.rngReseed]

/-- A generate request leaves the check engine alone. -/
theorem State.rngUse_kce (s : State) (i : Nat) : (s.rngUse i).kce = s.kce := by
  simp only [State.rngUse, apply_ite State.kce, State.wr_kce, State.bump_kce, State.rngReseed_kce, ite_self]

theorem kceRequest_unit {t lane n level blocks : Nat} {k256 verify good : Bool} {s : State} (hon : Powered s) (hpos :
  0 < lane) (hlane : lane < 7) (hroom : ((s.adv t).kce.queue.filter (fun r => r.lane == lane)).length < 16) (_hcode :
  (s.adv t).kceCode = ccOk) :
    Does (.kceRequest t lane n level blocks k256 verify good) s ((s.adv t).kceArrive
      { lane := lane, level := min 3 level, arrival := (s.adv t).now, aged := (s.adv t).now, verify := verify, cls := 0, key := List.replicate (if k256 then 32 else 16) 0, msg := List.replicate (16 * clampTo 1 512 blocks) 0, expect := [], dest := .unit, left := clampTo 1 512 blocks }) := by
  change execKceRequest t lane n level blocks k256 verify good s = _
  unfold execKceRequest
  refine happen_eq hon ?_
  have hthere : ¬(lane ≥ 8 ∨ ((s.adv t).kce.queue.filter (fun r => r.lane == lane)).length ≥ 16) := by omega
  rw [if_neg hthere, if_neg (by omega), if_neg (by omega)]

theorem kceRequest_session {t n level blocks : Nat} {k256 verify good : Bool} {s : State} (hon : Powered s) (hroom :
  ((s.adv t).kce.queue.filter (fun r => r.lane == 0)).length < 16) (hwants : (s.adv t).wantsKce n = true) :
    Does (.kceRequest t 0 n level blocks k256 verify good) s ((s.adv t).kceArrive ((s.adv t).sesCheck n (kceLevel
      ((s.adv t).ctx n).state) good)) := by
  change execKceRequest t 0 n level blocks k256 verify good s = _
  unfold execKceRequest
  refine happen_eq hon ?_
  rw [if_neg (by omega), if_pos rfl, if_pos hwants]

theorem kceRequest_core {t n level blocks : Nat} {k256 verify good : Bool} {r : KceReq} {s : State} (hon : Powered s)
  (hroom : ((s.adv t).kce.queue.filter (fun r => r.lane == 7)).length < 16) (hoffered : (s.adv t).kce.offered.find?
  (fun r => match r.dest with | .core c _ => c == n | _ => false) = some r) :
    Does (.kceRequest t 7 n level blocks k256 verify good) s
      (({ (s.adv t) with kce := { (s.adv t).kce with offered := (s.adv t).kce.offered.erase r } } : State).kceArrive
      { r with arrival := (s.adv t).now, aged := (s.adv t).now }) := by
  change execKceRequest t 7 n level blocks k256 verify good s = _
  unfold execKceRequest
  refine happen_eq hon ?_
  rw [if_neg (by omega), if_neg (by decide), if_pos rfl]
  split
  · next r' hfound =>
    obtain rfl : r' = r := Option.some.inj (hfound.symm.trans hoffered)
    rfl
  · next hnone => exact absurd (hnone.symm.trans hoffered) (by simp)

theorem kceMessageDone_serves {t block : Nat} {r : KceReq} {s : State} (hon : Powered s) (hrunning : (s.adv
  t).kce.running = some r) (hmasks : (s.adv t).kce.maskWait = none) (htest : (s.adv t).kce.alarmTest = false) :
    Does (.kceMessageDone t block false false) s ((s.adv t).kceServed r) := by
  change execKceMessageDone t block false false s = _
  unfold execKceMessageDone
  refine happen_eq hon ?_
  simp only [hrunning, hmasks, htest, Bool.or_self, Bool.false_eq_true, if_false]

theorem kceMessageDone_alarms {t block : Nat} {r : KceReq} {poison : Bool} {s : State} (hon : Powered s) (hrunning :
  (s.adv t).kce.running = some r) (hmasks : (s.adv t).kce.maskWait = none) :
    Does (.kceMessageDone t block true poison) s
      ((({ (s.adv t) with kce := { (s.adv t).kce with alarmTest := false } } : State).kceAlarm r.lane (min 0x3FF
      block)).kceEnd r ccKceAlarm []) := by
  change execKceMessageDone t block true poison s = _
  unfold execKceMessageDone
  refine happen_eq hon ?_
  simp only [hrunning, hmasks, Bool.true_or, if_true]

theorem kceMessageDone_poisoned {t block : Nat} {r : KceReq} {s : State} (hon : Powered s) (hrunning : (s.adv
  t).kce.running = some r) (hmasks : (s.adv t).kce.maskWait = none) (htest : (s.adv t).kce.alarmTest = false) :
    Does (.kceMessageDone t block false true) s ((s.adv t).kceEnd r ccPoisoned []) := by
  change execKceMessageDone t block false true s = _
  unfold execKceMessageDone
  refine happen_eq hon ?_
  simp only [hrunning, hmasks, htest, Bool.or_self, Bool.false_eq_true, if_false, if_true]

theorem kceAging_ages {t q : Nat} {r : KceReq} {s : State} (hon : Powered s) (hwaits : (s.adv t).kce.queue[q]? = some
  r) (hlevel : r.level < 2) (hlong : r.aged + msT (orOne ((s.adv t).rd KCE_CFG.AGE_MS)) ≤ (s.adv t).now) :
    Does (.kceAging t q) s
      (((({ (s.adv t) with kce := { (s.adv t).kce with queue := (s.adv t).kce.queue.set q { r with level := r.level + 1, aged := (s.adv t).now } } }
      : State).bump KCE_LVL_STAT.AGED (r.level + 1)).kceStat)) := by
  change execKceAging t q s = _
  unfold execKceAging
  refine happen_eq hon ?_
  simp only [hwaits]
  exact if_pos ⟨hlevel, hlong⟩

theorem maskWaitTimeout_resumes {t since : Nat} {r : KceReq} {s : State} (hon : Powered s) (hrunning : (s.adv
  t).kce.running = some r) (hmasks : (s.adv t).kce.maskWait = some since) (hcan : (s.adv t).rngCan 0 = true) :
    Does (.maskWaitTimeout t) s ({ (s.adv t).rngUse 0 with kce := { (s.adv t).kce with maskWait := none } }) := by
  change execMaskWaitTimeout t s = _
  unfold execMaskWaitTimeout
  refine happen_eq hon ?_
  simp only [hrunning, hmasks, hcan, if_true, State.rngUse_kce]

theorem maskWaitTimeout_ends {t since : Nat} {r : KceReq} {s : State} (hon : Powered s) (hrunning : (s.adv
  t).kce.running = some r) (hmasks : (s.adv t).kce.maskWait = some since) (hcan : (s.adv t).rngCan 0 = false) (hlong
  : since + usT 100 ≤ (s.adv t).now) :
    Does (.maskWaitTimeout t) s ((s.adv t).kceEnd r ccRngHealth []) := by
  change execMaskWaitTimeout t s = _
  unfold execMaskWaitTimeout
  refine happen_eq hon ?_
  simp only [hrunning, hmasks, hcan, Bool.false_eq_true, if_false]
  exact if_pos hlong

theorem katRun_passes {t : Nat} {s : State} (hon : Powered s) (hgood : katGood = true) :
    Does (.katRun t) s (({ (s.adv t) with kce := { (s.adv t).kce with katBad := false } } : State).wr KCE_STAT.KAT_OK
      1) := by
  change execKatRun t s = _
  exact happen_eq hon (if_pos hgood)

theorem alarmTest_arms {t : Nat} {s : State} (hon : Powered s) (hlc : (s.adv t).lc = lcBlank ∨ (s.adv t).lc =
  lcVendor) :
    Does (.alarmTest t) s ({ (s.adv t) with kce := { (s.adv t).kce with alarmTest := true } }) := by
  change execAlarmTest t s = _
  exact happen_eq hon (if_pos hlc)

theorem healthFail_fails {t kind inst : Nat} {s : State} (hon : Powered s) (hsupplied : (s.adv t).rd RNG_STAT.SOURCE
  ≠ rngOff) (hgood : (s.adv t).rngBad = false) :
    Does (.healthFail t kind inst) s ((s.adv t).healthFail kind inst) := by
  change execHealthFail t kind inst s = _
  exact happen_eq hon (if_neg (not_or.2 ⟨hsupplied, by simp [hgood]⟩))

theorem sourceRestart_restarts {t f : Nat} {rest : List Nat} {s : State} (hon : Powered s) (hfails : (s.adv
  t).rng.fails = f :: rest) (hbad : (s.adv t).rngBad = true) (hlatched : (s.adv t).on RNG_STAT.LATCHED = false)
  (hlong : f + msT 10 ≤ (s.adv t).now) :
    Does (.sourceRestart t) s ((((s.adv t).wr RNG_STAT.SOURCE rngStartup).rngStates).rngEvent 6 0) := by
  change execSourceRestart t s = _
  unfold execSourceRestart
  refine happen_eq hon ?_
  simp only [hfails]
  exact if_pos ⟨hbad, by simp [hlatched], hlong⟩

theorem startupTestDone_passes {t : Nat} {s : State} (hon : Powered s) (hstartup : (s.adv t).rd RNG_STAT.SOURCE =
  rngStartup) (hrun : (s.adv t).rep 0x0D = stRun) :
    Does (.startupTestDone t) s ((s.adv t).wr RNG_STAT.SOURCE rngOk) := by
  change execStartupTestDone t s = _
  refine happen_eq hon (if_pos ⟨hstartup, ?_, ?_⟩) <;> rw [hrun] <;> decide

theorem blockConditioned_serves {t : Nat} {s : State} (hon : Powered s) (hok : (s.adv t).rd RNG_STAT.SOURCE = rngOk)
  :
    Does (.blockConditioned t) s (serveRng (s.adv t).blockIn.rngOrder (s.adv t).blockIn) := by
  change execBlockConditioned t s = _
  exact happen_eq hon (if_pos hok)

theorem statsWindow_quiet {t kbps : Nat} {bias corr : Int} {hist : List Nat} {s : State} (hon : Powered s) (hquiet :
  (decide (bias.natAbs > ((s.adv t).statsIn bias corr kbps hist).rd RNG_WARN_CFG.BIAS_WARN) || decide (corr.natAbs >
  ((s.adv t).statsIn bias corr kbps hist).rd RNG_WARN_CFG.CORR_WARN)) = false) :
    Does (.statsWindow t bias corr kbps hist) s (((s.adv t).statsIn bias corr kbps hist).flag RNG_STAT.WARN false) := by
  change execStatsWindow t bias corr kbps hist s = _
  unfold execStatsWindow
  refine happen_eq hon ?_
  simp only [hquiet, Bool.false_eq_true, if_false]

theorem statsWindow_warns {t kbps : Nat} {bias corr : Int} {hist : List Nat} {s : State} (hon : Powered s) (hwarn :
  (decide (bias.natAbs > ((s.adv t).statsIn bias corr kbps hist).rd RNG_WARN_CFG.BIAS_WARN) || decide (corr.natAbs >
  ((s.adv t).statsIn bias corr kbps hist).rd RNG_WARN_CFG.CORR_WARN)) = true) :
    Does (.statsWindow t bias corr kbps hist) s (((((s.adv t).statsIn bias corr kbps hist).flag RNG_STAT.WARN
      true).irq RNG_IRQ_STAT.WARN).rngEvent 5 0) := by
  change execStatsWindow t bias corr kbps hist s = _
  unfold execStatsWindow
  refine happen_eq hon ?_
  simp only [hwarn, if_true]

theorem generateRequest_serves {t inst n bytes : Nat} {s : State} (hon : Powered s) (hinst : inst < 12) (hsession :
  inst ≠ 5) (hhost : inst ≠ 11) (hbytes : bytes ≤ 4096) (hcan : (s.adv t).rngCan inst = true) :
    Does (.generateRequest t inst n bytes) s ((s.adv t).rngUse inst) := by
  change execGenerateRequest t inst n bytes s = _
  unfold execGenerateRequest
  refine happen_eq hon ?_
  have hsingle : (inst != 11) = true := by simpa using hhost
  rw [if_neg (by omega)]
  simp only [hcan, hsingle, Bool.true_or, Bool.and_self, Bool.or_true, if_true, State.rngDeliver, if_neg hsession,
    if_neg hhost]

theorem generateRequest_nonce {t n bytes : Nat} {s : State} (hon : Powered s) (hbytes : bytes ≤ 4096) (hwants :
  (s.adv t).wantsNonce n = true) (hcan : (s.adv t).rngCan 5 = true) :
    ∃ w s1, (s.adv t).rngTake 5 4 = some (w, s1) ∧ Does (.generateRequest t 5 n bytes) s (s1.complete n (s1.ctx
      n).gen poolRng ccOk 0 (leBytes 16 w)) := by
  obtain ⟨⟨w, s1⟩, htake⟩ : ∃ p, (s.adv t).rngTake 5 4 = some p := ⟨_, if_pos hcan⟩
  refine ⟨w, s1, htake, ?_⟩
  change execGenerateRequest t 5 n bytes s = _
  unfold execGenerateRequest
  refine happen_eq hon ?_
  have hthere : ¬(5 ≥ 12 ∨ bytes > 4096 ∨ (5 = 5 ∧ (!(s.adv t).wantsNonce n) = true)) := by
    simp only [hwants, Bool.not_true, Bool.false_eq_true, and_false, or_false]
    omega
  have hserved : ((s.adv t).rngBad || ((s.adv t).rngCan 5 && (5 != 11 || !(s.adv t).rng.waiting.any (fun w => w.inst != 11)))) =
      true := by simp [hcan]
  rw [if_neg hthere]
  simp only [hserved, if_true, State.rngDeliver, htake]

theorem generateRequest_waits {t inst n bytes : Nat} {s : State} (hon : Powered s) (hinst : inst < 11) (hsession :
  inst ≠ 5) (hbytes : bytes ≤ 4096) (hgood : (s.adv t).rngBad = false) (hcan : (s.adv t).rngCan inst = false) :
    Does (.generateRequest t inst n bytes) s
      ({ (s.adv t) with rng := { (s.adv t).rng with waiting := (s.adv t).rng.waiting ++ [⟨inst, n, bytes, (s.adv t).now⟩] } }) := by
  change execGenerateRequest t inst n bytes s = _
  unfold execGenerateRequest
  refine happen_eq hon ?_
  rw [if_neg (by omega)]
  simp only [hgood, hcan, Bool.false_and, Bool.or_self, Bool.false_eq_true, if_false]

theorem reseed_reseeds {t inst : Nat} {s : State} (hon : Powered s) (hinst : inst < 12) (hok : (s.adv t).rd
  RNG_STAT.SOURCE = rngOk) (hpool : 3 ≤ (s.adv t).rd RNG_STAT.POOL) (hrank : (s.adv t).rankAbove inst = false) (hdue
  : (s.adv t).rd RNG_INST_STAT.STATE inst = instDue) :
    Does (.reseed t inst) s (serveRng ((s.adv t).rngReseed inst).rngOrder ((s.adv t).rngReseed inst)) := by
  change execReseed t inst s = _
  exact happen_eq hon (if_pos ⟨hinst, hok, hpool, by simp [hrank], .inr (.inl hdue)⟩)

theorem rngHostDataRead_answers {t port w : Nat} {rest : List Nat} {s : State} (hon : Powered s) (hfifo : (s.adv
  t).rng.fifo = w :: rest) :
    Does (.rngHostDataRead t port) s ((({ (s.adv t) with rng := { (s.adv t).rng with fifo := rest } } : State).wr
      RNG_HOST_STAT.LEVEL rest.length).answerWord port w) := by
  change execRngHostDataRead t port s = _
  unfold execRngHostDataRead
  refine happen_eq hon ?_
  simp only [State.hostData, hfifo]

theorem rngHostDataRead_underruns {t port : Nat} {s : State} (hon : Powered s) (hfifo : (s.adv t).rng.fifo = []) :
    Does (.rngHostDataRead t port) s (((s.adv t).bump RNG_CNT_UNDERRUN.COUNT).answerWord port 0) := by
  change execRngHostDataRead t port s = _
  unfold execRngHostDataRead
  refine happen_eq hon ?_
  simp only [State.hostData, hfifo]

theorem rngHostBulk_starts {t slot kib : Nat} {s : State} (hon : Powered s) (hbusy : (s.adv t).on RNG_HOST_BULK.BUSY
  = false) (_hslot : (((s.adv t).wr RNG_HOST_BULK.SLOT slot).wr RNG_HOST_BULK.KIB kib).slotFlag slot = slotDevice)
  (_hcan : (s.adv t).rngCan 11 = true) :
    Does (.rngHostBulk t slot kib) s ((((s.adv t).wr RNG_HOST_BULK.SLOT slot).wr RNG_HOST_BULK.KIB kib).hostBulk) := by
  change execRngHostBulk t slot kib s = _
  exact happen_eq hon (if_neg (by simp [hbusy]))

theorem testPattern_switches {t : Nat} {on : Bool} {s : State} (hon : Powered s) (hlc : (s.adv t).lc = lcBlank)
  (hdiffers : (s.adv t).on RNG_STAT.PATTERN ≠ on) :
    Does (.testPattern t on) s
      (({ ((((s.adv t).flag RNG_TEST.TEST_PATTERN on).flag RNG_STAT.PATTERN on).wr RNG_STAT.SOURCE rngStartup).wr RNG_STAT.POOL 0 with rng := { (s.adv t).rng with seeded := [] } }
      : State).rngStates) := by
  change execTestPattern t on s = _
  unfold execTestPattern
  refine happen_eq hon ?_
  rw [State.testPattern, if_pos ⟨hlc, hdiffers⟩]
  simp only [State.wr_rng, State.flag]

theorem rawCapture_clears {t slot count : Nat} {s : State} (hon : Powered s) (hlc : (s.adv t).lc = lcBlank ∨ (s.adv
  t).lc = lcVendor) :
    Does (.rawCapture t false slot count) s ((((s.adv t).wr RNG_TEST.SLOT slot).wr RNG_TEST.COUNT count).flag
      RNG_TEST.RAW_CAPTURE false) := by
  change execRawCapture t false slot count s = _
  unfold execRawCapture
  refine happen_eq hon ?_
  have hlc' : (((s.adv t).wr RNG_TEST.SLOT slot).wr RNG_TEST.COUNT count).lc = (s.adv t).lc := by
    rw [State.lc, State.rd_wr_other _ _ _ _ _ _ _ _ (by decide), State.rd_wr_other _ _ _ _ _ _ _ _ (by decide), State.lc]
  rw [State.rawCapture, hlc', if_pos hlc]
  exact if_neg (by simp)

/-- Settles O13: row by row; a session's nonce is drawn before it is handed over. -/
theorem checkEngineAndRandomCommandsTakeEffect : Obligations.CheckEngineAndRandomCommandsTakeEffect := by
  unfold Obligations.CheckEngineAndRandomCommandsTakeEffect
  exact ⟨fun _ _ _ _ _ _ _ _ _ => kceRequest_unit, fun _ _ _ _ _ _ _ _ => kceRequest_session,
    fun _ _ _ _ _ _ _ _ _ => kceRequest_core, fun _ _ _ _ => kceMessageDone_serves,
    fun _ _ _ _ _ => kceMessageDone_alarms, fun _ _ _ _ => kceMessageDone_poisoned, fun _ _ _ _ => kceAging_ages,
    fun _ _ _ _ => maskWaitTimeout_resumes, fun _ _ _ _ => maskWaitTimeout_ends, fun _ _ => katRun_passes,
    fun _ _ => alarmTest_arms, fun _ _ _ _ => healthFail_fails, fun _ _ _ _ => sourceRestart_restarts,
    fun _ _ => startupTestDone_passes, fun _ _ => blockConditioned_serves, fun _ _ _ _ _ _ => statsWindow_quiet,
    fun _ _ _ _ _ _ => statsWindow_warns, fun _ _ _ _ _ => generateRequest_serves,
    fun _ _ _ _ => generateRequest_nonce, fun _ _ _ _ _ => generateRequest_waits, fun _ _ _ => reseed_reseeds,
    fun _ _ hon => happen_eq (f := State.reseedAll) hon rfl, fun _ _ _ _ _ => rngHostDataRead_answers,
    fun _ _ _ => rngHostDataRead_underruns, fun _ _ _ _ => rngHostBulk_starts, fun _ _ _ => testPattern_switches,
    fun _ _ _ _ => rawCapture_clears⟩

end Sys2Proof.Machine
end

section
/-! PROOFS. Dome commands (O12). -/

namespace Sys2Proof.Machine

open Safety

/-- A free slot takes the key that generator 2 supplies (R387). -/
theorem State.keygen_generates {s : State} (core : Nat) {slot uses : Nat} (k256 : Bool) {nextReset : Bool}
    (hrun : s.rep 0x0B = stRun) (hhalt : s.on DOM_STAT.HALT = false) (hkeys : s.dom.keys.katb.isEmpty = false)
    (huses : nextReset = true ∨ uses ≠ 0)
    (hfree : (List.range 8).find? (fun k => (SMap.find s.dom.gkeys k).isNone) = some slot) (hcan : s.rngCan 2 = true) :
    ∃ s1, s.keygen core k256 nextReset uses = (ccOk, slot, s1) := by
  have hworks : ¬(stRun = stQuiesce ∨ stRun = stHalt) := by decide
  have hgood : ¬((!nextReset) = true ∧ uses = 0) := by
    rintro ⟨hcount, hnone⟩
    exact huses.elim (fun h => by simp [h] at hcount) fun h => h hnone
  simp only [State.keygen, hrun, if_neg hworks, hhalt, hkeys, if_neg hgood, hfree, State.rngTake, hcan, Bool.false_eq_true,
    if_false, if_true]
  exact ⟨_, rfl⟩

/-- The twelve commands that take an envelope of a kind other than TIME. -/
abbrev envelopeKinds (t : Nat) : List (Instr × Nat) :=
  [(.vendor t, envVendor), (.commission t, envCommission), (.field t, envField), (.decommission t, envDecommission),
    (.migrate t, envMigrate), (.rekey t, envRekey), (.policy t, envPolicy), (.lockSet t, envLockSet),
    (.ephTemplate t, envEphTemplate), (.view t, envView), (.monitor t, envMonitor), (.unitEnv t, envUnit)]

theorem envelopeRow_kind_ne_time {t k : Nat} {c : Instr} (hrow : (c, k) ∈ envelopeKinds t) : k ≠ envTime := by
  have hkinds : ∀ p ∈ (envelopeKinds 0).map Prod.snd, p ≠ envTime := by decide
  exact hkinds k (List.mem_map_of_mem (f := Prod.snd) hrow)

/-- Each envelope command is one function of its kind; TIME alone has an effect of its own on acceptance. -/
theorem exec_envelopeRow {t k : Nat} {c : Instr} (s : State) (hrow : (c, k) ∈ envelopeKinds t ++ [(.timeEnv t, envTime)]) :
    ∃ f, exec c s = happen t s (fun s => s.envelope (envIs k) f) := by
  simp only [envelopeKinds, List.cons_append, List.nil_append, List.mem_cons, List.not_mem_nil, or_false, Prod.mk.injEq] at hrow
  rcases hrow with ⟨rfl, rfl⟩ | ⟨rfl, rfl⟩ | ⟨rfl, rfl⟩ | ⟨rfl, rfl⟩ | ⟨rfl, rfl⟩ | ⟨rfl, rfl⟩ | ⟨rfl, rfl⟩ | ⟨rfl, rfl⟩ |
    ⟨rfl, rfl⟩ | ⟨rfl, rfl⟩ | ⟨rfl, rfl⟩ | ⟨rfl, rfl⟩ | ⟨rfl, rfl⟩ <;> exact ⟨_, rfl⟩

/-- A Dome in RUN without a job or a pending transition takes the next envelope of the kind (R393, R396). -/
theorem State.envelope_takes {s r : State} {k reason code : Nat} {e : DomEnv} {f : DomEnv → State → State}
    (hidle : s.dom.job = none) (hclear : s.dom.pend = none) (hup : s.rep 0x0B = stRun) (hnext : s.envNext = some e)
    (htyp : e.typ = k) (hrun : (s.envPop e).rep 0x0B = stRun) (hcheck : (s.envPop e).envCheck e = (reason, code, r)) :
    s.envelope (envIs k) f =
      if reason ≠ 0 then r.envRefuse e code reason else if e.typ = envTime then (f e r).envTimed e else r.envAccept e := by
  have hfree : (s.dom.job.isSome || s.dom.pend.isSome || s.rep 0x0B == stReset || s.rep 0x0B == stOff) = false := by
    rw [hidle, hclear, hup]; decide
  have hkind : (!envIs k e && decide (e.typ < 0xF)) = false := by simp [envIs, htyp]
  have hworks : ¬((stRun = stQuiesce ∨ stRun = stHalt) ∧ e.typ ≠ envUnit) := fun h => absurd h.1 (by decide)
  simp only [State.envelope, hfree, hnext, hkind, hrun, hcheck, Bool.false_eq_true, if_false, if_neg hworks]

theorem envelopeRow_accepts {t k : Nat} {c : Instr} {e : DomEnv} {r s : State} (hon : Powered s) (hrow : (c, k) ∈
  [(Instr.vendor t, envVendor), (Instr.commission t, envCommission), (Instr.field t, envField), (Instr.decommission
  t, envDecommission), (Instr.migrate t, envMigrate), (Instr.rekey t, envRekey), (Instr.policy t, envPolicy),
  (Instr.lockSet t, envLockSet), (Instr.ephTemplate t, envEphTemplate), (Instr.view t, envView), (Instr.monitor t,
  envMonitor), (Instr.unitEnv t, envUnit)]) (hidle : (s.adv t).dom.job = none) (hclear : (s.adv t).dom.pend = none)
  (hup : (s.adv t).rep 0x0B = stRun) (hnext : (s.adv t).envNext = some e) (htyp : e.typ = k) (hrun : ((s.adv
  t).envPop e).rep 0x0B = stRun) (hcheck : ((s.adv t).envPop e).envCheck e = (0, ccOk, r)) :
    Does (c) s (r.envAccept e) := by
  obtain ⟨f, hexec⟩ := exec_envelopeRow s (List.mem_append_left _ hrow)
  have htime : e.typ ≠ envTime := htyp ▸ envelopeRow_kind_ne_time hrow
  rw [Does, hexec]
  refine happen_eq hon ?_
  rw [State.envelope_takes hidle hclear hup hnext htyp hrun hcheck, if_neg (by simp), if_neg htime]

theorem timeEnv_arms {t : Nat} {e : DomEnv} {r s : State} (hon : Powered s) (hidle : (s.adv t).dom.job = none)
  (hclear : (s.adv t).dom.pend = none) (hup : (s.adv t).rep 0x0B = stRun) (hnext : (s.adv t).envNext = some e) (htyp
  : e.typ = envTime) (hrun : ((s.adv t).envPop e).rep 0x0B = stRun) (hcheck : ((s.adv t).envPop e).envCheck e = (0,
  ccOk, r)) :
    Does (.timeEnv t) s ((armTime e r).envTimed e) := by
  change execTimeEnv t s = _
  unfold execTimeEnv
  refine happen_eq hon ?_
  rw [State.envelope_takes hidle hclear hup hnext htyp hrun hcheck, if_neg (by simp), if_pos htyp]

theorem envelopeRow_refuses {t k code reason : Nat} {c : Instr} {e : DomEnv} {r s : State} (hon : Powered s) (hrow :
  (c, k) ∈ [(Instr.vendor t, envVendor), (Instr.commission t, envCommission), (Instr.field t, envField),
  (Instr.decommission t, envDecommission), (Instr.migrate t, envMigrate), (Instr.rekey t, envRekey), (Instr.policy t,
  envPolicy), (Instr.lockSet t, envLockSet), (Instr.ephTemplate t, envEphTemplate), (Instr.view t, envView),
  (Instr.monitor t, envMonitor), (Instr.unitEnv t, envUnit), (Instr.timeEnv t, envTime)]) (hidle : (s.adv t).dom.job
  = none) (hclear : (s.adv t).dom.pend = none) (hup : (s.adv t).rep 0x0B = stRun) (hnext : (s.adv t).envNext = some
  e) (htyp : e.typ = k) (hrun : ((s.adv t).envPop e).rep 0x0B = stRun) (hreason : reason ≠ 0) (hcheck : ((s.adv
  t).envPop e).envCheck e = (reason, code, r)) :
    Does (c) s (r.envRefuse e code reason) := by
  obtain ⟨f, hexec⟩ := exec_envelopeRow s hrow
  rw [Does, hexec]
  refine happen_eq hon ?_
  rw [State.envelope_takes hidle hclear hup hnext htyp hrun hcheck, if_pos hreason]

theorem envelopeSubmit_queues {t slot : Nat} {s : State} (hon : Powered s) (hslot : (s.adv t).slotFlag slot =
  slotDevice) (hring : (s.adv t).inRing slot = false) :
    Does (.envelopeSubmit t slot) s (((s.adv t).envQueue 0 ((s.adv t).slotData slot)).handSlot slot) := by
  change execEnvelopeSubmit t slot s = _
  exact happen_eq hon (if_neg (by simp [hslot, hring]))

theorem domNonceRead_answers {t port : Nat} {s : State} (hon : Powered s) (hcan : (s.adv t).rngCan 3 = true) :
    ∃ v s1, (s.adv t).rngNonce 3 = some (v, s1) ∧ Does (.domNonceRead t port) s (State.answerWord
      { s1 with dom := { s1.dom with nonces := (if 8 ≤ s1.liveNonces.length then s1.liveNonces.drop (s1.liveNonces.length - 7) else s1.liveNonces) ++ [(v, s1.now)] } }
      port v) := by
  obtain ⟨v, s1, hnonce⟩ := State.rngNonce_of_rngCan hcan
  refine ⟨v, s1, hnonce, ?_⟩
  change execDomNonceRead t port s = _
  unfold execDomNonceRead
  refine happen_eq hon ?_
  simp only [State.domNonce, hnonce]

theorem attestationRequest_attests {t gslot wslot : Nat} {key : Bool} {s : State} (hon : Powered s) (hidle : (s.adv
  t).on DOM_ATT_REQ.BUSY = false) (_hslot : ((((s.adv t).flag DOM_ATT_REQ.KIND key).wr DOM_ATT_REQ.GSLOT gslot).wr
  DOM_ATT_REQ.WSLOT wslot).slotFlag wslot = slotDevice) :
    Does (.attestationRequest t key gslot wslot) s (((((s.adv t).flag DOM_ATT_REQ.KIND key).wr DOM_ATT_REQ.GSLOT
      gslot).wr DOM_ATT_REQ.WSLOT wslot).attest) := by
  change execAttestationRequest t key gslot wslot s = _
  exact happen_eq hon (if_neg (by simp [hidle]))

theorem exportDone_closes {t : Nat} {s : State} (hon : Powered s) (hlc : (s.adv t).lc = lcVendor) :
    Does (.exportDone t) s (({ (s.adv t) with dom := { (s.adv t).dom with exportDone := true } } : State).wr
      DOM_STAT.EXPORT_OPEN 0) := by
  change execExportDone t s = _
  exact happen_eq hon (if_pos hlc)

theorem keyDerivation_completes {t cls unit n : Nat} {s : State} (hon : Powered s) (hpair : keyPair cls unit = true)
  (hcls : cls ≠ kKTOK) (hcode : (s.adv t).keyCode cls false = ccOk) :
    Does (.keyDerivation t cls unit n) s ((s.adv t).answerCode (16 + unit) ccOk) := by
  change execKeyDerivation t cls unit n s = _
  unfold execKeyDerivation
  refine happen_eq hon ?_
  simp only [hpair, hcode, if_true]
  exact if_neg fun h => hcls h.1

theorem keyDerivation_derivesKtok {t n : Nat} {s : State} (hon : Powered s) (hwants : ((s.adv t).answerCode 0x18
  ccOk).wantsDom n = true) (hcode : (s.adv t).keyCode kKTOK false = ccOk) :
    Does (.keyDerivation t kKTOK 0x08 n) s
      ((({ (s.adv t).answerCode 0x18 ccOk with dom := { (s.adv t).dom with sesKeys := SMap.put (s.adv t).dom.sesKeys n (((s.adv t).answerCode 0x18 ccOk).ktok ((s.adv t).ctx n).token) } }
      : State).complete n ((s.adv t).ctx n).gen poolDom ccOk 0 [])) := by
  change execKeyDerivation t kKTOK 0x08 n s = _
  have hpair : keyPair kKTOK 0x08 = true := by decide
  unfold execKeyDerivation
  refine happen_eq hon ?_
  simp only [hpair, hcode, if_true]
  exact if_pos ⟨trivial, trivial, hwants⟩

theorem workingKeyLoad_loads {t cls unit n uses : Nat} {s : State} (hon : Powered s) (hpair : keyPair cls unit =
  true) (hcode : (s.adv t).keyCode cls false = ccOk) :
    Does (.workingKeyLoad t cls unit n uses) s (((s.adv t).answerCode (16 + unit) ccOk).wkGiven cls unit n uses) := by
  change execWorkingKeyLoad t cls unit n uses s = _
  unfold execWorkingKeyLoad
  refine happen_eq hon ?_
  simp only [hpair, hcode, if_true]

theorem remask_masks {t : Nat} {k : WKey} {s : State} (hon : Powered s) (hwk : (s.adv t).dom.wk = some k) (hdue :
  (s.adv t).dom.maskAt + msT 1 ≤ (s.adv t).now) (hcan : (s.adv t).rngCan 1 = true) :
    Does (.remask t) s (({ (s.adv t) with dom := { (s.adv t).dom with maskAt := (s.adv t).now } } : State).rngUse 1) := by
  change execRemask t s = _
  unfold execRemask
  refine happen_eq hon ?_
  rw [if_pos hdue]
  simp only [hwk, Option.isNone_some, Bool.false_eq_true, if_false]
  exact if_pos hcan

theorem remask_clears {t : Nat} {k : WKey} {s : State} (hon : Powered s) (hwk : (s.adv t).dom.wk = some k) (hdue :
  (s.adv t).dom.maskAt + msT 1 ≤ (s.adv t).now) (hcan : (s.adv t).rngCan 1 = false) :
    Does (.remask t) s (({ (s.adv t) with dom := { (s.adv t).dom with maskAt := (s.adv t).now } } : State).clearWk) := by
  change execRemask t s = _
  unfold execRemask
  refine happen_eq hon ?_
  rw [if_pos hdue]
  simp only [hwk, Option.isNone_some, Bool.false_eq_true, if_false]
  exact if_neg (ne_true_of_eq_false hcan)

theorem keygen_generates {t core slot uses : Nat} {k256 nextReset : Bool} {s : State} (hon : Powered s) (hcore : core
  < 16) (hrun : (s.adv t).rep 0x0B = stRun) (hhalt : (s.adv t).on DOM_STAT.HALT = false) (hkeys : (s.adv
  t).dom.keys.katb.isEmpty = false) (huses : (nextReset = true ∨ uses ≠ 0)) (hfree : (List.range 8).find? (fun k =>
  (SMap.find (s.adv t).dom.gkeys k).isNone) = some slot) (hcan : (s.adv t).rngCan 2 = true) :
    Does (.keygen t core k256 nextReset uses) s (((s.adv t).keygen core k256 nextReset uses).2.2.keyAnswer core ccOk
      slot) := by
  change execKeygen t core k256 nextReset uses s = _
  refine happen_eq hon ((if_pos hcore).trans ?_)
  obtain ⟨s1, hgen⟩ := State.keygen_generates core k256 hrun hhalt hkeys huses hfree hcan
  rw [State.keygenPort, hgen]

theorem keydel_deletes {t core slot : Nat} {g : GKey} {s : State} (hon : Powered s) (hcore : core < 16) (hslot : slot
  < 8) (hkey : SMap.find (s.adv t).dom.gkeys slot = some g) (hscript : g.script = (s.adv t).rd AST_CORE_SCRIPT.SCRIPT
  core) :
    Does (.keydel t core slot) s
      (((((({ (s.adv t) with dom := { (s.adv t).dom with gkeys := SMap.del (s.adv t).dom.gkeys slot } } :
      State).wrWord DOM_GKEY.REG 0 slot).domKeysReg).irq DOM_IRQ_STAT.KEY_SPENT).domEvent 5 slot ccOk).keyAnswer core
      ccOk slot) := by
  change execKeydel t core slot s = _
  refine happen_eq hon ((if_pos hcore).trans ?_)
  rw [Nat.mod_eq_of_lt hslot]
  simp only [State.keydelPort, hkey]
  exact if_pos hscript

theorem viewGrantEnd_ends {t port e : Nat} {s : State} (hon : Powered s) (hgrant : SMap.find (s.adv t).hif.grantEnd
  port = some e) (hlong : e ≤ (s.adv t).now) :
    Does (.viewGrantEnd t port) s
      (({ (s.adv t) with hif := { (s.adv t).hif with grantEnd := SMap.del (s.adv t).hif.grantEnd port } } :
      State).wrWord HIF_VIEW_GRANT.REG 0 port) := by
  change execViewGrantEnd t port s = _
  unfold execViewGrantEnd
  refine happen_eq hon ?_
  simp only [hgrant]
  exact if_pos hlong

theorem pendingTransitionResolve_finishes {t target : Nat} {b : DomKeys} {s : State} (hon : Powered s) (hpend :
  (s.adv t).dom.pend = some (target, b)) (hidle : (s.adv t).dom.job = none) (hfuses : (s.adv t).fuse.done = true)
  (hword : (s.adv t).fuseWord 0 = lcWord target) (hqual : (s.adv t).fuseQual 0 = 0) :
    Does (.pendingTransitionResolve t) s ((s.adv t).domWrite domOldBank) := by
  change execPendingTransitionResolve t s = _
  unfold execPendingTransitionResolve
  refine happen_eq hon ?_
  simp only [State.pendResolve, hpend, hidle, hfuses, hword, hqual, Option.isSome_none, Bool.not_true, Bool.false_eq_true,
    or_self, if_false, and_self, if_true]

theorem pendingTransitionResolve_repeats {t target : Nat} {b : DomKeys} {s : State} (hon : Powered s) (hpend : (s.adv
  t).dom.pend = some (target, b)) (hidle : (s.adv t).dom.job = none) (hfuses : (s.adv t).fuse.done = true) (hword :
  ¬((s.adv t).fuseWord 0 = lcWord target ∧ (s.adv t).fuseQual 0 = 0)) (himage : (s.adv t).on BOOT_STAT.IMAGE_OK =
  true) :
    Does (.pendingTransitionResolve t) s ((s.adv t).domWrite domBank) := by
  change execPendingTransitionResolve t s = _
  unfold execPendingTransitionResolve
  refine happen_eq hon ?_
  simp only [State.pendResolve, hpend, hidle, hfuses, himage, Option.isSome_none, Bool.not_true, Bool.false_eq_true,
    or_self, if_false, if_neg hword, and_false]

/-- Settles O12: the thirteen envelope commands by one law of the Dome's queue, and the rest row by row. -/
theorem domeCommandsTakeEffect : Obligations.DomeCommandsTakeEffect := by
  unfold Obligations.DomeCommandsTakeEffect
  exact ⟨fun _ _ _ _ _ _ => envelopeRow_accepts, fun _ _ _ _ => timeEnv_arms,
    fun _ _ _ _ _ _ _ _ => envelopeRow_refuses, fun _ _ _ => envelopeSubmit_queues,
    fun _ _ _ => domNonceRead_answers, fun _ _ _ _ _ => attestationRequest_attests, fun _ _ => exportDone_closes,
    fun _ _ _ _ _ => keyDerivation_completes, fun _ _ _ => keyDerivation_derivesKtok,
    fun _ _ _ _ _ _ => workingKeyLoad_loads, fun _ _ _ => remask_masks, fun _ _ _ => remask_clears,
    fun _ _ _ _ _ _ _ => keygen_generates, fun _ _ _ _ _ => keydel_deletes, fun _ _ _ _ => viewGrantEnd_ends,
    fun _ live _ hon _ => happen_eq (f := (·.tamper live)) hon rfl, fun _ _ _ _ => pendingTransitionResolve_finishes,
    fun _ _ _ _ => pendingTransitionResolve_repeats⟩

end Sys2Proof.Machine
end

section
/-! PROOFS. Memory-integrity and Plate-store commands (O21). -/

namespace Sys2Proof.Machine

open Safety

theorem scrub_steps {t find bitNo bank row : Nat} {hard copyBad : Bool} {s : State} (hon : Powered s) (hrun : (s.adv
  t).running 0x0F = true) (hscrubs : (s.adv t).on MEM_STAT.SCRUBBING = true) :
    Does (.scrub t find bitNo bank row hard copyBad) s ((s.adv t).scrubStep find bitNo bank row hard copyBad) := by
  change execScrub t find bitNo bank row hard copyBad s = _
  exact happen_eq hon (if_neg (by simp [hrun, hscrubs]))

theorem mergeDrain_drains {t arr : Nat} {e : MergeEnt} {s : State} (hon : Powered s) (hfirst : (s.adv
  t).mem.merge.find? (fun e => e.arr == arr) = some e) (hidle : e.since + clampTo 8 255 ((s.adv t).rd
  MEM_MERGE_CFG.MERGE_IDLE) * 79872 / 1000 ≤ (s.adv t).now) :
    Does (.mergeDrain t arr) s ((s.adv t).mergeDrain e) := by
  change execMergeDrain t arr s = _
  unfold execMergeDrain
  refine happen_eq hon ?_
  simp only [hfirst]
  exact if_pos hidle

theorem flipArm_arms {t port w : Nat} {s : State} (hon : Powered s) (harm : bit w 0 = true) (hopen : arrPriv (bits w
  15 8) = false) (heffect : ((((s.adv t).wr MEM_FLIP_CTL.TARGET (bits w 15 8)).flag MEM_FLIP_CTL.ADDR_EN (bit w
  1)).flipEffect (bits w 15 8)).isSome = true) (hkeeps : bit w 2 = false) (hrefused : bit w 3 = false) :
    Does (.flipArm t port false w) s ((((s.adv t).wr MEM_FLIP_CTL.TARGET (bits w 15 8)).flag MEM_FLIP_CTL.ADDR_EN
      (bit w 1)).wr MEM_FLIP_CTL.ARM 1) := by
  change execFlipArm t port false w s = _
  unfold execFlipArm
  refine happen_eq hon ((if_neg Bool.false_ne_true).trans ?_)
  rw [← Option.not_isNone, Bool.not_eq_true'] at heffect
  simp only [State.flipArm, harm, hopen, hkeeps, hrefused, heffect, Bool.not_true, Bool.false_eq_true, false_and, and_false,
    if_false]

theorem flipArm_privileged {t port w : Nat} {s : State} (hon : Powered s) (hview : (s.adv t).viewReason port 0x0F =
  none) (_hlocked : ((bits w 15 8 == 0x34 || bits w 15 8 == 0x35) && !((s.adv t).lc == lcBlank || (s.adv t).lc ==
  lcVendor)) = false) :
    Does (.flipArm t port true w) s ((s.adv t).flipArm port true w) := by
  change execFlipArm t port true w s = _
  unfold execFlipArm
  exact happen_eq hon ((if_pos rfl).trans (State.privWrite_granted _ _ hview))

theorem bucketLeak_leaks {t : Nat} {s : State} (hon : Powered s) (hlong : (s.adv t).mem.leakAt + msT (orOne ((s.adv
  t).rd MEM_BUCKET_CFG.LEAK_MS)) ≤ (s.adv t).now) :
    Does (.bucketLeak t) s ((List.range 24).foldl (fun (a : State) u => a.drop MEM_BUCKET.FILL u)
      { (s.adv t) with mem := { (s.adv t).mem with leakAt := (s.adv t).now } }) := by
  change execBucketLeak t s = _
  exact happen_eq hon (if_neg (Nat.not_lt.mpr hlong))

theorem sealRetry_seals {t : Nat} {r : ArcRec} {s : State} (hon : Powered s) (hsealing : (s.adv t).plt.sealing = some
  r) (hlong : (s.adv t).plt.sealTried + msT 1 ≤ (s.adv t).now) :
    Does (.sealRetry t) s ((s.adv t).arcSeal r) := by
  change execSealRetry t s = _
  unfold execSealRetry
  refine happen_eq hon ?_
  simp only [hsealing]
  exact if_pos hlong

theorem vholdLow_falls {t mv : Nat} {s : State} (hon : Powered s) (hgood : (s.adv t).on PLT_STAT.VHOLD_LOW = false)
  (hmv : mv < 3000) :
    Does (.vholdLow t mv) s (((((s.adv t).wr PLT_VHOLD.MV mv).wr PLT_STAT.VHOLD_LOW 1).irq
      PLT_IRQ_STAT.VHOLD_LOW).pltEvent peVhold 0) := by
  change execVholdLow t mv s = _
  exact happen_eq hon (if_neg (by simp [hgood, hmv]))

theorem vholdGood_rises {t mv : Nat} {s : State} (hon : Powered s) (hlow : (s.adv t).on PLT_STAT.VHOLD_LOW = true)
  (hmv : 3000 ≤ mv) :
    Does (.vholdGood t mv) s ((((s.adv t).wr PLT_VHOLD.MV mv).wr PLT_STAT.VHOLD_LOW 0).add PLT_CNT_VHOLD_WAIT.COUNT
      ((s.adv t).plt.queue.filter (fun w => !w.ops.isEmpty && !w.active)).length) := by
  change execVholdGood t mv s = _
  exact happen_eq hon (if_neg (by simp [hlow, hmv]))

theorem vholdWaitTimeout_ends {t a : Nat} {s : State} (hon : Powered s) (hsince : (s.adv t).plt.portSince = some a)
  (hlow : (s.adv t).on PLT_STAT.VHOLD_LOW = true) (hlong : a + msT 100 ≤ (s.adv t).now) (hwaits : (s.adv
  t).plt.queue.any (fun w => w.tag == .port && !w.active) = true) :
    Does (.vholdWaitTimeout t) s ((s.adv t).vholdLate (fun w => w.tag == .port && !w.active)) := by
  change execVholdWaitTimeout t s = _
  unfold execVholdWaitTimeout
  refine happen_eq hon ?_
  simp only [hsince, hlow, hwaits, Nat.not_lt.mpr hlong, Bool.not_true, Bool.false_eq_true, or_self, if_false]

theorem openReleaseResolve_clears {t e : Nat} {r : OpenRel} {s : State} (hon : Powered s) (hopen : SMap.find (s.adv
  t).shu.openRel e = some r) (hresolve : (s.adv t).shu.toResolve.contains e = true) (hboot : (s.adv t).plt.bootDone =
  true) (hnone : ({ (s.adv t) with shu := { (s.adv t).shu with toResolve := (s.adv t).shu.toResolve.erase e } } :
  State).decisionFound r = none) :
    Does (.openReleaseResolve t e) s
      (({ (s.adv t) with shu := { (s.adv t).shu with toResolve := (s.adv t).shu.toResolve.erase e } } :
      State).openRelClear r.session r.gen) := by
  change execOpenReleaseResolve t e s = _
  unfold execOpenReleaseResolve
  refine happen_eq hon ?_
  simp only [State.openRelResolve, hopen, hresolve, hboot, hnone, Bool.not_true, Bool.false_eq_true, or_self, if_false]

theorem pltAccWrite_writes {t port : Nat} {s : State} (hon : Powered s) (hidle : (s.adv t).on PLT_ACC_CTL.BUSY =
  false) :
    Does (.pltAccWrite t port false) s (((s.adv t).wr PLT_ACC_CTL.WRITE 1).portWrite false ((s.adv t).wr
      PLT_ACC_CTL.WRITE 1).accAddr (((s.adv t).wr PLT_ACC_CTL.WRITE 1).rd64 PLT_ACC_DATA_LO.DATA
      PLT_ACC_DATA_HI.DATA)) := by
  change execPltAccWrite t port false s = _
  exact happen_eq hon (if_neg (by simp [hidle]))

theorem pltAccWrite_privileged {t port : Nat} {s : State} (hon : Powered s) (hidle : (s.adv t).on PLT_ACC_CTL.BUSY =
  false) (hview : (s.adv t).viewReason port 0x10 = none) :
    Does (.pltAccWrite t port true) s (((s.adv t).wr PLT_ACC_CTL.WRITE 1).portWrite true ((s.adv t).wr
      PLT_ACC_CTL.WRITE 1).accAddr (((s.adv t).wr PLT_ACC_CTL.WRITE 1).rd64 PLT_ACC_DATA_LO.DATA
      PLT_ACC_DATA_HI.DATA)) := by
  change execPltAccWrite t port true s = _
  exact happen_eq hon ((if_neg (by simp [hidle])).trans ((if_pos rfl).trans (State.privWrite_granted _ _ hview)))

/-- Settles O21: row by row; the rows without a lemma are the happening's effect as it stands. -/
theorem storeCommandsTakeEffect : Obligations.StoreCommandsTakeEffect := by
  unfold Obligations.StoreCommandsTakeEffect
  exact ⟨fun _ _ _ _ _ _ _ _ => scrub_steps, fun _ _ _ _ => mergeDrain_drains, fun _ _ _ _ => flipArm_arms,
    fun _ _ _ _ => flipArm_privileged, fun _ _ => bucketLeak_leaks,
    fun _ bank mv _ _ _ _ hon _ _ _ _ _ _ _ _ _ => happen_eq (f := (·.pageStart bank mv)) hon rfl,
    fun _ bank _ _ _ _ _ hon _ => happen_eq (f := (·.pageEnd bank)) hon rfl,
    fun _ _ _ hon _ _ _ _ => happen_eq (f := State.arcAppend) hon rfl, fun _ _ _ => sealRetry_seals,
    fun _ _ _ => vholdLow_falls, fun _ _ _ => vholdGood_rises, fun _ _ _ => vholdWaitTimeout_ends,
    fun _ _ hon _ => happen_eq (f := State.recallDone) hon rfl, fun _ _ _ _ => openReleaseResolve_clears,
    fun _ _ hon => happen_eq (f := State.marginNow) hon rfl,
    fun _ find _ hon _ _ _ => happen_eq (f := (·.marginRead find)) hon rfl,
    fun _ port find _ hon _ _ => happen_eq (f := fun s => (s.accRead find).answerCode port ccOk) hon rfl,
    fun _ _ _ => pltAccWrite_writes, fun _ _ _ => pltAccWrite_privileged,
    fun _ slot _ hon _ _ _ => happen_eq (f := (·.arcExport slot)) hon rfl⟩

end Sys2Proof.Machine
end

section
/-! PROOFS. Boot commands (O22). -/

namespace Sys2Proof.Machine

open Safety

/-- An idle flash port takes an operation through the unprivileged view (R557). -/
theorem State.flashRow_idle {s : State} (port op addr kib slot : Nat) (hidle : s.on BOOT_FL_CTL.BUSY = false) :
    s.flashRow port false op addr kib slot = (s.flashSet op addr kib slot).flashGo := by
  rw [State.flashRow, State.bootView, if_neg Bool.false_ne_true, if_neg (ne_true_of_eq_false hidle)]

theorem fuseReadDone_reads {t : Nat} {words : List (Nat × Nat × Nat)} {remaps spares : List (Nat × Nat)} {s : State}
  (hon : Powered s) (hfresh : (s.adv t).fuse.done = false) :
    Does (.fuseReadDone t words remaps spares) s ((s.adv t).fusesRead words remaps spares) := by
  change execFuseReadDone t words remaps spares s = _
  exact happen_eq hon (if_neg (ne_true_of_eq_false hfresh))

theorem flashDiscovery_finds {t id mib : Nat} {ok fast : Bool} {headA headB : List Byte} {s : State} (hon : Powered
  s) (hfresh : (s.adv t).boot.found = false) (hphase : (s.adv t).bootPhase ≤ bpFlash) :
    Does (.flashDiscovery t id mib ok fast headA headB) s ((s.adv t).flashSeen id mib ok fast headA headB) := by
  change execFlashDiscovery t id mib ok fast headA headB s = _
  exact happen_eq hon (if_neg (not_or.2 ⟨ne_true_of_eq_false hfresh, Nat.not_lt.2 hphase⟩))

theorem slotCopyDone_ends {t slot : Nat} {answered poison : Bool} {image : List Byte} {s : State} (hon : Powered s)
  (hcopy : (s.adv t).bootPhase = bpCopy) (htries : (s.adv t).boot.tries.head? = some slot) (hends : ((s.adv
  t).slotTried slot answered image poison).bootPhase ≠ bpCopy) :
    Does (.slotCopyDone t slot answered image poison) s (((s.adv t).slotTried slot answered image poison).flashNext) := by
  change execSlotCopyDone t slot answered image poison s = _
  exact happen_eq hon ((if_pos ⟨hcopy, htries⟩).trans (if_neg hends))

theorem slotCopyDone_switches {t slot : Nat} {answered poison : Bool} {image : List Byte} {s : State} (hon : Powered
  s) (hphase : (s.adv t).bootPhase = bpSwitch) (hslot : (s.adv t).boot.switching = some slot) :
    Does (.slotCopyDone t slot answered image poison) s (((s.adv t).switchTried slot answered image
      poison).flashNext) := by
  change execSlotCopyDone t slot answered image poison s = _
  have hother : ¬((s.adv t).bootPhase = bpCopy ∧ (s.adv t).boot.tries.head? = some slot) := by
    rw [hphase]
    exact fun h => absurd h.1 (by decide)
  exact happen_eq hon ((if_neg hother).trans (if_pos ⟨hphase, hslot⟩))

theorem retryBoot_tries {t port : Nat} {s : State} (hon : Powered s) (hfail : (s.adv t).bootPhase = bpFail) :
    Does (.retryBoot t port false) s
      (({ (s.adv t) with boot := { (s.adv t).boot with tries := (s.adv t).slotOrder, loadFrom := (s.adv t).now } } :
      State).wr BOOT_STAT.PHASE bpCopy) := by
  change execRetryBoot t port false s = _
  exact happen_eq hon ((if_neg Bool.false_ne_true).trans (if_neg (not_not_intro hfail)))

theorem switch_begins {t port slot : Nat} {s : State} (hon : Powered s) (hslot : slot < 2) (hrun : ((s.adv t).wr
  BOOT_CTL.SWITCH_SLOT slot).bootPhase = bpRun) (hfinished : (s.adv t).boot.unfinished = false) :
    Does (.switch t port false slot) s
      (({ (s.adv t).wr BOOT_CTL.SWITCH_SLOT slot with boot := { (s.adv t).boot with switching := some slot, loadFrom := (s.adv t).now } }
      : State).wr BOOT_STAT.PHASE bpSwitch) := by
  change execSwitch t port false slot s = _
  unfold execSwitch
  refine happen_eq hon ((if_neg Bool.false_ne_true).trans ?_)
  have hunswitched : ¬bpRun = bpSwitch := by decide
  simp only [State.switchGo, hrun, hfinished, Nat.mod_eq_of_lt hslot, State.wr_boot, State.now_wr, if_neg hunswitched, ne_eq, not_true,
    Bool.false_eq_true, if_false]

theorem switchFinish_finishes {t : Nat} {s : State} (hon : Powered s) (hunfinished : (s.adv t).boot.unfinished =
  true) (hold : (s.adv t).ses.ctx.any (fun p => ((s.adv t).aux p.1).oldBundle) = false) :
    Does (.switchFinish t) s
      ((({ (s.adv t) with boot := { (s.adv t).boot with unfinished := false, copyOld := [] }, ast := { (s.adv t).ast with old := none } }
      : State).bump BOOT_CNT_SWITCH.COUNT).irq BOOT_IRQ_STAT.SWITCH_DONE) := by
  change execSwitchFinish t s = _
  refine happen_eq hon (if_neg ?_)
  rw [hunfinished, hold]
  decide

theorem recopy_copies {t record : Nat} {answered poison : Bool} {image : List Byte} {s : State} (hon : Powered s)
  (himage : (s.adv t).on BOOT_STAT.IMAGE_OK = true) (hrecord : record < imgNrec (s.adv t).boot.copy) :
    Does (.recopy t record answered image poison) s ((s.adv t).recopied record answered image poison) := by
  change execRecopy t record answered image poison s = _
  exact happen_eq hon (if_neg (not_or.2 ⟨by simp [himage], Nat.not_le.2 hrecord⟩))

theorem flashMoveRow_starts {t port addr kib slot op : Nat} {c : Instr} {s : State} (hon : Powered s) (hrow : (c, op)
  ∈ [(Instr.read t port false addr kib slot, 0), (Instr.program t port false addr kib slot, 1)]) (hidle : (s.adv
  t).on BOOT_FL_CTL.BUSY = false) (_hgood : ((s.adv t).flashSet op addr kib slot).flashBad = false) :
    Does (c) s (((s.adv t).flashSet op addr kib slot).flashGo) := by
  simp only [List.mem_cons, List.not_mem_nil, or_false, Prod.mk.injEq] at hrow
  obtain ⟨rfl, rfl⟩ | ⟨rfl, rfl⟩ := hrow
  · exact happen_eq (f := (·.flashRow port false 0 addr kib slot)) hon (State.flashRow_idle _ _ _ _ _ hidle)
  · exact happen_eq (f := (·.flashRow port false 1 addr kib slot)) hon (State.flashRow_idle _ _ _ _ _ hidle)

theorem flashEraseRow_starts {t port addr op : Nat} {c : Instr} {s : State} (hon : Powered s) (hrow : (c, op) ∈
  [(Instr.erase4 t port false addr, 2), (Instr.erase64 t port false addr, 3)]) (hidle : (s.adv t).on BOOT_FL_CTL.BUSY
  = false) (_hgood : ((s.adv t).flashSet op addr 0 0).flashBad = false) :
    Does (c) s (((s.adv t).flashSet op addr 0 0).flashGo) := by
  simp only [List.mem_cons, List.not_mem_nil, or_false, Prod.mk.injEq] at hrow
  obtain ⟨rfl, rfl⟩ | ⟨rfl, rfl⟩ := hrow
  · exact happen_eq (f := (·.flashRow port false 2 addr 0 0)) hon (State.flashRow_idle _ _ _ _ _ hidle)
  · exact happen_eq (f := (·.flashRow port false 3 addr 0 0)) hon (State.flashRow_idle _ _ _ _ _ hidle)

theorem flashOpDone_ends {t : Nat} {answered : Bool} {data : List Byte} {o : FlashOp} {s : State} (hon : Powered s)
  (hop : (s.adv t).boot.op = some o) (hruns : o.on = true) :
    Does (.flashOpDone t answered data) s ((s.adv t).flashDone o answered data) := by
  change execFlashOpDone t answered data s = _
  unfold execFlashOpDone
  refine happen_eq hon ?_
  simp only [hop, hruns, Bool.not_true, Bool.false_eq_true, if_false]

/-- Settles O22: row by row; the flash port's four operations by one law. -/
theorem bootCommandsTakeEffect : Obligations.BootCommandsTakeEffect := by
  unfold Obligations.BootCommandsTakeEffect
  exact ⟨fun _ _ _ _ _ => fuseReadDone_reads, fun _ _ _ _ _ _ _ _ => flashDiscovery_finds,
    fun _ _ _ _ _ _ => slotCopyDone_ends, fun _ _ _ _ _ _ => slotCopyDone_switches,
    fun _ _ hon _ _ _ _ => happen_eq
      (f := fun s => (s.bootRecord s.boot.cause (s.rd BOOT_STAT.SLOT_RUN)).bootRun) hon rfl,
    fun _ _ _ => retryBoot_tries, fun _ _ _ _ => switch_begins, fun _ _ => switchFinish_finishes,
    fun _ _ _ _ _ _ => recopy_copies, fun _ _ _ _ _ _ _ _ => flashMoveRow_starts,
    fun _ _ _ _ _ _ => flashEraseRow_starts, fun _ _ _ _ _ => flashOpDone_ends⟩

end Sys2Proof.Machine
end

section
/-! PROOFS. Power commands (O23). -/

namespace Sys2Proof.Machine

open Safety

theorem domainSequenceDone_ends {t d : Nat} {q : DomSeq} {s : State} (hon : Powered s) (hseq : SMap.find (s.adv
  t).pwr.doms d = some q) (hahead : q.rev = false) (hlong : q.start + usT (if q.up then 24 else 4) ≤ (s.adv t).now) :
    Does (.domainSequenceDone t d) s ((if q.up then
      ((({ (s.adv t) with pwr := { (s.adv t).pwr with doms := SMap.del (s.adv t).pwr.doms d } } : State).wr
      PWR_DOM_STAT.STEP 0 d).wr PWR_DOM_STAT.DOWN 0 d).domCome d else
      ((({ (s.adv t) with pwr := { (s.adv t).pwr with doms := SMap.del (s.adv t).pwr.doms d } } : State).wr
      PWR_DOM_STAT.STEP 0 d).wr PWR_DOM_STAT.DOWN 0 d).domGone d).pwrS01) := by
  change execDomainSequenceDone t d s = _
  unfold execDomainSequenceDone
  refine happen_eq hon ?_
  have hends : ¬(q.rev = true ∨ (s.adv t).now < q.start + usT (if q.up then 24 else 4)) :=
    not_or.2 ⟨ne_true_of_eq_false hahead, Nat.not_lt.2 hlong⟩
  simp only [hseq, if_neg hends]
  split <;> rfl

theorem doze_dozes {t d : Nat} {s : State} (hon : Powered s) (hpos : 0 < d) (hd : d < 9) (hstill : (s.adv
  t).domMoving d = false) (hpwr : (s.adv t).pwrState ≤ psS1) (hrun : (s.adv t).domSt d = dsRun) (hidle : (s.adv t).rd
  PWR_DOM_IDLE.DOZE_US d ≠ 0) :
    Does (.doze t d true) s (((s.adv t).setDom d dsDoze).pwrS01) := by
  change execDoze t d true s = _
  have hacts : ¬(d = 0 ∨ 9 ≤ d ∨ (s.adv t).domMoving d = true ∨ (s.adv t).pwrState > psS1) := by
    rw [hstill]
    simp
    omega
  exact happen_eq hon ((if_neg hacts).trans ((if_pos rfl).trans (if_pos ⟨hrun, hidle⟩)))

theorem doze_runs {t d : Nat} {s : State} (hon : Powered s) (hpos : 0 < d) (hd : d < 9) (hstill : (s.adv t).domMoving
  d = false) (hpwr : (s.adv t).pwrState ≤ psS1) (hdoze : (s.adv t).domSt d = dsDoze) :
    Does (.doze t d false) s (((s.adv t).setDom d dsRun).pwrS01) := by
  change execDoze t d false s = _
  have hacts : ¬(d = 0 ∨ 9 ≤ d ∨ (s.adv t).domMoving d = true ∨ (s.adv t).pwrState > psS1) := by
    rw [hstill]
    simp
    omega
  exact happen_eq hon ((if_neg hacts).trans ((if_neg Bool.false_ne_true).trans (if_pos hdoze)))

theorem s2Entry_begins {t : Nat} {s : State} (hon : Powered s) (hseq : (s.adv t).pwr.seq = none) (hblock : (s.adv
  t).pwrBlock = 0) (hpwr : ((s.adv t).wr PWR_STAT.BLOCK 0).pwrState ≤ psS1) (hdoms : (s.adv t).pwr.doms = [])
  (hhalting : (s.adv t).pwr.halting = []) :
    Does (.s2Entry t) s
      (({ ((s.adv t).wr PWR_STAT.BLOCK 0).beforeSleep with pwr := { ((s.adv t).wr PWR_STAT.BLOCK 0).beforeSleep.pwr with seq := some { kind := 1, start := ((s.adv t).wr PWR_STAT.BLOCK 0).beforeSleep.now } } }
      : State).wr PWR_STAT.MOVING 1) := by
  change execS2Entry t s = _
  unfold execS2Entry
  refine happen_eq hon ?_
  simp only [hseq, hblock, State.wr_pwr, hdoms, hhalting, List.isEmpty_nil, and_true]
  exact if_pos hpwr

theorem s2Entry_enters {t : Nat} {q : PwrSeq} {s : State} (hon : Powered s) (hseq : (s.adv t).pwr.seq = some q)
  (hkind : q.kind = 1) (hahead : q.rev = false) (hqueue : (s.adv t).plt.queue = []) (hbanks : (s.adv t).plt.banks =
  []) (hlong : q.start + usT 4 ≤ (s.adv t).now) :
    Does (.s2Entry t) s ((s.adv t).enterS2) := by
  change execS2Entry t s = _
  unfold execS2Entry
  refine happen_eq hon ?_
  simp only [hseq, hkind, hahead, hqueue, hbanks, List.isEmpty_nil, Bool.not_false, true_and]
  exact if_pos hlong

theorem s3Entry_begins {t : Nat} {s : State} (hon : Powered s) (hseq : (s.adv t).pwr.seq = none) (hs2 : (s.adv
  t).pwrState = psS2) (hen : (s.adv t).on PWR_IDLE_CFG.S3_EN = true) (hblock : setBit (s.adv t).pwrBlock 4 false = 0)
  (hlong : (s.adv t).pwr.s2At + secT (orOne ((s.adv t).rd PWR_IDLE_CFG.S3_IDLE)) ≤ (s.adv t).now) :
    Does (.s3Entry t) s
      (({ (s.adv t) with pwr := { (s.adv t).pwr with seq := some { kind := 2, start := (s.adv t).now } } } :
      State).wr PWR_STAT.MOVING 1) := by
  change execS3Entry t s = _
  unfold execS3Entry
  refine happen_eq hon ?_
  simp only [hseq]
  exact if_pos ⟨hs2, hen, hblock, hlong⟩

theorem s3Entry_enters {t : Nat} {q : PwrSeq} {s : State} (hon : Powered s) (hseq : (s.adv t).pwr.seq = some q)
  (hkind : q.kind = 2) (hahead : q.rev = false) (hlong : q.start + usT 20 ≤ (s.adv t).now) :
    Does (.s3Entry t) s ((s.adv t).enterS3) := by
  change execS3Entry t s = _
  unfold execS3Entry
  refine happen_eq hon ?_
  simp only [hseq, hkind, hahead, Bool.not_false, true_and]
  exact if_pos hlong

theorem pollLeadTimer_wakes {t a : Nat} {s : State} (hon : Powered s) (hlead : (s.adv t).pwr.leadAt = some a) (hdue :
  a ≤ (s.adv t).now) (hs2 : (s.adv t).pwrState = psS2) :
    Does (.pollLeadTimer t) s (({ (s.adv t) with pwr := { (s.adv t).pwr with leadAt := none } } : State).wakeBy 4) := by
  change execPollLeadTimer t s = _
  unfold execPollLeadTimer
  refine happen_eq hon ?_
  simp only [hlead]
  exact if_pos ⟨hdue, hs2⟩

theorem wake_wakes {t src pin : Nat} {s : State} (hon : Powered s) (hlo : 1 ≤ src) (hhi : src ≤ 6) (_hasleep :
  ((s.adv t).pwrState = psS2 ∨ (s.adv t).pwrState = psS3)) (_hseq : (s.adv t).pwr.seq = none) :
    Does (.wake t src pin) s ((s.adv t).wakeBy src (pin % 8)) := by
  change execWake t src pin s = _
  exact happen_eq hon (if_pos ⟨hlo, hhi⟩)

theorem wakeDone_fromS2 {t aon : Nat} {q : PwrSeq} {s : State} (hon : Powered s) (hseq : (s.adv t).pwr.seq = some q)
  (hkind : q.kind = 3) (hlong : q.start + usT 50 ≤ (s.adv t).now) :
    Does (.wakeDone t aon) s ((s.adv t).wakeDone false aon) := by
  change execWakeDone t aon s = _
  unfold execWakeDone
  refine happen_eq hon ?_
  simp only [hseq]
  exact if_pos ⟨hkind, hlong⟩

theorem wakeDone_fromS3 {t aon : Nat} {q : PwrSeq} {s : State} (hon : Powered s) (hseq : (s.adv t).pwr.seq = some q)
  (hkind : q.kind = 4) (hlong : q.start + msT 2 ≤ (s.adv t).now) :
    Does (.wakeDone t aon) s ((s.adv t).wakeDone true aon) := by
  change execWakeDone t aon s = _
  unfold execWakeDone
  refine happen_eq hon ?_
  simp only [hseq]
  exact (if_neg fun h => absurd (h.1.symm.trans hkind) (by decide)).trans (if_pos ⟨hkind, hlong⟩)

theorem reversal_ofDevice {t : Nat} {q : PwrSeq} {s : State} (hon : Powered s) (_hseq : (s.adv t).pwr.seq = some q)
  (_hrev : q.rev = true) :
    Does (.reversal t 9) s ((s.adv t).devReverse) := by
  change execReversal t 9 s = _
  exact happen_eq hon (if_pos rfl)

theorem reversal_ofDomain {t d : Nat} {q : DomSeq} {s : State} (hon : Powered s) (hd : d ≠ 9) (hseq : SMap.find
  (s.adv t).pwr.doms d = some q) (hrev : q.rev = true) :
    Does (.reversal t d) s (((s.adv t).domBegin d (!q.up) (revAgo q.up ((s.adv t).usSince q.start))).revCount d) := by
  change execReversal t d s = _
  refine happen_eq hon ((if_neg hd).trans ?_)
  simp only [State.domReverse, hseq, hrev, if_true]

theorem voltageCommand_manual {t mv : Nat} {s : State} (hon : Powered s) (hmode : ((s.adv t).wr PWR_AVS_TGT.TGT_MV
  mv).on PWR_PERF.MODE = true) :
    Does (.voltageCommand t mv) s (((s.adv t).wr PWR_AVS_TGT.TGT_MV mv).avsCommand (mv % 1024)) := by
  change execVoltageCommand t mv s = _
  exact happen_eq hon (if_pos hmode)

theorem voltageCommand_automatic {t mv : Nat} {s : State} (hon : Powered s) (hmode : ((s.adv t).wr PWR_AVS_TGT.TGT_MV
  mv).on PWR_PERF.MODE = false) :
    Does (.voltageCommand t mv) s ((s.adv t).wr PWR_AVS_TGT.TGT_MV mv) := by
  change execVoltageCommand t mv s = _
  exact happen_eq hon (if_neg (ne_true_of_eq_false hmode))

theorem avsAck_acknowledges {t status : Nat} {w : AvsWrite} {s : State} (hon : Powered s) (havs : (s.adv t).pwr.avs =
  some w) (hacked : w.acked = none) :
    Does (.avsAck t status) s ((s.adv t).avsAcked w status) := by
  change execAvsAck t status s = _
  unfold execAvsAck
  refine happen_eq hon ?_
  simp only [havs, hacked, Option.isSome_none, Bool.false_eq_true, if_false]

theorem voutRead_reads {t vout vmon : Nat} {w : AvsWrite} {s : State} (hon : Powered s) (havs : (s.adv t).pwr.avs =
  some w) (hacked : w.acked.isSome = true) (hlong : w.readAt + usT 20 ≤ (s.adv t).now) :
    Does (.voutRead t vout vmon) s ((s.adv t).avsRead w vout vmon) := by
  change execVoutRead t vout vmon s = _
  unfold execVoutRead
  refine happen_eq hon ?_
  rw [← Option.not_isNone, Bool.not_eq_true'] at hacked
  simp only [havs, hacked, Nat.not_lt.2 hlong, Bool.false_eq_true, or_self, if_false]

theorem avsFailure_fails {t kind status : Nat} {w : AvsWrite} {s : State} (hon : Powered s) (havs : (s.adv t).pwr.avs
  = some w) (hacked : w.acked = none) (hkind : (kind = 1 ∨ kind = 2)) :
    Does (.avsFailure t kind status) s ((s.adv t).avsFailed w kind status) := by
  change execAvsFailure t kind status s = _
  unfold execAvsFailure
  refine happen_eq hon ?_
  have hdue : (kind == 1 || kind == 2 ||
      (kind == 0 && decide ((s.adv t).now ≥ w.issued + usT (orOne ((s.adv t).rd PWR_AVS_CFG.ACK_US))))) = true := by
    rcases hkind with rfl | rfl <;> simp
  simp only [havs, hacked, hdue, Bool.not_true, Bool.false_eq_true, if_false]

theorem fallbackRead_reads {t vout vmon : Nat} {good : Bool} {s : State} (hon : Powered s) (hfallback : (s.adv t).on
  PWR_STAT.FALLBACK = true) (hlong : (s.adv t).pwr.fallRead + msT 100 ≤ (s.adv t).now) :
    Does (.fallbackRead t vout vmon good) s ((s.adv t).fallbackTaken vout vmon good) := by
  change execFallbackRead t vout vmon good s = _
  exact happen_eq hon (if_neg (not_or.2 ⟨by simp [hfallback], Nat.not_lt.2 hlong⟩))

theorem vmonStable_restores {t vmon : Nat} {s : State} (hon : Powered s) (hfallback : (s.adv t).on PWR_STAT.FALLBACK
  = true) (hvmon : (s.adv t).rd PWR_FREQ.VMIN_FULL + 15 ≤ vmon) (hfree : ((s.adv t).vmonReg vmon).on
  PWR_FREQ.FORCE_HALF = false) :
    Does (.vmonStable t vmon) s (((s.adv t).vmonReg vmon).setHalf false) := by
  change execVmonStable t vmon s = _
  exact happen_eq hon ((if_pos ⟨hfallback, hvmon⟩).trans (if_neg (ne_true_of_eq_false hfree)))

theorem wakePinFire_wakes {t p : Nat} {s : State} (hon : Powered s) (hp : p < 8) (hlevel : (s.adv t).on
  PWR_WAKE_CFG.LEVEL p = false) (hen : ((s.adv t).wr PWR_WAKE_CFG.LEVEL 1 p).on PWR_WAKE_CFG.EN p = true) :
    Does (.wakePinFire t p true) s (State.wakeBy (((((s.adv t).wr PWR_WAKE_CFG.LEVEL 1 p).wr PWR_WAKE_CFG.FIRED 1
      p).bump PWR_WAKE_CFG.COUNT p).irq PWR_IRQ_STAT.WAKE_PIN) 1 p) := by
  change execWakePinFire t p true s = _
  refine happen_eq hon ((if_neg (Nat.not_le.2 hp)).trans ((if_neg (by simp)).trans ?_))
  simp only [State.wakePin, hlevel, hen, Bool.not_true, Bool.false_eq_true, false_and, or_self, if_false]

theorem wakePinFire_released {t p : Nat} {s : State} (hon : Powered s) (hp : p < 8) :
    Does (.wakePinFire t p false) s ((s.adv t).wr PWR_WAKE_CFG.LEVEL 0 p) := by
  change execWakePinFire t p false s = _
  exact happen_eq hon ((if_neg (Nat.not_le.2 hp)).trans (if_pos rfl))

/-- Settles O23: row by row, by the sequence or the domain state that each finds. -/
theorem powerCommandsTakeEffect : Obligations.PowerCommandsTakeEffect := by
  unfold Obligations.PowerCommandsTakeEffect
  exact ⟨fun _ d _ hon _ _ => happen_eq (f := (·.domainOff d)) hon rfl,
    fun _ d _ hon _ _ => happen_eq (f := (·.domainOn d)) hon rfl, fun _ _ _ _ => domainSequenceDone_ends,
    fun _ _ _ => doze_dozes, fun _ _ _ => doze_runs, fun _ _ => s2Entry_begins, fun _ _ _ => s2Entry_enters,
    fun _ _ => s3Entry_begins, fun _ _ _ => s3Entry_enters, fun _ _ _ => pollLeadTimer_wakes,
    fun _ _ _ _ => wake_wakes, fun _ _ _ _ => wakeDone_fromS2, fun _ _ _ _ => wakeDone_fromS3,
    fun _ _ _ => reversal_ofDevice, fun _ _ _ _ => reversal_ofDomain,
    fun _ _ hon _ => happen_eq (f := State.pwrOff) hon rfl, fun _ _ _ => voltageCommand_manual,
    fun _ _ _ => voltageCommand_automatic,
    fun _ band _ hon => happen_eq (f := fun s => (s.wr PWR_PERF.BAND_NOW band).avsRefresh) hon rfl,
    fun _ _ _ _ => avsAck_acknowledges, fun _ _ _ _ _ => voutRead_reads, fun _ _ _ _ _ => avsFailure_fails,
    fun _ _ _ _ _ => fallbackRead_reads, fun _ _ _ => vmonStable_restores, fun _ _ _ => wakePinFire_wakes,
    fun _ _ _ => wakePinFire_released⟩

end Sys2Proof.Machine
end

section
/-! PROOFS. Host-interface commands (O24). -/

namespace Sys2Proof.Machine

open Safety

theorem State.flushEvents_hands {s : State} (hheld : s.hif.evBuf ≠ []) : s.flushEvents = State.holdSlot 9 s.handEvents :=
  if_neg (by simpa using hheld)

/-- A flag command of some slots walks them; a RETURN may serve what waits for a slot (R599). -/
theorem State.flagCommand_walks (s : State) {op n : Nat} (slot : Nat) (hop : op ≤ opReturn) (hn : 0 < n) :
    s.flagCommand op slot n =
      if op = opReturn then State.holdSlot 9 (flagWalk op (min n 16384) (slot % 16384) s)
      else flagWalk op (min n 16384) (slot % 16384) s :=
  if_neg (by omega)

theorem claim_walks {t slot n : Nat} {s : State} (hon : Powered s) (hn : 0 < n) :
    Does (.claim t slot n) s (flagWalk opClaim (min n 16384) (slot % 16384) (s.adv t)) := by
  change execClaim t slot n s = _
  exact happen_eq hon (State.flagCommand_walks _ _ (by decide) hn)

theorem give_walks {t slot n : Nat} {s : State} (hon : Powered s) (hn : 0 < n) :
    Does (.give t slot n) s (flagWalk opGive (min n 16384) (slot % 16384) (s.adv t)) := by
  change execGive t slot n s = _
  exact happen_eq hon (State.flagCommand_walks _ _ (by decide) hn)

theorem return_walks {t slot n : Nat} {s : State} (hon : Powered s) (hn : 0 < n) :
    Does (.return t slot n) s (State.holdSlot 9 (flagWalk opReturn (min n 16384) (slot % 16384) (s.adv t))) := by
  change execReturn t slot n s = _
  exact happen_eq hon (State.flagCommand_walks _ _ (by decide) hn)

theorem flushTimeout_hands {t : Nat} {s : State} (hon : Powered s) (hlong : (s.adv t).hif.evFirst + usT (10 * orOne
  ((s.adv t).rd HIF_EVT_CFG.FLUSH_US)) ≤ (s.adv t).now) (hheld : (s.adv t).hif.evBuf ≠ []) :
    Does (.flushTimeout t) s (State.holdSlot 9 (s.adv t).handEvents) := by
  change execFlushTimeout t s = _
  exact happen_eq hon ((if_neg (Nat.not_lt.2 hlong)).trans (State.flushEvents_hands hheld))

theorem evtFlush_hands {t : Nat} {s : State} (hon : Powered s) (hheld : (s.adv t).hif.evBuf ≠ []) :
    Does (.evtFlush t) s (State.holdSlot 9 (s.adv t).handEvents) := by
  change execEvtFlush t s = _
  exact happen_eq hon (State.flushEvents_hands hheld)

theorem statsSnapshot_takes {t : Nat} {s : State} (hon : Powered s) (hperiod : (s.adv t).rd HIF_STATS_CFG.PERIOD_S ≠
  0) (hlong : (s.adv t).hif.snapLast + secT ((s.adv t).rd HIF_STATS_CFG.PERIOD_S) ≤ (s.adv t).now) :
    Does (.statsSnapshot t) s ((s.adv t).snapshot) := by
  change execStatsSnapshot t s = _
  exact happen_eq hon (if_neg (not_or.2 ⟨hperiod, Nat.not_lt.2 hlong⟩))

theorem vectorSend_sends {t v granted : Nat} {s : State} (hon : Powered s) (hv : v < 16) (hdue : ((s.adv t).vecHost v
  granted false false).vecDue v = true) (hfree : ((s.adv t).vecHost v granted false false).hif.held.contains v =
  false) :
    Does (.vectorSend t v granted false false) s (((s.adv t).vecHost v granted false false).vecSend v) := by
  change execVectorSend t v granted false false s = _
  unfold execVectorSend
  refine happen_eq hon ?_
  simp only [Nat.mod_eq_of_lt hv, hdue, hfree, Bool.not_true, Bool.false_eq_true, or_self, if_false]

theorem vectorSend_holds {t v granted : Nat} {s : State} (hon : Powered s) (hv : v < 16) (hdue : ((s.adv t).vecHost v
  granted true false).vecDue v = true) (hfree : ((s.adv t).vecHost v granted true false).hif.held.contains v = false)
  :
    Does (.vectorSend t v granted true false) s
      (({ (s.adv t).vecHost v granted true false with hif := { ((s.adv t).vecHost v granted true false).hif with held := v :: ((s.adv t).vecHost v granted true false).hif.held } }
      : State).bump HIF_VEC_CNT.PBA v) := by
  change execVectorSend t v granted true false s = _
  unfold execVectorSend
  refine happen_eq hon ?_
  simp only [Nat.mod_eq_of_lt hv, hdue, hfree, Bool.not_true, Bool.false_eq_true, or_self, if_false, if_true]

theorem msiUnmask_sends {t v : Nat} {s : State} (hon : Powered s) (hv : v < 16) (hheld : (s.adv t).hif.held.contains
  v = true) (hpends :
  (({ (s.adv t) with hif := { (s.adv t).hif with masked := (s.adv t).hif.masked.erase v, held := (s.adv t).hif.held.erase v } }
  : State).vecPend v).isEmpty = false) (hawake : (s.adv t).rd HIF_STAT.DSTATE = 0) :
    Does (.msiUnmask t v) s
      (({ (s.adv t) with hif := { (s.adv t).hif with masked := (s.adv t).hif.masked.erase v, held := (s.adv t).hif.held.erase v } }
      : State).vecSend v) := by
  change execMsiUnmask t v s = _
  unfold execMsiUnmask
  refine happen_eq hon ?_
  rw [Nat.mod_eq_of_lt hv]
  refine if_pos (Bool.and_eq_true_iff.2 ⟨Bool.and_eq_true_iff.2 ⟨hheld, ?_⟩, beq_iff_eq.2 hawake⟩)
  exact congrArg not hpends

theorem linkDownTimeout_resets {t d : Nat} {s : State} (hon : Powered s) (hdown : (s.adv t).hif.downSince = some d)
  (hfresh : (s.adv t).hif.downDone = false) (hlong : d + msT 100 ≤ (s.adv t).now) :
    Does (.linkDownTimeout t) s ((({ (s.adv t) with hif := { (s.adv t).hif with downDone := true } } :
      State).hostSide.hifEvent 1 0).archiveEvent 0x13 0 (2 ^ 28)) := by
  change execLinkDownTimeout t s = _
  unfold execLinkDownTimeout
  refine happen_eq hon ?_
  simp only [hdown]
  exact if_neg (not_or.2 ⟨ne_true_of_eq_false hfresh, Nat.not_lt.2 hlong⟩)

theorem pcieLinkUp_trains {t rate width : Nat} {flit : Bool} {s : State} (hon : Powered s) (hdown : (s.adv t).on
  HIF_STAT.LINK_UP = false) (hup : (s.adv t).rep 0x13 ≠ stOff) :
    Does (.pcieLinkUp t rate width flit) s ((s.adv t).linkCome rate width flit) := by
  change execPcieLinkUp t rate width flit s = _
  exact happen_eq hon (if_neg (not_or.2 ⟨ne_true_of_eq_false hdown, hup⟩))

/-- Settles O24: row by row; the flag commands by one law. -/
theorem hostInterfaceCommandsTakeEffect : Obligations.HostInterfaceCommandsTakeEffect := by
  unfold Obligations.HostInterfaceCommandsTakeEffect
  exact ⟨fun _ _ _ _ => claim_walks, fun _ _ _ _ => give_walks, fun _ _ _ _ => return_walks,
    fun _ off data poison _ hon _ => happen_eq (f := fun s => windowWrite poison (data.length / 4096 + 2) off data
      { s with hif := { s.hif with barOn := true } }) hon rfl,
    fun _ _ => flushTimeout_hands, fun _ _ => evtFlush_hands, fun _ _ => statsSnapshot_takes,
    fun _ _ hon => happen_eq (f := State.snapshot) hon rfl, fun _ _ _ _ => vectorSend_sends,
    fun _ _ _ _ => vectorSend_holds, fun _ _ _ => msiUnmask_sends,
    fun _ hot _ hon => happen_eq (f := fun s => ((s.hostSide.bump HIF_CNT_FLR.COUNT).hifEvent (if hot then 4 else 3) 0).archiveEvent
      0x13 0 ((if hot then 4 else 3) * 2 ^ 28)) hon rfl,
    fun _ _ _ => linkDownTimeout_resets, fun _ _ hon _ => happen_eq (f := State.linkDown) hon rfl,
    fun _ _ _ _ _ => pcieLinkUp_trains⟩

end Sys2Proof.Machine
end

section
/-! PROOFS. Baseline commands (O25). -/

namespace Sys2Proof.Machine

open Safety

/-- A port of this device that is authenticated serves a frame. -/
theorem State.port_auth {s : State} {p : Nat} (hp : p < 2) (hauth : s.portAuth p = true) :
    ¬(2 ≤ p ∨ (!s.portAuth p) = true) :=
  not_or.2 ⟨Nat.not_le.2 hp, by simp [hauth]⟩

/-- A port of this device that stands in a state. -/
theorem State.port_in {s : State} {p st : Nat} (hp : p < 2) (hst : s.portState p = st) :
    ¬(2 ≤ p ∨ s.portState p ≠ st) :=
  not_or.2 ⟨Nat.not_le.2 hp, not_not_intro hst⟩

theorem portTrainingDone_trains {t p kept skew : Nat} {reversed : Bool} {snr : List Nat} {s : State} (hon : Powered
  s) (hp : p < 2) (hst : (s.adv t).portState p = psTraining) (hen : (s.adv t).on BLN_PORT_CTL.EN p = true) (hup :
  ((s.adv t).rep 0x14 = stInit ∨ (s.adv t).rep 0x14 = stRun)) :
    Does (.portTrainingDone t p kept skew reversed snr) s ((s.adv t).portTrained p kept skew reversed snr) := by
  change execPortTrainingDone t p kept skew reversed snr s = _
  refine happen_eq hon (if_neg ?_)
  rintro (hfar | ⟨hnot, -⟩ | hoff | ⟨hinit, hrun⟩)
  · exact absurd hp (Nat.not_lt.2 hfar)
  · exact hnot hst
  · simp [hen] at hoff
  · exact hup.elim hinit hrun

theorem hello_takes {t p devid dev nonce : Nat} {down master : Bool} {s : State} (hon : Powered s) (hp : p < 2) (hst
  : (s.adv t).portState p = psTraining) :
    Does (.hello t p devid dev nonce down master) s ((s.adv t).helloTaken p devid dev nonce down master) := by
  change execHello t p devid dev nonce down master s = _
  exact happen_eq hon (if_neg (State.port_in hp hst))

theorem pairing_takes {t p : Nat} {held : Bool} {check : List (BitVec 8)} {s : State} (hon : Powered s) (hp : p < 2)
  (hst : (s.adv t).portState p = psPairing) (hnew : ((s.adv t).blnPort p).paired = false) :
    Does (.pairing t p held check) s ((s.adv t).pairingTaken p held check) := by
  change execPairing t p held check s = _
  refine happen_eq hon (if_neg ?_)
  rw [← or_assoc, not_or]
  exact ⟨State.port_in hp hst, ne_true_of_eq_false hnew⟩

theorem ident_takes {t p devid dev hops salt npart part : Nat} {master : Bool} {s : State} (hon : Powered s) (hp : p
  < 2) (hdev : dev < 8) (hup : (s.adv t).portState p = psUp) (hknown : (decide ((s.adv t).portState p = psPairing) &&
  ((s.adv t).blnPort p).paired && decide (dev = (s.adv t).rd BLN_PORT_STAT.PEER_DEV p)) = false) :
    Does (.ident t p devid dev hops salt npart part master) s (((s.adv t).blnHeard p dev false).identTaken p devid
      dev hops salt npart part master) := by
  change execIdent t p devid dev hops salt npart part master s = _
  unfold execIdent
  refine happen_eq hon ((if_neg (not_or.2 ⟨Nat.not_le.2 hp, Nat.not_le.2 hdev⟩)).trans ?_)
  rw [hup] at hknown
  simp only [hup, hknown, ne_eq, not_true, decide_false, Bool.and_false, Bool.false_and, Bool.false_eq_true, if_false]

theorem map_takes {t p gen anchorSeq : Nat} {members : List MapMember} {s : State} (hon : Powered s) (hp : p < 2)
  (hauth : (s.adv t).portAuth p = true) (hmember : (s.adv t).on BLN_STAT.MASTER_STRAP = false) :
    Does (.map t p gen anchorSeq members) s ((s.adv t).mapTaken p gen anchorSeq members) := by
  change execMap t p gen anchorSeq members s = _
  refine happen_eq hon (if_neg ?_)
  rw [← or_assoc, not_or]
  exact ⟨State.port_auth hp hauth, ne_true_of_eq_false hmember⟩

theorem blnLinkDown_ofLostSignal {t p : Nat} {far : List Nat} {s : State} (hon : Powered s) (hp : p < 2) (hup :
  (s.adv t).portState p = psUp) :
    Does (.blnLinkDown t p 0 far) s ((((s.adv t).bump BLN_PORT_CNT_LOS.COUNT p).portDown p).portTrain p) := by
  change execBlnLinkDown t p 0 far s = _
  refine happen_eq hon ((if_neg (Nat.not_le.2 hp)).trans ((if_neg (not_not_intro hup)).trans ((if_neg ?_).trans rfl)))
  exact fun h => absurd h.1 (by decide)

theorem blnLinkDown_ofLostErrors {t p : Nat} {far : List Nat} {s : State} (hon : Powered s) (hp : p < 2) (hup :
  (s.adv t).portState p = psUp) :
    Does (.blnLinkDown t p 1 far) s ((((s.adv t).bump BLN_PORT_CNT_FEC_DOWN.COUNT p).portDown p).portTrain p) := by
  change execBlnLinkDown t p 1 far s = _
  refine happen_eq hon ((if_neg (Nat.not_le.2 hp)).trans ((if_neg (not_not_intro hup)).trans ((if_neg ?_).trans rfl)))
  exact fun h => absurd h.1 (by decide)

theorem blnLinkDown_ofSilence {t p : Nat} {far : List Nat} {s : State} (hon : Powered s) (hp : p < 2) (hup : (s.adv
  t).portState p = psUp) (hlong : ((s.adv t).blnPort p).lastFrame + 3 * usT (clampTo 10 1000 ((s.adv t).rd
  BLN_TIME_CFG.SYNC_PERIOD)) ≤ (s.adv t).now) :
    Does (.blnLinkDown t p 2 far) s ((((s.adv t).bump BLN_PORT_CNT_IDLE_DOWN.COUNT p).portDown p).portTrain p) := by
  change execBlnLinkDown t p 2 far s = _
  refine happen_eq hon ((if_neg (Nat.not_le.2 hp)).trans ((if_neg (not_not_intro hup)).trans ((if_neg ?_).trans rfl)))
  exact fun h => absurd h.2 (Nat.not_lt.2 hlong)

theorem refusalRetry_trains {t p : Nat} {s : State} (hon : Powered s) (hp : p < 2) (hrefused : (s.adv t).portState p
  = psRefused) (hlong : ((s.adv t).blnPort p).since + msT (orOne ((s.adv t).rd BLN_LINK_CFG.RETRY_MS)) ≤ (s.adv
  t).now) :
    Does (.refusalRetry t p) s ((s.adv t).portTrain p) := by
  change execRefusalRetry t p s = _
  exact happen_eq hon (if_pos ⟨hp, hrefused, hlong⟩)

theorem retrain_trains {t p : Nat} {s : State} (hon : Powered s) (hp : p < 2) :
    Does (.retrain t p) s (((s.adv t).portDown p).portTrain p) := by
  change execRetrain t p s = _
  exact happen_eq hon (if_pos hp)

theorem syncPeriod_takes {t p ce ue : Nat} {s : State} (hon : Powered s) (hp : p < 2) (hauth : (s.adv t).portAuth p =
  true) :
    Does (.syncPeriod t p ce ue) s ((s.adv t).syncTaken p ce ue) := by
  change execSyncPeriod t p ce ue s = _
  exact happen_eq hon (if_neg (State.port_auth hp hauth))

theorem timeExchange_takes {t p t1 t2 t3 t4 corrFwd corrBack era count leap : Nat} {offset : Int} {stale : Bool}
  {s : State} (hon : Powered s) (hp : p < 2) (hauth : (s.adv t).portAuth p = true) :
    Does (.timeExchange t p t1 t2 t3 t4 corrFwd corrBack era count offset leap stale) s ((s.adv t).timeTaken p t1 t2
      t3 t4 corrFwd corrBack era count offset leap stale) := by
  change execTimeExchange t p t1 t2 t3 t4 corrFwd corrBack era count offset leap stale s = _
  exact happen_eq hon (if_neg (State.port_auth hp hauth))

theorem req_takes {t p src dst srcUnit dstUnit srcEpoch dstEpoch tag : Nat} {poison : Bool}
  {payload : List (BitVec 8)} {s : State} (hon : Powered s) (hp : p < 2) (hauth : (s.adv t).portAuth p = true) :
    Does (.req t p src dst srcUnit dstUnit srcEpoch dstEpoch tag poison payload) s ((s.adv t).reqTaken p src dst
      srcUnit dstUnit srcEpoch dstEpoch tag poison payload) := by
  change execReq t p src dst srcUnit dstUnit srcEpoch dstEpoch tag poison payload s = _
  exact happen_eq hon (if_neg (State.port_auth hp hauth))

theorem rply_takes {t p src dst srcUnit dstUnit reqEpoch tgtEpoch tag : Nat} {poison : Bool}
  {payload : List (BitVec 8)} {s : State} (hon : Powered s) (hp : p < 2) (hauth : (s.adv t).portAuth p = true) :
    Does (.rply t p src dst srcUnit dstUnit reqEpoch tgtEpoch tag poison payload) s ((s.adv t).rplyTaken p src dst
      srcUnit dstUnit reqEpoch tgtEpoch tag poison payload) := by
  change execRply t p src dst srcUnit dstUnit reqEpoch tgtEpoch tag poison payload s = _
  exact happen_eq hon (if_neg (State.port_auth hp hauth))

theorem envFrame_takes {t p src dst : Nat} {payload : List (BitVec 8)} {s : State} (hon : Powered s) (hp : p < 2)
  (hup : (s.adv t).portState p = psUp) :
    Does (.envFrame t p src dst payload) s ((s.adv t).envTaken p src dst payload) := by
  change execEnvFrame t p src dst payload s = _
  exact happen_eq hon (if_neg (State.port_in hp hup))

theorem racc_serves {t p src dst srcEpoch dstEpoch tag off data : Nat} {write : Bool} {s : State} (hon : Powered s)
  (hp : p < 2) (hauth : (s.adv t).portAuth p = true) (hdst : dst = ((s.adv t).blnHeard p src false).device) (hstate :
  (((s.adv t).blnHeard p src false).noteReq p src 0x14 srcEpoch tag).rd BLN_STAT.STATE ≠ 1) (hepoch : dstEpoch =
  (((s.adv t).blnHeard p src false).noteReq p src 0x14 srcEpoch tag).rd SYS_UNIT_STATE.EPOCH 0x14) :
    Does (.racc t p src dst srcEpoch dstEpoch tag write off data) s ((((s.adv t).blnHeard p src false).noteReq p src
      0x14 srcEpoch tag).raccServe src tag write (off % 2 ^ 24) data) := by
  change execRacc t p src dst srcEpoch dstEpoch tag write off data s = _
  refine happen_eq hon ((if_neg (State.port_auth hp hauth)).trans ?_)
  exact (if_neg (not_not_intro hdst)).trans (if_neg (not_or.2 ⟨hstate, not_not_intro hepoch⟩))

theorem raccTimeout_ends {t since tag : Nat} {s : State} (hon : Powered s) (hracc : (s.adv t).bln.racc = some (tag,
  since)) (hlong : since + usT 10 ≤ (s.adv t).now) :
    Does (.raccTimeout t) s
      (((({ (s.adv t) with bln := { (s.adv t).bln with racc := none, flight := (s.adv t).bln.flight.filter (fun f => f.tag != tag) } }
      : State).wr BLN_RACC_CTL.CODE ccTimeout).wr BLN_RACC_CTL.BUSY 0).irq BLN_IRQ_STAT.RACC_DONE) := by
  change execRaccTimeout t s = _
  unfold execRaccTimeout
  refine happen_eq hon ?_
  simp only [hracc]
  exact if_neg (Nat.not_lt.2 hlong)

/-- Settles O25: row by row, by the state of the port that each finds. -/
theorem baselineCommandsTakeEffect : Obligations.BaselineCommandsTakeEffect := by
  unfold Obligations.BaselineCommandsTakeEffect
  exact ⟨fun _ _ _ _ _ _ _ => portTrainingDone_trains, fun _ _ _ _ _ _ _ _ => hello_takes,
    fun _ _ _ _ _ => pairing_takes, fun _ _ _ _ _ _ _ _ _ _ => ident_takes, fun _ _ _ _ _ _ => map_takes,
    fun _ _ _ _ => blnLinkDown_ofLostSignal, fun _ _ _ _ => blnLinkDown_ofLostErrors,
    fun _ _ _ _ => blnLinkDown_ofSilence, fun _ _ _ => refusalRetry_trains, fun _ _ _ => retrain_trains,
    fun _ _ _ _ _ => syncPeriod_takes, fun _ _ _ _ _ _ _ _ _ _ _ _ _ _ => timeExchange_takes,
    fun _ _ _ _ _ _ _ _ _ _ _ _ => req_takes, fun _ _ _ _ _ _ _ _ _ _ _ _ => rply_takes,
    fun _ _ _ _ _ _ => envFrame_takes, fun _ _ hon _ _ _ => happen_eq (f := State.raccGo) hon rfl,
    fun _ _ _ _ _ _ _ _ _ _ _ => racc_serves, fun _ _ _ _ => raccTimeout_ends⟩

end Sys2Proof.Machine
end

section
/-! PROOFS. Management, monitor and pin commands (O26). -/

namespace Sys2Proof.Machine

open Safety

/-- A legacy transfer always addresses the target. -/
theorem State.addressed_legacy (s : State) : s.addressed true = true := rfl

/-- An I3C transfer addresses the target that has its dynamic address. -/
theorem State.addressed_i3c {s : State} (hi3c : s.on MGT_STAT.SMBUS = false) (hda : s.on MGT_STAT.DA = true) :
    s.addressed false = true := by
  simp [State.addressed, hi3c, hda]

/-- A port that is I3C hears a common command code. -/
theorem State.ccc_i3c {s : State} (hi3c : s.on MGT_STAT.SMBUS = false) (f : State → State) : s.ccc f = f s :=
  if_neg (ne_true_of_eq_false hi3c)

/-- A target without a dynamic address takes the one given. -/
theorem State.takeDa_free {s : State} (hfree : s.on MGT_STAT.DA = false) (da : Nat) :
    s.takeDa da = State.ibiSend { s.wr MGT_STAT.DA da with mgt := { s.mgt with hjReq := false } } :=
  if_neg (ne_true_of_eq_false hfree)

/-- A GET code sends its bytes from a target that has its dynamic address. -/
theorem getCcc_sends {c : Instr} {t : Nat} {s : State} (hon : Powered s) (hi3c : (s.adv t).on MGT_STAT.SMBUS = false)
    (hda : (s.adv t).on MGT_STAT.DA = true) (bytes : State → List Byte)
    (hexec : exec c s = happen t s (fun u => u.getCcc (bytes u))) : Does c s ((s.adv t).send (bytes (s.adv t))) :=
  hexec.trans (happen_eq hon ((State.ccc_i3c hi3c _).trans (if_pos hda)))

/-- With no line waiting the monitor serves none. -/
theorem State.eyeNext_none {s : State} (hheld : s.eye.held = none) : s.eyeNext = s := by
  simp [State.eyeNext, hheld]

/-- A line that arrives at an idle monitor is served at once. -/
theorem State.eyeLine_idle {s : State} {l : EyeCmd} (hheld : s.eye.held = none) (hidle : s.eye.busy = false) :
    s.eyeLine l = (s.bump EYE_CNT_LINE.COUNT).eyeServe l := by
  unfold State.eyeLine
  rw [State.eyeNext_none hheld]
  simp [hidle]

/-- A line that the monitor's state permits takes its effect, in an idle monitor out of reset. -/
theorem eyeRow_takesLine {c : Instr} {l : EyeCmd} {t : Nat} {s : State} (hexec : exec c s = eyeRow t l s)
    (hon : Powered s) (hup : (s.adv t).rep 0x16 ≠ stReset) (hheld : (s.adv t).eye.held = none)
    (hidle : (s.adv t).eye.busy = false) : TakesLine c l s (s.adv t) := fun hallowed =>
  hexec.trans (happen_eq hon ((if_neg hup).trans ((State.eyeLine_idle hheld hidle).trans (if_pos hallowed))))

/-- An estimate that spans 0.5 V and finds no earlier one is taken. -/
theorem capFresh {s : State} {fromMv : Nat} (hfrom : fromMv ≤ 2500) (hcap : s.rd PIN_VHOLD.CAP_UF = 0) :
    ¬(max 1000 fromMv + 500 > 3000 ∨ s.rd PIN_VHOLD.CAP_UF ≠ 0) :=
  not_or.2 ⟨by omega, not_not_intro hcap⟩

theorem writeTransfer_i3c {t : Nat} {bytes : List (BitVec 8)} {pecOn pecBad : Bool} {s : State} (hon : Powered s)
  (hi3c : (s.adv t).on MGT_STAT.SMBUS = false) (hda : (s.adv t).on MGT_STAT.DA = true) (hlen : bytes.length = 7) :
    Does (.writeTransfer t bytes false pecOn pecBad) s (((s.adv t).bump MGT_CNT_WR.COUNT).regWrite 1 (bit (leAt bytes
      0 3) 23) (leAt bytes 0 3 % 2 ^ 23) 4 (leAt bytes 3 4)) := by
  change execWriteTransfer t bytes false pecOn pecBad s = _
  unfold execWriteTransfer
  refine happen_eq hon ?_
  rw [State.addressed_i3c hi3c hda]
  simp [hlen]

theorem writeTransfer_legacy {t : Nat} {bytes : List (BitVec 8)} {s : State} (hon : Powered s) (hlen : bytes.length =
  7) :
    Does (.writeTransfer t bytes true true false) s (((s.adv t).legacy.bump MGT_CNT_WR.COUNT).regWrite 1 (bit (leAt
      bytes 0 3) 23) (leAt bytes 0 3 % 2 ^ 23) 4 (leAt bytes 3 4)) := by
  change execWriteTransfer t bytes true true false s = _
  unfold execWriteTransfer
  refine happen_eq hon ?_
  rw [State.addressed_legacy]
  simp [hlen]

theorem readTransfer_legacy {t off n : Nat} {s : State} (hon : Powered s) (hn : n ≤ 16) :
    Does (.readTransfer t off n true) s ((((s.adv t).legacy.readRun 1 off n).2.add MGT_CNT_RD.COUNT n).send ((s.adv
      t).legacy.readRun 1 off n).1) := by
  change execReadTransfer t off n true s = _
  unfold execReadTransfer
  refine happen_eq hon ?_
  rw [State.addressed_legacy, min_eq_left hn]
  rfl

theorem readTransfer_i3c {t off n : Nat} {s : State} (hon : Powered s) (hi3c : (s.adv t).on MGT_STAT.SMBUS = false)
  (hda : (s.adv t).on MGT_STAT.DA = true) (hn : n ≤ 16) (hawake : (s.adv t).nacks off n = false) :
    Does (.readTransfer t off n false) s ((((s.adv t).readRun 1 off n).2.add MGT_CNT_RD.COUNT n).send ((s.adv
      t).readRun 1 off n).1) := by
  change execReadTransfer t off n false s = _
  unfold execReadTransfer
  refine happen_eq hon ?_
  rw [State.addressed_i3c hi3c hda, min_eq_left hn]
  simp only [hawake, Bool.not_true, Bool.not_false, Bool.and_false, Bool.false_eq_true, if_false]

theorem enec_enables {t ev : Nat} {s : State} (hon : Powered s) (hi3c : (s.adv t).on MGT_STAT.SMBUS = false) :
    Does (.enec t ev) s (State.ibiSend
      { (s.adv t) with mgt := { (s.adv t).mgt with ibi := (s.adv t).mgt.ibi || bit ev 0, hj := (s.adv t).mgt.hj || bit ev 3 } }) := by
  change execEnec t ev s = _
  exact happen_eq hon (State.ccc_i3c hi3c _)

theorem disec_disables {t ev : Nat} {s : State} (hon : Powered s) (hi3c : (s.adv t).on MGT_STAT.SMBUS = false) :
    Does (.disec t ev) s
      ({ (s.adv t) with mgt := { (s.adv t).mgt with ibi := (s.adv t).mgt.ibi && !bit ev 0, hj := (s.adv t).mgt.hj && !bit ev 3 } }) := by
  change execDisec t ev s = _
  exact happen_eq hon (State.ccc_i3c hi3c _)

theorem rstdaa_clears {t : Nat} {s : State} (hon : Powered s) (hi3c : (s.adv t).on MGT_STAT.SMBUS = false) :
    Does (.rstdaa t) s ((s.adv t).wr MGT_STAT.DA 0) := by
  change execRstdaa t s = _
  exact happen_eq hon (State.ccc_i3c hi3c _)

theorem entdaa_assigns {t da : Nat} {s : State} (hon : Powered s) (hi3c : (s.adv t).on MGT_STAT.SMBUS = false) (hfree
  : (s.adv t).on MGT_STAT.DA = false) :
    Does (.entdaa t da) s (State.ibiSend
      { (s.adv t).wr MGT_STAT.DA da with mgt := { (s.adv t).mgt with hjReq := false } }) := by
  change execEntdaa t da s = _
  exact happen_eq hon ((State.ccc_i3c hi3c _).trans (State.takeDa_free hfree da))

theorem setdasa_assigns {t da : Nat} {s : State} (hon : Powered s) (hi3c : (s.adv t).on MGT_STAT.SMBUS = false)
  (hfree : (s.adv t).on MGT_STAT.DA = false) :
    Does (.setdasa t (s.adv t).staticAddr da) s (State.ibiSend
      { (s.adv t).wr MGT_STAT.DA da with mgt := { (s.adv t).mgt with hjReq := false } }) := by
  change execSetdasa t (s.adv t).staticAddr da s = _
  exact happen_eq hon ((State.ccc_i3c hi3c _).trans ((if_pos rfl).trans (State.takeDa_free hfree da)))

theorem getCodes_send {t : Nat} {s : State} (hon : Powered s) (hi3c : (s.adv t).on MGT_STAT.SMBUS = false) (hda :
  (s.adv t).on MGT_STAT.DA = true) :
    (Does (.getpid t) s ((s.adv t).send (beBytes 4 (Config.i3cId 0).toNat ++ beBytes 2 ((s.adv t).devid % 65536))) ∧
      Does (.getbcr t) s ((s.adv t).send (beBytes 1 ((Config.i3cId 1).toNat % 256))) ∧ Does (.getdcr t) s ((s.adv
      t).send (beBytes 1 ((Config.i3cId 2).toNat % 256))) ∧ Does (.getstatus t) s ((s.adv t).send (beBytes 2
      ((Config.i3cId 3).toNat % 65536))) ∧ Does (.getmwl t) s ((s.adv t).send (beBytes 2 7)) ∧ Does (.getmrl t) s
      ((s.adv t).send (beBytes 2 64))) := by
  have sends {c : Instr} := getCcc_sends (c := c) hon hi3c hda
  exact ⟨sends (fun u => beBytes 4 (Config.i3cId 0).toNat ++ beBytes 2 (u.devid % 65536)) rfl,
    sends (fun _ => beBytes 1 ((Config.i3cId 1).toNat % 256)) rfl,
    sends (fun _ => beBytes 1 ((Config.i3cId 2).toNat % 256)) rfl,
    sends (fun _ => beBytes 2 ((Config.i3cId 3).toNat % 65536)) rfl,
    sends (fun _ => beBytes 2 7) rfl, sends (fun _ => beBytes 2 64) rfl⟩

theorem hotJoin_requests {t : Nat} {s : State} (hon : Powered s) (hi3c : (s.adv t).on MGT_STAT.SMBUS = false) (hen :
  (s.adv t).on MGT_I3C_CFG.HJ_EN = true) (hhj : (s.adv t).mgt.hj = true) (hfree : (s.adv t).on MGT_STAT.DA = false) :
    Does (.hotJoin t) s ({ (s.adv t).send (bytesOf [0x04]) with mgt := { (s.adv t).mgt with hjReq := true } }) := by
  change execHotJoin t s = _
  refine happen_eq hon ((State.ccc_i3c hi3c _).trans (if_pos ⟨hen, hhj, ?_⟩))
  rw [hfree]
  rfl

theorem alertResponse_releases {t : Nat} {s : State} (hon : Powered s) (halert : (s.adv t).legacy.mgt.alert = true) :
    Does (.alertResponse t) s
      ({ (s.adv t).legacy.send (leBytes 1 (2 * (s.adv t).legacy.staticAddr)) with mgt := { (s.adv t).legacy.mgt with alert := false } }) := by
  change execAlertResponse t s = _
  exact happen_eq hon (if_pos halert)

theorem envBufWrite_writes {t w : Nat} {s : State} (hon : Powered s) (hw : w < 2 ^ 32) :
    Does (.envBufWrite t 1 w) s ((s.adv t).regWrite 1 false 0x15003C 4 w) := by
  change execEnvBufWrite t 1 w s = _
  unfold execEnvBufWrite
  refine happen_eq hon ?_
  rw [Nat.mod_eq_of_lt hw]
  rfl

theorem mgtEnvSubmit_submits {t len : Nat} {s : State} (hon : Powered s) (hlen : len < 2 ^ 13) :
    Does (.mgtEnvSubmit t 1 len) s ((s.adv t).regWrite 1 false 0x150040 4 (2 ^ 31 + len * 2 ^ 16)) := by
  change execMgtEnvSubmit t 1 len s = _
  unfold execMgtEnvSubmit
  refine happen_eq hon ?_
  rw [Nat.mod_eq_of_lt hlen]
  rfl

theorem recon_resets {t u : Nat} {s : State} (hon : Powered s) (hu : u < 24) (hnever : reconNever u = false) (hunit :
  bit ((s.adv t).rd MGT_RECON_CFG.UNITS) u = true) (hgave : bit ((s.adv t).rd MGT_RECON_STAT.GAVE_UP) u = false)
  (hmiss : (s.adv t).on SYS_UNIT_STATE.MISMATCH u = true) (hlong : ((s.adv t).unitS u).missFrom + msT (orOne ((s.adv
  t).rd MGT_RECON_TIME.RECON_MS)) ≤ (s.adv t).now) (hrun : (s.adv t).rep u = stRun) (hmade : SMap.get (s.adv
  t).mgt.made u [] = []) (hmax : 1 ≤ (s.adv t).rd MGT_RECON_TIME.RECON_MAX) :
    Does (.recon t u) s ((s.adv t).reconReset u [] (decide ((s.adv t).rd MGT_RECON_TIME.RECON_MAX ≤ 1))) := by
  change execRecon t u s = _
  unfold execRecon
  refine happen_eq hon ?_
  have hsome : orOne ((s.adv t).rd MGT_RECON_TIME.RECON_MAX) = (s.adv t).rd MGT_RECON_TIME.RECON_MAX :=
    if_neg (Nat.ne_of_gt hmax)
  refine (if_neg ?_).trans ?_
  · rw [hnever, hunit, hgave, hmiss, hrun, decide_eq_false (Nat.not_le.2 hu), decide_eq_true hlong]
    decide
  · simp only [hmade, hsome, List.filter_nil, List.length_nil, Nat.zero_add]
    exact if_neg (Nat.not_le.2 hmax)

theorem temp_reads {t die temp : Nat} {s : State} (hon : Powered s) (hdie : die < 3) :
    Does (.temp t die temp) s ((s.adv t).tempRead die temp) := by
  change execTemp t die temp s = _
  exact happen_eq hon (if_neg (Nat.not_le.2 hdie))

theorem monitorLines_take {t : Nat} {s : State} (hon : Powered s) (hup : (s.adv t).rep 0x16 ≠ stReset) (hheld :
  (s.adv t).eye.held = none) (hidle : (s.adv t).eye.busy = false) :
    ((TakesLine (.idCmd t) .id s (s.adv t)) ∧ (TakesLine (.status t) .status s (s.adv t)) ∧ (TakesLine (.nonce t)
      .nonce s (s.adv t)) ∧ (∀ b : List Byte, TakesLine (.envCmd t b) (.env b) s (s.adv t)) ∧ (∀ o n : Nat, TakesLine
      (.rd t o n) (.rd o n) s (s.adv t)) ∧ (∀ o v : Nat, TakesLine (.wr t o v) (.wr o v) s (s.adv t)) ∧ (∀ (k : Nat)
      (on : Bool), TakesLine (.dbg t k on) (.dbg k on) s (s.adv t)) ∧ (∀ k : Nat, TakesLine (.halt t k) (.halt k) s
      (s.adv t)) ∧ (∀ k : Nat, TakesLine (.regs t k) (.regs k) s (s.adv t)) ∧ (∀ k sp a n : Nat, TakesLine (.mrd t k
      sp a n) (.mrd k sp a n) s (s.adv t)) ∧ (∀ k sp a v : Nat, TakesLine (.mwr t k sp a v) (.mwr k sp a v) s (s.adv
      t)) ∧ (∀ k : Nat, TakesLine (.step t k) (.step k) s (s.adv t)) ∧ (∀ k : Nat, TakesLine (.goCmd t k) (.go k) s
      (s.adv t))) := by
  have line (c : Instr) (l : EyeCmd) (hexec : exec c s = eyeRow t l s) := eyeRow_takesLine hexec hon hup hheld hidle
  exact ⟨line _ _ rfl, line _ _ rfl, line _ _ rfl, fun _ => line _ _ rfl, fun _ _ => line _ _ rfl,
    fun _ _ => line _ _ rfl, fun _ _ => line _ _ rfl, fun _ => line _ _ rfl, fun _ => line _ _ rfl,
    fun _ _ _ _ => line _ _ rfl, fun _ _ _ _ => line _ _ rfl, fun _ => line _ _ rfl, fun _ => line _ _ rfl⟩

theorem lineTimeout_counts {t last : Nat} {s : State} (hon : Powered s) (hlong : last + secT 1 ≤ (s.adv t).now)
  (hheld : (s.adv t).eye.held = none) :
    Does (.lineTimeout t last) s ((s.adv t).bump EYE_CNT_ERR.COUNT) := by
  change execLineTimeout t last s = _
  exact happen_eq hon ((if_pos hlong).trans (by rw [State.eyeNext_none hheld]))

theorem monitorGrantEnd_ends {t e : Nat} {s : State} (hon : Powered s) (hgrant : (s.adv t).eye.grantEnd = some e)
  (hpast : e ≤ (s.adv t).now) (hheld : (s.adv t).eye.held = none) :
    Does (.monitorGrantEnd t) s ((s.adv t).endMonitor) := by
  change execMonitorGrantEnd t s = _
  unfold execMonitorGrantEnd
  refine happen_eq hon ?_
  simp only [hgrant, if_pos hpast, State.eyeNext_none hheld]

theorem railFault_resets {t rail mv : Nat} {x : Straps} {s : State} (hfalls : railResets rail mv = true) :
    Does (.railFault t rail mv x) s ((if s.pwr.off then s else (s.adv t).railFall rail mv).deviceReset false rail x) := by
  change execRailFault t rail mv x s = _
  exact if_pos hfalls

theorem railFault_counts {t rail mv : Nat} {x : Straps} {s : State} (hon : Powered s) (hstays : railResets rail mv =
  false) (hrail : rail < 7) (hpowered : (s.adv t).railOn rail = true) :
    Does (.railFault t rail mv x) s ((s.adv t).railFall rail mv) := by
  change execRailFault t rail mv x s = _
  refine (if_neg (ne_true_of_eq_false hstays)).trans (happen_eq hon (if_neg (not_or.2 ⟨Nat.not_le.2 hrail, ?_⟩)))
  rw [hpowered]
  decide

theorem vholdCapEstimate_suffices {t fromMv us : Nat} {s : State} (hon : Powered s) (hfrom : fromMv ≤ 2500) (hcap :
  (s.adv t).rd PIN_VHOLD.CAP_UF = 0) (henough : 120 ≤ 20 * us / (3000 - max 1000 fromMv)) :
    Does (.vholdCapEstimate t fromMv us) s ((s.adv t).wr PIN_VHOLD.CAP_UF (min 0xFFFF (20 * us / (3000 - max 1000
      fromMv)))) := by
  change execVholdCapEstimate t fromMv us s = _
  exact happen_eq hon ((if_neg (capFresh hfrom hcap)).trans (if_neg (Nat.not_lt.2 henough)))

theorem vholdCapEstimate_tooLow {t fromMv us : Nat} {s : State} (hon : Powered s) (hfrom : fromMv ≤ 2500) (hcap :
  (s.adv t).rd PIN_VHOLD.CAP_UF = 0) (hlow : 20 * us / (3000 - max 1000 fromMv) < 120) :
    Does (.vholdCapEstimate t fromMv us) s ((((((s.adv t).wr PIN_VHOLD.CAP_UF (min 0xFFFF (20 * us / (3000 - max 1000
      fromMv)))).wr PIN_VHOLD.CAP_LOW 1).irq PIN_IRQ_STAT.CAP_LOW).pinEvent 5 0).archiveEvent 0x17 0 (5 * 2 ^ 28)) := by
  change execVholdCapEstimate t fromMv us s = _
  exact happen_eq hon ((if_neg (capFresh hfrom hcap)).trans (if_pos hlow))

theorem xtal_ofReferenceOutside {t : Nat} {ppm : Int} {s : State} (hon : Powered s) :
    Does (.xtal t 0 ppm false) s ((((((s.adv t).wr PIN_XTAL_REF.PPM (satSigned 16 ppm)).flag PIN_XTAL_REF.OK
      false).bump PIN_CNT_XTAL.COUNT).irq PIN_IRQ_STAT.XTAL).pinEvent 2 0) := by
  change execXtal t 0 ppm false s = _
  unfold execXtal
  refine happen_eq hon ?_
  simp only [if_true, Bool.false_eq_true, if_false, Nat.zero_min]

theorem xtal_ofAonWithin {t crystal : Nat} {ppm : Int} {s : State} (hon : Powered s) (hcrystal : crystal ≠ 0) :
    Does (.xtal t crystal ppm true) s (((s.adv t).wr PIN_XTAL_AON.PPM (satSigned 16 ppm)).flag PIN_XTAL_AON.OK true) := by
  change execXtal t crystal ppm true s = _
  unfold execXtal
  refine happen_eq hon ?_
  simp only [if_true]
  exact if_neg hcrystal

/-- Settles O26: row by row, by the mode of the bus, the monitor's state and the rail that each finds. -/
theorem managementAndMonitorCommandsTakeEffect : Obligations.ManagementAndMonitorCommandsTakeEffect := by
  unfold Obligations.ManagementAndMonitorCommandsTakeEffect
  exact ⟨fun _ _ _ _ _ => writeTransfer_i3c, fun _ _ _ => writeTransfer_legacy, fun _ _ _ _ => readTransfer_legacy,
    fun _ _ _ _ => readTransfer_i3c, fun _ _ _ => enec_enables, fun _ _ _ => disec_disables,
    fun _ _ => rstdaa_clears, fun _ _ _ => entdaa_assigns, fun _ _ _ => setdasa_assigns, fun _ _ => getCodes_send,
    fun _ _ => hotJoin_requests, fun _ _ => alertResponse_releases, fun _ _ _ => envBufWrite_writes,
    fun _ _ _ => mgtEnvSubmit_submits, fun _ _ _ => recon_resets, fun _ _ _ _ => temp_reads,
    fun _ _ => monitorLines_take, fun _ _ _ => lineTimeout_counts, fun _ _ _ => monitorGrantEnd_ends,
    fun _ _ _ _ _ => railFault_resets, fun _ _ _ _ _ => railFault_counts, fun _ _ _ => rfl,
    fun _ _ _ _ => vholdCapEstimate_suffices, fun _ _ _ _ => vholdCapEstimate_tooLow,
    fun _ _ _ => xtal_ofReferenceOutside, fun _ _ _ _ => xtal_ofAonWithin⟩

end Sys2Proof.Machine
end
